-- ==== Sys2Proof/Word.lean ====
section
/-! DEFINITION. The words of the CX640 model: a byte, a byte string, and the register widths (R15: registers are
32 bits wide and little-endian). -/

namespace Sys2Proof

/-- One byte. -/
abbrev Byte := BitVec 8

/-- A byte string, first byte first. -/
abbrev Bytes := List Byte

/-- A register word (R15). -/
abbrev W32 := BitVec 32

/-- A 64-bit quantity: a key handle (R181), a MRAM or host address, a Zynkel register. -/
abbrev W64 := BitVec 64

/-- A 128-bit quantity: a cipher block, a device identity. -/
abbrev W128 := BitVec 128

end Sys2Proof
end

