-- ==== Sys2Proof/Syntax/Types.lean ====
section
/-! DEFINITION. The operand types of the commands: who sends an access, a submission descriptor with the host memory
it names as the device reads it, where an engine operation comes from, and a Zynkel instruction's fields. -/

namespace Sys2Proof

/-- The two worlds of a worker core (R345). -/
inductive World where
  | normal
  | secure
  deriving DecidableEq, Repr

/-- Who makes a register access (R447, R458: several registers are banked per initiator). -/
inductive Initiator where
  | supervisor (b : Bool)
  | worker (n : Nat) (w : World)
  | host (portB : Bool)
  | debug (w : World)
  deriving DecidableEq, Repr

/-- The four engine units of R63, in the order of the unit codes of R101 and R127. -/
inductive EngUnit where
  | cal
  | srg
  | tul
  | hsh
  deriving DecidableEq, Repr

/-- A scatter list entry (R98). -/
structure Sge where
  addr : W64
  len : Nat
  flags : Nat
  deriving DecidableEq, Repr

/-- A submission descriptor (R97), its reserved bits kept so that they can be checked. -/
structure Desc where
  opcode : Nat
  flags : BitVec 16
  cid : W32
  /-- The whole CTX word: context number [19:0], zero [30:20], CTXV [31]. -/
  ctx : W32
  tmoUs : Nat
  rsvd : Nat
  key0 : W64
  key1 : W64
  inAddr : W64
  outAddr : W64
  inLen : Nat
  outLen : Nat
  param : W64
  deriving DecidableEq, Repr

/-- Where a command comes from: a ring entry of a tenant's queue pair, a worker's mailbox on behalf of a tenant
(R125, R246), or another device of the fabric (R476). -/
inductive Src where
  | host (tenant qp sqIdx : Nat)
  | mailbox (worker tenant : Nat) (unit : Nat)
  | fabric (addr id tenant : Nat)
  deriving DecidableEq, Repr

/-- A submission as the device sees it: the descriptor, the bytes of its input buffer, its scatter lists, and whether the
host's buffers (R102 reason 0x26) and the place of its completion record (R118) can be reached. -/
structure Req where
  src : Src
  desc : Desc
  input : Bytes
  inSgl : List Sge
  outSgl : List Sge
  inOk : Bool
  outOk : Bool
  cqOk : Bool
  deriving DecidableEq, Repr

/-- Where an engine operation comes from: a raw command, or a dispatched step of a recipe instance. -/
inductive EngSrc where
  | raw (r : Req)
  | step (inst step : Nat)
  deriving DecidableEq, Repr

/-- A place in the register space: a device address (R15), an offset of a tenant's BAR0 page or of BAR2 (R86, R87). -/
inductive RegPlace where
  | dev (addr : Nat)
  | bar0 (portB : Bool) (off : Nat)
  | bar2 (portB : Bool) (off : Nat)
  deriving DecidableEq, Repr

/-- The operand fields of a Zynkel instruction word (R317): guard sense and predicate, destination, sources,
immediate. -/
structure ZArgs where
  gn : Bool
  gp : Nat
  rd : Nat
  rs1 : Nat
  rs2 : Nat
  imm : BitVec 32
  deriving DecidableEq, Repr

/-- A second operation of a paired Zynkel word (R317, R319): its 6-bit opcode and fields. -/
structure ZMate where
  opc : Nat
  args : ZArgs
  deriving DecidableEq, Repr

/-- How a Zynkel operation stands in its word: alone in a long word, in slot X beside `mate` in slot Y, or in slot Y
beside `mate` in slot X. -/
inductive ZForm where
  | long
  | slotX (mate : ZMate)
  | slotY (mate : ZMate)
  deriving DecidableEq, Repr

/-- A Zynkel instruction word (R317): one long operation, or a pair with its bit 62 and the slots X and Y. -/
inductive ZWord where
  | long (op : ZMate)
  | paired (bit62 : Bool) (x y : ZMate)
  deriving DecidableEq, Repr

/-- A Bilkin frame as received on a link (R460). -/
structure Frame where
  ftype : Nat
  flags : BitVec 8
  dst : Nat
  src : Nat
  ttl : Nat
  frag : BitVec 8
  ctr : W32
  payload : Bytes
  tag : Bytes
  deriving DecidableEq, Repr

/-- What a HELLO frame carries (R464). -/
structure Hello where
  ident : W128
  cert : Bytes
  fabric : W64
  unit : Nat
  eligible : Bool
  nonce : Bytes
  deriving DecidableEq, Repr

/-- A link-state advertisement (R469). -/
structure Lsa where
  ident : W128
  addr : Option Nat
  unit : Nat
  requested : Nat
  eligible : Bool
  part : Nat
  groups : W64
  replica : Nat
  peers : List W128
  stamp : Nat
  deriving DecidableEq, Repr

/-- The tenant a submission acts for. -/
def Src.tenant : Src → Nat
  | .host t _ _ => t
  | .mailbox _ t _ => t
  | .fabric _ _ t => t

/-- The tenant a submission acts for. -/
def Req.tenant (r : Req) : Nat := r.src.tenant

/-- The number of an engine unit: its code in R101 and R127. -/
def EngUnit.code : EngUnit → Nat
  | .cal => 0
  | .srg => 1
  | .tul => 2
  | .hsh => 3

/-- The results of both known-answer tests of a start-up attempt: the conditioner's and the expander's (R306, R313). -/
structure KatResult where
  cond : Bool
  exp : Bool
  deriving DecidableEq, Repr

end Sys2Proof
end

