-- ==== Sys2Proof/Syntax.lean ====
section
/-! DEFINITION. The commands of the block, one constructor per row of the table (file 95 lists them): what arrives
at its pins, ports and registers, the indivisible steps of its own sequencers, and the instructions its cores
issue. Operands are what the row's rule says the step is given. -/

namespace Sys2Proof

/-- A command of the CX640. -/
inductive Instr where
  /-- VIN_VALID (R26). -/
  | vinValid
  /-- MAIN_DOMAIN_START (R26). -/
  | mainDomainStart (romOk : Bool)
  /-- VIN_LOSS (R19). -/
  | vinLoss
  /-- RESET_N (R24). -/
  | resetN (lowNs : Nat)
  /-- OSCILLATOR_CALIBRATION (R22). -/
  | oscillatorCalibration
  /-- CELL_INSERTED (R13). -/
  | cellInserted
  /-- HOLDUP_CHARGED (R500). -/
  | holdupCharged
  /-- USB2_ATTACH (R30). -/
  | usb2Attach (portB : Bool)
  /-- USB4_LINK_UP (R118). -/
  | usb4LinkUp (portB : Bool) (gen : Nat) (x2 : Bool) (depth : Nat)
  /-- USB4_LINK_LOSS (R118). -/
  | usb4LinkLoss (portB : Bool)
  /-- FW_DOWNLOAD_GO (R31). -/
  | fwDownloadGo
  /-- USB2_FW_TRANSFER (R31). -/
  | usb2FwTransfer (portB : Bool)
  /-- FW_IMAGE_RECEIVED (R38). -/
  | fwImageReceived (image : Bytes)
  /-- FW_DOWNLOAD_FAILURE (R32). -/
  | fwDownloadFailure
  /-- STRUCTURE_IMAGE_APPLIED (R77). -/
  | structureImageApplied
  /-- LOAD_ROOT_GENERATE (R427). -/
  | loadRootGenerate
  /-- LOAD_END (R47). -/
  | loadEnd
  /-- DOWNSTREAM_ROUTER_ATTACH (R121). -/
  | downstreamRouterAttach (colrid : Bool)
  /-- THERMAL_TRIP (R54). -/
  | thermalTrip (sensor reading : Nat)
  /-- THERMAL_TRIP_ABORT (R54). -/
  | thermalTripAbort (isl : Nat)
  /-- THERMAL_HOLD_CHECK (R54). -/
  | thermalHoldCheck (reading : Nat)
  /-- PWR_TRIPPED_CLEAR (R54). -/
  | pwrTrippedClear (who : Initiator) (mask : BitVec 19)
  /-- PWR_LEASE_WRITE (R51). -/
  | pwrLeaseWrite (who : Initiator) (held : BitVec 19)
  /-- ISLAND_RUN (R61). -/
  | islandRun (w : World) (isl : Nat)
  /-- ISLAND_CLOCK_GATE (R52). -/
  | islandClockGate (w : World) (isl : Nat)
  /-- ISLAND_POWER_GATE (R52). -/
  | islandPowerGate (w : World) (isl : Nat)
  /-- ISLAND_GATE_DONE (R53). -/
  | islandGateDone (isl : Nat)
  /-- MODEREQ_DRAIN (R48). -/
  | modereqDrain (value : W32)
  /-- DRAIN_LIMIT_EXPIRY (R49). -/
  | drainLimitExpiry
  /-- DRAIN_TO_OFF (R49). -/
  | drainToOff
  /-- DRAIN_TO_LOAD (R49). -/
  | drainToLoad
  /-- DRAIN_TO_BOOT (R49). -/
  | drainToBoot (romOk : Bool)
  /-- REGISTER_WRITE (R16). -/
  | registerWrite (who : Initiator) (p : RegPlace) (v : W32) (hi : Option W32)
  /-- RWP_COMPLEMENT_TIMEOUT (R17). -/
  | rwpComplementTimeout (addr : Nat)
  /-- BROADCAST_WRITE (R18). -/
  | broadcastWrite (who : Initiator) (addr : Nat) (v : W32)
  /-- PCIE_FUNCTION_RESET (R89). -/
  | pcieFunctionReset (portB : Bool)
  /-- DB_QCTL_ENABLE (R94). -/
  | dbQctlEnable (portB : Bool) (t q : Nat) (v : W32)
  /-- DB_QCTL_DISABLE (R94). -/
  | dbQctlDisable (portB : Bool) (t q : Nat) (v : W32)
  /-- DB_SQTAIL_WRITE (R91). -/
  | dbSqtailWrite (t q : Nat) (v : W32)
  /-- DB_CQHEAD_WRITE (R92). -/
  | dbCqheadWrite (t q : Nat) (v : W32)
  /-- DB_TRESET_WRITE (R117). -/
  | dbTresetWrite (t : Nat) (v : W32)
  /-- SQ_ENTRY_CONSUME (R104). -/
  | sqEntryConsume (t q : Nat) (entry : Option Req)
  /-- SUPERVISOR_CYCLE (R106). -/
  | supervisorCycle
  /-- COMPLETION_ITIME_EXPIRY (R94). -/
  | completionItimeExpiry (t q : Nat)
  /-- OVERLOAD_RECORD (R111). -/
  | overloadRecord (t : Nat)
  /-- TENANT_CREATE (R114). -/
  | tenantCreate (r : Req)
  /-- TENANT_DESTROY (R116). -/
  | tenantDestroy (r : Req)
  /-- TENANT_RESET (R117). -/
  | tenantReset (r : Req)
  /-- TENANT_QUERY (R113). -/
  | tenantQuery (r : Req)
  /-- TENANT_LIST (R113). -/
  | tenantList (r : Req)
  /-- IMAGE_QUERY (R78). -/
  | imageQuery (r : Req)
  /-- IMAGE_CHALLENGE (R79). -/
  | imageChallenge (r : Req)
  /-- IMAGE_BEGIN (R80). -/
  | imageBegin (r : Req) (seq len : Nat)
  /-- IMAGE_DATA (R80). -/
  | imageData (r : Req) (off : Nat)
  /-- IMAGE_COMMIT (R81). -/
  | imageCommit (r : Req)
  /-- REPLICA_RETRY (R85). -/
  | replicaRetry (addr : Nat)
  /-- IMAGE_ABORT (R82). -/
  | imageAbort (r : Req)
  /-- IMAGE_READ (R78). -/
  | imageRead (r : Req) (slot off len : Nat)
  /-- IMAGE_APPLY (R84). -/
  | imageApply (r : Req)
  /-- IMAGE_SESSION_TIMEOUT (R82). -/
  | imageSessionTimeout
  /-- IMAGE_CHALLENGE_LAPSE (R79). -/
  | imageChallengeLapse
  /-- RECIPE_RUN (R122). -/
  | recipeRun (r : Req)
  /-- RECIPE_LOADING_DONE (R133). -/
  | recipeLoadingDone (n : Nat)
  /-- STEP_DISPATCH (R135). -/
  | stepDispatch (n st : Nat)
  /-- STEP_RESOLVE (R132). -/
  | stepResolve (n st : Nat)
  /-- RECIPE_TIMEOUT (R139). -/
  | recipeTimeout (n : Nat)
  /-- TWILL_MASK_RESEED (R134). -/
  | twillMaskReseed
  /-- TWILL_SUSPENSION_REQUEST (R138). -/
  | twillSuspensionRequest (n st : Nat)
  /-- PAN_EXTRACT (R131). -/
  | panExtract (n st : Nat)
  /-- PINB_PARSE (R131). -/
  | pinbParse (n st : Nat)
  /-- PINB_BUILD (R131). -/
  | pinbBuild (n st : Nat)
  /-- DECIMALISE (R131). -/
  | decimalise (n st : Nat)
  /-- DIGIT_SELECT (R131). -/
  | digitSelect (n st : Nat)
  /-- PAD (R131). -/
  | pad (n st : Nat)
  /-- COMPARE (R131). -/
  | compare (n st : Nat)
  /-- BRANCH (R131). -/
  | branch (n st : Nat)
  /-- CHILD (R183). -/
  | child (n st : Nat)
  /-- KEYBLOCK_IMPORT (R165). -/
  | keyblockImport (r : Req)
  /-- KEYBLOCK_EXPORT (R166). -/
  | keyblockExport (r : Req)
  /-- KEY_CHECK_VALUE (R167). -/
  | keyCheckValue (r : Req)
  /-- NODE_CREATE (R178). -/
  | nodeCreate (r : Req)
  /-- NODE_DELETE (R203). -/
  | nodeDelete (r : Req)
  /-- NODE_QUERY (R203). -/
  | nodeQuery (r : Req)
  /-- KEY_GENERATE (R203). -/
  | keyGenerate (r : Req)
  /-- LEAF_DELETE (R203). -/
  | leafDelete (r : Req)
  /-- LEAF_RETIRE (R195). -/
  | leafRetire (r : Req)
  /-- PUBKEY_READ (R203). -/
  | pubkeyRead (r : Req)
  /-- COUNTER_QUERY (R182). -/
  | counterQuery (r : Req)
  /-- CTX_INIT (R203). -/
  | ctxInit (r : Req)
  /-- CTX_CLEAR (R203). -/
  | ctxClear (r : Req)
  /-- CTX_EXPORT (R205). -/
  | ctxExport (r : Req)
  /-- CTX_IMPORT (R206). -/
  | ctxImport (r : Req)
  /-- CTX_QUERY (R203). -/
  | ctxQuery (r : Req)
  /-- DMK_LOCK_WRITE (R210). -/
  | dmkLockWrite (who : Initiator) (lock : Bool)
  /-- DMK_FLUSH_TENANT (R188). -/
  | dmkFlushTenant (who : Initiator) (t : Nat)
  /-- DMK_FLUSH_ALL (R188). -/
  | dmkFlushAll (who : Initiator)
  /-- CAL_ENCRYPT (R223). -/
  | calEncrypt (r : Req)
  /-- CAL_DECRYPT (R224). -/
  | calDecrypt (r : Req)
  /-- CAL_MAC_GEN (R223). -/
  | calMacGen (r : Req)
  /-- CAL_MAC_VER (R223). -/
  | calMacVer (r : Req)
  /-- ECB_ENC (R228). -/
  | ecbEnc (n st : Nat)
  /-- ECB_DEC (R228). -/
  | ecbDec (n st : Nat)
  /-- CBC_ENC (R228). -/
  | cbcEnc (n st : Nat)
  /-- CBC_DEC (R228). -/
  | cbcDec (n st : Nat)
  /-- CBC_MAC (R228). -/
  | cbcMac (n st : Nat)
  /-- CMAC (R228). -/
  | cmac (n st : Nat)
  /-- GCM_SEAL (R228). -/
  | gcmSeal (n st : Nat)
  /-- GCM_OPEN (R228). -/
  | gcmOpen (n st : Nat)
  /-- CAL_MESSAGE_END (R235). -/
  | calMessageEnd (n : Nat)
  /-- CAL_SUSPEND (R232). -/
  | calSuspend (n : Nat)
  /-- CAL_SUSPENSION_OVERFLOW (R236). -/
  | calSuspensionOverflow (n : Nat)
  /-- CAL_FAULT (R242). -/
  | calFault (n check : Nat)
  /-- CAL_SELFTEST (R243). -/
  | calSelftest (n : Nat) (pass : Bool) (vector : Nat)
  /-- CAL_SELFTEST_STARVE (R243). -/
  | calSelftestStarve (n : Nat)
  /-- CAL_SELFTEST_REQUEST (R243). -/
  | calSelftestRequest (who : Initiator) (n : Nat)
  /-- CAL_RESEED (R239). -/
  | calReseed (n : Nat)
  /-- CAL_RESEED_STALL (R241). -/
  | calReseedStall (n : Nat)
  /-- CAL_FENCE (R247). -/
  | calFence (who : Initiator) (n : Nat)
  /-- CAL_FENCE_LIFT (R247). -/
  | calFenceLift (who : Initiator) (n : Nat)
  /-- CAL_CLEAR_BLK (R247). -/
  | calClearBlk (who : Initiator) (n : Nat)
  /-- CAL_CLEAR_SUSP (R247). -/
  | calClearSusp (who : Initiator) (n : Nat)
  /-- CAL_CLEAR_FAULT (R247). -/
  | calClearFault (who : Initiator) (n : Nat)
  /-- MOD_MUL (R263). -/
  | modMul (e : EngSrc)
  /-- MOD_EXP (R263). -/
  | modExp (e : EngSrc)
  /-- MOD_EXP_PUB (R263). -/
  | modExpPub (e : EngSrc)
  /-- MOD_INV (R257). -/
  | modInv (e : EngSrc)
  /-- RSA_SIGN (R263). -/
  | rsaSign (e : EngSrc)
  /-- RSA_VERIFY (R257). -/
  | rsaVerify (e : EngSrc)
  /-- RSA_DECRYPT (R257). -/
  | rsaDecrypt (e : EngSrc)
  /-- ECDSA_SIGN (R263). -/
  | ecdsaSign (e : EngSrc)
  /-- ECDSA_VERIFY (R257). -/
  | ecdsaVerify (e : EngSrc)
  /-- ECDH (R250). -/
  | ecdh (e : EngSrc)
  /-- EDDSA_SIGN (R263). -/
  | eddsaSign (e : EngSrc)
  /-- EDDSA_VERIFY (R254). -/
  | eddsaVerify (e : EngSrc)
  /-- XDH (R263). -/
  | xdh (e : EngSrc)
  /-- SERGE_PUBKEY (R267). -/
  | sergePubkey (e : EngSrc)
  /-- PRIME_TEST (R267). -/
  | primeTest (n : Nat)
  /-- ED_PREFIX (R266). -/
  | edPrefix (n st : Nat)
  /-- ED_COMMIT (R266). -/
  | edCommit (n st : Nat)
  /-- ED_FINISH (R266). -/
  | edFinish (n st : Nat)
  /-- SERGE_OPERATION_END (R264). -/
  | sergeOperationEnd (n : Nat)
  /-- SERGE_FAULT (R261). -/
  | sergeFault (n check : Nat)
  /-- SERGE_SELFTEST (R272). -/
  | sergeSelftest (n : Nat) (pass : Bool) (vector : Nat)
  /-- SERGE_SELFTEST_STARVE (R272). -/
  | sergeSelftestStarve (n : Nat)
  /-- SERGE_SELFTEST_REQUEST (R272). -/
  | sergeSelftestRequest (who : Initiator) (n : Nat)
  /-- SERGE_RESEED (R260). -/
  | sergeReseed (n : Nat)
  /-- SERGE_RESEED_STALL (R260). -/
  | sergeReseedStall (n : Nat)
  /-- SERGE_FENCE (R273). -/
  | sergeFence (who : Initiator) (n : Nat)
  /-- SERGE_FENCE_LIFT (R273). -/
  | sergeFenceLift (who : Initiator) (n : Nat)
  /-- SERGE_CLEAR_CYC (R273). -/
  | sergeClearCyc (who : Initiator) (n : Nat)
  /-- SERGE_CLEAR_OPS (R273). -/
  | sergeClearOps (who : Initiator) (n : Nat)
  /-- SERGE_CLEAR_FAULT (R273). -/
  | sergeClearFault (who : Initiator) (n : Nat)
  /-- MLKEM_ENCAPS (R278). -/
  | mlkemEncaps (e : EngSrc)
  /-- MLKEM_DECAPS (R278). -/
  | mlkemDecaps (e : EngSrc)
  /-- MLDSA_SIGN (R282). -/
  | mldsaSign (e : EngSrc)
  /-- MLDSA_VERIFY (R281). -/
  | mldsaVerify (e : EngSrc)
  /-- COMP_SIGN (R280). -/
  | compSign (e : EngSrc)
  /-- COMP_VERIFY (R280). -/
  | compVerify (e : EngSrc)
  /-- TULLE_PUBKEY (R275). -/
  | tullePubkey (e : EngSrc)
  /-- MLDSA_TR (R289). -/
  | mldsaTr (n st : Nat)
  /-- MLDSA_SIGN_MU (R289). -/
  | mldsaSignMu (n st : Nat)
  /-- TULLE_OPERATION_END (R288). -/
  | tulleOperationEnd (n : Nat)
  /-- TULLE_FAULT (R286). -/
  | tulleFault (n check : Nat)
  /-- TULLE_SELFTEST (R293). -/
  | tulleSelftest (n : Nat) (pass : Bool) (vector : Nat)
  /-- TULLE_SELFTEST_STARVE (R293). -/
  | tulleSelftestStarve (n : Nat)
  /-- TULLE_SELFTEST_REQUEST (R293). -/
  | tulleSelftestRequest (who : Initiator) (n : Nat)
  /-- TULLE_RESEED (R284). -/
  | tulleReseed (n : Nat)
  /-- TULLE_FENCE (R299). -/
  | tulleFence (who : Initiator) (n : Nat)
  /-- TULLE_FENCE_LIFT (R299). -/
  | tulleFenceLift (who : Initiator) (n : Nat)
  /-- TULLE_CLEAR_CYC (R299). -/
  | tulleClearCyc (who : Initiator) (n : Nat)
  /-- TULLE_CLEAR_OPS (R299). -/
  | tulleClearOps (who : Initiator) (n : Nat)
  /-- TULLE_CLEAR_FAULT (R299). -/
  | tulleClearFault (who : Initiator) (n : Nat)
  /-- HASH (R296). -/
  | hash (r : Req)
  /-- HMAC_GEN (R296). -/
  | hmacGen (r : Req)
  /-- HMAC_VER (R296). -/
  | hmacVer (r : Req)
  /-- HASH_STEP (R297). -/
  | hashStep (n st : Nat)
  /-- HMAC_STEP (R297). -/
  | hmacStep (n st : Nat)
  /-- HASH_OPERATION_END (R298). -/
  | hashOperationEnd (n : Nat)
  /-- HASH_FAULT (R298). -/
  | hashFault (n check : Nat)
  /-- HASH_SELFTEST (R298). -/
  | hashSelftest (n : Nat) (pass : Bool) (vector : Nat)
  /-- HASH_SELFTEST_STARVE (R298). -/
  | hashSelftestStarve (n : Nat)
  /-- HASH_SELFTEST_REQUEST (R299). -/
  | hashSelftestRequest (who : Initiator) (n : Nat)
  /-- HASH_RESEED (R298). -/
  | hashReseed (n : Nat)
  /-- HASH_FENCE (R299). -/
  | hashFence (who : Initiator) (n : Nat)
  /-- HASH_FENCE_LIFT (R299). -/
  | hashFenceLift (who : Initiator) (n : Nat)
  /-- HASH_CLEAR_BLK (R299). -/
  | hashClearBlk (who : Initiator) (n : Nat)
  /-- HASH_CLEAR_OPS (R299). -/
  | hashClearOps (who : Initiator) (n : Nat)
  /-- HASH_CLEAR_FAULT (R299). -/
  | hashClearFault (who : Initiator) (n : Nat)
  /-- ENT_STARTUP_ATTEMPT_END (R306). -/
  | entStartupAttemptEnd (failed : BitVec 128) (katOk : KatResult)
  /-- LEGACY_STARTUP_COMPLETE (R301). -/
  | legacyStartupComplete
  /-- HEALTH_TEST_FAILURE (R311). -/
  | healthTestFailure (stream test count : Nat)
  /-- RETEST_COMPLETE (R311). -/
  | retestComplete
  /-- EXPANDER_RESEED (R309). -/
  | expanderReseed
  /-- SEED_POOL_FULL (R303). -/
  | seedPoolFull
  /-- ENT_READ_RELEASE (R312). -/
  | entReadRelease (k : Nat)
  /-- ENT_DATA_READ (R316). -/
  | entDataRead (who : Initiator)
  /-- KAT_PERIODIC (R313). -/
  | katPeriodic
  /-- CONDITIONER_KAT (R313). -/
  | conditionerKat (pass : Bool)
  /-- EXPANDER_KAT (R313). -/
  | expanderKat (pass : Bool)
  /-- EXPANDER_KAT_FORCE (R313). -/
  | expanderKatForce (pass : Bool)
  /-- RAW_CAPTURE (R314). -/
  | rawCapture (who : Initiator) (v : W32)
  /-- RAW_CAPTURE_DONE (R314). -/
  | rawCaptureDone (samples : Bytes)
  /-- RANDOM_GENERATE (R315). -/
  | randomGenerate (r : Req)
  /-- NOP (R344). -/
  | nop (core : Nat) (f : ZForm) (a : ZArgs)
  /-- ADD (R344). -/
  | add (core : Nat) (f : ZForm) (a : ZArgs)
  /-- SUB (R344). -/
  | sub (core : Nat) (f : ZForm) (a : ZArgs)
  /-- AND (R344). -/
  | and (core : Nat) (f : ZForm) (a : ZArgs)
  /-- OR (R344). -/
  | or (core : Nat) (f : ZForm) (a : ZArgs)
  /-- XOR (R344). -/
  | xor (core : Nat) (f : ZForm) (a : ZArgs)
  /-- SHL (R344). -/
  | shl (core : Nat) (f : ZForm) (a : ZArgs)
  /-- SHR (R344). -/
  | shr (core : Nat) (f : ZForm) (a : ZArgs)
  /-- SAR (R344). -/
  | sar (core : Nat) (f : ZForm) (a : ZArgs)
  /-- ADDI (R344). -/
  | addi (core : Nat) (f : ZForm) (a : ZArgs)
  /-- ANDI (R344). -/
  | andi (core : Nat) (f : ZForm) (a : ZArgs)
  /-- SHLI (R344). -/
  | shli (core : Nat) (f : ZForm) (a : ZArgs)
  /-- SHRI (R344). -/
  | shri (core : Nat) (f : ZForm) (a : ZArgs)
  /-- SARI (R344). -/
  | sari (core : Nat) (f : ZForm) (a : ZArgs)
  /-- ROTRI (R344). -/
  | rotri (core : Nat) (f : ZForm) (a : ZArgs)
  /-- MOVI (R344). -/
  | movi (core : Nat) (f : ZForm) (a : ZArgs)
  /-- CMPEQ (R323). -/
  | cmpeq (core : Nat) (f : ZForm) (a : ZArgs)
  /-- CMPNE (R323). -/
  | cmpne (core : Nat) (f : ZForm) (a : ZArgs)
  /-- CMPLT (R323). -/
  | cmplt (core : Nat) (f : ZForm) (a : ZArgs)
  /-- CMPLTU (R323). -/
  | cmpltu (core : Nat) (f : ZForm) (a : ZArgs)
  /-- CMPEQI (R323). -/
  | cmpeqi (core : Nat) (f : ZForm) (a : ZArgs)
  /-- CMPLTI (R323). -/
  | cmplti (core : Nat) (f : ZForm) (a : ZArgs)
  /-- CMPLTUI (R323). -/
  | cmpltui (core : Nat) (f : ZForm) (a : ZArgs)
  /-- PAND (R323). -/
  | pand (core : Nat) (f : ZForm) (a : ZArgs)
  /-- POR (R323). -/
  | por (core : Nat) (f : ZForm) (a : ZArgs)
  /-- PXOR (R323). -/
  | pxor (core : Nat) (f : ZForm) (a : ZArgs)
  /-- MUL (R326). -/
  | mul (core : Nat) (f : ZForm) (a : ZArgs)
  /-- MULH (R326). -/
  | mulh (core : Nat) (f : ZForm) (a : ZArgs)
  /-- MAC (R326). -/
  | mac (core : Nat) (f : ZForm) (a : ZArgs)
  /-- MULTIPLIER_WRITE (R327). -/
  | multiplierWrite (core : Nat)
  /-- MGETL (R344). -/
  | mgetl (core : Nat) (f : ZForm) (a : ZArgs)
  /-- MGETH (R344). -/
  | mgeth (core : Nat) (f : ZForm) (a : ZArgs)
  /-- BSWAP (R344). -/
  | bswap (core : Nat) (f : ZForm) (a : ZArgs)
  /-- SHORI (R344). -/
  | shori (core : Nat) (a : ZArgs)
  /-- LD8 (R329). -/
  | ld8 (core : Nat) (a : ZArgs) (busy : Bool)
  /-- LD16 (R329). -/
  | ld16 (core : Nat) (a : ZArgs) (busy : Bool)
  /-- LD32 (R329). -/
  | ld32 (core : Nat) (f : ZForm) (a : ZArgs) (busy : Bool)
  /-- LD64 (R329). -/
  | ld64 (core : Nat) (f : ZForm) (a : ZArgs) (busy : Bool)
  /-- LDS8 (R329). -/
  | lds8 (core : Nat) (a : ZArgs) (busy : Bool)
  /-- LDS16 (R329). -/
  | lds16 (core : Nat) (a : ZArgs) (busy : Bool)
  /-- LDS32 (R329). -/
  | lds32 (core : Nat) (a : ZArgs) (busy : Bool)
  /-- ST8 (R330). -/
  | st8 (core : Nat) (a : ZArgs)
  /-- ST16 (R330). -/
  | st16 (core : Nat) (a : ZArgs)
  /-- ST32 (R330). -/
  | st32 (core : Nat) (f : ZForm) (a : ZArgs)
  /-- ST64 (R330). -/
  | st64 (core : Nat) (f : ZForm) (a : ZArgs)
  /-- STORE_RETIRE (R330). -/
  | storeRetire (core : Nat) (busy : Bool)
  /-- STORE_FAULT (R332). -/
  | storeFault (core : Nat)
  /-- BR (R344). -/
  | br (core : Nat) (a : ZArgs)
  /-- BRL (R344). -/
  | brl (core : Nat) (a : ZArgs)
  /-- JR (R344). -/
  | jr (core : Nat) (a : ZArgs)
  /-- JRL (R344). -/
  | jrl (core : Nat) (a : ZArgs)
  /-- CRD (R343). -/
  | crd (core : Nat) (a : ZArgs)
  /-- CWR (R343). -/
  | cwr (core : Nat) (a : ZArgs)
  /-- SCALL (R334). -/
  | scall (core : Nat) (a : ZArgs)
  /-- SRET (R335). -/
  | sret (core : Nat) (a : ZArgs)
  /-- TRET (R340). -/
  | tret (core : Nat) (a : ZArgs)
  /-- MSUB (R337). -/
  | msub (core : Nat) (a : ZArgs)
  /-- MAILBOX_COMPLETION (R337). -/
  | mailboxCompletion (core unit : Nat)
  /-- WFE (R338). -/
  | wfe (core : Nat) (a : ZArgs)
  /-- WFE_WAKE (R338). -/
  | wfeWake (core : Nat)
  /-- FENCE (R330). -/
  | fence (core : Nat) (a : ZArgs)
  /-- BRK (R339). -/
  | brk (core : Nat) (a : ZArgs)
  /-- INTERRUPT_ENTRY (R341). -/
  | interruptEntry (core : Nat)
  /-- GP_EDGE (R349). -/
  | gpEdge (pin : Nat)
  /-- SECURE_WATCHDOG_EXPIRY (R351). -/
  | secureWatchdogExpiry (n : Nat)
  /-- SUPV_SWCTL_DOWN (R350). -/
  | supvSwctlDown (who : Initiator) (n : Nat)
  /-- SECURE_RESTART_PENDING (R352). -/
  | secureRestartPending (n : Nat)
  /-- SUPV_SWBEAT (R351). -/
  | supvSwbeat (who : Initiator) (n : Nat)
  /-- BATCH_PRESENT (R359). -/
  | batchPresent (b : Bool) (delta : Bytes)
  /-- SUPERVISOR_CHECK_FAILURE (R361). -/
  | supervisorCheckFailure (b : Bool) (check : Nat)
  /-- SUPERVISOR_SELFTEST_DONE (R361). -/
  | supervisorSelftestDone (b pass : Bool)
  /-- MISSED_BATCH_TAKEOVER (R362). -/
  | missedBatchTakeover (delta : Bytes)
  /-- SUPV_CTL_GIVEUP (R361). -/
  | supvCtlGiveup (b : Bool)
  /-- SUPV_CTL_FENCE_A (R367). -/
  | supvCtlFenceA (who : Initiator) (on : Bool)
  /-- SUPV_CTL_FENCE_B (R367). -/
  | supvCtlFenceB (who : Initiator) (on : Bool)
  /-- SUPV_WCOL_WRITE (R347). -/
  | supvWcolWrite (who : Initiator) (n : Nat) (v : W32)
  /-- SUPV_PINW_WRITE (R348). -/
  | supvPinwWrite (who : Initiator) (v : BitVec 16)
  /-- SUPV_IRQW_WRITE (R349). -/
  | supvIrqwWrite (who : Initiator) (n : Nat) (v : W32)
  /-- SUPV_SWI (R349). -/
  | supvSwi (who : Initiator) (core line : Nat)
  /-- MEM_INIT (R372). -/
  | memInit (who : Initiator) (v : W32)
  /-- MEM_INIT_DONE (R372). -/
  | memInitDone
  /-- SCRUB_VISIT (R379). -/
  | scrubVisit (bank : Nat)
  /-- SCRUB_FORCE (R380). -/
  | scrubForce (cls : Nat)
  /-- REGION_TEST (R381). -/
  | regionTest (addr : Nat) (done pass : Bool)
  /-- REGION_TEST_FORCE (R381). -/
  | regionTestForce (addr : Nat)
  /-- MARCH_START (R383). -/
  | marchStart (who : Initiator) (v : W32)
  /-- MARCH_DONE (R383). -/
  | marchDone (pass : Bool) (failWord : Nat)
  /-- ECC_TEST_CTL (R378). -/
  | eccTestCtl (who : Initiator) (v : W32)
  /-- ECC_TEST_READ (R378). -/
  | eccTestRead (who : Initiator)
  /-- ECC_TEST_WRITE (R378). -/
  | eccTestWrite (who : Initiator)
  /-- CONFLICT_CLEAR (R395). -/
  | conflictClear (who : Initiator) (v : W32)
  /-- GATE_PSET (R391). -/
  | gatePset (who : Initiator) (v : W32)
  /-- GATE_GSET (R391). -/
  | gateGset (who : Initiator) (v : W32)
  /-- RULE_WRITE_COMPLETE (R391). -/
  | ruleWriteComplete
  /-- TRANSACTION_INTEGRITY_FAILURE (R394). -/
  | transactionIntegrityFailure (master addr : Nat)
  /-- MESH_SCAN (R399). -/
  | meshScan (ch : Nat) (samples : List Nat)
  /-- MESH_CONFIRM_SCAN (R400). -/
  | meshConfirmScan (ch : Nat) (samples : List Nat)
  /-- LIGHT_DETECT (R403). -/
  | lightDetect (cell level : Nat)
  /-- JUNCTION_TEMP_DETECT (R403). -/
  | junctionTempDetect (sensor reading : Nat)
  /-- VIN_OVERVOLTAGE (R403). -/
  | vinOvervoltage (mv : Nat)
  /-- RAIL_DETECT (R403): whole millivolts, and the microvolts beyond them. -/
  | railDetect (rail mv uv : Nat)
  /-- FREQUENCY_DETECT (R403): period in ps. -/
  | frequencyDetect (isl period : Nat) (short : Bool)
  /-- GLITCH_DETECT (R403). -/
  | glitchDetect (n : Nat)
  /-- INTRUSION_PIN_SAMPLE (R404). -/
  | intrusionPinSample (pin : Nat) (level : Bool)
  /-- DYNAMIC_PAIR_TICK (R404). -/
  | dynamicPairTick (pair : Nat) (same : Bool)
  /-- BACKUP_MONITOR_CHECK (R405). -/
  | backupMonitorCheck (vbatMv temp : Nat)
  /-- ALARM_HOLD_EXPIRY (R407). -/
  | alarmHoldExpiry (mon : Nat)
  /-- STIMULUS_DUE (R414). -/
  | stimulusDue (mon : Nat)
  /-- STIMULUS_REQUEST (R414). -/
  | stimulusRequest (who : Initiator) (v : W32)
  /-- STIMULUS_END (R414). -/
  | stimulusEnd (pass : Bool)
  /-- TAMPER_LOG_WRITE (R417). -/
  | tamperLogWrite
  /-- TAMPER_EXPORT (R419). -/
  | tamperExport (r : Req)
  /-- MESH_QUERY (R420). -/
  | meshQuery (r : Req)
  /-- BKD_INTRCFG_WRITE (R404). -/
  | bkdIntrcfgWrite (who : Initiator) (v : BitVec 16)
  /-- LC_ADVANCE (R426). -/
  | lcAdvance (r : Req)
  /-- LIFECYCLE_RESTART (R426). -/
  | lifecycleRestart (romOk : Bool)
  /-- DEBUG_NORMAL (R441). -/
  | debugNormal (r : Req)
  /-- CER_CHALLENGE (R434). -/
  | cerChallenge (r : Req)
  /-- CER_OPEN (R436). -/
  | cerOpen (r : Req)
  /-- CER_STEP (R438). -/
  | cerStep (r : Req)
  /-- CER_CLOSE (R438). -/
  | cerClose (r : Req)
  /-- CER_QUERY (R433). -/
  | cerQuery (r : Req)
  /-- CUST_FOUND (R432). -/
  | custFound (r : Req)
  /-- REGISTRY_READ (R433). -/
  | registryRead (r : Req)
  /-- UNLOCK (R438). -/
  | unlock
  /-- END_OF_LIFE (R426). -/
  | endOfLife
  /-- ROOT_GEN (R208). -/
  | rootGen
  /-- CUST_ADD (R437). -/
  | custAdd
  /-- CUST_REMOVE (R437). -/
  | custRemove
  /-- QUORUM_SET (R437). -/
  | quorumSet
  /-- MESH_ENROL (R401). -/
  | meshEnrol
  /-- INTR_CONFIG (R437). -/
  | intrConfig
  /-- CLONE_SEND (R482). -/
  | cloneSend
  /-- CLONE_RECEIVE (R482). -/
  | cloneReceive
  /-- CLONE_WAIT_TIMEOUT (R482). -/
  | cloneWaitTimeout
  /-- OWNER_MOVE (R200). -/
  | ownerMove
  /-- DEBUG_SECURE (R442). -/
  | debugSecure
  /-- DEBUG_SECURE_DRAINED (R442). -/
  | debugSecureDrained
  /-- OWNER_SET (R437). -/
  | ownerSet
  /-- CEREMONY_TIMEOUT (R438). -/
  | ceremonyTimeout
  /-- CEREMONY_CHALLENGE_LAPSE (R434). -/
  | ceremonyChallengeLapse
  /-- LCS_DBGEN_WRITE (R441). -/
  | lcsDbgenWrite (who : Initiator) (v : W32)
  /-- IDCODE (R439). -/
  | idcode
  /-- BYPASS (R439). -/
  | bypass
  /-- SAMPLE_PRELOAD (R439). -/
  | samplePreload (v : BitVec 4)
  /-- EXTEST (R439). -/
  | extest (v : BitVec 4)
  /-- SCAN (R439). -/
  | scan
  /-- SCAN_EXIT (R439). -/
  | scanExit (romOk : Bool)
  /-- TAP_CHALLENGE (R430). -/
  | tapChallenge
  /-- TAP_TOKEN (R430). -/
  | tapToken (tok : Bytes)
  /-- DAP_MEMORY_READ (R440). -/
  | dapMemoryRead (w : World) (addr size : Nat)
  /-- DAP_MEMORY_WRITE (R440). -/
  | dapMemoryWrite (w : World) (addr : Nat) (data : Bytes)
  /-- DAP_REGISTER_READ (R440). -/
  | dapRegisterRead (core : Nat) (w : World) (reg : Nat)
  /-- DAP_REGISTER_WRITE (R440). -/
  | dapRegisterWrite (core : Nat) (w : World) (reg : Nat) (v : W64)
  /-- DAP_HALT (R440). -/
  | dapHalt (core : Nat) (w : World)
  /-- DAP_SINGLE_STEP (R440). -/
  | dapSingleStep (core : Nat) (w : World)
  /-- RECORD_WRITE (R450). -/
  | recordWrite
  /-- SUMMARY_INTERVAL (R451). -/
  | summaryInterval (code : Nat)
  /-- REC_SEEK (R453). -/
  | recSeek (who : Initiator) (q : W32)
  /-- SEEK_DONE (R453). -/
  | seekDone (who : Initiator)
  /-- REC_POST (R454). -/
  | recPost (who : Initiator) (v : W32)
  /-- REC_QUERY (R455). -/
  | recQuery (r : Req)
  /-- REC_EXPORT (R456). -/
  | recExport (r : Req)
  /-- CHAIN_HEAD_DETECT (R462). -/
  | chainHeadDetect
  /-- CHAIN_FRAME_RECEIVE (R462). -/
  | chainFrameReceive (v : Nat) (parityOk : Bool)
  /-- CHAIN_FRAME_SEND (R462). -/
  | chainFrameSend
  /-- BILKIN_LINK_TRAINED (R464). -/
  | bilkinLinkTrained (n : Nat)
  /-- HELLO (R464). -/
  | hello (n : Nat) (h : Hello)
  /-- AUTH1 (R465). -/
  | auth1 (n : Nat) (eph kem : Bytes)
  /-- AUTH2 (R465). -/
  | auth2 (n : Nat) (sig : Bytes)
  /-- KEEPALIVE (R465). -/
  | keepalive (n : Nat) (f : Frame)
  /-- KEEPALIVE_SEND (R473). -/
  | keepaliveSend (n : Nat)
  /-- KEEPALIVE_MISSED (R473). -/
  | keepaliveMissed (n : Nat)
  /-- LINK_SIGNAL_LOSS (R473). -/
  | linkSignalLoss (n : Nat)
  /-- HANDSHAKE_TIMEOUT (R466). -/
  | handshakeTimeout (n : Nat)
  /-- LINK_RETRAIN (R466). -/
  | linkRetrain (n : Nat)
  /-- REKEY (R467). -/
  | rekey (n : Nat) (ok : Bool)
  /-- LSA (R469). -/
  | lsa (n : Nat) (f : Frame) (l : Lsa)
  /-- LSA_PERIODIC (R469). -/
  | lsaPeriodic
  /-- COORDINATOR_ELECTION (R469). -/
  | coordinatorElection
  /-- ASSIGN (R470). -/
  | assign (n : Nat) (f : Frame) (table : List (W128 × Nat))
  /-- ROUTE_RECOMPUTE (R471). -/
  | routeRecompute
  /-- FWD_REQ (R476). -/
  | fwdReq (n : Nat) (f : Frame) (id : Nat) (urgent : Bool) (rootHash : Bytes) (version : Nat) (r : Req)
  /-- FWD_RSP (R476). -/
  | fwdRsp (n : Nat) (f : Frame) (id status detail reason outLen info : Nat) (out : Bytes)
  /-- FORWARD_TIMEOUT (R477). -/
  | forwardTimeout (id : Nat)
  /-- OWNER_UNREACHABLE_RECORD (R478). -/
  | ownerUnreachableRecord
  /-- SPILL_REQ (R480). -/
  | spillReq (n : Nat) (f : Frame) (id : Nat) (rootHash : Bytes) (version : Nat) (r : Req)
  /-- SPILL_RSP (R480). -/
  | spillRsp (n : Nat) (f : Frame) (id : Nat) (busy : Bool) (status detail reason outLen info : Nat) (out : Bytes)
  /-- SPILL_TIMEOUT (R480). -/
  | spillTimeout (id : Nat)
  /-- REPLICA (R481). -/
  | replica (n : Nat) (f : Frame) (seq len off : Nat) (data : Bytes) (last : Bool)
  /-- REPLICA_ACK (R481). -/
  | replicaAck (n : Nat) (f : Frame) (busy : Bool) (reason : Nat)
  /-- CLONE (R482). -/
  | clone (n : Nat) (f : Frame) (stage : Nat) (body : Bytes)
  /-- RESET_N_RELEASE (R24). -/
  | resetNRelease (romOk : Bool)
  /-- CELL_REMOVED (R21). -/
  | cellRemoved
  /-- BACKUP_DOMAIN_POWER_LOSS (R25). -/
  | backupDomainPowerLoss
  /-- MESH_ENROLMENT_DONE (R401). -/
  | meshEnrolmentDone (prints : List (Nat × List (List Nat)))
  /-- TULLE_RESEED_STALL (R284). -/
  | tulleReseedStall (n : Nat)
  /-- HASH_RESEED_STALL (R298). -/
  | hashReseedStall (n : Nat)
  deriving DecidableEq, Repr

end Sys2Proof
end

