-- ==== Sys2Proof/Decode.lean ====
section
/-! DEFINITION. The reading of table words, and the words of Zynkel instructions. No row of the spec's table gives bits
(every row's field list is empty): the commands are accesses, submissions and events, so no table word spells one. The
words that a core fetches are a layout of their own (R317–R319), which the debugger's single step reads. -/

namespace Sys2Proof

/-- The command that `nbits` bits `w` spell by the table's bits: none, since the table gives no row bits. -/
def decodeTableWord (_nbits _w : Nat) : Option Instr := none

/-- Bits `[lo + n - 1 : lo]` of an instruction word. -/
def wordField (w : W64) (lo n : Nat) : Nat := (w >>> lo).toNat % 2 ^ n

/-- The fields that the long and the slot layout share, from the bit of RS1's lowest bit upwards: RS1, RD, GP, GN. -/
def fieldArgs (w : W64) (lo rs2 : Nat) (imm : BitVec 32) : ZArgs where
  gn := wordField w (lo + 15) 1 == 1
  gp := wordField w (lo + 12) 3
  rd := wordField w (lo + 6) 6
  rs1 := wordField w lo 6
  rs2 := rs2
  imm := imm

/-- The slot at a bit of a word (R319). -/
def slotAt (w : W64) (lo : Nat) : ZMate where
  opc := wordField w (lo + 25) 6
  args := fieldArgs w (lo + 9) (wordField w (lo + 3) 6) (BitVec.ofNat 32 (wordField w lo 3))

/-- The instruction word that 64 bits spell (R317, R318). -/
def decodeZWord (w : W64) : ZWord :=
  if wordField w 63 1 = 0 then
    .long { opc := wordField w 53 10,
            args := fieldArgs w 37 (wordField w 31 6) (BitVec.ofNat 32 (wordField w 0 31)) }
  else .paired (wordField w 62 1 == 1) (slotAt w 31) (slotAt w 0)

/-- A field at its place. -/
def putField (x lo : Nat) : W64 := BitVec.ofNat 64 x <<< lo

/-- The fields that both layouts share, at the place of RS1. -/
def putArgs (a : ZArgs) (lo : Nat) : W64 :=
  putField (if a.gn then 1 else 0) (lo + 15) ||| putField a.gp (lo + 12) ||| putField a.rd (lo + 6) ||| putField a.rs1 lo

/-- A slot at its place (R319). -/
def putSlot (m : ZMate) (lo : Nat) : W64 :=
  putField m.opc (lo + 25) ||| putArgs m.args (lo + 9) ||| putField m.args.rs2 (lo + 3) ||| putField m.args.imm.toNat lo

/-- The 64 bits of an instruction word (R317–R319). -/
def encodeZWord : ZWord → W64
  | .long m => putField m.opc 53 ||| putArgs m.args 37 ||| putField m.args.rs2 31 ||| putField m.args.imm.toNat 0
  | .paired b x y => putField 1 63 ||| putField (if b then 1 else 0) 62 ||| putSlot x 31 ||| putSlot y 0

end Sys2Proof
end

