-- ==== Sys2Proof/Machine/Bytes.lean ====
section
/-! DEFINITION. Byte order, bit fields, saturating and wrapping counters, and the CRC-32C of R56. Byte strings are
little-endian unless a rule says big-endian (R15). -/

namespace Sys2Proof.Machine

/-- The number a little-endian byte string spells. -/
def leNat : Bytes → Nat
  | [] => 0
  | b :: t => b.toNat + 256 * leNat t

/-- The `n` low bytes of `x`, least significant first. -/
def leBytes : Nat → Nat → Bytes
  | 0, _ => []
  | n + 1, x => BitVec.ofNat 8 x :: leBytes n (x / 256)

/-- The number a big-endian byte string spells. -/
def beNat (b : Bytes) : Nat := leNat b.reverse

/-- The `n` low bytes of `x`, most significant first. -/
def beBytes (n x : Nat) : Bytes := (leBytes n x).reverse

/-- `n` zero bytes. -/
def zeros (n : Nat) : Bytes := List.replicate n 0

/-- Bytes `off` to `off + len - 1` of `b`, fewer where `b` ends. -/
def slice (b : Bytes) (off len : Nat) : Bytes := (b.drop off).take len

/-- The little-endian number in bytes `off` to `off + len - 1`. -/
def leAt (b : Bytes) (off len : Nat) : Nat := leNat (slice b off len)

/-- Bits `[lo + w - 1 : lo]` of `x`. -/
def bits (x lo w : Nat) : Nat := (x >>> lo) % 2 ^ w

/-- A one-bit field. -/
def flag (b : Bool) : Nat := if b then 1 else 0

/-- Adding to a saturating counter of `w` bits. -/
def satAdd (w x n : Nat) : Nat := min (x + n) (2 ^ w - 1)

/-- Adding to a wrapping counter of `w` bits. -/
def wrapAdd (w x n : Nat) : Nat := (x + n) % 2 ^ w

/-- A value taken to the nearer bound. -/
def clamp (lo hi x : Nat) : Nat := if x < lo then lo else if hi < x then hi else x

/-- Rounding a quotient up. -/
def ceilDiv (a b : Nat) : Nat := (a + b - 1) / b

/-- Bytewise XOR of two strings, over the length of the first. -/
def xorBytes (a b : Bytes) : Bytes := a.zipWith (· ^^^ ·) b

/-- `b` with `src` written over bytes `off` onwards; `b` keeps its length. -/
def splice (b : Bytes) (off : Nat) (src : Bytes) : Bytes :=
  (b.take off ++ src ++ b.drop (off + src.length)).take b.length

/-- One bit of the reflected CRC-32C division. -/
def crcBit (c : BitVec 32) : BitVec 32 := if c.getLsbD 0 then (c >>> 1) ^^^ 0x82F63B78#32 else c >>> 1

/-- One byte of the reflected CRC-32C division. -/
def crcByte (c : BitVec 32) (b : Byte) : BitVec 32 :=
  crcBit (crcBit (crcBit (crcBit (crcBit (crcBit (crcBit (crcBit (c ^^^ b.setWidth 32))))))))

/-- CRC-32C with the conventions of R56. -/
def crc32c (b : Bytes) : BitVec 32 := ~~~ (b.foldl crcByte 0xFFFFFFFF#32)

/-- The parity of a byte. -/
def parity (b : Byte) : Bool :=
  (List.range 8).foldl (fun p i => xor p (b.getLsbD i)) false

/-- A byte with its low bit adjusted to odd parity (R176, R229). -/
def oddParity (b : Byte) : Byte := if parity b then b else b ^^^ 1

/-- The 16 bytes of a 128-bit value, most significant first. -/
def bytes128 (x : BitVec 128) : Bytes := beBytes 16 x.toNat

/-- The 128-bit value of 16 bytes, most significant first. -/
def block128 (b : Bytes) : BitVec 128 := BitVec.ofNat 128 (beNat b)

/-- The string cut into blocks of `n` bytes, the last one possibly shorter. -/
def cutAt (n : Nat) (b : Bytes) : List Bytes :=
  match n with
  | 0 => []
  | _ => (List.range (ceilDiv b.length n)).map fun i => slice b (i * n) n

end Sys2Proof.Machine
end

