-- ==== Sys2Proof/Machine/Sparse.lean ====
section
/-! DEFINITION. Sparse maps in one canonical form: keys strictly rising, and no entry equal to what an unlisted key
reads as. Memory bytes, contexts, tables and per-unit windows are held in them. -/

namespace Sys2Proof.Machine

/-- A sparse map from numbers to `α`; `d` is what an unlisted key reads as. -/
abbrev SMap (α : Type) := List (Nat × α)

namespace SMap

variable {α : Type}

/-- What key `k` reads as. -/
def get (d : α) : SMap α → Nat → α
  | [], _ => d
  | (j, v) :: t, k => if j = k then v else get d t k

/-- Insert or replace an entry, keys rising. -/
def put (k : Nat) (v : α) : SMap α → SMap α
  | [] => [(k, v)]
  | (j, u) :: t => if k < j then (k, v) :: (j, u) :: t else if j = k then (k, v) :: t else (j, u) :: put k v t

/-- Drop an entry. -/
def drop (k : Nat) (m : SMap α) : SMap α := m.filter fun e => decide (e.1 ≠ k)

/-- Write `v` at `k`: writing what an unlisted key reads as removes the entry. -/
def set [DecidableEq α] (d : α) (m : SMap α) (k : Nat) (v : α) : SMap α :=
  if v = d then drop k m else put k v m

/-- Change the value at `k`. -/
def upd [DecidableEq α] (d : α) (m : SMap α) (k : Nat) (f : α → α) : SMap α := set d m k (f (get d m k))

/-- Change every listed value; an entry that becomes the default goes. -/
def mapV [DecidableEq α] (d : α) (f : Nat → α → α) (m : SMap α) : SMap α :=
  (m.map fun e => (e.1, f e.1 e.2)).filter fun e => decide (e.2 ≠ d)

/-- Keep the entries whose key and value satisfy `p`. -/
def keep (p : Nat → α → Bool) (m : SMap α) : SMap α := m.filter fun e => p e.1 e.2

/-- The canonical form: keys strictly rising and no default entry. -/
def wf [DecidableEq α] (d : α) : SMap α → Bool
  | [] => true
  | [(_, v)] => decide (v ≠ d)
  | (k, v) :: (j, u) :: t => decide (v ≠ d) && decide (k < j) && wf d ((j, u) :: t)

end SMap

end Sys2Proof.Machine
end

