-- ==== Sys2Proof/Machine/Parts/Tamper.lean ====
section
/-! DEFINITION. Lace and the backup domain's tamper part (file 14). -/

namespace Sys2Proof.Machine

/-- A monitor's state (R407, R414, LACE_MSTAT). -/
structure Monitor where
  /-- The class its standing alarm was raised with. -/
  standing : Option Nat
  condition : Bool
  suppressed : Bool
  raised : Nat
  deriving DecidableEq, Repr

def Monitor.rest : Monitor := { standing := none, condition := false, suppressed := false, raised := 0 }

/-- A monitor's entry of the alarm response table (R67). -/
structure AlarmCfg where
  cls : Nat
  alert : Bool
  deriving DecidableEq, Repr

/-- A channel's record in the baseline store (R402). -/
structure Baseline where
  samples : List Nat
  threshold : Nat
  /-- Its inverted copy and CRC-32C hold. -/
  intact : Bool
  deriving DecidableEq, Repr

/-- A mesh channel's registers (LACE_CHSTAT, LACE_CHTH) and enrolment. -/
structure Channel where
  baseline : Option Baseline
  armed : Bool
  rejected : Bool
  kind : Nat
  sample : Nat
  d : Nat
  maxd : Nat
  maxSample : Nat
  /-- A first scan met the threshold, so the confirmation scan follows (R400). -/
  confirm : Bool
  deriving DecidableEq, Repr

def Channel.rest : Channel :=
  { baseline := none, armed := false, rejected := false, kind := 0, sample := 0, d := 0, maxd := 0, maxSample := 0,
    confirm := false }

/-- An enrolment step in progress (R401). -/
structure Enrolment where
  enrol : List Nat
  withdraw : List Nat
  margin : Nat
  deriving DecidableEq, Repr

/-- Lace's main-domain state and registers (R397–R421). -/
structure Lace where
  monitors : SMap Monitor
  /-- The alarm response table in force: the entries of the image; other monitors take R67's defaults. -/
  table : List (Nat × AlarmCfg)
  /-- The ROM default image's table is in force (R40, R406). -/
  romTable : Bool
  channels : SMap Channel
  /-- Photodiode cells above THRESH at their last sample (R403). -/
  lit : List Nat
  holdMs : Nat
  last : Nat
  lastClass : Nat
  lastStim : Bool
  alarms : Nat
  stimFails : Nat
  tlimLo : Nat
  tlimHi : Nat
  thresh : Nat
  periodS : Nat
  /-- The monitor under stimulus, the requested one, and the due ones waiting. -/
  stim : Option Nat
  stimAsked : Option Nat
  stimDue : List Nat
  stMonitor : Nat
  stPass : Bool
  stCut : Bool
  stRuns : Nat
  msel : Nat
  enrolling : Option Enrolment
  deriving DecidableEq, Repr

def Lace.reset : Lace where
  monitors := []
  table := []
  romTable := true
  channels := []
  lit := []
  holdMs := 1000
  last := 0
  lastClass := 0
  lastStim := false
  alarms := 0
  stimFails := 0
  tlimLo := 14
  tlimHi := 194
  thresh := 0x200
  periodS := 60
  stim := none
  stimAsked := none
  stimDue := []
  stMonitor := 0
  stPass := false
  stCut := false
  stRuns := 0
  msel := 0
  enrolling := none

/-- A tamper log entry (R416) with its chain value. -/
structure LogEntry where
  ts : Nat
  code : Nat
  param : Nat
  chain : BitVec 32
  deriving DecidableEq, Repr

/-- A queued event of the tamper log (R417). -/
structure LogEvent where
  code : Nat
  param : Nat
  deriving DecidableEq, Repr

/-- A custodian of the registry (R431, R432). -/
structure Custodian where
  active : Bool
  mldsa : Bool
  addedTs : Nat
  keyHash : Bytes
  mlHash : Bytes
  deriving DecidableEq, Repr

def Custodian.none : Custodian := { active := false, mldsa := false, addedTs := 0, keyHash := [], mlHash := [] }

/-- A cloned-root slot of the BBRAM key area (R207). -/
structure ClonedRoot where
  key : Bytes
  source : Bytes
  epoch : Nat
  /-- Its stored check equals the first 8 bytes of the SHA-256 of the key. -/
  checkOk : Bool
  deriving DecidableEq, Repr

/-- The backup domain: what survives the loss of main power (R20, R23, R25, R115, R207, R404, R412, R416–R418,
R422, R427, R431). -/
structure Backup where
  /-- The BBRAM integrity words hold (R25). -/
  intact : Bool
  ts : Nat
  pwrcyc : Nat
  pendLock : Bool
  lockKept : Bool
  erased : Bool
  /-- The tamper log, oldest first, and its queue. -/
  log : List LogEntry
  logQueue : List LogEvent
  merged : Nat
  intrcfg : BitVec 16
  intrLevel : BitVec 8
  /-- Pins whose last sample was at their alarm level, or whose last dynamic bit mismatched. -/
  intrPrev : BitVec 8
  intrCond : BitVec 8
  vbatMv : Nat
  /-- Backup temperature, °C plus 64. -/
  temp : Nat
  classIntr : BitVec 16
  classTemp : Nat
  classVbat : Nat
  logsel : Nat
  /-- The tenant epochs (R115). -/
  epochs : SMap Nat
  /-- The device root (R207) with its check, and the cloned-root slots. -/
  l0 : Option Bytes
  l0CheckOk : Bool
  cloned : SMap (Option ClonedRoot)
  eraseCause : Nat
  eraseUs : Nat
  rootDue : Bool
  /-- The sequence floor (R74). -/
  seqFloor : Nat
  /-- The custodian registry: quorum, changes, entries. -/
  quorum : Nat
  regChanges : Nat
  custodians : SMap Custodian
  /-- This device's fabric address as stored (R470); `none`: none stored. -/
  fabricAddr : Option Nat
  deriving DecidableEq, Repr

/-- BBRAM as initialised (R25, R404, R405): no root, an empty registry, every pin DISABLED, an empty log. The classes
are R397's defaults. -/
def Backup.reset : Backup where
  intact := true
  ts := 0
  pwrcyc := 0
  pendLock := false
  lockKept := false
  erased := false
  log := []
  logQueue := []
  merged := 0
  intrcfg := 0
  intrLevel := 0
  intrPrev := 0
  intrCond := 0
  vbatMv := 3000
  temp := 89
  classIntr := 0xFFFF#16
  classTemp := 1
  classVbat := 1
  logsel := 0
  epochs := []
  l0 := none
  l0CheckOk := true
  cloned := []
  eraseCause := 0
  eraseUs := 0
  rootDue := false
  seqFloor := 0
  quorum := 0
  regChanges := 0
  custodians := []
  fabricAddr := none

end Sys2Proof.Machine
end

