-- ==== Sys2Proof/Machine/Parts/ImageData.lean ====
section
/-! DEFINITION. What a structure image lays down, decoded (file 02), recipe graphs (R126, R127) and Damask node
records (R175). -/

namespace Sys2Proof.Machine

/-- An operand of a step: offset and length in the spaces of R128. -/
structure Opd where
  off : Nat
  len : Nat
  deriving DecidableEq, Repr

/-- A step record (R127). -/
structure Step where
  unit : Nat
  prim : Nat
  ksel : BitVec 8
  flags : BitVec 8
  pred : BitVec 32
  a : Opd
  b : Opd
  c : Opd
  d : Opd
  imm : Bytes
  deriving DecidableEq, Repr

/-- A graph (R126). -/
structure Graph where
  slots : BitVec 8
  inwin : Nat
  tmoUs : Nat
  outmax : Nat
  ctxUse : Bool
  ctxType : Nat
  steps : List Step
  pool : Bytes
  deriving DecidableEq, Repr

def Graph.empty : Graph :=
  { slots := 0, inwin := 0, tmoUs := 1, outmax := 0, ctxUse := false, ctxType := 0, steps := [], pool := [] }

/-- A catalogue entry with its graph (R66). -/
structure Recipe where
  id : Nat
  version : Nat
  units : BitVec 8
  graph : Graph
  deriving DecidableEq, Repr

/-- An island record (R61). -/
structure IslandRec where
  owner : Nat
  init : Nat
  sensors : BitVec 32
  deriving DecidableEq, Repr

/-- A tenant record (R62). -/
structure TenantRec where
  tenant : Nat
  isStatic : Bool
  colour : Nat
  qpairs : Nat
  ctxUnits : Nat
  weight : Nat
  slots : Nat
  nodes : Nat
  deriving DecidableEq, Repr

/-- A pool definition (R63). -/
structure PoolRec where
  pool : Nat
  unit : Nat
  twshare : Nat
  mask : BitVec 32
  deriving DecidableEq, Repr

/-- A tenant's pool assignment (R63); 0xFF names none. -/
structure AssignRec where
  tenant : Nat
  cal : Nat
  srg : Nat
  tul : Nat
  hsh : Nat
  deriving DecidableEq, Repr

/-- A queue record (R64). -/
structure QueueRec where
  tenant : Nat
  qp : Nat
  depthLog2 : Nat
  prio : Nat
  vector : Nat
  port : Nat
  deriving DecidableEq, Repr

/-- A page range of the colour map (R65). -/
structure RangeRec where
  world : Nat
  colour : Nat
  base : Nat
  pages : Nat
  deriving DecidableEq, Repr

/-- A grant (R65, R389). -/
structure Grant where
  from_ : Nat
  tgt : Nat
  read : Bool
  write : Bool
  valid : Bool
  deriving DecidableEq, Repr

def Grant.none : Grant := { from_ := 0, tgt := 0, read := false, write := false, valid := false }

/-- The Bilkin policy (R68). -/
structure BilkinRec where
  links : BitVec 32
  coordEligible : Bool
  spillAllowed : Bool
  fabric : W64
  groups : W64
  replica : Nat
  seed : Bytes
  deriving DecidableEq, Repr

/-- All links forbidden, the meaning of a missing section 0x08 (R60). -/
def BilkinRec.none : BilkinRec :=
  { links := 0, coordEligible := false, spillAllowed := false, fabric := 0, groups := 0, replica := 0xFF, seed := [] }

/-- The entropy policy (R69) with its defaults. -/
structure EntropyRec where
  legacy : Bool
  reseedLog2 : Nat
  stretchLog2 : Nat
  timeoutUs : Nat
  katS : Nat
  deriving DecidableEq, Repr

def EntropyRec.default : EntropyRec :=
  { legacy := false, reseedLog2 := 16, stretchLog2 := 24, timeoutUs := 100, katS := 3600 }

/-- The recorder policy (R70). -/
structure RecorderRec where
  minsev : Nat
  auditNode : Nat
  overrides : List (Nat × Nat)
  deriving DecidableEq, Repr

def RecorderRec.default : RecorderRec := { minsev := 1, auditNode := 0, overrides := [] }

/-- A node of the Damask node table (R175), with what Damask keeps beside its record: whether it was created at run
time (R174) and its reset epoch at creation (R179). -/
structure Node where
  tenant : Nat
  kind : Nat
  parent : Nat
  depth : Nat
  alg : Nat
  flags : BitVec 8
  colour : Nat
  usage : BitVec 16
  exportBits : BitVec 8
  blimit : Nat
  limit : Nat
  block : Nat
  owner : Nat
  gslot : Nat
  name : W64
  runtime : Bool
  epochPwr : Nat
  epochRst : Nat
  deriving DecidableEq, Repr

/-- The structure in force, decoded from a copy (R60–R71). -/
structure Image where
  seq : Nat
  replicate : Bool
  islands : List IslandRec
  tenants : List TenantRec
  pools : List PoolRec
  assigns : List AssignRec
  portBDown : Bool
  chainMax : Nat
  queues : List QueueRec
  ranges : List RangeRec
  grants : List Grant
  recipes : List Recipe
  alarms : List (Nat × AlarmCfg)
  bilkin : BilkinRec
  entropy : EntropyRec
  recorder : RecorderRec
  nodes : List Node
  deriving DecidableEq, Repr

/-- An image challenge or a ceremony challenge held in SUP (R79, R434): its bytes and the operating time of issue. -/
structure Challenge where
  bytes : Bytes
  issued : Nat
  deriving DecidableEq, Repr

/-- An open write session (R80). -/
structure Session where
  seq : Nat
  length : Nat
  slotB : Bool
  /-- Offsets 0 to 255, held in SUP. -/
  header : SMap Byte
  /-- Opened by an incoming replica transfer (R85), which skips the challenge comparison. -/
  replica : Bool
  deriving DecidableEq, Repr

/-- A member of the replica group that a committed copy is going to (R85, R481): its address, the copy, the bytes it has
acknowledged, whether its transfer has begun, the seconds of retries so far, and whether it last answered BUSY_RETRY. -/
structure ReplicaWait where
  addr : Nat
  copy : Bytes
  off : Nat
  active : Bool
  retries : Nat
  busy : Bool
  deriving DecidableEq, Repr

/-- The structure image's state: the two MRAM slots, the session, the challenge, and what is in force. -/
structure Img where
  slotA : SMap Byte
  slotB : SMap Byte
  session : Option Session
  challenge : Option Challenge
  force : Image
  /-- Transfers to members of the replica group that have not ended, the oldest first. -/
  replicas : List ReplicaWait
  deriving DecidableEq, Repr

end Sys2Proof.Machine
end

