-- ==== Sys2Proof/Machine/Parts/Memory.lean ====
section
/-! DEFINITION. Memories, check bits, background work and gates (file 13). -/

namespace Sys2Proof.Machine

/-- A MEM_INIT fill in progress (R372): who asked, and its pages. -/
structure InitRun where
  who : Initiator
  base : Nat
  pages : Nat
  deriving DecidableEq, Repr

/-- A March run in progress (R383). -/
structure MarchRun where
  bank : Nat
  preserve : Bool
  deriving DecidableEq, Repr

/-- A memory class's counters and lap (MEM_LAP, MEM_CEC, MEM_UEC, MEM_SCRUBLIM). -/
structure MemClass where
  limitMs : Nat
  lastMs : Nat
  forced : Bool
  forcedLaps : Nat
  corrected : Nat
  uncorr : Nat
  rewritten : Nat
  /-- Banks of the class that the running lap has not finished. -/
  lapLeft : List Nat
  deriving DecidableEq, Repr

def MemClass.reset (limit : Nat) : MemClass :=
  { limitMs := limit, lastMs := 0, forced := false, forcedLaps := 0, corrected := 0, uncorr := 0, rewritten := 0,
    lapLeft := [] }

/-- The on-die memories and their background agents (R369–R383, R395). Bytes live in `bytes`; `chk` holds, for each
byte, the difference of its stored check bits from those R376 gives for its data, so 0 is a byte as written. -/
structure Memory where
  bytes : SMap Byte
  chk : SMap (BitVec 5)
  init : BitVec 7
  /-- Context units written since the start (R371). -/
  ctxDone : BitVec 256
  initRun : Option InitRun
  initBase : Nat
  initPages : Nat
  scrubEn : BitVec 7
  periodS : Nat
  starveMs : Nat
  restarts : Nat
  fails : Nat
  /-- Regions under transparent test, by base address. -/
  testing : List Nat
  forcedTests : List Nat
  elogAddr : Nat
  elogInfo : Nat
  march : Option MarchRun
  marchBank : Nat
  marchPreserve : Bool
  marchPass : Bool
  marchRefused : Bool
  failWord : Nat
  ecctEn : Bool
  ecctAddr : Nat
  ecctData : W64
  ecctChk : BitVec 40
  classes : Vector MemClass 7
  /-- Conflict counters by 8 × master + class. -/
  conf : SMap Nat
  /-- Words queued for the scrubber (R376), and each bank's scrub pointer. -/
  queue : List Nat
  scrubPtr : SMap Nat
  deriving DecidableEq, Repr

/-- The memories at reset, with the default lap limits of R380 in ms by class. -/
def Memory.reset : Memory where
  bytes := []
  chk := []
  init := 0
  ctxDone := 0
  initRun := none
  initBase := 0
  initPages := 0
  scrubEn := 0
  periodS := 3600
  starveMs := 1000
  restarts := 0
  fails := 0
  testing := []
  forcedTests := []
  elogAddr := 0
  elogInfo := 0
  march := none
  marchBank := 0
  marchPreserve := false
  marchPass := false
  marchRefused := false
  failWord := 0
  ecctEn := false
  ecctAddr := 0
  ecctData := 0
  ecctChk := 0
  classes := #v[MemClass.reset 10000, MemClass.reset 10000, MemClass.reset 1000, MemClass.reset 1000,
    MemClass.reset 1000, MemClass.reset 10000, MemClass.reset 1000]
  conf := []
  queue := []
  scrubPtr := []

/-- A page's colour and world tag (R384). -/
structure PageTag where
  colour : BitVec 8
  tag : BitVec 2
  deriving DecidableEq, Repr

/-- A page in no range of the colour map (R65, R384). -/
def PageTag.rest : PageTag := { colour := 0, tag := 0b01#2 }

/-- What the gates hold together with an inverted copy (R393). -/
inductive GateEntry where
  | page (p : Nat)
  | grant (g : Nat)
  | epoch
  deriving DecidableEq, Repr

/-- A rule write (R391): a page range's colour and tag, or a grant entry in the GATE_GSET layout. -/
inductive RuleWrite where
  | pages (base n : Nat) (x : PageTag)
  | grant (entry : Nat) (v : W32)
  deriving DecidableEq, Repr

/-- The gates (R384–R396). -/
structure Gates where
  epoch : Nat
  busy : Bool
  refused : Bool
  /-- Rule writes that wait for the one before them to complete, oldest first (R392). -/
  queued : List RuleWrite
  pbase : Nat
  pcount : Nat
  psetColour : BitVec 8
  psetTag : BitVec 2
  pqsel : Nat
  /-- What rule writes have set, by page; `none` where none has since the image was applied. -/
  pages : SMap (Option PageTag)
  gsel : Nat
  gset : W32
  grants : SMap Grant
  dcount : Nat
  dlogAddr : Nat
  dlogInfo : Nat
  dbgdeny : Nat
  shadow : Nat
  /-- The entries whose inverted copy does not mirror them (R393); an upset that no command brings (assumption log 166). -/
  upset : List GateEntry
  deriving DecidableEq, Repr

def Gates.reset : Gates where
  epoch := 0
  busy := false
  refused := false
  queued := []
  pbase := 0
  pcount := 0
  psetColour := 0
  psetTag := 0
  pqsel := 0
  pages := []
  gsel := 0
  gset := 0
  grants := []
  dcount := 0
  dlogAddr := 0
  dlogInfo := 0
  dbgdeny := 0
  shadow := 0
  upset := []

end Sys2Proof.Machine
end

