-- ==== Sys2Proof/Machine/MemOps.lean ====
section
/-! DEFINITION. Plain reads and writes of the on-die memories, and the regions of R369. An address that nothing has
written since the start of the main domain reads as zero (DESIGN CHOICE, assumption log 9). -/

namespace Sys2Proof.Machine

/-- Write one byte with fresh check bits (R376). -/
def Memory.writeByte (m : Memory) (a : Nat) (b : Byte) : Memory :=
  { m with bytes := SMap.set 0 m.bytes a b, chk := SMap.drop a m.chk }

/-- Write bytes at rising addresses. -/
def Memory.write (m : Memory) : Nat → Bytes → Memory
  | _, [] => m
  | a, b :: t => (m.writeByte a b).write (a + 1) t

/-- The byte held at an address. -/
def Memory.readByte (m : Memory) (a : Nat) : Byte := SMap.get 0 m.bytes a

/-- `n` bytes from an address on. -/
def Memory.read (m : Memory) (a n : Nat) : Bytes := (List.range n).map fun k => m.readByte (a + k)

/-- Fill a range with zeros and fresh check bits. -/
def Memory.zeroRange (m : Memory) (base len : Nat) : Memory :=
  { m with bytes := m.bytes.filter fun e => decide (e.1 < base) || decide (base + len ≤ e.1)
           chk := m.chk.filter fun e => decide (e.1 < base) || decide (base + len ≤ e.1) }

/-- The regions of R369: class, base, size, bank size, first bank. -/
def regions : List (Nat × Nat × Nat × Nat × Nat) :=
  [(0, 0x10000000, 0x800000, 0x40000, 0), (1, 0x20000000, 0x2800000, 0x40000, 32),
   (2, 0x40000000, 0x4000000, 0x40000, 192), (3, 0x80000000, 0x200000, 0x10000, 448),
   (3, 0x80200000, 0x400000, 0x40000, 480), (3, 0x80600000, 0x400000, 0x80000, 496),
   (3, 0x80A00000, 0x200000, 0x40000, 504), (4, 0x90000000, 0x200000, 0x20000, 512),
   (5, 0x91000000, 0x40000, 0x20000, 528), (6, 0x92000000, 0xE0000, 0x20000, 530),
   (6, 0x920E0000, 0xE0000, 0x20000, 537)]

/-- The memory class of an address, if it lies in a bank. -/
def classOf (a : Nat) : Option Nat :=
  (regions.find? fun r => decide (r.2.1 ≤ a) && decide (a < r.2.1 + r.2.2.1)).map (·.1)

/-- The bank of an address (R369). -/
def bankOf (a : Nat) : Option Nat :=
  (regions.find? fun r => decide (r.2.1 ≤ a) && decide (a < r.2.1 + r.2.2.1)).map fun r =>
    r.2.2.2.2 + (a - r.2.1) / r.2.2.2.1

/-- The base address and size of a bank (R369). -/
def bankRange (b : Nat) : Option (Nat × Nat) :=
  (regions.find? fun r => decide (r.2.2.2.2 ≤ b) && decide (b < r.2.2.2.2 + r.2.2.1 / r.2.2.2.1)).map fun r =>
    (r.2.1 + (b - r.2.2.2.2) * r.2.2.2.1, r.2.2.2.1)

/-- The class of a bank. -/
def bankClass (b : Nat) : Option Nat :=
  (regions.find? fun r => decide (r.2.2.2.2 ≤ b) && decide (b < r.2.2.2.2 + r.2.2.1 / r.2.2.2.1)).map (·.1)

/-- Zero-fill every bank of a class and mark the class written (R371, MEM_STAT.INIT, MEM_SCRUBCTL.EN). -/
def Memory.initClass (m : Memory) (k : Nat) : Memory :=
  let z := (regions.filter fun r => r.1 == k).foldl (fun m r => m.zeroRange r.2.1 r.2.2.1) m
  { z with init := z.init ||| (1#7 <<< k), scrubEn := z.scrubEn ||| (1#7 <<< k) }

/-- Context units have been written; class 2 is fully written once each of the 256 has (R371). -/
def Memory.markUnits (m : Memory) (us : List Nat) : Memory :=
  let d := us.foldl (fun d u => d ||| (1#256 <<< u)) m.ctxDone
  if d = BitVec.allOnes 256 then { m with ctxDone := d, init := m.init ||| 4#7, scrubEn := m.scrubEn ||| 4#7 }
  else { m with ctxDone := d }

/-! ## An engine instance's own operand memory (R136, R246, R268, R290) -/

/-- The base of an instance's operand memory; a hash unit has only its state registers. -/
def operandBase : EngUnit → Nat → Nat
  | .cal, n => 0x80000000 + 0x10000 * n
  | .srg, n => 0x80200000 + 0x40000 * n
  | .tul, n => 0x80600000 + 0x80000 * n
  | .hsh, _ => 0

/-- The areas an operation works in: step window, private area, staging; offset and length. -/
def workAreas : EngUnit → List (Nat × Nat)
  | .cal => [(0, 0x400), (0xD00, 0x80), (0x1000, 0xC000)]
  | .srg => [(0, 0x8000), (0xC000, 0x10000), (0x20000, 0x18000)]
  | .tul => [(0, 0x20000), (0x28000, 0x34000), (0x60000, 0x18000)]
  | .hsh => []

/-- The held area for the outputs of OUT_RESULT steps, in bytes; `none` where the unit has none. -/
def heldRoom : EngUnit → Option Nat
  | .cal => some 0x800
  | .srg => some 0x4000
  | .tul => some 0x8000
  | .hsh => none

/-- The areas of an instance after the wipe that ends with zeros (R140, R238). -/
def Memory.wipeAreas (m : Memory) (u : EngUnit) (n : Nat) : Memory :=
  (workAreas u).foldl (fun m x => m.zeroRange (operandBase u n + x.1) x.2) m

end Sys2Proof.Machine
end

