-- ==== Sys2Proof/Config.lean ====
section
/-! DEFINITION. What each implementation decides, and the free values. Every constant here is opaque: it has no body, so nothing can be proved from a
particular value of it (assumption log 3 and 4). -/

namespace Sys2Proof.Config

/-- The random base of a candidate's Miller–Rabin round (R267): candidate, round. -/
opaque primeBase : Nat → Nat → Nat

/-- The keys fixed in ROM and OTP: Plaore's ECDSA P-384 and ML-DSA-65 public keys (R38, R58, R428). -/
opaque plaoreEc : Bytes
opaque plaoreMl : Bytes
/-- The device identity fused in OTP, 16 bytes (R416). -/
opaque deviceIdentity : BitVec 128
/-- The contents of Bilkin's credential store (R463), which Plaore writes and nothing changes: the device certificate, the
P-384 identity key and the ML-KEM-768 seeds. -/
opaque deviceCert : Bytes
opaque identityKey : Bytes
opaque kemSeeds : Bytes
/-- SYS_ID.STEP and SYS_ID.MASKSET, per die. -/
opaque sysStep : BitVec 8
opaque sysMaskset : BitVec 8

/-- The layout of IMAGE_QUERY's result (R78 lists its items and gives no layout): the items, in the order of R78. -/
opaque imageQueryLayout : List Nat → Bytes

/-- Free 128-bit values: the raw bits that the entropy unit's streams deliver at a tick, and what every local random generator draws;
the argument is the model's counter `State.fresh`. -/
opaque freshBits : Nat → BitVec 128
/-- Free numbers, for measured times and for values the spec leaves open. -/
opaque freshNat : Nat → Nat
/-- Free decisions, for choices the spec leaves open. -/
opaque freshBool : Nat → Bool

/-- What a predicate holds that a compare names as both its targets (R323): from the result. -/
opaque bothTargets : Bool → Bool
/-- Plaore's manufacturer code (R439). -/
opaque manufacturer : BitVec 11
/-- Plaore's PCI vendor ID (R86). -/
opaque pciVendor : Nat
/-- TWSHARE of the ROM default image's pools, in per cent (R40 states none). -/
opaque romTwshare : Nat
/-- The format marker of the MRAM persistent region (R43, R196), 8 bytes. -/
opaque formatMarker : W64
/-- The place of a worker's Twill mailbox in Twill's scratch memory (R125, R343), counted in units of 128 bytes. -/
opaque twillBox : Nat → Nat

/-- The nominal cost in units that the supervisor firmware holds for a command whose row is not in R10
(R105): opcode, input length, output length. -/
opaque nominalCost : Nat → Nat → Nat → Nat

end Sys2Proof.Config
end

