-- ==== Sys2Proof/Machine/Aes.lean ====
section
/-! DEFINITION. AES by the algorithm of FIPS 197, the multiplication of GHASH (SP 800-38D) and key wrap with padding
(SP 800-38F), standards that R14 and R193 name. PRESUMED, assumption log 2. -/

namespace Sys2Proof.Crypto

open Sys2Proof.Machine

/-- The substitution box, a row for each upper half byte. -/
def sbox : List Nat :=
  [0x637C777BF26B6FC53001672BFED7AB76, 0xCA82C97DFA5947F0ADD4A2AF9CA472C0, 0xB7FD9326363FF7CC34A5E5F171D83115,
   0x04C723C31896059A071280E2EB27B275, 0x09832C1A1B6E5AA0523BD6B329E32F84, 0x53D100ED20FCB15B6ACBBE394A4C58CF,
   0xD0EFAAFB434D338545F9027F503C9FA8, 0x51A3408F929D38F5BCB6DA2110FFF3D2, 0xCD0C13EC5F974417C4A77E3D645D1973,
   0x60814FDC222A908846EEB814DE5E0BDB, 0xE0323A0A4906245CC2D3AC629195E479, 0xE7C8376D8DD54EA96C56F4EA657AAE08,
   0xBA78252E1CA6B4C6E8DD741F4BBD8B8A, 0x703EB5664803F60E613557B986C11D9E, 0xE1F8981169D98E949B1E87E9CE5528DF,
   0x8CA1890DBFE6426841992D0FB054BB16]

/-- The inverse substitution box. -/
def invSbox : List Nat :=
  [0x52096AD53036A538BF40A39E81F3D7FB, 0x7CE339829B2FFF87348E4344C4DEE9CB, 0x547B9432A6C2233DEE4C950B42FAC34E,
   0x082EA16628D924B2765BA2496D8BD125, 0x72F8F66486689816D4A45CCC5D65B692, 0x6C704850FDEDB9DA5E154657A78D9D84,
   0x90D8AB008CBCD30AF7E45805B8B34506, 0xD02C1E8FCA3F0F02C1AFBD0301138A6B, 0x3A9111414F67DCEA97F2CFCEF0B4E673,
   0x96AC7422E7AD3585E2F937E81C75DF6E, 0x47F11A711D29C5896FB7620EAA18BE1B, 0xFC563E4BC6D279209ADBC0FE78CD5AF4,
   0x1FDDA8338807C731B11210592780EC5F, 0x60517FA919B54A0D2DE57A9F93C99CEF, 0xA0E03B4DAE2AF5B0C8EBBB3C83539961,
   0x172B047EBA77D626E169146355210C7D]

/-- Byte `i` of a number of `n` bytes, the most significant one first. -/
def byteOf (n x i : Nat) : Nat := (x >>> (8 * (n - 1 - i))) % 256

/-- A number of bytes built from its most significant one on. -/
def ofBytes (l : List Nat) : Nat := l.foldl (fun a b => 256 * a + b) 0

/-- The substitution of a byte. -/
def subByte (box : List Nat) (b : Nat) : Nat := byteOf 16 (box[b / 16]?.getD 0) (b % 16)

/-- Substitution in the four bytes of a word. -/
def subWord (w : Nat) : Nat := ofBytes ((List.range 4).map fun i => subByte sbox (byteOf 4 w i))

/-- Every byte of a 16-byte number multiplied by x modulo x^8 + x^4 + x^3 + x + 1. -/
def xtimes (s : Nat) : Nat :=
  Nat.xor (Nat.land (2 * s) 0xFEFEFEFEFEFEFEFEFEFEFEFEFEFEFEFE) (0x1B * Nat.land (s >>> 7) 0x01010101010101010101010101010101)

/-- A 32-bit word rotated left by `n` bytes. -/
def rotWord (n w : Nat) : Nat := (w <<< (8 * n)) % 2 ^ 32 + w >>> (32 - 8 * n)

/-- Every column of a state rotated up by `n` bytes: row `i` takes row `i + n`. -/
def rotColumns (n s : Nat) : Nat :=
  (List.range 4).foldl (fun a i => 2 ^ 32 * a + rotWord n ((s >>> (32 * (3 - i))) % 2 ^ 32)) 0

/-- MixColumns of a state held column by column: 2 a + 3 b + c + d for a byte and those below it. -/
def mixColumns (s : Nat) : Nat :=
  let r := rotColumns 1 s
  Nat.xor (Nat.xor (xtimes (Nat.xor s r)) r) (Nat.xor (rotColumns 2 s) (rotColumns 3 s))

/-- Its inverse: 4 (a + c) added to every byte a with c two below it, then MixColumns. -/
def invMixColumns (s : Nat) : Nat := mixColumns (Nat.xor s (xtimes (xtimes (Nat.xor s (rotColumns 2 s)))))

/-- SubBytes with ShiftRows: byte `i` of the result is substituted from byte `i + 4 (i mod 4)`, and the inverse. -/
def subShift (s : Nat) : Nat :=
  ofBytes ((List.range 16).map fun i => subByte sbox (byteOf 16 s ((i + 4 * (i % 4)) % 16)))
def invSubShift (s : Nat) : Nat :=
  ofBytes ((List.range 16).map fun i => subByte invSbox (byteOf 16 s ((i + 12 * (i % 4)) % 16)))

/-- The key schedule, `n` words further: the last `nk` words, the number of the next one, and its round constant. -/
def aesExpand (nk : Nat) : Nat → Nat → Nat → List Nat → List Nat
  | 0, _, _, _ => []
  | n + 1, i, rc, w =>
    let t := w.getLastD 0
    let u :=
      if i % nk = 0 then Nat.xor (subWord (rotWord 1 t)) (rc * 2 ^ 24)
      else if nk = 8 ∧ i % nk = 4 then subWord t
      else t
    let x := Nat.xor (w.headD 0) u
    x :: aesExpand nk n (i + 1) (if i % nk = 0 then xtimes rc else rc) (w.drop 1 ++ [x])

/-- Words in fours, as 128-bit numbers. -/
def roundKeys : List Nat → List Nat
  | a :: b :: c :: d :: t => (((a * 2 ^ 32 + b) * 2 ^ 32 + c) * 2 ^ 32 + d) :: roundKeys t
  | _ => []

/-- The round keys of a 16-, 24- or 32-byte key. -/
def aesKeys (k : Bytes) : List Nat :=
  let nk := k.length / 4
  let w := (cutAt 4 k).map beNat
  roundKeys (w ++ aesExpand nk (4 * (nk + 7) - nk) nk 1 w)

/-- The rounds over their keys; the last one has no MixColumns. -/
def aesRounds : List Nat → Nat → Nat
  | [], s => s
  | [k], s => Nat.xor (subShift s) k
  | k :: t, s => aesRounds t (Nat.xor (mixColumns (subShift s)) k)

/-- The rounds of the inverse cipher over the keys in reverse. -/
def aesInvRounds : List Nat → Nat → Nat
  | [], s => s
  | [k], s => Nat.xor (invSubShift s) k
  | k :: t, s => aesInvRounds t (invMixColumns (Nat.xor (invSubShift s) k))

/-- AES under a 16-, 24- or 32-byte key. -/
@[irreducible] def aesEnc (k : Bytes) (b : BitVec 128) : BitVec 128 :=
  let ks := aesKeys k
  BitVec.ofNat 128 (aesRounds (ks.drop 1) (Nat.xor b.toNat (ks.headD 0)))

/-- AES decryption. -/
@[irreducible] def aesDec (k : Bytes) (b : BitVec 128) : BitVec 128 :=
  let ks := (aesKeys k).reverse
  BitVec.ofNat 128 (aesInvRounds (ks.drop 1) (Nat.xor b.toNat (ks.headD 0)))

/-! ## GHASH (SP 800-38D) -/

/-- One bit of the multiplication: the product so far, and the other factor moved on. -/
def ghashBit (x : BitVec 128) (a : BitVec 128 × BitVec 128) (i : Nat) : BitVec 128 × BitVec 128 :=
  let v := a.2
  (if x.getLsbD (127 - i) then a.1 ^^^ v else a.1,
    if v.getLsbD 0 then (v >>> 1) ^^^ (0xE1#128 <<< 120) else v >>> 1)

/-- GF(2^128) multiplication, the step of GHASH. -/
@[irreducible] def ghashMul (x y : BitVec 128) : BitVec 128 := ((List.range 128).foldl (ghashBit x) (0, y)).1

/-! ## Key wrap with padding (SP 800-38F) -/

/-- One step of the wrapping function: A, then the semiblocks; `t` counts the steps from 1. -/
def wrapStep (k : Bytes) (s : Bytes × List Bytes) (t : Nat) : Bytes × List Bytes :=
  let x := bytes128 (aesEnc k (block128 (s.1 ++ s.2.headD [])))
  (xorBytes (x.take 8) (beBytes 8 t), s.2.drop 1 ++ [x.drop 8])

/-- One step of the unwrapping function, the steps counted down. -/
def unwrapStep (k : Bytes) (s : Bytes × List Bytes) (t : Nat) : Bytes × List Bytes :=
  let x := bytes128 (aesDec k (block128 (xorBytes s.1 (beBytes 8 t) ++ s.2.getLastD [])))
  (x.take 8, x.drop 8 :: s.2.take (s.2.length - 1))

/-- KWP-AE. -/
@[irreducible] def kwpWrap (k m : Bytes) : Bytes :=
  let a := [0xA6, 0x59, 0x59, 0xA6] ++ beBytes 4 m.length
  let p := (m ++ zeros 7).take (8 * ceilDiv m.length 8)
  if p.length = 8 then bytes128 (aesEnc k (block128 (a ++ p)))
  else
    let n := p.length / 8
    let s := (List.range (6 * n)).foldl (fun s t => wrapStep k s (t + 1)) (a, cutAt 8 p)
    s.1 ++ s.2.flatten

/-- What the integrity check of KWP accepts: the alternative value, a length in range, and a zero padding. -/
def kwpAccept (a p : Bytes) : Option Bytes :=
  let len := beNat (a.drop 4)
  if a.take 4 = [0xA6, 0x59, 0x59, 0xA6] ∧ p.length - 8 < len ∧ len ≤ p.length ∧ (p.drop len).all (fun b => decide (b = 0)) then
    some (p.take len)
  else none

/-- KWP-AD; `none` where the integrity check fails. -/
@[irreducible] def kwpUnwrap (k c : Bytes) : Option Bytes :=
  if c.length % 8 ≠ 0 ∨ c.length < 16 then none
  else if c.length = 16 then
    let x := bytes128 (aesDec k (block128 c))
    kwpAccept (x.take 8) (x.drop 8)
  else
    let n := c.length / 8 - 1
    let s := (List.range (6 * n)).foldl (fun s t => unwrapStep k s (6 * n - t)) (c.take 8, cutAt 8 (c.drop 8))
    kwpAccept s.1 s.2.flatten

end Sys2Proof.Crypto
end

