-- ==== Sys2Proof/Machine/Des.lean ====
section
/-! DEFINITION. Single DES, which R211 keeps for the constructions of R154 and R162, and the triple DES of SP 800-67 that R14
names, by the algorithm of that standard. PRESUMED, assumption log 2. -/

namespace Sys2Proof.Crypto

open Sys2Proof.Machine

/-- The bits of a `w`-bit number that a table names, in its order; bit 1 is the most significant. -/
def permute (w : Nat) (table : List Nat) (x : Nat) : Nat := table.foldl (fun a i => 2 * a + (x >>> (w - i)) % 2) 0

/-- The initial permutation, and its inverse. -/
def desIp : List Nat :=
  [58, 50, 42, 34, 26, 18, 10, 2, 60, 52, 44, 36, 28, 20, 12, 4] ++ [62, 54, 46, 38, 30, 22, 14, 6, 64, 56, 48, 40, 32, 24, 16, 8]
    ++ [57, 49, 41, 33, 25, 17, 9, 1, 59, 51, 43, 35, 27, 19, 11, 3] ++ [61, 53, 45, 37, 29, 21, 13, 5, 63, 55, 47, 39, 31, 23, 15, 7]
def desFp : List Nat :=
  [40, 8, 48, 16, 56, 24, 64, 32, 39, 7, 47, 15, 55, 23, 63, 31] ++ [38, 6, 46, 14, 54, 22, 62, 30, 37, 5, 45, 13, 53, 21, 61, 29]
    ++ [36, 4, 44, 12, 52, 20, 60, 28, 35, 3, 43, 11, 51, 19, 59, 27] ++ [34, 2, 42, 10, 50, 18, 58, 26, 33, 1, 41, 9, 49, 17, 57, 25]

/-- The expansion of a half block, and the permutation after the substitution. -/
def desE : List Nat :=
  [32, 1, 2, 3, 4, 5, 4, 5, 6, 7, 8, 9, 8, 9, 10, 11, 12, 13, 12, 13, 14, 15, 16, 17]
    ++ [16, 17, 18, 19, 20, 21, 20, 21, 22, 23, 24, 25, 24, 25, 26, 27, 28, 29, 28, 29, 30, 31, 32, 1]
def desP : List Nat :=
  [16, 7, 20, 21, 29, 12, 28, 17, 1, 15, 23, 26, 5, 18, 31, 10] ++ [2, 8, 24, 14, 32, 27, 3, 9, 19, 13, 30, 6, 22, 11, 4, 25]

/-- The two permuted choices of the key schedule, and the rotations of its sixteen rounds. -/
def desPc1 : List Nat :=
  [57, 49, 41, 33, 25, 17, 9, 1, 58, 50, 42, 34, 26, 18, 10, 2, 59, 51, 43, 35, 27, 19, 11, 3, 60, 52, 44, 36]
    ++ [63, 55, 47, 39, 31, 23, 15, 7, 62, 54, 46, 38, 30, 22, 14, 6, 61, 53, 45, 37, 29, 21, 13, 5, 28, 20, 12, 4]
def desPc2 : List Nat :=
  [14, 17, 11, 24, 1, 5, 3, 28, 15, 6, 21, 10, 23, 19, 12, 4, 26, 8, 16, 7, 27, 20, 13, 2]
    ++ [41, 52, 31, 37, 47, 55, 30, 40, 51, 45, 33, 48, 44, 49, 39, 56, 34, 53, 46, 42, 50, 36, 29, 32]
def desShifts : List Nat := [1, 1, 2, 2, 2, 2, 2, 2, 1, 2, 2, 2, 2, 2, 2, 1]

/-- The eight substitution boxes, each as four rows of sixteen. -/
def desS1 : List Nat :=
  [14, 4, 13, 1, 2, 15, 11, 8, 3, 10, 6, 12, 5, 9, 0, 7] ++ [0, 15, 7, 4, 14, 2, 13, 1, 10, 6, 12, 11, 9, 5, 3, 8]
    ++ [4, 1, 14, 8, 13, 6, 2, 11, 15, 12, 9, 7, 3, 10, 5, 0] ++ [15, 12, 8, 2, 4, 9, 1, 7, 5, 11, 3, 14, 10, 0, 6, 13]
def desS2 : List Nat :=
  [15, 1, 8, 14, 6, 11, 3, 4, 9, 7, 2, 13, 12, 0, 5, 10] ++ [3, 13, 4, 7, 15, 2, 8, 14, 12, 0, 1, 10, 6, 9, 11, 5]
    ++ [0, 14, 7, 11, 10, 4, 13, 1, 5, 8, 12, 6, 9, 3, 2, 15] ++ [13, 8, 10, 1, 3, 15, 4, 2, 11, 6, 7, 12, 0, 5, 14, 9]
def desS3 : List Nat :=
  [10, 0, 9, 14, 6, 3, 15, 5, 1, 13, 12, 7, 11, 4, 2, 8] ++ [13, 7, 0, 9, 3, 4, 6, 10, 2, 8, 5, 14, 12, 11, 15, 1]
    ++ [13, 6, 4, 9, 8, 15, 3, 0, 11, 1, 2, 12, 5, 10, 14, 7] ++ [1, 10, 13, 0, 6, 9, 8, 7, 4, 15, 14, 3, 11, 5, 2, 12]
def desS4 : List Nat :=
  [7, 13, 14, 3, 0, 6, 9, 10, 1, 2, 8, 5, 11, 12, 4, 15] ++ [13, 8, 11, 5, 6, 15, 0, 3, 4, 7, 2, 12, 1, 10, 14, 9]
    ++ [10, 6, 9, 0, 12, 11, 7, 13, 15, 1, 3, 14, 5, 2, 8, 4] ++ [3, 15, 0, 6, 10, 1, 13, 8, 9, 4, 5, 11, 12, 7, 2, 14]
def desS5 : List Nat :=
  [2, 12, 4, 1, 7, 10, 11, 6, 8, 5, 3, 15, 13, 0, 14, 9] ++ [14, 11, 2, 12, 4, 7, 13, 1, 5, 0, 15, 10, 3, 9, 8, 6]
    ++ [4, 2, 1, 11, 10, 13, 7, 8, 15, 9, 12, 5, 6, 3, 0, 14] ++ [11, 8, 12, 7, 1, 14, 2, 13, 6, 15, 0, 9, 10, 4, 5, 3]
def desS6 : List Nat :=
  [12, 1, 10, 15, 9, 2, 6, 8, 0, 13, 3, 4, 14, 7, 5, 11] ++ [10, 15, 4, 2, 7, 12, 9, 5, 6, 1, 13, 14, 0, 11, 3, 8]
    ++ [9, 14, 15, 5, 2, 8, 12, 3, 7, 0, 4, 10, 1, 13, 11, 6] ++ [4, 3, 2, 12, 9, 5, 15, 10, 11, 14, 1, 7, 6, 0, 8, 13]
def desS7 : List Nat :=
  [4, 11, 2, 14, 15, 0, 8, 13, 3, 12, 9, 7, 5, 10, 6, 1] ++ [13, 0, 11, 7, 4, 9, 1, 10, 14, 3, 5, 12, 2, 15, 8, 6]
    ++ [1, 4, 11, 13, 12, 3, 7, 14, 10, 15, 6, 8, 0, 5, 9, 2] ++ [6, 11, 13, 8, 1, 4, 10, 7, 9, 5, 0, 15, 14, 2, 3, 12]
def desS8 : List Nat :=
  [13, 2, 8, 4, 6, 15, 11, 1, 10, 9, 3, 14, 5, 0, 12, 7] ++ [1, 15, 13, 8, 10, 3, 7, 4, 12, 5, 6, 11, 0, 14, 9, 2]
    ++ [7, 11, 4, 1, 9, 12, 14, 2, 0, 6, 10, 13, 15, 3, 5, 8] ++ [2, 1, 14, 7, 4, 10, 8, 13, 15, 12, 9, 0, 3, 5, 6, 11]

/-- Box `k` (from 0) applied to six bits: the outer two choose the row, the inner four the column. -/
def desBox (k x : Nat) : Nat :=
  let box := [desS1, desS2, desS3, desS4, desS5, desS6, desS7, desS8][k]?.getD []
  box[16 * (2 * (x / 32) + x % 2) + x / 2 % 16]?.getD 0

/-- The cipher function of a half block and a round key. -/
def desF (r k : Nat) : Nat :=
  let x := Nat.xor (permute 32 desE r) k
  permute 32 desP ((List.range 8).foldl (fun a i => 16 * a + desBox i ((x >>> (42 - 6 * i)) % 64)) 0)

/-- A 28-bit half of the key rotated left. -/
def rot28 (n x : Nat) : Nat := ((x <<< n) ||| (x >>> (28 - n))) % 2 ^ 28

/-- The sixteen round keys. -/
def desKeys (k : Nat) : List Nat :=
  let c := permute 64 desPc1 k
  (desShifts.foldl (fun (a : List Nat × Nat × Nat) n =>
    let l := rot28 n a.2.1
    let r := rot28 n a.2.2
    (a.1 ++ [permute 56 desPc2 (l * 2 ^ 28 + r)], l, r)) ([], c / 2 ^ 28, c % 2 ^ 28)).1

/-- The sixteen rounds under round keys in the order given. -/
def desRun (ks : List Nat) (b : BitVec 64) : BitVec 64 :=
  let x := permute 64 desIp b.toNat
  let s := ks.foldl (fun (a : Nat × Nat) k => (a.2, Nat.xor a.1 (desF a.2 k))) (x / 2 ^ 32, x % 2 ^ 32)
  BitVec.ofNat 64 (permute 64 desFp (s.2 * 2 ^ 32 + s.1))

/-- Single DES under an 8-byte key, whose parity bits are not used. -/
@[irreducible] def desEnc (k : Bytes) (b : BitVec 64) : BitVec 64 := desRun (desKeys (beNat (k.take 8))) b
@[irreducible] def desDec (k : Bytes) (b : BitVec 64) : BitVec 64 := desRun (desKeys (beNat (k.take 8))).reverse b

/-- The third key of triple DES: keying option 2 uses the first again. -/
def tdesK3 (k : Bytes) : Bytes := if k.length ≤ 16 then k.take 8 else slice k 16 8

/-- Triple DES under a 16- or 24-byte key. -/
@[irreducible] def tdesEnc (k : Bytes) (b : BitVec 64) : BitVec 64 :=
  desEnc (tdesK3 k) (desDec (slice k 8 8) (desEnc (k.take 8) b))
@[irreducible] def tdesDec (k : Bytes) (b : BitVec 64) : BitVec 64 :=
  desDec (k.take 8) (desEnc (slice k 8 8) (desDec (tdesK3 k) b))

end Sys2Proof.Crypto
end

