-- ==== Sys2Proof/Machine/Cipher.lean ====
section
/-! DEFINITION. Block cipher modes over AES and DES (R211, R212, R218, R226, R228), the CMAC of SP 800-38B and
the GCM of SP 800-38D, as the standards the spec names lay them down (PRESUMED, assumption log 2). -/

namespace Sys2Proof.Machine

/-- Block length by the algorithm codes of R228: 0 AES, 1 TDES, 2 single DES. -/
def blockLen (c : Nat) : Nat := if c = 0 then 16 else 8

/-- One block enciphered. -/
def encBlock (c : Nat) (k b : Bytes) : Bytes :=
  if c = 0 then bytes128 (Crypto.aesEnc k (block128 b))
  else if c = 1 then beBytes 8 (Crypto.tdesEnc k (BitVec.ofNat 64 (beNat b))).toNat
  else beBytes 8 (Crypto.desEnc k (BitVec.ofNat 64 (beNat b))).toNat

/-- One block deciphered. -/
def decBlock (c : Nat) (k b : Bytes) : Bytes :=
  if c = 0 then bytes128 (Crypto.aesDec k (block128 b))
  else if c = 1 then beBytes 8 (Crypto.tdesDec k (BitVec.ofNat 64 (beNat b))).toNat
  else beBytes 8 (Crypto.desDec k (BitVec.ofNat 64 (beNat b))).toNat

/-- ECB over whole blocks. -/
def ecbEnc (c : Nat) (k m : Bytes) : Bytes := (cutAt (blockLen c) m).flatMap (encBlock c k)
def ecbDec (c : Nat) (k m : Bytes) : Bytes := (cutAt (blockLen c) m).flatMap (decBlock c k)

/-- CBC from a chaining value on: the ciphertext and the next chaining value. -/
def cbcEnc (c : Nat) (k iv m : Bytes) : Bytes × Bytes :=
  (cutAt (blockLen c) m).foldl (fun a b => let y := encBlock c k (xorBytes a.2 b); (a.1 ++ y, y)) ([], iv)
def cbcDec (c : Nat) (k iv m : Bytes) : Bytes × Bytes :=
  (cutAt (blockLen c) m).foldl (fun a b => (a.1 ++ xorBytes (decBlock c k b) a.2, b)) ([], iv)

/-- CFB over whole blocks, the last one possibly partial (R212 mode 3). -/
def cfbEnc (c : Nat) (k iv m : Bytes) : Bytes × Bytes :=
  (cutAt (blockLen c) m).foldl (fun a b => let y := xorBytes b (encBlock c k a.2); (a.1 ++ y, y)) ([], iv)
def cfbDec (c : Nat) (k iv m : Bytes) : Bytes × Bytes :=
  (cutAt (blockLen c) m).foldl (fun a b => (a.1 ++ xorBytes b (encBlock c k a.2), b)) ([], iv)

/-- CFB-8: one byte at a time through a shift register (R212 mode 2). -/
def cfb8Enc (c : Nat) (k iv m : Bytes) : Bytes × Bytes :=
  m.foldl (fun a b =>
    let y := b ^^^ (encBlock c k a.2).headD 0
    (a.1 ++ [y], a.2.drop 1 ++ [y])) ([], iv)
def cfb8Dec (c : Nat) (k iv m : Bytes) : Bytes × Bytes :=
  m.foldl (fun a b => (a.1 ++ [b ^^^ (encBlock c k a.2).headD 0], a.2.drop 1 ++ [b])) ([], iv)

/-- OFB (R212 mode 4). -/
def ofb (c : Nat) (k iv m : Bytes) : Bytes × Bytes :=
  (cutAt (blockLen c) m).foldl (fun a b => let o := encBlock c k a.2; (a.1 ++ xorBytes b o, o)) ([], iv)

/-- The last 32 bits of a counter block plus one (R218). -/
def inc32 (b : Bytes) : Bytes :=
  let n := b.length - 4
  b.take n ++ beBytes 4 (beNat (b.drop n) + 1)

/-- CTR from a counter block on: the text and the next counter block (R218). -/
def ctrMode (c : Nat) (k iv m : Bytes) : Bytes × Bytes :=
  (cutAt (blockLen c) m).foldl (fun a b => (a.1 ++ xorBytes b (encBlock c k a.2), inc32 a.2)) ([], iv)

/-- Doubling in the field of CMAC's subkeys. -/
def cmacDouble (b : Bytes) : Bytes :=
  let n := b.length
  let x := 2 * beNat b
  if 2 ^ (8 * n) ≤ x then beBytes n (Nat.xor (x % 2 ^ (8 * n)) (if n = 16 then 0x87 else 0x1B)) else beBytes n x

/-- The finishing step of CMAC: the running value, and what has been held back of the message. -/
def cmacFinish (c : Nat) (k run last : Bytes) : Bytes :=
  let n := blockLen c
  let k1 := cmacDouble (encBlock c k (zeros n))
  let x := if last.length = n then xorBytes last k1
    else xorBytes ((last ++ [0x80#8] ++ zeros n).take n) (cmacDouble k1)
  encBlock c k (xorBytes run x)

/-- Absorb whole blocks into a CBC-MAC value. -/
def cbcMacFrom (c : Nat) (k run m : Bytes) : Bytes :=
  (cutAt (blockLen c) m).foldl (fun a b => encBlock c k (xorBytes a b)) run

/-- Bytes of a message that CMAC absorbs before its last block. -/
def cmacHead (n len : Nat) : Nat := (ceilDiv len n - 1) * n

/-- CMAC of a whole message. -/
def cmac (c : Nat) (k m : Bytes) : Bytes :=
  let h := cmacHead (blockLen c) m.length
  cmacFinish c k (cbcMacFrom c k (zeros (blockLen c)) (m.take h)) (m.drop h)

/-- Absorb bytes into a GHASH value, the last block padded with zeros (R218, R226). -/
def ghashFrom (h y m : Bytes) : Bytes :=
  (cutAt 16 m).foldl (fun a b =>
    bytes128 (Crypto.ghashMul (block128 h) (block128 (xorBytes a ((b ++ zeros 16).take 16))))) y

/-- The hash subkey of GCM. -/
def gcmH (k : Bytes) : Bytes := encBlock 0 k (zeros 16)

/-- The tag of GCM from the GHASH value after the text, the first counter block and the lengths. -/
def gcmTag (k j0 y : Bytes) (aad text : Nat) : Bytes :=
  xorBytes (encBlock 0 k j0) (ghashFrom (gcmH k) y (beBytes 8 (8 * aad) ++ beBytes 8 (8 * text)))

/-- GCM over a whole message: ciphertext and 16-byte tag. -/
def gcmSeal (k iv aad m : Bytes) : Bytes × Bytes :=
  let j0 := iv ++ [0, 0, 0, 1]
  let ct := (ctrMode 0 k (inc32 j0) m).1
  (ct, gcmTag k j0 (ghashFrom (gcmH k) (ghashFrom (gcmH k) (zeros 16) aad) ct) aad.length m.length)

/-- GCM opening: the plaintext and the full tag its ciphertext has. -/
def gcmOpen (k iv aad ct : Bytes) : Bytes × Bytes :=
  let j0 := iv ++ [0, 0, 0, 1]
  ((ctrMode 0 k (inc32 j0) ct).1,
    gcmTag k j0 (ghashFrom (gcmH k) (ghashFrom (gcmH k) (zeros 16) aad) ct) aad.length ct.length)

/-! ## The derivation function (R184) -/

/-- The 41-byte input of one iteration (R184). -/
def kdfInput (i purpose alg usage depth : Nat) (name : Bytes) (tenant label gen gen2 bitsOut : Nat) : Bytes :=
  beBytes 4 i ++ beBytes 1 purpose ++ beBytes 1 alg ++ beBytes 2 usage ++ beBytes 1 depth ++ zeros 3
    ++ (name ++ zeros 8).take 8 ++ [0] ++ beBytes 1 tenant ++ zeros 2 ++ beBytes 5 label ++ beBytes 4 gen
    ++ beBytes 4 gen2 ++ beBytes 4 bitsOut

/-- The leftmost ⌈L / 8⌉ bytes of the derivation output (R184). -/
def kdf (kin : Bytes) (purpose alg usage depth : Nat) (name : Bytes) (tenant label gen gen2 bitsOut : Nat) : Bytes :=
  ((List.range (ceilDiv bitsOut 128)).flatMap fun i =>
    cmac 0 kin (kdfInput (i + 1) purpose alg usage depth name tenant label gen gen2 bitsOut)).take (ceilDiv bitsOut 8)

/-- The orders of the curves of R176 (FIPS 186-5 and RFC 5639; PRESUMED, assumption log 2). -/
def curveOrder (alg : Nat) : Nat :=
  if alg = 0x10 then 0xFFFFFFFF00000000FFFFFFFFFFFFFFFFBCE6FAADA7179E84F3B9CAC2FC632551
  else if alg = 0x11 then
    0xFFFFFFFFFFFFFFFFFFFFFFFFFFFFFFFFFFFFFFFFFFFFFFFFC7634D81F4372DDF581A0DB248B0A77AECEC196ACCC52973
  else if alg = 0x12 then
    2 ^ 521 - 2 ^ 260 + 0xA51868783BF2F966B7FCC0148F709A5D03BB5C9B8899C47AEBB6FB71E91386409
  else if alg = 0x13 then 0xA9FB57DBA1EEA9BC3E660A909D838D718C397AA3B561A6F7901E0E82974856A7
  else if alg = 0x14 then
    0x8CB91E82A3386D280F5D6F7E50E641DF152F7109ED5456B31F166E6CAC0425A7CF3AB6AF6B7FC3103B883202E9046565
  else
    0xAADD9DB8DBE9C48B3FD4E6AE33C9FC07CB308DB3B3C9D20ED6639CCA70330870553E5C414CA92619418661197FAC10471DB1D381085DDADDB58796829CA90069

/-- Bits of a curve order, and the byte length of a scalar. -/
def orderBits (alg : Nat) : Nat :=
  if alg = 0x10 then 256 else if alg = 0x11 then 384 else if alg = 0x12 then 521 else if alg = 0x13 then 256
  else if alg = 0x14 then 384 else 512
def orderBytes (alg : Nat) : Nat := ceilDiv (orderBits alg) 8

/-- The derivation output length L in bits, by algorithm (R176); 0 for RSA, which no derivation forms. -/
def deriveBits (alg : Nat) : Nat :=
  if alg = 0x01 then 128 else if alg = 0x02 then 192 else if alg = 0x03 then 128 else if alg = 0x04 then 192
  else if alg = 0x05 then 256 else if alg = 0x06 then 256
  else if 0x10 ≤ alg ∧ alg ≤ 0x15 then orderBits alg + 64
  else if alg = 0x18 then 256 else if alg = 0x19 then 456 else if alg = 0x1A then 256 else if alg = 0x1B then 448
  else if 0x28 ≤ alg ∧ alg ≤ 0x2A then 256
  else if 0x2C ≤ alg ∧ alg ≤ 0x2E then 512
  else if alg = 0x40 then 256 else 0

/-- The key formed from a derivation output (R176, R184). -/
def formKey (alg : Nat) (out : Bytes) : Bytes :=
  if alg = 0x01 ∨ alg = 0x02 then out.map oddParity
  else if 0x10 ≤ alg ∧ alg ≤ 0x15 then
    let c := beNat out >>> (8 * ceilDiv (deriveBits alg) 8 - deriveBits alg)
    beBytes (orderBytes alg) (c % (curveOrder alg - 1) + 1)
  else out

end Sys2Proof.Machine
end

