-- ==== Sys2Proof/Machine/Numbers.lean ====
section
/-! DEFINITION. Modular arithmetic on natural numbers, for the operations of R250 and the standards R14 names. -/

namespace Sys2Proof.Machine

/-- `b ^ e mod m`, over the low `fuel` bits of `e`. -/
def powMod (m : Nat) : Nat → Nat → Nat → Nat
  | 0, _, _ => 1 % m
  | fuel + 1, b, e =>
    let h := powMod m fuel (b * b % m) (e / 2)
    if e % 2 = 1 then h * b % m else h

/-- Extended Euclid: the coefficient of `a` modulo `m` for its gcd with `m`. -/
def invLoop (m : Nat) : Nat → Nat → Nat → Nat → Nat → Nat
  | 0, _, _, x, _ => x
  | fuel + 1, r0, r1, x0, x1 =>
    if r1 = 0 then x0
    else invLoop m fuel r1 (r0 % r1) x1 ((x0 + (m - (r0 / r1) % m) * x1) % m)

/-- The inverse of `a` modulo `m`, where it exists. -/
def modInv (a m : Nat) : Option Nat :=
  if Nat.gcd a m = 1 then some (invLoop m 12000 m (a % m) 0 (1 % m)) else none

/-- Bit length. -/
def bitLen (n : Nat) : Nat := if n = 0 then 0 else Nat.log2 n + 1

/-- Subtraction modulo `m` of two reduced numbers. -/
def subMod (m a b : Nat) : Nat := (a + m - b) % m

/-- The inverse of `a` modulo `m`; 0 where there is none. -/
def invMod (m a : Nat) : Nat := (modInv a m).getD 0

end Sys2Proof.Machine
end

