-- ==== Sys2Proof/Machine/Curves.lean ====
section
/-! DEFINITION. Elliptic curves in short Weierstrass form, ECDSA and ECDH, by the standards R14 names (FIPS 186-5, the curves
of SP 800-186 and RFC 5639), with the encodings of R169 and R253. PRESUMED, assumption log 2. -/

namespace Sys2Proof.Crypto

open Sys2Proof.Machine

/-- A curve y² = x³ + a x + b over the integers modulo p, its generator and the generator's order. -/
structure Curve where
  p : Nat
  a : Nat
  b : Nat
  x : Nat
  y : Nat
  n : Nat
  deriving DecidableEq, Repr

def p256 : Curve where
  p := 0xFFFFFFFF00000001000000000000000000000000FFFFFFFFFFFFFFFFFFFFFFFF
  a := 0xFFFFFFFF00000001000000000000000000000000FFFFFFFFFFFFFFFFFFFFFFFC
  b := 0x5AC635D8AA3A93E7B3EBBD55769886BC651D06B0CC53B0F63BCE3C3E27D2604B
  x := 0x6B17D1F2E12C4247F8BCE6E563A440F277037D812DEB33A0F4A13945D898C296
  y := 0x4FE342E2FE1A7F9B8EE7EB4A7C0F9E162BCE33576B315ECECBB6406837BF51F5
  n := curveOrder 0x10

def p384 : Curve where
  p := 0xFFFFFFFFFFFFFFFFFFFFFFFFFFFFFFFFFFFFFFFFFFFFFFFFFFFFFFFFFFFFFFFEFFFFFFFF0000000000000000FFFFFFFF
  a := 0xFFFFFFFFFFFFFFFFFFFFFFFFFFFFFFFFFFFFFFFFFFFFFFFFFFFFFFFFFFFFFFFEFFFFFFFF0000000000000000FFFFFFFC
  b := 0xB3312FA7E23EE7E4988E056BE3F82D19181D9C6EFE8141120314088F5013875AC656398D8A2ED19D2A85C8EDD3EC2AEF
  x := 0xAA87CA22BE8B05378EB1C71EF320AD746E1D3B628BA79B9859F741E082542A385502F25DBF55296C3A545E3872760AB7
  y := 0x3617DE4A96262C6F5D9E98BF9292DC29F8F41DBD289A147CE9DA3113B5F0B8C00A60B1CE1D7E819D7A431D7C90EA0E5F
  n := curveOrder 0x11

def p521 : Curve where
  p :=
    0x1FFFFFFFFFFFFFFFFFFFFFFFFFFFFFFFFFFFFFFFFFFFFFFFFFFFFFFFFFFFFFFFFFFFFFFFFFFFFFFFFFFFFFFFFFFFFFFFFFFFFFFFFFFFFFFFFFFFFFFFFFFFFFFFFFF
  a :=
    0x1FFFFFFFFFFFFFFFFFFFFFFFFFFFFFFFFFFFFFFFFFFFFFFFFFFFFFFFFFFFFFFFFFFFFFFFFFFFFFFFFFFFFFFFFFFFFFFFFFFFFFFFFFFFFFFFFFFFFFFFFFFFFFFFFFC
  b :=
    0x51953EB9618E1C9A1F929A21A0B68540EEA2DA725B99B315F3B8B489918EF109E156193951EC7E937B1652C0BD3BB1BF073573DF883D2C34F1EF451FD46B503F00
  x :=
    0xC6858E06B70404E9CD9E3ECB662395B4429C648139053FB521F828AF606B4D3DBAA14B5E77EFE75928FE1DC127A2FFA8DE3348B3C1856A429BF97E7E31C2E5BD66
  y :=
    0x11839296A789A3BC0045C8A5FB42C7D1BD998F54449579B446817AFBD17273E662C97EE72995EF42640C550B9013FAD0761353C7086A272C24088BE94769FD16650
  n := curveOrder 0x12

def bp256 : Curve where
  p := 0xA9FB57DBA1EEA9BC3E660A909D838D726E3BF623D52620282013481D1F6E5377
  a := 0x7D5A0975FC2C3057EEF67530417AFFE7FB8055C126DC5C6CE94A4B44F330B5D9
  b := 0x26DC5C6CE94A4B44F330B5D9BBD77CBF958416295CF7E1CE6BCCDC18FF8C07B6
  x := 0x8BD2AEB9CB7E57CB2C4B482FFC81B7AFB9DE27E1E3BD23C23A4453BD9ACE3262
  y := 0x547EF835C3DAC4FD97F8461A14611DC9C27745132DED8E545C1D54C72F046997
  n := curveOrder 0x13

def bp384 : Curve where
  p := 0x8CB91E82A3386D280F5D6F7E50E641DF152F7109ED5456B412B1DA197FB71123ACD3A729901D1A71874700133107EC53
  a := 0x7BC382C63D8C150C3C72080ACE05AFA0C2BEA28E4FB22787139165EFBA91F90F8AA5814A503AD4EB04A8C7DD22CE2826
  b := 0x4A8C7DD22CE28268B39B55416F0447C2FB77DE107DCD2A62E880EA53EEB62D57CB4390295DBC9943AB78696FA504C11
  x := 0x1D1C64F068CF45FFA2A63A81B7C13F6B8847A3E77EF14FE3DB7FCAFE0CBD10E8E826E03436D646AAEF87B2E247D4AF1E
  y := 0x8ABE1D7520F9C2A45CB1EB8E95CFD55262B70B29FEEC5864E19C054FF99129280E4646217791811142820341263C5315
  n := curveOrder 0x14

def bp512 : Curve where
  p :=
    0xAADD9DB8DBE9C48B3FD4E6AE33C9FC07CB308DB3B3C9D20ED6639CCA703308717D4D9B009BC66842AECDA12AE6A380E62881FF2F2D82C68528AA6056583A48F3
  a :=
    0x7830A3318B603B89E2327145AC234CC594CBDD8D3DF91610A83441CAEA9863BC2DED5D5AA8253AA10A2EF1C98B9AC8B57F1117A72BF2C7B9E7C1AC4D77FC94CA
  b :=
    0x3DF91610A83441CAEA9863BC2DED5D5AA8253AA10A2EF1C98B9AC8B57F1117A72BF2C7B9E7C1AC4D77FC94CADC083E67984050B75EBAE5DD2809BD638016F723
  x :=
    0x81AEE4BDD82ED9645A21322E9C4C6A9385ED9F70B5D916C1B43B62EEF4D0098EFF3B1F78E2D0D48D50D1687B93B97D5F7C6D5047406A5E688B352209BCB9F822
  y :=
    0x7DDE385D566332ECC0EABFA9CF7822FDF209F70024A57B1AA000C55B881F8111B2DCDE494A5F485E5BCA4BD88A2763AED1CA2B2FA8F0540678CD1E0F3AD80892
  n := curveOrder 0x15

/-- The curve of an algorithm code (R176), 0x10 to 0x15. -/
def curve (alg : Nat) : Curve :=
  if alg = 0x10 then p256 else if alg = 0x11 then p384 else if alg = 0x12 then p521 else if alg = 0x13 then bp256
  else if alg = 0x14 then bp384 else bp512

/-- Bytes of a field element (R253). -/
def coordBytes (alg : Nat) : Nat :=
  if alg = 0x10 ∨ alg = 0x13 then 32 else if alg = 0x11 ∨ alg = 0x14 then 48 else if alg = 0x12 then 66 else 64

/-! ## Points, as (X, Y, Z) with x = X / Z² and y = Y / Z³; Z is 0 at infinity -/

/-- A point in Jacobian coordinates. -/
structure Point where
  x : Nat
  y : Nat
  z : Nat
  deriving DecidableEq, Repr

def Point.infinity : Point := ⟨1, 1, 0⟩

/-- The generator. -/
def Curve.base (c : Curve) : Point := ⟨c.x, c.y, 1⟩

/-- Doubling. -/
def Curve.double (c : Curve) (u : Point) : Point :=
  let y2 := u.y * u.y % c.p
  let z2 := u.z * u.z % c.p
  let s := 4 * (u.x * y2) % c.p
  let m := (3 * (u.x * u.x) + c.a * (z2 * z2 % c.p)) % c.p
  let x := subMod c.p (m * m % c.p) (2 * s % c.p)
  ⟨x, subMod c.p (m * subMod c.p s x % c.p) (8 * (y2 * y2) % c.p), 2 * (u.y * u.z) % c.p⟩

/-- Addition. -/
def Curve.add (c : Curve) (u v : Point) : Point :=
  if u.z = 0 then v
  else if v.z = 0 then u
  else
    let z1 := u.z * u.z % c.p
    let z2 := v.z * v.z % c.p
    let u1 := u.x * z2 % c.p
    let s1 := u.y * (z2 * v.z % c.p) % c.p
    let h := subMod c.p (v.x * z1 % c.p) u1
    let r := subMod c.p (v.y * (z1 * u.z % c.p) % c.p) s1
    if h = 0 then (if r = 0 then c.double u else Point.infinity)
    else
      let h2 := h * h % c.p
      let h3 := h * h2 % c.p
      let w := u1 * h2 % c.p
      let x := subMod c.p (subMod c.p (r * r % c.p) h3) (2 * w % c.p)
      ⟨x, subMod c.p (r * subMod c.p w x % c.p) (s1 * h3 % c.p), h * (u.z * v.z % c.p) % c.p⟩

/-- Scalar multiplication over the low `bits` bits of `k`. -/
def Curve.mul (c : Curve) (u : Point) (k : Nat) : Nat → Point
  | 0 => Point.infinity
  | bits + 1 =>
    let t := c.double (Curve.mul c u (k / 2) bits)
    if k % 2 = 1 then c.add t u else t

/-- The affine coordinates of a point that is not at infinity. -/
def Curve.affine (c : Curve) (u : Point) : Nat × Nat :=
  let i := invMod c.p u.z
  let i2 := i * i % c.p
  (u.x * i2 % c.p, u.y * (i2 * i % c.p) % c.p)

/-- An affine point lies on the curve. -/
def Curve.contains (c : Curve) (x y : Nat) : Bool :=
  decide (x < c.p) && decide (y < c.p) && decide (y * y % c.p = (x * x * x + c.a * x + c.b) % c.p)

/-- The point of an encoding (R253): 0x04, X, Y, with coordinates below p, on the curve. -/
def decodePoint (alg : Nat) (b : Bytes) : Option Point :=
  let n := coordBytes alg
  let x := beNat (slice b 1 n)
  let y := beNat (slice b (1 + n) n)
  if b.length = 1 + 2 * n ∧ b.headD 0 = 4 ∧ (curve alg).contains x y = true then some ⟨x, y, 1⟩ else none

/-- The encoding of a point (R253). -/
def encodePoint (alg : Nat) (u : Point) : Bytes :=
  let n := coordBytes alg
  let q := (curve alg).affine u
  4 :: beBytes n q.1 ++ beBytes n q.2

/-- The public key of a private scalar. -/
def ecPublic (alg : Nat) (d : Bytes) : Bytes :=
  let c := curve alg
  encodePoint alg (c.mul c.base (beNat d) (orderBits alg))

/-- ECDH (R252): the x-coordinate of d·Q. -/
def ecdh (alg : Nat) (d peer : Bytes) : Bytes :=
  let c := curve alg
  match decodePoint alg peer with
  | some q => beBytes (coordBytes alg) (c.affine (c.mul q (beNat d) (orderBits alg))).1
  | none => []

/-! ## ECDSA (FIPS 186-5) -/

/-- The integer of a digest, truncated to the order's bit length (R169). -/
def digestInt (alg : Nat) (h : Bytes) : Nat := beNat h >>> (8 * h.length - orderBits alg)

/-- The per-message secret of extra random bits (R260): the first bitlen(n) + 64 bits drawn, reduced to [1, n − 1]. -/
def ecdsaSecret (alg : Nat) (rnd : Bytes) : Nat :=
  beNat rnd >>> (8 * rnd.length - (orderBits alg + 64)) % (curveOrder alg - 1) + 1

/-- A signature: curve code, private scalar, digest, the random bits the per-message secret is made of. -/
@[irreducible] def ecdsaSign (alg : Nat) (d h rnd : Bytes) : Bytes :=
  let c := curve alg
  let k := ecdsaSecret alg rnd
  let r := (c.affine (c.mul c.base k (orderBits alg))).1 % c.n
  let s := invMod c.n k * ((digestInt alg h + r * beNat d) % c.n) % c.n
  beBytes (orderBytes alg) r ++ beBytes (orderBytes alg) s

/-- Verification: curve code, public key, digest, signature. -/
@[irreducible] def ecdsaVerify (alg : Nat) (pub h sig : Bytes) : Bool :=
  let c := curve alg
  let r := beNat (sig.take (orderBytes alg))
  let s := beNat (sig.drop (orderBytes alg))
  match decodePoint alg pub with
  | none => false
  | some q =>
    if sig.length ≠ 2 * orderBytes alg ∨ r = 0 ∨ c.n ≤ r ∨ s = 0 ∨ c.n ≤ s then false
    else
      let w := invMod c.n s
      let u := c.add (c.mul c.base (digestInt alg h * w % c.n) (orderBits alg)) (c.mul q (r * w % c.n) (orderBits alg))
      decide (u.z ≠ 0) && decide ((c.affine u).1 % c.n = r)

end Sys2Proof.Crypto
end

