-- ==== Sys2Proof/Machine/Sha.lean ====
section
/-! DEFINITION. The hash functions of R295 by the algorithms of the standards R14 names: SHA-2 (FIPS 180-4), SHA-3 and SHAKE
(FIPS 202), HMAC (FIPS 198-1). PRESUMED, assumption log 2. -/

namespace Sys2Proof.Crypto

open Sys2Proof.Machine

/-! ## SHA-2 (FIPS 180-4) -/

/-- The round constants of SHA-384 and SHA-512; their upper halves are those of SHA-224 and SHA-256. -/
def shaK : List Nat :=
  [0x428A2F98D728AE22, 0x7137449123EF65CD, 0xB5C0FBCFEC4D3B2F, 0xE9B5DBA58189DBBC, 0x3956C25BF348B538]
    ++ [0x59F111F1B605D019, 0x923F82A4AF194F9B, 0xAB1C5ED5DA6D8118, 0xD807AA98A3030242, 0x12835B0145706FBE]
    ++ [0x243185BE4EE4B28C, 0x550C7DC3D5FFB4E2, 0x72BE5D74F27B896F, 0x80DEB1FE3B1696B1, 0x9BDC06A725C71235]
    ++ [0xC19BF174CF692694, 0xE49B69C19EF14AD2, 0xEFBE4786384F25E3, 0x0FC19DC68B8CD5B5, 0x240CA1CC77AC9C65]
    ++ [0x2DE92C6F592B0275, 0x4A7484AA6EA6E483, 0x5CB0A9DCBD41FBD4, 0x76F988DA831153B5, 0x983E5152EE66DFAB]
    ++ [0xA831C66D2DB43210, 0xB00327C898FB213F, 0xBF597FC7BEEF0EE4, 0xC6E00BF33DA88FC2, 0xD5A79147930AA725]
    ++ [0x06CA6351E003826F, 0x142929670A0E6E70, 0x27B70A8546D22FFC, 0x2E1B21385C26C926, 0x4D2C6DFC5AC42AED]
    ++ [0x53380D139D95B3DF, 0x650A73548BAF63DE, 0x766A0ABB3C77B2A8, 0x81C2C92E47EDAEE6, 0x92722C851482353B]
    ++ [0xA2BFE8A14CF10364, 0xA81A664BBC423001, 0xC24B8B70D0F89791, 0xC76C51A30654BE30, 0xD192E819D6EF5218]
    ++ [0xD69906245565A910, 0xF40E35855771202A, 0x106AA07032BBD1B8, 0x19A4C116B8D2D0C8, 0x1E376C085141AB53]
    ++ [0x2748774CDF8EEB99, 0x34B0BCB5E19B48A8, 0x391C0CB3C5C95A63, 0x4ED8AA4AE3418ACB, 0x5B9CCA4F7763E373]
    ++ [0x682E6FF3D6B2B8A3, 0x748F82EE5DEFB2FC, 0x78A5636F43172F60, 0x84C87814A1F0AB72, 0x8CC702081A6439EC]
    ++ [0x90BEFFFA23631E28, 0xA4506CEBDE82BDE9, 0xBEF9A3F7B2C67915, 0xC67178F2E372532B, 0xCA273ECEEA26619C]
    ++ [0xD186B8C721C0C207, 0xEADA7DD6CDE0EB1E, 0xF57D4F7FEE6ED178, 0x06F067AA72176FBA, 0x0A637DC5A2C898A6]
    ++ [0x113F9804BEF90DAE, 0x1B710B35131C471B, 0x28DB77F523047D84, 0x32CAAB7B40C72493, 0x3C9EBE0A15C9BEBC]
    ++ [0x431D67C49C100D4C, 0x4CC5D4BECB3E42B6, 0x597F299CFC657E2A, 0x5FCB6FAB3AD6FAEC, 0x6C44198C4A475817]

/-- The initial hash value of SHA-512; its upper halves are that of SHA-256. -/
def shaIv512 : List Nat :=
  [0x6A09E667F3BCC908, 0xBB67AE8584CAA73B, 0x3C6EF372FE94F82B, 0xA54FF53A5F1D36F1]
    ++ [0x510E527FADE682D1, 0x9B05688C2B3E6C1F, 0x1F83D9ABFB41BD6B, 0x5BE0CD19137E2179]

/-- The initial hash value of SHA-384; its lower halves are that of SHA-224. -/
def shaIv384 : List Nat :=
  [0xCBBB9D5DC1059ED8, 0x629A292A367CD507, 0x9159015A3070DD17, 0x152FECD8F70E5939]
    ++ [0x67332667FFC00B31, 0x8EB44A8768581511, 0xDB0C2E0D64F98FA7, 0x47B5481DBEFA4FA4]

/-- The six functions of FIPS 180-4: three numbers for each of Σ0 and Σ1 (rotations) and of σ0 and σ1 (two rotations and a
shift), and the width of a word in bits. -/
structure ShaRot where
  w : Nat
  b0 : Nat × Nat × Nat
  b1 : Nat × Nat × Nat
  s0 : Nat × Nat × Nat
  s1 : Nat × Nat × Nat
  deriving DecidableEq, Repr

def shaRot32 : ShaRot := { w := 32, b0 := (2, 13, 22), b1 := (6, 11, 25), s0 := (7, 18, 3), s1 := (17, 19, 10) }
def shaRot64 : ShaRot := { w := 64, b0 := (28, 34, 39), b1 := (14, 18, 41), s0 := (1, 8, 7), s1 := (19, 61, 6) }

/-- A word of `w` bits rotated right. -/
def rotr (w r x : Nat) : Nat := x >>> r + (x <<< (w - r)) % 2 ^ w

/-- Three rotations, XORed. -/
def shaBig (w : Nat) (r : Nat × Nat × Nat) (x : Nat) : Nat := Nat.xor (Nat.xor (rotr w r.1 x) (rotr w r.2.1 x)) (rotr w r.2.2 x)

/-- Two rotations and a shift, XORed. -/
def shaSmall (w : Nat) (r : Nat × Nat × Nat) (x : Nat) : Nat := Nat.xor (Nat.xor (rotr w r.1 x) (rotr w r.2.1 x)) (x >>> r.2.2)

/-- Ch and Maj. -/
def shaCh (w x y z : Nat) : Nat := Nat.xor (Nat.land x y) (Nat.land (2 ^ w - 1 - x) z)
def shaMaj (x y z : Nat) : Nat := Nat.xor (Nat.xor (Nat.land x y) (Nat.land x z)) (Nat.land y z)

/-- The eight working variables. -/
structure ShaVars where
  a : Nat
  b : Nat
  c : Nat
  d : Nat
  e : Nat
  f : Nat
  g : Nat
  h : Nat
  deriving DecidableEq, Repr

/-- The variables of eight words, and back. -/
def ShaVars.ofList (l : List Nat) : ShaVars :=
  let v (k : Nat) : Nat := l[k]?.getD 0
  ⟨v 0, v 1, v 2, v 3, v 4, v 5, v 6, v 7⟩
def ShaVars.toList (v : ShaVars) : List Nat := [v.a, v.b, v.c, v.d, v.e, v.f, v.g, v.h]

/-- One round with a constant and a schedule word. -/
def shaRound (r : ShaRot) (v : ShaVars) (k w : Nat) : ShaVars :=
  let t1 := v.h + shaBig r.w r.b1 v.e + shaCh r.w v.e v.f v.g + k + w
  let t2 := shaBig r.w r.b0 v.a + shaMaj v.a v.b v.c
  ⟨(t1 + t2) % 2 ^ r.w, v.a, v.b, v.c, (v.d + t1) % 2 ^ r.w, v.e, v.f, v.g⟩

/-- The schedule word that comes sixteen after the first of `w`. -/
def shaNext (r : ShaRot) (w : List Nat) : Nat :=
  (shaSmall r.w r.s1 (w[14]?.getD 0) + w[9]?.getD 0 + shaSmall r.w r.s0 (w[1]?.getD 0) + w.headD 0) % 2 ^ r.w

/-- The rounds over the constants: the sixteen schedule words from the next round's on. -/
def shaRounds (r : ShaRot) : List Nat → List Nat → ShaVars → ShaVars
  | [], _, v => v
  | k :: ks, w, v => shaRounds r ks (w.drop 1 ++ [shaNext r w]) (shaRound r v k (w.headD 0))

/-- One block. -/
def shaBlock (r : ShaRot) (ks h : List Nat) (block : Bytes) : List Nat :=
  List.zipWith (fun x y => (x + y) % 2 ^ r.w) h (shaRounds r ks ((cutAt (r.w / 8) block).map beNat) (ShaVars.ofList h)).toList

/-- The padding of a message for blocks of `b` bytes: a one bit, zeros, and the length in bits in the last eighth. -/
def shaPad (b : Nat) (m : Bytes) : Bytes :=
  m ++ [0x80] ++ zeros ((2 * b - b / 8 - 1 - m.length % b) % b) ++ beBytes (b / 8) (8 * m.length)

/-- The first `n` words of the final hash value, as one number. -/
def shaRun (r : ShaRot) (ks iv : List Nat) (n : Nat) (m : Bytes) : Nat :=
  (((cutAt (2 * r.w) (shaPad (2 * r.w) m)).foldl (shaBlock r ks) iv).take n).foldl (fun a x => 2 ^ r.w * a + x) 0

/-- The constants of SHA-224 and SHA-256. -/
def shaK32 : List Nat := (shaK.take 64).map (· / 2 ^ 32)

/-- SHA-224, SHA-256, SHA-384 and SHA-512. -/
@[irreducible] def sha224 (m : Bytes) : BitVec 224 := BitVec.ofNat 224 (shaRun shaRot32 shaK32 (shaIv384.map (· % 2 ^ 32)) 7 m)
@[irreducible] def sha256 (m : Bytes) : BitVec 256 := BitVec.ofNat 256 (shaRun shaRot32 shaK32 (shaIv512.map (· / 2 ^ 32)) 8 m)
@[irreducible] def sha384 (m : Bytes) : BitVec 384 := BitVec.ofNat 384 (shaRun shaRot64 shaK shaIv384 6 m)
@[irreducible] def sha512 (m : Bytes) : BitVec 512 := BitVec.ofNat 512 (shaRun shaRot64 shaK shaIv512 8 m)

/-! ## Keccak (FIPS 202) -/

/-- Lane `k` of a list of lanes. -/
def wordAt (l : List Nat) (k : Nat) : Nat := l[k]?.getD 0

/-- Lane (x, y) of a state of 25 lanes of 64 bits. -/
def lane (a : List Nat) (x y : Nat) : Nat := wordAt a (x % 5 + 5 * (y % 5))

/-- A state from its lanes. -/
def lanes (f : Nat → Nat → Nat) : List Nat := (List.range 25).map fun k => f (k % 5) (k / 5)

/-- A lane rotated left. -/
def rotl64 (r x : Nat) : Nat := (x <<< r) % 2 ^ 64 + x >>> (64 - r)

/-- The rotations of ρ, lane (0, 0) first. -/
def rhoOffsets : List Nat := [0, 1, 62, 28, 27, 36, 44, 6, 55, 20] ++ [3, 10, 43, 25, 39, 41, 45, 15, 21, 8] ++ [18, 2, 61, 56, 14]

/-- The round constants of ι. -/
def iotaK : List Nat :=
  [0x0000000000000001, 0x0000000000008082, 0x800000000000808A, 0x8000000080008000, 0x000000000000808B, 0x0000000080000001]
    ++ [0x8000000080008081, 0x8000000000008009, 0x000000000000008A, 0x0000000000000088, 0x0000000080008009, 0x000000008000000A]
    ++ [0x000000008000808B, 0x800000000000008B, 0x8000000000008089, 0x8000000000008003, 0x8000000000008002, 0x8000000000000080]
    ++ [0x000000000000800A, 0x800000008000000A, 0x8000000080008081, 0x8000000000008080, 0x0000000080000001, 0x8000000080008008]

/-- θ. -/
def keccakTheta (a : List Nat) : List Nat :=
  let c := (List.range 5).map fun x =>
    Nat.xor (Nat.xor (lane a x 0) (lane a x 1)) (Nat.xor (Nat.xor (lane a x 2) (lane a x 3)) (lane a x 4))
  let d := (List.range 5).map fun x => Nat.xor (wordAt c ((x + 4) % 5)) (rotl64 1 (wordAt c ((x + 1) % 5)))
  lanes fun x y => Nat.xor (lane a x y) (wordAt d x)

/-- ρ, then π: lane (x, y) comes from lane (x + 3 y, x). -/
def keccakRhoPi (a : List Nat) : List Nat :=
  let b := List.zipWith rotl64 rhoOffsets a
  lanes fun x y => lane b (x + 3 * y) x

/-- χ, then ι. -/
def keccakChiIota (rc : Nat) (a : List Nat) : List Nat :=
  lanes fun x y =>
    Nat.xor (Nat.xor (lane a x y) (Nat.land (2 ^ 64 - 1 - lane a (x + 1) y) (lane a (x + 2) y))) (if x + y = 0 then rc else 0)

/-- Keccak-f[1600]. -/
def keccakF (a : List Nat) : List Nat := iotaK.foldl (fun s rc => keccakChiIota rc (keccakRhoPi (keccakTheta s))) a

/-- The bytes of a state. -/
def stateBytes (a : List Nat) : Bytes := a.flatMap (leBytes 8)

/-- Absorb one block of at most 200 bytes. -/
def keccakAbsorb (a : List Nat) (block : Bytes) : List Nat :=
  keccakF (List.zipWith Nat.xor a ((cutAt 8 ((block ++ zeros 200).take 200)).map leNat))

/-- Squeeze `n` further blocks of `rate` bytes. -/
def keccakSqueeze (rate : Nat) : Nat → List Nat → Bytes
  | 0, _ => []
  | n + 1, a => (stateBytes a).take rate ++ keccakSqueeze rate n (keccakF a)

/-- The padding of a message: the suffix with the first padding bit, zeros, and a last bit. -/
def keccakPad (rate suffix : Nat) (m : Bytes) : Bytes :=
  let p := m ++ [BitVec.ofNat 8 suffix] ++ zeros (rate - 1 - m.length % rate)
  p.take (p.length - 1) ++ [p.getLastD 0 ||| 0x80]

/-- The sponge: rate in bytes, suffix, output length, message. -/
def sponge (rate suffix out : Nat) (m : Bytes) : Bytes :=
  let a := (cutAt rate (keccakPad rate suffix m)).foldl keccakAbsorb (List.replicate 25 0)
  (keccakSqueeze rate (ceilDiv out rate) a).take out

/-- The output length of SHA-3 by its HALG, 0x11 to 0x14 (R295). -/
def sha3Len (h : Nat) : Nat := if h = 0x11 then 28 else if h = 0x12 then 32 else if h = 0x13 then 48 else 64

/-- SHA-3, by HALG. -/
@[irreducible] def sha3 (h : Nat) (m : Bytes) : Bytes := sponge (200 - 2 * sha3Len h) 0x06 (sha3Len h) m

/-- SHAKE128 (HALG 0x21) and SHAKE256 (0x22): output length, message. -/
@[irreducible] def shake (h out : Nat) (m : Bytes) : Bytes := sponge (if h = 0x21 then 168 else 136) 0x1F out m

/-! ## HMAC (FIPS 198-1) -/

/-- The digest of a HALG other than SHAKE (R295). -/
def digest (h : Nat) (m : Bytes) : Bytes :=
  if h = 0x01 then beBytes 28 (sha224 m).toNat
  else if h = 0x02 then beBytes 32 (sha256 m).toNat
  else if h = 0x03 then beBytes 48 (sha384 m).toNat
  else if h = 0x04 then beBytes 64 (sha512 m).toNat
  else sha3 h m

/-- The block or rate in bytes of a HALG (R295). -/
def hashBlock (h : Nat) : Nat := if h ≤ 0x02 then 64 else if h ≤ 0x04 then 128 else 200 - 2 * sha3Len h

/-- HMAC: HALG, key, message. -/
@[irreducible] def hmac (h : Nat) (k m : Bytes) : Bytes :=
  let b := hashBlock h
  let k0 := ((if b < k.length then digest h k else k) ++ zeros b).take b
  digest h (k0.map (· ^^^ 0x5C) ++ digest h (k0.map (· ^^^ 0x36) ++ m))

end Sys2Proof.Crypto
end

