-- ==== Sys2Proof/Machine/Edwards.lean ====
section
/-! DEFINITION. Pure Ed25519 and Ed448 (RFC 8032), X25519 and X448 (RFC 7748), standards R14 names, with the cofactorless
verification of R254, the point checks of R255 and the parts of R266. PRESUMED, assumption log 2. -/

namespace Sys2Proof.Crypto

open Sys2Proof.Machine

/-- The order of an Edwards curve's group (RFC 8032). -/
def edOrder (alg : Nat) : Nat :=
  if alg = 0x18 then 2 ^ 252 + 27742317777372353535851937790883648493
  else 2 ^ 446 - 13818066809895115352007386748515426880336692474882178609894547503885

/-- The field of Curve25519 (codes 0x18 and 0x1A) or Curve448. -/
def edField (alg : Nat) : Nat := if alg = 0x18 ∨ alg = 0x1A then 2 ^ 255 - 19 else 2 ^ 448 - 2 ^ 224 - 1

/-- Bytes of an encoding (R253). -/
def edBytes (alg : Nat) : Nat := if alg = 0x18 ∨ alg = 0x1A then 32 else if alg = 0x19 then 57 else 56

/-! ## a x² + y² = 1 + d x² y², points as (X, Y, Z) with x = X / Z and y = Y / Z -/

/-- a: −1 for Ed25519, 1 for Ed448; d: −121665 / 121666 and −39081. -/
def edA (alg : Nat) : Nat := if alg = 0x18 then edField alg - 1 else 1
def edD (alg : Nat) : Nat :=
  if alg = 0x18 then 0x52036CEE2B6FFE738CC740797779E89800700A4D4141D8AB75EB4DCA135978A3 else edField alg - 39081

/-- A point in projective coordinates. -/
structure EdPoint where
  x : Nat
  y : Nat
  z : Nat
  deriving DecidableEq, Repr

def EdPoint.neutral : EdPoint := ⟨0, 1, 1⟩

/-- The base point. -/
def edBase (alg : Nat) : EdPoint :=
  if alg = 0x18 then
    ⟨0x216936D3CD6E53FEC0A4E231FDD6DC5C692CC7609525A7B2C9562D608F25D51A,
     0x6666666666666666666666666666666666666666666666666666666666666658, 1⟩
  else
    ⟨224580040295924300187604334099896036246789641632564134246125461686950415467406032909029192869357953282578032075146446173674602635247710,
     298819210078481492676017930443930673437544040154080242095928241372331506189835876003536878655418784733982303233503462500531545062832660, 1⟩

/-- Addition, complete on these curves. -/
def edAdd (alg : Nat) (u v : EdPoint) : EdPoint :=
  let p := edField alg
  let a := u.z * v.z % p
  let b := a * a % p
  let c := u.x * v.x % p
  let d := u.y * v.y % p
  let e := edD alg * (c * d % p) % p
  let f := subMod p b e
  let g := (b + e) % p
  ⟨a * f % p * subMod p ((u.x + u.y) * (v.x + v.y) % p) ((c + d) % p) % p, a * g % p * subMod p d (edA alg * c % p) % p, f * g % p⟩

/-- Scalar multiplication over the low `bits` bits of `k`. -/
def edMul (alg : Nat) (u : EdPoint) (k : Nat) : Nat → EdPoint
  | 0 => EdPoint.neutral
  | bits + 1 =>
    let h := edMul alg u (k / 2) bits
    let t := edAdd alg h h
    if k % 2 = 1 then edAdd alg t u else t

/-- Two points are the same. -/
def edSame (alg : Nat) (u v : EdPoint) : Bool :=
  let p := edField alg
  decide (u.x * v.z % p = v.x * u.z % p) && decide (u.y * v.z % p = v.y * u.z % p)

/-- The encoding: y, and the low bit of x in the top bit. -/
def edEncode (alg : Nat) (u : EdPoint) : Bytes :=
  let p := edField alg
  let i := invMod p u.z
  leBytes (edBytes alg) (u.y * i % p + u.x * i % p % 2 * 2 ^ (8 * edBytes alg - 1))

/-- A square root modulo the field's prime, 5 modulo 8 or 3 modulo 4, where there is one. -/
def edRoot (alg v : Nat) : Option Nat :=
  let p := edField alg
  let r := if alg = 0x18 then powMod p 255 v ((p + 3) / 8) else powMod p 448 v ((p + 1) / 4)
  if r * r % p = v % p then some r
  else
    let q := r * powMod p 255 2 ((p - 1) / 4) % p
    if alg = 0x18 ∧ q * q % p = v % p then some q else none

/-- The point of a canonical encoding. -/
def edDecode (alg : Nat) (b : Bytes) : Option EdPoint :=
  let p := edField alg
  let w := leNat b
  let y := w % 2 ^ (8 * edBytes alg - 1)
  let sign := w / 2 ^ (8 * edBytes alg - 1)
  if b.length ≠ edBytes alg ∨ p ≤ y then none
  else
    let y2 := y * y % p
    match edRoot alg (subMod p 1 y2 * invMod p (subMod p (edA alg) (edD alg * y2 % p)) % p) with
    | none => none
    | some x => if x = 0 ∧ sign = 1 then none else some ⟨if x % 2 = sign then x else p - x, y, 1⟩

/-- The cofactor: 8 for Curve25519, 4 for Curve448 (R255). -/
def cofactor (alg : Nat) : Nat := if alg = 0x18 ∨ alg = 0x1A then 8 else 4

/-- A point whose order does not divide the cofactor (R255 check 6). -/
def edPointOk (alg : Nat) (b : Bytes) : Bool :=
  match edDecode alg b with
  | none => false
  | some u => !edSame alg (edMul alg u (cofactor alg) 4) EdPoint.neutral

/-! ## EdDSA (RFC 8032) -/

/-- The hash of EdDSA: SHA-512, or SHAKE256 to 114 bytes. -/
def edHash (alg : Nat) (m : Bytes) : Bytes := if alg = 0x18 then beBytes 64 (sha512 m).toNat else shake 0x22 114 m

/-- dom4 with no prehash and an empty context, for Ed448. -/
def edDom (alg : Nat) : Bytes := if alg = 0x18 then [] else [0x53, 0x69, 0x67, 0x45, 0x64, 0x34, 0x34, 0x38, 0, 0]

/-- The secret scalar's bytes, with the fixed bits set. -/
def edClamp (alg : Nat) (b : Bytes) : Bytes :=
  let n := leNat b
  if alg = 0x18 then leBytes 32 (n % 2 ^ 254 / 8 * 8 + 2 ^ 254) else leBytes 57 (n % 2 ^ 447 / 4 * 4 + 2 ^ 447)

/-- The expanded key of a seed: scalar, then prefix (R266). -/
@[irreducible] def edExpand (alg : Nat) (seed : Bytes) : Bytes :=
  let h := edHash alg seed
  edClamp alg (h.take (edBytes alg)) ++ h.drop (edBytes alg)

/-- Bits of a scalar or a reduced hash. -/
def edBits (alg : Nat) : Nat := if alg = 0x18 then 256 else 456

/-- A multiple of the base point, encoded. -/
def edTimesBase (alg k : Nat) : Bytes := edEncode alg (edMul alg (edBase alg) k (edBits alg))

/-- The encoded point R of a nonce hash (R266). -/
@[irreducible] def edCommit (alg : Nat) (nonce : Bytes) : Bytes := edTimesBase alg (leNat nonce % edOrder alg)

/-- S from the expanded key, the nonce hash and the challenge hash (R266). -/
@[irreducible] def edFinish (alg : Nat) (expanded nonce challenge : Bytes) : Bytes :=
  leBytes (edBytes alg) ((leNat nonce + leNat challenge * leNat (expanded.take (edBytes alg))) % edOrder alg)

/-- The public key of a seed. -/
def edPublic (alg : Nat) (seed : Bytes) : Bytes := edTimesBase alg (leNat ((edExpand alg seed).take (edBytes alg)))

/-- A signature: algorithm code, seed, message. -/
@[irreducible] def eddsaSign (alg : Nat) (seed m : Bytes) : Bytes :=
  let x := edExpand alg seed
  let nonce := edHash alg (edDom alg ++ x.drop (edBytes alg) ++ m)
  let r := edCommit alg nonce
  r ++ edFinish alg x nonce (edHash alg (edDom alg ++ r ++ edPublic alg seed ++ m))

/-- Verification by [S]B = R + [k]A (R254): algorithm code, public key, signature, message. -/
@[irreducible] def eddsaVerify (alg : Nat) (pub sig m : Bytes) : Bool :=
  let r := sig.take (edBytes alg)
  let s := leNat (sig.drop (edBytes alg))
  match edDecode alg pub, edDecode alg r with
  | some a, some u =>
    let k := leNat (edHash alg (edDom alg ++ r ++ pub ++ m)) % edOrder alg
    decide (sig.length = 2 * edBytes alg) && decide (s < edOrder alg)
      && edSame alg (edMul alg (edBase alg) s (edBits alg)) (edAdd alg u (edMul alg a k (edBits alg)))
  | _, _ => false

/-! ## X25519 and X448 (RFC 7748) -/

/-- (A − 2) / 4 of the Montgomery curve. -/
def montA24 (alg : Nat) : Nat := if alg = 0x1A then 121665 else 39081

/-- The two ladder points, each as (X, Z). -/
structure Ladder where
  x2 : Nat
  z2 : Nat
  x3 : Nat
  z3 : Nat
  deriving DecidableEq, Repr

/-- The ladder's points exchanged. -/
def Ladder.swap (l : Ladder) : Ladder := ⟨l.x3, l.z3, l.x2, l.z2⟩

/-- One step of the ladder: the first point doubled, the second one the sum, with difference `u`. -/
def ladderStep (alg u : Nat) (l : Ladder) : Ladder :=
  let p := edField alg
  let a := (l.x2 + l.z2) % p
  let b := subMod p l.x2 l.z2
  let aa := a * a % p
  let bb := b * b % p
  let e := subMod p aa bb
  let da := subMod p l.x3 l.z3 * a % p
  let cb := (l.x3 + l.z3) * b % p
  let d := subMod p da cb
  ⟨aa * bb % p, e * ((aa + montA24 alg * e) % p) % p, (da + cb) * (da + cb) % p, u * (d * d % p) % p⟩

/-- The ladder over the low `bits` bits of `k`. -/
def ladder (alg u k : Nat) : Nat → Ladder
  | 0 => ⟨1, 0, u, 1⟩
  | bits + 1 =>
    let l := ladder alg u (k / 2) bits
    if k % 2 = 1 then (ladderStep alg u l.swap).swap else ladderStep alg u l

/-- The scalar of a private key, with the fixed bits set. -/
def montScalar (alg : Nat) (k : Bytes) : Nat :=
  let n := leNat k
  if alg = 0x1A then n % 2 ^ 254 / 8 * 8 + 2 ^ 254 else n % 2 ^ 447 / 4 * 4 + 2 ^ 447

/-- X25519 and X448: algorithm code, private key, u. -/
@[irreducible] def xdh (alg : Nat) (k u : Bytes) : Bytes :=
  let p := edField alg
  let w := (if alg = 0x1A then leNat u % 2 ^ 255 else leNat u) % p
  let l := ladder alg w (montScalar alg k) (8 * edBytes alg)
  leBytes (edBytes alg) (l.x2 * invMod p l.z2 % p)

/-- The public key of a private key. -/
def xdhPublic (alg : Nat) (k : Bytes) : Bytes := xdh alg k (leBytes (edBytes alg) (if alg = 0x1A then 9 else 5))

/-- Some point of a Montgomery curve has the coordinate u: u³ + A·u² + u is a square modulo p, by Euler's criterion. -/
def montOnCurve (alg u : Nat) : Bool :=
  let p := edField alg
  let a := if alg = 0x1A then 486662 else 156326
  let y2 := (u * u % p * u + a * (u * u % p) + u) % p
  decide (y2 = 0) || decide (powMod p 512 y2 ((p - 1) / 2) = 1)

/-- A u below p that is a point's on the curve, of an order that does not divide the cofactor (R255 check 6). -/
def montOk (alg : Nat) (b : Bytes) : Bool :=
  decide (b.length = edBytes alg) && decide (leNat b < edField alg) && montOnCurve alg (leNat b)
    && decide ((ladder alg (leNat b) (cofactor alg) 4).z2 ≠ 0)

end Sys2Proof.Crypto
end

