-- ==== Sys2Proof/Machine/Ntt.lean ====
section
/-! DEFINITION. What ML-KEM (FIPS 203) and ML-DSA (FIPS 204) share: polynomials of 256 coefficients, their number-theoretic
transform, packing, and rejection sampling from SHAKE. PRESUMED, assumption log 2. -/

namespace Sys2Proof.Crypto

open Sys2Proof.Machine

/-- A polynomial: its 256 coefficients, reduced, the constant one first. -/
abbrev Poly := List Nat

/-- A modulus, with a root of unity of order `2 ^ (depth + 1)` and the depth of its transform. -/
structure Ring where
  q : Nat
  root : Nat
  depth : Nat
  deriving DecidableEq, Repr

/-- The low `n` bits of `k`, reversed. -/
def bitRev : Nat → Nat → Nat
  | 0, _ => 0
  | n + 1, k => k % 2 * 2 ^ n + bitRev n (k / 2)

/-- The factors of the transform's nodes, numbered like a heap from 1, and their inverses. -/
def Ring.zetas (r : Ring) : List Nat := (List.range (2 ^ r.depth)).map fun k => powMod r.q 12 r.root (bitRev r.depth k)
def Ring.invZetas (r : Ring) : List Nat := r.zetas.map (invMod r.q)

/-- One node of the transform: both halves combined, then transformed below. -/
def nttNode (q : Nat) (z : List Nat) : Nat → Nat → Poly → Poly
  | 0, _, f => f
  | d + 1, k, f =>
    let h := f.length / 2
    let a := f.take h
    let b := (f.drop h).map fun x => z[k]?.getD 0 * x % q
    nttNode q z d (2 * k) (List.zipWith (fun x y => (x + y) % q) a b)
      ++ nttNode q z d (2 * k + 1) (List.zipWith (fun x y => subMod q x y) a b)

/-- One node of the inverse transform, without its factor one half. -/
def invNode (q : Nat) (z : List Nat) : Nat → Nat → Poly → Poly
  | 0, _, f => f
  | d + 1, k, f =>
    let h := f.length / 2
    let u := invNode q z d (2 * k) (f.take h)
    let v := invNode q z d (2 * k + 1) (f.drop h)
    List.zipWith (fun x y => (x + y) % q) u v ++ List.zipWith (fun x y => z[k]?.getD 0 * subMod q x y % q) u v

/-- The transform and its inverse. -/
def Ring.ntt (r : Ring) (z : List Nat) (f : Poly) : Poly := nttNode r.q z r.depth 1 f
def Ring.intt (r : Ring) (z : List Nat) (f : Poly) : Poly :=
  let s := invMod r.q (2 ^ r.depth)
  (invNode r.q z r.depth 1 f).map fun x => s * x % r.q

/-- Sums and differences of polynomials. -/
def polyAdd (q : Nat) (f g : Poly) : Poly := List.zipWith (fun x y => (x + y) % q) f g
def polySub (q : Nat) (f g : Poly) : Poly := List.zipWith (fun x y => subMod q x y) f g
def polyZero : Poly := List.replicate 256 0

/-- A row of transformed polynomials times a column of them, with the ring's product. -/
def dotRow (q : Nat) (mul : Poly → Poly → Poly) (row col : List Poly) : Poly :=
  (List.zipWith mul row col).foldl (polyAdd q) polyZero

/-- Coefficients of `w` bits each, packed least significant first. -/
def packBits (w : Nat) (f : Poly) : Bytes := leBytes (w * f.length / 8) (f.foldr (fun x a => x % 2 ^ w + 2 ^ w * a) 0)

/-- `n` numbers of `w` bits from a number, least significant first. -/
def digits (w : Nat) : Nat → Nat → List Nat
  | 0, _ => []
  | n + 1, x => x % 2 ^ w :: digits w n (x / 2 ^ w)

/-- The 256 coefficients of `w` bits packed in a string. -/
def unpackBits (w : Nat) (b : Bytes) : Poly := digits w 256 (leNat b)

/-- The string cut into `n` pieces of `len` bytes. -/
def pieces (len n : Nat) (b : Bytes) : List Bytes := (List.range n).map fun i => slice b (i * len) len

/-- The state of SHAKE after absorbing a message. -/
def shakeState (rate : Nat) (m : Bytes) : List Nat :=
  (cutAt rate (keccakPad rate 0x1F m)).foldl keccakAbsorb (List.replicate 25 0)

/-- Squeeze until `want` numbers are accepted: `f` says which ones the bytes of one block give. The fuel of 64 blocks is
never used up by a run of SHAKE. -/
def sampleFrom (rate want : Nat) (f : Bytes → List Nat) : Nat → List Nat → List Nat → List Nat
  | 0, _, acc => acc
  | n + 1, a, acc =>
    if want ≤ acc.length then acc.take want
    else sampleFrom rate want f n (keccakF a) (acc ++ f ((stateBytes a).take rate))

/-- Rejection sampling from SHAKE128 (rate 168) or SHAKE256 (rate 136) of a seed. -/
def sampleXof (rate want : Nat) (f : Bytes → List Nat) (seed : Bytes) : List Nat :=
  sampleFrom rate want f 64 (shakeState rate seed) []

/-- The 24-bit groups of a block. -/
def triples (b : Bytes) : List Nat := (cutAt 3 b).map leNat

end Sys2Proof.Crypto
end

