-- ==== Sys2Proof/Machine/MlDsa.lean ====
section
/-! DEFINITION. ML-DSA by the algorithms of FIPS 204, a standard R14 names, with the budget of 128 candidates of R282 (R274,
R278). PRESUMED, assumption log 2. -/

namespace Sys2Proof.Crypto

open Sys2Proof.Machine

/-- The ring of ML-DSA, and its transform's factors. -/
def dsaQ : Nat := 8380417
def dsaRing : Ring := { q := dsaQ, root := 1753, depth := 8 }
def dsaZetas : List Nat := dsaRing.zetas
def dsaInvZetas : List Nat := dsaRing.invZetas

/-- The constants of a parameter set; λ is given as the length λ / 4 of the commitment hash, γ₁ as its logarithm. -/
structure DsaSet where
  tau : Nat
  clen : Nat
  g1 : Nat
  gamma2 : Nat
  k : Nat
  l : Nat
  eta : Nat
  beta : Nat
  omega : Nat
  deriving DecidableEq, Repr

def dsaSet (alg : Nat) : DsaSet :=
  if alg = 0x28 then ⟨39, 32, 17, 95232, 4, 4, 2, 78, 80⟩
  else if alg = 0x29 then ⟨49, 48, 19, 261888, 6, 5, 4, 196, 55⟩
  else ⟨60, 64, 19, 261888, 8, 7, 2, 120, 75⟩

def dsaNtt (f : Poly) : Poly := dsaRing.ntt dsaZetas f
def dsaIntt (f : Poly) : Poly := dsaRing.intt dsaInvZetas f

/-- The product of two transformed polynomials. -/
def dsaMul (f g : Poly) : Poly := List.zipWith (fun x y => x * y % dsaQ) f g

/-- The absolute value of a reduced coefficient taken to the middle of its range, and the largest one of a vector. -/
def centred (x : Nat) : Nat := min x (dsaQ - x)
def dsaNorm (v : List Poly) : Nat := (v.flatMap fun f => f.map centred).foldl max 0

/-- H: SHAKE256. -/
def dsaH (n : Nat) (m : Bytes) : Bytes := shake 0x22 n m

/-! ## Sampling -/

/-- RejNTTPoly: entry (r, s) of the matrix comes from ρ ‖ s ‖ r. -/
def dsaSample (rho : Bytes) (r s : Nat) : Poly :=
  sampleXof 168 256 (fun b => ((triples b).map (· % 2 ^ 23)).filter fun c => decide (c < dsaQ))
    (rho ++ [BitVec.ofNat 8 s, BitVec.ofNat 8 r])

/-- ExpandA. -/
def dsaMatrix (p : DsaSet) (rho : Bytes) : List (List Poly) :=
  (List.range p.k).map fun r => (List.range p.l).map fun s => dsaSample rho r s

/-- The coefficient of a nibble, where it is accepted. -/
def dsaSmall (eta x : Nat) : Option Nat :=
  if eta = 2 then (if x < 15 then some (subMod dsaQ 2 (x % 5)) else none) else if x < 9 then some (subMod dsaQ 4 x) else none

/-- RejBoundedPoly, number `n`. -/
def dsaSecret (eta : Nat) (seed : Bytes) (n : Nat) : Poly :=
  sampleXof 136 256 (fun b => b.flatMap fun x => [x.toNat % 16, x.toNat / 16].filterMap (dsaSmall eta)) (seed ++ leBytes 2 n)

/-- ExpandMask: `l` polynomials, numbered from κ on. -/
def dsaMask (p : DsaSet) (seed : Bytes) (kappa : Nat) : List Poly :=
  (List.range p.l).map fun r =>
    (unpackBits (p.g1 + 1) (dsaH (32 * (p.g1 + 1)) (seed ++ leBytes 2 (kappa + r)))).map fun x => subMod dsaQ (2 ^ p.g1) x

/-- One exchange of SampleInBall: the coefficient at `i` comes from `j`, which takes a sign. -/
def ballSet (f : Poly) (i j sign : Nat) : Poly := (f.set i (f[j]?.getD 0)).set j (if sign = 1 then dsaQ - 1 else 1)

/-- SampleInBall from the bytes that follow the eight of signs: each index is the next byte not above `i`. -/
def ballLoop (signs : Nat) : Bytes → Nat → Nat → Poly → Poly
  | [], _, _, f => f
  | b :: t, i, n, f =>
    if 256 ≤ i then f
    else if b.toNat ≤ i then ballLoop signs t (i + 1) (n + 1) (ballSet f i b.toNat (signs / 2 ^ n % 2))
    else ballLoop signs t i n f

/-- SampleInBall. -/
def dsaBall (p : DsaSet) (c : Bytes) : Poly :=
  let b := dsaH 2048 c
  ballLoop (leNat (b.take 8)) (b.drop 8) (256 - p.tau) 0 polyZero

/-! ## Rounding and hints -/

/-- Power2Round: t₁, and t₀ reduced. -/
def round13 (x : Nat) : Nat × Nat :=
  let r := x % 8192
  if r ≤ 4096 then (x / 8192, r) else (x / 8192 + 1, dsaQ + r - 8192)

/-- Decompose: the high bits, and the low bits reduced; where the high bits would span to q − 1 they are 0 and the low bits one
less. -/
def decompose (gamma2 x : Nat) : Nat × Nat :=
  let r := x % (2 * gamma2)
  if r ≤ gamma2 then (if x = dsaQ - 1 then (0, dsaQ - 1) else (x / (2 * gamma2), r))
  else if x / (2 * gamma2) + 1 = (dsaQ - 1) / (2 * gamma2) then (0, dsaQ + r - 2 * gamma2 - 1)
  else (x / (2 * gamma2) + 1, dsaQ + r - 2 * gamma2)

def highBits (gamma2 x : Nat) : Nat := (decompose gamma2 x).1
def lowBits (gamma2 x : Nat) : Nat := (decompose gamma2 x).2

/-- UseHint. -/
def useHint (gamma2 h x : Nat) : Nat :=
  let m := (dsaQ - 1) / (2 * gamma2)
  let d := decompose gamma2 x
  if h = 0 then d.1 else if 0 < d.2 ∧ d.2 ≤ gamma2 then (d.1 + 1) % m else (d.1 + m - 1) % m

/-- w1Encode. -/
def encodeW1 (p : DsaSet) (w : List Poly) : Bytes := w.flatMap (packBits (if p.gamma2 = 95232 then 6 else 4))

/-- HintBitPack: the positions of the ones, then the running counts. -/
def packHint (p : DsaSet) (h : List Poly) : Bytes :=
  let at1 := h.map fun f => (List.range 256).filter fun i => decide (f[i]?.getD 0 = 1)
  let pos := (at1.flatten ++ List.replicate p.omega 0).take p.omega
  let counts := (List.range p.k).map fun i => ((at1.take (i + 1)).map (·.length)).sum
  (pos ++ counts).map (BitVec.ofNat 8)

/-- Strictly rising. -/
def rising : List Nat → Bool
  | a :: b :: t => decide (a < b) && rising (b :: t)
  | _ => true

/-- HintBitUnpack; `none` for an encoding that breaks the standard's rules. -/
def unpackHint (p : DsaSet) (b : Bytes) : Option (List Poly) :=
  let pos := (b.take p.omega).map (·.toNat)
  let counts := (b.drop p.omega).map (·.toNat)
  let last := counts.getLastD 0
  let lows := 0 :: counts
  let parts := (List.range p.k).map fun i => (pos.take (counts[i]?.getD 0)).drop (lows[i]?.getD 0)
  let order := (List.zipWith (fun x y => decide (x ≤ y)) lows counts).all id
  if order && decide (last ≤ p.omega) && parts.all rising && (pos.drop last).all (fun x => decide (x = 0)) then
    some (parts.map fun l => (List.range 256).map fun i => if l.contains i then 1 else 0)
  else none

/-! ## Keys -/

/-- What a seed ξ expands to (FIPS 204, ML-DSA.KeyGen_internal). -/
structure DsaKey where
  a : List (List Poly)
  s1 : List Poly
  s2 : List Poly
  t0 : List Poly
  k : Bytes
  pk : Bytes
  deriving DecidableEq, Repr

def dsaKey (alg : Nat) (seed : Bytes) : DsaKey :=
  let p := dsaSet alg
  let h := dsaH 128 (seed ++ [BitVec.ofNat 8 p.k, BitVec.ofNat 8 p.l])
  let rho := h.take 32
  let a := dsaMatrix p rho
  let s1 := (List.range p.l).map fun r => dsaSecret p.eta (slice h 32 64) r
  let s2 := (List.range p.k).map fun r => dsaSecret p.eta (slice h 32 64) (r + p.l)
  let s1h := s1.map dsaNtt
  let t := List.zipWith (fun row e => (polyAdd dsaQ (dsaIntt (dotRow dsaQ dsaMul row s1h)) e).map round13) a s2
  { a := a, s1 := s1h, s2 := s2.map dsaNtt, t0 := t.map fun f => dsaNtt (f.map (·.2)), k := h.drop 96
    pk := rho ++ t.flatMap fun f => packBits 10 (f.map (·.1)) }

/-- The public key of a seed. -/
def dsaPublic (alg : Nat) (seed : Bytes) : Bytes := (dsaKey alg seed).pk

/-- tr of a seed (R275): the hash of its public key. -/
@[irreducible] def mldsaTr (alg : Nat) (seed : Bytes) : Bytes := dsaH 64 (dsaPublic alg seed)

/-! ## Signing and verifying -/

/-- One candidate (R282): the signature, where it passes the norm and hint checks. -/
def dsaCandidate (p : DsaSet) (x : DsaKey) (mu seed : Bytes) (kappa : Nat) : Option Bytes :=
  let y := dsaMask p seed kappa
  let yh := y.map dsaNtt
  let w := x.a.map fun row => dsaIntt (dotRow dsaQ dsaMul row yh)
  let c := dsaH p.clen (mu ++ encodeW1 p (w.map fun f => f.map (highBits p.gamma2)))
  let ch := dsaNtt (dsaBall p c)
  let z := List.zipWith (fun f s => polyAdd dsaQ f (dsaIntt (dsaMul ch s))) y x.s1
  let r := List.zipWith (fun f s => polySub dsaQ f (dsaIntt (dsaMul ch s))) w x.s2
  let ct0 := x.t0.map fun t => dsaIntt (dsaMul ch t)
  let h := List.zipWith (fun f g => List.zipWith (fun a b =>
    if highBits p.gamma2 a = highBits p.gamma2 ((a + b) % dsaQ) then 0 else 1) f g) r ct0
  if 2 ^ p.g1 - p.beta ≤ dsaNorm z ∨ p.gamma2 - p.beta ≤ dsaNorm (r.map fun f => f.map (lowBits p.gamma2))
      ∨ p.gamma2 ≤ dsaNorm ct0 ∨ p.omega < (h.map fun f => f.sum).sum then none
  else some (c ++ z.flatMap (fun f => packBits (p.g1 + 1) (f.map fun a => subMod dsaQ (2 ^ p.g1) a)) ++ packHint p h)

/-- The lowest-numbered candidate that passes, of `n` from `kappa` on. -/
def dsaTry (p : DsaSet) (x : DsaKey) (mu seed : Bytes) : Nat → Nat → Option Bytes
  | 0, _ => none
  | n + 1, kappa =>
    match dsaCandidate p x mu seed kappa with
    | some s => some s
    | none => dsaTry p x mu seed n (kappa + p.l)

/-- A signature of a message representative μ: parameter code, seed, μ, rnd; `none` where the budget of R282 ends with no
candidate. -/
@[irreducible] def mldsaSign (alg : Nat) (seed mu rnd : Bytes) : Option Bytes :=
  let x := dsaKey alg seed
  dsaTry (dsaSet alg) x mu (dsaH 64 (x.k ++ rnd ++ mu)) 128 0

/-- Verification: parameter code, public key, context string, message, signature. -/
@[irreducible] def mldsaVerify (alg : Nat) (pk ctx m sig : Bytes) : Bool :=
  let p := dsaSet alg
  let zl := 32 * (p.g1 + 1)
  let c := sig.take p.clen
  let z := (pieces zl p.l (sig.drop p.clen)).map fun b => (unpackBits (p.g1 + 1) b).map fun x => subMod dsaQ (2 ^ p.g1) x
  if sig.length ≠ p.clen + zl * p.l + p.omega + p.k ∨ pk.length ≠ 32 + 320 * p.k then false
  else
    match unpackHint p (sig.drop (p.clen + zl * p.l)) with
    | none => false
    | some h =>
      let mu := dsaH 64 (dsaH 64 pk ++ [0, BitVec.ofNat 8 ctx.length] ++ ctx ++ m)
      let ch := dsaNtt (dsaBall p c)
      let t1 := (pieces 320 p.k (pk.drop 32)).map fun b => dsaMul ch (dsaNtt ((unpackBits 10 b).map fun x => 8192 * x % dsaQ))
      let zh := z.map dsaNtt
      let w := List.zipWith (fun row t => dsaIntt (polySub dsaQ (dotRow dsaQ dsaMul row zh) t)) (dsaMatrix p (pk.take 32)) t1
      let w1 := List.zipWith (fun f g => List.zipWith (useHint p.gamma2) f g) h w
      decide (dsaNorm z < 2 ^ p.g1 - p.beta) && decide (c = dsaH p.clen (mu ++ encodeW1 p w1))

end Sys2Proof.Crypto
end

