-- ==== Sys2Proof/Machine/MlKem.lean ====
section
/-! DEFINITION. ML-KEM by the algorithms of FIPS 203, a standard R14 names (R274, R278). PRESUMED, assumption log 2. -/

namespace Sys2Proof.Crypto

open Sys2Proof.Machine

/-- The ring of ML-KEM, and its transform's factors. -/
def kemRing : Ring := { q := 3329, root := 17, depth := 7 }
def kemZetas : List Nat := kemRing.zetas
def kemInvZetas : List Nat := kemRing.invZetas

/-- k, η₁, d_u and d_v of a parameter set (R274); η₂ is 2. -/
structure KemSet where
  k : Nat
  eta : Nat
  du : Nat
  dv : Nat
  deriving DecidableEq, Repr

def kemSet (alg : Nat) : KemSet :=
  if alg = 0x2C then ⟨2, 3, 10, 4⟩ else if alg = 0x2D then ⟨3, 2, 10, 4⟩ else ⟨4, 2, 11, 5⟩

/-- Products of the transform's pairs, modulo X² − γ. -/
def kemPairs : List Nat → Poly → Poly → Poly
  | g :: gs, a0 :: a1 :: a, b0 :: b1 :: b =>
    (a0 * b0 + a1 * b1 % 3329 * g) % 3329 :: (a0 * b1 + a1 * b0) % 3329 :: kemPairs gs a b
  | _, _, _ => []

/-- γ of each pair: ζ to the power 2 BitRev(i) + 1. -/
def kemGammas : List Nat := kemZetas.map fun z => z * z % 3329 * 17 % 3329

/-- The product of two transformed polynomials. -/
def kemMul (f g : Poly) : Poly := kemPairs kemGammas f g

def kemNtt (f : Poly) : Poly := kemRing.ntt kemZetas f
def kemIntt (f : Poly) : Poly := kemRing.intt kemInvZetas f

/-- Compress and Decompress to `d` bits. -/
def kemCompress (d x : Nat) : Nat := (2 * 2 ^ d * x + 3329) / (2 * 3329) % 2 ^ d
def kemDecompress (d y : Nat) : Nat := (2 * 3329 * y + 2 ^ d) / (2 * 2 ^ d)

/-- SampleNTT: entry (i, j) of the matrix comes from ρ ‖ j ‖ i. -/
def kemSample (rho : Bytes) (i j : Nat) : Poly :=
  sampleXof 168 256 (fun b => (triples b).flatMap fun x => [x % 4096, x / 4096].filter fun c => decide (c < 3329))
    (rho ++ [BitVec.ofNat 8 j, BitVec.ofNat 8 i])

/-- The matrix, row by row. -/
def kemMatrix (k : Nat) (rho : Bytes) : List (List Poly) :=
  (List.range k).map fun i => (List.range k).map fun j => kemSample rho i j

/-- The number of ones among the low `n` bits. -/
def ones : Nat → Nat → Nat
  | 0, _ => 0
  | n + 1, x => x % 2 + ones n (x / 2)

/-- SamplePolyCBD of PRF_η(s, n). -/
def kemNoise (eta : Nat) (s : Bytes) (n : Nat) : Poly :=
  (digits (2 * eta) 256 (leNat (shake 0x22 (64 * eta) (s ++ [BitVec.ofNat 8 n])))).map fun x =>
    subMod 3329 (ones eta x) (ones eta (x / 2 ^ eta))

/-- A vector of `k` noise polynomials, numbered from `n` on. -/
def kemNoises (eta k : Nat) (s : Bytes) (n : Nat) : List Poly := (List.range k).map fun i => kemNoise eta s (n + i)

/-- Both halves of the key of a seed d: ŝ, then the encapsulation key. -/
def kemKeys (alg : Nat) (d : Bytes) : List Poly × Bytes :=
  let k := (kemSet alg).k
  let g := sha3 0x14 (d ++ [BitVec.ofNat 8 k])
  let rho := g.take 32
  let s := (kemNoises (kemSet alg).eta k (g.drop 32) 0).map kemNtt
  let e := (kemNoises (kemSet alg).eta k (g.drop 32) k).map kemNtt
  let t := List.zipWith (fun row x => polyAdd 3329 (dotRow 3329 kemMul row s) x) (kemMatrix k rho) e
  (s, t.flatMap (packBits 12) ++ rho)

/-- The encapsulation key of the seeds d ‖ z. -/
def kemPublic (alg : Nat) (seeds : Bytes) : Bytes := (kemKeys alg (seeds.take 32)).2

/-- Columns as rows. -/
def transposed (k : Nat) (m : List (List Poly)) : List (List Poly) :=
  (List.range k).map fun j => m.map fun row => row[j]?.getD []

/-- K-PKE.Encrypt. -/
def kemEncrypt (alg : Nat) (ek m r : Bytes) : Bytes :=
  let p := kemSet alg
  let t := (pieces 384 p.k ek).map fun b => (unpackBits 12 b).map (· % 3329)
  let a := kemMatrix p.k (ek.drop (384 * p.k))
  let y := (kemNoises p.eta p.k r 0).map kemNtt
  let e1 := kemNoises 2 p.k r p.k
  let u := List.zipWith (fun row e => polyAdd 3329 (kemIntt (dotRow 3329 kemMul row y)) e) (transposed p.k a) e1
  let mu := (digits 1 256 (leNat m)).map (kemDecompress 1)
  let v := polyAdd 3329 (polyAdd 3329 (kemIntt (dotRow 3329 kemMul t y)) (kemNoise 2 r (2 * p.k))) mu
  u.flatMap (fun f => packBits p.du (f.map (kemCompress p.du))) ++ packBits p.dv (v.map (kemCompress p.dv))

/-- Encapsulation: parameter code, encapsulation key, m; ciphertext, then shared secret. -/
@[irreducible] def mlkemEncaps (alg : Nat) (ek m : Bytes) : Bytes :=
  let g := sha3 0x14 (m ++ sha3 0x12 ek)
  kemEncrypt alg ek m (g.drop 32) ++ g.take 32

/-- K-PKE.Decrypt under ŝ. -/
def kemDecrypt (alg : Nat) (s : List Poly) (c : Bytes) : Bytes :=
  let p := kemSet alg
  let u := (pieces (32 * p.du) p.k c).map fun b => kemNtt ((unpackBits p.du b).map (kemDecompress p.du))
  let v := (unpackBits p.dv (c.drop (32 * p.du * p.k))).map (kemDecompress p.dv)
  packBits 1 ((polySub 3329 v (kemIntt (dotRow 3329 kemMul s u))).map (kemCompress 1))

/-- Decapsulation with implicit rejection (R278): parameter code, seeds d ‖ z, ciphertext. -/
@[irreducible] def mlkemDecaps (alg : Nat) (seeds c : Bytes) : Bytes :=
  let key := kemKeys alg (seeds.take 32)
  let m := kemDecrypt alg key.1 c
  let g := sha3 0x14 (m ++ sha3 0x12 key.2)
  if kemEncrypt alg key.2 m (g.drop 32) = c then g.take 32 else shake 0x22 32 (seeds.drop 32 ++ c)

end Sys2Proof.Crypto
end

