-- ==== Sys2Proof/Machine/RsaCodes.lean ====
section
/-! DEFINITION. The RSA encodings of R254 by PKCS #1 v2.2, and the Miller–Rabin rounds of R267. PRESUMED, assumption log 2. -/

namespace Sys2Proof.Crypto

open Sys2Proof.Machine

/-- The HALG of a SCHEME: SHA-256, SHA-384 or SHA-512. -/
def schemeHalg (scheme : Nat) : Nat := scheme % 16 + 1

/-- Its digest length. -/
def schemeLen (scheme : Nat) : Nat := if scheme % 16 = 1 then 32 else if scheme % 16 = 2 then 48 else 64

/-- The hash of a SCHEME. -/
def schemeDigest (scheme : Nat) (m : Bytes) : Bytes := digest (schemeHalg scheme) m

/-- MGF1 with the scheme's hash. -/
def mgf1 (scheme : Nat) (seed : Bytes) (n : Nat) : Bytes :=
  ((List.range (ceilDiv n (schemeLen scheme))).flatMap fun i => schemeDigest scheme (seed ++ beBytes 4 i)).take n

/-- The DER of DigestInfo before the digest. -/
def digestInfo (scheme : Nat) : Bytes :=
  let x : Nat := if scheme % 16 = 1 then 1 else if scheme % 16 = 2 then 2 else 3
  [0x30, BitVec.ofNat 8 (17 + schemeLen scheme), 0x30, 0x0D, 0x06, 0x09, 0x60, 0x86, 0x48, 0x01, 0x65, 0x03, 0x04, 0x02,
    BitVec.ofNat 8 x, 0x05, 0x00, 0x04, BitVec.ofNat 8 (schemeLen scheme)]

/-- EMSA-PKCS1-v1_5 for a modulus of `k` bytes. -/
def pkcs1Encode (scheme k : Nat) (h : Bytes) : Bytes :=
  let t := digestInfo scheme ++ h
  [0x00, 0x01] ++ List.replicate (k - t.length - 3) 0xFF ++ [0x00] ++ t

/-- H of EMSA-PSS: the hash of eight zero bytes, the digest and the salt. -/
def pssH (scheme : Nat) (h salt : Bytes) : Bytes := schemeDigest scheme (zeros 8 ++ h ++ salt)

/-- A byte string with its top bit cleared: the modulus has whole bytes, so the encoding has one bit fewer. -/
def clearTop : Bytes → Bytes
  | b :: t => (b &&& 0x7F) :: t
  | [] => []

/-- EMSA-PSS for a modulus of `k` bytes. -/
def pssEncode (scheme k : Nat) (h salt : Bytes) : Bytes :=
  let x := pssH scheme h salt
  let db := zeros (k - schemeLen scheme - salt.length - 2) ++ [0x01] ++ salt
  clearTop (xorBytes db (mgf1 scheme x db.length)) ++ x ++ [0xBC]

/-- The encoded message of a signature: scheme, modulus bits, digest, salt. -/
@[irreducible] def rsaEncode (scheme bits : Nat) (h salt : Bytes) : Nat :=
  beNat (if scheme < 0x10 then pssEncode scheme (bits / 8) h (salt.take (schemeLen scheme)) else pkcs1Encode scheme (bits / 8) h)

/-- EMSA-PSS verification of an encoded message of `k` bytes, the salt having the hash's length. -/
def pssCheck (scheme k : Nat) (h em : Bytes) : Bool :=
  let n := k - schemeLen scheme - 1
  let x := slice em n (schemeLen scheme)
  let db := clearTop (xorBytes (em.take n) (mgf1 scheme x n))
  let z := n - schemeLen scheme - 1
  decide (em.getLastD 0 = 0xBC) && decide (clearTop em = em) && decide (db.take z = zeros z) && decide ((db.drop z).headD 0 = 1)
    && decide (pssH scheme h (db.drop (z + 1)) = x)

/-- The check of an opened signature: scheme, modulus bits, digest, opened value. -/
@[irreducible] def rsaCheck (scheme bits : Nat) (h : Bytes) (v : Nat) : Bool :=
  let em := beBytes (bits / 8) v
  if scheme < 0x10 then pssCheck scheme (bits / 8) h em else decide (em = pkcs1Encode scheme (bits / 8) h)

/-- RSAES-OAEP decoding: scheme, modulus bits, label, opened value; `none` on any decoding failure. -/
@[irreducible] def oaepDecode (scheme bits : Nat) (label : Bytes) (v : Nat) : Option Bytes :=
  let n := schemeLen scheme
  let em := beBytes (bits / 8) v
  let masked := em.drop (1 + n)
  let seed := xorBytes (slice em 1 n) (mgf1 scheme masked n)
  let db := xorBytes masked (mgf1 scheme seed masked.length)
  let rest := (db.drop n).dropWhile fun b => decide (b = 0)
  if em.headD 1 = 0 ∧ db.take n = schemeDigest scheme label ∧ rest.headD 0 = 1 then some (rest.drop 1) else none

/-! ## Miller–Rabin (R267, FIPS 186-5) -/

/-- The odd part of `m` and the power of two taken out, over `fuel` halvings. -/
def oddPart : Nat → Nat → Nat × Nat
  | 0, m => (m, 0)
  | fuel + 1, m => if m % 2 = 0 then let t := oddPart fuel (m / 2); (t.1, t.2 + 1) else (m, 0)

/-- Squaring up to `n` times meets −1. -/
def meetsMinusOne (x : Nat) : Nat → Nat → Bool
  | 0, _ => false
  | n + 1, z => decide (z = x - 1) || meetsMinusOne x n (z * z % x)

/-- One round of an odd candidate with a base. -/
def millerRabin (x base : Nat) : Bool :=
  let t := oddPart 4096 (x - 1)
  let z := powMod x 4096 base t.1
  decide (z = 1) || meetsMinusOne x t.2 z

end Sys2Proof.Crypto
end

