-- ==== Sys2Proof/Machine/PublicKeys.lean ====
section
/-! DEFINITION. Public keys, shared secrets and point checks by algorithm code (R176, R252, R253, R255, R274), the prime test of
R267, and the key block binding of ANSI X9.143 (R164, R165). PRESUMED, assumption log 2. -/

namespace Sys2Proof.Crypto

open Sys2Proof.Machine

/-- Public key of a private scalar or seed, in the encodings of R253 and R274: algorithm code (R176), private key. -/
@[irreducible] def publicKey (alg : Nat) (k : Bytes) : Bytes :=
  if alg ≤ 0x15 then ecPublic alg k
  else if alg ≤ 0x19 then edPublic alg k
  else if alg ≤ 0x1B then xdhPublic alg k
  else if alg ≤ 0x2A then dsaPublic alg k
  else kemPublic alg k

/-- A public key or point string decodes and is accepted (R255 check 6): algorithm code, encoding. -/
@[irreducible] def pointOk (alg : Nat) (b : Bytes) : Bool :=
  if alg ≤ 0x15 then (decodePoint alg b).isSome else if alg ≤ 0x19 then edPointOk alg b else montOk alg b

/-- The shared secret of ECDH, X25519 or X448 (R252): algorithm code, private key, peer key. -/
@[irreducible] def agree (alg : Nat) (k peer : Bytes) : Bytes := if alg ≤ 0x15 then ecdh alg k peer else xdh alg k peer

/-- The Miller–Rabin rounds that FIPS 186-5 asks of a prime of `n` bits (R267). PRESUMED, assumption log 158. -/
def primeRounds (n : Nat) : Nat := if 1536 ≤ n then 4 else if 1024 ≤ n then 5 else 7

/-- The Miller–Rabin rounds accept a candidate of the RSA search (R267): their random bases are free. -/
@[irreducible] def probablePrime (x : Nat) : Bool :=
  (List.range (primeRounds (bitLen x))).all fun i => millerRabin x (Config.primeBase x i % (x - 3) + 2)

/-! ## The binding of an X9.143 key block -/

/-- The algorithm and length of a key block protection key, as the derivation data names them: cipher code of R228, bytes. -/
def kbpkAlg (c n : Nat) : Nat := if c = 0 then n / 8 else n / 8 - 2

/-- The encryption key (usage 0) or MAC key (usage 1) derived from a key block protection key by CMAC in counter mode. -/
def kbpkDerive (c : Nat) (k : Bytes) (usage : Nat) : Bytes :=
  ((List.range (ceilDiv k.length (blockLen c))).flatMap fun i =>
    cmac c k (beBytes 1 (i + 1) ++ beBytes 2 usage ++ [0] ++ beBytes 2 (kbpkAlg c k.length) ++ beBytes 2 (8 * k.length))).take k.length

/-- The cipher of a version: D is AES, B is triple DES (R164). -/
def versionCipher (v : Nat) : Nat := if v = 0x44 then 0 else 1

/-- The encrypted payload and MAC of a key block: version character, key block protection key, header with its optional blocks,
clear payload. The MAC covers header and clear payload and is the IV. -/
@[irreducible] def keyBlockSeal (v : Nat) (k head clear : Bytes) : Bytes :=
  let c := versionCipher v
  let mac := cmac c (kbpkDerive c k 1) (head ++ clear)
  (cbcEnc c (kbpkDerive c k 0) mac clear).1 ++ mac

/-- The clear payload of a key block, where its MAC verifies: version character, key block protection key, header with its
optional blocks, encrypted payload, MAC. -/
@[irreducible] def keyBlockOpen (v : Nat) (k head enc mac : Bytes) : Option Bytes :=
  let c := versionCipher v
  let clear := (cbcDec c (kbpkDerive c k 0) mac enc).1
  if cmac c (kbpkDerive c k 1) (head ++ clear) = mac then some clear else none

end Sys2Proof.Crypto
end

