-- ==== Sys2Proof/Machine/Parts/Custody.lean ====
section
/-! DEFINITION. Life cycle, OTP, ceremonies, tokens and debug (file 15). What BBRAM holds of custody is in
`Backup`. -/

namespace Sys2Proof.Machine

/-- OTP: the six progress marks of R424, the owner bit and the owner hash (R38, R437). -/
structure Otp where
  marks : Vector W32 6
  ownerBit : Bool
  ownerHash : Bytes
  deriving DecidableEq, Repr

/-- A blank part: no mark set. -/
def Otp.blank : Otp := { marks := #v[0, 0, 0, 0, 0, 0], ownerBit := false, ownerHash := [] }

/-- A step record of a ceremony statement (R435). -/
structure CerStep where
  code : Nat
  dataLen : Nat
  arg0 : Nat
  arg1 : Nat
  dataHash : Bytes
  deriving DecidableEq, Repr

/-- The step that CER_STEP has started, with the command that waits for it. -/
structure CerRun where
  req : Req
  data : Bytes
  deriving DecidableEq, Repr

/-- An open ceremony (R435–R438). -/
structure Ceremony where
  unlock : Bool
  steps : List CerStep
  next : Nat
  suspend : Bool
  timeoutS : Nat
  /-- Operating time of acceptance. -/
  opened : Nat
  /-- Custodians counted in the quorum. -/
  quorum : BitVec 16
  statement : Bytes
  running : Option CerRun
  deriving DecidableEq, Repr

/-- The TAP's instructions (R439). -/
inductive TapInstr where
  | bypass
  | idcode
  | samplePreload
  | extest
  | scan
  | challenge
  | token
  | dap
  deriving DecidableEq, Repr

/-- Life cycle, custody and debug (R423–R443). -/
structure Custody where
  otp : Otp
  /-- The custody store (R431): P-384 and ML-DSA-65 keys by custodian. -/
  store : SMap (Option (Bytes × Bytes))
  challenge : Option Challenge
  ceremony : Option Ceremony
  nni : Bool
  ninv : Bool
  sni : Bool
  sinv : Bool
  attached : Bool
  lockDeny : Bool
  dmkHold : Bool
  /-- Cores halted by the debugger: workers 0–15, supervisors 16 and 17. -/
  halted : BitVec 18
  tokenResult : Nat
  tokenKind : Nat
  rights : BitVec 4
  tokenReason : Nat
  portChallenge : Option Bytes
  /-- An accepted transition waits for its restart (R426). -/
  restartPending : Bool
  /-- SCAN is selected, so the main domain is held in reset (R439). -/
  scanning : Bool
  tap : TapInstr
  boundary : BitVec 4
  /-- Step data of a DEBUG_SECURE that waits for admitted work to end (R442): SNI. -/
  sinvWait : Option Bool
  /-- The commands admitted before that step that it waits for (R442). -/
  sinvBefore : List Req
  /-- What the debug port last returned (R439, R440). -/
  dapOut : Bytes
  deriving DecidableEq, Repr

def Custody.reset : Custody where
  otp := Otp.blank
  store := []
  challenge := none
  ceremony := none
  nni := false
  ninv := false
  sni := false
  sinv := false
  attached := false
  lockDeny := false
  dmkHold := false
  halted := 0
  tokenResult := 0
  tokenKind := 0
  rights := 0
  tokenReason := 0
  portChallenge := none
  restartPending := false
  scanning := false
  tap := .bypass
  boundary := 0
  sinvWait := none
  sinvBefore := []
  dapOut := []

end Sys2Proof.Machine
end

