-- ==== Sys2Proof/Machine/Parts/Entropy.lean ====
section
/-! DEFINITION. The entropy unit (file 10). -/

namespace Sys2Proof.Machine

/-- ENT_STAT.STATE, in the order of its codes. -/
inductive EntState where
  | off
  | startup
  | running
  | failed
  | fenced
  deriving DecidableEq, Repr

/-- Who waits for randomness (R310). -/
inductive Consumer where
  | bank (i : Initiator)
  | mask (u : EngUnit) (n : Nat)
  | twillMask
  | command (r : Req)
  | instStart (n : Nat)
  | link (n : Nat)
  deriving DecidableEq, Repr

/-- The registers ENT banks per initiator (R316). -/
structure EntBank where
  word : W128
  valid : Bool
  unavail : Bool
  /-- The word was latched for a read that had stalled and has not returned yet. -/
  due : Bool
  deriving DecidableEq, Repr

def EntBank.reset : EntBank := { word := 0, valid := false, unavail := false, due := false }

/-- A raw capture in progress (R314). -/
structure RawCap where
  stream : Nat
  go : Bool
  addr : Nat
  deriving DecidableEq, Repr

/-- The state of the expander's CTR_DRBG (R304). -/
structure Drbg where
  key : BitVec 256
  v : W128
  deriving DecidableEq, Repr

/-- The expander's state zeroed (R311), as it is before it is instantiated. -/
def Drbg.zero : Drbg := { key := 0, v := 0 }

/-- The entropy unit (R300–R316). -/
structure Entropy where
  state : EntState
  legacy : Bool
  ready : Bool
  /-- The words of 128 bits in the output buffer, up to 512, the next one served first (R305). -/
  buf : List W128
  /-- The conditioner's shift register (R302). -/
  cond : BitVec 512
  /-- Conditioned bits on their way to the seed pool: those of a tick beyond the last bit discarded (R302, R303). -/
  spare : List Bool
  /-- The seed pool once it is full (R303). -/
  pool : Option (BitVec 384)
  drbg : Drbg
  /-- Requests since the last reseed, and the current interval's exponent (R309). -/
  requests : Nat
  curLog2 : Nat
  reseedLog2 : Nat
  stretchLog2 : Nat
  timeoutUs : Nat
  katS : Nat
  stretched : Bool
  excluded : BitVec 128
  reseeds : Nat
  released : Nat
  stalls : Nat
  rct : Nat
  apt : Nat
  kat : Nat
  lastStream : Nat
  /-- Known-answer tests: due, running, results, and failures of each within this start (R313). -/
  condDue : Bool
  expDue : Bool
  condPass : Bool
  expPass : Bool
  katRuns : Nat
  condFails : Nat
  expFails : Nat
  /-- Start-up or retest attempts failed in a row (R41, R308). -/
  attempts : Nat
  /-- The legacy start-up test runs (R301). -/
  legacyTest : Bool
  /-- The applied image selects legacy mode and the native start-up has not ended yet. -/
  legacyDue : Bool
  raw : RawCap
  stalled : List Consumer
  banks : SMap EntBank
  deriving DecidableEq, Repr

def Entropy.reset : Entropy where
  state := .off
  legacy := false
  ready := false
  buf := []
  cond := 0
  spare := []
  pool := none
  drbg := Drbg.zero
  requests := 0
  curLog2 := 16
  reseedLog2 := 16
  stretchLog2 := 24
  timeoutUs := 100
  katS := 3600
  stretched := false
  excluded := 0
  reseeds := 0
  released := 0
  stalls := 0
  rct := 0
  apt := 0
  kat := 0
  lastStream := 0
  condDue := false
  expDue := false
  condPass := false
  expPass := false
  katRuns := 0
  condFails := 0
  expFails := 0
  attempts := 0
  legacyTest := false
  legacyDue := false
  raw := { stream := 0, go := false, addr := 0 }
  stalled := []
  banks := []

/-- Words in the output buffer, 0 to 512. -/
def Entropy.words (e : Entropy) : Nat := e.buf.length

/-- The seed pool is full (R303). -/
def Entropy.poolFull (e : Entropy) : Bool := e.pool.isSome

end Sys2Proof.Machine
end

