-- ==== Sys2Proof/Machine/Parts/Fabric.lean ====
section
/-! DEFINITION. The Bilkin fabric (file 17). -/

namespace Sys2Proof.Machine

/-- A link's states (BLK_LSTAT.STATE), in the order of their codes. -/
inductive LinkState where
  | notAllowed
  | training
  | handshake
  | up
  | refused
  | down
  deriving DecidableEq, Repr

/-- Secrets and transcript of a handshake (R465), cleared when it ends: this device's HELLO, the peer's once it has come,
the ephemeral private key, the AUTH1 sent and received, Z, and the secrets each side encapsulated. -/
structure Handshake where
  own : Hello
  peer : Option Hello
  eph : Bytes
  sent : Bytes
  got : Bytes
  z : Bytes
  kOwn : Bytes
  kPeer : Bytes
  auth2Ok : Bool
  deriving DecidableEq, Repr

/-- A link (R459–R467, R473, link window). -/
structure Link where
  state : LinkState
  reason : Nat
  newkey : Bool
  peerId : Option W128
  peerAddr : Option Nat
  peerUnit : Nat
  peerPart : Nat
  tagFail : Nat
  /-- Failures counted toward a burst of 16, and the millisecond they fell in (R473). -/
  tagBurst : Nat
  burstAt : Nat
  downs : Nat
  rekeys : Nat
  keyTx : Bytes
  keyRx : Bytes
  /-- The receiving key of a rekey, installed by the first frame with NEWKEY (R467). -/
  nextRx : Option Bytes
  /-- The next frame sent is the first on a new key (R467). -/
  announce : Bool
  /-- Operating time at which the keys were installed. -/
  keyedAt : Nat
  txCtr : Nat
  rxCtr : Nat
  missed : Nat
  /-- SPARE of the neighbour (R479). -/
  spare : Nat
  hs : Option Handshake
  deriving DecidableEq, Repr

def Link.reset : Link where
  state := .notAllowed
  reason := 0
  newkey := false
  peerId := none
  peerAddr := none
  peerUnit := 0x7F
  peerPart := 0
  tagFail := 0
  tagBurst := 0
  burstAt := 0
  downs := 0
  rekeys := 0
  keyTx := []
  keyRx := []
  nextRx := none
  announce := false
  keyedAt := 0
  txCtr := 0
  rxCtr := 0
  missed := 0
  spare := 0
  hs := none

/-- A routing table entry (R471). -/
structure Route where
  primary : Option Nat
  alt1 : Option Nat
  alt2 : Option Nat
  hops : Nat
  deriving DecidableEq, Repr

def Route.none : Route := { primary := .none, alt1 := .none, alt2 := .none, hops := 0 }

/-- A forwarded or spilled request without a response (R475, R479). -/
structure FwdOut where
  id : Nat
  owner : Nat
  req : Req
  deriving DecidableEq, Repr

/-- A request of another device that waits here (R476, R480). -/
structure FwdIn where
  id : Nat
  src : Nat
  urgent : Bool
  hash : Bytes
  req : Req
  deriving DecidableEq, Repr

/-- A message sent: the link, the header fields of R460 and the whole payload in clear (the model's own record of the
device's output, log 6). -/
structure FrameOut where
  link : Nat
  ftype : Nat
  flags : Nat
  dst : Nat
  src : Nat
  ttl : Nat
  payload : Bytes
  deriving DecidableEq, Repr

/-- A clone transfer in progress (R482). -/
structure CloneRun where
  /-- This device is the source. -/
  source : Bool
  peer : Nat
  tenant : Nat
  /-- The first 8 bytes of the peer's identity, from the step's ARG1. -/
  peerId : Nat
  hs : Option Handshake
  kclone : Option Bytes
  /-- The check value expected back. -/
  check : Bytes
  deriving DecidableEq, Repr

/-- Bilkin (R459–R486). -/
structure Fabric where
  links : SMap Link
  unit : Nat
  head : Bool
  lastFrame : Option Nat
  addr : Option Nat
  coord : Option W128
  elections : Nat
  /-- The database has changed since the last election, or the first link has come up. -/
  electDue : Bool
  /-- The database has changed since the routing table was computed (R471). -/
  routesDue : Bool
  /-- The ASSIGN that stands for the present database: its coordinator's identity and its table (R484). -/
  assigned : Option (W128 × List (W128 × Nat))
  fwdTmo : Nat
  electWait : Nat
  sent : Nat
  served : Nat
  unreach : Nat
  late : Nat
  spillOutN : Nat
  spillInN : Nat
  routeSel : Nat
  lsdb : List Lsa
  routes : SMap Route
  outs : List FwdOut
  ins : List FwdIn
  spillOuts : List FwdOut
  spillIns : List FwdIn
  nextId : Nat
  lsaStamp : Nat
  /-- Requests completed REMOTE_UNREACHABLE in the current second, by owner, with the last reason (R478). -/
  unreachNow : SMap (Nat × Nat)
  clone : Option CloneRun
  frames : List FrameOut
  chainOut : Option Nat
  deriving DecidableEq, Repr

def Fabric.reset : Fabric where
  links := []
  unit := 0x7F
  head := false
  lastFrame := none
  addr := none
  coord := none
  elections := 0
  electDue := false
  routesDue := false
  assigned := none
  fwdTmo := 2000
  electWait := 10
  sent := 0
  served := 0
  unreach := 0
  late := 0
  spillOutN := 0
  spillInN := 0
  routeSel := 0
  lsdb := []
  routes := []
  outs := []
  ins := []
  spillOuts := []
  spillIns := []
  nextId := 0
  lsaStamp := 0
  unreachNow := []
  clone := none
  frames := []
  chainOut := none

end Sys2Proof.Machine
end

