-- ==== Sys2Proof/Machine/Parts/HostSide.lean ====
section
/-! DEFINITION. Ports, queue pairs, tenants and admission (file 03). -/

namespace Sys2Proof.Machine

/-- An MSI-X table entry (R86, R87, R89). -/
structure MsixEntry where
  addr : W64
  data : W32
  masked : Bool
  deriving DecidableEq, Repr

def MsixEntry.reset : MsixEntry := { addr := 0, data := 0, masked := true }

/-- A USB4 port and the PCIe function behind it (R86, R118, R121, HOST_PORT_A and HOST_PORT_B). -/
structure Port where
  link : Bool
  gen : Nat
  x2 : Bool
  tunnel : Bool
  downstream : Bool
  linkdowns : Nat
  depth : Nat
  /-- The function's BAR and command registers (R89). -/
  bar0 : W64
  bar2 : W64
  command : BitVec 16
  msix : SMap MsixEntry
  /-- Pending-bit array: vectors signalled while masked. -/
  pba : List Nat
  dmaErr : Nat
  deriving DecidableEq, Repr

def Port.reset : Port :=
  { link := false, gen := 0, x2 := false, tunnel := false, downstream := false, linkdowns := 0, depth := 0, bar0 := 0,
    bar2 := 0, command := 0, msix := [], pba := [], dmaErr := 0 }

/-- A place of a submission ring from SQHEAD on: an entry that waits since a supervisor cycle (R119), or one already answered
(R103). -/
inductive RingSlot where
  | waiting (r : Req) (cycle : Nat)
  | answered
  deriving DecidableEq, Repr

/-- A queue pair (R90–R96, R118). -/
structure QPair where
  sqBase : W64
  cqBase : W64
  en : Bool
  ien : Bool
  icount : Nat
  itime : Nat
  sqTail : Nat
  cqHead : Nat
  sqHead : Nat
  cqTail : Nat
  /-- FLAGS.PHASE of the next completion record. -/
  phase : Bool
  fault : Nat
  portB : Bool
  enabled : Bool
  /-- Entries examined from SQHEAD on. -/
  ring : List RingSlot
  /-- Completion slots reserved for consumed entries whose record is not written. -/
  reserved : Nat
  unsignalled : Nat
  itimeRun : Bool
  deriving DecidableEq, Repr

def QPair.reset : QPair :=
  { sqBase := 0, cqBase := 0, en := false, ien := false, icount := 1, itime := 0, sqTail := 0, cqHead := 0,
    sqHead := 0, cqTail := 0, phase := true, fault := 0, portB := false, enabled := false, ring := [], reserved := 0,
    unsignalled := 0, itimeRun := false }

/-- A completion record with its output data, as written for its reader (R99, R125). -/
structure Completion where
  src : Src
  cid : W32
  status : Nat
  sqHead : Nat
  detail : Nat
  reason : Nat
  outLen : Nat
  info : Nat
  time : Nat
  phase : Bool
  admitted : Bool
  out : Bytes
  deriving DecidableEq, Repr

/-- A tenant's states (R112), in the order of their codes. -/
inductive TState where
  | absent
  | active
  | resetting
  | destroying
  | creating
  deriving DecidableEq, Repr

/-- A tenant (R112–R117, TEN records). -/
structure Tenant where
  state : TState
  colour : Nat
  faultQp : BitVec 16
  bal : Int
  retry : Nat
  admitted : Nat
  resets : Nat
  hint : Nat
  /-- Nominal costs of its last 64 admitted commands, latest first (R109). -/
  costs : List Nat
  /-- R111: BUSY_RETRY completions are going on, and their count in the current second. -/
  overloaded : Bool
  retriesInSecond : Nat
  /-- Held resources: context units, recipe slots and node quota (R62, R114). -/
  units : List Nat
  slots : Nat
  nodes : Nat
  qpairs : Nat
  weight : Nat
  /-- The lane served next among the normal ones, and among the urgent ones (R106). -/
  turn : Nat
  urgentTurn : Nat
  deriving DecidableEq, Repr

def Tenant.absent : Tenant :=
  { state := .absent, colour := 0, faultQp := 0, bal := 0, retry := 0, admitted := 0, resets := 0, hint := 0,
    costs := [], overloaded := false, retriesInSecond := 0, units := [], slots := 0, nodes := 0, qpairs := 0,
    weight := 0, turn := 0, urgentTurn := 0 }

/-- An admitted command that has no completion yet (R107). -/
structure Admitted where
  req : Req
  sqHead : Nat
  urgent : Bool
  deriving DecidableEq, Repr

/-- What a tenant's creation, destruction or reset still has to do, with the commands it answers at its end (R113–R117). -/
inductive LifeStep where
  | create
  | destroy (erase : Bool)
  | reset
  deriving DecidableEq, Repr

structure LifeWork where
  tenant : Nat
  step : LifeStep
  askers : List Req
  deriving DecidableEq, Repr

/-- The host interface and admission. -/
structure HostSide where
  portA : Port
  portB : Port
  chainMax : Nat
  dsen : Bool
  discard : Nat
  qps : SMap QPair
  tenants : SMap Tenant
  /-- Admitted and unfinished commands, oldest first. -/
  admitted : List Admitted
  /-- What the device has written to its readers and signalled, latest first (the model's own fields, log 6). -/
  outbox : List Completion
  signals : List (Nat × Nat)
  /-- TEN_WSUM, the tenant the next walk starts at, and the shares of the current cycle. -/
  wsum : Nat
  walk : Nat
  shares : SMap Nat
  /-- Commands admitted in the current cycle (R106). -/
  inCycle : Nat
  /-- Tenants being created, destroyed or reset, oldest first (R113–R117). -/
  life : List LifeWork
  deriving DecidableEq, Repr

def HostSide.reset : HostSide where
  portA := Port.reset
  portB := Port.reset
  chainMax := 0
  dsen := false
  discard := 0
  qps := []
  tenants := []
  admitted := []
  outbox := []
  signals := []
  wsum := 0
  walk := 0
  shares := []
  inCycle := 0
  life := []

/-- Every tenant and queue pair goes, with what waits on them (R77). -/
def HostSide.discarded (h : HostSide) : HostSide :=
  { h with qps := [], tenants := [], admitted := [], wsum := 0, walk := 0, shares := [], inCycle := 0, life := [] }

end Sys2Proof.Machine
end

