-- ==== Sys2Proof/Machine/Parts/Platform.lean ====
section
/-! DEFINITION. The part, the mode machine, boot and firmware download, power and islands (files 00 and 01). -/

namespace Sys2Proof.Machine

/-- The four parts (R1). -/
inductive Part where
  | cx640
  | cx641
  | cx642
  | cx644
  deriving DecidableEq, Repr

/-- The modes of R45, in the order of their codes. -/
inductive Mode where
  | backup
  | boot
  | load
  | service
  | degraded
  | ceremony
  | locked
  | drain
  deriving DecidableEq, Repr

/-- The targets of a drain (R49), in the order of SYS_MODEREQ.DRAINTO. -/
inductive DrainTo where
  | off
  | load
  | boot
  deriving DecidableEq, Repr

/-- The mode machine and the SYS registers (R45, R47, SYS registers of file 01). -/
structure Sys where
  mode : Mode
  pend : Bool
  prev : Mode
  /-- SYS_MODE.CAUSE: 0 power-up … 12 tamper log full. -/
  cause : Nat
  fwVerified : Bool
  defaultImage : Bool
  imgSlotB : Bool
  entReady : Bool
  ctrFormatted : Bool
  lockKeptEnd : Bool
  usb2Boot : Bool
  lcResumed : Bool
  bkdLost : Bool
  thermOff : Bool
  /-- SYS_BOOTERR. -/
  bootErr : Nat
  rejects : Nat
  /-- SYS_MODEREQ as last committed, and the target of the drain in progress. -/
  drainTo : DrainTo
  modeReqGo : Bool
  drainLim : Nat
  /-- SYS_MEAS0–11: the 48 bytes of D_ALL, byte 0 first. -/
  meas : Bytes
  imgSeq : Nat
  fwAddr : W64
  fwLen : Nat
  /-- A lock raised in BOOT, LOAD or DRAIN whose effect on the mode is deferred (R44). -/
  deferredLock : Bool
  /-- The supervisor cycle in which the last alarm was raised, and that in which the last request entered DRAIN, with the
  value written (R48). -/
  alarmAt : Option Nat
  requestAt : Option (Nat × Nat)
  /-- A boot ROM self-test failed (R27). -/
  romFailed : Bool
  /-- The structure image has been applied in the current LOAD. -/
  imgApplied : Bool
  /-- SYS_OPTIME, ms since manufacture, and the eighths of a millisecond not yet counted. -/
  optime : Nat
  optimeFrac : Nat
  /-- The HI words latched by reads of the LO words, by register. -/
  latches : SMap W32
  deriving DecidableEq, Repr

/-- Every SYS register at its reset value. -/
def Sys.reset : Sys where
  mode := .boot
  pend := false
  prev := .backup
  cause := 0
  fwVerified := false
  defaultImage := false
  imgSlotB := false
  entReady := false
  ctrFormatted := false
  lockKeptEnd := false
  usb2Boot := false
  lcResumed := false
  bkdLost := false
  thermOff := false
  bootErr := 0
  rejects := 0
  drainTo := .off
  modeReqGo := false
  drainLim := 250
  meas := []
  imgSeq := 0
  fwAddr := 0
  fwLen := 0
  deferredLock := false
  alarmAt := none
  requestAt := none
  romFailed := false
  imgApplied := false
  optime := 0
  optimeFrac := 0
  latches := []

/-- A firmware download in progress (R31). -/
inductive Download where
  | none
  | usb4
  | usb2
  deriving DecidableEq, Repr

/-- Boot: the download path and what the ROM has started (R26, R30, R31, R39). -/
structure Boot where
  download : Download
  /-- The bus address and the length the USB4 download reads, as they stood at GO (R31). -/
  dmaAddr : W64
  dmaLen : Nat
  usb2A : Bool
  usb2B : Bool
  /-- Entry points set by the accepted image: supervisors (KIND 0), secure worlds (KIND 1), normal worlds (KIND 2). -/
  entry0 : Nat
  entry1 : Nat
  entry2 : Nat
  /-- RESET_N has been low for 1 µs and holds the main domain in reset (R24). -/
  held : Bool
  deriving DecidableEq, Repr

def Boot.reset : Boot where
  download := .none
  dmaAddr := 0
  dmaLen := 0
  usb2A := false
  usb2B := false
  entry0 := 0
  entry1 := 0
  entry2 := 0
  held := false

/-- One world's bank of PWR_GRES. -/
structure GateRes where
  status : Nat
  isl : Nat
  done : Bool
  deriving DecidableEq, Repr

/-- What a request of PWR_GREQ asks for, in the order of ACT. -/
inductive GateAct where
  | run
  | clock
  | power
  deriving DecidableEq, Repr

/-- A request of PWR_GREQ that has not finished: the oldest of its world is being served, and gates an island that still holds
dispatched work; the others of that world wait behind it (R52, R53). -/
structure GateReq where
  world : World
  isl : Nat
  act : GateAct
  deriving DecidableEq, Repr

/-- Supply, islands, leases and the thermal trip (R19–R22, R50–R54, R61, PWR registers). -/
structure Pwr where
  vinOk : Bool
  railsOk : Bool
  bkdOnMain : Bool
  vinMv : Nat
  p10mw : Nat
  /-- The backup cell: fitted, and VBAT_LOW's reading. -/
  cellFitted : Bool
  holdupOk : Bool
  clkOn : BitVec 19
  pwrOn : BitVec 19
  /-- Secure-owned by the structure image or permanently. -/
  ownerImg : BitVec 19
  lease : BitVec 19
  gresNormal : GateRes
  gresSecure : GateRes
  gating : List GateReq
  /-- The island each junction sensor is assigned to (R61, R510); 19 acts as a non-gateable island. -/
  sensorIsl : SMap Nat
  /-- Junction readings in °C plus 64, by sensor. -/
  sensors : SMap Nat
  /-- PWR_THERM. -/
  tmax : Nat
  tmaxSensor : Nat
  tripped : BitVec 19
  /-- Islands whose trip sequence runs (R54), and whether it ends in a thermal shutdown. -/
  tripping : BitVec 19
  shutdownDue : Bool
  /-- Backup domain: the thermal hold, the times of thermal shutdowns (latest first), and the run of good checks. -/
  thermHold : Bool
  shutdowns : List Nat
  goodChecks : Nat
  /-- Islands that run after LOAD by the image (R61). -/
  initRun : BitVec 19
  /-- The oscillator has been calibrated since the last change-over (R22). -/
  calibrated : Bool
  deriving DecidableEq, Repr

/-- The sensor assignment of R510, by sensor. -/
def defaultSensorIsl : List Nat :=
  [0, 0, 1, 1, 2, 2, 3, 3, 4, 4, 5, 6, 7, 8, 9, 9, 9, 10, 10, 11, 12, 13, 13, 13, 13, 13, 13, 14, 15, 15, 16, 17]

/-- A junction reading at reset: 25 °C plus 64 (the spec states none; assumption log 5). -/
def sensorRest : Nat := 89

def GateRes.reset : GateRes := { status := 0, isl := 0, done := false }

/-- PWR at its reset values. The islands present are those of the part (R50); `Pwr.resetFor` of the part's mask. -/
def Pwr.resetFor (present : BitVec 19) : Pwr where
  vinOk := true
  railsOk := true
  bkdOnMain := true
  vinMv := 12000
  p10mw := 0
  cellFitted := true
  holdupOk := false
  clkOn := present
  pwrOn := present
  ownerImg := 0x7FFFF#19
  lease := 0
  gresNormal := GateRes.reset
  gresSecure := GateRes.reset
  gating := []
  sensorIsl := (List.range 32).zip defaultSensorIsl
  sensors := []
  tmax := sensorRest
  tmaxSensor := 0
  tripped := 0
  tripping := 0
  shutdownDue := false
  thermHold := false
  shutdowns := []
  goodChecks := 0
  initRun := present
  calibrated := false

end Sys2Proof.Machine
end

