-- ==== Sys2Proof/Machine/Parts/Recorder.lean ====
section
/-! DEFINITION. The event recorder's state (file 16). -/

namespace Sys2Proof.Machine

/-- A record (R444); `seq` 0 marks an empty slot. -/
structure Record where
  seq : Nat
  code : Nat
  sev : Nat
  source : Nat
  fw : Bool
  summary : Bool
  optime : Nat
  pwrcyc : Nat
  p0 : Nat
  p1 : Nat
  p2 : Nat
  deriving DecidableEq, Repr

/-- An empty slot. -/
def Record.empty : Record :=
  { seq := 0, code := 0, sev := 0, source := 0, fw := false, summary := false, optime := 0, pwrcyc := 0, p0 := 0,
    p1 := 0, p2 := 0 }

/-- An open burst of one code (R451): the events counted since its ordinary record, with the latest parameters. -/
structure Burst where
  code : Nat
  /-- What the interval is kept for beside the code: a class, a master. -/
  key : Nat
  count : Nat
  p0 : Nat
  p1 : Nat
  deriving DecidableEq, Repr

/-- The registers REC banks per initiator (R458), and its search (R453). -/
structure RecBank where
  cursor : Nat
  busy : Bool
  found : Bool
  /-- The slot the running search will place, decided when it began. -/
  target : Option Nat
  postP0 : W32
  postP1 : W32
  postP2 : W32
  deriving DecidableEq, Repr

def RecBank.reset : RecBank :=
  { cursor := 0, busy := false, found := false, target := none, postP0 := 0, postP1 := 0, postP2 := 0 }

/-- The recorder (R447–R458). -/
structure Recorder where
  slots : SMap Record
  /-- Offers not yet written, oldest first (R449). -/
  queue : List Record
  seq : Nat
  newest : Nat
  drops : Nat
  filtered : Nat
  overwrites : Nat
  /-- MINSEV of the preamble, and its overrides by source (R70, R447). -/
  minsev : Nat
  minsevOf : SMap Nat
  bursts : List Burst
  banks : SMap RecBank
  deriving DecidableEq, Repr

def Recorder.reset : Recorder where
  slots := []
  queue := []
  seq := 0
  newest := 0
  drops := 0
  filtered := 0
  overwrites := 0
  minsev := 1
  minsevOf := []
  bursts := []
  banks := []

end Sys2Proof.Machine
end

