-- ==== Sys2Proof/Machine/Parts/Keys.lean ====
section
/-! DEFINITION. Damask: key cache, context store, persistent region (file 06). -/

namespace Sys2Proof.Machine

/-- A KSTATE context's counts (R191, R198, R217). -/
structure KState where
  handle : W64
  used : Nat
  ceil : Nat
  blkUsed : Nat
  bceil : Nat
  nonceCtr : Nat
  deriving DecidableEq, Repr

/-- A CAL_CHAIN context (R191, R226). -/
structure Chain where
  handle : W64
  mode : Nat
  dir : Nat
  depth : Nat
  blocks : Nat
  chaining : Bytes
  ghash : Bytes
  aad : Nat
  text : Nat
  core : Nat
  /-- The MAC that a segmented verification was given (R223), for which R226 names no place; `none`: not known. -/
  mac : Option Bytes
  deriving DecidableEq, Repr

/-- What a context holds (R191). -/
inductive CtxBody where
  | free
  | kstate (entry : Nat) (k : KState)
  | leaf (handle : W64) (wlen : Nat) (part : Bytes)
  | cont (head : Nat) (part : Bytes)
  | dukpt (body : Bytes)
  | session (body : Bytes)
  | chain (c : Chain)
  deriving DecidableEq, Repr

/-- A context (R191). -/
structure Ctx where
  frozen : Bool
  tenant : Nat
  body : CtxBody
  deriving DecidableEq, Repr

/-- A FREE context: all zero. -/
def Ctx.free : Ctx := { frozen := false, tenant := 0, body := .free }

/-- An entry of the key-state table (R196); HANDLE zero is free, all ones is released. -/
structure KsEntry where
  handle : W64
  ceil : Nat
  bceil : Nat
  deriving DecidableEq, Repr

def KsEntry.free : KsEntry := { handle := 0, ceil := 0, bceil := 0 }

/-- The tag of a cached key (R186). -/
structure KeyTag where
  tenant : Nat
  node : Nat
  label : Nat
  deriving DecidableEq, Repr

/-- One way of KEYC: its tag, which part of the key it is, and the key (R186). -/
structure KeycWay where
  tag : KeyTag
  part : Nat
  key : Bytes
  deriving DecidableEq, Repr

/-- A key as resolved for an operation. -/
structure RKey where
  handle : W64
  alg : Nat
  usage : BitVec 16
  classN : Bool
  key : Bytes
  deriving DecidableEq, Repr

/-- Damask (R171–R210). -/
structure Damask where
  locked : Bool
  wiping : Bool
  formattedNow : Bool
  nodes : SMap (Option Node)
  ctx : SMap Ctx
  /-- KEYC by 8 × set + way, and the replacement bits by set. -/
  keyc : SMap (Option KeycWay)
  plru : SMap (BitVec 7)
  /-- MRAM persistent region: marker valid, nonce epoch, key-state table, leaf generations. -/
  marker : Bool
  nonceEpoch : Nat
  ks : SMap KsEntry
  gens : SMap Nat
  /-- Binding map of the current LOAD: entry to KSTATE context (R198). -/
  bound : SMap (Option Nat)
  /-- Context numbers imported in this LOAD (R206). -/
  imported : List Nat
  hits : Nat
  misses : Nat
  resv : Nat
  latMax : Nat
  /-- Nodes created since the last LOAD (DMK_NODES). -/
  created : Nat
  deriving DecidableEq, Repr

def Damask.reset : Damask where
  locked := false
  wiping := false
  formattedNow := false
  nodes := []
  ctx := []
  keyc := []
  plru := []
  marker := false
  nonceEpoch := 0
  ks := []
  gens := []
  bound := []
  imported := []
  hits := 0
  misses := 0
  resv := 0
  latMax := 0
  created := 0

end Sys2Proof.Machine
end

