-- ==== Sys2Proof/Machine/Parts/Engine.lean ====
section
/-! DEFINITION. One engine unit: Calico, Serge, Tulle or the hash units (files 07, 08 and 09). All four share the
scheduler of R137 and R231, self-tests, reseeds and fences, so one structure holds any of them. -/

namespace Sys2Proof.Machine

/-- What a step's unit delivers to Twill (R131, R132). -/
inductive StepOut where
  | data (b : Bytes)
  | setFlag (n : Nat) (v : Bool)
  | branch (taken : Bool) (verdict : Nat) (skip : BitVec 32)
  | verdict (v : Nat)
  deriving DecidableEq, Repr

/-- What an operation will complete with at its end. -/
structure JobResult where
  status : Nat
  detail : Nat
  reason : Nat
  info : Nat
  out : Bytes
  /-- The operation ends in a fault (R283). -/
  fault : Bool
  /-- The context it writes at its end (R226). -/
  ctxAfter : Option (Nat × Ctx)
  /-- A step's output. -/
  step : StepOut
  deriving DecidableEq, Repr

def JobResult.none : JobResult :=
  { status := 0, detail := 0, reason := 0, info := 0, out := [], fault := false, ctxAfter := .none, step := .data [] }

/-- The fields of a raw Calico command (R222, R223) once its key is known. -/
structure CalCmd where
  op : Nat
  mode : Nat
  seg : Nat
  cipher : Nat
  classN : Bool
  tagLen : Nat
  /-- Bytes of the leading IV, nonce field or MAC, of the AAD, and of the trailing tag. -/
  lead : Nat
  aad : Nat
  trail : Nat
  text : Nat
  chain : Option Chain
  deriving DecidableEq, Repr

/-- A raw Calico message as it runs: its command, its key and the nonce issued for it. -/
structure CalRun where
  cmd : CalCmd
  key : Bytes
  nonce : Nat
  deriving DecidableEq, Repr

/-- An operation on, or waiting for, a unit instance. -/
structure Job where
  src : EngSrc
  /-- The opcode of a raw command, or the PRIM of a step. -/
  code : Nat
  tenant : Nat
  urgent : Bool
  classN : Bool
  /-- Cipher invocations of a Calico message, hash blocks, and the cycles the instance is occupied for. -/
  blocks : Nat
  cycles : Nat
  /-- Message bytes of a hash. -/
  bytes : Nat
  /-- A request for suspension stands, with its number among the requests (R138, R232, R237). -/
  asking : Option Nat
  /-- The one instance it may run on: that of the privileged mailbox it came through (R246, R268, R290). -/
  only : Option Nat
  ctx : Option Nat
  /-- A raw Calico message, for what a suspension saves. -/
  run : Option CalRun
  /-- Blocks processed when it was suspended last, and the core's record that holds its state (R233, R246). -/
  done : Nat
  saved : Option Nat
  /-- While suspended: its staging is left in place; else the input offset it fetches from again, and the output bytes it has
  handed to the host interface (R233). -/
  staged : Bool
  refetch : Option Nat
  handed : Nat
  /-- An RSA prime search: candidates tried and the first prime found (R267). -/
  search : Option (Nat × Nat)
  result : JobResult
  deriving DecidableEq, Repr

/-- One instance of a unit: core, lane, lattice unit or hash unit. -/
structure UnitInst where
  running : Option Job
  /-- Messages suspended under a Calico core, latest first (R233, R236). -/
  stack : List Job
  fenced : Bool
  /-- A fence asked for while work runs (R247, R273, R299), or lifted and waiting for its self-test. -/
  fencing : Bool
  lifting : Bool
  seeded : Bool
  due : Bool
  stalled : Bool
  starved : Bool
  asked : Bool
  /-- Blocks, lane cycles, unit cycles or bytes counted by the instance, and operations ended. -/
  count : Nat
  ops : Nat
  suspensions : Nat
  overflows : Nat
  reseeds : Nat
  faults : Nat
  stFails : Nat
  latch : W32
  /-- The last operation's code and source (status registers). -/
  lastCode : Nat
  /-- A Calico core's four suspension records, by number (R246). -/
  records : SMap Bytes
  deriving DecidableEq, Repr

def UnitInst.reset : UnitInst where
  running := none
  stack := []
  fenced := false
  fencing := false
  lifting := false
  seeded := false
  due := false
  stalled := false
  starved := false
  asked := false
  count := 0
  ops := 0
  suspensions := 0
  overflows := 0
  reseeds := 0
  faults := 0
  stFails := 0
  latch := 0
  lastCode := 0
  records := []

/-- A unit's scheduler, configuration and global counters. -/
structure Engine where
  insts : SMap UnitInst
  waiting : List Job
  /-- Ended components of composite commands whose other component has not ended (R280). -/
  parts : List Job
  bgrp : W32
  periodS : Nat
  starveMs : Nat
  /-- Calico SUSPCFG; Serge CFG.MAXW. -/
  ovfWait : Nat
  minRem : Nat
  maxW : Nat
  testing : Option Nat
  stInst : Nat
  stPass : Bool
  stVector : Nat
  stRuns : Nat
  nonces : Nat
  /-- Calico CAL_LIMREF; Serge SRG_REFUSE; others zero. -/
  refuseA : Nat
  refuseB : Nat
  opsTotal : Nat
  restarts : Nat
  bytes : Nat
  urgMax : Nat
  /-- Requests for suspension made so far (R237). -/
  asks : Nat
  /-- HI words latched by reads of LO words, by offset. -/
  latches : SMap W32
  deriving DecidableEq, Repr

def Engine.reset : Engine where
  insts := []
  waiting := []
  parts := []
  bgrp := 0
  periodS := 60
  starveMs := 1000
  ovfWait := 50
  minRem := 64
  maxW := 128
  testing := none
  stInst := 0
  stPass := false
  stVector := 0
  stRuns := 0
  nonces := 0
  refuseA := 0
  refuseB := 0
  opsTotal := 0
  restarts := 0
  bytes := 0
  urgMax := 0
  asks := 0
  latches := []

end Sys2Proof.Machine
end

