-- ==== Sys2Proof/Machine/Parts/Twill.lean ====
section
/-! DEFINITION. Twill's instances and registers (file 04). -/

namespace Sys2Proof.Machine

/-- The states of an instance (R132), in the order of their codes. -/
inductive InstState where
  | free
  | loading
  | running
  | completing
  | aborting
  deriving DecidableEq, Repr

/-- A recipe instance (R122–R140). Scratch is shown unmasked (R134, assumption log 7). -/
structure Inst where
  state : InstState
  req : Req
  tenant : Nat
  urgent : Bool
  recipe : Nat
  version : Nat
  graph : Graph
  /-- Handles of the eight slots. -/
  handles : List W64
  /-- The keys of the slots once LOADING has ended. -/
  keys : SMap (Option RKey)
  field : Bytes
  scratch : SMap Byte
  keyMark : SMap Bool
  pinMark : SMap Bool
  shadow : Bytes
  ctxNo : Nat
  dispatched : BitVec 32
  resolved : BitVec 32
  skipped : BitVec 32
  lastStep : Nat
  flags : BitVec 4
  /-- Outputs delivered by units for steps not yet resolved. -/
  outs : List (Nat × StepOut)
  held : SMap Byte
  stepsRun : Nat
  /-- Nonce blocks issued at the end of LOADING for GCM_SEAL steps, by step (R217). -/
  nonces : SMap (Option Nat)
  /-- Its start or a micro-op waits for the mask generator's reseed (R134). -/
  maskWait : Bool
  /-- Steps that wait for randomness at their unit. -/
  rngSteps : BitVec 32
  /-- The 64-byte suspension record of its class N steps (R138). -/
  suspRec : Bytes
  /-- Held outputs in units' held areas: unit code, instance, bytes (R136, R246, R268, R290). -/
  heldAt : List (Nat × Nat × Nat)
  deriving DecidableEq, Repr

def Req.none : Req where
  src := .host 0 0 0
  desc := { opcode := 0, flags := 0, cid := 0, ctx := 0, tmoUs := 0, rsvd := 0, key0 := 0, key1 := 0, inAddr := 0,
            outAddr := 0, inLen := 0, outLen := 0, param := 0 }
  input := []
  inSgl := []
  outSgl := []
  inOk := true
  outOk := true
  cqOk := true

/-- A FREE slot. -/
def Inst.free : Inst where
  state := .free
  req := Req.none
  tenant := 0
  urgent := false
  recipe := 0
  version := 0
  graph := Graph.empty
  handles := []
  keys := []
  field := []
  scratch := []
  keyMark := []
  pinMark := []
  shadow := []
  ctxNo := 0
  dispatched := 0
  resolved := 0
  skipped := 0
  lastStep := 0
  flags := 0
  outs := []
  held := []
  stepsRun := 0
  nonces := []
  maskWait := false
  rngSteps := 0
  suspRec := []
  heldAt := []

/-- Contention sums of a pool (R137), in instance-nanoseconds. -/
structure PoolUse where
  tTw : Nat
  tRaw : Nat
  suspReq : Nat
  overflows : Nat
  deriving DecidableEq, Repr

def PoolUse.reset : PoolUse := { tTw := 0, tRaw := 0, suspReq := 0, overflows := 0 }

/-- Twill (R122–R142). -/
structure Twill where
  insts : SMap Inst
  pools : SMap PoolUse
  catLoaded : Bool
  suspWait : Nat
  starts : Nat
  done : Nat
  aborts : Nat
  steps : Nat
  lastStep : Nat
  lastCause : Nat
  lastInst : Nat
  lastTenant : Nat
  wipeMax : Nat
  instSel : Nat
  /-- The mask generator: a reseed is due and could not be served (R134), and its reseeds. -/
  reseedDue : Bool
  reseeds : Nat
  deriving DecidableEq, Repr

def Twill.reset : Twill where
  insts := []
  pools := []
  catLoaded := false
  suspWait := 20
  starts := 0
  done := 0
  aborts := 0
  steps := 0
  lastStep := 0
  lastCause := 0
  lastInst := 0
  lastTenant := 0
  wipeMax := 0
  instSel := 0
  reseedDue := false
  reseeds := 0

end Sys2Proof.Machine
end

