-- ==== Sys2Proof/Machine/Parts/Worlds.lean ====
section
/-! DEFINITION. Worlds, the two supervisors and the commit gate, and the sideband pins (file 12). -/

namespace Sys2Proof.Machine

/-- A supervisor's states (R355), in the order of their codes. -/
inductive SupState where
  | reset
  | active
  | shadowing
  | selfTest
  | fenced
  deriving DecidableEq, Repr

/-- A worker's secure world (SUPV_SWSTAT.STATE), in the order of its codes. -/
inductive SwState where
  | up
  | down
  | pending
  | held
  deriving DecidableEq, Repr

/-- A worker's SUPV registers and watchdog (R350–R354). -/
structure WorkerCtl where
  ncol : BitVec 8
  scol : BitVec 8
  sw : SwState
  swCause : Nat
  fresh : Bool
  restarts : Nat
  /-- Operating times of down declarations, latest first (R354). -/
  downs : List Nat
  /-- How long the secure world has run since its watchdog was cleared, in 1/128 ms (R351). -/
  watch : Nat
  deriving DecidableEq, Repr

def WorkerCtl.reset : WorkerCtl :=
  { ncol := 0, scol := 0, sw := .up, swCause := 0, fresh := false, restarts := 0, downs := [], watch := 0 }

/-- A state delta (R357). -/
structure Delta where
  csn : Nat
  flags : BitVec 16
  count : Nat
  entries : List W32
  deriving DecidableEq, Repr

/-- The SUPV block and the commit gate (R345–R368). -/
structure Worlds where
  stA : SupState
  stB : SupState
  /-- The supervisor in control: `false` A, `true` B. -/
  active : Bool
  noSup : Bool
  /-- The number k of the running supervisor cycle: the CSN its batch carries (R356). -/
  cycle : Nat
  csn : Nat
  csnLatch : W32
  /-- The last accepted deltas, latest first, at most 4 (R358). -/
  deltas : List Delta
  switches : Nat
  giveupsA : Nat
  giveupsB : Nat
  /-- Operating times of give-ups, latest first (R367). -/
  giveTimesA : List Nat
  giveTimesB : List Nat
  lastCause : Nat
  lastTo : Bool
  lastCheck : Nat
  lastGap : Nat
  clean : Nat
  mismatch : Nat
  /-- Consecutive unclean cycles of the shadowing supervisor (R361, check 6). -/
  unclean : Nat
  rejected : Nat
  dropWrites : Nat
  dropEdges : Nat
  fenceA : Bool
  fenceB : Bool
  /-- A fence of R367 that only the next start lifts. -/
  heldA : Bool
  heldB : Bool
  swlimMs : Nat
  restartUs : Nat
  pinw : BitVec 16
  gpout : BitVec 16
  gpoe : BitVec 16
  gpin : BitVec 16
  workers : SMap WorkerCtl
  irqw : SMap W32
  deriving DecidableEq, Repr

def Worlds.reset : Worlds where
  stA := .active
  stB := .shadowing
  active := false
  noSup := false
  cycle := 0
  csn := 0
  csnLatch := 0
  deltas := []
  switches := 0
  giveupsA := 0
  giveupsB := 0
  giveTimesA := []
  giveTimesB := []
  lastCause := 0
  lastTo := false
  lastCheck := 0
  lastGap := 0
  clean := 0
  mismatch := 0
  unclean := 0
  rejected := 0
  dropWrites := 0
  dropEdges := 0
  fenceA := false
  fenceB := false
  heldA := false
  heldB := false
  swlimMs := 50
  restartUs := 100
  pinw := 0xFFFF#16
  gpout := 0
  gpoe := 0
  gpin := 0
  workers := []
  irqw := []

end Sys2Proof.Machine
end

