-- ==== Sys2Proof/Machine/Parts/Zynkel.lean ====
section
/-! DEFINITION. The Zynkel cores (file 11): workers 0–15, supervisors 16 and 17. -/

namespace Sys2Proof.Machine

/-- One world's bank of registers and banked control registers (R321, R343). -/
structure ZBank where
  /-- g1–g63; g0 is never stored (R321). -/
  g : SMap W64
  /-- p1–p7 in bits 1–7; p0 is never stored. -/
  p : BitVec 8
  mlo : W64
  mhi : W64
  pc : W64
  irqon : Bool
  intrap : Bool
  event : Bool
  tbase : W32
  tpc : W32
  tcause : Nat
  tslot : Nat
  taddr : W32
  imask : W32
  ipend : W32
  /-- Halted by a double fault (R342). -/
  halted : Bool
  deriving DecidableEq, Repr

def ZBank.reset : ZBank where
  g := []
  p := 0
  mlo := 0
  mhi := 0
  pc := 0
  irqon := false
  intrap := false
  event := false
  tbase := 0
  tpc := 0
  tcause := 0
  tslot := 0
  taddr := 0
  imask := 0
  ipend := 0
  halted := false

/-- A multiplier write in flight (R326, R327): `acc` adds to mhi:mlo, otherwise replaces it; `left` cycles pass until it lands. -/
structure MulWrite where
  world : World
  left : Nat
  acc : Bool
  value : W128
  deriving DecidableEq, Repr

/-- A buffered store (R330): address, bytes, and the world and colour it was issued in (R347). -/
structure StoreEntry where
  addr : Nat
  data : Bytes
  world : World
  colour : Nat
  deriving DecidableEq, Repr

/-- A core (R317–R344). -/
structure ZCore where
  world : World
  normal : ZBank
  secure : ZBank
  nepc : W32
  sentry : W32
  scnum : Nat
  /-- The secure world was entered by SCALL (R336). -/
  bySCall : Bool
  cycle : Nat
  cycLatch : W32
  flight : List MulWrite
  stores : List StoreEntry
  /-- Address of a store that failed and has not raised STORE yet, with its world (R332). -/
  storeFault : Option (Nat × World)
  wfe : Bool
  /-- Secure interrupts stay held until the restarted secure world sets ZCR_TSTAT.IRQON (R353). -/
  irqHeld : Bool
  /-- The core has left reset and runs firmware (R39). -/
  started : Bool
  deriving DecidableEq, Repr

def ZCore.reset : ZCore where
  world := .secure
  normal := ZBank.reset
  secure := ZBank.reset
  nepc := 0
  sentry := 0
  scnum := 0
  bySCall := false
  cycle := 0
  cycLatch := 0
  flight := []
  stores := []
  storeFault := none
  wfe := false
  irqHeld := false
  started := false

/-- A mailbox of a core (R125, R337): its unit is 0 Calico, 1 Serge, 2 Tulle, 5 Twill on a worker, and 6 + the
mailbox's index on a supervisor. -/
structure Mailbox where
  busy : Bool
  /-- FLAGS.PHASE of its next completion. -/
  phase : Bool
  /-- Bytes 0 to 95 of its unfinished submission as the device copied them, and that submission's output list. -/
  copy : Bytes
  outSgl : List Sge
  deriving DecidableEq, Repr

def Mailbox.reset : Mailbox := { busy := false, phase := true, copy := [], outSgl := [] }

/-- The cores with their mailboxes. -/
structure Zynkel where
  cores : SMap ZCore
  /-- By 64 × core + unit. -/
  boxes : SMap Mailbox
  /-- Submissions accepted by MSUB that wait to be admitted (R125). -/
  submitted : List Req
  /-- Completions of mailbox submissions not yet delivered (R337). -/
  done : List Completion
  /-- IMEM pages whose world tag is normal (R333); the others are secure. -/
  imemNormal : List Nat
  deriving DecidableEq, Repr

def Zynkel.reset : Zynkel := { cores := [], boxes := [], submitted := [], done := [], imemNormal := [] }

end Sys2Proof.Machine
end

