-- ==== Sys2Proof/Machine/State.lean ====
section
/-! DEFINITION. The state of the block: every register, buffer, table and mode the spec gives it, by the part that
holds it, the queue of waiting commands, and the state right after reset. -/

namespace Sys2Proof.Machine

/-- Reasons the machine stops with a fault. There are none: every command of the spec has an effect or, where the
condition its rule names does not hold, none (assumption log 1). -/
inductive Fault where
  deriving DecidableEq, Repr

/-- Reasons a command is refused. -/
inductive Refusal where
  /-- Raised by an arm of `exec` whose command has no meaning yet; safe, since nothing follows from it. -/
  | notModelled (mnemonic : String)
  deriving DecidableEq, Repr

/-- A write of a paired register that waits for its complement (R16, R17): who wrote it, the register's address, the
value. -/
structure RwpWait where
  who : Initiator
  addr : Nat
  value : W32
  deriving DecidableEq, Repr

/-- The state of the block. -/
structure State where
  part : Part
  sys : Sys
  boot : Boot
  pwr : Pwr
  img : Img
  host : HostSide
  twl : Twill
  dmk : Damask
  cal : Engine
  srg : Engine
  tul : Engine
  hsh : Engine
  ent : Entropy
  zyn : Zynkel
  supv : Worlds
  mem : Memory
  gate : Gates
  lace : Lace
  bkd : Backup
  lcs : Custody
  rcd : Recorder
  blk : Fabric
  rwp : List RwpWait
  /-- How many free values have been drawn (the model's own field, log 3). -/
  fresh : Nat
  pending : List Instr
  deriving DecidableEq, Repr

/-- Part codes and unit counts of R1 and R9. -/
def Part.code : Part → Nat
  | .cx640 => 0
  | .cx641 => 1
  | .cx642 => 2
  | .cx644 => 4

/-- The islands present on a part (R50). -/
def Part.islands : Part → BitVec 19
  | .cx640 => 0x7FFFF#19
  | .cx641 => 0x77FFF#19
  | .cx642 => 0x7FA67#19
  | .cx644 => 0x7FBFF#19

/-- Instances of an engine unit on a part (R1, R2): they are the lowest-numbered ones. -/
def Part.count : Part → EngUnit → Nat
  | .cx642, .cal => 16
  | .cx642, .srg => 8
  | .cx642, .tul => 0
  | .cx644, .tul => 0
  | _, .cal => 32
  | _, .srg => 16
  | _, .tul => 8
  | _, .hsh => 16

/-- Worker cores of a part (R1). -/
def Part.workers : Part → Nat
  | .cx642 => 8
  | _ => 16

/-- Bilkin links of a part (R1). -/
def Part.links : Part → Nat
  | .cx640 => 32
  | .cx644 => 32
  | .cx642 => 8
  | .cx641 => 0

/-- The mask with bits 0 to `n - 1` set. -/
def lowMask (n : Nat) : BitVec 32 := BitVec.ofNat 32 (2 ^ n - 1)

/-- The pool division of the default image (R40): one pool for each unit, holding every instance. Its TWSHARE is not stated
(free, assumption log 4). -/
def defaultPools : List PoolRec :=
  let share := Config.romTwshare % 101
  [{ pool := 0, unit := 0, twshare := share, mask := lowMask 32 }, { pool := 1, unit := 1, twshare := share, mask := lowMask 16 },
   { pool := 2, unit := 2, twshare := share, mask := lowMask 8 }, { pool := 3, unit := 3, twshare := share, mask := lowMask 16 }]

/-- The ROM default image (R40). -/
def Image.rom : Image where
  seq := 0
  replicate := false
  islands := (List.range 19).map fun n =>
    { owner := 1, init := 0,
      sensors := (List.range 32).foldl (fun m k => if defaultSensorIsl[k]? = some n then m ||| (1#32 <<< k) else m) 0 }
  tenants := [{ tenant := 0, isStatic := true, colour := 0, qpairs := 1, ctxUnits := 256, weight := 1000, slots := 4096,
                nodes := 65534 }]
  pools := defaultPools
  assigns := [{ tenant := 0, cal := 0, srg := 1, tul := 2, hsh := 3 }]
  portBDown := false
  chainMax := 0
  queues := [{ tenant := 0, qp := 0, depthLog2 := 8, prio := 0, vector := 0, port := 2 }]
  ranges := []
  grants := []
  recipes := []
  alarms := []
  bilkin := BilkinRec.none
  entropy := EntropyRec.default
  recorder := RecorderRec.default
  nodes := []

/-- No image written, none in force but the ROM's (R40). -/
def Img.reset : Img where
  slotA := []
  slotB := []
  session := none
  challenge := none
  force := Image.rom
  replicas := []

/-- Right after reset: the main domain has just started, the ROM is about to run, and nothing is queued. What BBRAM,
MRAM and OTP hold is that of a part as manufactured (assumption log 5). -/
def State.reset : State where
  part := .cx640
  sys := Sys.reset
  boot := Boot.reset
  pwr := Pwr.resetFor Part.cx640.islands
  img := Img.reset
  host := HostSide.reset
  twl := Twill.reset
  dmk := Damask.reset
  cal := Engine.reset
  srg := Engine.reset
  tul := Engine.reset
  hsh := Engine.reset
  ent := Entropy.reset
  zyn := Zynkel.reset
  supv := Worlds.reset
  mem := Memory.reset
  gate := Gates.reset
  lace := Lace.reset
  bkd := Backup.reset
  lcs := Custody.reset
  rcd := Recorder.reset
  blk := Fabric.reset
  rwp := []
  fresh := 0
  pending := []

end Sys2Proof.Machine
end

