-- ==== Sys2Proof/Machine/Ops.lean ====
section
/-! DEFINITION. The operations that several chapters share: free draws, the recorder, the mode machine, fences, the
tamper log, completions, aborts, locking and erasing, alarms, and the start of the main domain. -/

namespace Sys2Proof.Machine

/-! ## Free values -/

/-- `n` bytes of fresh random data. -/
def State.randomBytes (s : State) (n : Nat) : Bytes :=
  ((List.range (ceilDiv n 16)).flatMap fun k => bytes128 (Config.freshBits (s.fresh + k))).take n

/-- The state after drawing `n` fresh bytes. -/
def State.drew (s : State) (n : Nat) : State := { s with fresh := s.fresh + ceilDiv n 16 }

/-- The state after drawing `k` free values. -/
def State.skip (s : State) (k : Nat) : State := { s with fresh := s.fresh + k }

/-- A free number of `w` bits. -/
def State.freeNat (s : State) (w : Nat) : Nat := Config.freshNat s.fresh % 2 ^ w

/-! ## Modes as numbers -/

/-- The code of a mode (R45). -/
def Mode.code : Mode → Nat
  | .backup => 0
  | .boot => 1
  | .load => 2
  | .service => 3
  | .degraded => 4
  | .ceremony => 5
  | .locked => 6
  | .drain => 7

/-- SYS_MODE as a word. -/
def Sys.modeWord (x : Sys) : Nat := x.mode.code + 8 * flag x.pend + 16 * x.prev.code + 256 * x.cause

/-- SYS_BOOTERR as a word. -/
def Sys.bootErrWord (x : Sys) : Nat := x.bootErr % 65536 + 65536 * x.rejects

/-- The main regulators supply the main domain. -/
def State.powered (s : State) : Bool := decide (s.sys.mode ≠ .backup)

/-- The main domain has power and is not held in reset by RESET_N or by SCAN (R24, R439): held there it does nothing, exactly as
without power. -/
def State.onMain (s : State) : Bool := s.powered && !s.boot.held

/-- Modes in which the host's work is admitted (R45). -/
def Mode.serves : Mode → Bool
  | .service => true
  | .degraded => true
  | .ceremony => true
  | _ => false

/-- The host's work is admitted (R45): never while the main domain is held in reset (R24). -/
def State.serving (s : State) : Bool := s.sys.mode.serves && !s.boot.held

/-! ## The event recorder (R446–R451, R457) -/

/-- The severity of a hardware record, by code (R457, R485). -/
def recSeverity (code : Nat) : Nat :=
  if [0x0007, 0x0B02, 0x0C04, 0x0A03, 0x0D01, 0x0E01, 0x0E03, 0x1003, 0x1007, 0x100A].contains code then 6
  else if [0x0101, 0x0C03, 0x1104].contains code then 5
  else if [0x0003, 0x0008, 0x0501, 0x0703, 0x0A02, 0x0C02, 0x1102, 0x1006].contains code then 4
  else if [0x0005, 0x0006, 0x0201, 0x0301, 0x0303, 0x0803, 0x0A01, 0x0B01, 0x1101, 0x1002, 0x1008].contains code then 3
  else if [0x0002, 0x0004, 0x0304, 0x0305, 0x0C01, 0x1103, 0x1105, 0x1201, 0x1004, 0x1005, 0x1009].contains code then 2
  else if [0x0601, 0x0701, 0x0801, 0x0901, 0x0602, 0x0702, 0x0802, 0x0902].contains code then 6
  else 1

/-- The MINSEV in force for a source (R70, R447). -/
def State.minsevFor (s : State) (source : Nat) : Nat :=
  let o := SMap.get 255 s.rcd.minsevOf source
  if o = 255 then s.rcd.minsev else o

/-- The sequence number after `n` (R448). -/
def nextSeq (n : Nat) : Nat := if n = 2 ^ 32 - 1 then 1 else n + 1

/-- The record of an event as it stands now (R444). -/
def State.makeRecord (s : State) (code sev source : Nat) (fw summary : Bool) (p0 p1 p2 : Nat) : Record :=
  { seq := nextSeq s.rcd.seq, code := code, sev := sev, source := source, fw := fw, summary := summary,
    optime := s.sys.optime, pwrcyc := s.bkd.pwrcyc, p0 := p0 % 2 ^ 32, p1 := p1 % 2 ^ 32, p2 := p2 % 2 ^ 32 }

/-- Offer a record: filtered, queued, or dropped for want of room (R447, R448, R449). -/
def State.offerRecord (s : State) (code sev source : Nat) (fw summary : Bool) (p0 p1 p2 : Nat) : State :=
  if s.onMain = false then s
  else if sev < s.minsevFor source ∧ sev ≠ 6 then
    { s with rcd := { s.rcd with filtered := satAdd 32 s.rcd.filtered 1 } }
  else if s.rcd.queue.length < 64 then
    { s with rcd := { s.rcd with seq := nextSeq s.rcd.seq,
                                 queue := s.rcd.queue ++ [s.makeRecord code sev source fw summary p0 p1 p2] } }
  else { s with rcd := { s.rcd with seq := nextSeq s.rcd.seq, drops := satAdd 32 s.rcd.drops 1 } }

/-- Offer a hardware record of severity `sev`. -/
def State.offerSev (s : State) (code sev p0 p1 p2 : Nat) : State :=
  s.offerRecord code sev (code / 256) false false p0 p1 p2

/-- Offer a hardware record with the severity of its code (R446, R457). -/
def State.offer (s : State) (code p0 p1 p2 : Nat) : State := s.offerSev code (recSeverity code) p0 p1 p2

/-- Offer a record of a code that R451 limits to one an interval, for each key. -/
def State.offerBurst (s : State) (code key p0 p1 : Nat) : State :=
  if s.rcd.bursts.any (fun b => b.code == code && b.key == key) then
    { s with rcd := { s.rcd with bursts := s.rcd.bursts.map fun b =>
        if b.code = code ∧ b.key = key then { b with count := b.count + 1, p0 := p0, p1 := p1 } else b } }
  else
    let t := s.offer code p0 p1 0
    { t with rcd := { t.rcd with bursts := t.rcd.bursts ++ [{ code := code, key := key, count := 0, p0 := p0, p1 := p1 }] } }

/-! ## Links of the fabric (R459, R460, R469, R471, R473) -/

/-- A Bilkin link. -/
def State.link (s : State) (n : Nat) : Link := SMap.get Link.reset s.blk.links n

/-- Replace a link. -/
def State.setLink (s : State) (n : Nat) (l : Link) : State :=
  { s with blk := { s.blk with links := SMap.set Link.reset s.blk.links n l } }

/-- This device's address in frames: 0xFFFF before one is assigned (R460). -/
def State.ownAddr (s : State) : Nat := s.blk.addr.getD 0xFFFF

/-- Send a message on a link: its frames advance the counter, and the first on a new key carries NEWKEY (R460, R461,
R467). -/
def State.sendAs (s : State) (link ftype flags dst src ttl : Nat) (b : Bytes) : State :=
  let l := s.link link
  let t := if l.keyTx = [] then s
    else s.setLink link { l with txCtr := l.txCtr + max 1 (ceilDiv b.length 2048), announce := false }
  let f : FrameOut := { link := link, ftype := ftype, flags := flags + 4 * flag l.announce, dst := dst, src := src, ttl := ttl,
                        payload := b }
  { t with blk := { t.blk with frames := f :: t.blk.frames } }

/-- Send a message of this device. -/
def State.sendFrame (s : State) (link ftype dst : Nat) (b : Bytes) : State := s.sendAs link ftype 0 dst s.ownAddr 64 b

/-- The link a frame to an address leaves by (R471). -/
def State.linkTo (s : State) (addr : Nat) : Option Nat := (SMap.get Route.none s.blk.routes addr).primary

/-- Send to an address by its primary link; without a route the message is lost. -/
def State.sendTo (s : State) (addr ftype : Nat) (b : Bytes) : State :=
  match s.linkTo addr with
  | some n => s.sendFrame n ftype addr b
  | none => s

/-- The links that are UP. -/
def State.upLinks (s : State) : List Nat := (s.blk.links.filter fun x => decide (x.2.state = .up)).map (·.1)

/-- The address this device requests (R470). -/
def State.requestedAddr (s : State) : Nat :=
  match s.bkd.fabricAddr with
  | some a => a
  | none => if s.blk.unit < 64 then s.blk.unit else 0x0FFF

/-- This device's link-state advertisement (R469). -/
def State.ownLsa (s : State) : Lsa :=
  let p := s.img.force.bilkin
  { ident := Config.deviceIdentity, addr := s.blk.addr, unit := s.blk.unit, requested := s.requestedAddr,
    eligible := p.coordEligible, part := s.part.code, groups := p.groups, replica := p.replica,
    peers := s.upLinks.filterMap fun n => (s.link n).peerId, stamp := s.blk.lsaStamp + 1 }

/-- The payload of an LSA: its items in the order of R469, then its stamp; the spec gives no layout (log 40). -/
def lsaBody (l : Lsa) : Bytes :=
  bytes128 l.ident ++ leBytes 2 (l.addr.getD 0xFFFF) ++ leBytes 1 l.unit ++ leBytes 2 l.requested ++ leBytes 1 (flag l.eligible)
    ++ leBytes 1 l.part ++ leBytes 8 l.groups.toNat ++ leBytes 1 l.replica ++ l.peers.flatMap bytes128 ++ leBytes 8 l.stamp

/-- The database with an advertisement in it, by rising identity. -/
def putLsa (l : Lsa) : List Lsa → List Lsa
  | [] => [l]
  | x :: t => if l.ident.toNat < x.ident.toNat then l :: x :: t else if l.ident = x.ident then l :: t else x :: putLsa l t

/-- Two advertisements say the same but for their stamps. -/
def sameLsa (a b : Lsa) : Bool := decide ({ a with stamp := 0 } = { b with stamp := 0 })

/-- Put an advertisement into the link-state database; what changes it calls for an election and new routes (R469, R471). -/
def State.storeLsa (s : State) (l : Lsa) : State :=
  let changed := match s.blk.lsdb.find? fun x => x.ident == l.ident with
    | some x => !sameLsa x l
    | none => true
  { s with blk := { s.blk with
      lsdb := putLsa l s.blk.lsdb, electDue := s.blk.electDue || changed, routesDue := s.blk.routesDue || changed,
      assigned := if changed then none else s.blk.assigned } }

/-- Send an advertisement on every UP link but one. -/
def State.floodLsa (s : State) (l : Lsa) (but : Option Nat) : State :=
  (s.upLinks.filter fun n => some n != but).foldl (fun t n => t.sendFrame n 0x11 0xFFFF (lsaBody l)) s

/-- Flood this device's own advertisement (R469). -/
def State.floodOwn (s : State) : State :=
  let l := s.ownLsa
  ({ s with blk := { s.blk with lsaStamp := s.blk.lsaStamp + 1 } }.storeLsa l).floodLsa l none

/-- A table entry when a link is lost: its first alternate still UP, else its second, else nothing (R473). -/
def Route.lose (r : Route) (n : Nat) (up : Nat → Bool) : Route :=
  let live (x : Option Nat) : Option Nat := x.filter up
  if r.primary ≠ some n then r
  else
    match live r.alt1, live r.alt2 with
    | some a, y => { r with primary := some a, alt1 := y, alt2 := .none }
    | .none, some b => { r with primary := some b, alt1 := .none, alt2 := .none }
    | .none, .none => Route.none

/-- What a link keeps when its keys and its handshake go. -/
def Link.cut (l : Link) (x : LinkState) (reason : Nat) : Link :=
  { l with state := x, reason := reason, newkey := false, keyTx := [], keyRx := [], nextRx := none, announce := false,
           txCtr := 0, rxCtr := 0, missed := 0, tagBurst := 0, spare := 0, hs := none }

/-- A link goes down (R473): the record, the routes switched, an LSA flooded. -/
def State.linkDown (s : State) (n cause : Nat) : State :=
  let l := s.link n
  if l.state ≠ .up ∧ l.state ≠ .handshake then s
  else
    let l' := l.cut .down cause
    let t := s.setLink n { l' with downs := satAdd 16 l.downs 1 }
    let lost := SMap.mapV Route.none (fun _ r => r.lose n fun k => decide ((t.link k).state = .up)) t.blk.routes
    let u := { t with
      blk := { t.blk with routes := lost }
      ent := { t.ent with stalled := t.ent.stalled.filter (· ≠ Consumer.link n) } }
    let v := u.offer 0x1002 n cause 0
    if l.state = .up then v.floodOwn else v

/-- Modes in which links may be trained (R459). -/
def Mode.linked : Mode → Bool
  | .backup => false
  | .boot => false
  | .load => false
  | .service => true
  | .degraded => true
  | .ceremony => true
  | .locked => true
  | .drain => true

/-- A link may be trained: the policy's bit, the mode and the island (R459, R473). -/
def State.linkAllowed (s : State) (n : Nat) : Bool :=
  decide (n < s.part.links) && s.img.force.bilkin.links.getLsbD n && s.sys.mode.linked && s.pwr.clkOn.getLsbD 15
    && s.pwr.pwrOn.getLsbD 15 && !s.pwr.tripped.getLsbD 15

/-- Links follow what R459 allows: one no longer allowed goes down, one newly allowed trains. -/
def State.refreshLink (s : State) (n : Nat) : State :=
  if s.linkAllowed n then
    let l := s.link n
    if l.state = .notAllowed then s.setLink n { l with state := .training } else s
  else
    let t := s.linkDown n 5
    t.setLink n { t.link n with state := .notAllowed }

/-- The same for every link of the part. -/
def State.refreshLinks (s : State) : State := (List.range s.part.links).foldl (fun t n => t.refreshLink n) s

/-! ## The mode machine (R45, R47) -/

/-- Change the mode, with its record. -/
def State.setMode (s : State) (m : Mode) (cause : Nat) : State :=
  if s.sys.mode = m then s
  else
    let t := { s with sys := { s.sys with mode := m, prev := s.sys.mode, cause := cause, pend := decide (m = Mode.drain) } }
    (t.offer 0x0001 s.sys.mode.code m.code cause).refreshLinks

/-- A fence of an engine's present instances stands. -/
def Engine.anyFenced (e : Engine) (count : Nat) : Bool := e.insts.any fun x => decide (x.1 < count) && x.2.fenced

/-- An engine unit of the state. -/
def State.engine (s : State) : EngUnit → Engine
  | .cal => s.cal
  | .srg => s.srg
  | .tul => s.tul
  | .hsh => s.hsh

/-- Replace an engine unit. -/
def State.setEngine (s : State) (u : EngUnit) (e : Engine) : State :=
  match u with
  | .cal => { s with cal := e }
  | .srg => { s with srg := e }
  | .tul => { s with tul := e }
  | .hsh => { s with hsh := e }

/-- An instance of an engine unit. -/
def State.inst (s : State) (u : EngUnit) (n : Nat) : UnitInst := SMap.get UnitInst.reset (s.engine u).insts n

/-- Replace an instance of an engine unit. -/
def State.setInst (s : State) (u : EngUnit) (n : Nat) (i : UnitInst) : State :=
  s.setEngine u { s.engine u with insts := SMap.set UnitInst.reset (s.engine u).insts n i }

/-- The instance exists on this part (R2). -/
def State.present (s : State) (u : EngUnit) (n : Nat) : Bool := decide (n < s.part.count u)

/-- Some fence of R47's row SERVICE to DEGRADED stands. -/
def State.fenceStands (s : State) : Bool :=
  s.cal.anyFenced (s.part.count .cal) || s.srg.anyFenced (s.part.count .srg) || s.tul.anyFenced (s.part.count .tul)
    || s.hsh.anyFenced (s.part.count .hsh) || decide (s.pwr.tripped ≠ 0) || decide (s.ent.state = .fenced)
    || decide (s.supv.stA = .fenced) || decide (s.supv.stB = .fenced)
    || s.supv.workers.any (fun w => decide (w.2.sw = .held))

/-- After a fence is set: SERVICE becomes DEGRADED (R47). -/
def State.afterFence (s : State) : State :=
  if s.sys.mode = .service ∧ s.fenceStands = true then s.setMode .degraded 4 else s

/-- After a thermal trip: SERVICE becomes DEGRADED for that cause (R47, R54). -/
def State.afterTrip (s : State) : State :=
  if s.sys.mode = .service ∧ s.fenceStands = true then s.setMode .degraded 10 else s

/-- After a fence is lifted: DEGRADED becomes SERVICE with the last one (R47). -/
def State.afterLift (s : State) : State :=
  if s.sys.mode = .degraded ∧ s.fenceStands = false then s.setMode .service 5 else s

/-- The mode a LOAD or a ceremony ends in when no lock calls for LOCKED (R47). -/
def State.openMode (s : State) : Mode := if s.fenceStands then .degraded else .service

/-! ## The life-cycle state (R424) -/

/-- Ones in a word. -/
def popcount (w : W32) : Nat := (List.range 32).foldl (fun n k => n + flag (w.getLsbD k)) 0

/-- A progress mark reads as set when 28 or more of its bits read 1 (R424). -/
def Otp.isSet (o : Otp) (k : Nat) : Bool := decide (28 ≤ popcount (o.marks[k]?.getD 0))

/-- The state of the life cycle: the target of the highest DONE mark (R424). -/
def Otp.lcs (o : Otp) : Nat := if o.isSet 5 then 3 else if o.isSet 3 then 2 else if o.isSet 1 then 1 else 0

/-- SYS_STATUS.LCS. -/
def State.lifeCycle (s : State) : Nat := s.lcs.otp.lcs

/-! ## The tamper log's queue (R417) -/

/-- Queue an event of the tamper log; a full queue merges it. -/
def State.logEvent (s : State) (code param : Nat) : State :=
  if s.bkd.logQueue.length < 32 then
    { s with bkd := { s.bkd with logQueue := s.bkd.logQueue ++ [{ code := code, param := param % 2 ^ 32 }] } }
  else { s with bkd := { s.bkd with merged := s.bkd.merged + 1 } }

/-! ## Tenants and queue pairs -/

/-- The tenant record. -/
def State.tenant (s : State) (t : Nat) : Tenant := SMap.get Tenant.absent s.host.tenants t

/-- Replace a tenant. -/
def State.setTenant (s : State) (t : Nat) (x : Tenant) : State :=
  { s with host := { s.host with tenants := SMap.set Tenant.absent s.host.tenants t x } }

/-- The key of a queue pair. -/
def qpKey (t q : Nat) : Nat := 16 * t + q

/-- A queue pair. -/
def State.qp (s : State) (t q : Nat) : QPair := SMap.get QPair.reset s.host.qps (qpKey t q)

/-- Replace a queue pair. -/
def State.setQp (s : State) (t q : Nat) (x : QPair) : State :=
  { s with host := { s.host with qps := SMap.set QPair.reset s.host.qps (qpKey t q) x } }

/-- The queue record of the image in force, or the defaults of R64. -/
def State.queueRec (s : State) (t q : Nat) : QueueRec :=
  (s.img.force.queues.find? fun x => x.tenant == t && x.qp == q).getD
    { tenant := t, qp := q, depthLog2 := 8, prio := 0, vector := 0, port := 2 }

/-- The depth N of a queue pair. -/
def State.depth (s : State) (t q : Nat) : Nat := 2 ^ (s.queueRec t q).depthLog2

/-- The submission came from an urgent queue pair, here or on the device that forwarded it (R108, R476). -/
def State.urgent (s : State) (r : Req) : Bool :=
  match r.src with
  | .host t q _ => (s.queueRec t q).prio == 1
  | .fabric a id _ => s.blk.ins.any fun f => f.id == id && f.src == a && f.urgent
  | .mailbox .. => false

/-- The port of the host interface. -/
def State.port (s : State) (b : Bool) : Port := if b then s.host.portB else s.host.portA

/-- Replace a port. -/
def State.setPort (s : State) (b : Bool) (p : Port) : State :=
  if b then { s with host := { s.host with portB := p } } else { s with host := { s.host with portA := p } }

/-- Signal MSI-X vector `v` of tenant `t` on a port: kept pending while masked (R86, R94). -/
def State.signal (s : State) (b : Bool) (t v : Nat) : State :=
  let p := s.port b
  let k := 8 * t + v
  if (s.tenant t).state = .destroying then s
  else if (SMap.get MsixEntry.reset p.msix k).masked then
    s.setPort b { p with pba := if p.pba.contains k then p.pba else k :: p.pba }
  else { s with host := { s.host with signals := (t, v) :: s.host.signals } }

/-! ## Completions (R91–R94, R99, R107) -/

/-- Remove the first admitted record of a submission. -/
def dropAdmitted (r : Req) : List Admitted → List Admitted
  | [] => []
  | a :: t => if a.req = r then t else a :: dropAdmitted r t

/-- Commands of a queue pair that are admitted and unfinished. -/
def State.inFlight (s : State) (t q : Nat) : List Admitted :=
  s.host.admitted.filter fun a =>
    match a.req.src with
    | .host t' q' _ => t' == t && q' == q
    | _ => false

/-- Count the completion toward the queue pair's interrupt (R94, R97). -/
def State.countSignal (s : State) (t q : Nat) (noirq : Bool) : State :=
  let x := s.qp t q
  let u := if noirq then x.unsignalled else x.unsignalled + 1
  if x.ien ∧ noirq = false ∧ max 1 x.icount ≤ u then
    (s.setQp t q { x with unsignalled := 0, itimeRun := false }).signal x.portB t (s.queueRec t q).vector
  else s.setQp t q { x with unsignalled := u, itimeRun := x.ien && decide (0 < x.itime) && decide (0 < u) }

/-- A disabled queue pair reads ENABLED 0 once its last record is written (R94). -/
def State.settleQp (s : State) (t q : Nat) : State :=
  let x := s.qp t q
  if x.en = false ∧ s.inFlight t q = [] then s.setQp t q { x with enabled := false } else s

/-- A queue pair fault (R118): consumption stops, the fault is shown, the vector signalled, a record written. A queue
pair already faulted keeps its first code. -/
def State.faultQp (s : State) (t q code : Nat) : State :=
  let x := s.qp t q
  if x.fault ≠ 0 then s
  else
    let y := s.tenant t
    let s1 := (s.setQp t q { x with fault := code }).setTenant t { y with faultQp := y.faultQp ||| (1#16 <<< q) }
    let s2 := if (s1.port x.portB).link then s1.signal x.portB t (s1.queueRec t q).vector else s1
    s2.offer 0x0201 t q code

/-- Count a failed host access on a queue pair's port (HOST_DMAERR). -/
def State.countDmaErr (s : State) (r : Src) : State :=
  match r with
  | .host t q _ =>
    let b := (s.qp t q).portB
    s.setPort b { s.port b with dmaErr := satAdd 16 (s.port b).dmaErr 1 }
  | _ => s

/-- A completion that has no reader left is discarded and counted (R107). -/
def State.discardCompletion (s : State) : State := { s with host := { s.host with discard := satAdd 32 s.host.discard 1 } }

/-- Write a completion record into a queue pair's ring, or discard and count it; a write that fails faults the queue pair
(R92, R93, R107, R118). -/
def State.writeCompletion (s : State) (t q : Nat) (noirq ok : Bool) (c : Completion) : State :=
  let x := s.qp t q
  let size := 2 * s.depth t q
  if x.enabled = false ∨ (s.port x.portB).tunnel = false then s.discardCompletion
  else if ok = false then ((s.countDmaErr c.src).discardCompletion).faultQp t q 3
  else
    let next := (x.cqTail + 1) % size
    let y := { x with cqTail := next, phase := if next = 0 then !x.phase else x.phase, reserved := x.reserved - 1 }
    let s1 := s.setQp t q y
    let s2 := { s1 with host := { s1.host with outbox := { c with phase := x.phase } :: s1.host.outbox } }
    s2.countSignal t q noirq

/-- The BUSY_RETRY bookkeeping of a tenant: count, hint, overload record (R109, R111). -/
def State.countRetry (s : State) (t hint : Nat) : State :=
  let x := s.tenant t
  let s1 := s.setTenant t { x with retry := satAdd 32 x.retry 1, hint := hint, overloaded := true,
                                   retriesInSecond := x.retriesInSecond + 1 }
  if x.overloaded then s1 else s1.offer 0x0303 t 1 0

/-- The 32 bytes of a completion record (R99) at ring index `idx`. -/
def Completion.bytes (c : Completion) (idx : Nat) : Bytes :=
  leBytes 4 c.cid.toNat ++ leBytes 2 c.status ++ leBytes 2 c.sqHead ++ leBytes 4 (c.detail % 65536 + 65536 * c.reason)
    ++ leBytes 4 c.outLen ++ leBytes 8 c.info ++ leBytes 4 c.time ++ leBytes 2 idx
    ++ leBytes 2 (flag c.phase + 2 * flag c.admitted)

/-- The frame of a completion back to the device that asked, forwarded or spilled, and the counts of what was served
(R476, R480). The worked example of R478 makes it the 24-byte header, the completion record and the output. -/
def State.replyFabric (s : State) (addr id tenant : Nat) (c : Completion) : State :=
  let mine (f : FwdIn) : Bool := f.id == id && f.src == addr
  let spilled := s.blk.spillIns.find? mine
  let entry := (s.blk.ins ++ s.blk.spillIns).find? mine
  let head := leBytes 8 id ++ leBytes 1 tenant ++ leBytes 1 (flag ((entry.map (·.urgent)).getD false)) ++ zeros 6
    ++ (((entry.map (·.hash)).getD []) ++ zeros 8).take 8
  let t := s.sendTo addr (if spilled.isSome then 0x23 else 0x21) (head ++ c.bytes 0 ++ c.out)
  { t with blk := { t.blk with
      served := satAdd 32 t.blk.served (flag (c.admitted && spilled.isNone)),
      spillInN := satAdd 16 t.blk.spillInN (flag (c.admitted && spilled.isSome)),
      ins := t.blk.ins.filter (fun f => !mine f), spillIns := t.blk.spillIns.filter (fun f => !mine f) } }

/-- Complete a command: its admitted record goes, its completion is written for its reader (R93, R99, R107, R337). -/
def State.complete (s : State) (r : Req) (status detail reason info outLen : Nat) (out : Bytes) : State :=
  let adm := s.host.admitted.find? (fun a => decide (a.req = r))
  let time := if adm.isSome then s.freeNat 32 else 0
  let s1 := { s with fresh := s.fresh + 1, host := { s.host with admitted := dropAdmitted r s.host.admitted } }
  let head := match adm, r.src with
    | some a, _ => a.sqHead
    | none, .host t q _ => (s.qp t q).sqHead
    | none, _ => 0
  let c : Completion :=
    { src := r.src, cid := r.desc.cid, status := status, sqHead := head, detail := detail, reason := reason,
      outLen := outLen, info := info, time := time, phase := false, admitted := adm.isSome, out := out }
  let s2 := match r.src with
    | .host t q _ => (s1.writeCompletion t q (r.desc.flags.getLsbD 3) r.cqOk c).settleQp t q
    | .mailbox .. => { s1 with zyn := { s1.zyn with done := s1.zyn.done ++ [c] } }
    | .fabric a id n => s1.replyFabric a id n c
  if status = 0x0101 then s2.countRetry r.tenant detail else s2

/-- Refuse a command with a status and a reason. -/
def State.refuse (s : State) (r : Req) (status detail reason : Nat) : State := s.complete r status detail reason 0 0 []

/-- Refuse a command with INPUT_RANGE. -/
def State.refuseRange (s : State) (r : Req) (reason : Nat) : State := s.refuse r 0x0301 0 reason

/-- Refuse a command whose buffer cannot be reached: a host buffer is INPUT_RANGE, reason 0x26 (R102, R118); a mailbox's
buffer that a gate denies is GATE_DENIED, reason 0x88 (R390). -/
def State.refuseBuffer (s : State) (r : Req) : State :=
  match r.src with
  | .mailbox .. => s.refuse r 0x0801 0 0x88
  | _ => (s.countDmaErr r.src).refuseRange r 0x26

/-- Complete a command OK with its result word and output: a buffer too small or out of reach is INPUT_RANGE
(R102, reasons 0x25 and 0x26). -/
def State.answer (s : State) (r : Req) (info : Nat) (out : Bytes) : State :=
  if r.desc.outLen < out.length then s.complete r 0x0301 0 0x25 0 out.length []
  else if out ≠ [] ∧ r.outOk = false then s.refuseBuffer r
  else s.complete r 0 0 0 info out.length out

/-! ## Aborts (R46, R107, R123, R140) -/

/-- Remove from an instance what satisfies `p`, the suspension records of what goes with it (R238). -/
def UnitInst.dropJobs (i : UnitInst) (p : EngSrc → Bool) : UnitInst :=
  let saved := ((i.running.toList ++ i.stack).filter fun j => p j.src).filterMap (·.saved)
  { i with running := i.running.filter (fun j => !p j.src), stack := i.stack.filter (fun j => !p j.src),
           records := saved.foldl (fun m k => SMap.drop k m) i.records }

/-- The instances on which something that satisfies `p` runs, or is suspended with its staging in place. -/
def Engine.touched (e : Engine) (p : EngSrc → Bool) : List Nat :=
  (e.insts.filter fun x => x.2.running.any (fun j => p j.src) || x.2.stack.any fun j => p j.src && j.staged).map (·.1)

/-- Remove the jobs of an engine whose source satisfies `p`. -/
def Engine.dropJobs (e : Engine) (p : EngSrc → Bool) : Engine :=
  { e with
    waiting := e.waiting.filter (fun j => !p j.src)
    parts := e.parts.filter (fun j => !p j.src)
    insts := SMap.mapV UnitInst.reset (fun _ i => i.dropJobs p) e.insts }

/-- The jobs an engine runs or has suspended. -/
def Engine.jobs (e : Engine) : List Job := e.insts.flatMap fun x => x.2.running.toList ++ x.2.stack

/-- Wipe what the instances that run something that satisfies `p` work in (R140, R238). -/
def State.wipeAreas (s : State) (p : EngSrc → Bool) : State :=
  [EngUnit.cal, .srg, .tul].foldl (fun t u =>
    ((s.engine u).touched p).foldl (fun t n => { t with mem := t.mem.wipeAreas u n }) t) s

/-- Remove jobs from every engine, what they work in wiped. A chaining context of a Calico message among them is wiped and
becomes FREE (R238). -/
def State.dropJobs (s0 : State) (p : EngSrc → Bool) : State :=
  let s := s0.wipeAreas p
  let chains := (s.cal.jobs.filter fun j => p j.src).filterMap (fun j => j.ctx)
  { s with
    cal := s.cal.dropJobs p, srg := s.srg.dropJobs p, tul := s.tul.dropJobs p, hsh := s.hsh.dropJobs p
    dmk := { s.dmk with ctx := chains.foldl (fun m c => SMap.set Ctx.free m c Ctx.free) s.dmk.ctx } }

/-- An instance slot. -/
def State.slot (s : State) (n : Nat) : Inst := SMap.get Inst.free s.twl.insts n

/-- Replace an instance slot. -/
def State.setSlot (s : State) (n : Nat) (i : Inst) : State :=
  { s with twl := { s.twl with insts := SMap.set Inst.free s.twl.insts n i } }

/-- The lowest step of `0` to `31` that satisfies `p`. -/
def lowestStep (p : Nat → Bool) : Option Nat := (List.range 32).find? p

/-- The step index an aborted instance reports (R123), for a cause other than a fault or an overflow. -/
def Inst.abortStep (i : Inst) : Nat :=
  if i.state = .loading then 0xFF
  else
    match lowestStep (fun k => i.dispatched.getLsbD k && !i.resolved.getLsbD k) with
    | some k => k
    | none => (lowestStep (fun k => decide (k < i.graph.steps.length) && !i.resolved.getLsbD k)).getD 0

/-- Abort an instance (R139, R140): its steps halt, everything of it is wiped, its slot is FREE, and its command
completes ABORTED. An instance that is COMPLETING is not aborted. -/
def State.abortInst (s : State) (n cause : Nat) (step : Option Nat) : State :=
  let i := s.slot n
  if i.state = .free ∨ i.state = .completing then s
  else
    let k := step.getD i.abortStep
    let s1 := s.dropJobs fun e => match e with
      | .step m _ => m == n
      | .raw _ => false
    let s2 := s1.setSlot n Inst.free
    let s3 := { s2 with fresh := s2.fresh + 1, twl := { s2.twl with
        aborts := satAdd 32 s2.twl.aborts 1, lastStep := k, lastCause := cause, lastInst := n, lastTenant := i.tenant,
        wipeMax := max s2.twl.wipeMax (s2.freeNat 16) } }
    s3.complete i.req 0x0601 (k + 256 * cause) 0 0 0 []

/-- Abort a raw or other admitted command that is not an instance. -/
def State.abortReq (s : State) (r : Req) (cause : Nat) : State :=
  (s.dropJobs fun e => decide (e = .raw r)).complete r 0x0601 (0xFF + 256 * cause) 0 0 0 []

/-- The instance that runs a command, if any. -/
def State.instOf (s : State) (r : Req) : Option Nat :=
  (s.twl.insts.find? fun x => decide (x.2.state ≠ .free) && decide (x.2.req = r)).map (·.1)

/-- Abort one admitted command. -/
def State.abortOne (s : State) (cause : Nat) (r : Req) : State :=
  let s1 := match s.instOf r with
    | some n => s.abortInst n cause none
    | none => s.abortReq r cause
  { s1 with ent := { s1.ent with stalled := s1.ent.stalled.filter fun c => decide (c ≠ .command r) },
            blk := { s1.blk with outs := s1.blk.outs.filter (fun f => decide (f.req ≠ r)),
                                 spillOuts := s1.blk.spillOuts.filter (fun f => decide (f.req ≠ r)) } }

/-- Abort every admitted command that satisfies `p`, oldest first. -/
def State.abortWhere (s : State) (p : Req → Bool) (cause : Nat) : State :=
  ((s.host.admitted.map (·.req)).filter p).foldl (fun t r => t.abortOne cause r) s

/-! ## Image session, ceremony and debug enables -/

/-- Zero the header of a slot (R80, R82). -/
def zeroHeader (m : SMap Byte) : SMap Byte := m.filter fun e => decide (256 ≤ e.1)

/-- End an open write session, zeroing its target header (R82). -/
def State.endSession (s : State) : State :=
  match s.img.session with
  | none => s
  | some x =>
    if x.slotB then { s with img := { s.img with session := none, slotB := zeroHeader s.img.slotB } }
    else { s with img := { s.img with session := none, slotA := zeroHeader s.img.slotA } }

/-- LCS_DBGEN as a number. -/
def Custody.dbgen (l : Custody) : Nat := flag l.nni + 2 * flag l.ninv + 4 * flag l.sni + 8 * flag l.sinv

/-- Write the four debug enables, with the record of a change (R441). -/
def State.setDebug (s : State) (nni ninv sni sinv : Bool) : State :=
  let t := { s with lcs := { s.lcs with nni := nni, ninv := ninv, sni := sni, sinv := sinv } }
  if t.lcs.dbgen = s.lcs.dbgen then t else t.offer 0x0E03 s.lcs.dbgen t.lcs.dbgen 0

/-- Close the ceremony without running its remaining steps (R411, R438). -/
def State.dropCeremony (s : State) : State :=
  { s with lcs := { s.lcs with ceremony := none, sinvWait := none, sinvBefore := [] }, lace := { s.lace with enrolling := none },
           blk := { s.blk with clone := none } }

/-! ## Locking and erasing (R409, R410) -/

/-- Wipe the key cache (R188). -/
def State.wipeKeyc (s : State) : State := { s with dmk := { s.dmk with keyc := [], plru := [] } }

/-- Lock Damask: resolution stops and KEYC is wiped (R188, R209). -/
def State.lockDamask (s : State) : State := { s with dmk := { s.dmk with locked := true, keyc := [], plru := [] } }

/-- Cut a running stimulus short (R411). -/
def State.cutStimulus (s : State) : State :=
  match s.lace.stim with
  | none => s
  | some m =>
    let x := SMap.get Monitor.rest s.lace.monitors m
    { s with lace := { s.lace with stim := none, stMonitor := m, stPass := false, stCut := true,
                                   stRuns := satAdd 14 s.lace.stRuns 1,
                                   monitors := SMap.set Monitor.rest s.lace.monitors m { x with suppressed := false } } }

/-- Answer every request of another device that still waits (R484). -/
def State.answerWaiting (s : State) (status : Nat) : State :=
  (((s.blk.ins ++ s.blk.spillIns).map (·.req)).filter fun r => !(s.host.admitted.any fun a => decide (a.req = r))).foldl
    (fun t r => t.refuse r status 0 0) s

/-- Enter LOCKED (R46, R82, R409, R438, R441): all work aborts with cause 6, Damask is locked, the session and the
ceremony end, the debug enables clear, and the lock is kept. -/
def State.enterLocked (s : State) (cause : Nat) : State :=
  let s1 := ((s.abortWhere (fun _ => true) 6).answerWaiting 0x0701).lockDamask.endSession.dropCeremony
  let s2 := (s1.setDebug false false false false).setMode .locked cause
  { s2 with bkd := { s2.bkd with lockKept := true } }

/-- A mode request is discarded and recorded (R48). -/
def State.discardRequest (s : State) (v : Nat) : State := s.offer 0x0002 v 0 0

/-- A mode request of the running supervisor cycle gives way to an alarm of the same cycle: it is discarded and recorded, and the
mode is as it was (R48). -/
def State.undoRequest (s : State) (v : Nat) : State :=
  let t := { s with sys := { s.sys with mode := s.sys.prev, pend := false, requestAt := none } }
  t.discardRequest v

/-- The value of the request that entered DRAIN in the running supervisor cycle (R48). -/
def State.requestNow (s : State) : Option Nat :=
  match s.sys.requestAt with
  | some (k, v) => if k = s.supv.cycle then some v else none
  | none => none

/-- The sequence of an A2 alarm or of a full tamper log by mode (R44, R48, R409, R411, R418, R428): in END_OF_LIFE the mode
stays; in LOCKED nothing more happens; in BOOT, LOAD and DRAIN the effect on the mode is deferred, but a request that entered
DRAIN in the same supervisor cycle is discarded. -/
def State.lockSequence (s : State) (cause : Nat) : State :=
  if s.lifeCycle = 3 then s.lockDamask
  else
    match s.sys.mode with
    | .locked => s
    | .backup => s
    | .boot => { s.lockDamask with sys := { s.sys with deferredLock := true } }
    | .load => { s.lockDamask with sys := { s.sys with deferredLock := true } }
    | .drain =>
      match s.requestNow with
      | some v => if s.sys.prev = .locked then s.undoRequest v else (s.undoRequest v).enterLocked cause
      | none =>
        let t := (s.abortWhere (fun _ => true) 6).lockDamask
        { t with sys := { t.sys with deferredLock := true } }
    | _ => s.enterLocked cause

/-- Erase the roots (R209, R410): the key area is zeroed, ERASED driven high, KEYC wiped, DMK_ERASE written. -/
def State.eraseKeys (s : State) (cause : Nat) : State :=
  { s.wipeKeyc with
    fresh := s.fresh + 1
    bkd := { s.bkd with l0 := none, l0CheckOk := true, cloned := [], erased := true, eraseCause := cause,
                        eraseUs := s.freeNat 16 } }

/-- The erase with its ERASE_DONE entry (R410, R417). -/
def State.eraseLogged (s : State) (cause : Nat) : State :=
  let t := s.eraseKeys cause
  t.logEvent 0x0A01 (cause * 2 ^ 28 + t.bkd.eraseUs)

/-! ## Alarms (R397, R407–R412) -/

/-- A mesh channel or an intrusion pin. -/
def isTamperPath (mon : Nat) : Bool := decide (mon < 0x1C0) || (decide (0x200 ≤ mon) && decide (mon < 0x208))

/-- The default class of a monitor (R67, R397). -/
def defaultClass (mon : Nat) : Nat := if isTamperPath mon then 3 else if mon = 0x0900 then 2 else 1

/-- The class of a monitor in the ROM default image (R40). -/
def romClass (mon : Nat) : Nat := if isTamperPath mon then 3 else 1

/-- The entry in force for a monitor (R40, R67, R398, R406). -/
def State.alarmCfg (s : State) (mon : Nat) : AlarmCfg :=
  if s.lace.romTable then { cls := romClass mon, alert := false }
  else
    match s.lace.table.find? (fun x => x.1 == mon) with
    | some x => x.2
    | none => { cls := defaultClass mon, alert := false }

/-- The class of a backup-domain monitor while the main domain is off (R412). -/
def State.cellClass (s : State) (mon : Nat) : Nat :=
  if mon = 0x210 then s.bkd.classTemp else if mon = 0x211 then s.bkd.classVbat
  else bits s.bkd.classIntr.toNat (2 * (mon - 0x200)) 2

/-- A monitor's state. -/
def State.monitor (s : State) (mon : Nat) : Monitor := SMap.get Monitor.rest s.lace.monitors mon

/-- Replace a monitor's state. -/
def State.setMonitor (s : State) (mon : Nat) (m : Monitor) : State :=
  { s with lace := { s.lace with monitors := SMap.set Monitor.rest s.lace.monitors mon m } }

/-- Monitors whose condition is an instant, which is absent again once detected: glitches, fault-detector events, shadow
mismatches. -/
def isInstant (mon : Nat) : Bool := decide (0x700 ≤ mon)

/-- Record and log an alarm of class `cls` (R407, R416, LACE_LAST, LACE_COUNT). -/
def State.noteAlarm (s : State) (mon cls data : Nat) (stim : Bool) : State :=
  let m := s.monitor mon
  let now := if stim then m.condition else !isInstant mon
  let s1 := s.setMonitor mon { m with standing := some cls, condition := now, raised := satAdd 16 m.raised 1 }
  let param := cls * 2 ^ 30 + flag stim * 2 ^ 29 + data % 2 ^ 28
  let s2 := { s1 with
    lace := { s1.lace with last := mon, lastClass := cls, lastStim := stim, alarms := satAdd 16 s1.lace.alarms 1 }
    sys := { s1.sys with alarmAt := some s1.supv.cycle } }
  (s2.offer 0x0D01 mon param cls).logEvent mon param

/-- What an alarm's class does on main power (R407). -/
def State.classAction (s : State) (cls : Nat) : State :=
  if cls = 3 then (s.cutStimulus.eraseLogged 1).lockSequence 7
  else if cls = 2 then s.cutStimulus.lockSequence 7
  else s

/-- An alarm on main power: raised unless it stands already or is suppressed (R407, R414). -/
def State.raiseAlarm (s : State) (mon data : Nat) (stim : Bool) : State :=
  let m := s.monitor mon
  if m.standing.isSome ∨ (m.suppressed ∧ stim = false) then
    if stim then s else s.setMonitor mon { m with condition := !isInstant mon }
  else (s.noteAlarm mon (s.alarmCfg mon).cls data stim).classAction (s.alarmCfg mon).cls

/-- Set the pending lock (R412), which END_OF_LIFE never keeps (R428). -/
def State.setPendLock (s : State) : State :=
  if s.lifeCycle = 3 then s else { s with bkd := { s.bkd with pendLock := true } }

/-- An alarm on the cell alone: raised unless it stands already (R407, R412). -/
def State.cellAlarm (s : State) (mon data : Nat) : State :=
  let m := s.monitor mon
  if m.standing.isSome then s.setMonitor mon { m with condition := true }
  else
    let cls := s.cellClass mon
    let s1 := s.setMonitor mon { m with standing := some cls, condition := true }
    let s2 := s1.logEvent mon (cls * 2 ^ 30 + 2 ^ 28 + data % 2 ^ 28)
    if cls = 3 then (s2.eraseLogged 1).setPendLock
    else if cls = 2 then (s2.setPendLock).logEvent 0x0A02 mon
    else s2

/-- A monitor detects its condition. -/
def State.alarm (s : State) (mon data : Nat) : State :=
  if s.onMain then s.raiseAlarm mon data false else s.cellAlarm mon data

/-- A monitor's condition is absent. -/
def State.calm (s : State) (mon : Nat) : State :=
  s.setMonitor mon { s.monitor mon with condition := false }

/-- An inverted-shadow mismatch (R17, R415, R416): the unit block and the register offset or channel. -/
def State.shadowMismatch (s : State) (unit off : Nat) : State :=
  s.raiseAlarm 0x0900 (unit % 256 * 2 ^ 20 + off % 65536) false

/-- Some A1 alarm stands (R110). -/
def State.throttled (s : State) : Bool := s.lace.monitors.any fun x => decide (x.2.standing = some 1)

/-- ALERT_N is driven low (R27, R45, R367, R408); in reset the main domain drives nothing (R24). -/
def State.alertLow (s : State) : Bool :=
  !s.boot.held && (decide (s.sys.mode = .degraded) || decide (s.sys.mode = .locked)
    || (decide (s.sys.mode = .boot) && s.sys.romFailed) || s.supv.noSup
    || s.lace.monitors.any (fun x => x.2.standing.isSome && (s.alarmCfg x.1).alert))

/-- READY is high (R45). -/
def State.readyHigh (s : State) : Bool := s.serving

/-! ## Power of the main domain -/

/-- The baseline of a mesh channel survives the loss of power; what it measured does not (R402, LACE_CHSTAT). -/
def Channel.kept (c : Channel) : Channel := { Channel.rest with baseline := c.baseline }

/-- A monitor of the backup domain (R397). -/
def isBackupMonitor (mon : Nat) : Bool :=
  (decide (0x200 ≤ mon) && decide (mon < 0x208)) || decide (mon = 0x210) || decide (mon = 0x211)

/-- What stays of a monitor when the main domain is reset: an A2 or A3 alarm stands until an unlock, and the backup domain's
monitors go on (R407, R412). -/
def Monitor.kept (mon : Nat) (m : Monitor) : Monitor :=
  if isBackupMonitor mon then { m with suppressed := false, raised := 0 }
  else { Monitor.rest with standing := m.standing.filter fun k => decide (2 ≤ k) }

/-- What stays of Lace: the baseline store and the monitors' standing alarms (R402, R407). -/
def Lace.kept (l : Lace) : Lace :=
  { Lace.reset with channels := SMap.mapV Channel.rest (fun _ c => c.kept) l.channels,
                    monitors := SMap.mapV Monitor.rest Monitor.kept l.monitors }

/-- What survives in Damask's MRAM (R196). -/
def Damask.kept (d : Damask) : Damask :=
  { Damask.reset with marker := d.marker, nonceEpoch := d.nonceEpoch, ks := d.ks, gens := d.gens }

/-- What survives of custody: OTP and the custody store (R431). -/
def Custody.kept (l : Custody) : Custody := { Custody.reset with otp := l.otp, store := l.store }

/-- What survives of power: the cell, the hold-up capacitor and the thermal hold. -/
def Pwr.kept (p : Pwr) (present : BitVec 19) : Pwr :=
  { Pwr.resetFor present with
    cellFitted := p.cellFitted, holdupOk := p.holdupOk, thermHold := p.thermHold, shutdowns := p.shutdowns,
    goodChecks := p.goodChecks, vinOk := p.vinOk, vinMv := p.vinMv, p10mw := p.p10mw, sensors := p.sensors,
    bkdOnMain := p.bkdOnMain, railsOk := p.railsOk }

/-- The state with the main domain reset: every volatile part at its reset value, MRAM, OTP, BBRAM and what left the device kept.
DESIGN CHOICE (log 141): a lock deferred in BOOT, LOAD or DRAIN ends with the start it was raised in; the alarm that called for it
goes on standing (log 136). -/
def State.mainReset (s : State) : State :=
  { State.reset with
    part := s.part
    host := { HostSide.reset with outbox := s.host.outbox, signals := s.host.signals }
    blk := { Fabric.reset with frames := s.blk.frames }
    sys := { Sys.reset with mode := s.sys.mode, prev := s.sys.prev, cause := s.sys.cause, optime := s.sys.optime,
                            optimeFrac := s.sys.optimeFrac }
    pwr := s.pwr.kept s.part.islands
    img := { Img.reset with slotA := s.img.slotA, slotB := s.img.slotB }
    dmk := s.dmk.kept
    lace := s.lace.kept
    bkd := s.bkd
    lcs := s.lcs.kept
    fresh := s.fresh
    pending := s.pending }

/-- Main power is removed from every island (R19, R20): the backup domain goes on alone in BACKUP. -/
def State.mainOff (s : State) : State :=
  let t := s.mainReset
  { t with
    sys := { t.sys with mode := .backup, prev := s.sys.mode, cause := 0 }
    pwr := { t.pwr with railsOk := false, bkdOnMain := false, clkOn := 0, pwrOn := 0, calibrated := false } }

end Sys2Proof.Machine
end

