-- ==== Sys2Proof/Machine/Start.lean ====
section
/-! DEFINITION. Starting the main domain, the ROM's work at a start, entering LOAD and DRAIN (R23–R27, R41, R47–R49,
R306, R371, R424, R425). -/

namespace Sys2Proof.Machine

/-- The backup domain as the ROM reinitialises it after a loss (R25): no root, an empty registry, ERASED driven, the
lock kept, no alarm standing, and BKD_LOST the first log entry. DMK_ERASE takes cause 3, its
time free; the count and the time-stamp the domain lost come up with free values. -/
def State.reinitBackup (s : State) : State :=
  let t := { s with
    fresh := s.fresh + 3
    bkd := { Backup.reset with erased := true, lockKept := true, pwrcyc := s.freeNat 32,
                               ts := Config.freshNat (s.fresh + 1) % 2 ^ 48, vbatMv := s.bkd.vbatMv,
                               temp := s.bkd.temp, intrLevel := s.bkd.intrLevel,
                               eraseCause := 3, eraseUs := Config.freshNat (s.fresh + 2) % 2 ^ 16 }
    lace := { s.lace with monitors := [] }
    sys := { s.sys with bkdLost := true } }
  t.logEvent 0x0A00 0

/-- Program an OTP mark to all ones (R424). -/
def Otp.program (o : Otp) (k : Nat) : Otp := { o with marks := o.marks.setIfInBounds k 0xFFFFFFFF#32 }

/-- The target (1 TEST, 2 PRODUCTION, 3 END_OF_LIFE) of an interrupted transition: a BEGUN mark above the highest DONE
mark (R424). A partly programmed BEGUN mark counts, since the ROM programs it again. -/
def Otp.interrupted (o : Otp) : Option Nat :=
  [3, 2, 1].find? fun t => decide (o.lcs < t) && decide (4 < popcount (o.marks[2 * (t - 1)]?.getD 0))

/-- Step 3 of R425: registry, custody store, kept and pending lock, baseline store. -/
def State.clearCustody (s : State) : State :=
  { s with
    bkd := { s.bkd with quorum := 0, regChanges := 0, custodians := [], lockKept := false, pendLock := false }
    lcs := { s.lcs with store := [] }
    lace := { s.lace with channels := [] } }

/-- Step 4 of R425: ROOT_DUE and the format marker on the way to PRODUCTION, the MRAM wipe on the way to
END_OF_LIFE. -/
def State.transitionStore (s : State) (tgt : Nat) : State :=
  if tgt = 2 then { s with bkd := { s.bkd with rootDue := true }, dmk := { s.dmk with marker := false } }
  else if tgt = 3 then
    { s with img := { s.img with slotA := [], slotB := [] },
             dmk := { s.dmk with marker := false, nonceEpoch := 0, ks := [], gens := [] } }
  else s

/-- Steps 2 to 6 of R425. -/
def State.finishTransition (s : State) (tgt : Nat) : State :=
  let was := s.lifeCycle
  let t := (((s.eraseLogged 2).clearCustody).transitionStore tgt).logEvent 0x0A04 (256 * was + tgt)
  { t with lcs := { t.lcs with otp := (t.lcs.otp.program (2 * (tgt - 1))).program (2 * (tgt - 1) + 1) } }

/-- The ROM completes an interrupted transition (R424). -/
def State.resumeTransition (s : State) : State :=
  match s.lcs.otp.interrupted with
  | none => s
  | some tgt =>
    let t := s.finishTransition tgt
    { t with sys := { t.sys with lcResumed := true } }

/-- The checks of the backup key area at start-up (R207, R415). -/
def State.checkRoots (s : State) : State :=
  let s1 := if s.bkd.l0.isSome ∧ s.bkd.l0CheckOk = false then s.shadowMismatch 0xFF 0 else s
  (s.bkd.cloned.filter fun x => match x.2 with | some c => !c.checkOk | none => false).foldl
    (fun t x => t.shadowMismatch 0xFF (0x40 * x.1)) s1

/-- Lace's check of the baseline records, and the arming of the channels that pass (R402, R406). -/
def State.checkBaselines (s : State) : State :=
  let bad := s.lace.channels.filter fun x => match x.2.baseline with | some b => !b.intact | none => false
  let chs := SMap.mapV Channel.rest (fun _ c => match c.baseline with
    | some b => if b.intact then { c with armed := true } else { c with baseline := none, armed := false }
    | none => c) s.lace.channels
  bad.foldl (fun t x => t.shadowMismatch 0xFE x.1) { s with lace := { s.lace with channels := chs } }

/-- The boot ROM at a start (R25–R27, R371, R402, R424): backup words, life cycle, self-tests, SUP and REC cleared. -/
def State.romRuns (s : State) (romOk : Bool) : State :=
  let s1 := if s.bkd.intact then s else s.reinitBackup
  let s2 := s1.resumeTransition.checkRoots.checkBaselines
  let s3 := { s2 with mem := (s2.mem.initClass 6).initClass 5, img := { s2.img with challenge := none } }
  if romOk then s3 else { s3 with sys := { s3.sys with romFailed := true, bootErr := 1 } }

/-- The main domain starts (R23, R26, R47): the volatile state is that of reset, the mode is BOOT, the power-cycle count
is one more, and the ROM runs. -/
def State.mainStart (s : State) (cause : Nat) (romOk : Bool) : State :=
  let was := s.sys.mode
  let t := s.mainReset
  let t1 := { t with
    sys := { t.sys with mode := .boot, prev := was, cause := cause, thermOff := s.sys.thermOff && decide (was = Mode.backup) }
    pwr := { t.pwr with railsOk := true, bkdOnMain := true }
    bkd := { t.bkd with pwrcyc := satAdd 32 t.bkd.pwrcyc 1 } }
  (t1.offer 0x0001 was.code Mode.boot.code cause).romRuns romOk

/-- The entropy unit's start-up begins at entry to LOAD, always in native mode; a fenced unit stays fenced (R301, R306,
R308). -/
def Entropy.start (e : Entropy) : Entropy :=
  if e.state = .fenced then e
  else { e with state := .startup, ready := false, legacy := false, legacyTest := false, legacyDue := false,
                buf := [], cond := 0, spare := [], pool := none, drbg := Drbg.zero, requests := 0, curLog2 := 16, reseedLog2 := 16, stretchLog2 := 24,
                timeoutUs := 100, katS := 3600, stretched := false, attempts := 0 }

/-- Enter LOAD (R41, R47, R51): leases end, and the entropy start-up begins. -/
def State.enterLoad (s : State) (cause : Nat) : State :=
  let t := s.setMode .load cause
  { t with
    blk := { t.blk with outs := [], ins := [], spillOuts := [], spillIns := [] }
    sys := { t.sys with imgApplied := false, entReady := false, pend := false }
    pwr := { t.pwr with lease := 0 }
    boot := { t.boot with download := .none, usb2A := false, usb2B := false }
    ent := t.ent.start }

/-- Enter DRAIN by a mode request or IMAGE_APPLY (R47, R48, R49, R82). -/
def State.enterDrain (s : State) (tgt : DrainTo) : State :=
  let t := (s.endSession.setMode .drain 8).answerWaiting 0x0501
  { t with sys := { t.sys with drainTo := tgt, modeReqGo := false } }

/-- DRAIN entered by a mode request, which the supervisor cycle remembers (R48). -/
def State.requestDrain (s : State) (tgt : DrainTo) (v : Nat) : State :=
  let t := s.enterDrain tgt
  { t with sys := { t.sys with requestAt := some (s.supv.cycle, v) } }

/-- A committed write of SYS_MODEREQ (R47, R48): during a transition or an open ceremony it is discarded and recorded; DRAINTO 3
discards the write; a request outside SERVICE, DEGRADED and LOCKED, or in the supervisor cycle of an alarm, is discarded and
recorded. -/
def State.modeRequest (s : State) (v : W32) : State :=
  let d := bits v.toNat 0 2
  let tgt : DrainTo := if d = 0 then .off else if d = 1 then .load else .boot
  if s.sys.pend ∨ s.lcs.ceremony.isSome then s.discardRequest v.toNat
  else if d = 3 then s
  else if v.getLsbD 8 = false then { s with sys := { s.sys with drainTo := tgt, modeReqGo := false } }
  else if s.sys.alarmAt = some s.supv.cycle then s.discardRequest v.toNat
  else
    match s.sys.mode with
    | .service => s.requestDrain tgt v.toNat
    | .degraded => s.requestDrain tgt v.toNat
    | .locked => s.requestDrain tgt v.toNat
    | _ => s.discardRequest v.toNat

/-- The lock of the end of LOAD or of an accepted transition: kept in BBRAM (R44). -/
def State.keepLock (s : State) : State := { s with bkd := { s.bkd with lockKept := true } }

end Sys2Proof.Machine
end

