-- ==== Sys2Proof/Machine/Boot.lean ====
section
/-! DEFINITION. Power arriving and going, the boot ROM's downloads and the check of the firmware image
(R13, R19–R39, R500). -/

namespace Sys2Proof.Machine

/-! ## Supply -/

/-- VIN becomes valid (R26): the first valid VIN after a dip below 10.0 V ends a thermal hold (R54). -/
def State.vinValid (s : State) : State :=
  if s.sys.mode = .backup ∧ s.pwr.vinOk = false then
    { s with pwr := { s.pwr with vinOk := true, thermHold := false, goodChecks := 0 },
             sys := { s.sys with thermOff := s.sys.thermOff || s.pwr.thermHold } }
  else s

/-- VIN_VALID (R26, R54). -/
def execVinValid (s : State) : Host.Outcome State Fault Refusal := .next s.vinValid

/-- MAIN_DOMAIN_START (R23, R25, R26): the regulators reach regulation with VIN valid and no thermal hold; a scan of the
main domain holds it in reset (R439). -/
def execMainDomainStart (romOk : Bool) (s : State) : Host.Outcome State Fault Refusal :=
  if s.sys.mode = .backup ∧ s.pwr.vinOk ∧ s.pwr.thermHold = false ∧ s.lcs.scanning = false then
    .next (s.mainStart 0 romOk)
  else .next s

/-- VIN_LOSS (R19, R20): main power goes, the mode is BACKUP, the backup domain changes over. -/
def execVinLoss (s : State) : Host.Outcome State Fault Refusal :=
  let t := if s.sys.mode = .backup then s else s.mainOff
  .next { t with pwr := { t.pwr with vinOk := false, railsOk := false } }

/-- RESET_N (R24): low for at least 1 µs resets the main domain as a loss of VIN does, the backup domain staying on
main supply. The mode changes only at the release (R47). -/
def execResetN (lowNs : Nat) (s : State) : Host.Outcome State Fault Refusal :=
  if s.powered ∧ 1000 ≤ lowNs then
    let t := s.mainReset
    .next { t with boot := { t.boot with held := true } }
  else .next s

/-- RESET_N_RELEASE (R24): bring-up restarts at the ROM step, unless SCAN holds the main domain in reset (R439). -/
def execResetNRelease (romOk : Bool) (s : State) : Host.Outcome State Fault Refusal :=
  if s.powered ∧ s.boot.held ∧ s.lcs.scanning = false then .next (s.mainStart 1 romOk) else .next s

/-- OSCILLATOR_CALIBRATION (R22): once a second while main power is present. -/
def execOscillatorCalibration (s : State) : Host.Outcome State Fault Refusal :=
  if s.powered then .next { s with pwr := { s.pwr with calibrated := true } } else .next s

/-- CELL_INSERTED (R13). -/
def execCellInserted (s : State) : Host.Outcome State Fault Refusal :=
  .next { s with pwr := { s.pwr with cellFitted := true } }

/-- CELL_REMOVED (R21). -/
def execCellRemoved (s : State) : Host.Outcome State Fault Refusal :=
  .next { s with pwr := { s.pwr with cellFitted := false } }

/-- BACKUP_DOMAIN_POWER_LOSS (R21, R25): VIN and the cell have both been absent for longer than the hold-up lasts; the
integrity words no longer hold. -/
def execBackupDomainPowerLoss (s : State) : Host.Outcome State Fault Refusal :=
  if s.sys.mode = .backup ∧ s.pwr.vinOk = false ∧ s.pwr.cellFitted = false then
    .next { s with bkd := { s.bkd with intact := false }, pwr := { s.pwr with holdupOk := false } }
  else .next s

/-- HOLDUP_CHARGED (R500): the capacitor reaches charge, from the main domain or from the cell. -/
def execHoldupCharged (s : State) : Host.Outcome State Fault Refusal :=
  if s.powered ∨ s.pwr.cellFitted then .next { s with pwr := { s.pwr with holdupOk := true } } else .next s

/-! ## Downloads -/

/-- The ROM runs in BOOT and is not held in reset. -/
def State.booting (s : State) : Bool := decide (s.sys.mode = .boot) && !s.boot.held

/-- USB2_ATTACH (R30). -/
def execUsb2Attach (portB : Bool) (s : State) : Host.Outcome State Fault Refusal :=
  if s.booting then
    if portB then .next { s with boot := { s.boot with usb2B := true } }
    else .next { s with boot := { s.boot with usb2A := true } }
  else .next s

/-- What endpoint 0x81 returns in BOOT (R30): SYS_MODE, then SYS_BOOTERR. -/
def State.usb2Status (s : State) : Bytes := leBytes 4 s.sys.modeWord ++ leBytes 4 s.sys.bootErrWord

/-- The USB 2.0 device that a port presents in BOOT (R30): product ID, interface class, the OUT endpoint with its packet size, and
the IN endpoint. -/
structure Usb2Device where
  product : Nat
  cls : Nat
  outEp : Nat
  outPacket : Nat
  inEp : Nat
  deriving DecidableEq, Repr

/-- The device a port presents, while it presents one (R30). -/
def State.usb2Device (s : State) (portB : Bool) : Option Usb2Device :=
  if s.booting && (if portB then s.boot.usb2B else s.boot.usb2A) then
    some { product := 0x0640, cls := 0xFF, outEp := 0x01, outPacket := 512, inEp := 0x81 }
  else none

/-- Start a download, or ignore and record a second start (R31). Over USB4 the device reads SYS_FWLEN bytes from SYS_FWADDR, whose
low 12 bits are ignored. -/
def State.startDownload (s : State) (d : Download) (path : Nat) : State :=
  if s.boot.download = .none then
    { s with boot := { s.boot with
        download := d
        dmaAddr := if d = .usb4 then s.sys.fwAddr &&& ~~~0xFFF#64 else s.boot.dmaAddr
        dmaLen := if d = .usb4 then s.sys.fwLen else s.boot.dmaLen } }
  else s.offer 0x0004 path 0 0

/-- The bytes are what the download in progress brings: over USB4 the length that SYS_FWLEN named (R31). -/
def State.brings (s : State) (image : Bytes) : Bool :=
  match s.boot.download with
  | .none => false
  | .usb4 => decide (image.length = s.boot.dmaLen)
  | .usb2 => true

/-- FW_DOWNLOAD_GO (R31). -/
def execFwDownloadGo (s : State) : Host.Outcome State Fault Refusal :=
  if s.booting then .next (s.startDownload .usb4 0) else .next s

/-- USB2_FW_TRANSFER (R31): on a port that presents its USB 2.0 device. -/
def execUsb2FwTransfer (portB : Bool) (s : State) : Host.Outcome State Fault Refusal :=
  if s.booting ∧ (if portB then s.boot.usb2B else s.boot.usb2A) then .next (s.startDownload .usb2 1) else .next s

/-- The base and size of the staging area (R33). -/
def stagingBase : Nat := 0x20000000
def stagingSize : Nat := 0x800000

/-- Wipe the staging area and return to waiting (R32, R38). -/
def State.endDownload (s : State) : State :=
  { s with boot := { s.boot with download := .none }, mem := s.mem.zeroRange stagingBase stagingSize }

/-- FW_DOWNLOAD_FAILURE (R32). -/
def execFwDownloadFailure (s : State) : Host.Outcome State Fault Refusal :=
  if s.booting ∧ s.boot.download ≠ .none then
    let t := s.endDownload
    .next ({ t with sys := { t.sys with bootErr := 0x0009 } }.offer 0x0003 0x0009 t.sys.rejects 0)
  else .next s

/-! ## The firmware image -/

/-- A segment of a firmware image (R35) with the offset of its data. -/
structure Segment where
  dest : Nat
  size : Nat
  kind : Nat
  entry : Bool
  entryOff : Nat
  dataOff : Nat
  deriving DecidableEq, Repr

/-- A length padded to a multiple of 64 bytes (R34). -/
def pad64 (n : Nat) : Nat := 64 * ceilDiv n 64

/-- The segments of an image, at most 32 (R34, R35). -/
def segmentsFrom (img : Bytes) : Nat → Nat → Nat → List Segment
  | 0, _, _ => []
  | n + 1, k, off =>
    let e := 0x40 + 16 * k
    let size := leAt img (e + 4) 4
    { dest := leAt img e 4, size := size, kind := leAt img (e + 8) 1, entry := leAt img (e + 9) 1 % 2 == 1,
      entryOff := leAt img (e + 12) 4, dataOff := off } :: segmentsFrom img n (k + 1) (off + pad64 size)

/-- The segments that SEGCOUNT declares. -/
def segments (img : Bytes) : List Segment := segmentsFrom img (min 32 (leAt img 0xC 4)) 0 0x240

/-- Offset of the signature block: LENGTH − 3,608 (R34). -/
def sigOff (img : Bytes) : Nat := leAt img 8 4 - 3608

/-- The header, segment table and padded data of the selected segments (R37). -/
def measured (img : Bytes) (p : Segment → Bool) : Bytes :=
  img.take 0x240 ++ ((segments img).filter p).flatMap fun g => slice img g.dataOff (pad64 g.size)

/-- SHA-384 as 48 bytes. -/
def sha384Bytes (b : Bytes) : Bytes := beBytes 48 (Crypto.sha384 b).toNat

/-- D_P: KIND 0, 1 and 3 (R37). -/
def digestP (img : Bytes) : Bytes := sha384Bytes (measured img fun g => g.kind == 0 || g.kind == 1 || g.kind == 3)

/-- D_ALL: every segment (R37). -/
def digestAll (img : Bytes) : Bytes := sha384Bytes (measured img fun _ => true)

/-- A segment lies wholly in IMEM, or for KIND 3 in WORK, outside the staging area (R38 check 4). -/
def Segment.placed (g : Segment) : Bool :=
  if g.kind = 3 then decide (stagingBase + stagingSize ≤ g.dest) && decide (g.dest + g.size ≤ 0x22800000)
  else decide (g.kind < 3) && decide (0x10000000 ≤ g.dest) && decide (g.dest + g.size ≤ 0x10800000)

/-- Two segments share a byte. DESIGN CHOICE (log 144): a segment of no bytes inside another also counts as overlapping it. -/
def Segment.overlaps (g h : Segment) : Bool := decide (g.dest < h.dest + h.size) && decide (h.dest < g.dest + g.size)

/-- No two segments of a list overlap. -/
def disjoint : List Segment → Bool
  | [] => true
  | g :: t => t.all (fun h => !g.overlaps h) && disjoint t

/-- Entry segments of a KIND. -/
def entriesOf (l : List Segment) (k : Nat) : Nat := (l.filter fun g => g.kind == k && g.entry).length

/-- Check 4 of R38. -/
def layoutOk (img : Bytes) : Bool :=
  let l := segments img
  decide (1 ≤ leAt img 0xC 4) && decide (leAt img 0xC 4 ≤ 32) && l.all Segment.placed && disjoint l
    && decide (entriesOf l 0 = 1) && decide (entriesOf l 1 = 1) && decide (entriesOf l 2 ≤ 1)

/-- Check 2 of R38. DESIGN CHOICE (log 144): a SEGCOUNT above 32, which check 4 rejects, counts here as 32. -/
def lengthOk (img : Bytes) : Bool :=
  decide (leAt img 8 4 = img.length) && decide (img.length ≤ 0x800000)
    && decide (0x240 + ((segments img).map fun g => pad64 g.size).sum + 3608 = img.length)

/-- Check 1 of R38. -/
def magicOk (img : Bytes) : Bool :=
  decide (leAt img 0 4 = 0x57464C43) && decide (leAt img 4 2 = 1) && decide (leAt img (sigOff img) 4 = 0x4B474953)

/-- Check 7 of R38: with the owner bit set, the owner key's hash and co-signature. -/
def ownerOk (o : Otp) (img : Bytes) : Bool :=
  let key := slice img (sigOff img + 3508) 97
  !o.ownerBit || (decide (sha384Bytes key = o.ownerHash)
    && Crypto.ecdsaVerify 0x11 key (digestAll img) (slice img (sigOff img + 3412) 96))

/-- The code of the first failing check of R38, or 0. -/
def firmwareCode (p : Part) (o : Otp) (img : Bytes) : Nat :=
  if magicOk img = false then 0x0002
  else if lengthOk img = false then 0x0003
  else if (leAt img 6 2).testBit p.code = false then 0x0004
  else if layoutOk img = false then 0x0005
  else if Crypto.ecdsaVerify 0x11 Config.plaoreEc (digestP img) (slice img (sigOff img + 4) 96) = false then 0x0006
  else if Crypto.mldsaVerify 0x29 Config.plaoreMl [] (digestP img) (slice img (sigOff img + 100) 3309) = false then 0x0007
  else if ownerOk o img = false then 0x0008
  else 0

/-- Reject an image (R38). -/
def State.rejectFirmware (s : State) (code : Nat) : State :=
  let t := s.endDownload
  let n := satAdd 8 t.sys.rejects 1
  { t with sys := { t.sys with bootErr := code, rejects := n } }.offer 0x0003 code n 0

/-- The entry point that the image sets for a KIND, or 0 (R35). -/
def entryPoint (l : List Segment) (k : Nat) : Nat :=
  match l.find? fun g => g.kind == k && g.entry with
  | some g => g.dest + g.entryOff
  | none => 0

/-- The IMEM pages tagged normal: those of KIND 2 segments (R333). -/
def normalPages (l : List Segment) : List Nat :=
  (l.filter fun g => g.kind == 2 && decide (0 < g.size)).flatMap fun g =>
    let lo := (g.dest - 0x10000000) / 4096
    (List.range ((g.dest + g.size - 1 - 0x10000000) / 4096 + 1 - lo)).map (lo + ·)

/-- A core that starts its secure world at `pc` (R39): ZCR_NEPC and ZCR_SENTRY at their reset values. -/
def ZCore.startAt (pc nepc : Nat) : ZCore :=
  { ZCore.reset with started := true, secure := { ZBank.reset with pc := BitVec.ofNat 64 pc },
                     nepc := BitVec.ofNat 32 nepc, sentry := BitVec.ofNat 32 pc }

/-- Supervisors and workers start (R39). -/
def startCores (workers e0 e1 e2 : Nat) : SMap ZCore :=
  (List.range workers).map (fun n => (n, ZCore.startAt e1 e2)) ++ [(16, ZCore.startAt e0 0), (17, ZCore.startAt e0 0)]

/-- Place the segments, zero-fill the rest of IMEM, start the code and enter LOAD (R33, R39). -/
def State.acceptFirmware (s : State) (img : Bytes) : State :=
  let l := segments img
  let m0 := s.mem.initClass 0
  let m := l.foldl (fun m g => m.write g.dest (slice img g.dataOff g.size)) m0
  let usb2 := decide (s.boot.download = .usb2)
  let e0 := entryPoint l 0
  let e1 := entryPoint l 1
  let e2 := entryPoint l 2
  let t := { s.endDownload with
    mem := m.zeroRange stagingBase stagingSize
    zyn := { s.zyn with cores := startCores s.part.workers e0 e1 e2, imemNormal := normalPages l } }
  { t with
    sys := { t.sys with fwVerified := true, usb2Boot := usb2, meas := digestAll img }
    boot := { t.boot with entry0 := e0, entry1 := e1, entry2 := e2 } }.enterLoad 2

/-- FW_IMAGE_RECEIVED (R27, R38, R39): the first failing check rejects the image; after a failed ROM self-test every
image is refused and nothing else changes. -/
def execFwImageReceived (image : Bytes) (s : State) : Host.Outcome State Fault Refusal :=
  if s.booting ∧ s.brings image then
    if s.sys.romFailed then .next s.endDownload
    else if firmwareCode s.part s.lcs.otp image = 0 then .next (s.acceptFirmware image)
    else .next (s.rejectFirmware (firmwareCode s.part s.lcs.otp image))
  else .next s

end Sys2Proof.Machine
end

