-- ==== Sys2Proof/Machine/CheckBits.lean ====
section
/-! DEFINITION. Check bits, the counters of the memory classes, and the record of an error that cannot be corrected (R375–R377). -/

namespace Sys2Proof.Machine

/-! ## Check bits (R376) -/

/-- Bit `k` of a byte as a check-bit term. -/
def dataBit (b : Byte) (k : Nat) : Bool := b.getLsbD k

/-- The exclusive or of some bits of a byte. -/
def xorBits (b : Byte) (ks : List Nat) : Bool := ks.foldl (fun x k => xor x (dataBit b k)) false

/-- The check bits of R376 for a byte, c0 in bit 0. -/
def checkBits (b : Byte) : BitVec 5 :=
  let c0 := xorBits b [0, 1, 3, 4, 6]
  let c1 := xorBits b [0, 2, 3, 5, 6]
  let c2 := xorBits b [1, 2, 3, 7]
  let c3 := xorBits b [4, 5, 6, 7]
  let c4 := xor (xor (xor (xor (xorBits b (List.range 8)) c0) c1) c2) c3
  BitVec.ofNat 5 (flag c0 + 2 * flag c1 + 4 * flag c2 + 8 * flag c3 + 16 * flag c4)

/-- What a byte's stored check bits say, from their difference to those of its data. -/
inductive Ecc where
  | clean
  /-- A single-bit error: the data bits to invert. -/
  | corrected (mask : Byte)
  | uncorrectable
  deriving DecidableEq, Repr

/-- The data bit that a syndrome of c0 to c3 names. -/
def syndromeBit (s : Nat) : Option Nat := [3, 5, 6, 7, 9, 10, 11, 12].findIdx? (· == s)

/-- Decode the difference of the check bits: an odd one is a single error, an even one a double error. -/
def eccOf (d : BitVec 5) : Ecc :=
  let s := d.toNat % 16
  let odd := (popcount (d.setWidth 32)) % 2 = 1
  if d = 0 then .clean
  else if odd = false then .uncorrectable
  else if s = 0 ∨ s = 1 ∨ s = 2 ∨ s = 4 ∨ s = 8 then .corrected 0
  else
    match syndromeBit s with
    | some k => .corrected (1#8 <<< k)
    | none => .uncorrectable

/-! ## Errors and conflicts (R375, R377) -/

/-- A memory class's counters. -/
def Memory.cls (m : Memory) (k : Nat) : MemClass := m.classes[k]?.getD (MemClass.reset 0)

/-- Change them. -/
def Memory.setCls (m : Memory) (k : Nat) (f : MemClass → MemClass) : Memory :=
  { m with classes := m.classes.setIfInBounds k (f (m.cls k)) }

/-- MEM_ELOG_INFO: class, source, master, byte in the word, syndrome, BUS. -/
def elogInfo (k source master byte syndrome : Nat) (bus : Bool) : Nat :=
  k % 8 + 8 * (source % 4) + 32 * (master % 32) + 1024 * (byte % 8) + 8192 * (syndrome % 32) + 2 ^ 18 * flag bus

/-- Record an uncorrectable error (R377). -/
def State.noteUncorrectable (s : State) (a source master : Nat) : State :=
  let k := (classOf a).getD 0
  let syn := (SMap.get 0 s.mem.chk a).toNat
  let m := s.mem.setCls k fun c => { c with uncorr := satAdd 16 c.uncorr 1 }
  let t := { s with mem := { m with elogAddr := a - a % 8, elogInfo := elogInfo k source master (a % 8) syn false } }
  t.offer 0x0C02 t.mem.elogAddr t.mem.elogInfo 0

/-- The first byte of a range whose error cannot be corrected. -/
def Memory.badByte (m : Memory) (a n : Nat) : Option Nat :=
  ((List.range n).map (a + ·)).find? fun x => decide (eccOf (SMap.get 0 m.chk x) = Ecc.uncorrectable)

/-- A master meets BUSY or waits for a port of a bank `n` times (R375). -/
def State.noteConflicts (s : State) (master a n : Nat) : State :=
  match classOf a with
  | some k =>
    let key := 8 * master + k
    { s with mem := { s.mem with conf := SMap.set 0 s.mem.conf key (satAdd 16 (SMap.get 0 s.mem.conf key) n) } }
  | none => s

/-- The March engine holds the accesses to the bank of an address (R383). -/
def State.marchHolds (s : State) (a : Nat) : Bool :=
  match s.mem.march with
  | some r => bankOf a == some r.bank
  | none => false

end Sys2Proof.Machine
end

