-- ==== Sys2Proof/Machine/Graphs.lean ====
section
/-! DEFINITION. Recipe graphs: their encoding (R126, R127), operand spaces (R128), byte marks (R129) and the rules a
graph meets to be valid (R130, R183, R228–R230, R265, R289, R297). -/

namespace Sys2Proof.Machine

/-! ## Encoding -/

/-- An operand field: offset, then length (R127). -/
def opdAt (b : Bytes) (k : Nat) : Opd := { off := leAt b k 2, len := leAt b (k + 2) 2 }

/-- A step record (R127). -/
def stepAt (b : Bytes) (k : Nat) : Step :=
  { unit := leAt b k 1, prim := leAt b (k + 1) 1, ksel := BitVec.ofNat 8 (leAt b (k + 2) 1),
    flags := BitVec.ofNat 8 (leAt b (k + 3) 1), pred := BitVec.ofNat 32 (leAt b (k + 4) 4), a := opdAt b (k + 8),
    b := opdAt b (k + 12), c := opdAt b (k + 16), d := opdAt b (k + 20), imm := slice b (k + 24) 8 }

/-- A graph from its GLEN bytes (R126). -/
def graphAt (b : Bytes) : Graph :=
  let n := leAt b 2 1
  { slots := BitVec.ofNat 8 (leAt b 3 1), inwin := leAt b 4 2, tmoUs := leAt b 8 2, outmax := leAt b 10 2,
    ctxUse := leAt b 12 1 % 2 == 1, ctxType := leAt b 13 1,
    steps := (List.range n).map fun i => stepAt b (16 + 32 * i), pool := b.drop (16 + 32 * n) }

/-- Header fields within R126, lengths as stated, zero fields zero (R130 rule 1, rule 11). -/
def graphHeaderOk (b : Bytes) (steps : Nat) : Bool :=
  let g := graphAt b
  decide (leAt b 0 2 = 0x5754) && decide (leAt b 2 1 = steps) && decide (1 ≤ steps) && decide (steps ≤ 32)
    && decide (b.length = 16 + 32 * steps + leAt b 6 2) && decide (leAt b 6 2 ≤ 1024) && decide (g.inwin ≤ 256)
    && decide (1 ≤ g.tmoUs) && decide (g.outmax ≤ 8192) && decide (leAt b 12 1 < 2) && decide (leAt b 14 2 = 0)
    && (if g.ctxUse then decide (g.ctxType = 4) || decide (g.ctxType = 5) else decide (g.ctxType = 0))
    && g.steps.all fun s => decide (s.ksel &&& 0x70#8 = 0) && decide (s.flags &&& 0x80#8 = 0)

/-! ## Step fields -/

/-- KSEL's slot number. -/
def Step.slot (s : Step) : Nat := (s.ksel &&& 7).toNat
/-- KSEL.SCR: the key is scratch operand C. -/
def Step.scr (s : Step) : Bool := s.ksel.getLsbD 3
/-- KSEL.KEY: a key is used. -/
def Step.keyed (s : Step) : Bool := s.ksel.getLsbD 7
def Step.needRng (s : Step) : Bool := s.flags.getLsbD 0
def Step.outResult (s : Step) : Bool := s.flags.getLsbD 1
def Step.keyOut (s : Step) : Bool := s.flags.getLsbD 2
def Step.pinOut (s : Step) : Bool := s.flags.getLsbD 3
def Step.parityOut (s : Step) : Bool := s.flags.getLsbD 4
def Step.xorIn (s : Step) : Bool := s.flags.getLsbD 5
def Step.xorOut (s : Step) : Bool := s.flags.getLsbD 6
/-- Byte `k` of IMM. -/
def Step.im (s : Step) (k : Nat) : Nat := leAt s.imm k 1
/-- SKIPMASK of a BRANCH (R131). -/
def Step.skipMask (s : Step) : BitVec 32 := BitVec.ofNat 32 (leAt s.imm 4 4)
/-- The step is a BRANCH. -/
def Step.isBranch (s : Step) : Bool := decide (s.unit = 5) && decide (s.prim = 8)

/-- The slot whose key the step uses: an HMAC step uses its slot even when it reads a scratch key (R297). -/
def Step.usesSlot (s : Step) : Bool :=
  if s.unit = 3 then s.keyed && decide (s.prim = 2) else s.keyed && !s.scr

/-! ## Operand spaces -/

/-- The spaces of R128. -/
inductive Space where
  | scratch
  | shadow
  | const
  | stream
  deriving DecidableEq, Repr

/-- The space an operand of non-zero length lies wholly in. -/
def Graph.space (g : Graph) (o : Opd) : Option Space :=
  if o.off + o.len ≤ 0x200 then some .scratch
  else if 0x300 ≤ o.off ∧ o.off + o.len ≤ 0x340 then some .shadow
  else if 0x400 ≤ o.off ∧ o.off + o.len ≤ 0x400 + g.pool.length then some .const
  else if 0x8000 ≤ o.off ∧ o.off ≤ 0xFFFE ∧ (o.len = 0xFFFF ∨ o.off + o.len ≤ 0xFFFF) then some .stream
  else none

/-- The operand is unused or lies in a space other than the stream; the shadow only with CTXUSE (R128, R130 rule 4). -/
def Graph.readable (g : Graph) (o : Opd) : Bool :=
  decide (o.len = 0) || match g.space o with
    | some .scratch => true
    | some .shadow => g.ctxUse
    | some .const => true
    | _ => false

/-- The operand is a stream. -/
def Graph.isStream (g : Graph) (o : Opd) : Bool := decide (o.len ≠ 0) && decide (g.space o = some .stream)

/-- A step whose operand A may be a stream: CBC_MAC, CMAC and GCM of Calico, and hash steps (R128, R228, R297). -/
def Step.streams (s : Step) : Bool := (decide (s.unit = 0) && decide (5 ≤ s.prim)) || decide (s.unit = 3)

/-- Operands lie in the spaces a step may read, and its destination where it may write (R130 rule 4). -/
def Graph.placed (g : Graph) (s : Step) : Bool :=
  (g.readable s.a || (g.isStream s.a && s.streams)) && g.readable s.b && g.readable s.c
    && (if s.d.len = 0 then true
        else if s.outResult then decide (s.d.off + s.d.len ≤ g.outmax)
        else match g.space s.d with
          | some .scratch => true
          | some .shadow => g.ctxUse
          | _ => false)

/-! ## Primitives and their operand lengths -/

/-- Field length of an elliptic-curve ALG, in bytes (R253). -/
def fieldBytes (alg : Nat) : Nat :=
  if alg = 0x10 ∨ alg = 0x13 then 32 else if alg = 0x11 ∨ alg = 0x14 then 48
  else if alg = 0x12 then 66 else if alg = 0x15 then 64
  else if alg = 0x18 ∨ alg = 0x1A then 32 else if alg = 0x19 then 57 else if alg = 0x1B then 56 else 0

/-- ECDSA and ECDH curves. -/
def isCurve (alg : Nat) : Bool := decide (0x10 ≤ alg) && decide (alg ≤ 0x15)
def isEd (alg : Nat) : Bool := decide (alg = 0x18) || decide (alg = 0x19)
def isX (alg : Nat) : Bool := decide (alg = 0x1A) || decide (alg = 0x1B)
def isRsa (alg : Nat) : Bool := decide (0x20 ≤ alg) && decide (alg ≤ 0x22)
def isMldsa (alg : Nat) : Bool := decide (0x28 ≤ alg) && decide (alg ≤ 0x2A)
def isMlkem (alg : Nat) : Bool := decide (0x2C ≤ alg) && decide (alg ≤ 0x2E)

/-- Public key lengths of Tulle's sets (R274). -/
def latticePub (alg : Nat) : Nat :=
  if alg = 0x28 then 1312 else if alg = 0x29 then 1952 else if alg = 0x2A then 2592
  else if alg = 0x2C then 800 else if alg = 0x2D then 1184 else if alg = 0x2E then 1568 else 0

/-- Signature and ciphertext lengths of Tulle's sets (R274). -/
def latticeOut (alg : Nat) : Nat :=
  if alg = 0x28 then 2420 else if alg = 0x29 then 3309 else if alg = 0x2A then 4627
  else if alg = 0x2C then 768 else if alg = 0x2D then 1088 else if alg = 0x2E then 1568 else 0

/-- Public key length of an asymmetric ALG (R253, R274). -/
def pubLen (alg : Nat) : Nat :=
  if isCurve alg then 1 + 2 * fieldBytes alg
  else if isRsa alg then 4 + (256 + 128 * (alg - 0x20))
  else if isMldsa alg || isMlkem alg then latticePub alg
  else fieldBytes alg

/-- Digest length of a hash code (R295); 0 for SHAKE and unknown codes. -/
def digestLen (h : Nat) : Nat :=
  if h = 0x01 ∨ h = 0x11 then 28 else if h = 0x02 ∨ h = 0x12 then 32
  else if h = 0x03 ∨ h = 0x13 then 48 else if h = 0x04 ∨ h = 0x14 then 64 else 0

def isShake (h : Nat) : Bool := decide (h = 0x21) || decide (h = 0x22)

/-- ISO/IEC 9797-1 padding of a length: method 1 pads to a whole number of blocks (one block for no data), method 2
adds a one bit first (R131). -/
def padLen (method blk n : Nat) : Nat :=
  if method = 2 then blk * (n / blk + 1) else if n = 0 then blk else blk * ceilDiv n blk

/-- A step's output length: `none` where its primitive, fields or operand lengths do not suit; `some none` where the
length depends on the key or the stream. -/
def calicoShape (g : Graph) (s : Step) : Option (Option Nat) :=
  let alg := s.im 0
  let blk := if alg = 0 then 16 else 8
  let keyOk := s.keyed && (if s.scr then decide (s.im 2 = 0xFF) && (if alg = 0 then [16, 24, 32].contains s.c.len
    else if alg = 1 then [16, 24].contains s.c.len else decide (s.c.len = 8)) else decide (s.im 2 ≤ 15))
  let xorOk := !(s.xorIn || s.xorOut) || decide (s.b.len = blk)
  if ¬ (keyOk ∧ xorOk ∧ alg ≤ 2) then none
  else if 1 ≤ s.prim ∧ s.prim ≤ 4 then
    if 0 < s.a.len ∧ s.a.len ≤ 512 ∧ s.a.len % blk = 0 ∧ (s.prim ≤ 2 ∨ s.b.len = 0 ∨ s.b.len = blk) then
      some (some s.a.len) else none
  else if s.prim = 5 then if g.isStream s.a ∨ (0 < s.a.len ∧ s.a.len % blk = 0) then some (some blk) else none
  else if s.prim = 6 then if 4 ≤ s.im 1 ∧ s.im 1 ≤ blk then some (some (s.im 1)) else none
  else if alg ≠ 0 ∨ s.im 1 < 12 ∨ 16 < s.im 1 then none
  else if s.prim = 7 then some (if g.isStream s.a then none else some (16 + s.a.len + s.im 1))
  else if s.prim = 8 ∧ s.scr = false ∧ s.c.len = 16 ∧ 1 ≤ s.im 3 ∧ s.im 3 ≤ 0xEF then
    if g.isStream s.a then some none else if s.im 1 ≤ s.a.len then some (some (s.a.len - s.im 1)) else none
  else none

/-- The hash of a SCHEME, as its length in bytes (R254). -/
def schemeHash (x : Nat) : Nat := if x % 16 = 1 then 32 else if x % 16 = 2 then 48 else 64

/-- The operand lengths of a Serge step are those of R252's fields in order (R130 rule 3, R265, R266). -/
def sergeLens (s : Step) : Bool :=
  let alg := s.im 0
  let w := 8 * s.im 3
  let v := leAt s.imm 4 2
  let n := fieldBytes alg
  let digest (k : Nat) : Bool := [28, 32, 48, 64].contains k
  match s.prim with
  | 0x01 => decide (s.a.len = w) && decide (s.b.len = w) && decide (s.c.len = w)
  | 0x02 => decide (s.a.len = w) && decide (s.b.len = w) && decide (s.c.len = w)
  | 0x03 => decide (s.a.len = w) && decide (s.b.len = w) && decide (1 ≤ v) && decide (v ≤ 8 * w) && decide (s.c.len = ceilDiv v 8)
  | 0x04 => decide (s.a.len = w) && decide (s.b.len = w)
  | 0x05 => decide (s.a.len = schemeHash (s.im 1))
  | 0x06 => decide (2048 ≤ v) && decide (v ≤ 8192) && decide (v % 64 = 0) && decide (s.a.len = 4 + v / 8)
      && decide (s.b.len = schemeHash (s.im 1)) && decide (s.c.len = v / 8)
  | 0x07 => decide (v ≤ 1024) && decide (s.a.len = v) && decide (s.b.len = 256 + 128 * (alg - 0x20))
  | 0x08 => digest s.a.len
  | 0x09 => decide (s.a.len = pubLen alg) && digest s.b.len && decide (s.c.len = 2 * n)
  | 0x0A => decide (s.a.len = pubLen alg)
  | 0x0C => decide (s.a.len = n) && decide (s.b.len = 2 * n)
  | 0x0D => decide (s.a.len = n)
  | 0x11 => decide (s.c.len = 2 * n)
  | 0x12 => decide (s.a.len = 2 * n) && decide (s.b.len = n) && decide (s.c.len = 4 * n)
  | _ => true

/-- Serge steps (R250, R252, R254, R265): their primitive, its key, its flags and its operand lengths. -/
def sergeShape (s : Step) : Option (Option Nat) :=
  let op := s.prim
  let alg := s.im 0
  let sch := s.im 1
  let w := 8 * s.im 3
  let pss := decide (1 ≤ sch) && decide (sch ≤ 3)
  let rsaSig := pss || (decide (0x11 ≤ sch) && decide (sch ≤ 0x13))
  let slotKey := s.keyed && !s.scr
  let scrKey := s.keyed && s.scr
  let noKey := !s.keyed && !s.scr
  let verdictOk := decide (1 ≤ s.im 2) && decide (s.im 2 ≤ 0xEF)
  let keyOutOk := if op = 0x10 then s.keyOut else !s.keyOut || [0x07, 0x0A, 0x0D].contains op
  if verdictOk = false ∨ keyOutOk = false ∨ sergeLens s = false then none
  else if op ≤ 4 then
    if 1 ≤ op ∧ alg = 0 ∧ sch = 0 ∧ noKey ∧ 1 ≤ s.im 3 ∧ s.im 3 ≤ 128 then some (some w) else none
  else if op = 0x05 then
    if isRsa alg ∧ rsaSig ∧ slotKey ∧ (s.needRng ∨ pss = false) then some (some (256 + 128 * (alg - 0x20))) else none
  else if op = 0x06 then if alg = 0 ∧ rsaSig ∧ noKey then some (some 0) else none
  else if op = 0x07 then if isRsa alg ∧ 0x21 ≤ sch ∧ sch ≤ 0x23 ∧ slotKey then some none else none
  else if sch ≠ 0 then none
  else if op = 0x08 then
    if isCurve alg ∧ slotKey ∧ s.needRng then some (some (2 * fieldBytes alg)) else none
  else if op = 0x09 then if isCurve alg ∧ noKey then some (some 0) else none
  else if op = 0x0A then if isCurve alg ∧ slotKey then some (some (fieldBytes alg)) else none
  else if op = 0x0B then if isEd alg ∧ slotKey then some (some (2 * fieldBytes alg)) else none
  else if op = 0x0C then if isEd alg ∧ noKey then some (some 0) else none
  else if op = 0x0D then if isX alg ∧ slotKey then some (some (fieldBytes alg)) else none
  else if op = 0x0E then
    if (isCurve alg || isEd alg || isX alg || isRsa alg) ∧ slotKey then some (some (pubLen alg)) else none
  else if op = 0x10 then if isEd alg ∧ slotKey then some (some (2 * fieldBytes alg)) else none
  else if op = 0x11 then if isEd alg ∧ scrKey then some (some (fieldBytes alg)) else none
  else if op = 0x12 then if isEd alg ∧ scrKey then some (some (2 * fieldBytes alg)) else none
  else none

/-- Tulle steps (R289). -/
def tulleShape (s : Step) : Option (Option Nat) :=
  let alg := s.im 0
  if ¬ (s.keyed ∧ s.scr = false ∧ 1 ≤ s.im 2 ∧ s.im 2 ≤ 0xEF ∧ s.keyOut = false ∧ s.pinOut = false) then none
  else if s.prim = 0x03 then
    if isMldsa alg ∧ s.needRng ∧ s.outResult ∧ s.a.len ≤ 512 then some (some (latticeOut alg)) else none
  else if s.prim = 0x07 then
    if (isMldsa alg || isMlkem alg) ∧ s.outResult then some (some (latticePub alg)) else none
  else if s.prim = 0x08 then if isMldsa alg then some (some 64) else none
  else if s.prim = 0x09 then
    if isMldsa alg ∧ s.needRng ∧ s.outResult ∧ s.a.len = 64 then some (some (latticeOut alg)) else none
  else none

/-- Hash steps (R295, R297). -/
def hashShape (s : Step) : Option (Option Nat) :=
  let h := s.im 0
  let o := s.im 1
  if ¬ (s.b.len ≤ 256 ∧ (s.scr = false ∨ s.keyOut)) then none
  else if s.prim = 1 then
    if s.keyed ≠ s.scr then none
    else if isShake h then if 1 ≤ o then some (some o) else none
    else if digestLen h ≠ 0 ∧ o = 0 then some (some (digestLen h)) else none
  else if s.prim = 2 then
    if s.keyed ∧ digestLen h ≠ 0 ∧ (o = 0 ∨ (16 ≤ o ∧ o ≤ digestLen h)) then
      some (some (if o = 0 then digestLen h else o)) else none
  else none

/-- Damask derive steps (R129, R183). -/
def damaskShape (s : Step) : Option (Option Nat) :=
  if s.prim = 1 ∧ s.keyed ∧ s.scr = false ∧ s.a.len = 5 ∧ s.keyOut ∧ s.im 2 ≤ 15 then some none else none

/-- Format micro-ops (R131). -/
def microShape (s : Step) : Option (Option Nat) :=
  let fmtOk := [0, 1, 3, 4].contains (s.im 0)
  let panLen := if s.im 0 = 0 ∨ s.im 0 = 3 then 8 else 0
  if s.keyed ∨ s.scr then none
  else if s.prim = 1 then
    if s.im 0 ≤ 3 ∧ 1 ≤ s.a.len ∧ s.b.len = (if s.im 0 = 2 then 1 else 0) then
      some (some (if s.im 0 = 1 then 16 else if s.im 0 = 3 then 6 else 8)) else none
  else if s.prim = 2 then
    if fmtOk ∧ s.a.len = (if s.im 0 = 4 then 16 else 8) ∧ s.b.len = panLen then some (some 7) else none
  else if s.prim = 3 then
    if fmtOk ∧ s.a.len = 7 ∧ s.b.len = panLen then some (some (if s.im 0 = 4 then 16 else 8)) else none
  else if s.prim = 4 then if 1 ≤ s.a.len ∧ s.a.len ≤ 16 ∧ s.b.len = 16 then some (some s.a.len) else none
  else if s.prim = 5 then
    if s.im 0 ≤ 1 ∧ 1 ≤ s.im 2 ∧ (if s.im 0 = 0 then s.im 1 else 0) + s.im 2 ≤ 2 * s.a.len then
      some (some (ceilDiv (s.im 2) 2)) else none
  else if s.prim = 6 then
    if (s.im 0 = 1 ∨ s.im 0 = 2) ∧ (s.im 1 = 8 ∨ s.im 1 = 16) ∧ 0 < s.a.len then
      some (some (padLen (s.im 0) (s.im 1) s.a.len)) else none
  else if s.prim = 7 then
    if s.im 0 ≤ 3 ∧ 1 ≤ s.a.len ∧ s.a.len ≤ 64 ∧ s.b.len = s.a.len ∧
        ((s.im 1 = 0 ∧ s.im 2 = 0) ∨ (s.im 1 = 1 ∧ 1 ≤ s.im 2 ∧ s.im 2 ≤ 128 ∧ s.im 2 ≤ 2 * s.a.len ∧ s.im 2 ≤ 2 * s.c.len))
    then some (some 0) else none
  else if s.prim = 8 then
    if s.im 0 ≤ 3 ∧ s.im 1 ≤ 1 ∧ s.im 2 ≤ 0xEF ∧ s.a.len = 0 ∧ s.b.len = 0 ∧ s.c.len = 0 then some (some 0) else none
  else none

/-- The shape of a step's output (R130 rule 3). -/
def Graph.shape (g : Graph) (s : Step) : Option (Option Nat) :=
  if s.unit = 0 then calicoShape g s
  else if s.unit = 1 then sergeShape s
  else if s.unit = 2 then tulleShape s
  else if s.unit = 3 then hashShape s
  else if s.unit = 4 then damaskShape s
  else if s.unit = 5 then microShape s
  else none

/-- R130 rule 3: the primitive exists and its lengths suit; the destination's length is the output's. -/
def Graph.shapeOk (g : Graph) (s : Step) : Bool :=
  match g.shape s with
  | none => false
  | some none => decide (s.d.len ≠ 0)
  | some (some n) => decide (s.d.len = n)

/-! ## Order, marks and slots -/

/-- A step of the graph, or an empty micro-op beyond its end. -/
def Graph.step (g : Graph) (n : Nat) : Step := g.steps[n]?.getD (stepAt [] 0)

/-- The steps each step is reachable from through PRED. -/
def ancestors (steps : List Step) : List (BitVec 32) :=
  steps.foldl (fun acc s => acc ++ [(List.range 32).foldl (fun m k =>
    if s.pred.getLsbD k then m ||| (acc[k]?.getD 0) ||| (1#32 <<< k) else m) 0#32]) []

/-- Step `k` is an ancestor of step `n`. -/
def isAncestor (anc : List (BitVec 32)) (k n : Nat) : Bool := (anc[n]?.getD 0).getLsbD k

/-- R130 rule 2. -/
def Graph.orderOk (g : Graph) (anc : List (BitVec 32)) : Bool :=
  (List.range g.steps.length).all fun n =>
    let s := g.step n
    decide (s.pred.toNat < 2 ^ n) && (!s.isBranch || (List.range 32).all fun k =>
      !s.skipMask.getLsbD k || (decide (n < k) && decide (k < g.steps.length) && isAncestor anc n k))

/-- A byte the step writes in scratch, shadow (`false`) or the result (`true`). -/
def Step.writesByte (s : Step) (result : Bool) (x : Nat) : Bool :=
  decide (s.outResult = result) && decide (s.d.off ≤ x) && decide (x < s.d.off + s.d.len)

/-- A byte the step reads from scratch or the shadow. -/
def Step.readsByte (s : Step) (x : Nat) : Bool :=
  [s.a, s.b, s.c].any fun o => decide (o.off ≤ x) && decide (x < o.off + o.len) && decide (o.off < 0x400)

/-- The bytes of scratch and shadow. -/
def markedBytes : List Nat := List.range 0x340

/-- R130 rule 5: every scratch byte read is in the input window or written by an ancestor. -/
def Graph.sourced (g : Graph) (anc : List (BitVec 32)) : Bool :=
  (List.range g.steps.length).all fun n => (List.range 0x200).all fun x =>
    !(g.step n).readsByte x || decide (x < g.inwin)
      || (List.range n).any fun k => isAncestor anc k n && (g.step k).writesByte false x

/-- R130 rule 6: unordered steps share no written byte. -/
def Graph.unshared (g : Graph) (anc : List (BitVec 32)) : Bool :=
  (List.range g.steps.length).all fun n => (List.range n).all fun k =>
    isAncestor anc k n ||
      let s := g.step n
      let t := g.step k
      ((List.range g.outmax).all fun x => !(s.writesByte true x && t.writesByte true x))
        && markedBytes.all fun x => !(s.writesByte false x && (t.writesByte false x || t.readsByte x))
            && !(t.writesByte false x && s.readsByte x)

/-- The marks each step's output carries: key, PIN (R129). -/
abbrev Marks := List (Bool × Bool)

/-- The last ancestor to write a scratch or shadow byte. -/
def Graph.lastWriter (g : Graph) (anc : List (BitVec 32)) (n x : Nat) : Option Nat :=
  ((List.range n).reverse).find? fun k => isAncestor anc k n && (g.step k).writesByte false x

/-- The marks of a byte as step `n` sees it. -/
def Graph.markAt (g : Graph) (anc : List (BitVec 32)) (m : Marks) (n x : Nat) : Bool × Bool :=
  match g.lastWriter anc n x with
  | some k => m[k]?.getD (false, false)
  | none => (false, false)

/-- The marks of an operand: some byte key-marked, some byte PIN-marked. -/
def Graph.opdMarks (g : Graph) (anc : List (BitVec 32)) (m : Marks) (n : Nat) (o : Opd) : Bool × Bool :=
  if o.len = 0 ∨ 0x340 ≤ o.off then (false, false)
  else
    let ms := (List.range o.len).map fun i => g.markAt anc m n (o.off + i)
    (ms.any (·.1), ms.any (·.2))

/-- Output marks of every step, in order (R129). -/
def Graph.marks (g : Graph) (anc : List (BitVec 32)) : Marks :=
  (List.range g.steps.length).foldl (fun m n =>
    let s := g.step n
    let pinIn := (g.opdMarks anc m n s.a).2 || (g.opdMarks anc m n s.b).2 || (g.opdMarks anc m n s.c).2
    m ++ [(s.keyOut, s.pinOut || (decide (s.unit = 5) && pinIn))]) []

/-- R130 rules 7, 8 and 9 for one step. -/
def Graph.markOk (g : Graph) (anc : List (BitVec 32)) (m : Marks) (n : Nat) : Bool :=
  let s := g.step n
  let a := g.opdMarks anc m n s.a
  let b := g.opdMarks anc m n s.b
  let c := g.opdMarks anc m n s.c
  let out := m[n]?.getD (false, false)
  let micro := decide (s.unit = 5)
  let enc := decide (s.unit = 0) && [1, 3, 7].contains s.prim
  let dec := decide (s.unit = 0) && [2, 4, 8].contains s.prim && s.pinOut
  let keys := !a.1 && !b.1 && (!c.1 || (s.keyed && s.scr))
  let pins := (!a.2 || micro || enc || dec) && (!b.2 || micro) && (!c.2 || micro)
  let xors := !(s.xorIn || s.xorOut) || (!b.1 && !b.2)
  keys && pins && xors && (!(out.1 || out.2) || (!s.outResult && decide (s.d.off + s.d.len ≤ 0x200)))

/-- The usage rules of R230 for a Calico step. -/
def Graph.usageOk (g : Graph) (anc : List (BitVec 32)) (m : Marks) (n : Nat) : Bool :=
  let s := g.step n
  decide (s.unit ≠ 0) ||
    ((!([2, 4, 8].contains s.prim && s.pinOut) || decide (s.im 2 = 0))
      && (!([1, 3, 7].contains s.prim && (g.opdMarks anc m n s.a).2) || decide (s.im 2 = 1) || decide (s.im 2 = 2))
      && (!(s.keyOut && s.usesSlot) || [5, 6, 7, 8].contains (s.im 2)))

/-- Slots used by the steps (R130 rule 10). -/
def Graph.slotsUsed (g : Graph) : BitVec 8 :=
  g.steps.foldl (fun m s => if s.usesSlot then m ||| (1#8 <<< s.slot) else m) 0#8

/-- The graph is valid (R130). -/
def graphOk (b : Bytes) (steps : Nat) : Bool :=
  let g := graphAt b
  let anc := ancestors g.steps
  let m := g.marks anc
  graphHeaderOk b steps && g.orderOk anc && g.steps.all (fun s => g.placed s && g.shapeOk s) && g.sourced anc
    && g.unshared anc && (List.range g.steps.length).all (fun n => g.markOk anc m n && g.usageOk anc m n)
    && decide (g.slotsUsed = g.slots)

/-- The units a graph uses (R66): bits 0 to 4. -/
def Graph.unitsUsed (g : Graph) : BitVec 8 :=
  g.steps.foldl (fun m s => if s.unit < 5 then m ||| (1#8 <<< s.unit) else m) 0#8

end Sys2Proof.Machine
end

