-- ==== Sys2Proof/Machine/Nodes.lean ====
section
/-! DEFINITION. Node records of the Damask tree: their 32 bytes (R175), the algorithms and usages they may name (R176,
R177) and the rules a record meets (R178). -/

namespace Sys2Proof.Machine

/-- A node record from its 32 bytes (R175). -/
def nodeAt (b : Bytes) (k : Nat) : Node :=
  { tenant := leAt b k 1, kind := leAt b (k + 1) 1, parent := leAt b (k + 2) 2, depth := leAt b (k + 4) 1,
    alg := leAt b (k + 5) 1, flags := BitVec.ofNat 8 (leAt b (k + 6) 1), colour := leAt b (k + 7) 1,
    usage := BitVec.ofNat 16 (leAt b (k + 8) 2), exportBits := BitVec.ofNat 8 (leAt b (k + 10) 1),
    blimit := leAt b (k + 11) 1, limit := leAt b (k + 12) 4, block := leAt b (k + 16) 2, owner := leAt b (k + 18) 2,
    gslot := leAt b (k + 20) 2, name := BitVec.ofNat 64 (leAt b (k + 24) 8), runtime := false, epochPwr := 0,
    epochRst := 0 }

/-- The 32 bytes of a node record (R175). -/
def Node.bytes (n : Node) : Bytes :=
  leBytes 1 n.tenant ++ leBytes 1 n.kind ++ leBytes 2 n.parent ++ leBytes 1 n.depth ++ leBytes 1 n.alg
    ++ leBytes 1 n.flags.toNat ++ leBytes 1 n.colour ++ leBytes 2 n.usage.toNat ++ leBytes 1 n.exportBits.toNat
    ++ leBytes 1 n.blimit ++ leBytes 4 n.limit ++ leBytes 2 n.block ++ leBytes 2 n.owner ++ leBytes 2 n.gslot ++ zeros 2
    ++ leBytes 8 n.name.toNat

def Node.labelled (n : Node) : Bool := n.flags.getLsbD 0
def Node.expires (n : Node) : Bool := n.flags.getLsbD 1
def Node.classN (n : Node) : Bool := n.flags.getLsbD 2

/-- AES, TDES and HMAC keys. -/
def isTdes (alg : Nat) : Bool := decide (alg = 0x01) || decide (alg = 0x02)
def isAes (alg : Nat) : Bool := decide (3 ≤ alg) && decide (alg ≤ 5)
def isAsym (alg : Nat) : Bool := isCurve alg || isEd alg || isX alg || isRsa alg || isMldsa alg || isMlkem alg

/-- The usage bits an algorithm permits (R176). -/
def usagePermitted (alg : Nat) : BitVec 16 :=
  if isTdes alg || isAes alg then 0x5FFF#16
  else if alg = 0x06 then 0x0600#16
  else if isCurve alg then 0xA000#16
  else if isEd alg || isMldsa alg then 0x2000#16
  else if isX alg || isMlkem alg then 0x8000#16
  else if isRsa alg then 0x6000#16
  else 0

/-- KIND and ALG agree (R176): internal nodes carry 0x40, RSA only sealed leaves. -/
def kindAlgOk (kind alg : Nat) : Bool :=
  if kind = 0 then decide (alg = 0x40)
  else if kind = 1 then isTdes alg || isAes alg || decide (alg = 0x06) || (isAsym alg && !isRsa alg)
  else if kind = 2 then isTdes alg || isAes alg || decide (alg = 0x06) || isAsym alg
  else false

/-- Rules 3 to 7 of R178 that concern the record alone. -/
def Node.selfOk (n : Node) : Bool :=
  kindAlgOk n.kind n.alg && decide (2 ≤ n.depth) && decide (n.depth ≤ (if n.kind = 0 then 7 else 8))
    && decide (n.usage &&& ~~~usagePermitted n.alg = 0) && decide (n.flags &&& 0xF8#8 = 0)
    && decide (n.exportBits &&& 0xF0#8 = 0)
    && (decide (n.kind ≠ 0) || (decide (n.usage = 0) && decide (n.limit = 0) && decide (n.flags = 0) && decide (n.exportBits = 0)))
    && (!n.exportBits.getLsbD 2 || (decide (0x10 ≤ n.alg) && decide (n.alg ≤ 0x2E)))
    && (decide (n.kind ≠ 2) || !n.labelled)
    && (decide (n.block = 0) || (decide (16 ≤ n.block) && decide (n.block ≤ 1024)))
    && (decide (n.blimit = 0) || (decide (16 ≤ n.blimit) && decide (n.blimit ≤ 32)))
    && (decide (n.gslot = 0) || decide (n.kind = 2)) && decide (n.name ≠ 0)

/-- R178 in full, given whether the tenant has a record, the parent as it exists already, and the nodes already there. -/
def Node.ok (n : Node) (hasTenant : Bool) (parent : Option Node) (others : List Node) : Bool :=
  hasTenant && n.selfOk
    && (match parent with
        | some p => decide (p.tenant = n.tenant) && decide (p.kind = 0) && decide (n.depth = p.depth + 1)
        | none => decide (n.parent = 1) && decide (n.depth = 2))
    && others.all (fun o => !(o.tenant == n.tenant && o.parent == n.parent && o.name == n.name))
    && (decide (n.gslot = 0) || others.all fun o => o.gslot != n.gslot)

/-- The reservation block of a counted key: 0 means 64, and a smaller LIMIT is its own block (R175, R178 rule 5). -/
def Node.blockUses (n : Node) : Nat :=
  let b := if n.block = 0 then 64 else n.block
  if n.limit < b then n.limit else b

end Sys2Proof.Machine
end

