-- ==== Sys2Proof/Machine/DamaskOps.lean ====
section
/-! DEFINITION. What Damask does for other units: handles and their resolution (R181, R182, R184–R188), sealed leaves
(R193–R195), key-state entries and counts (R196–R202), block charges (R214) and nonces (R217–R219). -/

namespace Sys2Proof.Machine

/-- A refusal: status, DETAIL and reason (R101). -/
structure Rej where
  status : Nat
  detail : Nat
  reason : Nat
  deriving DecidableEq, Repr

/-- Complete a command with a refusal. -/
def State.reject (s : State) (r : Req) (x : Rej) : State := s.refuse r x.status x.detail x.reason

/-! ## Handles (R181) -/

def hTenant (h : W64) : Nat := (h.extractLsb' 56 8).toNat
def hNode (h : W64) : Nat := (h.extractLsb' 40 16).toNat
def hLabel (h : W64) : Nat := (h.extractLsb' 0 40).toNat

/-- The handle of a tenant's node and label. -/
def mkHandle (t n l : Nat) : W64 := BitVec.ofNat 64 (t * 2 ^ 56 + n * 2 ^ 40 + l % 2 ^ 40)

/-- The node record numbered `n`. -/
def State.node (s : State) (n : Nat) : Option Node := SMap.get none s.dmk.nodes n

/-- The node a tenant's handle names, if it may name a key (R182 check 3). -/
def State.keyNode (s : State) (t n : Nat) : Option Node :=
  match s.node n with
  | some x => if x.tenant = t ∧ x.kind ≠ 0 ∧ 2 ≤ n then some x else none
  | none => none

/-- A context. -/
def State.ctx (s : State) (c : Nat) : Ctx := SMap.get Ctx.free s.dmk.ctx c

/-- Write a context. -/
def State.setCtx (s : State) (c : Nat) (x : Ctx) : State :=
  { s with dmk := { s.dmk with ctx := SMap.set Ctx.free s.dmk.ctx c x } }

/-- The tenant holds the context (R65, R189). -/
def State.holds (s : State) (t c : Nat) : Bool := (s.tenant t).units.contains (c / 4096) && decide (c < 2 ^ 20)

/-- This device counts the node's keys itself (R175, R200). -/
def State.ownNode (s : State) (n : Node) : Bool := decide (n.owner = 0xFFFF) || decide (s.blk.addr = some n.owner)

/-! ## Derivation (R172, R184, R185) and the key cache (R186–R188) -/

/-- A key root exists for the tenant (R172, R182 check 1). -/
def State.hasRoot (s : State) (t : Nat) : Bool :=
  (SMap.get none s.bkd.cloned t).isSome || (s.bkd.l0.isSome && s.bkd.l0CheckOk)

/-- The tenant takes its root from a cloned-root slot (R172). -/
def State.clonedRoot (s : State) (t : Nat) : Bool := (SMap.get none s.bkd.cloned t).isSome

/-- The tenant root (R172, R184). -/
def State.tenantRoot (s : State) (t : Nat) : Bytes :=
  match SMap.get none s.bkd.cloned t with
  | some x => x.key
  | none => kdf (s.bkd.l0.getD []) 0x02 0x40 0 1 [] t 0 (SMap.get 0 s.bkd.epochs t) 0 256

/-- A node's NAME as its eight record bytes. -/
def Node.nameBytes (n : Node) : Bytes := leBytes 8 n.name.toNat

/-- The internal nodes from the tenant root down to node `n`, itself included. -/
def State.ancestry (s : State) : Nat → Nat → List (Nat × Node)
  | 0, _ => []
  | fuel + 1, n =>
    match s.node n with
    | none => []
    | some x => s.ancestry fuel x.parent ++ [(n, x)]

/-- The set of KEYC a tag falls in (R186). -/
def KeyTag.set (g : KeyTag) : Nat :=
  (crc32c (beBytes 1 g.tenant ++ beBytes 2 g.node ++ beBytes 5 g.label)).toNat % 4096

/-- Ways a key of `len` bytes takes (R186). -/
def waysOf (len : Nat) : Nat := max 1 (ceilDiv len 32)

/-- The ways of a set that hold a tag, in order of the key's parts. -/
def Damask.find (d : Damask) (g : KeyTag) : List (Nat × KeycWay) :=
  (List.range 8).filterMap fun w =>
    match SMap.get none d.keyc (8 * g.set + w) with
    | some x => if x.tag = g then some (w, x) else none
    | none => none

/-- Mark a way as most recently used: its tree bits point away from it (R186). -/
def plruTouch (b : BitVec 7) (w : Nat) : BitVec 7 :=
  let set (b : BitVec 7) (i : Nat) (v : Bool) : BitVec 7 := if v then b ||| (1#7 <<< i) else b &&& ~~~(1#7 <<< i)
  set (set (set b 0 (decide (w < 4))) (1 + w / 4) (decide (w % 4 < 2))) (3 + w / 2) (decide (w % 2 = 0))

/-- The way the tree names (R186). -/
def plruVictim (b : BitVec 7) : Nat :=
  let h := flag (b.getLsbD 0)
  let q := 2 * h + flag (b.getLsbD (1 + h))
  2 * q + flag (b.getLsbD (3 + q))

/-- Mark the ways of a hit. -/
def Damask.touch (d : Damask) (set : Nat) (ws : List Nat) : Damask :=
  { d with plru := SMap.set 0 d.plru set (ws.foldl plruTouch (SMap.get 0 d.plru set)) }

/-- The ways a fill of `n` ways takes, given the way the tree names (R186). -/
def fillWays (n w : Nat) : List Nat :=
  if n = 1 then [w] else if n = 2 then [w / 2 * 2, w / 2 * 2 + 1] else [w / 4 * 4, w / 4 * 4 + 1, w / 4 * 4 + 2]

/-- Fill KEYC with a key: every entry the ways held is dropped, with its other ways (R186). -/
def Damask.fill (d : Damask) (g : KeyTag) (key : Bytes) : Damask :=
  let base := 8 * g.set
  let ws := fillWays (waysOf key.length) (plruVictim (SMap.get 0 d.plru g.set))
  let gone := ws.filterMap fun w => (SMap.get none d.keyc (base + w)).map (·.tag)
  let kept := SMap.keep (fun k x => !(decide (k / 8 = g.set) && (match x with
    | some y => gone.contains y.tag
    | none => false))) d.keyc
  let keyc := ((List.range ws.length).zip ws).foldl (fun m p =>
    SMap.set none m (base + p.2) (some { tag := g, part := p.1, key := slice key (32 * p.1) 32 })) kept
  ({ d with keyc := keyc }).touch g.set ws

/-- A cached key. -/
def Damask.cached (d : Damask) (g : KeyTag) : Option Bytes :=
  match d.find g with
  | [] => none
  | l => some (l.flatMap (·.2.key))

/-- Drop cached keys whose tag satisfies `p` (R188). -/
def State.dropCached (s : State) (p : KeyTag → Bool) : State :=
  let keyc := SMap.keep (fun _ x => match x with
    | some y => !p y.tag
    | none => false) s.dmk.keyc
  { s with dmk := { s.dmk with keyc := keyc } }

/-- The key of an internal node with its ancestors, deepest first, or of the tenant root: from the deepest cached one down, each key
derived filling KEYC. Gives the key, the levels derived, and Damask after it (R185–R187). -/
def State.chainKey (s : State) (t : Nat) : List (Nat × Node) → Bytes × Nat × Damask
  | [] =>
    let g : KeyTag := { tenant := t, node := 1, label := 0 }
    match s.dmk.cached g with
    | some c => (c, 0, s.dmk.touch g.set ((s.dmk.find g).map (·.1)))
    | none => (s.tenantRoot t, 1, s.dmk.fill g (s.tenantRoot t))
  | (num, x) :: rest =>
    let g : KeyTag := { tenant := t, node := num, label := 0 }
    match s.dmk.cached g with
    | some c => (c, 0, s.dmk.touch g.set ((s.dmk.find g).map (·.1)))
    | none =>
      let p := s.chainKey t rest
      let c := kdf p.1 0x01 0x40 0 x.depth x.nameBytes t 0 0 0 256
      (c, p.2.1 + 1, p.2.2.fill g c)

/-- The key of a parent: the tenant root or an internal node. -/
def State.parentKey (s : State) (t parent : Nat) : Bytes × Nat × Damask :=
  s.chainKey t (if parent = 1 then [] else (s.ancestry 8 parent).reverse)

/-- The state once a parent's key has been resolved. -/
def State.derived (s : State) (t parent : Nat) : State := { s with dmk := (s.parentKey t parent).2.2 }

/-- The reset epoch a node's derivation carries (R179, R184). -/
def Node.gen (n : Node) : Nat := if n.expires then n.epochPwr else 0
def Node.gen2 (n : Node) : Nat := if n.expires then n.epochRst else 0

/-- The working key of a node and label from its parent's key (R185); PURPOSE 0x05, or 0x06 for a CHILD step. -/
def Node.workingKey (n : Node) (purpose : Nat) (parent : Bytes) (label : Nat) : Bytes :=
  formKey n.alg (kdf parent purpose n.alg n.usage.toNat n.depth n.nameBytes n.tenant label n.gen n.gen2 (deriveBits n.alg))

/-- The leaf wrapping key of a node for a label and a generation (R184, R193). -/
def Node.leafKey (n : Node) (parent : Bytes) (label gen : Nat) : Bytes :=
  kdf parent 0x03 0x05 n.usage.toNat n.depth n.nameBytes n.tenant label gen n.gen2 256

/-- The context-wrapping key of a tenant (R204). -/
def State.ctxKey (s : State) (t : Nat) : Bytes :=
  kdf (s.parentKey t 1).1 0x04 0x05 0 0 [0x43, 0x54, 0x58, 0x57, 0x52, 0x41, 0x50, 0x00] t 0 0 0 256

/-- The leaf generation of a node (R195). -/
def State.leafGen (s : State) (n : Node) : Nat := if n.gslot = 0 then 0 else SMap.get 0 s.dmk.gens n.gslot

/-! ## Sealed leaves (R193, R194) -/

/-- Contexts a wrapped leaf of `w` bytes occupies (R194). -/
def leafCount (w : Nat) : Nat := 1 + ceilDiv (w - 48) 56

/-- The wrapped bytes of the leaf whose head is context `c`. -/
def State.leafBytes (s : State) (c : Nat) : Bytes :=
  match (s.ctx c).body with
  | .leaf _ w part =>
    (part ++ (List.range (leafCount w - 1)).flatMap fun k =>
      match (s.ctx (c + 1 + k)).body with
      | .cont _ p => p
      | _ => zeros 56).take w
  | _ => []

/-- The plaintext of a leaf (R193). -/
def leafPlain (alg exportable gen : Nat) (key : Bytes) : Bytes :=
  leBytes 1 alg ++ leBytes 1 exportable ++ leBytes 2 key.length ++ leBytes 4 gen ++ key

/-- The contexts that hold a wrapped leaf. -/
def leafCtxs (t : Nat) (h : W64) (c : Nat) (wrapped : Bytes) : List (Nat × Ctx) :=
  (c, { frozen := false, tenant := t, body := .leaf h wrapped.length ((wrapped ++ zeros 48).take 48) })
    :: (List.range (leafCount wrapped.length - 1)).map fun k =>
      (c + 1 + k, { frozen := false, tenant := t, body := .cont c ((slice wrapped (48 + 56 * k) 56 ++ zeros 56).take 56) })

/-- Write a list of contexts. -/
def State.setCtxs (s : State) (l : List (Nat × Ctx)) : State := l.foldl (fun s p => s.setCtx p.1 p.2) s

/-- Wipe a leaf and its continuation contexts. -/
def State.wipeLeaf (s : State) (c : Nat) : State :=
  match (s.ctx c).body with
  | .leaf _ w _ => s.setCtxs ((List.range (leafCount w)).map fun k => (c + k, Ctx.free))
  | _ => s

/-- Leaves of a node stored in contexts (R203). -/
def State.leavesOf (s : State) (n : Nat) : Nat :=
  (s.dmk.ctx.filter fun x => match x.2.body with
    | .leaf h _ _ => hNode h == n
    | _ => false).length

/-! ## Resolution (R182) -/

/-- The colour of the initiator a submission acts with (R125, R182). -/
def State.actingColour (s : State) (r : Req) : Nat :=
  match r.src with
  | .mailbox w _ _ => ((SMap.get WorkerCtl.reset s.supv.workers w).scol).toNat
  | _ => (s.tenant r.tenant).colour

/-- The colour of a node (R175). -/
def State.nodeColour (s : State) (n : Node) : Nat :=
  if n.colour = 0 then (s.tenant n.tenant).colour else n.colour

/-- The grant table grants a read from one colour to another (R389). -/
def State.granted (s : State) (a b : Nat) (wr : Bool) : Bool :=
  s.gate.grants.any fun g => g.2.valid && g.2.from_ == a && g.2.tgt == b && (if wr then g.2.write else g.2.read)

/-- The label has the form of R181. -/
def labelOk (n : Node) (l : Nat) : Bool :=
  if n.kind = 2 then decide (l < 2 ^ 20) else n.labelled || decide (l = 0)

/-- Checks 1 to 6 of R182, giving the node. -/
def State.handleChecks (s : State) (t colour : Nat) (h : W64) : Except Rej Node :=
  if s.hasRoot t = false ∨ s.dmk.locked ∨ s.dmk.wiping then .error ⟨0x0701, 0, 0⟩
  else if hTenant h ≠ t then .error ⟨0x0801, 0, 0x50⟩
  else
    match s.keyNode t (hNode h) with
    | none => .error ⟨0x0301, 0, 0x52⟩
    | some n =>
      if labelOk n (hLabel h) = false then .error ⟨0x0301, 0, 0x53⟩
      else if colour ≠ s.nodeColour n ∧ s.granted colour (s.nodeColour n) false = false then .error ⟨0x0801, 0, 0x51⟩
      else if n.kind = 2 ∧ (match (s.ctx (hLabel h)).body with
          | .leaf h' _ _ => decide (h' ≠ h)
          | _ => true) = true then .error ⟨0x0301, 0, 0x54⟩
      else .ok n

/-- The longest resolution time so far (R187, DMK_LATMAX). -/
def Damask.took (d : Damask) (ns : Nat) : Damask := { d with latMax := max d.latMax (min ns 0xFFFF) }

/-- A key that KEYC holds of a tag and cannot be read without an uncorrectable error is recorded and dropped (R377). -/
def State.soundKey (s : State) (g : KeyTag) : State :=
  match (s.dmk.find g).findSome? fun w => s.mem.badByte (0x90000000 + 64 * (8 * g.set + w.1)) 64 with
  | none => s
  | some a =>
    let t := (s.noteUncorrectable a 0 19).dropCached (· == g)
    let keep (x : Nat) : Bool := (s.dmk.find g).all fun w => decide ((x - 0x90000000) / 64 ≠ 8 * g.set + w.1)
    { t with mem := { t.mem with chk := t.mem.chk.filter fun e => keep e.1 } }

/-- The same for the keys that a resolution reads, from the working key up to the deepest one that KEYC holds (R185, R377). -/
def State.soundKeys : List KeyTag → State → State
  | [], s => s
  | g :: rest, s => if ((s.soundKey g).dmk.cached g).isSome then s.soundKey g else State.soundKeys rest (s.soundKey g)

/-- The tags of the keys above a node, deepest first. -/
def State.tagsAbove (s : State) (t parent : Nat) : List KeyTag :=
  (if parent = 1 then [] else ((s.ancestry 8 parent).reverse.map fun x => { tenant := t, node := x.1, label := 0 }))
    ++ [{ tenant := t, node := 1, label := 0 }]

/-- Resolve a handle for a tenant acting with a colour (R182): the key, its node, and the state with KEYC and its
counters as the resolution leaves them. -/
def State.resolve (s0 : State) (t colour : Nat) (h : W64) : Except Rej (State × RKey × Node) :=
  match s0.handleChecks t colour h with
  | .error e => .error e
  | .ok n =>
    let own : List KeyTag := if n.kind = 1 then [{ tenant := t, node := hNode h, label := hLabel h }] else []
    let s := State.soundKeys (own ++ s0.tagsAbove t n.parent) s0
    let rk (k : Bytes) : RKey := { handle := h, alg := n.alg, usage := n.usage, classN := n.classN, key := k }
    if n.kind = 1 then
      let g : KeyTag := { tenant := t, node := hNode h, label := hLabel h }
      match s.dmk.cached g with
      | some k =>
        let d := (s.dmk.touch g.set ((s.dmk.find g).map (·.1))).took 16
        .ok ({ s with dmk := { d with hits := wrapAdd 32 d.hits 1 } }, rk k, n)
      | none =>
        let p := s.parentKey t n.parent
        let k := n.workingKey 0x05 p.1 (hLabel h)
        let d := (p.2.2.fill g k).took (28 + 48 * (p.2.1 + 1))
        .ok ({ s with dmk := { d with misses := wrapAdd 32 d.misses 1 } }, rk k, n)
    else
      let p := s.parentKey t n.parent
      let gen := s.leafGen n
      let w := s.leafBytes (hLabel h)
      match Crypto.kwpUnwrap (n.leafKey p.1 (hLabel h) gen) w with
      | none => .error ⟨0x0301, 0, 0x55⟩
      | some b =>
        if leAt b 4 4 ≠ gen then .error ⟨0x0301, 0, 0x55⟩
        else
          let d := p.2.2.took (28 + 48 * (p.2.1 + 1) + 60 + ceilDiv w.length 8 * 8)
          .ok ({ s with dmk := { d with misses := wrapAdd 32 d.misses 1 } }, rk (slice b 8 (leAt b 2 2)), n)

/-- A leaf's EXPORTABLE attribute (R193). -/
def State.leafExportable (s : State) (t : Nat) (n : Node) (c : Nat) : Bool :=
  match Crypto.kwpUnwrap (n.leafKey (s.parentKey t n.parent).1 c (s.leafGen n)) (s.leafBytes c) with
  | some b => decide (leAt b 1 1 = 1)
  | none => false

/-! ## Key-state entries and counts (R197–R202) -/

/-- The table positions a handle may hold (R197). -/
def ksProbe (h : W64) : List Nat :=
  (List.range 64).map fun k => ((crc32c (beBytes 8 h.toNat)).toNat % 32768 + k) % 32768

/-- A released entry's HANDLE. -/
def ksReleased : W64 := 0xFFFFFFFFFFFFFFFF#64

/-- An entry of the table. -/
def Damask.entry (d : Damask) (e : Nat) : KsEntry := SMap.get KsEntry.free d.ks e

/-- The entry that holds a handle, searching up to the first free one (R197). -/
def Damask.lookup (d : Damask) (h : W64) : List Nat → Option Nat
  | [] => none
  | e :: rest =>
    if (d.entry e).handle = h then some e else if (d.entry e).handle = 0 then none else d.lookup h rest

/-- The entry a handle holds. -/
def Damask.ksOf (d : Damask) (h : W64) : Option Nat := d.lookup h (ksProbe h)

/-- The entry a new handle takes. -/
def Damask.ksFree (d : Damask) (h : W64) : Option Nat :=
  (ksProbe h).find? fun e => decide ((d.entry e).handle = 0) || decide ((d.entry e).handle = ksReleased)

/-- The highest number below `n` that satisfies `p`. -/
def findDown (p : Nat → Bool) : Nat → Option Nat
  | 0 => none
  | n + 1 => if p n then some n else findDown p n

/-- The highest-numbered FREE context among a tenant's units (R197). -/
def State.highFree (s : State) (t : Nat) : Option Nat :=
  (s.tenant t).units.reverse.findSome? fun u =>
    (findDown (fun k => decide (s.ctx (4096 * u + k) = Ctx.free)) 4096).map (4096 * u + ·)

/-- The KSTATE body of an entry's context. -/
def State.kstate (s : State) (e : Nat) : Option (Nat × KState) :=
  match SMap.get none s.dmk.bound e with
  | none => none
  | some c => match (s.ctx c).body with
    | .kstate _ k => some (c, k)
    | _ => none

/-- Write the KSTATE body of an entry's context. -/
def State.setKstate (s : State) (t e c : Nat) (k : KState) : State :=
  s.setCtx c { frozen := false, tenant := t, body := .kstate e k }

/-- Bind a handle to its entry and its KSTATE context (R197, R198): the state, the entry, the context and its body. -/
def State.bindKs (s : State) (t : Nat) (h : W64) : Except Rej (State × Nat × Nat × KState) :=
  let held := s.dmk.ksOf h
  match (match held with
    | some e => some e
    | none => s.dmk.ksFree h) with
  | none => .error ⟨0x0301, 0, 0x56⟩
  | some e =>
    match (match held with
      | some _ => s.kstate e
      | none => none) with
    | some (c, k) => .ok (s, e, c, k)
    | none =>
      match s.highFree t with
      | none => .error ⟨0x0301, 0, 0x57⟩
      | some c =>
        let x := match held with
          | some _ => s.dmk.entry e
          | none => { handle := h, ceil := 0, bceil := 0 }
        let k : KState := { handle := h, used := x.ceil, ceil := x.ceil, blkUsed := 1024 * x.bceil, bceil := x.bceil,
                            nonceCtr := 0 }
        let d := { s.dmk with ks := SMap.set KsEntry.free s.dmk.ks e x, bound := SMap.set none s.dmk.bound e (some c) }
        .ok (({ s with dmk := d }).setKstate t e c k, e, c, k)

/-- The uses a handle has consumed, as a binding would start it (R198, R182). -/
def State.usedOf (s : State) (h : W64) : Nat × Nat :=
  match s.dmk.ksOf h with
  | none => (0, 0)
  | some e => match s.kstate e with
    | some (_, k) => (k.used, k.ceil)
    | none => ((s.dmk.entry e).ceil, (s.dmk.entry e).ceil)

/-- The blocks a handle has been charged. -/
def State.blocksOf (s : State) (h : W64) : Nat :=
  match s.dmk.ksOf h with
  | none => 0
  | some e => match s.kstate e with
    | some (_, k) => k.blkUsed
    | none => 1024 * (s.dmk.entry e).bceil

/-- A reservation write to MRAM (R199): whether its verification fails is not the model's to decide. -/
def State.reserveFails (s : State) : Bool := Config.freshBool s.fresh

/-- The failed reservation's record (R199, code 0x0501). -/
def State.reserveFailed (s : State) (h : W64) : State :=
  (s.skip 1).offer 0x0501 (h.toNat % 2 ^ 32) (h.toNat / 2 ^ 32) 0

/-- What consuming a count or charging blocks may end in besides a plain refusal: the state after it, and the refusal. -/
abbrev Counted := State × Option Rej

/-- Consume one use of a counted key that this device counts (R198). -/
def State.countUse (s : State) (t : Nat) (h : W64) (n : Node) (operand : Nat) : Counted :=
  if n.limit = 0 then (s, none)
  else
    match s.bindKs t h with
    | .error e => (s, some e)
    | .ok (s1, e, c, k) =>
      if n.limit ≤ k.used then (s1, some ⟨0x0203, operand, 0⟩)
      else if k.used = k.ceil then
        if s1.reserveFails then (s1.reserveFailed h, some ⟨0x0501, 0, 0⟩)
        else
          let ceil := min (k.ceil + n.blockUses) n.limit
          let d := { s1.dmk with ks := SMap.set KsEntry.free s1.dmk.ks e { s1.dmk.entry e with ceil := ceil },
                                 resv := wrapAdd 32 s1.dmk.resv 1 }
          ((({ s1 with dmk := d }).skip 1).setKstate t e c { k with ceil := ceil, used := k.used + 1 }, none)
      else (s1.setKstate t e c { k with used := k.used + 1 }, none)

/-- Damask tracks the key's class U blocks (R180, R214). -/
def Node.tracked (n : Node) : Bool := !n.labelled && !n.classN && (isTdes n.alg || isAes n.alg)

/-- The class U block limit of a key (R180). -/
def Node.blockLimit (n : Node) : Nat := if n.blimit ≠ 0 then 2 ^ n.blimit else if isTdes n.alg then 2 ^ 20 else 2 ^ 32

/-- The key's block limit leaves room for `blocks` more (R214, R215). -/
def State.blocksFit (s : State) (h : W64) (n : Node) (blocks : Nat) : Bool :=
  !n.tracked || (decide (s.blocksOf h + blocks ≤ n.blockLimit) && decide (s.blocksOf h < n.blockLimit))

/-- Charge blocks to a key, reserving ahead in steps of 64 units of 1,024 blocks (R198, R214). -/
def State.chargeBlocks (s : State) (t : Nat) (h : W64) (n : Node) (blocks operand : Nat) : Counted :=
  if n.tracked = false then (s, none)
  else if s.blocksFit h n blocks = false then (s, some ⟨0x0203, operand, 0x65⟩)
  else
    match s.bindKs t h with
    | .error e => (s, some e)
    | .ok (s1, e, c, k) =>
      let used := k.blkUsed + blocks
      if used ≤ 1024 * k.bceil then (s1.setKstate t e c { k with blkUsed := used }, none)
      else if s1.reserveFails then (s1.reserveFailed h, some ⟨0x0501, 0, 0⟩)
      else
        let bceil := min (k.bceil + 64 * ceilDiv (used - 1024 * k.bceil) 65536) (n.blockLimit / 1024)
        let d := { s1.dmk with ks := SMap.set KsEntry.free s1.dmk.ks e { s1.dmk.entry e with bceil := bceil },
                               resv := wrapAdd 32 s1.dmk.resv 1 }
        ((({ s1 with dmk := d }).skip 1).setKstate t e c { k with bceil := bceil, blkUsed := used }, none)

/-- Why a class N encryption may be refused a nonce (R219): its issue would take NONCECTR above 2^48 − 1. -/
def State.nonceRefusal (s : State) (h : W64) (operand : Nat) : Option Rej :=
  let ctr := match s.dmk.ksOf h with
    | none => 0
    | some e => match s.kstate e with
      | some (_, k) => k.nonceCtr
      | none => 0
  if 2 ^ 48 - 1 ≤ ctr then some ⟨0x0203, operand, 0x66⟩
  else if s.dmk.nonceEpoch = 2 ^ 32 - 1 then some ⟨0x0203, operand, 0x67⟩
  else none

/-- Issue one nonce of a class N key (R217): the value issued, and the state after it. -/
def State.issueNonce (s : State) (t : Nat) (h : W64) (operand : Nat) : Except Rej (State × Nat) :=
  match s.nonceRefusal h operand with
  | some e => .error e
  | none =>
    match s.bindKs t h with
    | .error e => .error e
    | .ok (s1, e, c, k) => .ok (s1.setKstate t e c { k with nonceCtr := k.nonceCtr + 1 }, k.nonceCtr)

/-- The nonce block Nb with a block field (R217). -/
def State.nonceBlock (s : State) (ctr field : Nat) : Bytes :=
  beBytes 4 s.dmk.nonceEpoch ++ beBytes 2 s.bkd.pwrcyc ++ beBytes 6 ctr ++ beBytes 4 field

/-- Every key of the node has expired (R179). -/
def State.expired (s : State) (n : Node) : Bool :=
  n.expires && (decide (n.epochPwr ≠ s.bkd.pwrcyc) || decide (n.epochRst ≠ (s.tenant n.tenant).resets))

/-- Usage, algorithm, expiry and counter checks of a key (R148, R182): `usage` the bit demanded, `algOk` whether the
algorithm is one the operation takes, `lenOk` whether its length is. -/
def State.keyChecks (s : State) (k : RKey) (n : Node) (usage : Option Nat) (algOk lenOk : Bool) (operand : Nat) :
    Option Rej :=
  if (match usage with
      | some b => k.usage.getLsbD b
      | none => true) = false then some ⟨0x0201, operand, 0x40⟩
  else if algOk = false then some ⟨0x0201, operand, 0x41⟩
  else if lenOk = false then some ⟨0x0201, operand, 0x42⟩
  else if s.expired n then some ⟨0x0202, operand, 0⟩
  else if n.limit ≠ 0 ∧ s.ownNode n ∧ n.limit ≤ (s.usedOf k.handle).1 then some ⟨0x0203, operand, 0⟩
  else none

/-- Format the persistent region (R43): epoch 1, every entry freed, the leaf generations as they are, the marker last. -/
def State.formatRegion (s : State) : State :=
  { s with dmk := { s.dmk with ks := [], nonceEpoch := 1, marker := true, formattedNow := true },
           sys := { s.sys with ctrFormatted := true } }

/-- Increment the nonce epoch, which stays at its last value (R202). -/
def State.nextNonceEpoch (s : State) : State :=
  { s with dmk := { s.dmk with nonceEpoch := satAdd 32 s.dmk.nonceEpoch 1 } }

/-! ## Contexts as bytes (R191) -/

/-- The 64 bytes of a context. -/
def Ctx.bytes (x : Ctx) : Bytes :=
  let head (ty aux : Nat) := leBytes 1 ty ++ leBytes 1 (flag x.frozen) ++ leBytes 1 x.tenant ++ [0] ++ leBytes 4 aux
  match x.body with
  | .free => zeros 64
  | .kstate e k =>
    head 1 e ++ leBytes 8 k.handle.toNat ++ leBytes 4 k.used ++ leBytes 4 k.ceil ++ leBytes 8 k.blkUsed
      ++ leBytes 4 k.bceil ++ zeros 4 ++ leBytes 8 k.nonceCtr ++ zeros 16
  | .leaf h w p => head 2 w ++ leBytes 8 h.toNat ++ (p ++ zeros 48).take 48
  | .cont hd p => head 3 hd ++ (p ++ zeros 56).take 56
  | .dukpt b => head 4 0 ++ (b ++ zeros 56).take 56
  | .session b => head 5 0 ++ (b ++ zeros 56).take 56
  | .chain k =>
    head 6 k.core ++ leBytes 8 k.handle.toNat ++ leBytes 1 k.mode ++ leBytes 1 k.dir ++ leBytes 1 k.depth ++ [0]
      ++ leBytes 4 k.blocks ++ (k.chaining ++ zeros 16).take 16 ++ (k.ghash ++ zeros 16).take 16 ++ leBytes 3 k.aad
      ++ leBytes 3 k.text ++ zeros 2

/-- TYPE of a context. -/
def Ctx.ty (x : Ctx) : Nat :=
  match x.body with
  | .free => 0
  | .kstate .. => 1
  | .leaf .. => 2
  | .cont .. => 3
  | .dukpt _ => 4
  | .session _ => 5
  | .chain _ => 6

/-- A context from its 64 bytes. -/
def ctxAt (b : Bytes) : Ctx :=
  let ty := leAt b 0 1
  let aux := leAt b 4 4
  let h : W64 := BitVec.ofNat 64 (leAt b 8 8)
  let body : CtxBody :=
    if ty = 1 then .kstate aux { handle := h, used := leAt b 16 4, ceil := leAt b 20 4, blkUsed := leAt b 24 8,
                                 bceil := leAt b 32 4, nonceCtr := leAt b 40 8 }
    else if ty = 2 then .leaf h aux (slice b 16 48)
    else if ty = 3 then .cont aux (slice b 8 56)
    else if ty = 4 then .dukpt (slice b 8 56)
    else if ty = 5 then .session (slice b 8 56)
    else if ty = 6 then
      .chain { handle := h, mode := leAt b 16 1, dir := leAt b 17 1, depth := leAt b 18 1, blocks := leAt b 20 4,
               chaining := slice b 24 16, ghash := slice b 40 16, aad := leAt b 56 3, text := leAt b 59 3, core := aux, mac := none }
    else .free
  if body = .free then Ctx.free else { frozen := decide (leAt b 1 1 % 2 = 1), tenant := leAt b 2 1, body := body }

end Sys2Proof.Machine
end

