-- ==== Sys2Proof/Machine/Gate.lean ====
section
/-! DEFINITION. Pages, their colours and world tags, and the gate's check of an access (R65, R384–R390). -/

namespace Sys2Proof.Machine

/-- Pages the gates know (R384). -/
def pageCount : Nat := 29696

/-- The page an address lies in (R384). -/
def pageOf (a : Nat) : Option Nat :=
  if 0x20000000 ≤ a ∧ a < 0x22800000 then some ((a - 0x20000000) / 4096)
  else if 0x40000000 ≤ a ∧ a < 0x44000000 then some (10240 + (a - 0x40000000) / 4096)
  else if 0x80000000 ≤ a ∧ a < 0x80C00000 then some (26624 + (a - 0x80000000) / 4096)
  else none

/-- The tenant that holds a context unit (R65, R189). -/
def State.unitHolder (s : State) (u : Nat) : Option Nat :=
  (s.host.tenants.find? fun x => x.2.units.contains u).map (·.1)

/-- A page's colour and tag: the last rule write of it, else the image's range, else its context unit's tenant, else the
colour 0x00 and the secure world (R65, R114, R384). -/
def State.pageTag (s : State) (p : Nat) : PageTag :=
  match SMap.get none s.gate.pages p with
  | some x => x
  | none =>
    if 10240 ≤ p ∧ p < 26624 then
      match s.unitHolder ((p - 10240) / 64) with
      | some t => { colour := BitVec.ofNat 8 (s.tenant t).colour, tag := 0b01#2 }
      | none => PageTag.rest
    else
      match s.img.force.ranges.find? (fun r => match pageOf r.base with
          | some b => decide (b ≤ p) && decide (p < b + r.pages)
          | none => false) with
      | some r => { colour := BitVec.ofNat 8 r.colour, tag := BitVec.ofNat 2 r.world }
      | none => PageTag.rest

/-- Entries written anew have a true copy again (R393). -/
def Gates.mirrored (g : Gates) (p : GateEntry → Bool) : Gates := { g with upset := g.upset.filter fun e => !p e }

/-- An entry is a page of a range. -/
def GateEntry.within (base n : Nat) : GateEntry → Bool
  | .page p => decide (base ≤ p) && decide (p < base + n)
  | _ => false

/-- Drop what rule writes have set of a range of pages. -/
def Gates.clearPages (g : Gates) (base n : Nat) : Gates :=
  { (g.mirrored (GateEntry.within base n)) with
    pages := SMap.keep (fun k _ => !(decide (base ≤ k) && decide (k < base + n))) g.pages }

/-- Set a range of pages. -/
def Gates.putPages (g : Gates) (base n : Nat) (x : PageTag) : Gates :=
  { (g.mirrored (GateEntry.within base n)) with
    pages := SMap.keep (fun k _ => decide (k < base)) g.pages ++ (List.range n).map (fun k => (base + k, some x))
      ++ SMap.keep (fun k _ => decide (base + n ≤ k)) g.pages }

/-- The pages of context units take another colour by rule writes, whose number the spec leaves open: the gate epoch
advances by a free amount (R114, R116, R391). -/
def State.recolourUnits (s : State) (us : List Nat) : State :=
  if us = [] then s
  else
    let g := us.foldl (fun g u => g.clearPages (10240 + 64 * u) 64) s.gate
    { s with gate := { (g.mirrored (· == GateEntry.epoch)) with epoch := wrapAdd 32 g.epoch (1 + Config.freshNat s.fresh) }, fresh := s.fresh + 1 }

/-- Who makes a memory access through a gate. -/
inductive Master where
  | core (world : World) (colour : Nat)
  | supervisor
  | debug (world : World)
  deriving DecidableEq, Repr

/-- Every debug access passes the colour check in BLANK, TEST and END_OF_LIFE (R385). -/
def State.debugOpen (s : State) : Bool := decide (s.lifeCycle ≠ 2)

/-- The world tag permits a world and a direction (R384). -/
def tagPermits (tag : BitVec 2) (w : World) (write : Bool) : Bool :=
  match w with
  | .secure => true
  | .normal => decide (tag = 0b00#2) || (decide (tag = 0b10#2) && !write)

/-- The first entry that a check of a page compares and finds unlike its inverted copy: the page's own, any grant, or the epoch
(R393). -/
def Gates.mismatch (g : Gates) (p : Nat) : Option GateEntry :=
  g.upset.find? fun e => match e with
    | .page q => decide (q = p)
    | _ => true

/-- Which step of R385 denies an access to a page (GATE_DLOG_INFO.REASON): 2 a LOCKED page, 3 the world, 4 the colour; 5 where an
entry compared differs from its inverted copy (R393); 0 where it is permitted. -/
def State.pageDenial (s : State) (m : Master) (p : Nat) (write : Bool) : Nat :=
  let x := s.pageTag p
  let c := x.colour.toNat
  if (s.gate.mismatch p).isSome then 5
  else
  match m with
  | .supervisor => 0
  | .core w k => if tagPermits x.tag w write = false then 3 else if k = c ∨ s.granted k c write then 0 else 4
  | .debug w =>
    if x.tag = 0b11#2 then 2
    else if tagPermits x.tag w write = false then 3
    else if s.debugOpen ∨ s.granted 0xFF c write then 0 else 4

/-! ## Denials (R385–R390) -/

/-- The register by which an entry of the gates is reached: GATE_PSET, GATE_GSET, GATE_EPOCH. -/
def GateEntry.register : GateEntry → Nat
  | .page _ => 0x10
  | .grant _ => 0x24
  | .epoch => 0x00

/-- A mismatch at a gate: counted, and an inverted-shadow mismatch of the GATE block (R393, R415; assumption log 166). -/
def State.gateMismatch (s : State) (a : Nat) : State :=
  let off := (((pageOf a).bind s.gate.mismatch).map GateEntry.register).getD 0
  ({ s with gate := { s.gate with shadow := satAdd 16 s.gate.shadow 1 } }).shadowMismatch 0x0B off

/-- Record a denied memory access (R388, R390): reason 1 region, 2 LOCKED page, 3 world, 4 colour, 5 inverted shadow. -/
def State.noteDenial (s : State) (master : Nat) (w : World) (write debug : Bool) (a reason : Nat) : State :=
  let x := match pageOf a with
    | some p => s.pageTag p
    | none => { colour := 0, tag := 0 }
  let info := master % 32 + 32 * flag (decide (w = World.secure)) + 64 * flag write + 128 * flag debug
    + 256 * x.colour.toNat + 2 ^ 16 * x.tag.toNat + 2 ^ 18 * reason
  let g := s.gate
  let t := { s with gate := { g with dcount := satAdd 32 g.dcount 1, dlogAddr := a, dlogInfo := info } }
  let u := t.offerBurst 0x0B01 master a info
  if debug ∧ reason = 2 then
    ({ u with gate := { u.gate with dbgdeny := satAdd 32 u.gate.dbgdeny 1 }, lcs := { u.lcs with lockDeny := true } }).offerBurst
      0x0B02 0 a 0
  else if reason = 5 then u.gateMismatch a
  else u

end Sys2Proof.Machine
end

