-- ==== Sys2Proof/Machine/Access.lean ====
section
/-! DEFINITION. Who may write a register block: the access rules the unit chapters give their blocks, and what the gate
does with other writes (R364, R390). -/

namespace Sys2Proof.Machine

/-- The supervisor in control (R355, R367). -/
def State.inControl (s : State) : Initiator → Bool
  | .supervisor b => s.onMain && b == s.supv.active && !s.supv.noSup
  | _ => false

/-- Count a dropped register write: a supervisor's in SUPV_DROP (R364), another's in GATE_DCOUNT (R390). Without main
power, or in reset, nobody writes. -/
def State.dropWrite (s : State) (who : Initiator) : State :=
  if s.onMain = false then s
  else
  match who with
  | .supervisor _ => { s with supv := { s.supv with dropWrites := satAdd 12 s.supv.dropWrites 1 } }
  | _ => { s with gate := { s.gate with dcount := satAdd 32 s.gate.dcount 1 } }

/-- A write that only the supervisor in control may make. -/
def State.byControl (s : State) (who : Initiator) (f : State → State) : State :=
  if s.inControl who then f s else s.dropWrite who

/-- Secure-world firmware, or the supervisor in control. -/
def State.secureOrControl (s : State) : Initiator → Bool
  | .worker _ .secure => s.onMain
  | who => s.inControl who

/-- A write that secure-world firmware or the supervisor in control may make. -/
def State.bySecure (s : State) (who : Initiator) (f : State → State) : State :=
  if s.secureOrControl who then f s else s.dropWrite who

/-- A write to a block without an access rule of its own: only R364 drops it. -/
def State.byAny (s : State) (who : Initiator) (f : State → State) : State :=
  match who with
  | .supervisor _ => s.byControl who f
  | _ => if s.onMain then f s else s

end Sys2Proof.Machine
end

