-- ==== Sys2Proof/Machine/Pools.lean ====
section
/-! DEFINITION. Islands and engine pools: which instances a tenant's pool has, and what happens to work that no instance is
left for (R50, R53, R63). -/

namespace Sys2Proof.Machine


/-! ## Islands -/

/-- The islands that can be gated (R50). -/
def gateable (isl : Nat) : Bool := (decide (1 ≤ isl) && decide (isl ≤ 12)) || decide (isl = 15)

/-- The islands that can be gated, as a mask. -/
def gateMask : BitVec 19 := 0x09FFE#19

/-- The island is present on the part (R50). -/
def State.islandPresent (s : State) (isl : Nat) : Bool := decide (isl < 19) && s.part.islands.getLsbD isl

/-- One island as a mask. -/
def islandBit (isl : Nat) : BitVec 19 := 1#19 <<< isl

/-- The engine instances of an island (R50). -/
def islandInsts (isl : Nat) : List (EngUnit × Nat) :=
  if 5 ≤ isl ∧ isl ≤ 8 then (List.range 8).map fun k => (.cal, 8 * (isl - 5) + k)
  else if isl = 9 then (List.range 16).map fun k => (.srg, k)
  else if isl = 10 then (List.range 8).map fun k => (.tul, k)
  else if isl = 11 then (List.range 16).map fun k => (.hsh, k)
  else []

/-- The island of an engine instance (R50). -/
def islandOf : EngUnit → Nat → Nat
  | .cal, n => 5 + n / 8
  | .srg, _ => 9
  | .tul, _ => 10
  | .hsh, _ => 11

/-- A world's oldest request that has not finished: the one being served (R52). -/
def Pwr.serving (p : Pwr) (w : World) : Option GateReq := p.gating.find? fun g => g.world == w

/-- A gate request on the island is being served, so nothing new is dispatched to it (R53). -/
def Pwr.gates (p : Pwr) (isl : Nat) : Bool :=
  [World.normal, .secure].any fun w => match p.serving w with
    | some g => g.isl == isl && decide (g.act ≠ .run)
    | none => false

/-- The island runs: clocked and powered, with no trip under way and no gate request being served (R53, R54). -/
def State.islandServes (s : State) (isl : Nat) : Bool :=
  s.pwr.clkOn.getLsbD isl && s.pwr.pwrOn.getLsbD isl && !s.pwr.tripping.getLsbD isl && !s.pwr.gates isl

/-! ## Engine pools (R63) -/

/-- The pool a tenant names for a unit; `none` where it names none. -/
def State.poolOf (s : State) (t u : Nat) : Option PoolRec :=
  match s.img.force.assigns.find? (fun a => a.tenant == t) with
  | none => none
  | some a =>
    let p := if u = 0 then a.cal else if u = 1 then a.srg else if u = 2 then a.tul else a.hsh
    if p = 0xFF then none else s.img.force.pools.find? fun x => x.pool == p && x.unit == u

/-- The unit coded `u` in R101. -/
def unitAt (u : Nat) : EngUnit := if u = 0 then .cal else if u = 1 then .srg else if u = 2 then .tul else .hsh

/-- Present instances of a tenant's pool for a unit, rising. -/
def State.poolInsts (s : State) (t : Nat) (u : EngUnit) : List Nat :=
  match s.poolOf t u.code with
  | none => []
  | some p => (List.range (s.part.count u)).filter fun n => p.mask.getLsbD n

/-- The instance stands in its pool: its island runs and it is not fenced (R47, R53). -/
def State.inPool (s : State) (u : EngUnit) (n : Nat) : Bool := s.islandServes (islandOf u n) && !(s.inst u n).fenced

/-- The instance has left every pool: its island is gated, or it is fenced (R47, R53). -/
def State.instGone (s : State) (u : EngUnit) (n : Nat) : Bool :=
  !(s.pwr.clkOn.getLsbD (islandOf u n) && s.pwr.pwrOn.getLsbD (islandOf u n)) || (s.inst u n).fenced

/-- No instance is left for an operation: for one of a privileged mailbox its own is gone, else the tenant's pool (R53). -/
def State.jobGone (s : State) (u : EngUnit) (j : Job) : Bool :=
  match j.only with
  | some n => s.instGone u n
  | none => (s.poolInsts j.tenant u).all fun n => s.instGone u n

/-- End a waiting operation that no instance is left for: SERVICE_UNAVAILABLE (R53). -/
def State.endUnserved (s : State) (j : Job) : State :=
  match j.src with
  | .raw r => (s.dropJobs fun e => decide (e = .raw r)).refuse r 0x0501 0 0
  | .step n _ =>
    let i := s.slot n
    if i.state = .free then s
    else
      let t := s.dropJobs fun e => match e with
        | .step m _ => m == n
        | .raw _ => false
      (t.setSlot n Inst.free).refuse i.req 0x0501 0 0

/-- End every waiting operation that no instance is left for. -/
def State.endUnservedAll (s : State) : State :=
  [EngUnit.cal, .srg, .tul, .hsh].foldl (fun t u =>
    ((t.engine u).waiting.filter fun j => t.jobGone u j).foldl (fun t j => t.endUnserved j) t) s

end Sys2Proof.Machine
end

