-- ==== Sys2Proof/Machine/Islands.lean ====
section
/-! DEFINITION. Leases, gating, the thermal trip and DRAIN (R49–R54, R61). -/

namespace Sys2Proof.Machine

/-- The jobs that run or are suspended on an island. -/
def State.islandJobs (s : State) (isl : Nat) : List Job :=
  (islandInsts isl).flatMap fun x =>
    let i := s.inst x.1 x.2
    i.running.toList ++ i.stack

/-- Twill instances that are not FREE. -/
def State.busySlots (s : State) : List Nat :=
  (s.twl.insts.filter fun x => decide (x.2.state ≠ .free)).map (·.1)

/-- Work already dispatched to an island has not ended (R53). -/
def State.islandBusy (s : State) (isl : Nat) : Bool :=
  decide (s.islandJobs isl ≠ []) || (decide (isl = 12) && decide (s.busySlots ≠ []))
    || (decide (isl = 15) && decide (s.blk.outs ≠ [] ∨ s.blk.ins ≠ [] ∨ s.blk.spillOuts ≠ [] ∨ s.blk.spillIns ≠ []))

/-- PWR_OWNER: secure-owned by the image, permanently, or by lease. -/
def Pwr.owner (p : Pwr) : BitVec 19 := p.ownerImg ||| p.lease ||| ~~~gateMask

/-! ## Leases and gate requests -/

/-- PWR_LEASE_WRITE (R51): bits of non-gateable and secure-owned islands are ignored; a write of the normal world, the
host or the debugger is dropped at the gate. -/
def execPwrLeaseWrite (who : Initiator) (held : BitVec 19) (s : State) : Host.Outcome State Fault Refusal :=
  .next (s.bySecure who fun s =>
    { s with pwr := { s.pwr with lease := held &&& gateMask &&& s.part.islands &&& ~~~s.pwr.ownerImg } })

/-- Write one world's bank of PWR_GRES. -/
def State.setGres (s : State) (w : World) (g : GateRes) : State :=
  match w with
  | .normal => { s with pwr := { s.pwr with gresNormal := g } }
  | .secure => { s with pwr := { s.pwr with gresSecure := g } }

/-- A world's bank of PWR_GRES. -/
def State.gres (s : State) : World → GateRes
  | .normal => s.pwr.gresNormal
  | .secure => s.pwr.gresSecure

/-- A request has finished: PWR_GRES shows it if it is the last of its world (R52, R53). -/
def State.finishGate (s : State) (g : GateReq) (status : Nat) : State :=
  let t := { s with pwr := { s.pwr with gating := s.pwr.gating.erase g } }
  if (t.pwr.serving g.world).isSome then t else t.setGres g.world { status := status, isl := g.isl, done := true }

/-- Clock and power of an island return (R61). -/
def State.runIsland (s : State) (isl : Nat) : State :=
  let p := { s.pwr with clkOn := s.pwr.clkOn ||| islandBit isl, pwrOn := s.pwr.pwrOn ||| islandBit isl }
  { s with pwr := p }.refreshLinks

/-- Serve a request as far as it goes (R52, R53): refused for an absent island, and for the normal world to gate a secure-owned or
leased one; a run request is carried out; a request to gate waits for what the island still does. -/
def State.serveGate (s : State) (g : GateReq) : State :=
  if s.islandPresent g.isl = false then s.finishGate g 0x0103
  else if g.act = .run then (s.runIsland g.isl).finishGate g 0
  else if g.world = .normal ∧ s.pwr.owner.getLsbD g.isl then s.finishGate g 0x0802
  else s

/-- Serve a world's requests in the order they came, up to one that waits (R52). -/
def State.serveGates (w : World) : Nat → State → State
  | 0, s => s
  | fuel + 1, s =>
    match s.pwr.serving w with
    | none => s
    | some g =>
      let t := s.serveGate g
      if t.pwr.gating = s.pwr.gating then t else State.serveGates w fuel t

/-- A request of PWR_GREQ comes in: it is served behind its world's earlier ones (R52). -/
def State.gateRequest (s : State) (g : GateReq) : State :=
  let t := s.setGres g.world { status := 0, isl := g.isl, done := false }
  let u := { t with pwr := { t.pwr with gating := t.pwr.gating ++ [g] } }
  if (s.pwr.serving g.world).isSome then u else u.serveGates g.world 1

/-- A request to gate (R52, R53). One of the secure world on an island that cannot be gated is dropped (log 19). -/
def State.gateOrDrop (s : State) (w : World) (isl : Nat) (a : GateAct) : State :=
  if s.islandPresent isl ∧ gateable isl = false ∧ w = .secure then s else s.gateRequest { world := w, isl := isl, act := a }

/-- ISLAND_CLOCK_GATE (R52, R53). -/
def execIslandClockGate (w : World) (isl : Nat) (s : State) : Host.Outcome State Fault Refusal :=
  .next (s.gateOrDrop w isl .clock)

/-- ISLAND_POWER_GATE (R52, R53). -/
def execIslandPowerGate (w : World) (isl : Nat) (s : State) : Host.Outcome State Fault Refusal :=
  .next (s.gateOrDrop w isl .power)

/-- ISLAND_RUN (R52, R54, R61): clock and power return; a request for an island that a trip holds down shows as not done and has
no other effect (log 19). -/
def execIslandRun (w : World) (isl : Nat) (s : State) : Host.Outcome State Fault Refusal :=
  if s.pwr.tripped.getLsbD isl ∨ s.pwr.tripping.getLsbD isl then .next (s.setGres w { status := 0, isl := isl, done := false })
  else .next (s.gateRequest { world := w, isl := isl, act := .run })

/-- The request to gate an island that is being served, the oldest first. -/
def Pwr.gateServed (p : Pwr) (isl : Nat) : Option GateReq :=
  p.gating.find? fun g => g.isl == isl && decide (g.act ≠ .run) && decide (p.serving g.world = some g)

/-- Take an island's clock, and its power where that was asked for. -/
def State.stopIsland (s : State) (g : GateReq) : State :=
  { s with pwr := { s.pwr with
      clkOn := s.pwr.clkOn &&& ~~~islandBit g.isl
      pwrOn := if g.act = .power then s.pwr.pwrOn &&& ~~~islandBit g.isl else s.pwr.pwrOn } }

/-- ISLAND_GATE_DONE (R52, R53): everything dispatched has ended, so the request being served is carried out, and its world's next
ones are served. -/
def execIslandGateDone (isl : Nat) (s : State) : Host.Outcome State Fault Refusal :=
  match s.pwr.gateServed isl with
  | none => .next s
  | some g =>
    if s.islandBusy isl then .next s
    else
      let t := (s.stopIsland g).finishGate g 0
      .next (t.serveGates g.world t.pwr.gating.length).refreshLinks.endUnservedAll

/-! ## Temperature -/

/-- A junction sensor's reading, °C plus 64. -/
def State.sensor (s : State) (n : Nat) : Nat := SMap.get sensorRest s.pwr.sensors n

/-- Keep a reading, and PWR_THERM's hottest sensor with it. -/
def State.senseJunction (s : State) (n reading : Nat) : State :=
  let p := { s.pwr with sensors := SMap.set sensorRest s.pwr.sensors n (reading % 1024) }
  let hot := (List.range 32).foldl (fun b k =>
    if SMap.get sensorRest p.sensors b < SMap.get sensorRest p.sensors k then k else b) 0
  { s with pwr := { p with tmax := SMap.get sensorRest p.sensors hot, tmaxSensor := hot } }

/-- The island a sensor trips, or `none` where it acts as a sensor of a non-gateable island (R54, R61, R510). -/
def State.tripIsland (s : State) (sensor : Nat) : Option Nat :=
  let isl := SMap.get 19 s.pwr.sensorIsl sensor
  if gateable isl ∧ s.islandPresent isl then some isl else none

/-- THERMAL_TRIP (R54): a reading of 135 °C or more stops dispatch to the sensor's island, or to every gateable island
with a shutdown to follow. -/
def execThermalTrip (sensor reading : Nat) (s : State) : Host.Outcome State Fault Refusal :=
  if s.onMain = false ∨ 32 ≤ sensor then .next s
  else
    let t := s.senseJunction sensor reading
    if reading < 199 then .next t
    else
      match t.tripIsland sensor with
      | some isl =>
        if t.pwr.tripped.getLsbD isl then .next t
        else .next { t with pwr := { t.pwr with tripping := t.pwr.tripping ||| islandBit isl } }
      | none => .next { t with pwr := { t.pwr with
          tripping := t.pwr.tripping ||| (gateMask &&& t.part.islands), shutdownDue := true } }

/-- Abort the command of a job, or its whole recipe (R54). -/
def State.abortJob (s : State) (cause : Nat) (j : Job) : State :=
  match j.src with
  | .raw r => s.abortOne cause r
  | .step n _ => s.abortInst n cause none

/-- Abort what remains on an island (R54). -/
def State.abortIsland (s : State) (isl cause : Nat) : State :=
  let s1 := (s.islandJobs isl).foldl (fun t j => t.abortJob cause j) s
  let s2 := if isl = 12 then s1.busySlots.foldl (fun t n => t.abortInst n cause none) s1 else s1
  if isl = 15 then (s2.blk.outs.map (·.req)).foldl (fun t r => t.abortOne cause r) s2 else s2

/-- The operand memory of an island (R54, R369). -/
def islandMemory (isl : Nat) : Nat × Nat :=
  if 5 ≤ isl ∧ isl ≤ 8 then (0x80000000 + 0x80000 * (isl - 5), 0x80000)
  else if isl = 9 then (0x80200000, 0x400000)
  else if isl = 10 then (0x80600000, 0x400000)
  else if isl = 12 then (0x80A00000, 0x200000)
  else (0, 0)

/-- Overwrite the operand memory of an island; for a worker cluster its cores' registers (R54). -/
def State.wipeIsland (s : State) (isl : Nat) : State :=
  let t := { s with mem := s.mem.zeroRange (islandMemory isl).1 (islandMemory isl).2 }
  if 1 ≤ isl ∧ isl ≤ 4 then
    { t with zyn := { t.zyn with cores := t.zyn.cores.filter fun x => decide (x.1 / 4 ≠ isl - 1 ∨ 16 ≤ x.1) } }
  else t

/-- What a trip does to an island (R54): remaining work aborts with cause 7, and its memory is overwritten. -/
def State.clearIsland (s : State) (isl : Nat) : State := (s.abortIsland isl 7).wipeIsland isl

/-- A thermal shutdown (R54): every gateable island is cleared as by its own trip, main power goes and the backup domain holds the
regulators off. -/
def State.thermalShutdown (s : State) : State :=
  let t := (((List.range 19).filter fun n => gateable n && s.islandPresent n).foldl (fun t n => t.clearIsland n) s).mainOff
  { t with
    sys := { t.sys with cause := 10 }
    pwr := { t.pwr with thermHold := true, goodChecks := 0, shutdowns := (s.bkd.ts :: s.pwr.shutdowns).take 3 } }

/-- The hottest sensor assigned to an island. -/
def State.hottestOf (s : State) (isl : Nat) : Nat :=
  match (List.range 32).filter fun k => SMap.get 19 s.pwr.sensorIsl k == isl with
  | [] => s.pwr.tmaxSensor
  | h :: t => t.foldl (fun b k => if s.sensor b < s.sensor k then k else b) h

/-- THERMAL_TRIP_ABORT (R54). -/
def execThermalTripAbort (isl : Nat) (s : State) : Host.Outcome State Fault Refusal :=
  if s.onMain = false ∨ s.pwr.tripping.getLsbD isl = false then .next s
  else if s.pwr.shutdownDue then .next s.thermalShutdown
  else
    let s1 := s.clearIsland isl
    let s2 := { s1 with pwr := { s1.pwr with
      clkOn := s1.pwr.clkOn &&& ~~~islandBit isl, pwrOn := s1.pwr.pwrOn &&& ~~~islandBit isl,
      tripping := s1.pwr.tripping &&& ~~~islandBit isl, tripped := s1.pwr.tripped ||| islandBit isl } }
    .next ((s2.offer 0x0101 isl (s2.hottestOf isl) (s2.sensor (s2.hottestOf isl))).refreshLinks.afterTrip.endUnservedAll)

/-- The third shutdown within 10 minutes of the first is released only by VIN (R54). -/
def Pwr.vinOnly (p : Pwr) : Bool :=
  match p.shutdowns with
  | t3 :: _ :: t1 :: _ => decide (t3 - t1 ≤ 600 * 1024)
  | _ => false

/-- THERMAL_HOLD_CHECK (R54): ten seconds of checks, eight a second, at 100 °C or less release the hold. -/
def execThermalHoldCheck (reading : Nat) (s : State) : Host.Outcome State Fault Refusal :=
  if s.sys.mode = .backup ∧ s.pwr.thermHold then
    let good := if reading ≤ 164 then s.pwr.goodChecks + 1 else 0
    let t := { s with bkd := { s.bkd with temp := reading }, pwr := { s.pwr with goodChecks := good } }
    if 80 ≤ good ∧ s.pwr.vinOnly = false then
      .next { t with pwr := { t.pwr with thermHold := false, goodChecks := 0 }, sys := { t.sys with thermOff := true } }
    else .next t
  else .next s

/-- Every sensor of an island reads below 125 °C. -/
def State.islandCool (s : State) (isl : Nat) : Bool :=
  (List.range 32).all fun k => SMap.get 19 s.pwr.sensorIsl k != isl || decide (s.sensor k < 189)

/-- PWR_TRIPPED_CLEAR (R54, R47): the islands that have cooled return, and the last fence lifted makes SERVICE. -/
def execPwrTrippedClear (who : Initiator) (mask : BitVec 19) (s : State) : Host.Outcome State Fault Refusal :=
  .next (s.byAny who fun s =>
    let back := (List.range 19).foldl (fun m k =>
      if mask.getLsbD k && s.pwr.tripped.getLsbD k && s.islandCool k then m ||| islandBit k else m) 0#19
    { s with pwr := { s.pwr with tripped := s.pwr.tripped &&& ~~~back, clkOn := s.pwr.clkOn ||| back,
                                 pwrOn := s.pwr.pwrOn ||| back } }.refreshLinks.afterLift)

/-! ## DRAIN -/

/-- MODEREQ_DRAIN (R47, R48). -/
def execModereqDrain (value : W32) (s : State) : Host.Outcome State Fault Refusal :=
  if s.onMain then .next (s.modeRequest value) else .next s

/-- DRAIN_LIMIT_EXPIRY (R49): what remains aborts with cause 8. -/
def execDrainLimitExpiry (s : State) : Host.Outcome State Fault Refusal :=
  if s.sys.mode = .drain then .next (s.abortWhere (fun _ => true) 8) else .next s

/-- A drain with this target is complete: no admitted work is left (R49). -/
def State.drained (s : State) (tgt : DrainTo) : Bool :=
  decide (s.sys.mode = .drain) && s.sys.pend && decide (s.sys.drainTo = tgt) && decide (s.host.admitted = [])

/-- DRAIN_TO_OFF (R49): every engine island is clock-gated and the device idles. -/
def execDrainToOff (s : State) : Host.Outcome State Fault Refusal :=
  if s.drained .off then
    .next { s with sys := { s.sys with pend := false }, pwr := { s.pwr with clkOn := s.pwr.clkOn &&& ~~~0x01FE0#19 } }
  else .next s

/-- DRAIN_TO_LOAD (R47, R49): LOAD again with the firmware still running. -/
def execDrainToLoad (s : State) : Host.Outcome State Fault Refusal :=
  if s.drained .load then .next (s.enterLoad 9) else .next s

/-- DRAIN_TO_BOOT (R47, R49): the main domain restarts. -/
def execDrainToBoot (romOk : Bool) (s : State) : Host.Outcome State Fault Refusal :=
  if s.drained .boot then .next (s.mainStart 9 romOk) else .next s

end Sys2Proof.Machine
end

