-- ==== Sys2Proof/Machine/Descriptor.lean ====
section
/-! DEFINITION. The fields of a command descriptor by their uses (R97, R105). -/

namespace Sys2Proof

/-- The class of an opcode. -/
def Desc.cls (d : Desc) : Nat := d.opcode / 256

/-- CTXV, and the context number. -/
def Desc.ctxv (d : Desc) : Bool := d.ctx.getLsbD 31
def Desc.ctxNo (d : Desc) : Nat := (d.ctx.extractLsb' 0 20).toNat

/-- Byte `k` of PARAM, and `n` bytes from `k` on. -/
def Desc.par (d : Desc) (k n : Nat) : Nat := Machine.bits d.param.toNat (8 * k) (8 * n)

/-- The data of a request within its row's size (R105). -/
def Desc.small (d : Desc) : Bool :=
  if d.opcode = 0x0403 ∨ d.opcode = 0x0404 ∨ (d.opcode = 0x0101 ∧ 0x60 ≤ d.par 0 2 ∧ d.par 0 2 ≤ 0x6B) then
    decide (d.inLen ≤ 512)
  else decide (d.inLen ≤ 1024)

/-- The bytes of a command's input. -/
def Req.bytes (r : Req) : Bytes := (r.input ++ Machine.zeros r.desc.inLen).take r.desc.inLen

end Sys2Proof
end

