-- ==== Sys2Proof/Machine/SergeOps.lean ====
section
/-! DEFINITION. What a Serge operation does: its fields (R251–R254), the checks before work (R255, R256), its result and its
cycle count (R262–R264). -/

namespace Sys2Proof.Machine

/-- An operation with its parameters: OP, ALG, SCHEME, w, the value of PARAM bytes 2–3 or 4–7 that the OP needs, the key. -/
structure SrgOp where
  op : Nat
  alg : Nat
  scheme : Nat
  w : Nat
  p : Nat
  key : Bytes
  deriving DecidableEq, Repr

/-- Modulus bits of an RSA algorithm (R176). -/
def rsaBits (alg : Nat) : Nat := 2048 + 1024 * (alg - 0x20)

/-- The modulus length in bytes an operation works on. -/
def SrgOp.k (x : SrgOp) : Nat := if x.op = 6 then x.p / 8 else rsaBits x.alg / 8

def isPss (x : Nat) : Bool := decide (1 ≤ x) && decide (x ≤ 3)
def isPkcs (x : Nat) : Bool := decide (0x11 ≤ x) && decide (x ≤ 0x13)
def isOaep (x : Nat) : Bool := decide (0x21 ≤ x) && decide (x ≤ 0x23)

/-- Check 1 of R255: ALG and SCHEME are valid for the OP. -/
def SrgOp.algOk (x : SrgOp) : Bool :=
  if x.op ≤ 4 then decide (x.alg = 0) && decide (x.scheme = 0)
  else if x.op = 5 then isRsa x.alg && (isPss x.scheme || isPkcs x.scheme)
  else if x.op = 6 then decide (x.alg = 0) && (isPss x.scheme || isPkcs x.scheme)
  else if x.op = 7 then isRsa x.alg && isOaep x.scheme
  else decide (x.scheme = 0) &&
    (if x.op = 8 ∨ x.op = 9 ∨ x.op = 10 then isCurve x.alg
     else if x.op = 11 ∨ x.op = 12 ∨ x.op = 16 ∨ x.op = 17 ∨ x.op = 18 then isEd x.alg
     else if x.op = 13 then isX x.alg
     else isCurve x.alg || isEd x.alg || isX x.alg || isRsa x.alg)

/-- The digest length left in `n` bytes of input, where it is one of R252's. -/
def digestOf (n : Nat) : Option Nat := if [28, 32, 48, 64].contains n then some n else none

/-- Signature length of an elliptic algorithm. -/
def sigLen (alg : Nat) : Nat := if isCurve alg then 2 * orderBytes alg else 2 * fieldBytes alg

/-- The lengths of the input's fields for an input of `n` bytes; `none` where no layout of R252 has that total, or a
parameter is out of range (check 2 of R255). -/
def SrgOp.layout (x : SrgOp) (maxW n : Nat) : Option (List Nat) :=
  let wOk := decide (1 ≤ x.w) && decide (x.w ≤ 128) && decide (x.w ≤ maxW)
  let l : Option (List Nat) :=
    if x.op = 1 ∨ x.op = 2 then if wOk then some [8 * x.w, 8 * x.w, 8 * x.w] else none
    else if x.op = 3 then
      if wOk ∧ 1 ≤ x.p ∧ x.p ≤ 64 * x.w then some [8 * x.w, 8 * x.w, ceilDiv x.p 8] else none
    else if x.op = 4 then if wOk then some [8 * x.w, 8 * x.w] else none
    else if x.op = 5 then some [schemeHash x.scheme]
    else if x.op = 6 then
      if 2048 ≤ x.p ∧ x.p ≤ 8192 ∧ x.p % 64 = 0 then some [4 + x.p / 8, schemeHash x.scheme, x.p / 8] else none
    else if x.op = 7 then if x.p ≤ 1024 then some [x.p, x.k] else none
    else if x.op = 8 then (digestOf n).map fun d => [d]
    else if x.op = 9 then
      (digestOf (n - (pubLen x.alg + sigLen x.alg))).map fun d => [pubLen x.alg, d, sigLen x.alg]
    else if x.op = 10 then some [pubLen x.alg]
    else if x.op = 11 then if n ≤ 32767 then some [n] else none
    else if x.op = 12 then
      let m := n - (pubLen x.alg + sigLen x.alg)
      if m ≤ 32767 then some [pubLen x.alg, sigLen x.alg, m] else none
    else if x.op = 13 then some [fieldBytes x.alg]
    else some []
  match l with
  | some f => if f.sum = n then some f else none
  | none => none

/-- Cut a string into consecutive fields. -/
def cutFields : List Nat → Bytes → List Bytes
  | [], _ => []
  | n :: t, b => b.take n :: cutFields t (b.drop n)

/-- Field `k` of an input. -/
def fieldAt (f : List Bytes) (k : Nat) : Bytes := f[k]?.getD []

/-- The S of an EdDSA signature. -/
def edS (alg : Nat) (sig : Bytes) : Nat := leNat (sig.drop (fieldBytes alg))

/-- Moduli with the rule they meet (check 3 of R255): field position, value, whether it holds. -/
def SrgOp.moduliOk (x : SrgOp) (f : List Bytes) : Option Nat :=
  let odd (m : Nat) : Bool := decide (m % 2 = 1)
  if x.op ≤ 4 then
    let m := beNat (fieldAt f 0)
    if ¬ (odd m ∧ 2 ^ (64 * (x.w - 1)) ≤ m) then some 0
    else if x.op = 3 ∧ bitLen (beNat (fieldAt f 2)) ≠ x.p then some 2
    else none
  else if x.op = 6 then
    let e := beNat ((fieldAt f 0).take 4)
    let n := beNat ((fieldAt f 0).drop 4)
    if odd e ∧ 3 ≤ e ∧ odd n ∧ bitLen n = x.p then none else some 0
  else none

/-- The modulus of an RSA key (R193). -/
def SrgOp.rsaN (x : SrgOp) : Nat := beNat (x.key.take x.k)

/-- Value operands (R255): field position, value, bound. -/
def SrgOp.values (x : SrgOp) (f : List Bytes) : List (Nat × Nat × Nat) :=
  let m := beNat (fieldAt f 0)
  if x.op ≤ 3 then [(1, beNat (fieldAt f 1), m), (2, beNat (fieldAt f 2), m)]
  else if x.op = 4 then [(1, beNat (fieldAt f 1), m)]
  else if x.op = 6 then [(2, beNat (fieldAt f 2), beNat ((fieldAt f 0).drop 4))]
  else if x.op = 7 then [(1, beNat (fieldAt f 1), x.rsaN)]
  else if x.op = 9 then
    let n := orderBytes x.alg
    [(2, beNat ((fieldAt f 2).take n), curveOrder x.alg), (2, beNat ((fieldAt f 2).drop n), curveOrder x.alg)]
  else if x.op = 12 then [(1, edS x.alg (fieldAt f 1), Crypto.edOrder x.alg)]
  else []

/-- The points of an input that check 6 of R255 decodes: field position, encoding. -/
def SrgOp.points (x : SrgOp) (f : List Bytes) : List (Nat × Bytes) :=
  if x.op = 9 ∨ x.op = 10 ∨ x.op = 13 then [(0, fieldAt f 0)]
  else if x.op = 12 then [(0, fieldAt f 0), (1, (fieldAt f 1).take (fieldBytes x.alg))]
  else []

/-- Checks 3 to 6 of R255: the reason and the field's position. -/
def SrgOp.valueCheck (x : SrgOp) (f : List Bytes) : Option (Nat × Nat) :=
  match x.moduliOk f with
  | some k => some (0x72, k)
  | none =>
    match (x.values f).find? (fun v => decide (v.2.1 ≤ 1)) with
    | some v => some (0x73, v.1)
    | none =>
      match (x.values f).find? (fun v => decide (v.2.2 ≤ v.2.1)) with
      | some v => some (0x74, v.1)
      | none => ((x.points f).find? fun p => !Crypto.pointOk x.alg p.2).map fun p => (0x75, p.1)

/-- The field whose length is at fault where check 2 of R255 fails: MOD_EXP_PUB's exponent, EDDSA_VERIFY's message, else the first one;
a total that fits no layout names none (assumption log 159). -/
def SrgOp.lengthField (x : SrgOp) : Nat := if (x.op = 3 ∧ (x.p = 0 ∨ 64 * x.w < x.p)) ∨ x.op = 12 then 2 else 0

/-- Every check of R255 on an input. -/
def SrgOp.check (x : SrgOp) (maxW : Nat) (b : Bytes) : Except (Nat × Nat) (List Bytes) :=
  if x.algOk = false then .error (0x70, 0)
  else
    match x.layout maxW b.length with
    | none => .error (0x71, x.lengthField)
    | some l =>
      let f := cutFields l b
      match x.valueCheck f with
      | some e => .error e
      | none => .ok f

/-! ## Results -/

/-- The private RSA operation through the CRT parts of a leaf (R193, R259). -/
def rsaPrivate (key : Bytes) (k c : Nat) : Nat :=
  let h := k / 2
  let part (j : Nat) : Nat := beNat (slice key (k + 4 + j * h) h)
  let p := part 0
  let q := part 1
  let m1 := powMod p (8 * h) (c % p) (part 2)
  let m2 := powMod q (8 * h) (c % q) (part 3)
  m2 + q * (part 4 * (m1 + p - m2 % p) % p)

/-- The public exponent of an RSA leaf. -/
def SrgOp.rsaE (x : SrgOp) : Nat := beNat (slice x.key x.k 4)

/-- The value an RSA private operation takes. -/
def SrgOp.crtInput (x : SrgOp) (f : List Bytes) (rnd : Bytes) : Nat :=
  if x.op = 5 then Crypto.rsaEncode x.scheme (8 * x.k) (fieldAt f 0) rnd else beNat (fieldAt f 1)

/-- The check of an RSA CRT result with e fails (R261). -/
def SrgOp.crtFault (x : SrgOp) (f : List Bytes) (rnd : Bytes) : Bool :=
  let c := x.crtInput f rnd
  (decide (x.op = 5) || decide (x.op = 7)) && decide (powMod x.rsaN 32 (rsaPrivate x.key x.k c % x.rsaN) x.rsaE ≠ c % x.rsaN)

/-- RSA verification: opened by the public exponent and checked against the digest (R252, R254). -/
def SrgOp.rsaOpens (x : SrgOp) (f : List Bytes) : Bool :=
  let e := beNat ((fieldAt f 0).take 4)
  let n := beNat ((fieldAt f 0).drop 4)
  Crypto.rsaCheck x.scheme x.p (fieldAt f 1) (powMod n 32 (beNat (fieldAt f 2) % n) e)

/-- The result of an operation; `none` is the INFO 1 outcome of R257. -/
def SrgOp.result (x : SrgOp) (f : List Bytes) (rnd : Bytes) : Option Bytes :=
  let m := beNat (fieldAt f 0)
  let a := beNat (fieldAt f 1)
  let b := beNat (fieldAt f 2)
  if x.op = 1 then some (beBytes (8 * x.w) (a * b % m))
  else if x.op = 2 then some (beBytes (8 * x.w) (powMod m (64 * x.w) a b))
  else if x.op = 3 then some (beBytes (8 * x.w) (powMod m x.p a b))
  else if x.op = 4 then (modInv a m).map (beBytes (8 * x.w))
  else if x.op = 5 then
    some (beBytes x.k (rsaPrivate x.key x.k (x.crtInput f rnd)))
  else if x.op = 6 then if x.rsaOpens f then some [] else none
  else if x.op = 7 then Crypto.oaepDecode x.scheme (8 * x.k) (fieldAt f 0) (rsaPrivate x.key x.k a)
  else if x.op = 8 then some (Crypto.ecdsaSign x.alg x.key (fieldAt f 0) rnd)
  else if x.op = 9 then if Crypto.ecdsaVerify x.alg (fieldAt f 0) (fieldAt f 1) (fieldAt f 2) then some [] else none
  else if x.op = 10 ∨ x.op = 13 then some (Crypto.agree x.alg x.key (fieldAt f 0))
  else if x.op = 11 then some (Crypto.eddsaSign x.alg x.key (fieldAt f 0))
  else if x.op = 12 then if Crypto.eddsaVerify x.alg (fieldAt f 0) (fieldAt f 1) (fieldAt f 2) then some [] else none
  else if x.op = 14 then
    some (if isRsa x.alg then slice x.key x.k 4 ++ x.key.take x.k else Crypto.publicKey x.alg x.key)
  else if x.op = 16 then some (Crypto.edExpand x.alg x.key)
  else if x.op = 17 then some (Crypto.edCommit x.alg x.key)
  else
    let n := fieldBytes x.alg
    some (fieldAt f 1 ++ Crypto.edFinish x.alg (x.key.take (2 * n)) (x.key.drop (2 * n)) (fieldAt f 0))

/-- The output length known before the work; an OAEP message has none. -/
def SrgOp.outLen (x : SrgOp) : Nat :=
  if x.op ≤ 4 then 8 * x.w
  else if x.op = 5 then x.k
  else if x.op = 8 ∨ x.op = 11 then sigLen x.alg
  else if x.op = 10 ∨ x.op = 13 then fieldBytes x.alg
  else if x.op = 14 then pubLen x.alg
  else 0

/-! ## Cycle counts (R262, R263) -/

/-- M(w), Ms(w) and the blinded inversion I(w, μ). -/
def mulM (w : Nat) : Nat := ceilDiv (w * w) 4 + w + 2
def mulMs (w : Nat) : Nat := ceilDiv (w * w) 8 + 3
def invI (w mu : Nat) : Nat := ceilDiv (ceilDiv (3136 * w + 80) 17) 62 * (4 * w + 12) + 2 * mu

/-- w and s′ of a curve. -/
def curveW (alg : Nat) : Nat :=
  if alg = 0x10 ∨ alg = 0x13 ∨ alg = 0x18 ∨ alg = 0x1A then 4 else if alg = 0x11 ∨ alg = 0x14 then 6
  else if alg = 0x12 then 9 else if alg = 0x15 then 8 else 7
def curveS (alg : Nat) : Nat :=
  let n := if alg = 0x18 ∨ alg = 0x1A then 253 else if alg = 0x19 ∨ alg = 0x1B then 446 else orderBits alg
  4 * ceilDiv (n + 64) 4

/-- V and E of R263. -/
def scalarV (alg : Nat) : Nat :=
  let w := curveW alg
  11 * curveS alg * mulM w + curveS alg / 4 * (14 * mulM w + 8 * w) + 196 * mulM w
def scalarE (alg : Nat) : Nat :=
  let w := curveW alg
  8 * curveS alg * mulMs w + curveS alg / 4 * (9 * mulMs w + 8 * w) + 126 * mulMs w

/-- N(x) of a hash of `h` bytes, and C_h. -/
def rsaN (h x : Nat) : Nat := if h = 32 then ceilDiv (x + 9) 64 else ceilDiv (x + 17) 128
def rsaC (h : Nat) : Nat := if h = 32 then 70 else 90

/-- RSA encoding cycles for a modulus of k bytes. -/
def rsaEncoding (scheme k label : Nat) : Nat :=
  let h := schemeHash scheme
  if isPss scheme then rsaC h * (ceilDiv (k - h - 1) h + rsaN h (8 + 2 * h))
  else if isOaep scheme then rsaC h * (rsaN h label + rsaN h (k - h + 3) + ceilDiv (k - h - 1) h)
  else k / 8

/-- The RSA CRT core, and the public core. -/
def rsaCrt (w eb : Nat) : Nat := (160 * (w / 2 + 1) + 34) * mulM (w / 2) + (2 * eb + 1) * mulM w + 2000
def rsaPublic (w eb : Nat) : Nat := (2 * eb + 4) * mulM w + 12 * w + 1000

/-- c and H of EdDSA (R263). -/
def edC (alg : Nat) : Nat := if alg = 0x18 then 90 else 100
def edSignH (alg m : Nat) : Nat :=
  if alg = 0x18 then 1 + ceilDiv (49 + m) 128 + ceilDiv (81 + m) 128 else 1 + ceilDiv (68 + m) 136 + ceilDiv (125 + m) 136
def edVerifyH (alg m : Nat) : Nat := if alg = 0x18 then ceilDiv (81 + m) 128 else ceilDiv (125 + m) 136

/-- w of an operation: its operand's words, those of its modulus, or those of its curve's field (R251, R263, SRG_LSTAT). -/
def SrgOp.words (x : SrgOp) : Nat :=
  if x.op ≤ 4 then x.w
  else if x.op = 5 ∨ x.op = 6 ∨ x.op = 7 ∨ (x.op = 14 ∧ isRsa x.alg) then x.k / 8
  else curveW x.alg

/-- The operation count T in lane cycles (R263). -/
def SrgOp.cycles (x : SrgOp) (f : List Bytes) : Nat :=
  let w := x.w
  let cw := curveW x.alg
  let ms := mulMs cw
  let i := invI cw (mulM cw)
  let ie := invI cw ms
  let fw := 1350 * cw + 51
  let g := 875 * cw
  let dec := (if x.alg = 0x18 then 265 else 460) * ms
  if x.op = 1 then 6 * mulM w + 12 * w + 100
  else if x.op = 2 then (80 * w + 20) * mulM w + 12 * w + 100
  else if x.op = 3 then (2 * x.p + 4) * mulM w + 12 * w + 100
  else if x.op = 4 then invI w (mulM w) + 12 * w + 100
  else if x.op = 5 ∨ x.op = 7 then rsaCrt (x.k / 8) (bitLen x.rsaE) + rsaEncoding x.scheme x.k x.p
  else if x.op = 6 then rsaPublic (x.k / 8) (bitLen (beNat ((fieldAt f 0).take 4))) + rsaEncoding x.scheme x.k 0
  else if x.op = 8 then scalarV x.alg + 2 * i + 6 * mulM cw + fw
  else if x.op = 9 then 2 * scalarV x.alg + 2 * i + 26 * mulM cw + fw
  else if x.op = 10 then scalarV x.alg + i + 12 * mulM cw + fw
  else if x.op = 11 then 2 * scalarE x.alg + 2 * ie + 20 * ms + edC x.alg * edSignH x.alg (fieldAt f 0).length + g
  else if x.op = 12 then
    2 * scalarE x.alg + 2 * dec + 9 * ms + ie + edC x.alg * edVerifyH x.alg (fieldAt f 2).length + g
  else if x.op = 13 ∨ (x.op = 14 ∧ isX x.alg) then 10 * (if x.alg = 0x1A then 255 else 448) * ms + ie + 250 * cw
  else if x.op = 14 then
    if isRsa x.alg then 100 + x.k / 8 else if isEd x.alg then scalarE x.alg + ie + edC x.alg + g
    else scalarV x.alg + i + fw
  else if x.op = 16 then edC x.alg + 200
  else if x.op = 17 then scalarE x.alg + ie + 20 * ms + 1000
  else 40 * ms + 1000

/-- Words of ENT_DATA the operation draws while it is loaded (R260). -/
def SrgOp.draws (x : SrgOp) : Nat :=
  if x.op = 8 then (if x.alg = 0x10 ∨ x.alg = 0x13 then 3 else if x.alg = 0x11 ∨ x.alg = 0x14 then 4 else 5)
  else if x.op = 5 ∧ isPss x.scheme then 1 + x.scheme
  else 0

/-- The usage KEY0 must carry, for an OP with a key (R250). -/
def srgUsage (op : Nat) : Option Nat :=
  if op = 5 ∨ op = 8 ∨ op = 11 ∨ op = 16 then some 13 else if op = 7 then some 14
  else if op = 10 ∨ op = 13 then some 15 else none

/-- The parameters of a raw command (R251). -/
def srgRawOp (d : Desc) (key : Bytes) : SrgOp :=
  let op := d.opcode - 0x0410
  { op := op, alg := d.par 0 1, scheme := d.par 1 1, w := d.par 2 2, p := if op = 6 then d.par 2 2 else d.par 4 4,
    key := key }

/-- The parameters of a step (R265). -/
def srgStepOp (st : Step) (key : Bytes) : SrgOp :=
  { op := st.prim, alg := st.im 0, scheme := st.im 1, w := st.im 3, p := leAt st.imm 4 2, key := key }

end Sys2Proof.Machine
end

