-- ==== Sys2Proof/Machine/UnitCycles.lean ====
section
/-! DEFINITION. The cycle counts of the units by what an operation is: Calico (R244), Tulle (R287, R288), the composites (R279, R280)
and the hash units (R295), and the lengths they rest on. Serge's stand with its operations. -/

namespace Sys2Proof.Machine

/-! ## Calico -/

/-- Cycles of a block by cipher code (R211). -/
def cipherCycles (c : Nat) : Nat := if c = 0 then 12 else if c = 1 then 48 else 16

def CalCmd.mac (x : CalCmd) : Bool := decide (3 ≤ x.op)
/-- Decrypt or verify (DIR of R226). -/
def CalCmd.dir (x : CalCmd) : Bool := decide (x.op = 2) || decide (x.op = 4)
def CalCmd.first (x : CalCmd) : Bool := decide (x.seg ≤ 1)
def CalCmd.last (x : CalCmd) : Bool := decide (x.seg = 0) || decide (x.seg = 3)
/-- A class N encryption, which takes a nonce at its first segment (R217). -/
def CalCmd.sealing (x : CalCmd) : Bool := x.classN && decide (x.op = 1) && x.first

/-- Text bytes of a message before this segment: TEXT is kept modulo 2^24 (R226). -/
def Chain.total (k : Chain) : Nat := if k.text = 0 ∧ k.blocks ≠ 0 then 2 ^ 24 else k.text

/-- Cipher invocations on the text of a segment (R226). -/
def CalCmd.textBlocks (x : CalCmd) : Nat := if x.mode = 2 then x.text else ceilDiv x.text (blockLen x.cipher)

/-- Text bytes of the message before this segment. -/
def CalCmd.before (x : CalCmd) : Nat :=
  match x.chain with
  | some c => c.total
  | none => 0

/-- The block count n of a segment (R244): CMAC's minimum of 2 applies to the whole message, so it falls on the last segment of an
empty one. -/
def CalCmd.blocks (x : CalCmd) : Nat :=
  let nb := x.textBlocks
  if x.mode = 6 then nb + 1 + flag x.last
  else if x.mode = 7 then (if x.last ∧ x.before + x.text = 0 then 2 else nb + flag x.last)
  else nb + flag (x.sealing && decide (x.mode ≠ 5))

/-- Blocks charged (R214): IV and subkey blocks excluded, and a MAC of an empty message counts one block. -/
def CalCmd.charged (x : CalCmd) : Nat :=
  if x.mode = 7 ∧ x.last ∧ x.before = 0 then max 1 x.textBlocks else x.textBlocks

/-- Output length (R223). -/
def CalCmd.outLen (x : CalCmd) : Nat :=
  if x.mac then (if x.op = 3 ∧ x.last then x.tagLen else 0)
  else x.text + (if x.sealing then 16 else 0) + (if x.op = 1 ∧ x.mode = 6 ∧ x.last then x.tagLen else 0)

/-- Core occupancy T (R244). -/
def CalCmd.cycles (x : CalCmd) (inLen : Nat) : Nat :=
  24 + cipherCycles x.cipher * x.blocks + 64 + ceilDiv (min inLen 32768 + min x.outLen 16384) 128
    + (if x.mode = 6 then (if x.first then ceilDiv x.aad 16 else 0) + flag x.last else 0)

/-- The block count n of a primitive over `a` bytes (R228). -/
def primBlocks (prim cipher a : Nat) : Nat :=
  let nb := ceilDiv a (blockLen cipher)
  if prim = 6 then max 2 (nb + 1) else if 7 ≤ prim then nb + 2 else nb

/-- Occupancy of a core by a step (R244). -/
def stepCycles (st : Step) (a b : Nat) : Nat :=
  24 + cipherCycles (st.im 0) * primBlocks st.prim (st.im 0) a + 64 + (if 7 ≤ st.prim then ceilDiv b 16 + 1 else 0)

/-! ## Lattice cycle counts (R287) -/

/-- The ML-DSA quantities K, R and F of a set. -/
def dsaK (alg : Nat) : Nat := if alg = 0x28 then 9760 else if alg = 0x29 then 15620 else 25180
def dsaR (alg : Nat) : Nat := if alg = 0x28 then 3460 else if alg = 0x29 then 6300 else 11520
def dsaF (alg : Nat) : Nat := if alg = 0x2A then 600 else 540

/-- P: permutations that absorb the input of μ. -/
def dsaP (c m : Nat) : Nat := ceilDiv (67 + c + m) 136

/-- MLDSA_SIGN_MU with a number of exhausted budgets (R283, R287). -/
def dsaSignMu (alg exhausted : Nat) : Nat := dsaK alg + 8 * dsaR alg + dsaF alg + exhausted * (8 * dsaR alg + 40)

/-- MLDSA_VERIFY without the absorption. -/
def dsaVerify (alg : Nat) : Nat := if alg = 0x28 then 16420 else if alg = 0x29 then 26560 else 43880

/-- PUBKEY, ENCAPS and DECAPS of ML-KEM. -/
def kemPub (alg : Nat) : Nat := if alg = 0x2C then 2240 else if alg = 0x2D then 3320 else 4760
def kemEncaps (alg : Nat) : Nat := if alg = 0x2C then 2960 else if alg = 0x2D then 4880 else 7360
def kemDecaps (alg : Nat) : Nat := if alg = 0x2C then 5600 else if alg = 0x2D then 8880 else 12980

/-- PUBKEY of a lattice key. -/
def latticePubCycles (alg : Nat) : Nat := if isMldsa alg then dsaK alg else kemPub alg

/-! ## Blocks of a hash (R295) -/

/-- Block or rate of a hash code. -/
def hashBlock (h : Nat) : Nat :=
  if h = 0x01 ∨ h = 0x02 then 64 else if h = 0x03 ∨ h = 0x04 then 128 else if h = 0x11 then 144 else if h = 0x12 then 136
  else if h = 0x13 then 104 else if h = 0x14 then 72 else if h = 0x21 then 168 else 136

/-- C and N of R295: cycles per block, blocks of an m-byte message with o bytes of SHAKE output. -/
def hashC (h : Nat) : Nat := if h ≤ 0x02 then 68 else if h ≤ 0x04 then 84 else 26
def hashN (h m o : Nat) : Nat :=
  if h ≤ 0x02 then ceilDiv (m + 9) 64 else if h ≤ 0x04 then ceilDiv (m + 17) 128
  else if isShake h then ceilDiv (m + 1) (hashBlock h) + ceilDiv o (hashBlock h) - 1
  else ceilDiv (m + 1) (hashBlock h)

/-! ## Composites (R279, R280) -/

/-- The algorithms of a composite code: ML-DSA, classical. -/
def compAlgs (code : Nat) : Option (Nat × Nat) :=
  if code = 0x88 then some (0x29, 0x10) else if code = 0x89 then some (0x2A, 0x11)
  else if code = 0x8A then some (0x29, 0x18) else none

/-- The lengths of the four fields of COMP_VERIFY's input before M (R277). -/
def compLens (a : Nat × Nat) : Nat × Nat × Nat × Nat := (latticePub a.1, pubLen a.2, latticeOut a.1, sigLen a.2)

/-- The hash work of a composite: M′, and its digest (R280, R295). -/
def compHashBlocks (code m : Nat) : Nat :=
  hashN 0x04 (17 + m) 0 + (if code = 0x88 then hashN 0x02 64 0 else if code = 0x89 then hashN 0x03 64 0 else 0)

/-- The cycles of those blocks, each at its hash's rate. -/
def compHashCycles (code m : Nat) : Nat :=
  hashC 0x04 * hashN 0x04 (17 + m) 0
    + (if code = 0x88 then hashC 0x02 * hashN 0x02 64 0 else if code = 0x89 then hashC 0x03 * hashN 0x03 64 0 else 0)

/-- The bytes hashed: the input of M′, and M′ again where its digest is signed (R279, HSH_BYTES). -/
def compHashBytes (code m : Nat) : Nat := 17 + m + (if code = 0x88 ∨ code = 0x89 then 64 else 0)

/-- Blocks of an HMAC (R295). -/
def hmacN (h m : Nat) : Nat := hashN h (hashBlock h + m) 0 + hashN h (hashBlock h + digestLen h) 0


/-! ## The work of a command by its descriptor (R105) -/

/-- An RSA key of public exponent 65537, for the cycle counts of a key that is not at hand. -/
def costKey (k : Nat) : Bytes := zeros k ++ beBytes 4 65537

/-- Cycles of a Serge operation on an input of `n` bytes whose contents are not at hand. -/
def SrgOp.costCycles (x : SrgOp) (n : Nat) : Nat :=
  let f := ((x.layout 128 n).getD []).map zeros
  ({ x with key := costKey x.k }).cycles (if x.op = 6 then [beBytes 4 65537] else f)

/-- Cycles of a raw Calico command under a key. -/
def calCost (d : Desc) (alg : Nat) (classN : Bool) : Nat :=
  let x : CalCmd := { op := d.opcode - 0x0400, mode := d.par 0 1, seg := d.par 1 1, cipher := if isTdes alg then 1 else 0,
                      classN := classN, tagLen := 0, lead := 0, aad := d.par 4 4, trail := 0, text := d.inLen - d.par 4 4,
                      chain := none }
  x.cycles d.inLen

/-- Cycles of a raw command on the units it uses: unit code, cycles. -/
def rawCost (d : Desc) (alg : Nat) (classN : Bool) : List (Nat × Nat) :=
  let op := d.opcode
  let a := d.par 0 1
  if 0x0401 ≤ op ∧ op ≤ 0x0404 then [(0, calCost d alg classN)]
  else if 0x0411 ≤ op ∧ op ≤ 0x041D then [(1, max 4096 ((srgRawOp d []).costCycles d.inLen))]
  else if op = 0x0421 then [(2, kemEncaps a)]
  else if op = 0x0422 then [(2, kemDecaps a)]
  else if op = 0x0423 then [(2, dsaSignMu a 0 + 6 * dsaP (d.par 2 2) (d.inLen - d.par 2 2))]
  else if op = 0x0424 then [(2, dsaVerify a + 6 * dsaP (d.par 2 2) (d.inLen - (latticePub a + latticeOut a + d.par 2 2)))]
  else if op = 0x0425 ∨ op = 0x0426 then
    let c := (compAlgs a).getD (0x29, 0x10)
    let sign := decide (op = 0x0425)
    let o : SrgOp := { op := if isEd c.2 then (if sign then 11 else 12) else if sign then 8 else 9, alg := c.2, scheme := 0, w := 0,
                       p := 0, key := [] }
    let l := compLens c
    let m := if sign then d.inLen else d.inLen - (l.1 + l.2.1 + l.2.2.1 + l.2.2.2)
    [(3, 24 + compHashCycles a m + 16), (2, (if sign then dsaSignMu c.1 0 else dsaVerify c.1) + 6 * dsaP 0 64), (1, o.cycles [])]
  else if op = 0x0431 then [(3, 24 + hashC a * hashN a d.inLen (d.par 4 4) + 16)]
  else if op = 0x0432 ∨ op = 0x0433 then [(3, 24 + hashC a * hmacN a d.inLen + 16)]
  else if op = 0x0207 ∧ (isMldsa alg || isMlkem alg) then [(2, latticePubCycles alg)]
  else if op = 0x0207 then
    [(1, max 4096 (({ op := 14, alg := alg, scheme := 0, w := 0, p := 0, key := [] } : SrgOp).cycles []))]
  else []

/-- The length of an operand over a field area of `n` bytes. -/
def costLen (o : Opd) (n : Nat) : Nat := if o.len = 0xFFFF then n - (o.off - 0x8000) else o.len

/-- Cycles of a step that a unit serves, over a field area of `n` bytes. -/
def stepCost (st : Step) (n : Nat) : List (Nat × Nat) :=
  let a := costLen st.a n
  let alg := st.im 0
  if st.unit = 0 then [(0, stepCycles st a st.b.len)]
  else if st.unit = 1 then
    let x := srgStepOp st []
    [(1, 1165 + a + st.b.len + st.c.len + st.d.len + ({ x with key := costKey x.k }).cycles [zeros a, zeros st.b.len, zeros st.c.len] + 4096)]
  else if st.unit = 2 then
    let t := if st.prim = 3 then dsaSignMu alg 0 + 6 * dsaP 0 a else if st.prim = 7 then latticePubCycles alg
      else if st.prim = 8 then dsaK alg else dsaSignMu alg 0
    [(2, t + 600 + ceilDiv (a + st.d.len) 16 + 8192)]
  else if st.unit = 3 then
    let m := a + st.b.len + st.c.len
    [(3, 24 + hashC alg * (if st.prim = 1 then hashN alg m (st.im 1) else hmacN alg m) + 16)]
  else []

/-- MHz of a unit by its code (R211, R244, R288, R295; file 08). -/
def unitMhz (u : Nat) : Nat := if u = 1 then 1250 else 1000

/-- The cost of some work, in nanoseconds of the whole device's service: the unit it keeps longest bounds it (R105). -/
def workCost (count : Nat → Nat) (l : List (Nat × Nat)) : Nat :=
  ((List.range 4).map fun u =>
    ceilDiv (1000 * ((l.filter fun x => x.1 == u).map (·.2)).sum) (unitMhz u * max 1 (count u))).foldl max 0

end Sys2Proof.Machine
end

