-- ==== Sys2Proof/Machine/HostOps.lean ====
section
/-! DEFINITION. Queue pairs, the checks of admission (R104) and what every host command shares: its opcode class, the shape
of its descriptor, its order on a context, and its charge (R100–R109). -/

namespace Sys2Proof.Machine

/-! ## Rings (R90–R94, R103, R118) -/

def RingSlot.isWaiting : RingSlot → Bool
  | .waiting .. => true
  | .answered => false

/-- Waiting entries of a queue pair (R103). -/
def QPair.waiting (x : QPair) : Nat := (x.ring.filter (·.isWaiting)).length

/-- Waiting entries of a tenant over all its queue pairs (TEN_WAIT). -/
def State.waitingOf (s : State) (t : Nat) : Nat := (List.range 16).foldl (fun n q => n + (s.qp t q).waiting) 0

/-- Completion records written and not released, with the slots reserved (R92). -/
def QPair.outstanding (x : QPair) (size : Nat) : Nat := (x.cqTail + size - x.cqHead) % size + x.reserved

/-- A completion slot is free (R92). -/
def QPair.slotFree (x : QPair) (size : Nat) : Bool := decide (x.outstanding size < size - 1)

/-- SQHEAD passes the entries at the head that have been consumed (R103). -/
def popAnswered : List RingSlot → Nat × List RingSlot
  | .answered :: t => let r := popAnswered t; (r.1 + 1, r.2)
  | l => (0, l)

def QPair.settle (x : QPair) (size : Nat) : QPair :=
  let r := popAnswered x.ring
  { x with sqHead := (x.sqHead + r.1) % size, ring := r.2 }

/-- Replace the first waiting slot that holds a submission by an answered one. -/
def consumeSlot (r : Req) : List RingSlot → List RingSlot
  | [] => []
  | .waiting q c :: t => if q = r then .answered :: t else .waiting q c :: consumeSlot r t
  | .answered :: t => .answered :: consumeSlot r t

/-- Consume a submission: its ring slot is passed and a completion slot reserved for it (R92). -/
def State.consume (s : State) (r : Req) : State :=
  match r.src with
  | .host t q _ =>
    let x := s.qp t q
    s.setQp t q ({ x with ring := consumeSlot r x.ring, reserved := x.reserved + 1 }.settle (2 * s.depth t q))
  | .mailbox .. => { s with zyn := { s.zyn with submitted := s.zyn.submitted.filter (· ≠ r) } }
  | .fabric .. => s

/-- Disable a queue pair (R94): unconsumed entries are discarded; ENABLED reads 0 once nothing admitted is left. -/
def State.disableQp (s : State) (t q : Nat) : State :=
  (s.setQp t q { s.qp t q with en := false, ring := [] }).settleQp t q

/-! ## What a command may carry (R97–R104) -/

/-- What the chapters lay down of a command's descriptor: whether KEY0, KEY1 and CTXV may be set, the PARAM bits that may
be non-zero, and the bounds of IN_LEN. -/
structure Shape where
  key0 : Bool
  key1 : Bool
  ctx : Bool
  param : W64
  inMin : Nat
  inMax : Nat
  deriving DecidableEq, Repr

/-- Any length an IN_LEN field may hold. -/
def anyLen : Nat := 2 ^ 32 - 1

/-- The PARAM bits a Serge operation uses (R251). -/
def sergeParam (op : Nat) : W64 :=
  if op = 1 ∨ op = 2 ∨ op = 4 then 0xFFFF0000#64
  else if op = 3 then 0xFFFFFFFFFFFF0000#64
  else if op = 5 then 0xFFFF#64
  else if op = 6 then 0xFFFFFF00#64
  else if op = 7 then 0xFFFFFFFF0000FFFF#64
  else 0xFF#64

/-- The commands of the opcode classes, with their shapes (R78, R113, R122, R163, R203, R222, R251, R276, R296, R315,
R419, R420, R433, R455). -/
def shapeOf (op : Nat) : Option Shape :=
  let any : Shape := { key0 := true, key1 := true, ctx := true, param := 0xFFFFFFFFFFFFFFFF#64, inMin := 0, inMax := anyLen }
  if op = 0x0101 then some { any with param := 0xFFFFFF#64 }
  else if op = 0x0201 then some { any with param := 0, inMin := 32, inMax := 32 }
  else if op = 0x0202 ∨ op = 0x0203 ∨ op = 0x0206 then some { any with param := 0xFFFF#64 }
  else if op = 0x0204 ∨ op = 0x0205 ∨ op = 0x0207 ∨ op = 0x0208 then some { any with param := 0 }
  else if op = 0x0220 then some { any with param := 0, inMin := 16, inMax := 1024 }
  else if op = 0x0221 then some { any with param := 0x1FFFF#64 }
  else if op = 0x0222 then some { any with key1 := false, param := 0xFF#64 }
  else if op = 0x0301 then some { any with param := 0xFF#64 }
  else if op = 0x0302 ∨ op = 0x0303 ∨ op = 0x0305 then some { any with param := 0xFFFF#64 }
  else if op = 0x0304 then some { any with param := 0, inMin := 96, inMax := 393216 }
  else if 0x0401 ≤ op ∧ op ≤ 0x0404 then some { any with key1 := false, param := 0xFFFFFFFF00FFFFFF#64 }
  else if 0x0411 ≤ op ∧ op ≤ 0x041D then
    let o := op - 0x0410
    some { any with key0 := decide (o = 5 ∨ o = 7 ∨ o = 8 ∨ o = 10 ∨ o = 11 ∨ o = 13), key1 := false, ctx := false,
                    param := sergeParam o }
  else if 0x0421 ≤ op ∧ op ≤ 0x0426 then
    some { any with key0 := decide (op = 0x0422 ∨ op = 0x0423 ∨ op = 0x0425), key1 := decide (op = 0x0425), ctx := false,
                    param := if op = 0x0423 ∨ op = 0x0424 then 0xFFFF00FF#64 else 0xFF#64 }
  else if 0x0431 ≤ op ∧ op ≤ 0x0433 then
    some { any with key0 := decide (op ≠ 0x0431), key1 := false, ctx := false, param := 0xFFFFFFFF0000FFFF#64 }
  else if op = 0x0441 then some { key0 := false, key1 := false, ctx := false, param := 0, inMin := 0, inMax := 0 }
  else if op = 0x0501 ∨ op = 0x0503 ∨ op = 0x0504 then some { any with param := 0xFF#64 }
  else if op = 0x0502 then some { any with param := 0x1FF#64 }
  else if op = 0x0505 then some { any with param := 0 }
  else if op = 0x0601 then some { key0 := false, key1 := false, ctx := false, param := 0, inMin := 0, inMax := 0 }
  else if op = 0x0602 then
    some { key0 := false, key1 := false, ctx := false, param := 0xFFFFFFFFFFFF#64, inMin := 0, inMax := 0 }
  else if op = 0x0621 then
    some { key0 := false, key1 := false, ctx := false, param := 0xFFFFFFFF#64, inMin := 0, inMax := 0 }
  else if op = 0x0622 then some { any with param := 0xFFFF#64 }
  else if (0x0701 ≤ op ∧ op ≤ 0x0708) ∨ (0x0801 ≤ op ∧ op ≤ 0x0809) then some any
  else none

/-- Commands served in LOCKED (R46, R100, R433): all of class 0x06, and CER_OPEN only of an unlock ceremony, KIND 1 of its
statement. -/
def servedLocked (r : Req) : Bool :=
  let op := r.desc.opcode
  decide (op = 0x0504) || decide (op = 0x0505) || decide (r.desc.cls = 6) || decide (op = 0x0701) || decide (op = 0x0801) || (decide (op = 0x0802) && leAt r.input 6 1 == 1)
    || (decide (0x0803 ≤ op) && decide (op ≤ 0x0807))

/-- A scatter list meets R98 for a length. -/
def sglOk (l : List Sge) (addr : W64) (len : Nat) : Bool :=
  decide (l.length ≤ 256) && decide (addr.toNat % 16 = 0) && decide ((l.map (·.len)).sum = len)
    && l.all (fun e => decide (1 ≤ e.len)) && decide (l ≠ [])
    && (l.dropLast.all fun e => e.flags == 0) && decide ((l.getLast?.map (·.flags)).getD 1 = 1)

/-- A length outside the command's limits that its PARAM bytes count: contexts of CTX_CLEAR, CTX_EXPORT and CTX_QUERY, and the body of
CTX_INIT for its type (R203). -/
def beyondLimits (d : Desc) : Bool :=
  if d.opcode = 0x0301 then decide (d.inLen ≠ 0) && (decide (d.inLen ≠ 56) || decide (d.par 0 1 = 4))
  else ([0x0302, 0x0303, 0x0305].contains d.opcode) && (decide (d.par 0 2 = 0) || decide (4096 < d.par 0 2))

/-- The descriptor's format (reasons 0x22 to 0x24), in their order. -/
def formatReason (r : Req) (x : Shape) : Option Nat :=
  let d := r.desc
  if d.flags &&& 0xFFF0#16 ≠ 0 ∨ d.ctx &&& 0x7FF00000#32 ≠ 0 ∨ d.rsvd ≠ 0 ∨ (x.key0 = false ∧ d.key0 ≠ 0)
      ∨ (x.key1 = false ∧ d.key1 ≠ 0) ∨ (x.ctx = false ∧ d.ctxv) ∨ d.param &&& ~~~x.param ≠ 0 then some 0x22
  else if d.inLen < x.inMin ∨ x.inMax < d.inLen ∨ beyondLimits d then some 0x23
  else if (d.flags.getLsbD 1 ∧ sglOk r.inSgl d.inAddr d.inLen = false)
      ∨ (d.flags.getLsbD 2 ∧ sglOk r.outSgl d.outAddr d.outLen = false) then some 0x24
  else none

/-- The catalogue entry of a recipe (R66). -/
def State.recipe (s : State) (id : Nat) : Option Recipe := s.img.force.recipes.find? fun x => x.id == id

/-! ## Units a command needs (R4, R5, R63) -/

/-- The engine units a command needs, by opcode (R4, R5, R63): raw services their own, recipes those of their steps. -/
def State.unitsNeeded (s : State) (d : Desc) : List Nat :=
  if d.opcode = 0x0101 then
    match s.recipe (d.par 0 2) with
    | some x => (List.range 4).filter fun u => x.units.getLsbD u
    | none => []
  else if 0x0401 ≤ d.opcode ∧ d.opcode ≤ 0x0404 then [0]
  else if 0x0411 ≤ d.opcode ∧ d.opcode ≤ 0x041D then [1]
  else if d.opcode = 0x0425 ∨ d.opcode = 0x0426 then [2, 1, 3]
  else if 0x0421 ≤ d.opcode ∧ d.opcode ≤ 0x0426 then [2]
  else if 0x0431 ≤ d.opcode ∧ d.opcode ≤ 0x0433 then [3]
  else []

/-- The first unit a command needs and its tenant's pools do not offer: absent, unassigned, or an empty pool (R63). -/
def State.absentUnit (s : State) (r : Req) : Option Nat :=
  (s.unitsNeeded r.desc).find? fun u => decide (s.poolInsts r.tenant (unitAt u) = [])

/-- A needed unit has no instance left, or Twill's island is gated (R53, R61). -/
def State.noneLeft (s : State) (r : Req) : Bool :=
  (s.unitsNeeded r.desc).any (fun u => (s.poolInsts r.tenant (unitAt u)).all fun n => !s.inPool (unitAt u) n)
    || (decide (r.desc.opcode = 0x0101) && !s.islandServes 12)

/-! ## Order on a context, and admission checks (R104, R108) -/

/-- Admitted and unfinished commands that name a context. -/
def State.onCtx (s : State) (c : Nat) : List Admitted :=
  s.host.admitted.filter fun a => a.req.desc.ctxv && a.req.desc.ctxNo == c

/-- The checks of admission in their order (R100, R104). DESIGN CHOICE: R104 gives no place to an unknown recipe (R124) and to a
unit without an instance left (R53); the model takes the first after the format and the second after unit presence (assumption
log 149). -/
def State.admissionRej (s : State) (r : Req) : Option Rej :=
  let d := r.desc
  if 1 ≤ d.cls ∧ d.cls ≤ 8 ∧ 5 ≤ d.cls ∧ r.tenant ≠ 0 then some ⟨0x0801, 0, 0x28⟩
  else
    match shapeOf d.opcode with
    | none => some ⟨0x0301, 0, 0x21⟩
    | some x =>
      match formatReason r x with
      | some k => some ⟨0x0301, 0, k⟩
      | none =>
        if d.opcode = 0x0101 ∧ (s.recipe (d.par 0 2)).isNone then some ⟨0x0301, 0, 0x30⟩
        else
        match s.absentUnit r with
        | some u => some ⟨0x0103, u, 0⟩
        | none =>
          if s.noneLeft r then some ⟨0x0501, 0, 0⟩
          else if d.ctxv ∧ s.holds r.tenant d.ctxNo = false then some ⟨0x0801, 0, 0x27⟩
          else if d.ctxv ∧ 16 ≤ (s.onCtx d.ctxNo).length then some ⟨0x0102, d.ctxNo % 65536, 0x2D⟩
          else none

/-! ## Nominal costs (R10, R105) -/

/-- A rate of R10, and whether Serge bounds it on the CX642 (R11 and the rates of file 08). -/
def State.rowRate (s : State) (d : Desc) : Option (Nat × Bool) :=
  let alg := match s.node (hNode d.key0) with
    | some n => n.alg
    | none => 0
  let op := d.opcode
  let id := d.par 0 2
  if op = 0x0101 then
    if id = 0x0040 then some (300000, false)
    else if 0x10 ≤ id ∧ id ≤ 0x1F then some (1500000, false)
    else if 0x30 ≤ id ∧ id ≤ 0x37 then some (900000, false)
    else if [0x48, 0x4A, 0x4B, 0x58, 0x5A, 0x5B].contains id then some (800000, false)
    else if 0x60 ≤ id ∧ id ≤ 0x6B then some (1200000, false)
    else none
  else if op = 0x0403 ∨ op = 0x0404 then some (1200000, false)
  else if op = 0x0418 ∧ alg = 0x10 then some (350000, true)
  else if op = 0x0419 ∧ d.par 0 1 = 0x10 then some (180000, true)
  else if op = 0x041B ∧ alg = 0x18 then some (400000, true)
  else if op = 0x0415 ∧ alg = 0x20 then some (80000, true)
  else if op = 0x0415 ∧ alg = 0x22 then some (10000, true)
  else if op = 0x0416 ∧ d.par 2 2 = 2048 then some (1500000, true)
  else if op = 0x0423 ∧ alg = 0x29 then some (120000, false)
  else if op = 0x0424 ∧ d.par 0 1 = 0x29 then some (300000, false)
  else if op = 0x0422 ∧ alg = 0x2D then some (900000, false)
  else none

/-- The work of a command on the four engine units: of a recipe, that of its steps. -/
def State.costOf (s : State) (d : Desc) : List (Nat × Nat) :=
  if d.opcode = 0x0101 then
    match s.recipe (d.par 0 2) with
    | some e => e.graph.steps.flatMap fun st => stepCost st (d.inLen - 8 * d.par 2 1)
    | none => []
  else
    match s.node (hNode d.key0) with
    | some n => rawCost d n.alg n.classN
    | none => rawCost d 0 false

/-- The cost that the cycle-count formulas of the units' chapters give a command (R105; assumption log 167); a command that no formula
covers has the firmware's (assumption log 4). -/
def State.formulaCost (s : State) (d : Desc) : Nat :=
  match s.costOf d with
  | [] => Config.nominalCost d.opcode d.inLen d.outLen
  | l => workCost (fun u => s.part.count (unitAt u)) l

/-- The nominal cost of a command in units (R105, R315): on the CX642 a row of R10 costs at most twice its cost, and less where the
units allow it. -/
def State.nominal (s : State) (d : Desc) : Nat :=
  let own := s.formulaCost d
  if d.opcode = 0x0441 then ceilDiv d.outLen 2
  else
    match s.rowRate d with
    | none => own
    | some (rate, serge) =>
      let row := if s.part = .cx642 then
          if d.opcode = 0x0101 ∧ d.par 0 2 = 0x40 then ceilDiv 1000000000 160000
          else if serge then ceilDiv 2000000000 rate else min (ceilDiv 2000000000 rate) own
        else ceilDiv 1000000000 rate
      if d.small then row else max row own

/-- The admission capacity C (R105, R110). -/
def State.capacity (s : State) : Nat := if s.throttled then 1000 else 2000

/-- The retry-after hint of a turned-away command (R109); a tenant without a share in the current cycle has no stated
hint (free, assumption log 3). -/
def State.hint (s : State) (r : Req) : Nat :=
  let x := s.tenant r.tenant
  let sum := if x.costs = [] then s.nominal r.desc else x.costs.sum
  let n := if x.costs = [] then 1 else x.costs.length
  let share := SMap.get 0 s.host.shares r.tenant
  if share = 0 then s.freeNat 16 else min 65535 (2 * max 1 (ceilDiv (s.waitingOf r.tenant * sum) (n * share)))

/-- The record of a failed import (R165); the spec gives it no code of R457 (free, assumption log 3). -/
def State.blockRecord (s : State) : State :=
  let f (k : Nat) : Nat := Config.freshNat (s.fresh + k)
  (s.skip 5).offerRecord (0x0500 + f 0 % 256) (f 1 % 7) 5 false false (f 2) (f 3) (f 4)

/-- The refusal of a command at admission; checks 1 and 2 of a key-block import fail there, with their record (R104, R165). -/
def State.refuseUntaken (s : State) (r : Req) (x : Rej) : State :=
  (if r.desc.opcode = 0x0220 ∧ (x.reason = 0x23 ∨ x.reason = 0x27) then s.blockRecord else s).reject r x

/-- Answer a command that its checks refuse: it is consumed unadmitted (R104). -/
def State.turnDown (s : State) (r : Req) (x : Rej) : State :=
  (s.consume r).refuseUntaken r x

/-- Admit a command that has passed its checks, charging its tenant: it is consumed and counted (R104, R106, R107). -/
def State.admitFor (s : State) (r : Req) (charge : Nat) : State :=
  let cost := s.nominal r.desc
  let urgent := s.urgent r
  let s1 := s.consume r
  let head := match r.src with
    | .host t q _ => (s1.qp t q).sqHead
    | _ => 0
  let x := s1.tenant r.tenant
  let s2 := s1.setTenant r.tenant { x with bal := x.bal - charge, admitted := wrapAdd 32 x.admitted 1,
                                           costs := (cost :: x.costs).take 64 }
  { s2 with
    host := { s2.host with admitted := s2.host.admitted ++ [{ req := r, sqHead := head, urgent := urgent }],
                           inCycle := s2.host.inCycle + 1 }
    zyn := { s2.zyn with submitted := s2.zyn.submitted.filter (· ≠ r) } }

/-- Admit a command at its nominal cost. -/
def State.admitCmd (s : State) (r : Req) : State := s.admitFor r (s.nominal r.desc)

/-- The command has been admitted and has no completion yet. -/
def State.isAdmitted (s : State) (r : Req) : Bool := s.host.admitted.any fun a => decide (a.req = r)

/-- Earlier admitted commands hold this one back: the same context (R108). -/
def State.heldBack (s : State) (r : Req) : Bool :=
  r.desc.ctxv && (match s.onCtx r.desc.ctxNo with
    | a :: _ => decide (a.req ≠ r)
    | [] => false)

end Sys2Proof.Machine
end

