-- ==== Sys2Proof/Machine/Admission.lean ====
section
/-! DEFINITION. What waits for admission and in which order a tenant's work is admitted, and what every host command does
when it arrives and when it runs (R83, R92, R97, R100, R103, R104, R106, R119). -/

namespace Sys2Proof.Machine

/-- Requests of other devices in a queue that have not been admitted. -/
def State.unadmitted (s : State) (l : List FwdIn) : List FwdIn := l.filter fun f => !s.isAdmitted f.req

/-- FENCE keeps the command back until every earlier admitted command of its queue pair has completed (R97). -/
def State.fencedBack (s : State) (r : Req) : Bool :=
  r.desc.flags.getLsbD 0 && (match r.src with
    | .host t q _ => decide (s.inFlight t q ≠ [])
    | _ => false)

/-! ## What waits -/

/-- What is admitted in turn within a tenant: its queue pairs 0 to 15, its mailbox submissions (16), and the urgent (17) and
other (18) requests that other devices forwarded (R106, R125, R476). -/
def laneCount : Nat := 19

/-- A lane holds urgent work. -/
def State.laneUrgent (s : State) (t k : Nat) : Bool := if k < 16 then (s.queueRec t k).prio == 1 else k == 17

/-- The first waiting entry of a ring, with the cycle it has waited since. -/
def firstWaiting : List RingSlot → Option (Req × Nat)
  | [] => none
  | .waiting r c :: _ => some (r, c)
  | .answered :: l => firstWaiting l

/-- The oldest waiting command of a lane. -/
def State.laneFirst (s : State) (t k : Nat) : Option Req :=
  if k < 16 then (firstWaiting (s.qp t k).ring).map (·.1)
  else if k = 16 then s.zyn.submitted.find? fun r => r.tenant == t
  else ((s.unadmitted s.blk.ins).find? fun f => f.req.tenant == t && f.urgent == (k == 17)).map (·.req)

/-- A lane may be served: a queue pair runs and has a completion slot (R92, R118). -/
def State.laneOpen (s : State) (t k : Nat) : Bool :=
  let x := s.qp t k
  decide (16 ≤ k) || (x.en && decide (x.fault = 0) && x.slotFree (2 * s.depth t k))

/-- The session commands of R83: IMAGE_BEGIN to IMAGE_ABORT. -/
def isSession (d : Desc) : Bool := decide (0x0703 ≤ d.opcode) && decide (d.opcode ≤ 0x0708)

/-- The cycle in which the oldest waiting session command of a ring arrived. -/
def firstSession : List RingSlot → Option Nat
  | [] => none
  | .waiting r c :: l => if isSession r.desc then some c else firstSession l
  | .answered :: l => firstSession l

/-- When the oldest session command of one of tenant 0's queue pairs is due: by cycle of arrival, port A first within one. -/
def State.sessionDue (s : State) (k : Nat) : Option Nat :=
  if s.laneOpen 0 k then (firstSession (s.qp 0 k).ring).map fun c => 2 * c + flag (s.qp 0 k).portB else none

/-- A session command waits for one that arrived before it on another of tenant 0's queue pairs, whatever their priority: the
supervisor serialises them in arrival order (R83). -/
def State.sessionBack (s : State) (t k : Nat) (r : Req) : Bool :=
  decide (t = 0) && decide (k < 16) && isSession r.desc
    && match s.sessionDue k with
      | some mine => (List.range 16).any fun j => match s.sessionDue j with
        | some c => decide (c < mine)
        | none => false
      | none => false

/-- The oldest waiting command of a lane where the lane may be served, and neither FENCE nor an earlier session command holds
the entry back (R83, R92, R97, R118). -/
def State.laneHead (s : State) (t k : Nat) : Option Req :=
  if s.laneOpen t k then (s.laneFirst t k).filter fun r => !s.fencedBack r && !s.sessionBack t k r else none

/-- Put a lane before the first of a list that is due later. -/
def putLane (key : Nat → Nat) (k : Nat) : List Nat → List Nat
  | [] => [k]
  | x :: l => if key k < key x then k :: x :: l else x :: putLane key k l

/-- Lanes of tenant 0 whose queue pairs are bound to both ports: by the arrival of their oldest entry, port A first within a
cycle (R119). -/
def State.byArrival (s : State) (l : List Nat) : List Nat :=
  let at_ (k : Nat) : Option Nat := if k < 16 then (firstWaiting (s.qp 0 k).ring).map (·.2) else none
  let both := l.any (fun k => (at_ k).isSome && !(s.qp 0 k).portB) && l.any fun k => (at_ k).isSome && (s.qp 0 k).portB
  let key (k : Nat) : Nat := match at_ k with
    | some c => 2 * c + flag (s.qp 0 k).portB
    | none => 0
  if both then l.foldl (fun m k => putLane key k m) [] else l

/-- The lanes of a tenant from one on, in turn, or by arrival for tenant 0. -/
def State.lanesFrom (s : State) (t start : Nat) : List Nat :=
  let all := (List.range laneCount).map fun k => (start + k) % laneCount
  if t = 0 then s.byArrival all else all

/-- The lanes of a tenant in the order they are served: urgent ones first, each kind in turn (R106). -/
def State.lanes (s : State) (t : Nat) : List Nat :=
  (s.lanesFrom t (s.tenant t).urgentTurn).filter (s.laneUrgent t)
    ++ (s.lanesFrom t (s.tenant t).turn).filter fun k => !s.laneUrgent t k

/-- The command a tenant is admitted next, with its lane. -/
def State.nextOf (s : State) (t : Nat) : Option (Nat × Req) :=
  (s.lanes t).findSome? fun k => (s.laneHead t k).map fun r => (k, r)

/-- A ceremony with SUSPEND is open and the tenant is not tenant 0 (R438). -/
def State.suspends (s : State) (t : Nat) : Bool :=
  match s.lcs.ceremony with
  | some c => c.suspend && decide (t ≠ 0)
  | none => false

/-- A tenant has a waiting entry for R106; while a ceremony with SUSPEND is open only tenant 0 has any (R438). -/
def State.hasWaiting (s : State) (t : Nat) : Bool :=
  decide ((s.tenant t).state = .active) && !s.suspends t && (List.range laneCount).any fun k => (s.laneFirst t k).isSome

/-- The place after lane `k` is served next among the lanes of its priority (R106). -/
def State.passTurn (s : State) (t k : Nat) : State :=
  let x := s.tenant t
  let n := (k + 1) % laneCount
  s.setTenant t (if s.laneUrgent t k then { x with urgentTurn := n } else { x with turn := n })

/-- The cycle may admit another command (R106). -/
def State.cycleOpen (s : State) : Bool := decide (s.host.inCycle < 1024)

/-! ## A command that arrives and one that runs -/

/-- The unit that works in a command's context: Twill, Damask or Calico (R190, R375). -/
def ctxMaster (d : Desc) : Nat := if d.cls = 1 then 18 else if d.cls = 4 then 20 else 19

/-- A command only reads its context: CTX_EXPORT, CTX_QUERY. -/
def ctxReads (d : Desc) : Bool := decide (d.opcode = 0x0303) || decide (d.opcode = 0x0305)

/-- The gate of a command's context denies it to the unit, which acts with its tenant's colour in the secure world (R345, R385). -/
def State.ctxDenial (s : State) (r : Req) : Nat :=
  if r.desc.ctxv then s.pageDenial (.core .secure (s.tenant r.tenant).colour) (10240 + r.desc.ctxNo / 64) (!ctxReads r.desc) else 0

/-- A unit is denied its own work: the denial is recorded, with a SECURITY record whose code the spec does not give (free, assumption
log 3), and the work aborts with cause 2 (R390). -/
def State.denyWork (s : State) (r : Req) : State :=
  let f (k : Nat) : Nat := Config.freshNat (s.fresh + k)
  let a := 0x40000000 + 64 * r.desc.ctxNo
  let t := s.noteDenial (ctxMaster r.desc) .secure (!ctxReads r.desc) false a (s.ctxDenial r)
  ((t.skip 4).offerRecord (0x0B00 + f 0 % 256) 6 0x0B false false (f 1) (f 2) (f 3)).abortOne 2 r

/-- A byte of a command's context that cannot be corrected (R377). -/
def State.ctxError (s : State) (r : Req) : Option Nat :=
  if r.desc.ctxv then s.mem.badByte (0x40000000 + 64 * r.desc.ctxNo) 64 else none

/-- Run an admitted command's body in its turn; one whose buffer cannot be read is refused (R118, R390), and one whose context its unit
may not or cannot read aborts with cause 2 (R377, R390). -/
def State.runBody (s : State) (r : Req) (body : State → State) : State :=
  if s.heldBack r then s
  else if s.ctxDenial r ≠ 0 then s.denyWork r
  else if (s.ctxError r).isSome then (s.noteUncorrectable ((s.ctxError r).getD 0) 0 (ctxMaster r.desc)).abortOne 2 r
  else if r.desc.inLen ≠ 0 ∧ r.inOk = false then s.refuseBuffer r
  else body s

/-- The command has gone to another device and its answer has not come (R475, R479). -/
def State.isAway (s : State) (r : Req) : Bool :=
  s.blk.outs.any (fun f => decide (f.req = r)) || s.blk.spillOuts.any (fun f => decide (f.req = r))

/-- The submission waits in its ring, in its mailbox, or in the queue of the fabric. -/
def State.isWaiting (s : State) (r : Req) : Bool :=
  match r.src with
  | .host t q _ => (s.qp t q).ring.any fun e => match e with
    | .waiting x _ => decide (x = r)
    | .answered => false
  | .mailbox .. => s.zyn.submitted.contains r
  | .fabric .. => s.blk.ins.any fun f => decide (f.req = r)

/-- A submission given directly joins what waits: at the end of its ring, or in its mailbox (assumption log 109). -/
def State.arrive (s : State) (r : Req) : State :=
  if s.isWaiting r then s
  else
    match r.src with
    | .host t q _ =>
      let x := s.qp t q
      s.setQp t q { x with ring := x.ring ++ [.waiting r s.supv.cycle] }
    | .mailbox .. => { s with zyn := { s.zyn with submitted := s.zyn.submitted ++ [r] } }
    | .fabric .. => s

/-- The submission's queue pair takes entries: it runs and has a completion slot (R92, R118); other sources have none. -/
def State.srcOpen (s : State) (r : Req) : Bool :=
  match r.src with
  | .host t q _ => s.laneOpen t q
  | _ => true

/-- The window of the submission's queue pair is full (R103). -/
def State.windowFull (s : State) (r : Req) : Bool :=
  match r.src with
  | .host t q _ => decide (s.depth t q ≤ (s.qp t q).waiting)
  | _ => false

/-- It is a submission's turn (R106): its tenant's balance is above 0, the cycle may still admit, and nothing of its tenant
goes before it. -/
def State.hasTurn (s : State) (r : Req) : Bool :=
  decide (0 < (s.tenant r.tenant).bal) && s.cycleOpen && !s.suspends r.tenant
    && ((s.nextOf r.tenant).map (·.2) == some r)

/-- Admit the submission whose turn it is: its checks refuse it, or it is charged and runs (R104, R106). -/
def State.admitTurn (s : State) (r : Req) (body : State → State) : State :=
  match s.nextOf r.tenant, s.admissionRej r with
  | some (k, _), some x => (s.turnDown r x).passTurn r.tenant k
  | some (k, _), none => ((s.admitCmd r).passTurn r.tenant k).runBody r body
  | none, _ => s

/-- What every host command does (R46, R49, R92, R95, R100, R103, R104, R106): an admitted one runs. One that arrives is turned
away by the mode or by a full window, else it waits; where it is its turn it is checked, admitted and run. While its queue pair
takes no entry, no supervisor is in control, or its tenant is not ACTIVE, nothing is consumed. -/
def State.hostCommand (s : State) (r : Req) (op : Nat) (body : State → State) : State :=
  if r.desc.opcode ≠ op ∨ s.onMain = false then s
  else if s.isAdmitted r then (if s.isAway r then s else s.runBody r body)
  else if s.supv.noSup ∨ s.srcOpen r = false then s
  else if s.sys.mode = .locked ∧ servedLocked r = false then ((s.arrive r).consume r).refuse r 0x0701 0 0
  else if s.sys.mode = .drain then ((s.arrive r).consume r).refuse r 0x0501 0 0
  else if (s.serving = false ∧ s.sys.mode ≠ .locked) ∨ (s.tenant r.tenant).state ≠ .active then s
  else if s.isWaiting r = false ∧ s.windowFull r then ((s.arrive r).consume r).refuse r 0x0101 (s.hint r) 0x20
  else if (s.arrive r).hasTurn r then (s.arrive r).admitTurn r body
  else s.arrive r

end Sys2Proof.Machine
end

