-- ==== Sys2Proof/Machine/Conditioner.lean ====
section
/-! DEFINITION. The entropy unit's streams and conditioner: which streams are sampled and healthy, and the linear-feedback shift
register that folds their raw bits into the seed pool (R300, R302, R303, R308). The raw bits themselves are free (assumption log 3). -/

namespace Sys2Proof.Machine

/-- The streams of the mode that are not excluded, in ascending order (R300, R308). -/
def Entropy.streams (e : Entropy) : List Nat :=
  (List.range (if e.legacy then 64 else 128)).filter fun k => !e.excluded.getLsbD k

/-- Healthy streams h (R302). -/
def Entropy.healthy (e : Entropy) : Nat := e.streams.length

/-- One clock of the register with x^512 + x^8 + x^5 + x^2 + 1: bit 511 leaves it and is fed back (R302). -/
def condClock (c : BitVec 512) : BitVec 512 := if c.getLsbD 511 then (c <<< 1) ^^^ 0x125#512 else c <<< 1

/-- The bits of `n` clocks, the first one first, and the register after them. -/
def condClocks : Nat → BitVec 512 → List Bool × BitVec 512
  | 0, c => ([], c)
  | n + 1, c =>
    let r := condClocks n (condClock c)
    (c.getLsbD 511 :: r.1, r.2)

/-- The raw bits of some streams, that of the first in bit 0. -/
def gather (raw : W128) (l : List Nat) : Nat := l.foldr (fun k n => 2 * n + (if raw.getLsbD k then 1 else 0)) 0

/-- One sampling tick: the raw bits go into the low bits, and the register is clocked ⌈h / 8⌉ times (R302). -/
def condTick (l : List Nat) (raw : W128) (c : BitVec 512) : List Bool × BitVec 512 :=
  condClocks ((l.length + 7) / 8) (c ^^^ BitVec.ofNat 512 (gather raw l))

/-- `n` sampling ticks whose raw bits are the free values from number `k` on. -/
def condTicks (l : List Nat) : Nat → Nat → BitVec 512 → List Bool × BitVec 512
  | 0, _, c => ([], c)
  | n + 1, k, c =>
    let r := condTick l (Config.freshBits k) c
    let q := condTicks l n (k + 1) r.2
    (r.1 ++ q.1, q.2)

/-- Conditioned bits of a tick (R302). -/
def Entropy.clocks (e : Entropy) : Nat := (e.healthy + 7) / 8

/-- Ticks that yield at least `bits` conditioned bits. -/
def Entropy.ticksFor (e : Entropy) (bits : Nat) : Nat := (bits + e.clocks - 1) / e.clocks

/-- Bits as a number, the first one the most significant. -/
def bitString (l : List Bool) : Nat := l.foldl (fun n b => 2 * n + (if b then 1 else 0)) 0

/-- The conditioner discards its first 1,024 output bits after a reset; the bits of the last tick beyond them go to the pool,
unless it is full (R302, R303). -/
def Entropy.settle (e : Entropy) (k : Nat) : Entropy :=
  let r := condTicks e.streams (e.ticksFor 1024) k 0
  { e with cond := r.2, spare := if e.poolFull then [] else e.spare ++ r.1.drop 1024 }

/-- Ticks that fill the pool from what is on its way to it. -/
def Entropy.poolTicks (e : Entropy) : Nat := e.ticksFor (384 - e.spare.length)

/-- The 384 bits that fill the seed pool next (R303). -/
def Entropy.poolBits (e : Entropy) (k : Nat) : BitVec 384 :=
  BitVec.ofNat 384 (bitString ((e.spare ++ (condTicks e.streams e.poolTicks k e.cond).1).take 384))

/-- The register once it has filled the pool. -/
def Entropy.poured (e : Entropy) (k : Nat) : Entropy :=
  { e with cond := (condTicks e.streams e.poolTicks k e.cond).2, spare := [] }

end Sys2Proof.Machine
end

