-- ==== Sys2Proof/Machine/Expander.lean ====
section
/-! DEFINITION. The entropy unit's expander: CTR_DRBG with AES-256 and no derivation function, as SP 800-90A lays it down with
the choices of R304 (PRESUMED, assumption log 2). -/

namespace Sys2Proof.Machine

/-- One block of the counter `k` places further. -/
def Drbg.block (d : Drbg) (k : Nat) : W128 := Crypto.aesEnc (beBytes 32 d.key.toNat) (d.v + BitVec.ofNat 128 k)

/-- The update function over 384 bits of provided data. -/
def Drbg.update (d : Drbg) (x : BitVec 384) : Drbg :=
  let y := (d.block 1 ++ d.block 2 ++ d.block 3) ^^^ x
  { key := y.extractLsb' 128 256, v := y.extractLsb' 0 128 }

/-- Instantiation from the seed pool and a personalisation string. -/
def Drbg.instantiate (entropy pers : BitVec 384) : Drbg := Drbg.zero.update (entropy ^^^ pers)

/-- The four words of the next line: one Generate call. -/
def Drbg.line (d : Drbg) : List W128 := [d.block 1, d.block 2, d.block 3, d.block 4]

/-- The state after a Generate call. -/
def Drbg.next (d : Drbg) : Drbg := Drbg.update { d with v := d.v + 4 } 0

/-- The words of the next `n` lines. -/
def Drbg.lines : Nat → Drbg → List W128
  | 0, _ => []
  | n + 1, d => d.line ++ Drbg.lines n d.next

/-- The state after `n` Generate calls. -/
def Drbg.after : Nat → Drbg → Drbg
  | 0, d => d
  | n + 1, d => Drbg.after n d.next

/-- The personalisation string: device identity, power-cycle count, 28 zero bytes (R304). -/
def personalisation (pwrcyc : Nat) : BitVec 384 := Config.deviceIdentity ++ BitVec.ofNat 32 pwrcyc ++ 0#224

/-- Words as bytes, most significant first. -/
def wordBytes (l : List W128) : Bytes := l.flatMap bytes128

end Sys2Proof.Machine
end

