-- ==== Sys2Proof/Machine/EntropyUnit.lean ====
section
/-! DEFINITION. The entropy unit: its start-up, its output buffer and consumers, health and known-answer tests, raw
capture and RANDOM_GENERATE (file 10). -/

namespace Sys2Proof.Machine

/-! ## The output buffer (R304, R305, R309) -/

/-- A reseed is due (R309). -/
def Entropy.due (e : Entropy) : Bool := decide (2 ^ e.curLog2 ≤ e.requests)

/-- The expander reseeds from the full pool and returns to the first interval (R304, R309). -/
def Entropy.reseedFrom (e : Entropy) (seed : BitVec 384) : Entropy :=
  { e with requests := 0, curLog2 := e.reseedLog2, stretched := false, pool := none, drbg := e.drbg.update seed,
           reseeds := wrapAdd 32 e.reseeds 1 }

/-- At a due point (R309): a reseed at once where the pool is full, except while the legacy start-up test defers it (R301); else the
interval doubles, up to the stretch ceiling. -/
def Entropy.atDue (e : Entropy) : Entropy :=
  if e.due = false then e
  else
    match e.pool, e.legacyTest with
    | some seed, false => e.reseedFrom seed
    | _, _ => if e.stretchLog2 ≤ e.curLog2 then e else { e with curLog2 := e.curLog2 + 1, stretched := true }

/-- Produce up to `n` lines: the words, and the expander after them. At the ceiling it stops (R309). -/
def Entropy.produce : Nat → Entropy → Nat → Entropy × List W128
  | 0, e, _ => (e, [])
  | fuel + 1, e, n =>
    let m := min n (2 ^ e.curLog2 - e.requests)
    if m = 0 then (e, [])
    else
      let r := Entropy.produce fuel { e with requests := e.requests + m, drbg := Drbg.after m e.drbg }.atDue (n - m)
      (r.1, Drbg.lines m e.drbg ++ r.2)

/-- Fill the free lines of the buffer (R305). -/
def Entropy.refill (e : Entropy) : Entropy :=
  let r := e.produce 32 ((512 - e.words) / 4)
  { r.1 with buf := e.buf ++ r.2 }

/-- Take `n` words in order, the buffer refilling as lines come free; `none` where they cannot be served now. -/
def Entropy.take (e : Entropy) (n : Nat) : Option (List W128 × Entropy) :=
  if e.state ≠ .running then none
  else
    let r := e.produce 32 ((512 + n - e.words) / 4)
    let l := e.buf ++ r.2
    if n ≤ l.length then some (l.take n, { r.1 with buf := l.drop n }) else none

/-- Take `n` words for the state. -/
def State.takeWords (s : State) (n : Nat) : Option (List W128 × State) :=
  match s.ent.take n with
  | some (l, e) => some (l, { s with ent := e })
  | none => none

/-- A consumer waits; the stall is counted once (R310). -/
def State.stallFor (s : State) (c : Consumer) : State :=
  if s.ent.stalled.contains c then s
  else { s with ent := { s.ent with stalled := s.ent.stalled ++ [c], stalls := satAdd 32 s.ent.stalls 1 } }

/-- Draw `n` words for a consumer, or let it wait. -/
def State.drawFor (s : State) (c : Consumer) (n : Nat) (k : Bytes → State → State) : State :=
  match s.takeWords n with
  | some (l, t) => k (wordBytes l) { t with ent := { t.ent with stalled := t.ent.stalled.filter (· ≠ c) } }
  | none => s.stallFor c

/-! ## Mask generators (R239–R241, R260, R284, R298, R134) -/

/-- An instance's generator has been reseeded with 256 bits. -/
def UnitInst.reseeded (x : UnitInst) : UnitInst :=
  { x with seeded := true, due := false, stalled := false, reseeds := satAdd 24 x.reseeds 1 }

/-- A reseed of an instance falls due: it is served at once where ENT_DATA can, and waits otherwise. -/
def State.reseedInst (s : State) (u : EngUnit) (n : Nat) : State :=
  (s.setInst u n { s.inst u n with due := true }).drawFor (.mask u n) 2 fun _ t => t.setInst u n (t.inst u n).reseeded

/-- Twill's generator has been reseeded: nothing waits for it any more. -/
def Twill.reseeded (t : Twill) : Twill :=
  { t with reseedDue := false, reseeds := t.reseeds + 1,
           insts := SMap.mapV Inst.free (fun _ i => { i with maskWait := false }) t.insts }

/-! ## Serving (R310, R311, R316) -/

/-- The number of an initiator's bank. -/
def entKey : Initiator → Nat
  | .supervisor x => flag x
  | .worker n .secure => 2 + n
  | _ => 64

/-- An initiator's bank (R316). -/
def State.entBank (s : State) (who : Initiator) : EntBank := SMap.get EntBank.reset s.ent.banks (entKey who)

/-- A bank latches a word (R316). -/
def State.latchWord (s : State) (who : Initiator) (b : EntBank) : State :=
  { s with ent := { s.ent with banks := SMap.set EntBank.reset s.ent.banks (entKey who) b } }

/-- The order of R310: supervisors, then mask generators, then the rest. -/
def Consumer.rank : Consumer → Nat
  | .bank (.supervisor _) => 0
  | .mask .. => 1
  | .twillMask => 1
  | _ => 2

/-- Serve one stalled consumer if words are there; a waiting command or instance start may then proceed. -/
def State.serveOne (s : State) (c : Consumer) : State :=
  let done (t : State) : State := { t with ent := { t.ent with stalled := t.ent.stalled.filter (· ≠ c) } }
  match c with
  | .bank who =>
    match s.takeWords 1 with
    | some (l, t) => done (t.latchWord who { word := l.headD 0, valid := true, unavail := false, due := true })
    | none => s
  | .mask u n =>
    match s.takeWords 2 with
    | some (_, t) => done (t.setInst u n (t.inst u n).reseeded)
    | none => s
  | .twillMask =>
    match s.takeWords 2 with
    | some (_, t) => done { t with twl := t.twl.reseeded }
    | none => s
  | .command _ => if s.ent.state = .running then done s else s
  | .instStart _ => if s.ent.state = .running then done s else s
  | .link _ => if s.ent.state = .running then done s else s

/-- Serve every stalled consumer, in the order of R310. -/
def State.serveStalled (s : State) : State :=
  ([0, 1, 2].flatMap fun k => s.ent.stalled.filter fun c => c.rank == k).foldl (fun t c => t.serveOne c) s

/-! ## Start-up (R41, R301, R306) -/

/-- The legacy sampling's start-up test begins (R301). -/
def Entropy.beginLegacy (e : Entropy) : Entropy := { e with legacy := true, legacyTest := true, legacyDue := false }

/-- The seed pool's bits after a reset of the conditioner, whose raw bits are the free values from number `k` on (R302, R303). -/
def Entropy.firstSeed (e : Entropy) (k : Nat) : BitVec 384 := (e.settle k).poolBits (k + e.ticksFor 1024)

/-- Free values that the first seed takes: the ticks of the discarded bits, and those that fill an empty pool after them. -/
def Entropy.firstTicks (e : Entropy) : Nat :=
  e.ticksFor 1024 + e.ticksFor (384 - (e.spare.length + (e.ticksFor 1024 * e.clocks - 1024)))

/-- The conditioner discards, the pool fills, the expander is instantiated from it, and the buffer is full after its first 128
requests (R304–R306, R311). -/
def Entropy.instantiate (e : Entropy) (k : Nat) (pers : BitVec 384) : Entropy :=
  let d := Drbg.instantiate (e.firstSeed k) pers
  { (e.settle k).poured (k + e.ticksFor 1024) with
           state := .running, buf := Drbg.lines 128 d, drbg := Drbg.after 128 d, requests := 128, curLog2 := e.reseedLog2,
           stretched := false, pool := none, attempts := 0 }

/-- Fewer healthy streams than the mode needs (R308). -/
def Entropy.starved (e : Entropy) : Bool := decide (e.healthy < (if e.legacy then 32 else 64))

/-- ENT_FAILS as a number. -/
def Entropy.fails (e : Entropy) : Nat := e.rct + 256 * e.apt + 65536 * e.kat + 2 ^ 24 * (e.lastStream % 128)

/-- A fault detector's event (R415). -/
def State.faultEvent (s : State) (k n : Nat) : State := s.raiseAlarm (0x800 + k) (n % 256) false

/-- Fence the entropy unit (R308, R312). -/
def State.fenceEntropy (s : State) : State :=
  if s.ent.state = .fenced then s
  else
    let t := { s with ent := { s.ent with state := .fenced, buf := [], pool := none, drbg := Drbg.zero } }
    ((t.offer 0x0A03 t.ent.fails 0 0).faultEvent 4 0).afterFence

/-- A unit that serves with too few healthy streams is fenced, as at the change to legacy mode (R301, R308). -/
def State.fenceStarved (s : State) : State := if s.ent.state = .running ∧ s.ent.starved then s.fenceEntropy else s

/-- The streams that failed an attempt are excluded and counted (R308, ENT_FAILS). -/
def Entropy.noteStreams (e : Entropy) (failed : BitVec 128) (rct apt last : Nat) : Entropy :=
  { e with excluded := e.excluded ||| failed, rct := satAdd 8 e.rct rct, apt := satAdd 8 e.apt apt, lastStream := last }

/-- Both known-answer tests of an attempt have run (R313). -/
def Entropy.noteKats (e : Entropy) (condOk expOk : Bool) : Entropy :=
  { e with
    kat := satAdd 8 e.kat (flag (!condOk) + flag (!expOk))
    condPass := condOk
    expPass := expOk
    condFails := e.condFails + flag (!condOk)
    expFails := e.expFails + flag (!expOk)
    katRuns := satAdd 16 e.katRuns 2 }

/-- ENT_STARTUP_ATTEMPT_END (R41, R306, R308, R313). Which of the two tests each failing stream failed is left open (free). The
third failed attempt shows in SYS_BOOTERR, whether or not it also fences the unit. -/
def execEntStartupAttemptEnd (failed : BitVec 128) (katOk : KatResult) (s : State) : Host.Outcome State Fault Refusal :=
  if s.ent.state ≠ .startup ∨ 3 ≤ s.ent.attempts then .next s
  else
    let new := failed &&& ~~~s.ent.excluded
    let n := (List.range 128).countP fun k => new.getLsbD k
    let split := Config.freshNat s.fresh % (n + 1)
    let last := if n = 0 then s.ent.lastStream else Config.freshNat (s.fresh + 1) % 128
    let e := (s.ent.noteStreams failed split (n - split) last).noteKats katOk.cond katOk.exp
    let t := { s with ent := e, fresh := s.fresh + 2 }
    if n = 0 ∧ katOk.cond ∧ katOk.exp then
      let e1 := { e.instantiate t.fresh (personalisation s.bkd.pwrcyc) with ready := true }
      let e2 := if e1.legacyDue then e1.beginLegacy else e1
      .next { t with ent := e2, sys := { t.sys with entReady := true }, fresh := t.fresh + e.firstTicks }.fenceStarved.serveStalled
    else
      let t1 := { t with ent := { e with attempts := e.attempts + 1 } }
      let t2 := if t1.ent.attempts = 3 then { t1 with sys := { t1.sys with bootErr := 0x11 } }.offer 0x0A02 3 0 0 else t1
      .next (if e.starved ∨ 2 ≤ e.condFails ∨ 2 ≤ e.expFails then t2.fenceEntropy else t2)

/-- LEGACY_STARTUP_COMPLETE (R301): the next reseed draws legacy output. -/
def execLegacyStartupComplete (s : State) : Host.Outcome State Fault Refusal :=
  if s.ent.legacyTest ∧ s.ent.state = .running then
    .next { s with ent := { s.ent with legacyTest := false, pool := none } }
  else .next s

/-! ## Failures and retests (R307, R308, R311, R312) -/

/-- A health failure's counters and record. -/
def State.noteHealth (s : State) (stream test count : Nat) : State :=
  let e := s.ent
  let e1 := { e with
    rct := if test = 1 then satAdd 8 e.rct 1 else e.rct
    apt := if test = 2 then satAdd 8 e.apt 1 else e.apt
    kat := if test = 3 then satAdd 8 e.kat 1 else e.kat
    lastStream := if test = 3 then e.lastStream else stream % 128
    excluded := if test = 3 then e.excluded else e.excluded ||| (1#128 <<< stream) }
  { s with ent := e1 }.offer 0x0A01 stream test count

/-- The unit stops serving and retests (R311). -/
def State.failEntropy (s : State) : State :=
  let e := { s.ent with
    state := .failed, buf := [], cond := 0, spare := [], pool := none, drbg := Drbg.zero, legacyTest := false, attempts := 0 }
  { s with ent := e }

/-- The cutoff of a stream's repetition count test (1) or adaptive proportion test (2), by its H in the mode (R300, R307). -/
def Entropy.cutoff (e : Entropy) (stream test : Nat) : Nat :=
  if stream < 64 ∧ e.legacy = false then (if test = 1 then 41 else 794)
  else if stream < 96 then (if test = 1 then 26 else 664)
  else if test = 1 then 24 else 625

/-- The count of a test says that the stream fails it (R307): the stream is sampled and not excluded, and its count has reached the
cutoff. -/
def Entropy.failing (e : Entropy) (stream test count : Nat) : Bool :=
  (decide (test = 1) || decide (test = 2)) && e.streams.contains stream && decide (e.cutoff stream test ≤ count)

/-- HEALTH_TEST_FAILURE (R301, R307, R308, R311): while serving or during a retest. -/
def execHealthTestFailure (stream test count : Nat) (s : State) : Host.Outcome State Fault Refusal :=
  if s.ent.failing stream test count = false then .next s
  else
    match s.ent.state with
    | .running =>
      let t := s.failEntropy.noteHealth stream test count
      .next (if t.ent.starved then t.fenceEntropy else t)
    | .failed =>
      let t := s.noteHealth stream test count
      let t1 := { t with ent := { t.ent with attempts := t.ent.attempts + 1 } }
      .next (if t1.ent.starved ∨ 3 ≤ t1.ent.attempts then t1.fenceEntropy else t1)
    | _ => .next s

/-- RETEST_COMPLETE (R311). -/
def execRetestComplete (s : State) : Host.Outcome State Fault Refusal :=
  if s.ent.state = .failed then
    .next ({ s with ent := s.ent.instantiate s.fresh (personalisation s.bkd.pwrcyc) }.skip s.ent.firstTicks).serveStalled
  else .next s

/-! ## Reseeds (R309) -/

/-- EXPANDER_RESEED (R304, R309): a due reseed with the pool full, where the expander had stopped at the ceiling. -/
def execExpanderReseed (s : State) : Host.Outcome State Fault Refusal :=
  match s.ent.pool with
  | none => .next s
  | some seed =>
    if s.ent.state = .running ∧ s.ent.due ∧ s.ent.legacyTest = false then
      .next { s with ent := (s.ent.reseedFrom seed).refill }.serveStalled
    else .next s

/-- SEED_POOL_FULL (R303, R309): not while the legacy start-up test defers reseeds (R301). A full pool keeps its bits. What waits for
more words than the ceiling left is served, but where a due reseed comes first. -/
def execSeedPoolFull (s : State) : Host.Outcome State Fault Refusal :=
  if s.ent.state = .running ∧ s.ent.legacyTest = false ∧ s.ent.poolFull = false then
    let e := { s.ent.poured s.fresh with pool := some (s.ent.poolBits s.fresh) }
    let t := { s with ent := e, fresh := s.fresh + s.ent.poolTicks }
    .next (if t.ent.due then t else t.serveStalled)
  else .next s

/-! ## Reads (R312, R316) -/

/-- ENT_READ_RELEASE (R312): the stalled read `k` is released without data while the unit is failed or fenced; recipes
wait instead (R134). -/
def execEntReadRelease (k : Nat) (s : State) : Host.Outcome State Fault Refusal :=
  if s.ent.state ≠ .failed ∧ s.ent.state ≠ .fenced then .next s
  else
    match s.ent.stalled[k]? with
    | none => .next s
    | some c =>
      let t := { s with ent := { s.ent with stalled := s.ent.stalled.filter (· ≠ c),
                                            released := satAdd 32 s.ent.released 1 } }
      match c with
      | .bank who => .next (t.latchWord who { word := 0, valid := false, unavail := true, due := true })
      | .command r => .next ((t.dropJobs fun e => decide (e = .raw r)).refuse r 0x0401 0 0)
      | .mask .. => .next t
      | .twillMask => .next s
      | .instStart _ => .next s
      | .link _ => .next t

/-- Secure-world firmware or a supervisor. -/
def secureWho : Initiator → Bool
  | .supervisor _ => true
  | .worker _ .secure => true
  | _ => false

/-- ENT_DATA_READ (R41, R316): a read of ENT_DATA0. -/
def execEntDataRead (who : Initiator) (s : State) : Host.Outcome State Fault Refusal :=
  if secureWho who ∧ s.onMain then
    .next ((s.latchWord who EntBank.reset).drawFor (.bank who) 1 fun b t =>
      t.latchWord who { word := block128 b, valid := true, unavail := false, due := false })
  else .next s

/-! ## Known-answer tests (R313) -/

/-- KAT_PERIODIC (R69, R313): every KAT_S seconds; 0 means on request only. -/
def execKatPeriodic (s : State) : Host.Outcome State Fault Refusal :=
  if s.ent.state = .running ∧ s.ent.katS ≠ 0 then .next { s with ent := { s.ent with condDue := true, expDue := true } }
  else .next s

/-- A due test may start: the unit serves and no reseed runs first. -/
def Entropy.katMayRun (e : Entropy) : Bool := decide (e.state = EntState.running) && !(e.due && e.poolFull && !e.legacyTest)

/-- A known-answer test has failed: a health failure with no stream excluded; the second of the same test fences. -/
def State.katFailed (s : State) (fails : Nat) : State :=
  let t := s.failEntropy.noteHealth 0 3 fails
  if 2 ≤ fails then t.fenceEntropy else t

/-- CONDITIONER_KAT (R313): the pool keeps its contents, and the conditioner then discards 1,024 bits. -/
def execConditionerKat (pass : Bool) (s : State) : Host.Outcome State Fault Refusal :=
  if s.ent.condDue = false ∨ s.ent.katMayRun = false then .next s
  else
    let t := { s with ent := { s.ent with condDue := false, condPass := pass, katRuns := satAdd 16 s.ent.katRuns 1,
                                          condFails := s.ent.condFails + flag (!pass) } }
    .next (if pass then { t with ent := t.ent.settle t.fresh, fresh := t.fresh + t.ent.ticksFor 1024 }
      else t.katFailed t.ent.condFails)

/-- The expander's test, run (R313). -/
def State.expanderKat (s : State) (pass : Bool) : State :=
  let t := { s with ent := { s.ent with expDue := false, expPass := pass, katRuns := satAdd 16 s.ent.katRuns 1,
                                        expFails := s.ent.expFails + flag (!pass) } }
  if pass then t else t.katFailed t.ent.expFails

/-- EXPANDER_KAT (R313): with the buffer full. -/
def execExpanderKat (pass : Bool) (s : State) : Host.Outcome State Fault Refusal :=
  if s.ent.expDue ∧ s.ent.katMayRun ∧ s.ent.words = 512 then .next (s.expanderKat pass) else .next s

/-- EXPANDER_KAT_FORCE (R313): 100 ms after it fell due, the buffer not having been full. -/
def execExpanderKatForce (pass : Bool) (s : State) : Host.Outcome State Fault Refusal :=
  if s.ent.expDue ∧ s.ent.katMayRun ∧ s.ent.words < 512 then .next (s.expanderKat pass) else .next s

/-! ## Raw capture (R314) -/

/-- RAW_CAPTURE (R314, R316): in BLANK and TEST only. -/
def execRawCapture (who : Initiator) (v : W32) (s : State) : Host.Outcome State Fault Refusal :=
  if s.onMain = false then .next s
  else .next (s.byControl who fun s =>
    if 1 < s.lifeCycle then s
    else { s with ent := { s.ent with raw := { stream := (v.extractLsb' 0 7).toNat, go := s.ent.raw.go || v.getLsbD 7,
                                               addr := (v.extractLsb' 8 24).toNat * 256 } } })

/-- RAW_CAPTURE_DONE (R314): 1,048,576 samples, 128 KiB, reach WORK. -/
def execRawCaptureDone (samples : Bytes) (s : State) : Host.Outcome State Fault Refusal :=
  if s.ent.raw.go = false then .next s
  else
    let keep := ((List.range 131072).zip samples).filter fun p => classOf (s.ent.raw.addr + p.1) == some 1
    let mem := keep.foldl (fun m p => m.writeByte (s.ent.raw.addr + p.1) p.2) s.mem
    .next { s with mem := mem, ent := { s.ent with raw := { s.ent.raw with go := false } } }

/-! ## RANDOM_GENERATE (R315) -/

/-- RANDOM_GENERATE (R315). -/
def execRandomGenerate (r : Req) (s : State) : Host.Outcome State Fault Refusal :=
  .next (s.hostCommand r 0x0441 fun s =>
    let n := r.desc.outLen
    if n < 16 ∨ 65536 < n ∨ n % 16 ≠ 0 then s.refuseRange r 0x80
    else s.drawFor (.command r) (n / 16) fun b t => t.answer r 0 b)

end Sys2Proof.Machine
end

