-- ==== Sys2Proof/Machine/ImageFormat.lean ====
section
/-! DEFINITION. The structure image: reading a copy's header, sections and records, and the checks of R72 in their order
(R55–R73). -/

namespace Sys2Proof.Machine

/-- The first `n` bytes of a slot; MRAM that nothing has written reads as zero (assumption log 9). -/
def slotBytes (m : SMap Byte) (n : Nat) : Bytes := (List.range n).map fun k => SMap.get 0 m k

/-- Every byte of a field is zero. -/
def zeroAt (b : Bytes) (off n : Nat) : Bool := decide (leAt b off n = 0)

/-! ## Header (R56, R57) -/

def imgLength (h : Bytes) : Nat := leAt h 0x10 4
def imgSections (h : Bytes) : Nat := leAt h 0x14 2
def imgReplicate (h : Bytes) : Bool := leAt h 0x16 2 % 2 == 1
def imgBodyLen (h : Bytes) : Nat := leAt h 0x18 4
def imgSigCount (h : Bytes) : Nat := leAt h 0x20 2
def imgSeq (h : Bytes) : Nat := leAt h 0x08 8
def imgVariant (h : Bytes) : Nat := leAt h 0x06 2

/-- A signature directory entry (R57). -/
structure SigEntry where
  cust : Nat
  kind : Nat
  offset : Nat
  keyId : Bytes
  deriving DecidableEq, Repr

def sigEntry (h : Bytes) (k : Nat) : SigEntry :=
  { cust := leAt h (0x80 + 16 * k) 1, kind := leAt h (0x81 + 16 * k) 1, offset := leAt h (0x84 + 16 * k) 4,
    keyId := slice h (0x88 + 16 * k) 8 }

def sigEntries (h : Bytes) : List SigEntry := (List.range (min 8 (imgSigCount h))).map (sigEntry h)

/-- The size of a signature entry (R58). -/
def SigEntry.size (e : SigEntry) : Nat := if e.kind.testBit 1 then 3408 else 96

/-- Entries follow one another from offset `at` on without gaps, and end at `stop`. -/
def gapless : Nat → List SigEntry → Nat → Bool
  | pos, [], stop => decide (pos = stop)
  | pos, e :: t, stop => decide (e.offset = pos) && gapless (pos + e.size) t stop

/-- Check 1 of R72. -/
def check1 (h : Bytes) : Bool :=
  decide (leAt h 0 4 = 0x434C4453) && decide (leAt h 4 2 = 1) && decide (leAt h 0x16 2 < 2) && zeroAt h 0x22 2
    && zeroAt h 0x78 8

/-- Check 2 of R72. -/
def check2 (h : Bytes) : Bool :=
  decide (imgLength h ≤ 1572864) && decide (imgBodyLen h % 16 = 0) && decide (leAt h 0x24 4 = 256 + imgBodyLen h)
    && decide (2 ≤ imgSigCount h) && decide (imgSigCount h ≤ 8)
    && (List.range 8).all (fun k =>
      if k < imgSigCount h then
        decide ((sigEntry h k).cust ≤ 15) && (sigEntry h k).kind.testBit 0 && decide ((sigEntry h k).kind < 4)
          && zeroAt h (0x82 + 16 * k) 2 && decide ((sigEntry h k).offset % 4 = 0)
      else zeroAt h (0x80 + 16 * k) 16)
    && decide (256 + imgBodyLen h ≤ imgLength h)
    && gapless 0 (sigEntries h) (imgLength h - (256 + imgBodyLen h))

/-- D_IMG (R58). -/
def dImg (h : Bytes) : Bytes := beBytes 48 (Crypto.sha384 (h.take 128)).toNat

/-- Signature entry `e` counts (R73). -/
def sigCounts (s : State) (copy : Bytes) (e : SigEntry) : Bool :=
  let c := SMap.get Custodian.none s.bkd.custodians e.cust
  match SMap.get (none : Option (Bytes × Bytes)) s.lcs.store e.cust with
  | none => false
  | some (ec, ml) =>
    let pos := 256 + imgBodyLen copy + e.offset
    c.active && decide (beBytes 48 (Crypto.sha384 ec).toNat = c.keyHash) && decide (e.keyId = c.keyHash.take 8)
      && Crypto.ecdsaVerify 0x11 ec (dImg copy) (slice copy pos 96)
      && (!c.mldsa || (decide (beBytes 48 (Crypto.sha384 ml).toNat = c.mlHash) && e.kind.testBit 1
        && Crypto.mldsaVerify 0x29 ml [0x43, 0x4C, 0x44, 0x53] (dImg copy) (slice copy (pos + 96) 3309)))

/-- The custodians whose entries count, each once, in directory order. -/
def custodiansOf (s : State) (copy : Bytes) : List Nat :=
  ((sigEntries copy).filter (sigCounts s copy)).foldl (fun l e => if l.contains e.cust then l else l ++ [e.cust]) []

/-- The entries examined, in directory order, until `n` distinct custodians count (R73). -/
def examineEntries (counts : SigEntry → Bool) (n : Nat) : List Nat → List SigEntry → List SigEntry
  | _, [] => []
  | seen, e :: t =>
    if n ≤ seen.length then []
    else e :: examineEntries counts n (if counts e && !seen.contains e.cust then e.cust :: seen else seen) t

/-- Check 7 of R72: the quorum of R73. -/
def quorumMet (s : State) (copy : Bytes) : Bool := decide (max 2 s.bkd.quorum ≤ (custodiansOf s copy).length)

/-! ## Sections (R59, R60) -/

/-- A section directory entry (R59). -/
structure Section where
  code : Nat
  off : Nat
  size : Nat
  records : Nat
  /-- VERSION is 1 and the zero field zero. -/
  plain : Bool
  deriving DecidableEq, Repr

def sectionAt (body : Bytes) (k : Nat) : Section :=
  { code := leAt body (16 * k) 1, off := leAt body (16 * k + 4) 4, size := leAt body (16 * k + 8) 4,
    records := leAt body (16 * k + 12) 4, plain := decide (leAt body (16 * k + 1) 1 = 1) && zeroAt body (16 * k + 2) 2 }

def sectionsOf (copy body : Bytes) : List Section := (List.range (min 11 (imgSections copy))).map (sectionAt body)

/-- The data of a section, if present. -/
def sectionData (l : List Section) (body : Bytes) (code : Nat) : Option (Bytes × Nat) :=
  (l.find? fun x => x.code == code).map fun x => (slice body x.off x.size, x.records)

/-- Preamble and record size, and the bounds on RECORDS (R60). -/
def sectionForm (code : Nat) : Nat × Nat × Nat × Nat :=
  if code = 0x01 then (0, 8, 19, 19) else if code = 0x02 then (0, 16, 1, 256) else if code = 0x03 then (0, 16, 1, 272)
  else if code = 0x04 then (16, 8, 1, 4096) else if code = 0x05 then (0, 16, 0, 5120)
  else if code = 0x06 then (0, 16, 0, 1024) else if code = 0x07 then (0, 4, 0, 4096)
  else if code = 0x08 then (0, 128, 1, 1) else if code = 0x09 then (0, 16, 1, 1)
  else if code = 0x0A then (16, 4, 0, 256) else (0, 32, 0, 65534)

/-- A section's size and record count meet R60; the catalogue's graphs follow its entries. -/
def Section.formOk (x : Section) : Bool :=
  let f := sectionForm x.code
  let want := f.1 + f.2.1 * x.records
  (if x.code = 0x06 then decide (want ≤ x.size) else decide (x.size = want))
    && (decide (x.code = 0x0B) || (decide (f.2.2.1 ≤ x.records) && decide (x.records ≤ f.2.2.2)))

/-- Strictly rising codes. -/
def risingCodes : List Section → Bool
  | x :: y :: t => decide (x.code < y.code) && risingCodes (y :: t)
  | _ => true

/-- No two sections overlap; an empty one overlaps none. -/
def apart : List Section → Bool
  | [] => true
  | x :: t => t.all (fun y => decide (x.size = 0) || decide (y.size = 0) || decide (x.off + x.size ≤ y.off)
      || decide (y.off + y.size ≤ x.off)) && apart t

/-- Check 8 of R72. -/
def check8 (copy body : Bytes) : Bool :=
  let n := imgSections copy
  let l := sectionsOf copy body
  decide (7 ≤ n) && decide (n ≤ 11) && l.all (fun x => x.plain && decide (1 ≤ x.code) && decide (x.code ≤ 0x0B)
      && decide (x.off % 16 = 0) && decide (16 * n ≤ x.off) && decide (x.off + x.size ≤ body.length) && x.formOk)
    && risingCodes l && apart l
    && [0x01, 0x02, 0x03, 0x04, 0x05, 0x07, 0x0B].all fun k => l.any fun x => x.code == k

/-! ## Records (R61–R71) -/

def islandRec (d : Bytes) (k : Nat) : IslandRec :=
  { owner := leAt d (8 * k + 1) 1, init := leAt d (8 * k + 2) 1, sensors := BitVec.ofNat 32 (leAt d (8 * k + 4) 4) }

def tenantRec (d : Bytes) (k : Nat) : TenantRec :=
  { tenant := leAt d (16 * k) 1, isStatic := leAt d (16 * k + 1) 1 % 2 == 1, colour := leAt d (16 * k + 2) 1,
    qpairs := leAt d (16 * k + 3) 1, ctxUnits := leAt d (16 * k + 4) 2, weight := leAt d (16 * k + 6) 2,
    slots := leAt d (16 * k + 8) 2, nodes := leAt d (16 * k + 12) 4 }

def poolRec (d : Bytes) (k : Nat) : PoolRec :=
  { pool := leAt d (16 * k + 1) 1, unit := leAt d (16 * k + 2) 1, twshare := leAt d (16 * k + 3) 1,
    mask := BitVec.ofNat 32 (leAt d (16 * k + 4) 4) }

def assignRec (d : Bytes) (k : Nat) : AssignRec :=
  { tenant := leAt d (16 * k + 1) 1, cal := leAt d (16 * k + 2) 1, srg := leAt d (16 * k + 3) 1,
    tul := leAt d (16 * k + 4) 1, hsh := leAt d (16 * k + 5) 1 }

def queueRecAt (d : Bytes) (k : Nat) : QueueRec :=
  let o := 16 + 8 * k
  { tenant := leAt d o 1, qp := leAt d (o + 1) 1, depthLog2 := leAt d (o + 2) 1, prio := leAt d (o + 3) 1,
    vector := leAt d (o + 4) 1, port := leAt d (o + 5) 1 }

def rangeRec (d : Bytes) (k : Nat) : RangeRec :=
  { world := leAt d (16 * k + 1) 1, colour := leAt d (16 * k + 2) 1, base := leAt d (16 * k + 4) 4,
    pages := leAt d (16 * k + 8) 4 }

def grantRec (d : Bytes) (k : Nat) : Grant :=
  { from_ := leAt d (16 * k + 1) 1, tgt := leAt d (16 * k + 2) 1, read := (leAt d (16 * k + 3) 1).testBit 0,
    write := (leAt d (16 * k + 3) 1).testBit 1, valid := true }

def recipeRec (d : Bytes) (k : Nat) : Recipe :=
  { id := leAt d (16 * k) 2, version := leAt d (16 * k + 2) 2, units := BitVec.ofNat 8 (leAt d (16 * k + 12) 1),
    graph := graphAt (slice d (leAt d (16 * k + 4) 4) (leAt d (16 * k + 8) 4)) }

def alarmRec (d : Bytes) (k : Nat) : Nat × AlarmCfg :=
  (leAt d (4 * k) 2, { cls := leAt d (4 * k + 2) 1, alert := leAt d (4 * k + 3) 1 % 2 == 1 })

def bilkinRec (d : Bytes) : BilkinRec :=
  { links := BitVec.ofNat 32 (leAt d 0 4), coordEligible := (leAt d 4 4).testBit 0, spillAllowed := (leAt d 4 4).testBit 1,
    fabric := BitVec.ofNat 64 (leAt d 8 8), groups := BitVec.ofNat 64 (leAt d 16 8), replica := leAt d 24 1,
    seed := slice d 32 32 }

def entropyRec (d : Bytes) : EntropyRec :=
  { legacy := leAt d 0 1 == 1, reseedLog2 := leAt d 1 1, stretchLog2 := leAt d 2 1, timeoutUs := leAt d 4 4,
    katS := leAt d 8 4 }

def recorderRec (d : Bytes) (n : Nat) : RecorderRec :=
  { minsev := leAt d 0 1, auditNode := leAt d 2 2,
    overrides := (List.range n).map fun k => (leAt d (16 + 4 * k) 1, leAt d (17 + 4 * k) 1) }

/-- Whether record `k` of KIND at stride `w` is of the kind named. -/
def ofKind (d : Bytes) (w kind n : Nat) : List Nat := (List.range n).filter fun k => leAt d (w * k) 1 == kind

/-- The structure a copy's sections lay down (R60–R71), with the stated meaning of missing sections. -/
def decodeImage (copy body : Bytes) : Image :=
  let l := sectionsOf copy body
  let data (k : Nat) : Bytes × Nat := (sectionData l body k).getD ([], 0)
  let sec2 := data 0x02
  let sec3 := data 0x03
  let sec4 := data 0x04
  let sec5 := data 0x05
  let sec6 := data 0x06
  let sec7 := data 0x07
  let secB := data 0x0B
  { seq := imgSeq copy
    replicate := imgReplicate copy
    islands := (List.range 19).map (islandRec (data 0x01).1)
    tenants := (List.range sec2.2).map (tenantRec sec2.1)
    pools := (ofKind sec3.1 16 1 sec3.2).map (poolRec sec3.1)
    assigns := (ofKind sec3.1 16 2 sec3.2).map (assignRec sec3.1)
    portBDown := leAt sec4.1 0 1 == 1
    chainMax := leAt sec4.1 1 1
    queues := (List.range sec4.2).map (queueRecAt sec4.1)
    ranges := (ofKind sec5.1 16 1 sec5.2).map (rangeRec sec5.1)
    grants := (ofKind sec5.1 16 2 sec5.2).map (grantRec sec5.1)
    recipes := (List.range sec6.2).map (recipeRec sec6.1)
    alarms := (List.range sec7.2).map (alarmRec sec7.1)
    bilkin := match sectionData l body 0x08 with | some x => bilkinRec x.1 | none => BilkinRec.none
    entropy := match sectionData l body 0x09 with | some x => entropyRec x.1 | none => EntropyRec.default
    recorder := match sectionData l body 0x0A with | some x => recorderRec x.1 x.2 | none => RecorderRec.default
    nodes := (List.range secB.2).map fun k => nodeAt secB.1 (32 * k) }

/-! ## Check 9 (R72): each section's own rule; the index of the first record that breaks it -/

/-- The first index below `n` that fails `p`. -/
def firstBad (n : Nat) (p : Nat → Bool) : Option Nat := (List.range n).find? fun k => !p k

/-- No two of the first `k` values of `f` equal the one at `k`. -/
def newAt (f : Nat → Nat) (k : Nat) : Bool := (List.range k).all fun j => f j != f k

/-- R61: OWNER and INIT of an island absent on the part are ignored. -/
def badIsland (part : Part) (d : Bytes) : Option Nat :=
  let gate (k : Nat) : Bool := (decide (1 ≤ k) && decide (k ≤ 12)) || decide (k = 15)
  match firstBad 19 fun k =>
    decide (leAt d (8 * k) 1 = k) && zeroAt d (8 * k + 3) 1
      && (!part.islands.getLsbD k || (decide (leAt d (8 * k + 1) 1 ≤ 1) && decide (leAt d (8 * k + 2) 1 ≤ 2)))
      && (gate k || (decide (leAt d (8 * k + 1) 1 = 1) && decide (leAt d (8 * k + 2) 1 = 0)))
      && (List.range k).all (fun j => decide ((islandRec d j).sensors &&& (islandRec d k).sensors = 0)) with
  | some k => some k
  | none =>
    if (List.range 19).foldl (fun m k => m ||| (islandRec d k).sensors) 0#32 = 0xFFFFFFFF#32 then none else some 18

/-- R62, and R387 for colour 0xFF. -/
def badTenant (d : Bytes) (n : Nat) : Option Nat :=
  match firstBad n fun k =>
    let r := tenantRec d k
    newAt (fun j => (tenantRec d j).tenant) k && decide (leAt d (16 * k + 1) 1 ≤ 1)
      && newAt (fun j => (tenantRec d j).colour) k && decide (r.colour ≠ 0xFF) && decide (1 ≤ r.qpairs)
      && decide (r.qpairs ≤ 16) && decide (r.ctxUnits ≤ 256) && decide (1 ≤ r.weight) && decide (r.weight ≤ 1000)
      && decide (r.slots ≤ 4096) && zeroAt d (16 * k + 10) 2 && decide (r.nodes ≤ 65534)
      && decide (((List.range (k + 1)).map fun j => (tenantRec d j).ctxUnits).sum ≤ 256)
      && decide (((List.range (k + 1)).map fun j => (tenantRec d j).slots).sum ≤ 4096)
      && decide (((List.range (k + 1)).map fun j => (tenantRec d j).nodes).sum ≤ 65534) with
  | some k => some k
  | none => if (List.range n).any fun k => (tenantRec d k).tenant == 0 && (tenantRec d k).isStatic then none else some 0

/-- The present instances of a pool's unit on a part. -/
def presentMask (p : Part) (unit : Nat) : BitVec 32 :=
  lowMask (p.count (if unit = 0 then .cal else if unit = 1 then .srg else if unit = 2 then .tul else .hsh))

/-- A pool an assignment names exists and is of the unit, or none is named. -/
def poolNamed (pools : List PoolRec) (unit x : Nat) : Bool :=
  decide (x = 0xFF) || pools.any fun p => p.pool == x && p.unit == unit

/-- R63. -/
def badPool (part : Part) (tenants : List TenantRec) (d : Bytes) (n : Nat) : Option Nat :=
  let defs := ofKind d 16 1 n
  let pools := defs.map (poolRec d)
  match firstBad n fun k =>
    if leAt d (16 * k) 1 = 1 then
      let p := poolRec d k
      decide (p.pool ≤ 15) && decide (p.unit ≤ 3) && decide (p.twshare ≤ 100) && zeroAt d (16 * k + 8) 8
        && (defs.filter fun j => decide (j < k)).all fun j =>
          let q := poolRec d j
          decide (q.pool ≠ p.pool) && (decide (q.unit ≠ p.unit) || decide (q.mask &&& p.mask &&& presentMask part p.unit = 0))
    else if leAt d (16 * k) 1 = 2 then
      let a := assignRec d k
      tenants.any (fun t => t.tenant == a.tenant)
        && ((ofKind d 16 2 n).filter fun j => decide (j < k)).all (fun j => decide ((assignRec d j).tenant ≠ a.tenant))
        && poolNamed pools 0 a.cal && poolNamed pools 1 a.srg && poolNamed pools 2 a.tul && poolNamed pools 3 a.hsh
        && zeroAt d (16 * k + 6) 10
    else false with
  | some k => some k
  | none =>
    if tenants.all fun t => (ofKind d 16 2 n).any fun k => (assignRec d k).tenant == t.tenant then none else some 0

/-- R64. -/
def badQueue (tenants : List TenantRec) (d : Bytes) (n : Nat) : Option Nat :=
  if ¬ (leAt d 0 1 ≤ 1 ∧ leAt d 1 1 ≤ 5 ∧ (leAt d 0 1 = 1 ∨ leAt d 1 1 = 0) ∧ leAt d 2 14 = 0) then some 0
  else firstBad n fun k =>
    let q := queueRecAt d k
    (tenants.any fun t => t.tenant == q.tenant && decide (q.qp < t.qpairs))
      && newAt (fun j => 16 * (queueRecAt d j).tenant + (queueRecAt d j).qp) k
      && decide (4 ≤ q.depthLog2) && decide (q.depthLog2 ≤ 12) && decide (q.prio ≤ 1) && decide (q.vector ≤ 7)
      && decide (q.port ≤ 2) && (decide (q.port ≠ 1) || decide (leAt d 0 1 = 0)) && zeroAt d (22 + 8 * k) 2

/-- A page range lies wholly in WORK or wholly in OPND. -/
def rangePlaced (r : RangeRec) : Bool :=
  let stop := r.base + 4096 * r.pages
  (decide (0x20000000 ≤ r.base) && decide (stop ≤ 0x22800000)) || (decide (0x80000000 ≤ r.base) && decide (stop ≤ 0x80C00000))

/-- R65, and R387 for colour 0xFF. -/
def badColour (d : Bytes) (n : Nat) : Option Nat :=
  firstBad n fun k =>
    if leAt d (16 * k) 1 = 1 then
      let r := rangeRec d k
      decide (r.world ≤ 3) && decide (r.colour ≠ 0xFF) && zeroAt d (16 * k + 3) 1 && decide (r.base % 4096 = 0)
        && decide (1 ≤ r.pages) && rangePlaced r && zeroAt d (16 * k + 12) 4
        && decide ((ofKind d 16 1 (k + 1)).length ≤ 4096)
        && (ofKind d 16 1 k).all fun j =>
          let q := rangeRec d j
          decide (q.base + 4096 * q.pages ≤ r.base) || decide (r.base + 4096 * r.pages ≤ q.base)
    else if leAt d (16 * k) 1 = 2 then
      decide (leAt d (16 * k + 3) 1 ≤ 3) && zeroAt d (16 * k + 4) 12 && decide ((ofKind d 16 2 (k + 1)).length ≤ 1024)
    else false

/-- R66, with the graph rules of R130. -/
def badRecipe (d : Bytes) (n : Nat) : Option Nat :=
  firstBad n fun k =>
    let off := leAt d (16 * k + 4) 4
    let len := leAt d (16 * k + 8) 4
    decide (leAt d (16 * k) 2 ≤ 1023) && newAt (fun j => leAt d (16 * j) 2) k && decide (off % 16 = 0)
      && decide (16 * n ≤ off) && decide (off + len ≤ d.length) && zeroAt d (16 * k + 14) 2
      && graphOk (slice d off len) (leAt d (16 * k + 13) 1)
      && decide ((recipeRec d k).units = (recipeRec d k).graph.unitsUsed)

/-- A monitor code that R397 issues. -/
def issuedMonitor (m : Nat) : Bool :=
  decide (m < 0x1C0) || (decide (0x200 ≤ m) && decide (m < 0x208)) || decide (m = 0x210) || decide (m = 0x211)
    || (decide (0x300 ≤ m) && decide (m < 0x324)) || (decide (0x400 ≤ m) && decide (m < 0x420))
    || (decide (0x500 ≤ m) && decide (m < 0x509)) || (decide (0x600 ≤ m) && decide (m < 0x613))
    || (decide (0x700 ≤ m) && decide (m < 0x710)) || (decide (0x800 ≤ m) && decide (m < 0x808)) || decide (m = 0x900)

/-- The frequency monitor of an absent island (R397). -/
def absentMonitor (part : Part) (m : Nat) : Bool :=
  decide (0x600 ≤ m) && decide (m < 0x613) && !part.islands.getLsbD (m - 0x600)

/-- R67: every record names an issued monitor, no two the same one; one naming an absent monitor is otherwise ignored. -/
def badAlarm (part : Part) (d : Bytes) (n : Nat) : Option Nat :=
  firstBad n fun k =>
    let m := leAt d (4 * k) 2
    let c := leAt d (4 * k + 2) 1
    newAt (fun j => leAt d (4 * j) 2) k && issuedMonitor m
      && (absentMonitor part m || (decide (c ≤ 3) && decide (leAt d (4 * k + 3) 1 ≤ 1)))
      && (!(decide (m < 0x1C0) || (decide (0x200 ≤ m) && decide (m < 0x208))) || decide (2 ≤ c))

/-- R68. -/
def bilkinOk (d : Bytes) : Bool :=
  let r := bilkinRec d
  decide (leAt d 4 4 < 4) && (decide (r.replica = 0xFF) || (decide (r.replica ≤ 63) && r.groups.getLsbD r.replica))
    && zeroAt d 25 7 && zeroAt d 64 64

/-- R69. -/
def entropyOk (d : Bytes) : Bool :=
  let r := entropyRec d
  decide (leAt d 0 1 ≤ 1) && decide (10 ≤ r.reseedLog2) && decide (r.reseedLog2 ≤ 16) && decide (r.reseedLog2 ≤ r.stretchLog2)
    && decide (r.stretchLog2 ≤ 24) && zeroAt d 3 1 && decide (10 ≤ r.timeoutUs) && decide (r.timeoutUs ≤ 100000)
    && decide (r.katS ≤ 86400) && zeroAt d 12 4

/-- R70. -/
def badRecorder (d : Bytes) (n : Nat) : Option Nat :=
  if ¬ (leAt d 0 1 ≤ 6 ∧ leAt d 1 1 = 0 ∧ leAt d 4 12 = 0) then some 0
  else firstBad n fun k => decide (leAt d (17 + 4 * k) 1 ≤ 6) && zeroAt d (18 + 4 * k) 2

/-- R71, R174, R178: the parent of record `k` (node `k + 2`) precedes it. -/
def badNode (tenants : List TenantRec) (d : Bytes) (n : Nat) : Option Nat :=
  if 65534 < n then some 65534
  else firstBad n fun k =>
    let x := nodeAt d (32 * k)
    let before := (List.range k).map fun j => nodeAt d (32 * j)
    let parent := if 2 ≤ x.parent ∧ x.parent < k + 2 then some (nodeAt d (32 * (x.parent - 2))) else none
    x.ok (tenants.any fun t => t.tenant == x.tenant) parent before && zeroAt d (32 * k + 22) 2
      && (match tenants.find? fun t => t.tenant == x.tenant with
          | some t => decide ((before.filter fun y => y.tenant == x.tenant).length < t.nodes)
          | none => false)

/-- Check 9: the section and record at fault. DESIGN CHOICE (log 143): a fault of no one record, such as a preamble, a missing
tenant 0 or a missing assignment, has index 0, and an unassigned sensor index 18. -/
def check9 (part : Part) (copy body : Bytes) : Option (Nat × Nat) :=
  let l := sectionsOf copy body
  let img := decodeImage copy body
  let run (code : Nat) (f : Bytes → Nat → Option Nat) : Option (Nat × Nat) :=
    match sectionData l body code with
    | none => none
    | some x => (f x.1 x.2).map fun k => (code, k)
  [run 0x01 fun d _ => badIsland part d, run 0x02 badTenant, run 0x03 (badPool part img.tenants),
   run 0x04 (badQueue img.tenants), run 0x05 badColour, run 0x06 badRecipe, run 0x07 (badAlarm part),
   run 0x08 (fun d _ => if bilkinOk d then none else some 0), run 0x09 (fun d _ => if entropyOk d then none else some 0),
   run 0x0A badRecorder, run 0x0B (badNode img.tenants)].findSome? id

/-! ## Validity (R72) -/

/-- What R72 finds: the reason (0: valid), and for reason 9 the section and record. -/
structure Verdict where
  reason : Nat
  sec : Nat
  index : Nat
  deriving DecidableEq, Repr

def Verdict.of (r : Nat) : Verdict := { reason := r, sec := 0, index := 0 }

/-- The checks of R72, stopping at the first failure. -/
def validity (s : State) (slot : SMap Byte) : Verdict :=
  let h := slotBytes slot 256
  let copy := slotBytes slot (imgLength h)
  let body := slice copy 256 (imgBodyLen h)
  if check1 h = false then .of 1
  else if check2 h = false then .of 2
  else if (imgVariant h).testBit s.part.code = false then .of 3
  else if imgSeq h = 0 ∨ imgSeq h < s.bkd.seqFloor then .of 4
  else if (crc32c body).toNat ≠ leAt h 0x1C 4 then .of 5
  else if beBytes 48 (Crypto.sha384 body).toNat ≠ slice h 0x28 48 then .of 6
  else if quorumMet s copy = false then .of 7
  else if check8 copy body = false then .of 8
  else match check9 s.part copy body with
    | some x => { reason := 9, sec := x.1, index := x.2 }
    | none => .of 0

/-- The structure a slot's copy lays down. -/
def slotImage (slot : SMap Byte) : Image :=
  let h := slotBytes slot 256
  let copy := slotBytes slot (imgLength h)
  decodeImage copy (slice copy 256 (imgBodyLen h))

end Sys2Proof.Machine
end

