-- ==== Sys2Proof/Machine/Tenants.lean ====
section
/-! DEFINITION. The host's ports and doorbell pages, and the life of tenants (R86–R96, R103, R104, R109–R121). -/

namespace Sys2Proof.Machine

/-! ## Ports -/

/-- The downstream adapter stays enabled only while port B faces downstream, its link is up and this device's own depth is at
most CHAIN_MAX; no tunnel path passes through a disabled adapter (R121). -/
def State.checkAdapter (s : State) : State :=
  let h := s.host
  let keep := h.dsen && h.portB.downstream && h.portB.link && decide (h.portA.depth ≤ h.chainMax)
  { s with host := { h with dsen := keep, portB := { h.portB with tunnel := h.portB.tunnel && (keep || !h.portB.downstream) } } }

/-- USB4_LINK_UP (R26, R118, R121): a port trains in any mode but BACKUP. A downstream-facing port reads DEPTH 0, and its tunnel
is up only where a path passes through its enabled adapter: the event then comes once the path stands, with its link up already
(assumption log 153). -/
def execUsb4LinkUp (portB : Bool) (gen : Nat) (x2 : Bool) (depth : Nat) (s : State) : Host.Outcome State Fault Refusal :=
  let p := s.port portB
  if s.onMain ∧ (p.link = false ∨ p.tunnel = false) then
    .next (s.setPort portB { p with link := true, gen := gen, x2 := x2, tunnel := !p.downstream || s.host.dsen,
                                    depth := if p.downstream then 0 else depth }).checkAdapter
  else .next s

/-- Queue pairs that read ENABLED 1 and are bound to a port, as tenant and number. -/
def State.boundTo (s : State) (portB : Bool) : List (Nat × Nat) :=
  (s.host.qps.filter fun x => x.2.enabled && x.2.portB == portB).map fun x => (x.1 / 16, x.1 % 16)

/-- USB4_LINK_LOSS (R118). -/
def execUsb4LinkLoss (portB : Bool) (s : State) : Host.Outcome State Fault Refusal :=
  let p := s.port portB
  if s.onMain ∧ p.link then
    let t := s.setPort portB { p with link := false, gen := 0, x2 := false, tunnel := false, depth := 0,
                                      linkdowns := satAdd 8 p.linkdowns 1 }
    .next ((t.boundTo portB).foldl (fun t x => t.faultQp x.1 x.2 4) t).checkAdapter
  else .next s

/-- PCIE_FUNCTION_RESET (R89). DESIGN CHOICE: the pending bits stay; R89 names the MSI-X table only (assumption log 152). -/
def execPcieFunctionReset (portB : Bool) (s : State) : Host.Outcome State Fault Refusal :=
  if s.onMain = false then .next s
  else
    let t := (s.boundTo portB).foldl (fun t x => t.disableQp x.1 x.2) s
    .next (t.setPort portB { t.port portB with msix := [], bar0 := 0, bar2 := 0, command := 0 })

/-- DOWNSTREAM_ROUTER_ATTACH (R121): the adapter opens to a Colrid part while this device's depth is at most CHAIN_MAX. -/
def execDownstreamRouterAttach (colrid : Bool) (s : State) : Host.Outcome State Fault Refusal :=
  if s.host.portB.downstream then
    .next ({ s with host := { s.host with dsen := colrid && decide (s.host.portA.depth ≤ s.host.chainMax) } }.checkAdapter)
  else .next s

/-! ## Doorbells (R91–R96, R117, R118) -/

/-- The registers of a queue pair exist (R96, R116). -/
def State.doorbell (s : State) (t q : Nat) : Bool :=
  s.onMain && (decide ((s.tenant t).state = .active) || decide ((s.tenant t).state = .resetting))
    && decide (q < (s.tenant t).qpairs)

/-- The fields of DB_QCTL besides EN. -/
def QPair.withCtl (x : QPair) (v : W32) : QPair :=
  { x with ien := v.getLsbD 1, icount := (v.extractLsb' 8 8).toNat, itime := (v.extractLsb' 16 8).toNat }

/-- The queue pair may be bound to the port (R94, R121). -/
def State.mayBind (s : State) (t q : Nat) (portB : Bool) : Bool :=
  let p := (s.queueRec t q).port
  if portB then decide (p ≠ 0) && !s.host.portB.downstream else decide (p ≠ 1)

/-- DB_QCTL_ENABLE (R94, R95). -/
def execDbQctlEnable (portB : Bool) (t q : Nat) (v : W32) (s : State) : Host.Outcome State Fault Refusal :=
  if s.doorbell t q = false ∨ v.getLsbD 0 = false ∨ (s.port portB).downstream ∨ s.sys.mode = .boot ∨ s.sys.mode = .load
  then .next s
  else
    let x := (s.qp t q).withCtl v
    if x.enabled ∨ s.mayBind t q portB = false then .next (s.setQp t q x)
    else
      .next (s.setQp t q { x with en := true, enabled := true, sqTail := 0, sqHead := 0, cqHead := 0, cqTail := 0,
                                  phase := true, fault := 0, portB := portB, ring := [], reserved := 0,
                                  unsignalled := 0, itimeRun := false })

/-- DB_QCTL_DISABLE (R94). -/
def execDbQctlDisable (portB : Bool) (t q : Nat) (v : W32) (s : State) : Host.Outcome State Fault Refusal :=
  if s.doorbell t q = false ∨ v.getLsbD 0 ∨ (s.port portB).downstream then .next s
  else .next ((s.setQp t q ((s.qp t q).withCtl v)).disableQp t q)

/-- DB_SQTAIL_WRITE (R91, R118). -/
def execDbSqtailWrite (t q : Nat) (v : W32) (s : State) : Host.Outcome State Fault Refusal :=
  let n := (v.extractLsb' 0 13).toNat
  if s.doorbell t q = false then .next s
  else if 2 * s.depth t q ≤ n then .next (s.faultQp t q 1)
  else .next (s.setQp t q { s.qp t q with sqTail := n })

/-- DB_CQHEAD_WRITE (R92, R118): a head that would release records not written is not taken. -/
def execDbCqheadWrite (t q : Nat) (v : W32) (s : State) : Host.Outcome State Fault Refusal :=
  let n := (v.extractLsb' 0 13).toNat
  let size := 2 * s.depth t q
  let x := s.qp t q
  if s.doorbell t q = false then .next s
  else if size ≤ n ∨ (x.cqTail + size - x.cqHead) % size < (n + size - x.cqHead) % size then .next (s.faultQp t q 5)
  else .next (s.setQp t q { x with cqHead := n })

/-- COMPLETION_ITIME_EXPIRY (R94). -/
def execCompletionItimeExpiry (t q : Nat) (s : State) : Host.Outcome State Fault Refusal :=
  let x := s.qp t q
  if x.itimeRun ∧ x.ien ∧ 0 < x.unsignalled then
    .next ((s.setQp t q { x with unsignalled := 0, itimeRun := false }).signal x.portB t (s.queueRec t q).vector)
  else .next s

/-! ## Consuming entries (R92, R95, R103, R104) -/

/-- A descriptor read fails, or the mode turns an entry away, or it waits. -/
def State.takeEntry (s : State) (t q : Nat) (entry : Option Req) : State :=
  let x := s.qp t q
  match entry with
  | none => (s.countDmaErr (.host t q 0)).faultQp t q 2
  | some e =>
    let r : Req := { e with src := .host t q ((x.sqHead + x.ring.length) % (2 * s.depth t q)) }
    let answered := (s.setQp t q { x with ring := x.ring ++ [.waiting r s.supv.cycle] }).consume r
    if s.sys.mode = .locked ∧ servedLocked r = false then answered.refuse r 0x0701 0 0
    else if s.sys.mode = .drain then answered.refuse r 0x0501 0 0
    else if (s.tenant t).state ≠ .active then s
    else if s.depth t q ≤ x.waiting then answered.refuse r 0x0101 (s.hint r) 0x20
    else s.setQp t q { x with ring := x.ring ++ [.waiting r s.supv.cycle] }

/-- SQ_ENTRY_CONSUME (R92, R95, R103, R104, R118): the entry after those already examined, once a completion slot is
free; `none` is a failed read. -/
def execSqEntryConsume (t q : Nat) (entry : Option Req) (s : State) : Host.Outcome State Fault Refusal :=
  let x := s.qp t q
  let size := 2 * s.depth t q
  if x.en = false ∨ x.fault ≠ 0 ∨ s.supv.noSup ∨ x.slotFree size = false
      ∨ (s.serving = false ∧ s.sys.mode ≠ .locked ∧ s.sys.mode ≠ .drain)
      ∨ (x.sqHead + x.ring.length) % size = x.sqTail ∨ size ≤ x.ring.length + 1 then .next s
  else .next (s.takeEntry t q entry)

/-- OVERLOAD_RECORD (R111): each second of an overload, a summary of its BUSY_RETRY completions, or its end. -/
def execOverloadRecord (t : Nat) (s : State) : Host.Outcome State Fault Refusal :=
  let x := s.tenant t
  if x.overloaded = false then .next s
  else if x.retriesInSecond = 0 then .next ((s.setTenant t { x with overloaded := false }).offer 0x0305 t 0 0)
  else .next ((s.setTenant t { x with retriesInSecond := 0 }).offer 0x0304 t x.retriesInSecond 0)

/-! ## Tenants (R112–R117) -/

/-- The lowest-numbered free context units (R189). -/
def State.freeUnits (s : State) (n : Nat) : List Nat :=
  ((List.range 256).filter fun u => !(s.host.tenants.any fun x => x.2.units.contains u)).take n

/-- Contexts of the given units, zeroed and FREE, with fresh check bits (R371). -/
def State.wipeUnits (s : State) (us : List Nat) : State :=
  let m := us.foldl (fun m u => m.zeroRange (0x40000000 + 0x40000 * u) 0x40000) s.mem
  { s with dmk := { s.dmk with ctx := SMap.keep (fun c _ => !us.contains (c / 4096)) s.dmk.ctx }, mem := m.markUnits us }

/-- The tenant root joins KEYC where it can be derived (R114, R186). -/
def State.cacheRoot (s : State) (t : Nat) : State :=
  if s.hasRoot t ∧ s.dmk.locked = false then { s with dmk := (s.parentKey t 1).2.2 } else s

/-- A tenant's creation begins (R114): CREATING, its record's resources assigned. -/
def State.openTenant (s : State) (x : TenantRec) : State :=
  s.setTenant x.tenant { Tenant.absent with
    state := .creating, colour := x.colour, units := s.freeUnits x.ctxUnits, slots := x.slots, nodes := x.nodes,
    qpairs := x.qpairs, weight := x.weight }

/-- A tenant's creation ends (R114): contexts zeroed and coloured, root derived, page decoded; ACTIVE. -/
def State.fillTenant (s : State) (t : Nat) : State :=
  let x := s.tenant t
  (((s.setTenant t { x with state := .active }).wipeUnits x.units).recolourUnits x.units).cacheRoot t

/-- Create a tenant from its record (R114). -/
def State.createTenant (s : State) (x : TenantRec) : State := (s.openTenant x).fillTenant x.tenant

/-- The record of a tenant in section 0x02. -/
def State.tenantRec (s : State) (t : Nat) : Option TenantRec := s.img.force.tenants.find? fun x => x.tenant == t

/-- A context that is bound to a key-state entry with a non-zero NONCECTR (R202). -/
def Ctx.spentNonce (x : Ctx) : Bool :=
  match x.body with
  | .kstate _ k => decide (k.nonceCtr ≠ 0)
  | _ => false

/-- Release the KSTATE contexts of units; a spent nonce counter advances the nonce epoch (R202). -/
def State.releaseKstates (s : State) (us : List Nat) : State :=
  let mine := s.dmk.ctx.filter fun x => us.contains (x.1 / 4096)
  let t := if mine.any (fun x => x.2.spentNonce) then s.nextNonceEpoch else s
  let bound := SMap.keep (fun _ c => match c with
    | some k => !us.contains (k / 4096)
    | none => true) t.dmk.bound
  { t with dmk := { t.dmk with bound := bound } }

/-- Destroy a tenant (R116, R201, R209), ERASE_KEYS or not. Its run-time nodes go with it. -/
def State.destroyTenant (s : State) (t : Nat) (erase : Bool) : State :=
  let us := (s.tenant t).units
  let s1 := (s.setTenant t { s.tenant t with state := .destroying }).abortWhere (fun r => r.tenant == t) 9
  let s2 := { s1 with host := { s1.host with qps := SMap.keep (fun k _ => k / 16 != t) s1.host.qps } }
  let s3 := ((s2.releaseKstates us).wipeUnits us).dropCached fun g => g.tenant == t
  let nodes := SMap.keep (fun _ n => match n with
    | some x => !(x.tenant == t && x.runtime)
    | none => true) s3.dmk.nodes
  let s4 := { s3 with dmk := { s3.dmk with nodes := nodes } }
  let ks := SMap.mapV KsEntry.free (fun _ e =>
    if hTenant e.handle = t ∧ e.handle ≠ ksReleased then { handle := ksReleased, ceil := 0, bceil := 0 } else e) s4.dmk.ks
  let epochs := SMap.upd 0 s4.bkd.epochs t (· + 1)
  let cloned := SMap.set none s4.bkd.cloned t none
  let s5 := if erase then
      { s4 with bkd := { s4.bkd with epochs := epochs, cloned := cloned }, dmk := { s4.dmk with ks := ks } }
    else s4
  let s6 := (s5.recolourUnits us).setTenant t Tenant.absent
  s6.offer 0x0301 t (SMap.get 0 s6.bkd.epochs t) 0

/-- Signal a tenant's vector on every port with a tunnel and a function. -/
def State.signalAll (s : State) (t v : Nat) : State :=
  [false, true].foldl (fun s b =>
    if (s.port b).tunnel ∧ (s.port b).downstream = false then s.signal b t v else s) s

/-- Reset a tenant (R117): its work aborts with cause 1, its queue pairs are disabled, TEN_RESETS counts. DESIGN CHOICE: its
mailbox submissions that wait stay; R117 discards entries of queue pairs only (assumption log 151). -/
def State.resetTenant (s : State) (t : Nat) : State :=
  let s1 := (s.setTenant t { s.tenant t with state := .resetting }).abortWhere (fun r => r.tenant == t) 1
  let s2 := (List.range 16).foldl (fun s q => s.disableQp t q) s1
  let x := s2.tenant t
  let s3 := (s2.setTenant t { x with state := .active, faultQp := 0, resets := satAdd 32 x.resets 1 }).dropCached
    fun g => g.tenant == t
  (s3.signalAll t 0).offerBurst 0x0302 0 t (s3.tenant t).resets

/-- A tenant's creation, destruction or reset begins: its state changes at once, the rest follows by the next supervisor cycle
(R114, R116, R117; assumption log 150). -/
def State.beginLife (s : State) (t : Nat) (x : TState) (k : LifeStep) (askers : List Req) : State :=
  let u := s.setTenant t { s.tenant t with state := x }
  { u with host := { u.host with life := u.host.life ++ [{ tenant := t, step := k, askers := askers }] } }

/-- A reset asked for while the tenant is RESETTING joins the one in progress (R117). -/
def State.joinReset (s : State) (t : Nat) (r : Req) : State :=
  { s with host := { s.host with life := s.host.life.map fun w =>
      if w.tenant = t ∧ w.step = .reset then { w with askers := w.askers ++ [r] } else w } }

/-- The rest of a creation, destruction or reset. -/
def State.liveOn (s : State) (w : LifeWork) : State :=
  match w.step with
  | .create => s.fillTenant w.tenant
  | .destroy e => s.destroyTenant w.tenant e
  | .reset => s.resetTenant w.tenant

/-- The result word the commands of a creation, destruction or reset complete with (R113). -/
def State.lifeInfo (s : State) (w : LifeWork) : Nat :=
  match w.step with
  | .reset => (s.tenant w.tenant).resets
  | _ => SMap.get 0 s.bkd.epochs w.tenant

/-- A creation, destruction or reset ends; the commands that asked for it and have not been aborted complete OK (R113–R117). -/
def State.endLife (s : State) (w : LifeWork) : State :=
  let u := s.liveOn w
  (w.askers.filter s.isAdmitted).foldl (fun v r => if v.isAdmitted r then v.answer r (u.lifeInfo w) [] else v) u

/-- Every creation, destruction and reset in progress ends. -/
def State.endLives (s : State) : State :=
  s.host.life.foldl (fun u w => u.endLife w) { s with host := { s.host with life := [] } }

/-- DB_TRESET_WRITE (R117): a request while the tenant is RESETTING merges into the reset in progress. -/
def execDbTresetWrite (t : Nat) (v : W32) (s : State) : Host.Outcome State Fault Refusal :=
  if s.onMain ∧ (s.tenant t).state = .active ∧ v = 0xA5A5#32 then .next (s.beginLife t .resetting .reset []) else .next s

/-- A TEN record (R113, TEN registers). -/
def State.tenWords (s : State) (t : Nat) : List Nat :=
  let x := s.tenant t
  let code := match x.state with
    | .absent => 0
    | .active => 1
    | .resetting => 2
    | .destroying => 3
    | .creating => 4
  [code + 256 * (x.colour % 256) + 65536 * x.faultQp.toNat, s.waitingOf t, (BitVec.ofInt 32 x.bal).toNat, x.retry,
    x.admitted, SMap.get 0 s.bkd.epochs t, x.resets, x.hint]

/-- Tenants that are not ABSENT. -/
def State.tenantsPresent (s : State) : List Nat :=
  (s.host.tenants.filter fun x => decide (x.2.state ≠ .absent)).map (·.1)

/-- Refuse with BUSY_RETRY, reason 0x2C: the hint is the time left of the reset or destruction, which the model does not measure
(free, within the bounds of R114, R116 and R117; assumption log 12). -/
def State.refuseBusy (s : State) (r : Req) : State :=
  let u := (s.tenant (r.desc.par 0 1)).units.length
  { s with fresh := s.fresh + 1 }.refuse r 0x0101 (Config.freshNat s.fresh % (min 65535 (200 + 10 * u) + 1)) 0x2C

/-- The tenant is being created or destroyed, or, for a creation or destruction, reset (R113). -/
def TState.busy (x : TState) (resets : Bool) : Bool :=
  decide (x = .creating) || decide (x = .destroying) || (!resets && decide (x = .resetting))

/-- TENANT_CREATE (R113–R115). -/
def execTenantCreate (r : Req) (s : State) : Host.Outcome State Fault Refusal :=
  .next (s.hostCommand r 0x0501 fun s =>
    let t := r.desc.par 0 1
    if t = 0 then s.refuseRange r 0x2B
    else if (s.tenant t).state.busy false then s.refuseBusy r
    else
      match s.tenantRec t with
      | none => s.refuseRange r 0x29
      | some x =>
        if (s.tenant t).state ≠ .absent then s.refuseRange r 0x2A
        else (s.openTenant x).beginLife t .creating .create [r])

/-- TENANT_DESTROY (R113, R115, R116). -/
def execTenantDestroy (r : Req) (s : State) : Host.Outcome State Fault Refusal :=
  .next (s.hostCommand r 0x0502 fun s =>
    let t := r.desc.par 0 1
    let erase := decide (r.desc.par 1 1 % 2 = 1)
    if t = 0 then s.refuseRange r 0x2B
    else if (s.tenant t).state.busy false then s.refuseBusy r
    else if (s.tenant t).state = .absent then s.refuseRange r 0x2A
    else if erase ∧ SMap.get 0 s.bkd.epochs t = 2 ^ 32 - 1 then s.refuseRange r 0x2E
    else s.beginLife t .destroying (.destroy erase) [r])

/-- TENANT_RESET (R113, R117). -/
def execTenantReset (r : Req) (s : State) : Host.Outcome State Fault Refusal :=
  .next (s.hostCommand r 0x0503 fun s =>
    let t := r.desc.par 0 1
    if t = 0 then s.refuseRange r 0x2B
    else if (s.tenant t).state.busy true then s.refuseBusy r
    else if (s.tenant t).state = .absent then s.refuseRange r 0x2A
    else if (s.tenant t).state = .resetting then s.joinReset t r
    else s.beginLife t .resetting .reset [r])

/-- TENANT_QUERY (R113). -/
def execTenantQuery (r : Req) (s : State) : Host.Outcome State Fault Refusal :=
  .next (s.hostCommand r 0x0504 fun s => s.answer r 0 ((s.tenWords (r.desc.par 0 1)).flatMap (leBytes 4)))

/-- TENANT_LIST (R113). -/
def execTenantList (r : Req) (s : State) : Host.Outcome State Fault Refusal :=
  .next (s.hostCommand r 0x0505 fun s =>
    let l := s.tenantsPresent
    s.answer r l.length (leBytes 32 (l.foldl (fun n t => n + 2 ^ t) 0)))

end Sys2Proof.Machine
end

