-- ==== Sys2Proof/Machine/Load.lean ====
section
/-! DEFINITION. LOAD: selecting and applying the structure image, the root and the persistent region, and the end of LOAD
(R40–R44, R47, R61–R77, R427). -/

namespace Sys2Proof.Machine

/-! ## Selection (R75) -/

/-- Record an invalid copy (R72, code 0x0006). -/
def State.noteInvalid (s : State) (slot : Nat) (v : Verdict) : State :=
  if v.reason = 0 then s else s.offer 0x0006 slot v.reason (v.sec * 2 ^ 24 + v.index)

/-- The directory entries that the quorum check examines: those up to the one that completes the quorum (R73). -/
def State.examined (s : State) (slot : SMap Byte) : List SigEntry :=
  let h := slotBytes slot 256
  examineEntries (sigCounts s (slotBytes slot (imgLength h))) (max 2 s.bkd.quorum) [] (sigEntries h)

/-- The stored keys of custodian `i` do not match the registry (R431). -/
def State.keySpoiled (s : State) (i : Nat) : Bool :=
  let c := SMap.get Custodian.none s.bkd.custodians i
  match SMap.get (none : Option (Bytes × Bytes)) s.lcs.store i with
  | none => false
  | some k => c.active && (decide (beBytes 48 (Crypto.sha384 k.1).toNat ≠ c.keyHash)
    || (c.mldsa && decide (beBytes 48 (Crypto.sha384 k.2).toNat ≠ c.mlHash)))

/-- Once the signatures of a copy have been checked, record each spoiled key that an examined one names (R73, R431, code
0x0E01). -/
def State.noteStoredKeys (s : State) (slot : SMap Byte) (v : Verdict) : State :=
  if v.reason = 0 ∨ 7 ≤ v.reason then
    (((s.examined slot).map (·.cust)).eraseDups.filter s.keySpoiled).foldl (fun t i => t.offer 0x0E01 i 0 0) s
  else s

/-- The copy LOAD chooses: `some false` slot A, `some true` slot B, `none` the default image; with the records of
invalid copies, spoiled keys and equal sequence numbers (R75, R431). -/
def State.chooseCopy (s : State) : State × Option Bool :=
  if s.lifeCycle = 0 then (s, none)
  else
    let a := validity s s.img.slotA
    let b := validity s s.img.slotB
    let t := (((s.noteStoredKeys s.img.slotA a).noteInvalid 0 a).noteStoredKeys s.img.slotB b).noteInvalid 1 b
    let sa := imgSeq (slotBytes s.img.slotA 256)
    let sb := imgSeq (slotBytes s.img.slotB 256)
    if a.reason = 0 ∧ b.reason = 0 then
      if sa = sb then (t.offer 0x0007 (sa % 2 ^ 32) (sa / 2 ^ 32) 0, some false)
      else (t, some (decide (sa < sb)))
    else if a.reason = 0 then (t, some false)
    else if b.reason = 0 then (t, some true)
    else (t, none)

/-! ## Application (R77) -/

/-- Step 1: every tenant, queue pair, instance and context goes, and KEYC is dropped (R77, R188). -/
def State.discardStructure (s : State) : State :=
  { s with
    host := s.host.discarded
    twl := { s.twl with insts := [], catLoaded := false }
    dmk := { s.dmk with ctx := [], keyc := [], plru := [], nodes := [], bound := [], imported := [], created := 0 }
    ent := { s.ent with stalled := s.ent.stalled.filter fun c => match c with
      | .command _ => false
      | .instStart _ => false
      | _ => true }
    mem := (s.mem.initClass 3).initClass 4 }

/-- An island's record. -/
def Image.island (i : Image) (n : Nat) : IslandRec := i.islands[n]?.getD { owner := 1, init := 0, sensors := 0 }

/-- A mask over the islands that satisfy `p`. -/
def islandMask (p : Nat → Bool) : BitVec 19 := (List.range 19).foldl (fun m n => if p n then m ||| islandBit n else m) 0

/-- The island a junction sensor acts for; 19 stands for a non-gateable one (R61). -/
def State.sensorIsland (s : State) (i : Image) (k : Nat) : Nat :=
  match (List.range 19).find? fun n => (i.island n).sensors.getLsbD k with
  | some n => if s.islandPresent n then n else 19
  | none => 19

/-- Step 2: owners, initial states, leases and sensors (R61, R77); a tripped island stays off. -/
def State.applyIslands (s : State) (i : Image) : State :=
  let here := s.part.islands &&& ~~~s.pwr.tripped
  { s with pwr := { s.pwr with
      ownerImg := islandMask fun n => (i.island n).owner == 1 || !s.islandPresent n
      lease := 0
      gating := []
      clkOn := here &&& islandMask fun n => (i.island n).init == 0
      pwrOn := here &&& islandMask fun n => decide ((i.island n).init ≠ 2)
      initRun := islandMask fun n => (i.island n).init == 0
      sensorIsl := (List.range 32).map fun k => (k, s.sensorIsland i k) } }

/-- Numbered entries of a list as a sparse map. -/
def numbered {α : Type} (base : Nat) (l : List α) : SMap α := ((List.range l.length).map (base + ·)).zip l

/-- Steps 4 and 5: gates, catalogue and node table; EXPIRE nodes take the reset epoch of this LOAD (R77, R174, R179). -/
def State.applyTables (s : State) (i : Image) : State :=
  { s with
    gate := { s.gate with upset := s.gate.upset.filter (· == GateEntry.epoch), pages := [], grants := (numbered 0 i.grants).filter fun x => decide (x.2 ≠ Grant.none) }
    twl := { s.twl with catLoaded := true }
    dmk := { s.dmk with nodes := numbered 2 (i.nodes.map fun n =>
      some (if n.expires then { n with epochPwr := s.bkd.pwrcyc, epochRst := 0 } else n)) } }

/-- The class an image gives a monitor. -/
def Image.classOf (i : Image) (rom : Bool) (mon : Nat) : Nat :=
  if rom then romClass mon
  else match i.alarms.find? (fun x => x.1 == mon) with
    | some x => x.2.cls
    | none => defaultClass mon

/-- Step 6: Lace's table, and the classes of the backup-domain monitors in BBRAM (R77). -/
def State.applyAlarms (s : State) (i : Image) (rom : Bool) : State :=
  { s with
    lace := { s.lace with table := i.alarms, romTable := rom }
    bkd := { s.bkd with
      classIntr := BitVec.ofNat 16 ((List.range 8).foldl (fun m k => m + i.classOf rom (0x200 + k) * 4 ^ k) 0)
      classTemp := i.classOf rom 0x210
      classVbat := i.classOf rom 0x211 } }

/-- The entropy and recorder policies, and the chain and port settings (R69, R70, R121, R301, R309). DESIGN CHOICE: where two
override records name the same source, the last one holds (R70 does not say which; assumption log 148). -/
def State.applyPolicies (s : State) (i : Image) : State :=
  let e := i.entropy
  let e1 := { s.ent with reseedLog2 := e.reseedLog2, stretchLog2 := e.stretchLog2, timeoutUs := e.timeoutUs, katS := e.katS,
                         curLog2 := e.reseedLog2, legacyDue := e.legacy }
  let t := { s with ent := if e.legacy ∧ s.ent.ready then e1.beginLegacy else e1 }.fenceStarved
  { t with
    rcd := { t.rcd with minsev := i.recorder.minsev,
                        minsevOf := i.recorder.overrides.foldl (fun m x => SMap.set 255 m x.1 x.2) [] }
    host := { t.host with chainMax := i.chainMax } }

/-- The persistent region at LOAD: formatted where its marker is not valid, else the nonce epoch advances; where ROOT_DUE
is set, both wait for the root (R43, R202, R427). -/
def State.applyRegion (s : State) : State :=
  if s.bkd.rootDue then s else if s.dmk.marker then s.nextNonceEpoch else s.formatRegion

/-- Apply an image all at once (R77). -/
def State.applyImage (s : State) (i : Image) (rom slotB : Bool) : State :=
  let s1 := ((s.discardStructure.applyIslands i).applyTables i).applyAlarms i rom
  let s2 := (({ s1 with img := { s1.img with force := i } }.applyPolicies i)).applyRegion
  let s3 := (i.tenants.filter fun x => x.isStatic || x.tenant == 0).foldl (fun s t => s.createTenant t) s2
  { s3 with
    sys := { s3.sys with imgApplied := true, defaultImage := rom, imgSlotB := slotB && !rom, imgSeq := if rom then 0 else i.seq }
    bkd := { s3.bkd with seqFloor := if rom then s3.bkd.seqFloor else max s3.bkd.seqFloor i.seq } }

/-- LOAD runs. -/
def State.loading (s : State) : Bool := decide (s.sys.mode = .load) && !s.boot.held

/-- STRUCTURE_IMAGE_APPLIED (R40, R75–R77). -/
def execStructureImageApplied (s : State) : Host.Outcome State Fault Refusal :=
  if s.loading = false ∨ s.sys.imgApplied then .next s
  else
    match s.chooseCopy with
    | (t, none) => .next (t.applyImage { Image.rom with seq := 0 } true false)
    | (t, some b) => .next (t.applyImage (slotImage (if b then s.img.slotB else s.img.slotA)) false b)

/-! ## Roots (R208, R427) -/

/-- Generate L0 from 256 fresh bits, write its check, zero the format marker, and release ERASED (R208, R410). -/
def State.generateRoot (s : State) (b : Bytes) : State :=
  { s with bkd := { s.bkd with l0 := some b, l0CheckOk := true, erased := false }, dmk := { s.dmk with marker := false } }

/-- LOAD_ROOT_GENERATE (R208, R427): an all-zero value is drawn again. -/
def execLoadRootGenerate (s : State) : Host.Outcome State Fault Refusal :=
  if s.loading ∧ s.bkd.rootDue ∧ s.sys.imgApplied then
    match s.takeWords 2 with
    | none => .next s
    | some (l, t) =>
      let b := wordBytes l
      if b = zeros 32 then .next t
      else
        let u := (t.generateRoot b).formatRegion
        .next { u with bkd := { u.bkd with rootDue := false } }
  else .next s

/-! ## The end of LOAD (R44, R47, R121) -/

/-- A lock is pending, kept, or was raised during bring-up, or the tamper log is full (R44, R412, R418). -/
def State.lockDue (s : State) : Bool :=
  s.bkd.pendLock || s.bkd.lockKept || s.sys.deferredLock || decide (2048 ≤ s.bkd.log.length)

/-- Port B takes the role that the image in force gives it (R40, R64, R121): a role that changes withdraws what the port was, its
link with it. -/
def State.placePortB (s : State) : State :=
  if s.img.force.portBDown = s.host.portB.downstream then s.checkAdapter
  else
    let t := (s.boundTo true).foldl (fun t x => t.disableQp x.1 x.2) s
    let b := t.host.portB
    let u := t.setPort true { Port.reset with
      downstream := s.img.force.portBDown, linkdowns := b.linkdowns, dmaErr := b.dmaErr }
    { u with host := { u.host with dsen := false } }

/-- The start-up tests that a unit passes before SERVICE: those of the ROM and the entropy unit's (R27, R41, R47, R306;
log 142). -/
def State.startTestsPassed (s : State) : Bool := !s.sys.romFailed && s.ent.ready

/-- LOAD_END (R44, R47, R427, R428): to LOCKED where a lock is due and the life has not ended. -/
def execLoadEnd (s : State) : Host.Outcome State Fault Refusal :=
  if s.loading ∧ s.sys.imgApplied ∧ s.startTestsPassed ∧ s.bkd.rootDue = false then
    let t := s.placePortB
    if t.lockDue ∧ t.lifeCycle ≠ 3 then
      let u := (t.lockDamask).setMode .locked (if 2048 ≤ t.bkd.log.length then 12 else 7)
      .next { u with bkd := { u.bkd with lockKept := true }, sys := { u.sys with deferredLock := false, lockKeptEnd := true } }
    else .next (t.setMode t.openMode 3)
  else .next s

end Sys2Proof.Machine
end

