-- ==== Sys2Proof/Machine/ImageCmds.lean ====
section
/-! DEFINITION. The structure image commands and the replication of a committed copy (R78–R85, R481). -/

namespace Sys2Proof.Machine

/-- The slot not in force: `true` slot B (R80). -/
def State.targetSlotB (s : State) : Bool := !s.sys.defaultImage && !s.sys.imgSlotB

/-- A slot of MRAM. -/
def State.mramSlot (s : State) (b : Bool) : SMap Byte := if b then s.img.slotB else s.img.slotA

/-- Replace a slot of MRAM. -/
def State.setMramSlot (s : State) (b : Bool) (m : SMap Byte) : State :=
  if b then { s with img := { s.img with slotB := m } } else { s with img := { s.img with slotA := m } }

/-- Write bytes into a slot from an offset on. -/
def writeSlot (m : SMap Byte) (off : Nat) (b : Bytes) : SMap Byte :=
  ((List.range b.length).zip b).foldl (fun m p => SMap.set 0 m (off + p.1) p.2) m

/-- IMAGE_QUERY (R78). -/
def execImageQuery (r : Req) (s : State) : Host.Outcome State Fault Refusal :=
  .next (s.hostCommand r 0x0701 fun s =>
    let item (b : Bool) : List Nat :=
      let h := slotBytes (s.mramSlot b) 256
      let v := (validity s (s.mramSlot b)).reason
      [flag (decide (v = 0)), v, imgSeq h, imgVariant h]
    let force := if s.sys.defaultImage then 2 else flag s.sys.imgSlotB
    s.answer r 0 (Config.imageQueryLayout (item false ++ item true ++ [force, s.bkd.seqFloor, flag s.img.session.isSome])))

/-- The challenge is 72 hours of operating time old (R79). -/
def State.challengeLapsed (s : State) (c : Challenge) : Bool := decide (c.issued + 72 * 3600 * 1000 ≤ s.sys.optime)

/-- IMAGE_CHALLENGE (R78, R79): the one held before lapses. -/
def execImageChallenge (r : Req) (s : State) : Host.Outcome State Fault Refusal :=
  .next (s.hostCommand r 0x0702 fun s =>
    State.drawFor { s with img := { s.img with challenge := none } } (.command r) 2 fun b t =>
      ({ t with img := { t.img with challenge := some { bytes := b, issued := t.sys.optime } } }).answer r 0 b)

/-- IMAGE_CHALLENGE_LAPSE (R79): 72 hours of operating time after its issue. -/
def execImageChallengeLapse (s : State) : Host.Outcome State Fault Refusal :=
  match s.img.challenge with
  | none => .next s
  | some c =>
    if s.challengeLapsed c then .next { s with img := { s.img with challenge := none } } else .next s

/-- IMAGE_BEGIN (R80, R83). -/
def execImageBegin (r : Req) (seq len : Nat) (s : State) : Host.Outcome State Fault Refusal :=
  .next (s.hostCommand r 0x0703 fun s =>
    if s.img.session.isSome then s.refuse r 0x0101 (s.hint r) 0x15
    else if seq ≤ s.sys.imgSeq ∨ seq < s.bkd.seqFloor then s.refuseRange r 0x11
    else if 1572864 < len then s.refuseRange r 0x12
    else
      let b := s.targetSlotB
      let t := s.setMramSlot b (zeroHeader (s.mramSlot b))
      let x : Session := { seq := seq, length := len, slotB := b, header := [], replica := false }
      ({ t with img := { t.img with session := some x } }).answer r (flag b) [])

/-- Bytes for a session: offsets below 256 are held in SUP, the others go to the slot (R80). -/
def State.sessionData (s : State) (x : Session) (off : Nat) (b : Bytes) : State :=
  let head := b.take (256 - off)
  let t := { s with img := { s.img with session := some { x with header := writeSlot x.header off head } } }
  t.setMramSlot x.slotB (writeSlot (t.mramSlot x.slotB) (off + head.length) (b.drop (256 - off)))

/-- IMAGE_DATA (R78, R80). -/
def execImageData (r : Req) (off : Nat) (s : State) : Host.Outcome State Fault Refusal :=
  .next (s.hostCommand r 0x0704 fun s =>
    let n := r.desc.inLen
    match s.img.session with
    | none => s.refuseRange r 0x10
    | some x =>
      if off % 64 ≠ 0 ∨ n % 64 ≠ 0 ∨ n < 64 ∨ 65536 < n ∨ x.length < off + n then s.refuseRange r 0x23
      else (s.sessionData x off r.bytes).answer r 0 [])

/-! ## Commit and replication (R81, R85, R481) -/

/-- The body of a REPLICA message (R481): what the frame carries of the copy. -/
def replicaBody (copy : Bytes) (off : Nat) : Bytes :=
  leBytes 8 (leAt copy 8 8) ++ leBytes 4 copy.length ++ leBytes 4 off
    ++ leBytes 1 (flag (decide (copy.length ≤ off + 65536))) ++ slice copy off 65536

/-- Change the first entry of a list that satisfies `p`. -/
def onFirst {α : Type} (p : α → Bool) (f : α → List α) : List α → List α
  | [] => []
  | x :: t => if p x then f x ++ t else x :: onFirst p f t

/-- Change the first transfer that satisfies `p`. -/
def State.onReplica (s : State) (p : ReplicaWait → Bool) (f : ReplicaWait → List ReplicaWait) : State :=
  { s with img := { s.img with replicas := onFirst p f s.img.replicas } }

/-- The transfer under way to a member, and one that waits to be tried again. -/
def ReplicaWait.runsTo (addr : Nat) (x : ReplicaWait) : Bool := x.addr == addr && x.active
def ReplicaWait.waitsFor (addr : Nat) (x : ReplicaWait) : Bool := x.addr == addr && x.busy

/-- A transfer that may begin: none runs to its member. -/
def startable (l : List ReplicaWait) (x : ReplicaWait) : Bool := !x.active && !x.busy && !(l.any (ReplicaWait.runsTo x.addr))

/-- Begin transfers, at most four at once (R481). -/
def State.pumpReplicas : Nat → State → State
  | 0, s => s
  | fuel + 1, s =>
    match s.img.replicas.find? (startable s.img.replicas) with
    | none => s
    | some x =>
      if 4 ≤ (s.img.replicas.filter (·.active)).length then s
      else
        let t := s.onReplica (startable s.img.replicas) fun y => [{ y with active := true, off := 0 }]
        State.pumpReplicas fuel (t.sendTo x.addr 0x30 (replicaBody x.copy 0))

/-- A replica transfer has failed (R85, code 0x0008). -/
def State.replicaFailed (s : State) (p : ReplicaWait → Bool) (addr reason : Nat) : State :=
  (s.onReplica p fun _ => []).offer 0x0008 addr reason 0

/-- Start the replication of a committed copy (R85, R481), beside any that still runs: a member without an address or a route is
unreachable, and the reason its record carries is not stated (free); without an address the record names 0xFFFF (log 33). -/
def State.replicate (s : State) (copy : Bytes) : State :=
  let group := s.img.force.bilkin.replica
  if imgReplicate copy = false ∨ group = 0xFF then s
  else
    let members := (s.blk.lsdb.filter fun l => l.replica == group && l.ident != Config.deviceIdentity).map fun l =>
      l.addr.getD 0xFFFF
    let far := members.filter fun a => a == 0xFFFF || (s.linkTo a).isNone
    let near := members.filter fun a => !(far.contains a)
    let new := near.map fun a => { addr := a, copy := copy, off := 0, active := false, retries := 0, busy := false : ReplicaWait }
    let t := { s with img := { s.img with replicas := s.img.replicas ++ new } }
    far.foldl (fun t a => (t.skip 1).offer 0x0008 a (t.freeNat 8) 0) (t.pumpReplicas 4)

/-- Write the held header, check the slot and close the session (R81 steps 2 to 4): the state and what R72 found. -/
def State.commitSession (s : State) (x : Session) : State × Verdict × Nat :=
  let t := s.setMramSlot x.slotB (writeSlot (s.mramSlot x.slotB) 0 (slotBytes x.header 256))
  let slot := t.mramSlot x.slotB
  let v := validity t slot
  let copy := slotBytes slot (imgLength (slotBytes slot 256))
  let u := ({ t with img := { t.img with session := none } }).noteStoredKeys slot v
  if v.reason = 0 then (u, v, 0)
  else ((u.setMramSlot x.slotB (zeroHeader slot)).noteInvalid (flag x.slotB) v, v, (custodiansOf t copy).length)

/-- IMAGE_COMMIT (R81). -/
def execImageCommit (r : Req) (s : State) : Host.Outcome State Fault Refusal :=
  .next (s.hostCommand r 0x0705 fun s =>
    match s.img.session with
    | none => s.refuseRange r 0x10
    | some x =>
      let h := slotBytes x.header 256
      if imgSeq h ≠ x.seq ∨ imgLength h ≠ x.length then s.refuseRange r 0x13
      else
        match s.img.challenge with
        | none => s.refuseRange r 0x14
        | some c =>
          if s.challengeLapsed c then s.refuseRange r 0x14
          else if slice h 0x58 32 ≠ c.bytes then s.refuseRange r 0x13
          else
            match s.commitSession x with
            | (t, v, n) =>
              if v.reason = 0 then
                let slot := t.mramSlot x.slotB
                (({ t with img := { t.img with challenge := none } }).answer r 0 []).replicate (slotBytes slot x.length)
              else if v.reason = 7 then t.refuse r 0x0A01 n 7
              else t.refuseRange r v.reason)

/-- REPLICA_RETRY (R85): each second after a BUSY_RETRY, for 60 s. While another copy is on its way to the member, its session is
open and the retry would be answered BUSY_RETRY again. -/
def execReplicaRetry (addr : Nat) (s : State) : Host.Outcome State Fault Refusal :=
  match s.img.replicas.find? (ReplicaWait.waitsFor addr) with
  | none => .next s
  | some x =>
    if 60 ≤ x.retries then .next ((s.replicaFailed (ReplicaWait.waitsFor addr) addr 0x15).pumpReplicas 4)
    else if s.img.replicas.any (ReplicaWait.runsTo addr) then
      .next (s.onReplica (ReplicaWait.waitsFor addr) fun y => [{ y with retries := y.retries + 1 }])
    else
      let t := s.onReplica (ReplicaWait.waitsFor addr) fun y =>
        [{ y with busy := false, active := true, off := 0, retries := y.retries + 1 }]
      .next (t.sendTo addr 0x30 (replicaBody x.copy 0))

/-- IMAGE_ABORT (R82). -/
def execImageAbort (r : Req) (s : State) : Host.Outcome State Fault Refusal :=
  .next (s.hostCommand r 0x0706 fun s =>
    if s.img.session.isNone then s.refuseRange r 0x10 else s.endSession.answer r 0 [])

/-- IMAGE_SESSION_TIMEOUT (R82). -/
def execImageSessionTimeout (s : State) : Host.Outcome State Fault Refusal := .next s.endSession

/-- IMAGE_READ (R78). -/
def execImageRead (r : Req) (slot off len : Nat) (s : State) : Host.Outcome State Fault Refusal :=
  .next (s.hostCommand r 0x0707 fun s =>
    if 1 < slot ∨ len = 0 ∨ 1572864 < off + len then s.refuseRange r 0x23
    else
      let m := s.mramSlot (decide (slot = 1))
      s.answer r 0 ((List.range len).map fun k => SMap.get 0 m (off + k)))

/-- The time before an open ceremony times out, in µs, saturating at 65,535 (R84). -/
def State.ceremonyLeft (s : State) : Nat :=
  match s.lcs.ceremony with
  | none => 0
  | some c => min 65535 ((c.opened + 1000 * c.timeoutS - s.sys.optime) * 1000)

/-- IMAGE_APPLY (R83, R84). -/
def execImageApply (r : Req) (s : State) : Host.Outcome State Fault Refusal :=
  .next (s.hostCommand r 0x0708 fun s =>
    let newer (b : Bool) : Bool :=
      decide ((validity s (s.mramSlot b)).reason = 0) && decide (s.sys.imgSeq < imgSeq (slotBytes (s.mramSlot b) 256))
    if s.img.session.isSome then s.refuse r 0x0101 (s.hint r) 0x15
    else if s.lcs.ceremony.isSome then s.refuse r 0x0101 s.ceremonyLeft 0x17
    else if newer false = false ∧ newer true = false then s.refuseRange r 0x16
    else (s.answer r 0 []).enterDrain .load)

end Sys2Proof.Machine
end

