-- ==== Sys2Proof/Machine/EngineOps.lean ====
section
/-! DEFINITION. What the engine units share: where a counted key's request runs (R474, R475, R477), the keys and operands
of commands and steps, and what taking an operation up may find (R133, R182, R198, R214). -/

namespace Sys2Proof

/-- The 64 bytes of a descriptor (R97). -/
def Desc.bytes (d : Desc) : Bytes :=
  Machine.leBytes 2 d.opcode ++ Machine.leBytes 2 d.flags.toNat ++ Machine.leBytes 4 d.cid.toNat
    ++ Machine.leBytes 4 d.ctx.toNat ++ Machine.leBytes 2 d.tmoUs ++ Machine.leBytes 2 d.rsvd
    ++ Machine.leBytes 8 d.key0.toNat ++ Machine.leBytes 8 d.key1.toNat ++ Machine.leBytes 8 d.inAddr.toNat
    ++ Machine.leBytes 8 d.outAddr.toNat ++ Machine.leBytes 4 d.inLen ++ Machine.leBytes 4 d.outLen
    ++ Machine.leBytes 8 d.param.toNat

/-- A step record of a supervisor's privileged mailbox: the mailboxes of a supervisor are its units 6 on (R246, R268, R290). -/
def EngSrc.boxed : EngSrc → Bool
  | .raw r => match r.src with
    | .mailbox w _ u => decide (16 ≤ w) && decide (6 ≤ u)
    | _ => false
  | .step .. => false

end Sys2Proof

namespace Sys2Proof.Machine

/-! ## Forwarding to the owner of a counted key (R474, R475, R477) -/

/-- Where a request on a node runs. -/
inductive Place where
  | here
  | at (addr : Nat)
  | refused (reason : Nat)
  deriving DecidableEq, Repr

/-- Where a request on a node runs (R474); `seal`: it is a class N encryption under R220. -/
def State.place (s : State) (n : Node) (sealing : Bool) : Place :=
  if n.limit = 0 ∧ (sealing = false ∨ s.clonedRoot n.tenant = false) then .here
  else if s.blk.addr = some n.owner then .here
  else if n.owner = 0xFFFF then
    if s.clonedRoot n.tenant = false then .here else .refused (if n.limit = 0 then 0x68 else 0xB5)
  else .at n.owner

/-- The first 8 bytes of the SHA-256 of a tenant's root (R475). -/
def State.rootHash (s : State) (t : Nat) : Bytes := (beBytes 32 (Crypto.sha256 (s.tenantRoot t)).toNat).take 8

/-- The payload of a forwarded or spilled request (R475). -/
def State.forwardPayload (s : State) (id : Nat) (r : Req) : Bytes :=
  leBytes 8 id ++ leBytes 1 r.tenant ++ leBytes 1 (flag (s.urgent r)) ++ zeros 6 ++ s.rootHash r.tenant
    ++ r.desc.bytes ++ r.bytes

/-- A request whose owner cannot be reached (R477), counted for R478. -/
def State.unreachable (s : State) (r : Req) (owner reason : Nat) : State :=
  let b := { s.blk with unreach := satAdd 32 s.blk.unreach 1,
                        unreachNow := SMap.upd (0, 0) s.blk.unreachNow owner fun x => (x.1 + 1, reason) }
  { s with blk := b }.refuse r 0x0901 owner reason

/-- Forward a request to its owner (R475, R477); a part without Bilkin has no fabric to send it over (file 17). -/
def State.forward (s : State) (r : Req) (owner : Nat) : State :=
  if s.part = .cx641 then s.refuse r 0x0103 4 0
  else if r.desc.ctxv ∨ 65536 < r.desc.inLen ∨ 65536 < r.desc.outLen then s.refuseRange r 0xB0
  else if 4096 ≤ s.blk.outs.length then s.refuse r 0x0101 2 0xB1
  else
    match s.linkTo owner with
    | none => s.unreachable r owner 0xB8
    | some n =>
      if s.blk.addr = none ∨ s.blk.coord = none then s.unreachable r owner 0xB8
      else
        let id := s.blk.nextId
        let t := s.sendFrame n 0x20 owner (s.forwardPayload id r)
        { t with blk := { t.blk with outs := t.blk.outs ++ [{ id := id, owner := owner, req := r }],
                                     nextId := id + 1, sent := satAdd 32 t.blk.sent 1 } }

/-! ## Operands of a step (R128) -/

/-- The bytes an operand names. -/
def Inst.opd (i : Inst) (o : Opd) : Bytes :=
  if o.len = 0 then []
  else if o.off < 0x200 then (List.range o.len).map fun k => SMap.get 0 i.scratch (o.off + k)
  else if o.off < 0x400 then slice i.shadow (o.off - 0x300) o.len
  else if o.off < 0x8000 then slice i.graph.pool (o.off - 0x400) o.len
  else if o.len = 0xFFFF then i.field.drop (o.off - 0x8000)
  else slice i.field (o.off - 0x8000) o.len

/-- The key of a step: the scratch key C, or its slot's (R127). -/
def Inst.key (i : Inst) (st : Step) : RKey :=
  if st.scr then { handle := 0, alg := 0, usage := 0xFFFF#16, classN := false, key := i.opd st.c }
  else (SMap.get none i.keys st.slot).getD { handle := 0, alg := 0, usage := 0, classN := false, key := [] }

/-! ## What taking up an operation finds -/

/-- The work an instance does for an operation. -/
structure Work where
  blocks : Nat
  cycles : Nat
  bytes : Nat
  classN : Bool
  ctx : Option Nat
  run : Option CalRun
  result : JobResult
  deriving DecidableEq, Repr

/-- Work of a unit other than Calico, with its cycles. -/
def Work.plain (blocks cycles bytes : Nat) (o : JobResult) : Work :=
  { blocks := blocks, cycles := cycles, bytes := bytes, classN := false, ctx := none, run := none, result := o }

/-- What taking up an operation finds: a refusal with the output length it reports, a request that goes to the key's owner
instead, randomness that is not there, or the work to do. -/
inductive Found where
  | refused (s : State) (x : Rej) (outLen : Nat)
  | forwarded (s : State)
  | waits
  | runs (s : State) (w : Work)

/-- A result of a raw command. -/
def JobResult.ok (info : Nat) (out : Bytes) : JobResult := { JobResult.none with info := info, out := out }

/-- A step's output. -/
def JobResult.stepped (x : StepOut) : JobResult := { JobResult.none with step := x }

/-- Resolve a command's key and check its usage, algorithm, expiry and counter (R148, R182). -/
def State.useKey (s : State) (r : Req) (h : W64) (usage : Nat) (algOk : Nat → Bool) (operand : Nat) :
    Except Rej (State × RKey × Node) :=
  match s.resolve r.tenant (s.actingColour r) h with
  | .error x => .error x
  | .ok (t, k, n) =>
    match t.keyChecks k n (some usage) (algOk k.alg) true operand with
    | some x => .error x
    | none => .ok (t, k, n)

/-- A handle whose node asks for one has its entry and KSTATE context bound (R197). -/
def State.bindFor (s : State) (t : Nat) (h : W64) (n : Node) : Counted :=
  if n.limit ≠ 0 ∨ n.tracked ∨ n.classN then
    match s.bindKs t h with
    | .error e => (s, some e)
    | .ok (s1, _) => (s1, none)
  else (s, none)

/-- Bind a key's entry, charge its blocks and consume its use (R197, R198, R214). -/
def State.spend (s : State) (t : Nat) (h : W64) (n : Node) (blocks operand : Nat) : Counted :=
  match s.bindFor t h n with
  | (s0, some x) => (s0, some x)
  | (s0, none) =>
  match s0.chargeBlocks t h n blocks operand with
  | (s1, some x) => (s1, some x)
  | (s1, none) => s1.countUse t h n operand

/-- Run work on a key once every check has passed: place, counts, work (R198, R474, R475). -/
def State.onKey (s : State) (r : Req) (k : RKey) (n : Node) (sealing : Bool) (blocks operand : Nat) (w : State → Found) :
    Found :=
  match s.place n sealing with
  | .refused x => .refused s ⟨0x0201, operand, x⟩ 0
  | .at a => .forwarded (s.forward r a)
  | .here =>
    match s.spend r.tenant k.handle n blocks operand with
    | (s1, some x) => .refused s1 x 0
    | (s1, none) => w s1

/-- Output that does not fit the host's buffer is refused before any work (R102 reason 0x25). -/
def fits (s : State) (r : Req) (n : Nat) (f : Found) : Found :=
  if r.desc.outLen < n then .refused s ⟨0x0301, 0, 0x25⟩ n else f

/-! ## Waiting for and drawing randomness -/

/-- Take `n` words if the unit serves them: the bytes and the state; nothing where it does not. -/
def State.draw (s : State) (n : Nat) : Option (Bytes × State) :=
  if n = 0 then some ([], s)
  else (s.takeWords n).map fun x => (wordBytes x.1, x.2)

/-- Work that draws `n` words while it is loaded (R260, R284), or waits for them. -/
def State.drawing (s : State) (n : Nat) (f : State → Bytes → Found) : Found :=
  match s.draw n with
  | none => .waits
  | some (b, t) => f t b

end Sys2Proof.Machine
end

