-- ==== Sys2Proof/Machine/CalicoEval.lean ====
section
/-! DEFINITION. What a Calico message does: the raw commands with their checks, classes, nonces and segments (R211–R227),
and the primitives of Twill steps (R228–R230), with their cycle counts (R244). -/

namespace Sys2Proof.Machine

/-- The usage a raw opcode demands (R222). -/
def calUsage (op : Nat) : Nat := if op = 3 then 9 else if op = 4 then 10 else 14

/-- TAGLEN in effect, where it is in range (R222). -/
def calTagLen (mode cipher p : Nat) : Option Nat :=
  if mode = 6 then (let n := if p = 0 then 16 else p; if 12 ≤ n ∧ n ≤ 16 then some n else none)
  else if mode = 7 then
    (let b := blockLen cipher
     let n := if p = 0 then b else p
     if b / 2 ≤ n ∧ n ≤ b then some n else none)
  else if p = 0 then some 0 else none

/-- The leading field's length (R223). -/
def calLead (op mode seg cipher : Nat) (classN : Bool) (tl : Nat) : Nat :=
  if 1 < seg then 0
  else if mode = 7 then (if op = 4 then tl else 0)
  else if op = 2 then (if classN then 16 else blockLen cipher)
  else if classN then 0 else blockLen cipher

/-- Check 5 of R227: the context's state for the segment (R225). -/
def State.segCheck (s : State) (r : Req) (op mode seg : Nat) : Except Nat (Option Chain) :=
  if seg = 0 then .ok none
  else
    let x := s.ctx r.desc.ctxNo
    if x.frozen then .error 0x5E
    else if seg = 1 then if x.body = .free then .ok none else .error 0x64
    else
      match x.body with
      | .chain k =>
        if k.handle = r.desc.key0 ∧ k.mode = mode ∧ k.dir = flag (op == 2 || op == 4) then .ok (some k) else .error 0x64
      | _ => .error 0x64

/-- Checks 1 to 7 of R227, in order. -/
def State.calCheck (s : State) (r : Req) (k : RKey) : Except Rej CalCmd :=
  let d := r.desc
  let op := d.opcode - 0x0400
  let mode := d.par 0 1
  let seg := d.par 1 1
  let aadlen := d.par 4 4
  let cipher := if isAes k.alg then 0 else 1
  if mode = 0 ∨ 7 < mode ∨ (decide (3 ≤ op) != decide (mode = 7)) = true then .error ⟨0x0301, 0, 0x60⟩
  else if 3 < seg ∨ (d.ctxv != decide (seg ≠ 0)) = true then .error ⟨0x0301, 0, 0x6C⟩
  else if (isAes k.alg || isTdes k.alg) = false ∨ (k.classN ∧ isAes k.alg = false) ∨ (mode = 6 ∧ k.classN = false) then
    .error ⟨0x0201, 0, 0x61⟩
  else
    match calTagLen mode cipher (d.par 2 1) with
    | none => .error ⟨0x0301, 0, 0x63⟩
    | some tl =>
      let aad := if mode = 6 ∧ seg ≤ 1 then aadlen else 0
      let lead := calLead op mode seg cipher k.classN tl
      let trail := if mode = 6 ∧ op = 2 ∧ (seg = 0 ∨ seg = 3) then tl else 0
      if aadlen ≠ aad ∨ 65536 < aadlen ∨ d.inLen < lead + aad + trail then .error ⟨0x0301, 0, 0x63⟩
      else
        match s.segCheck r op mode seg with
        | .error e => .error ⟨0x0301, 0, e⟩
        | .ok ch =>
          let text := d.inLen - (lead + aad + trail)
          let b := blockLen cipher
          let before := match ch with
            | some c => c.total
            | none => 0
          if (mode = 1 ∨ (mode ≠ 2 ∧ (seg = 1 ∨ seg = 2))) ∧ text % b ≠ 0 then .error ⟨0x0301, 0, 0x62⟩
          else if (if k.classN then 2 ^ 24 else 65536) < before + text then
            .error ⟨0x0302, if k.classN then 16384 else 64, 0⟩
          else .ok { op := op, mode := mode, seg := seg, cipher := cipher, classN := k.classN, tagLen := tl, lead := lead,
                     aad := aad, trail := trail, text := text, chain := ch }

/-- The chaining value a message starts from, and the nonce field it returns (R216, R218). -/
def State.calStart (s : State) (x : CalCmd) (key lead : Bytes) (nonce : Nat) : Bytes × Bytes :=
  if x.mac then (zeros (blockLen x.cipher), [])
  else if x.sealing then
    let nb := s.nonceBlock nonce 0
    if x.mode = 6 then (nb.take 12 ++ [0, 0, 0, 2], nb.take 12 ++ zeros 4)
    else if x.mode = 5 then (nb, nb)
    else
      let iv := encBlock 0 key (s.nonceBlock nonce 0xFFFFFFFF)
      (iv, iv)
  else if x.mode = 6 then (lead.take 12 ++ [0, 0, 0, 2], [])
  else (lead, [])

/-- The text of a segment through its mode: output and the next chaining value (R212, R226). -/
def calText (x : CalCmd) (key iv text : Bytes) : Bytes × Bytes :=
  let c := x.cipher
  if x.mode = 1 then (if x.dir then cbcDec c key iv text else cbcEnc c key iv text)
  else if x.mode = 2 then (if x.dir then cfb8Dec c key iv text else cfb8Enc c key iv text)
  else if x.mode = 3 then (if x.dir then cfbDec c key iv text else cfbEnc c key iv text)
  else if x.mode = 4 then ofb c key iv text
  else ctrMode c key iv text

/-- The result of a segment that ends or goes on: its context afterwards (R225, R226). -/
def CalCmd.finishCtx (x : CalCmd) (r : Req) (k : Chain) : Option (Nat × Ctx) :=
  if x.seg = 0 then none
  else if x.last then some (r.desc.ctxNo, Ctx.free)
  else some (r.desc.ctxNo, { frozen := false, tenant := r.tenant, body := .chain k })

/-- A MAC segment: CMAC over the bytes so far, the last full block held back between segments (R226). The verdict is free
where the MAC given at SEG 1 is not known any more (after CTX_IMPORT, R223). -/
def calMac (x : CalCmd) (r : Req) (key lead text : Bytes) (c : Option Chain) (free : Bool) : JobResult :=
  let b := blockLen x.cipher
  let run := match c with
    | some k => k.chaining.take b
    | none => zeros b
  let held := match c with
    | some k => if k.total = 0 then [] else k.ghash.take b
    | none => []
  let msg := held ++ text
  let h := cmacHead b msg.length
  let next := cbcMacFrom x.cipher key run (msg.take h)
  let expect : Option Bytes := match c with
    | some k => k.mac
    | none => some lead
  let total := (match c with
    | some k => k.total
    | none => 0) + text.length
  let chain : Chain :=
    { handle := r.desc.key0, mode := x.mode, dir := flag x.dir, depth := 0, blocks := total / b - 1,
      chaining := next, ghash := msg.drop h, aad := 0, text := total % 2 ^ 24, core := 0,
      mac := if x.dir then expect else none }
  let base := { JobResult.none with ctxAfter := x.finishCtx r chain }
  if x.last then
    let m := (cmacFinish x.cipher key next (msg.drop h)).take x.tagLen
    if x.dir then { base with info := match expect with
      | some e => flag (e != m)
      | none => flag free } else { base with out := m }
  else base

/-- A cipher segment (R223–R226). -/
def State.calCipher (s : State) (x : CalCmd) (r : Req) (key lead aad text tag : Bytes) (nonce : Nat) : JobResult :=
  let start := match x.chain with
    | some k => (k.chaining.take (blockLen x.cipher), [])
    | none => s.calStart x key lead nonce
  let o := calText x key start.1 text
  let ct := if x.dir then text else o.1
  let y := match x.chain with
    | some k => k.ghash
    | none => ghashFrom (gcmH key) (zeros 16) aad
  let ghash := if x.mode = 6 then ghashFrom (gcmH key) y ct else []
  let aadN := match x.chain with
    | some k => k.aad
    | none => aad.length
  let before := match x.chain with
    | some k => (k.total, k.blocks)
    | none => (0, 0)
  let total := before.1 + text.length
  let chain : Chain :=
    { handle := r.desc.key0, mode := x.mode, dir := flag x.dir, depth := 0, blocks := before.2 + x.textBlocks,
      chaining := o.2, ghash := ghash, aad := aadN, text := total % 2 ^ 24, core := 0, mac := none }
  let base := { JobResult.none with ctxAfter := x.finishCtx r chain }
  let full := gcmTag key (start.1.take 12 ++ [0, 0, 0, 1]) ghash aadN total
  if x.mode = 6 ∧ x.last then
    if x.dir then
      if full.take x.tagLen = tag then { base with out := o.1 }
      else { base with status := 0x0301, reason := 0x6B, out := if 16384 < text.length then zeros text.length else [] }
    else { base with out := start.2 ++ o.1 ++ full.take x.tagLen }
  else { base with out := start.2 ++ o.1 }

/-- The result of a raw command, its input cut into its fields. -/
def State.calResult (s : State) (x : CalCmd) (r : Req) (key : Bytes) (nonce : Nat) : JobResult :=
  let b := r.bytes
  let text := slice b (x.lead + x.aad) x.text
  if x.mac then calMac x r key (b.take x.lead) text x.chain (Config.freshBool s.fresh)
  else s.calCipher x r key (b.take x.lead) (slice b x.lead x.aad) text (b.drop (x.lead + x.aad + x.text)) nonce

/-- The nonce of a class N encryption at its first segment (R217), counted in CAL_NONCES. -/
def State.takeNonce (s : State) (t : Nat) (h : W64) (wanted : Bool) (operand : Nat) : Except Rej (State × Nat) :=
  if wanted = false then .ok (s, 0)
  else
    match s.issueNonce t h operand with
    | .error e => .error e
    | .ok (s1, v) => .ok ({ s1 with cal := { s1.cal with nonces := wrapAdd 32 s1.cal.nonces 1 } }, v)

/-- The work of a segment. -/
def CalCmd.work (x : CalCmd) (r : Req) (key : Bytes) (nonce : Nat) (o : JobResult) : Work :=
  { blocks := x.blocks, cycles := x.cycles r.desc.inLen, bytes := 0, classN := x.classN,
    ctx := if r.desc.ctxv then some r.desc.ctxNo else none, run := some { cmd := x, key := key, nonce := nonce }, result := o }

/-- The CAL_CHAIN state of a message once `n` text bytes of this segment are processed (R226). -/
def State.chainAfter (s : State) (r : Req) (x : CalRun) (n : Nat) : Option Chain :=
  let c := { x.cmd with seg := if x.cmd.seg ≤ 1 then 1 else 2, text := n, trail := 0 }
  let o := s.calResult c { r with input := r.bytes.take (c.lead + c.aad + n) } x.key x.nonce
  match o.ctxAfter with
  | some (_, ⟨_, _, .chain k⟩) => some k
  | _ => none

/-- The context that SEG 1 makes a CAL_CHAIN context, bound to KEY0, MODE and direction, before anything is processed (R225). -/
def CalCmd.openCtx (x : CalCmd) (r : Req) : Ctx :=
  { frozen := false, tenant := r.tenant,
    body := .chain { handle := r.desc.key0, mode := x.mode, dir := flag x.dir, depth := 0, blocks := 0, chaining := zeros 16,
                     ghash := [], aad := 0, text := 0, core := 0, mac := none } }

/-- SEG 1 takes its context before its key's entry looks for a free one (R197, R225). -/
def State.takeCtx (s : State) (x : CalCmd) (r : Req) : State :=
  if x.seg = 1 then s.setCtx r.desc.ctxNo (x.openCtx r) else s

/-- A refused or forwarded SEG 1 leaves its context FREE (R227). -/
def Found.giveBack (f : Found) (x : CalCmd) (r : Req) : Found :=
  if x.seg ≠ 1 then f
  else
    match f with
    | .refused s e n => .refused (s.setCtx r.desc.ctxNo Ctx.free) e n
    | .forwarded s => .forwarded (s.setCtx r.desc.ctxNo Ctx.free)
    | .waits => .waits
    | .runs s w => .runs s w

/-- The chaining state before the first block of the segment, in its context. -/
def State.startCtx (s : State) (r : Req) (x : CalRun) : State :=
  if x.cmd.seg = 0 then s
  else
    match s.chainAfter r x 0 with
    | some k => s.setCtx r.desc.ctxNo { s.ctx r.desc.ctxNo with body := .chain k }
    | none => s

/-- Taking up a raw Calico command (R227). -/
def State.calRaw (s : State) (r : Req) : Found :=
  match s.useKey r r.desc.key0 (calUsage (r.desc.opcode - 0x0400)) (fun _ => true) 0 with
  | .error e => .refused s e 0
  | .ok (s1, k, n) =>
    match s1.calCheck r k with
    | .error e => .refused s1 e 0
    | .ok x =>
      fits s1 r x.outLen <|
      match (if x.sealing then s1.nonceRefusal r.desc.key0 0 else none), s1.place n x.sealing with
      | some e, .here => .refused s1 e 0
      | _, _ =>
        ((s1.takeCtx x r).onKey r k n x.sealing x.charged 0 fun s2 =>
          match s2.takeNonce r.tenant r.desc.key0 x.sealing 0 with
          | .error e => .refused s2 e 0
          | .ok (s3, v) =>
            .runs ((s3.startCtx r { cmd := x, key := k.key, nonce := v }).skip 1)
              (x.work r k.key v (s3.calResult x r k.key v))).giveBack x r

/-! ## Twill steps -/

/-- XOR a block into every block of a string. -/
def xorEach (b m : Bytes) : Bytes := if b.length = 0 then m else (cutAt b.length m).flatMap fun x => xorBytes x b

/-- XOR a block into the first block of a string. -/
def xorFirst (b m : Bytes) : Bytes := xorBytes (m.take b.length) b ++ m.drop b.length

/-- The key bytes a step's cipher takes: single DES takes bytes 0 to 7 (R229). -/
def stepKey (st : Step) (k : RKey) : Bytes := if st.im 0 = 2 then k.key.take 8 else k.key

/-- The output flags of a step (R229): PARITY after XOROUT. Of GCM_SEAL and GCM_OPEN they apply to the data they deliver. -/
def stepFlags (st : Step) (b out : Bytes) : Bytes :=
  let x := if st.xorOut then xorEach b out else out
  if st.parityOut then x.map oddParity else x

/-- ECB_ENC (R228). -/
def primEcbEnc (st : Step) (key b m : Bytes) : StepOut := .data (stepFlags st b (ecbEnc (st.im 0) key m))
/-- ECB_DEC (R228). -/
def primEcbDec (st : Step) (key b m : Bytes) : StepOut := .data (stepFlags st b (ecbDec (st.im 0) key m))

/-- The IV of a CBC step: B, or zero where B is unused or is the XOR operand (R228, R229). -/
def stepIv (st : Step) (b : Bytes) : Bytes := if b = [] ∨ st.xorIn ∨ st.xorOut then zeros (blockLen (st.im 0)) else b

/-- CBC_ENC (R228). -/
def primCbcEnc (st : Step) (key b m : Bytes) : StepOut := .data (stepFlags st b (cbcEnc (st.im 0) key (stepIv st b) m).1)
/-- CBC_DEC (R228). -/
def primCbcDec (st : Step) (key b m : Bytes) : StepOut := .data (stepFlags st b (cbcDec (st.im 0) key (stepIv st b) m).1)

/-- CBC_MAC (R228); over a stream that is no whole number of blocks the spec states no result (free). -/
def primCbcMac (st : Step) (key b m free : Bytes) : StepOut :=
  let n := blockLen (st.im 0)
  .data (stepFlags st b (if m.length % n = 0 then cbcMacFrom (st.im 0) key (zeros n) m else free.take n))

/-- CMAC (R228). -/
def primCmac (st : Step) (key b m : Bytes) : StepOut :=
  .data (stepFlags st b ((Sys2Proof.Machine.cmac (st.im 0) key m).take (st.im 1)))

/-- GCM_SEAL (R218, R228): nonce field, ciphertext, tag. -/
def primGcmSeal (st : Step) (key aad m nonce : Bytes) : StepOut :=
  let x := Sys2Proof.Machine.gcmSeal key (nonce.take 12) aad m
  .data (stepFlags st aad (nonce.take 12 ++ zeros 4 ++ x.1 ++ x.2.take (st.im 1)))

/-- GCM_OPEN (R228): the plaintext, or the verdict IMM[3]. -/
def primGcmOpen (st : Step) (key aad field m : Bytes) : StepOut :=
  let n := m.length - st.im 1
  let x := Sys2Proof.Machine.gcmOpen key (field.take 12) aad (m.take n)
  if st.im 1 ≤ m.length ∧ x.2.take (st.im 1) = m.drop n then .data (stepFlags st aad x.1) else .verdict (st.im 3)

/-- The output of a Calico primitive on an instance's operands. -/
def State.calPrim (s : State) (i : Inst) (k : Nat) (st : Step) : StepOut :=
  let key := stepKey st (i.key st)
  let b := i.opd st.b
  let m := if st.xorIn then xorFirst b (i.opd st.a) else i.opd st.a
  let p := st.prim
  if p = 1 then primEcbEnc st key b m
  else if p = 2 then primEcbDec st key b m
  else if p = 3 then primCbcEnc st key b m
  else if p = 4 then primCbcDec st key b m
  else if p = 5 then primCbcMac st key b m (s.randomBytes 16)
  else if p = 6 then primCmac st key b m
  else if p = 7 then primGcmSeal st key b m (s.nonceBlock ((SMap.get none i.nonces k).getD 0) 0)
  else primGcmOpen st key b (i.opd st.c) m

/-- Taking up a Calico step. -/
def State.calStep (s : State) (n k : Nat) : Found :=
  let i := s.slot n
  let st := i.graph.step k
  let m := (i.opd st.a).length
  .runs (s.skip 1)
    { blocks := primBlocks st.prim (st.im 0) m, cycles := stepCycles st m (i.opd st.b).length,
      bytes := 0, classN := (i.key st).classN, ctx := none, run := none, result := .stepped (s.calPrim i k st) }

/-! ## The supervisors' privileged mailboxes (R212, R246, R268, R290) -/

/-- Cycles of a step record on a unit, from its fields alone (R244, R263, R287): the operand lengths are the record's. What an
operation of Serge or Tulle takes depends on values that the record's words do not hold, so it is free (assumption log 83). -/
def privilegedCycles (u : EngUnit) (st : Step) (free : Nat) : Nat :=
  match u with
  | .cal => stepCycles st st.a.len st.b.len
  | _ => free

/-- Taking up a privileged request: the step record at the head of its mailbox's copy. Its operand data and its completion have no
layout in the spec (free, assumption log 83). -/
def State.privilegedWork (s : State) (r : Req) (u : EngUnit) : Found :=
  let st := stepAt r.input 0
  .runs (s.skip 1)
    { blocks := if u = .cal then primBlocks st.prim (st.im 0) st.a.len else 0, cycles := privilegedCycles u st (s.freeNat 32),
      bytes := 0, classN := false, ctx := none, run := none, result := .none }

end Sys2Proof.Machine
end

