-- ==== Sys2Proof/Machine/SergeEval.lean ====
section
/-! DEFINITION. A Serge operation as a raw command and as a Twill step (R260, R264–R266). -/

namespace Sys2Proof.Machine

/-! ## Raw commands and steps -/

/-- Run a checked operation of a command: the draw, then the work. Raw commands back to back hold a lane for
max(T, 4,096) cycles (R264). -/
def State.srgWork (s : State) (x : SrgOp) (f : List Bytes) : Found :=
  s.drawing x.draws fun t rnd =>
    let o := x.result f rnd
    .runs t (Work.plain x.words (max 4096 (x.cycles f)) 0 { JobResult.ok (flag o.isNone) (o.getD []) with fault := x.crtFault f rnd })

/-- Randomness for a command is there, tried before anything is consumed. -/
def State.ready (s : State) (n : Nat) (f : Found) : Found := if n = 0 ∨ (s.takeWords n).isSome then f else .waits

/-- Taking up a raw Serge command. -/
def State.srgRaw (s : State) (r : Req) : Found :=
  let op := r.desc.opcode - 0x0410
  match srgUsage op with
  | none =>
    let x := srgRawOp r.desc []
    match x.check s.srg.maxW r.bytes with
    | .error e => .refused s ⟨0x0301, e.2, e.1⟩ 0
    | .ok f => fits s r x.outLen (s.srgWork x f)
  | some u =>
    match s.useKey r r.desc.key0 u (fun a => decide (a = r.desc.par 0 1)) 0 with
    | .error e => .refused s e 0
    | .ok (s1, k, n) =>
      let x := srgRawOp r.desc k.key
      match x.check s1.srg.maxW r.bytes with
      | .error e => .refused s1 ⟨0x0301, e.2, e.1⟩ 0
      | .ok f => fits s1 r x.outLen (s1.ready x.draws (s1.onKey r k n false 0 0 fun s2 => s2.srgWork x f))

/-- Damask's PUBKEY for a command (R267): the key is resolved again, its public half computed. -/
def State.srgPubkey (s : State) (r : Req) (h : W64) (info : Nat) : Found :=
  match s.resolve r.tenant (s.actingColour r) h with
  | .error e => .refused s e 0
  | .ok (s1, k, _) =>
    let x : SrgOp := { op := 14, alg := k.alg, scheme := 0, w := 0, p := 0, key := k.key }
    .runs s1 (Work.plain x.words (max 4096 (x.cycles [])) 0 (.ok info ((x.result [] []).getD [])))

/-- The input fields of a step: operands A, B and C that do not carry its key (R265). -/
def srgFields (i : Inst) (st : Step) : List Bytes :=
  if st.scr then [i.opd st.a, i.opd st.b] else [i.opd st.a, i.opd st.b, i.opd st.c]

/-- The reason of R255 that refuses a step, if any. -/
def State.srgStepRej (s : State) (x : SrgOp) (f : List Bytes) : Option Nat :=
  let n := (f.map (·.length)).sum
  let fields := (x.layout s.srg.maxW n).getD []
  if x.algOk = false then some 0x70
  else if x.op < 14 ∧ x.layout s.srg.maxW n ≠ some ((f.map (·.length)).take fields.length) then some 0x71
  else (x.valueCheck f).map (·.1)

/-- Taking up a Serge step: a refusal or an INFO 1 outcome ends the instance with the step's verdict (R265). A step holds its lane for
X + T + 4,096 cycles, a refused one, which does no work, without T; X counts what crosses the lane's boundary (R256, R264). A
refusal counts in SRG_REFUSE. -/
def State.srgStep (s : State) (n k : Nat) : Found :=
  let i := s.slot n
  let st := i.graph.step k
  let x := srgStepOp st (i.key st).key
  let f := srgFields i st
  let b := (f.map (·.length)).sum + (if st.scr then st.c.len else 0)
  match s.srgStepRej x f with
  | some _ =>
    .runs { s with srg := { s.srg with refuseA := satAdd 16 s.srg.refuseA 1 } }
      (Work.plain x.words (1165 + b + 4096) 0 (.stepped (.verdict (st.im 2))))
  | none =>
    s.drawing x.draws fun t rnd =>
      let o := x.result f rnd
      let y := { JobResult.stepped ((o.map StepOut.data).getD (.verdict (st.im 2))) with fault := x.crtFault f rnd }
      .runs t (Work.plain x.words (1165 + b + (o.getD []).length + x.cycles f + 4096) 0 y)

end Sys2Proof.Machine
end

