-- ==== Sys2Proof/Machine/TulleEval.lean ====
section
/-! DEFINITION. What a Tulle operation, a composite command and a hash operation do (R274–R298): checks before work,
results, cycle counts, as raw commands and as Twill steps. -/

namespace Sys2Proof.Machine

/-! ## Messages -/

/-- μ of a message with a context string (R289, FIPS 204). -/
def dsaMu (alg : Nat) (seed ctx m : Bytes) : Bytes :=
  Crypto.shake 0x22 64 (Crypto.mldsaTr alg seed ++ [0] ++ leBytes 1 ctx.length ++ ctx ++ m)

/-- Sign within three budgets (R282, R283): the signature, the budgets exhausted, the state; `none` where randomness is
not there. -/
def State.dsaBudgets (alg unit : Nat) (seed mu : Bytes) : Nat → State → Nat → Option (Option Bytes × Nat × State)
  | 0, s, n => some (none, n, s)
  | fuel + 1, s, n =>
    match s.draw 2 with
    | none => none
    | some (rnd, t) =>
      match Crypto.mldsaSign alg seed mu rnd with
      | some sig => some (some sig, n, t)
      | none =>
        let t1 := { t with tul := { t.tul with restarts := satAdd 32 t.tul.restarts 1 } }
        State.dsaBudgets alg unit seed mu fuel (if fuel = 0 then t1 else t1.offer 0x0803 unit alg 0) (n + 1)

/-- A signing operation: its work, a third exhausted budget ending in a fault. -/
def State.dsaSign (s : State) (alg unit : Nat) (seed mu : Bytes) (extra : Nat) (f : Bytes → JobResult) : Found :=
  match State.dsaBudgets alg unit seed mu 3 s 0 with
  | none => .waits
  | some (o, n, t) =>
    let res := match o with
      | some sig => f sig
      | none => { JobResult.none with fault := true }
    .runs t (Work.plain alg (dsaSignMu alg n + extra) 0 res)

/-- Work of a lattice operation. -/
def latticeWork (s : State) (alg cycles : Nat) (o : JobResult) : Found :=
  .runs s (Work.plain alg cycles 0 o)

/-- The 12-bit coefficients of a decoded encapsulation key lie below q (R281 check 3): two to three bytes. -/
def coeffsOk : Bytes → Bool
  | a :: b :: c :: t =>
    decide (a.toNat + 256 * (b.toNat % 16) < 3329) && decide (b.toNat / 16 + 16 * c.toNat < 3329) && coeffsOk t
  | _ => true

/-! ## Raw Tulle commands (R275–R281) -/

/-- The first of some fields that an input of `n` bytes does not hold whole; with all of them there, a message longer than 32,767
bytes behind them. -/
def lengthFault : List Nat → Nat → Nat → Option Nat
  | [], k, n => if 32767 < n then some k else none
  | l :: t, k, n => if n < l then some k else lengthFault t (k + 1) (n - l)

/-- Check 2 of R281 for a context string of `c` bytes and a message behind other fields: the position of the field at fault. -/
def dsaFault (d : Desc) (c : Nat) (head : List Nat) : Option Nat :=
  if 255 < c then some head.length else lengthFault (head ++ [c]) 0 d.inLen

/-- MLKEM_ENCAPS. -/
def State.kemEncapsRaw (s : State) (r : Req) (alg : Nat) : Found :=
  if isMlkem alg = false then .refused s ⟨0x0301, 0, 0x78⟩ 0
  else if r.desc.inLen ≠ latticePub alg then .refused s ⟨0x0301, 0, 0x79⟩ 0
  else if coeffsOk (r.bytes.take (latticePub alg - 32)) = false then .refused s ⟨0x0301, 0, 0x7A⟩ 0
  else
    fits s r (latticeOut alg + 32) <| s.drawing 2 fun t m =>
      latticeWork t alg (kemEncaps alg) (.ok 0 (Crypto.mlkemEncaps alg r.bytes m))

/-- MLKEM_DECAPS. -/
def State.kemDecapsRaw (s : State) (r : Req) (alg : Nat) : Found :=
  match s.useKey r r.desc.key0 15 (fun _ => true) 0 with
  | .error e => .refused s e 0
  | .ok (s1, k, n) =>
    if isMlkem alg = false ∨ k.alg ≠ alg then .refused s1 ⟨0x0301, 0, 0x78⟩ 0
    else if r.desc.inLen ≠ latticeOut alg then .refused s1 ⟨0x0301, 0, 0x79⟩ 0
    else
      fits s1 r 32 <| s1.onKey r k n false 0 0 fun s2 =>
        latticeWork s2 alg (kemDecaps alg) (.ok 0 (Crypto.mlkemDecaps alg k.key r.bytes))

/-- MLDSA_SIGN. -/
def State.dsaSignRaw (s : State) (r : Req) (alg unit : Nat) : Found :=
  match s.useKey r r.desc.key0 13 (fun _ => true) 0 with
  | .error e => .refused s e 0
  | .ok (s1, k, n) =>
    let c := r.desc.par 2 2
    if isMldsa alg = false ∨ k.alg ≠ alg then .refused s1 ⟨0x0301, 0, 0x78⟩ 0
    else
      match dsaFault r.desc c [] with
      | some k => .refused s1 ⟨0x0301, k, 0x79⟩ 0
      | none =>
      fits s1 r (latticeOut alg) <| s1.ready 2 <| s1.onKey r k n false 0 0 fun s2 =>
        s2.dsaSign alg unit k.key (dsaMu alg k.key (r.bytes.take c) (r.bytes.drop c)) (6 * dsaP c (r.desc.inLen - c))
          fun sig => .ok 0 sig

/-- MLDSA_VERIFY. -/
def State.dsaVerifyRaw (s : State) (r : Req) (alg : Nat) : Found :=
  let c := r.desc.par 2 2
  let pub := latticePub alg
  let sg := latticeOut alg
  if isMldsa alg = false then .refused s ⟨0x0301, 0, 0x78⟩ 0
  else
    match dsaFault r.desc c [pub, sg] with
    | some k => .refused s ⟨0x0301, k, 0x79⟩ 0
    | none =>
    let b := r.bytes
    let m := b.drop (pub + sg + c)
    let ok := Crypto.mldsaVerify alg (b.take pub) (slice b (pub + sg) c) m (slice b pub sg)
    latticeWork s alg (dsaVerify alg + 6 * dsaP c m.length) (.ok (flag !ok) [])

/-- Damask's PUBKEY on Tulle (R275). -/
def State.tulPubkey (s : State) (r : Req) (h : W64) (info : Nat) : Found :=
  match s.resolve r.tenant (s.actingColour r) h with
  | .error e => .refused s e 0
  | .ok (s1, k, _) => latticeWork s1 k.alg (latticePubCycles k.alg) (.ok info (Crypto.publicKey k.alg k.key))

/-! ## Composite commands (R279, R280) -/

/-- The 16 bytes "COLRID-COMPOSITE". -/
def compLabel : Bytes :=
  [0x43, 0x4F, 0x4C, 0x52, 0x49, 0x44, 0x2D, 0x43, 0x4F, 0x4D, 0x50, 0x4F, 0x53, 0x49, 0x54, 0x45]

/-- M′ (R279). -/
def compMessage (code : Nat) (m : Bytes) : Bytes := beBytes 64 (Crypto.sha512 (compLabel ++ leBytes 1 code ++ m)).toNat

/-- What the classical component signs or verifies: a digest of M′, or M′ (R279). -/
def compClassical (code : Nat) (m' : Bytes) : Bytes :=
  if code = 0x88 then beBytes 32 (Crypto.sha256 m').toNat
  else if code = 0x89 then beBytes 48 (Crypto.sha384 m').toNat else m'

/-- The message of a composite command. -/
def compM (r : Req) (a : Nat × Nat) : Bytes :=
  if r.desc.opcode = 0x0425 then r.bytes
  else
    let l := compLens a
    r.bytes.drop (l.1 + l.2.1 + l.2.2.1 + l.2.2.2)

/-- The classical operation of a composite. -/
def compOp (alg : Nat) (sign : Bool) (key : Bytes) : SrgOp :=
  { op := if isEd alg then (if sign then 11 else 12) else if sign then 8 else 9, alg := alg, scheme := 0, w := 0, p := 0,
    key := key }

/-- The classical fields of COMP_VERIFY, in R252's order for its operation. -/
def compFields (r : Req) (code : Nat) (a : Nat × Nat) : List Bytes :=
  let l := compLens a
  let pub := slice r.bytes l.1 l.2.1
  let sig := slice r.bytes (l.1 + l.2.1 + l.2.2.1) l.2.2.2
  let m := compClassical code (compMessage code (compM r a))
  if isEd a.2 then [pub, sig, m] else [pub, m, sig]

/-- The position, in R277, of a refused classical field (R280): the key is field 1, the signature field 2. -/
def compPosition (k : Nat) : Nat := if k = 0 then 1 else 2

/-- The work of a composite's hash unit. -/
def compHashWork (s : State) (code m : Nat) : Found :=
  .runs s (Work.plain (compHashBlocks code m) (24 + compHashCycles code m + 16) (compHashBytes code m) .none)

/-- Taking up COMP_SIGN: both keys pass, each consumes one use, and the hash unit computes M′ (R280). -/
def State.compSignStart (s : State) (r : Req) : Found :=
  let code := r.desc.par 0 1
  match s.useKey r r.desc.key0 13 (fun _ => true) 0 with
  | .error e => .refused s e 0
  | .ok (s1, k0, n0) =>
    match s1.useKey r r.desc.key1 13 (fun _ => true) 1 with
    | .error e => .refused s1 e 0
    | .ok (s2, k1, n1) =>
      match compAlgs code with
      | none => .refused s2 ⟨0x0301, 0, 0x78⟩ 0
      | some a =>
        if k0.alg ≠ a.1 ∨ k1.alg ≠ a.2 then .refused s2 ⟨0x0301, 0, 0x78⟩ 0
        else if 32767 < r.desc.inLen then .refused s2 ⟨0x0301, 0, 0x79⟩ 0
        else
          fits s2 r (latticeOut a.1 + sigLen a.2) <|
          match s2.place n1 false with
          | .refused x => .refused s2 ⟨0x0201, 1, x⟩ 0
          | .at owner => .forwarded (s2.forward r owner)
          | .here =>
            s2.onKey r k0 n0 false 0 0 fun s3 =>
              match s3.spend r.tenant k1.handle n1 0 1 with
              | (s4, some x) => .refused s4 x 0
              | (s4, none) => compHashWork s4 code r.desc.inLen

/-- Taking up COMP_VERIFY (R280, R281). -/
def State.compVerifyStart (s : State) (r : Req) : Found :=
  let code := r.desc.par 0 1
  match compAlgs code with
  | none => .refused s ⟨0x0301, 0, 0x78⟩ 0
  | some a =>
    let l := compLens a
    let head := l.1 + l.2.1 + l.2.2.1 + l.2.2.2
    match lengthFault [l.1, l.2.1, l.2.2.1 + l.2.2.2] 0 r.desc.inLen with
    | some k => .refused s ⟨0x0301, k, 0x79⟩ 0
    | none =>
      match (compOp a.2 false []).valueCheck (compFields r code a) with
      | some e => .refused s ⟨0x0301, compPosition e.2, e.1⟩ 0
      | none => compHashWork s code (r.desc.inLen - head)

/-- The ML-DSA component (R280). -/
def State.compLattice (s : State) (r : Req) (unit : Nat) : Found :=
  let code := r.desc.par 0 1
  let a := (compAlgs code).getD (0x29, 0x10)
  let m := compMessage code (compM r a)
  if r.desc.opcode = 0x0425 then
    match s.resolve r.tenant (s.actingColour r) r.desc.key0 with
    | .error e => .refused s e 0
    | .ok (s1, k, _) => s1.dsaSign a.1 unit k.key (dsaMu a.1 k.key [] m) (6 * dsaP 0 64) fun sig => .ok 0 sig
  else
    let l := compLens a
    let ok := Crypto.mldsaVerify a.1 (r.bytes.take l.1) [] m (slice r.bytes (l.1 + l.2.1) l.2.2.1)
    latticeWork s a.1 (dsaVerify a.1 + 6 * dsaP 0 64) (.ok (flag !ok) [])

/-- The classical component (R280). -/
def State.compSerge (s : State) (r : Req) : Found :=
  let code := r.desc.par 0 1
  let a := (compAlgs code).getD (0x29, 0x10)
  let m := compClassical code (compMessage code (compM r a))
  if r.desc.opcode = 0x0425 then
    match s.resolve r.tenant (s.actingColour r) r.desc.key1 with
    | .error e => .refused s e 0
    | .ok (s1, k, _) => s1.srgWork (compOp a.2 true k.key) [m]
  else s.srgWork (compOp a.2 false []) (compFields r code a)

/-- Taking up a raw command on a Tulle unit. -/
def State.tulRaw (s : State) (r : Req) (unit : Nat) : Found :=
  let alg := r.desc.par 0 1
  if r.desc.opcode = 0x0421 then s.kemEncapsRaw r alg
  else if r.desc.opcode = 0x0422 then s.kemDecapsRaw r alg
  else if r.desc.opcode = 0x0423 then s.dsaSignRaw r alg unit
  else if r.desc.opcode = 0x0424 then s.dsaVerifyRaw r alg
  else s.compLattice r unit

/-- Taking up a Tulle step (R289): X + T + 8,192 cycles (R288). -/
def State.tulStep (s : State) (n k unit : Nat) : Found :=
  let i := s.slot n
  let st := i.graph.step k
  let key := (i.key st).key
  let alg := st.im 0
  let a := i.opd st.a
  let past (out : Nat) : Nat := 600 + ceilDiv (a.length + out) 16 + 8192
  if st.prim = 3 then
    s.dsaSign alg unit key (dsaMu alg key [] a) (6 * dsaP 0 a.length + past (latticeOut alg)) fun sig => .stepped (.data sig)
  else if st.prim = 7 then
    latticeWork s alg (latticePubCycles alg + past (latticePub alg)) (.stepped (.data (Crypto.publicKey alg key)))
  else if st.prim = 8 then latticeWork s alg (dsaK alg + past 64) (.stepped (.data (Crypto.mldsaTr alg key)))
  else s.dsaSign alg unit key a (past (latticeOut alg)) fun sig => .stepped (.data sig)

/-! ## Hash units (R295–R298) -/

/-- A digest by its code; `o` bytes for SHAKE. -/
def hashOf (h o : Nat) (m : Bytes) : Bytes :=
  if h = 0x01 then beBytes 28 (Crypto.sha224 m).toNat else if h = 0x02 then beBytes 32 (Crypto.sha256 m).toNat
  else if h = 0x03 then beBytes 48 (Crypto.sha384 m).toNat else if h = 0x04 then beBytes 64 (Crypto.sha512 m).toNat
  else if isShake h then Crypto.shake h o m else Crypto.sha3 h m

/-- A known HALG. -/
def hashKnown (h : Nat) : Bool := decide (digestLen h ≠ 0) || isShake h

/-- The checks of R296 in order: the tag or output length in effect, or the reason. -/
def hashCheck (d : Desc) : Except Nat Nat :=
  let h := d.par 0 1
  let tl := d.par 1 1
  let o := d.par 4 4
  let hmac := decide (d.opcode ≠ 0x0431)
  let n := if isShake h then o else if tl = 0 then digestLen h else tl
  let lead := if d.opcode = 0x0433 then n else 0
  if hashKnown h = false ∨ (hmac ∧ isShake h) then .error 0x7C
  else if (if isShake h then 1 ≤ o ∧ o ≤ 65536 else o = 0) ∧ (if hmac then tl = 0 ∨ (16 ≤ tl ∧ tl ≤ digestLen h) else tl = 0)
  then if d.inLen < lead ∨ 16777216 < d.inLen - lead then .error 0x7D else .ok n
  else .error 0x7E

/-- Work of a hash unit. -/
def hashWork (s : State) (h n m : Nat) (o : JobResult) : Found :=
  .runs s (Work.plain n (24 + hashC h * n + 16) m o)

/-- Taking up HASH, HMAC_GEN or HMAC_VER. -/
def State.hshRaw (s : State) (r : Req) : Found :=
  let d := r.desc
  let h := d.par 0 1
  let b := r.bytes
  if d.opcode = 0x0425 then s.compSignStart r
  else if d.opcode = 0x0426 then s.compVerifyStart r
  else if d.opcode = 0x0431 then
    match hashCheck d with
    | .error e => .refused s ⟨0x0301, 0, e⟩ 0
    | .ok n => fits s r n (hashWork s h (hashN h b.length n) b.length (.ok 0 (hashOf h n b)))
  else
    match s.useKey r d.key0 (if d.opcode = 0x0432 then 9 else 10) (fun a => decide (a = 0x06)) 0 with
    | .error e => .refused s e 0
    | .ok (s1, k, nd) =>
      match hashCheck d with
      | .error e => .refused s1 ⟨0x0301, 0, e⟩ 0
      | .ok n =>
        let m := if d.opcode = 0x0433 then b.drop n else b
        let tag := (Crypto.hmac h k.key m).take n
        let o : JobResult := if d.opcode = 0x0432 then .ok 0 tag else .ok (flag (tag != b.take n)) []
        fits s1 r (if d.opcode = 0x0432 then n else 0) <|
          s1.onKey r k nd false 0 0 fun s2 => hashWork s2 h (hmacN h m.length) m.length o

/-- Taking up a hash step (R297): the message is B ‖ X ‖ A. -/
def State.hshStep (s : State) (n k : Nat) : Found :=
  let i := s.slot n
  let st := i.graph.step k
  let h := st.im 0
  let m := i.opd st.b ++ i.opd st.c ++ i.opd st.a
  if st.prim = 1 then
    let o := if isShake h then st.im 1 else digestLen h
    hashWork s h (hashN h m.length o) m.length (.stepped (.data (hashOf h o m)))
  else
    let o := if st.im 1 = 0 then digestLen h else st.im 1
    let key := match SMap.get none i.keys st.slot with
      | some x => x.key
      | none => []
    hashWork s h (hmacN h m.length) m.length (.stepped (.data ((Crypto.hmac h key m).take o)))

end Sys2Proof.Machine
end

