-- ==== Sys2Proof/Machine/KeyStore.lean ====
section
/-! DEFINITION. Storing a sealed leaf (R193–R195), the checks on its place (R165 checks 2, 11 and 15), and what KEY_GENERATE
makes (R203, R267). -/

namespace Sys2Proof.Machine

/-- Bytes of a leaf's key by algorithm (R193). -/
def keyBytes (alg : Nat) : Nat :=
  if isRsa alg then rsaBits alg / 8 + 4 + 5 * (rsaBits alg / 16)
  else if isCurve alg then orderBytes alg
  else ceilDiv (deriveBits alg) 8

/-- The KWP output length of a leaf whose key has `n` bytes (R193). -/
def wrapLen (n : Nat) : Nat := 8 * ceilDiv (8 + n) 8 + 8

/-- The node a new leaf's handle names: root and lock, tenant, node, kind and label, colour (R165 checks 2 and 11, R182). -/
def State.leafNode (s : State) (r : Req) (h : W64) : Except Rej Node :=
  if r.desc.ctxv = false then .error ⟨0x0801, 0, 0x27⟩
  else if s.hasRoot r.tenant = false ∨ s.dmk.locked ∨ s.dmk.wiping then .error ⟨0x0701, 0, 0⟩
  else if hTenant h ≠ r.tenant then .error ⟨0x0801, 0, 0x50⟩
  else
    match s.keyNode r.tenant (hNode h) with
    | none => .error ⟨0x0301, 0, 0x52⟩
    | some n =>
      if n.kind ≠ 2 ∨ hLabel h ≠ r.desc.ctxNo then .error ⟨0x0301, 0, 0x4F⟩
      else if s.actingColour r ≠ s.nodeColour n ∧ s.granted (s.actingColour r) (s.nodeColour n) false = false then
        .error ⟨0x0801, 0, 0x51⟩
      else .ok n

/-- The contexts of a leaf are free (R165 check 15, R194). -/
def State.leafRoom (s : State) (t c len : Nat) : Option Rej :=
  match (s.ctx c).body with
  | .leaf .. => some ⟨0x0301, 0, 0x4C⟩
  | _ =>
    if (List.range (leafCount (wrapLen len))).all fun k => s.holds t (c + k) && decide (s.ctx (c + k) = Ctx.free) then none
    else some ⟨0x0301, 0, 0x5B⟩

/-- Store a leaf under the node's current generation (R193). -/
def State.storeLeaf (s : State) (t : Nat) (h : W64) (n : Node) (key : Bytes) (exportable : Bool) : State :=
  let p := s.parentKey t n.parent
  let gen := s.leafGen n
  let w := Crypto.kwpWrap (n.leafKey p.1 (hLabel h) gen) (leafPlain n.alg (flag exportable) gen key)
  ({ s with dmk := p.2.2 }).setCtxs (leafCtxs t h (hLabel h) w)

/-- The private key KEY_GENERATE makes of fresh random bytes for an algorithm other than RSA (R176, R193). -/
def freshKey (alg : Nat) (b : Bytes) : Bytes := formKey alg (b.take (ceilDiv (deriveBits alg) 8))

/-- Words of ENT_DATA a new key takes: its derivation length (R176, R284). -/
def keyWords (alg : Nat) : Nat := ceilDiv (deriveBits alg) 128

/-- An RSA leaf from its primes, with e = 65537 (R193, R267). -/
def rsaLeaf (bits p q : Nat) : Bytes :=
  let k := bits / 8
  let h := k / 2
  let inv (m : Nat) : Nat := (modInv 65537 m).getD 0
  beBytes k (p * q) ++ beBytes 4 65537 ++ beBytes h p ++ beBytes h q ++ beBytes h (inv (p - 1)) ++ beBytes h (inv (q - 1))
    ++ beBytes h ((modInv q p).getD 0)

/-- A candidate of the RSA search: h random words with the top two bits and the low bit set (R267). -/
def rsaCandidate (bits : Nat) (b : Bytes) : Nat :=
  let n := bits / 2
  (beNat (b.take (n / 8))) % 2 ^ (n - 2) / 2 * 2 + 1 + 3 * 2 ^ (n - 2)

/-- The sieve: an odd number below 65,536 divides the candidate (R267). -/
def sieved (c : Nat) : Bool := (List.range 32767).any fun k => decide (c % (2 * k + 3) = 0)

/-- Lane cycles of a candidate: the sieve, one Miller–Rabin round for a survivor, and the rounds of FIPS 186-5 for a prime (R267). -/
def candidateCycles (bits c : Nat) : Nat :=
  let h := bits / 128
  let rounds := if sieved c then 0 else if Crypto.probablePrime c then Crypto.primeRounds (bits / 2) else 1
  6000 + rounds * ((80 * h + 16) * mulM h)

/-- The unit that computes the public key of an algorithm (R250, R275). -/
def pubUnit (alg : Nat) : EngUnit := if isMldsa alg || isMlkem alg then .tul else .srg

/-- Taking up Damask's PUBKEY work: the check of PUBREAD for PUBKEY_READ, and the count of the key (R198, R203); for
KEY_GENERATE the new leaf's public half, or the RSA search that makes it (R267). -/
def State.pubkeyWork (s : State) (r : Req) (u : EngUnit) : Found :=
  let compute (t : State) (h : W64) (info : Nat) : Found :=
    match u with
    | .tul => t.tulPubkey r h info
    | _ => t.srgPubkey r h info
  if r.desc.opcode = 0x0204 then
    match s.keyNode r.tenant (hNode r.desc.key1) with
    | some n =>
      if isRsa n.alg then .runs s (Work.plain (rsaBits n.alg / 128) 0 0 .none)
      else compute s r.desc.key1 r.desc.key1.toNat
    | none => .refused s ⟨0x0301, 0, 0x52⟩ 0
  else
    match s.resolve r.tenant (s.actingColour r) r.desc.key0 with
    | .error e => .refused s e 0
    | .ok (s1, k, n) =>
      if n.exportBits.getLsbD 2 = false then .refused s1 ⟨0x0201, 0, 0x5F⟩ 0
      else
        match s1.keyChecks k n none true true 0 with
        | some e => .refused s1 e 0
        | none => fits s1 r (pubLen k.alg) (s1.onKey r k n false 0 0 fun s2 => compute s2 r.desc.key0 0)

/-- The job is an RSA search (R267). -/
def State.isSearch (s : State) (e : EngSrc) : Bool :=
  match e with
  | .raw r => decide (r.desc.opcode = 0x0204) && (match s.keyNode r.tenant (hNode r.desc.key1) with
    | some n => isRsa n.alg
    | none => false)
  | .step .. => false

/-- What taking up an operation on instance `n` of a unit finds. -/
def State.evaluate (s : State) (u : EngUnit) (n : Nat) : EngSrc → Found
  | .raw r =>
    if (EngSrc.raw r).boxed then s.privilegedWork r u
    else if r.desc.opcode = 0x0204 ∨ r.desc.opcode = 0x0207 then s.pubkeyWork r u
    else
      match u with
      | .cal => s.calRaw r
      | .srg => if r.desc.opcode = 0x0425 ∨ r.desc.opcode = 0x0426 then s.compSerge r else s.srgRaw r
      | .tul => s.tulRaw r n
      | .hsh => s.hshRaw r
  | .step i k =>
    match u with
    | .cal => s.calStep i k
    | .srg => s.srgStep i k
    | .tul => s.tulStep i k n
    | .hsh => s.hshStep i k

end Sys2Proof.Machine
end

