-- ==== Sys2Proof/Machine/Schedule.lean ====
section
/-! DEFINITION. The scheduler every engine unit shares: what waits, what an instance takes next (R135, R137, R231, R269), the
end of an operation (R93, R132, R264), suspension (R232–R236), faults, fences, self-tests and reseeds (R239–R243, R260,
R261, R272, R284, R286, R293, R298). -/

namespace Sys2Proof

/-- The operation is a recipe step. -/
def EngSrc.isStep : EngSrc → Bool
  | .step .. => true
  | .raw _ => false

/-- A supervisor's privileged request (R231). -/
def EngSrc.privileged : EngSrc → Bool
  | .raw r => match r.src with
    | .mailbox w _ _ => decide (16 ≤ w)
    | _ => false
  | .step .. => false

end Sys2Proof

namespace Sys2Proof.Machine

/-! ## What waits and where it may run -/

/-- An operation is waiting, running or suspended somewhere, or one component of it has ended. -/
def Engine.holds (e : Engine) (x : EngSrc) : Bool :=
  e.waiting.any (fun j => decide (j.src = x)) || e.parts.any (fun j => decide (j.src = x))
    || e.jobs.any (fun j => decide (j.src = x))

/-- Some unit holds the operation. -/
def State.heldByUnit (s : State) (x : EngSrc) : Bool :=
  s.cal.holds x || s.srg.holds x || s.tul.holds x || s.hsh.holds x

/-- A new operation that waits for an instance. -/
def Job.new (x : EngSrc) (code tenant : Nat) (urgent : Bool) : Job :=
  { src := x, code := code, tenant := tenant, urgent := urgent, classN := false, blocks := 0, cycles := 0, bytes := 0,
    asking := none, only := none, ctx := none, run := none, done := 0, saved := none, staged := false, refetch := none,
    handed := 0, search := none, result := .none }

/-- An operation leaves a unit's waiting work. -/
def State.dropWaiting (s : State) (u : EngUnit) (x : EngSrc) : State :=
  s.setEngine u { s.engine u with waiting := (s.engine u).waiting.filter fun j => decide (j.src ≠ x) }

/-- The pool record an instance belongs to. -/
def State.poolAt (s : State) (u : EngUnit) (n : Nat) : Option PoolRec :=
  s.img.force.pools.find? fun p => p.unit == u.code && p.mask.getLsbD n

/-- The instance may take a new operation, its generator's seeding apart (R41, R240, R241, R243, R247). -/
def State.takesSeeded (s : State) (u : EngUnit) (n : Nat) : Bool :=
  let i := s.inst u n
  s.inPool u n && !i.stalled && !i.starved && !i.fencing

/-- The instance may take any new operation. -/
def State.takesNew (s : State) (u : EngUnit) (n : Nat) : Bool := s.takesSeeded u n && (s.inst u n).seeded

/-- Before it is seeded a hash unit serves a supervisor's unkeyed HASH from the test seed (R298). -/
def Job.testSeeded (j : Job) (u : EngUnit) : Bool := decide (u = .hsh) && decide (j.code = 0x0431) && j.src.privileged

/-- Bytes of a held area that instances of Twill have outputs in (R136). -/
def State.heldBytes (s : State) (u : EngUnit) (n : Nat) : Nat :=
  ((s.twl.insts.flatMap fun x => x.2.heldAt.filter fun h => h.1 == u.code && h.2.1 == n).map (·.2.2)).sum

/-- The bytes an operation puts into its unit's held area: those of a step with OUT_RESULT (R136). -/
def State.heldNeed (s : State) (j : Job) : Nat :=
  match j.src with
  | .raw _ => 0
  | .step n k =>
    let st := (s.slot n).graph.step k
    if st.outResult then st.d.len else 0

/-- The held area of an instance takes an operation's output (R246, R268, R290). -/
def State.heldFits (s : State) (u : EngUnit) (n : Nat) (j : Job) : Bool :=
  match heldRoom u with
  | none => true
  | some k => decide (s.heldNeed j = 0) || decide (s.heldBytes u n + s.heldNeed j ≤ k)

/-- The instance may take this operation: it is seeded or need not be, it is the mailbox's own, and its held area has room. -/
def State.takesJob (s : State) (u : EngUnit) (n : Nat) (j : Job) : Bool :=
  s.takesSeeded u n && ((s.inst u n).seeded || j.testSeeded u) && (j.only.isNone || j.only == some n) && s.heldFits u n j

/-- Nothing runs on the instance or is suspended under it. -/
def UnitInst.idle (i : UnitInst) : Bool := i.running.isNone && decide (i.stack = [])

/-- The instance is free. -/
def State.freeInst (s : State) (u : EngUnit) (n : Nat) : Bool := s.takesNew u n && (s.inst u n).idle

/-- Present instances of a pool, rising. -/
def State.poolMembers (s : State) (u : EngUnit) (p : PoolRec) : List Nat :=
  (List.range (s.part.count u)).filter fun n => p.mask.getLsbD n

/-- Instances that stand in the pool: those that are not gated and not fenced (R47, R53). -/
def State.poolStanding (s : State) (u : EngUnit) (p : PoolRec) : List Nat :=
  (s.poolMembers u p).filter fun n => s.inPool u n

/-- The lowest-numbered free instance of a pool (R269). -/
def State.firstFree (s : State) (u : EngUnit) (p : PoolRec) : Option Nat := (s.poolMembers u p).find? fun n => s.freeInst u n

/-- The lowest-numbered free instance of a pool that takes an operation (R246, R268, R269). -/
def State.placeFor (s : State) (u : EngUnit) (p : PoolRec) (j : Job) : Option Nat :=
  (s.poolMembers u p).find? fun n => s.takesJob u n j && (s.inst u n).idle

/-! ## The order of dispatch (R135, R137, R231, R269) -/

/-- The command whose admission orders an operation. -/
def State.reqOf (s : State) : EngSrc → Req
  | .raw r => r
  | .step n _ => (s.slot n).req

/-- Place in the order of admission. -/
def State.admissionIndex (s : State) (r : Req) : Nat := s.host.admitted.findIdx fun a => decide (a.req = r)

/-- The order of waiting operations of one kind: urgent, then admission, then step number. -/
def State.rank (s : State) (j : Job) : Nat :=
  (if j.urgent then 0 else 2 ^ 40) + 32 * s.admissionIndex (s.reqOf j.src) + (match j.src with
    | .step _ k => k
    | .raw _ => 0)

/-- The operation waits for randomness and is not taken up meanwhile. -/
def State.stalledJob (s : State) (j : Job) : Bool :=
  match j.src with
  | .raw r => s.ent.stalled.contains (.command r)
  | .step n k => (s.slot n).rngSteps.getLsbD k

/-- The operation is work of a pool: of one that its tenant names, or of the one its mailbox's instance stands in. -/
def State.ofPool (s : State) (u : EngUnit) (p : PoolRec) (j : Job) : Bool :=
  match j.only with
  | some n => p.unit == u.code && p.mask.getLsbD n
  | none => match s.poolOf j.tenant u.code with
    | some q => q.pool == p.pool
    | none => false

/-- Waiting operations of a pool. -/
def State.poolAll (s : State) (u : EngUnit) (p : PoolRec) : List Job := (s.engine u).waiting.filter (s.ofPool u p)

/-- Waiting operations of a pool that can be taken up. -/
def State.poolWaiting (s : State) (u : EngUnit) (p : PoolRec) : List Job := (s.poolAll u p).filter fun j => !s.stalledJob j

/-- The first of a list by rank. -/
def State.first (s : State) (l : List Job) : Option Job :=
  l.foldl (fun b j => match b with
    | none => some j
    | some x => if s.rank j < s.rank x then some j else b) none

/-- A pool's contention sums. -/
def State.poolUse (s : State) (p : PoolRec) : PoolUse := SMap.get PoolUse.reset s.twl.pools p.pool

/-- The operation a pool takes next from a list (R137, R231). -/
def State.choose (s : State) (p : PoolRec) (l : List Job) : Option Job :=
  match s.first (l.filter fun j => j.src.privileged) with
  | some j => some j
  | none =>
    let tw := l.filter fun j => j.src.isStep
    let raw := l.filter fun j => !j.src.isStep
    let x := s.poolUse p
    if tw = [] then s.first raw
    else if raw = [] then s.first tw
    else if p.twshare ≠ 0 ∧ x.tTw * (100 - p.twshare) ≤ x.tRaw * p.twshare then s.first tw
    else s.first raw

/-- Instance-nanoseconds of an occupancy: a Serge cycle is 0.8 ns. -/
def occupancyNs (u : EngUnit) (cycles : Nat) : Nat :=
  match u with
  | .srg => cycles * 4 / 5
  | _ => cycles

/-- Change a pool's sums. -/
def State.setPoolUse (s : State) (p : PoolRec) (x : PoolUse) : State :=
  { s with twl := { s.twl with pools := SMap.set PoolUse.reset s.twl.pools p.pool x } }

/-- Both classes wait for the pool: a contention period runs (R137). -/
def State.contended (s : State) (u : EngUnit) (p : PoolRec) : Bool :=
  (s.poolAll u p).any (fun j => j.src.isStep) && (s.poolAll u p).any fun j => !j.src.isStep

/-- While either class has nothing waiting the contention sums are zero (R137). -/
def State.settlePeriod (s : State) (u : EngUnit) (p : PoolRec) : State :=
  if s.contended u p then s
  else
    let x := s.poolUse p
    if x.tTw = 0 ∧ x.tRaw = 0 then s else s.setPoolUse p { x with tTw := 0, tRaw := 0 }

/-- An operation that has ended on an instance counts what it used in the contention period that runs (R137, assumption log 41). -/
def State.countUsePool (s : State) (u : EngUnit) (p : PoolRec) (j : Job) : State :=
  if s.contended u p = false then s.settlePeriod u p
  else
    let x := s.poolUse p
    s.setPoolUse p (if j.src.isStep then { x with tTw := x.tTw + occupancyNs u j.cycles }
      else { x with tRaw := x.tRaw + occupancyNs u j.cycles })

/-- An operation joins a unit's waiting work, where some instance of its pool is left for it; else it ends with
SERVICE_UNAVAILABLE (R53). The contention sums of a pool where either class waited for nothing start at zero (R137). -/
def State.addWaiting (s : State) (u : EngUnit) (j : Job) : State :=
  let s1 := match s.img.force.pools.find? (fun p => s.ofPool u p j) with
    | some p => s.settlePeriod u p
    | none => s
  let t := s1.setEngine u { s1.engine u with waiting := (s1.engine u).waiting ++ [j] }
  if t.jobGone u j then t.endUnserved j else t

/-! ## Taking up an operation -/

/-- The refusal counters of the units (CAL_LIMREF, SRG_REFUSE, TUL_REFUSE, HSH_REFUSE). -/
def State.noteRefusal (s : State) (u : EngUnit) (x : Rej) : State :=
  let e := s.engine u
  let len := match u with
    | .cal => decide (x.status = 0x0302)
    | .srg => decide (0x70 ≤ x.reason) && decide (x.reason ≤ 0x75)
    | .tul => decide (0x78 ≤ x.reason) && decide (x.reason ≤ 0x7A)
    | .hsh => decide (0x7C ≤ x.reason) && decide (x.reason ≤ 0x7E)
  let use := decide (u = .cal) && decide (x.status = 0x0203) && decide (0x65 ≤ x.reason) && decide (x.reason ≤ 0x67)
  s.setEngine u { e with refuseA := satAdd 16 e.refuseA (flag len), refuseB := satAdd 16 e.refuseB (flag use) }

/-- End an operation that is refused: a command completes with the refusal, its other parts end with it (R280); a composite's
refusal counts for the unit whose reason it carries (R273, R299). -/
def State.refuseJob (s : State) (u : EngUnit) (e : EngSrc) (x : Rej) (outLen : Nat) : State :=
  match e with
  | .raw r =>
    let v := if r.desc.opcode = 0x0425 ∨ r.desc.opcode = 0x0426 then
        (if 0x70 ≤ x.reason ∧ x.reason ≤ 0x75 then EngUnit.srg else EngUnit.tul) else u
    ((s.dropJobs fun y => decide (y = e)).noteRefusal v x).complete r x.status x.detail x.reason 0 outLen []
  | .step .. => s.dropWaiting u e

/-- An operation waits for randomness (R134, R310). -/
def State.stallJob (s : State) (e : EngSrc) : State :=
  match e with
  | .raw r => s.stallFor (.command r)
  | .step n k => s.setSlot n { s.slot n with rngSteps := (s.slot n).rngSteps ||| (1#32 <<< k) }

/-- The chaining context of a message shows the core that holds it (AUX of R226). -/
def State.markCore (s : State) (n : Nat) : Option Nat → State
  | none => s
  | some c =>
    match (s.ctx c).body with
    | .chain k => s.setCtx c { s.ctx c with body := .chain { k with core := n } }
    | _ => s

/-- A step with OUT_RESULT takes its place in the held area (R136). -/
def State.markHeld (s : State) (u : EngUnit) (n : Nat) (j : Job) : State :=
  match j.src with
  | .raw _ => s
  | .step i _ =>
    if s.heldNeed j = 0 ∨ heldRoom u = none then s
    else s.setSlot i { s.slot i with heldAt := (s.slot i).heldAt ++ [(u.code, n, s.heldNeed j)] }

/-- Put an operation on an instance. -/
def State.occupy (s : State) (u : EngUnit) (n : Nat) (j : Job) (w : Work) : State :=
  let s1 := s.dropWaiting u j.src
  let i := s1.inst u n
  let job := { j with blocks := w.blocks, cycles := w.cycles, bytes := w.bytes, classN := w.classN, ctx := w.ctx,
                      result := w.result, run := w.run, asking := none,
                      search := if s1.isSearch j.src then some (0, 0) else none }
  let s2 := ((s1.setInst u n { i with running := some job, lastCode := j.code }).markCore n w.ctx).markHeld u n j
  let e := s2.engine u
  let width := if u = .cal ∨ u = .srg then 16 else 32
  (s2.setEngine u { e with urgMax := if j.urgent then max e.urgMax (s2.freeNat width) else e.urgMax }).skip 1

/-- Take up a waiting operation on an instance. -/
def State.begin (s : State) (u : EngUnit) (n : Nat) (j : Job) : State :=
  match s.evaluate u n j.src with
  | .refused t x ol => t.refuseJob u j.src x ol
  | .forwarded t => t.dropWaiting u j.src
  | .waits => s.stallJob j.src
  | .runs t w => t.occupy u n j w

/-- Give the free instances of a pool work until one of the two is left over. -/
def State.pump (u : EngUnit) (p : PoolRec) : Nat → State → State
  | 0, s => s
  | fuel + 1, s =>
    match s.choose p ((s.poolWaiting u p).filter fun j => (s.placeFor u p j).isSome) with
    | none => s
    | some j =>
      match s.placeFor u p j with
      | some n => State.pump u p fuel (s.begin u n j)
      | none => s

/-- Dispatch in a tenant's pool. -/
def State.pumpFor (s : State) (u : EngUnit) (t : Nat) : State :=
  match s.poolOf t u.code with
  | some p => State.pump u p ((s.engine u).waiting.length + 1) s
  | none => s

/-- Dispatch in the pool of an instance; one that stands in no pool still takes what came through its own mailbox. -/
def State.pumpAt (s : State) (u : EngUnit) (n : Nat) : State :=
  match s.poolAt u n with
  | some p => State.pump u p ((s.engine u).waiting.length + 1) s
  | none =>
    match (s.engine u).waiting.find? (fun j => j.only == some n && !s.stalledJob j) with
    | some j => if s.takesJob u n j && (s.inst u n).idle then s.begin u n j else s
    | none => s

/-- An operation that waited for randomness is looked at again. -/
def State.unstall (s : State) (e : EngSrc) : State :=
  match e with
  | .raw r => { s with ent := { s.ent with stalled := s.ent.stalled.filter fun c => decide (c ≠ .command r) } }
  | .step n k =>
    s.setSlot n { s.slot n with rngSteps := (s.slot n).rngSteps &&& ~~~(1#32 <<< k) }

/-- No instance that stands where the operation may run can take it for want of a seed (R241, R260). -/
def State.unseededJob (s : State) (u : EngUnit) (j : Job) : Bool :=
  let l := match j.only with
    | some n => [n]
    | none => s.poolInsts j.tenant u
  (l.filter fun n => s.inPool u n).all (fun n => !(s.inst u n).seeded || (s.inst u n).stalled) && !j.testSeeded u

/-- Waiting commands that no instance can take for want of a seed wait as for randomness (R241, R260). -/
def State.stallWaiting (s : State) (u : EngUnit) : State :=
  (s.engine u).waiting.foldl (fun t j => match j.src with
    | .raw r => if t.unseededJob u j then t.stallFor (.command r) else t
    | .step .. => t) s

/-- A raw operation of a command reaches a unit: it waits, and the pool dispatches. An operation already there is only looked
at again. An urgent one asks for a suspension on Calico (R232). -/
def State.offerRaw (s : State) (u : EngUnit) (r : Req) (code : Nat) : State :=
  let s1 := if s.heldByUnit (.raw r) then s.unstall (.raw r)
    else
      let j := Job.new (.raw r) code r.tenant (s.urgent r)
      if u = .cal ∧ s.urgent r then
        ({ s with cal := { s.cal with asks := s.cal.asks + 1 } }).addWaiting u { j with asking := some s.cal.asks }
      else s.addWaiting u j
  (s1.pumpFor u r.tenant).stallWaiting u

/-- A raw engine command (R222, R250, R275, R296). -/
def State.engineCommand (s : State) (u : EngUnit) (r : Req) (op : Nat) : State :=
  s.hostCommand r op fun s => s.offerRaw u r op

/-- The step is dispatched and not resolved, and its instance runs. -/
def State.stepLive (s : State) (n k : Nat) : Bool :=
  let i := s.slot n
  decide (i.state = .running) && i.dispatched.getLsbD k && !i.resolved.getLsbD k && !i.skipped.getLsbD k
    && decide (k < i.graph.steps.length)

/-- The primitive of a dispatched step on a unit: the pool takes it up when an instance is free (R135). -/
def State.engineStep (s : State) (u : EngUnit) (prim n k : Nat) : State :=
  let st := (s.slot n).graph.step k
  if s.stepLive n k ∧ st.unit = u.code ∧ st.prim = prim ∧ (s.engine u).waiting.any (fun j => decide (j.src = .step n k)) then
    (s.unstall (.step n k)).pumpFor u (s.slot n).tenant
  else s

/-- An operation of a unit named by an OP: a raw command or a step. -/
def State.engineOp (s : State) (u : EngUnit) (op prim : Nat) : EngSrc → State
  | .raw r => s.engineCommand u r op
  | .step n k => s.engineStep u prim n k

/-! ## The end of an operation -/

/-- Write the context an operation leaves, with the core that held it (R226). A context that an export has frozen meanwhile stays
as it was exported (R205). -/
def State.leaveCtx (s : State) (n : Nat) : Option (Nat × Ctx) → State
  | none => s
  | some (c, x) => if (s.ctx c).frozen then s else (s.setCtx c x).markCore n (some c)

/-- Complete a raw command with a result (R93, R99). -/
def State.completeWith (s : State) (r : Req) (o : JobResult) : State :=
  if o.status = 0 then s.answer r o.info o.out else s.complete r o.status o.detail o.reason o.info 0 o.out

/-- Deliver a step's output to its instance (R132). -/
def State.deliverStep (s : State) (n k : Nat) (o : StepOut) : State :=
  let i := s.slot n
  if s.stepLive n k ∧ (i.outs.any fun x => x.1 == k) = false then s.setSlot n { i with outs := i.outs ++ [(k, o)] } else s

/-- A component of a composite command ends (R280): the hash unit's part starts the other two, whose second end completes the
command. -/
def State.endComposite (s : State) (u : EngUnit) (r : Req) (j : Job) : State :=
  match u with
  | .hsh =>
    let urgent := s.urgent r
    let s1 := s.addWaiting .tul (Job.new (.raw r) r.desc.opcode r.tenant urgent)
    let s2 := s1.addWaiting .srg (Job.new (.raw r) r.desc.opcode r.tenant urgent)
    (((s2.pumpFor .tul r.tenant).pumpFor .srg r.tenant).stallWaiting .tul).stallWaiting .srg
  | _ =>
    let other := if u = .tul then s.srg else s.tul
    match other.parts.find? fun x => decide (x.src = .raw r) with
    | none => s.setEngine u { s.engine u with parts := (s.engine u).parts ++ [j] }
    | some x =>
      let (l, c) := if u = .tul then (j, x) else (x, j)
      let t := s.dropJobs fun e => decide (e = .raw r)
      if r.desc.opcode = 0x0425 then t.answer r 0 (l.result.out ++ c.result.out)
      else t.answer r (if l.result.info = 0 ∧ c.result.info = 0 then 0 else 1) []

/-- What an ended operation delivers. -/
def State.deliver (s : State) (u : EngUnit) (n : Nat) (j : Job) : State :=
  match j.src with
  | .step i k =>
    s.deliverStep i k j.result.step
  | .raw r =>
    if r.desc.opcode = 0x0425 ∨ r.desc.opcode = 0x0426 then s.endComposite u r j
    else (s.leaveCtx n j.result.ctxAfter).completeWith r j.result

/-- The counters of an ended operation: its instance's, its unit's, and its pool's sums (R137). -/
def State.countEnd (s : State) (u : EngUnit) (n : Nat) (j : Job) : State :=
  let i := s.inst u n
  let add := match u with
    | .cal => j.blocks
    | .hsh => j.blocks
    | _ => j.cycles
  let s0 := match s.poolAt u n with
    | some p => s.countUsePool u p j
    | none => s
  let s1 := s0.setInst u n { i with count := wrapAdd 64 i.count add, ops := wrapAdd 32 i.ops 1 }
  let e := s1.engine u
  let info1 := decide (u ≠ .cal) && !j.src.isStep && decide (j.result.info = 1) && decide (j.result.status = 0)
  s1.setEngine u { e with opsTotal := wrapAdd 32 e.opsTotal 1, bytes := wrapAdd 64 e.bytes j.bytes,
                          refuseB := satAdd 16 e.refuseB (flag info1) }

/-! ## Faults and fences -/

/-- Fence an instance: it leaves its pool, and the mode becomes DEGRADED (R47, R242). -/
def State.fenceInst (s : State) (u : EngUnit) (n : Nat) : State :=
  (((s.setInst u n { s.inst u n with fenced := true, fencing := false, lifting := false }).afterFence).endUnservedAll).stallWaiting u

/-- Abort the command or instance of an operation for a fault or an overflow: a recipe reports the step itself (R123). -/
def State.abortOp (s : State) (cause : Nat) (j : Job) : State :=
  match j.src with
  | .raw r => s.abortOne cause r
  | .step n k => s.abortInst n cause (some k)

/-- A detected fault (R242, R261, R286, R298): what runs on the instance, or is suspended under it, aborts with cause 2; the
record, the fence and Lace's event follow. -/
def State.unitFault (s : State) (u : EngUnit) (n check : Nat) : State :=
  let i := s.inst u n
  let s1 := (i.running.toList ++ i.stack).foldl (fun t j => t.abortOp 2 j) s
  let i1 := s1.inst u n
  let s2 := s1.setInst u n { i1 with faults := satAdd 8 i1.faults 1 }
  ((s2.offer (0x0601 + 256 * u.code) n check 0).fenceInst u n).faultEvent u.code n

/-- A fence that was asked for is set once nothing runs or is suspended on the instance (R247, R273, R299). -/
def State.settleFence (s : State) (u : EngUnit) (n : Nat) : State :=
  let i := s.inst u n
  if i.fencing ∧ i.running.isNone ∧ i.stack = [] then s.fenceInst u n else s

/-- The fence bit of an instance's control register is set; on a fenced instance a lift that still waits for its test is dropped. -/
def State.askFence (s : State) (u : EngUnit) (n : Nat) : State :=
  if s.present u n = false then s
  else if (s.inst u n).fenced then s.setInst u n { s.inst u n with lifting := false }
  else (s.setInst u n { s.inst u n with fencing := true }).settleFence u n

/-- The fence bit is cleared: the instance rejoins after a passed self-test; a fence not set yet is dropped. -/
def State.askLift (s : State) (u : EngUnit) (n : Nat) : State :=
  if s.present u n = false then s
  else if (s.inst u n).fenced then s.setInst u n { s.inst u n with lifting := true }
  else s.setInst u n { s.inst u n with fencing := false }

/-! ## What an instance does after an operation -/

/-- Resume the message suspended last from its saved state (R235), or a yielded search (R267). -/
def State.resume (s : State) (u : EngUnit) (n : Nat) : State :=
  let i := s.inst u n
  match i.stack with
  | [] => s
  | j :: rest =>
    let x := { j with saved := none, staged := false, refetch := none, handed := 0 }
    let records := match j.saved with
      | some k => SMap.drop k i.records
      | none => i.records
    let s1 := s.setInst u n { i with running := some x, stack := rest, records := records }
    match j.ctx with
    | some c =>
      (match (s1.ctx c).body with
        | .chain k => s1.setCtx c { s1.ctx c with body := .chain { k with depth := 0 } }
        | _ => s1)
    | none => s1

/-- The work an instance with suspended work under it takes first: urgent work on Calico (R235), any work of the pool on
Serge while no lane is free (R267). -/
def State.before (s : State) (u : EngUnit) (n : Nat) (p : PoolRec) : Option Job :=
  let l := (s.poolWaiting u p).filter fun j => s.takesJob u n j
  match u with
  | .cal => s.choose p (l.filter (·.urgent))
  | _ => if (s.firstFree u p).isSome then none else s.choose p l

/-- The next work of an instance whose operation has ended. -/
def State.next (s : State) (u : EngUnit) (n : Nat) : State :=
  let i := s.inst u n
  if i.stack = [] then (s.settleFence u n).pumpAt u n
  else
    match s.poolAt u n with
    | none => s.resume u n
    | some p =>
      match s.before u n p with
      | none => s.resume u n
      | some j =>
        let t := s.begin u n j
        if (t.inst u n).running.isSome then t else t.resume u n

/-- Instances whose work has gone take their next work: what is suspended under them, then what waits (R140, R235, R238, R271). -/
def State.settleUnit (s : State) (u : EngUnit) : State :=
  let t := ((s.engine u).insts.map (·.1)).foldl (fun t n =>
    if (t.inst u n).running.isSome then t else if (t.inst u n).stack = [] then t.settleFence u n else t.next u n) s
  (t.img.force.pools.filter fun p => p.unit == u.code).foldl (fun t p =>
    (State.pump u p ((t.engine u).waiting.length + 1) t).settlePeriod u p) t

/-- The same for every unit. -/
def State.settleUnits (s : State) : State := [EngUnit.cal, .srg, .tul, .hsh].foldl (fun t u => t.settleUnit u) s

/-- A fault detector of an instance fires. -/
def State.faultCommand (s : State) (u : EngUnit) (n check : Nat) : State :=
  if s.onMain ∧ s.present u n ∧ (s.inst u n).fenced = false then (s.unitFault u n check).settleUnits else s
/-- The operation on an instance ends: counters, delivery or a fault, and the next work. -/
def State.endOp (s : State) (u : EngUnit) (n : Nat) : State :=
  let i := s.inst u n
  match i.running with
  | none => s
  | some j =>
    if s.isSearch j.src then s
    else if j.result.fault then (s.unitFault u n 0).settleUnits
    else ((((s.setInst u n { i with running := none }).countEnd u n j).deliver u n j)).next u n

/-! ## Self-tests (R243, R272, R293, R298) -/

/-- The instance may be tested: powered, nothing runs or is suspended (at a candidate's boundary a starved lane's search does
not keep it, R272), and its pool has no waiting work unless it starves; an asked test comes first, and with PERIOD_S 0 only
an asked one or one that lifts a fence runs. -/
def State.testable (s : State) (u : EngUnit) (n : Nat) : Bool :=
  let i := s.inst u n
  let e := s.engine u
  let asked := e.insts.any fun x => x.2.asked
  let idle := match s.poolAt u n with
    | some p => decide (s.poolWaiting u p = [])
    | none => true
  s.onMain && s.present u n && s.islandServes (islandOf u n)
    && (i.running.isNone || (i.starved && i.running.any fun j => s.isSearch j.src)) && decide (i.stack = [])
    && (idle || i.starved || i.fenced) && (!asked || i.asked || i.lifting)
    && (decide (e.periodS ≠ 0) || i.asked || i.lifting)

/-- A self-test of an instance (R242, R243): a failure fences it, ends a search it holds as a fault does (R261), and is
recorded; a pass lifts a fence whose lifting was asked for. -/
def State.selfTest (s : State) (u : EngUnit) (n : Nat) (pass : Bool) (vector : Nat) : State :=
  if s.testable u n = false then s
  else
    let i := s.inst u n
    let lift := pass && i.fenced && i.lifting
    let s1 := s.setInst u n { i with asked := false, starved := false, lifting := false,
                                     fenced := i.fenced && !lift,
                                     stFails := if pass then i.stFails else satAdd 8 i.stFails 1 }
    let e := s1.engine u
    let s2 := s1.setEngine u { e with stInst := n, stPass := pass, stVector := if pass then 0 else vector % 256,
                                      stRuns := satAdd 16 e.stRuns 1 }
    if pass then ((if lift then s2.afterLift else s2).settleFence u n).pumpAt u n
    else
      let s3 := i.running.toList.foldl (fun t j => t.abortOp 2 j) s2
      (((s3.offer (0x0602 + 256 * u.code) n (vector % 256) 0).fenceInst u n).faultEvent u.code n).settleUnits

/-- An instance has not been taken within STARVE_MS of its turn, in the period or by request: nothing new goes to it (R243,
R272). -/
def State.starveTest (s : State) (u : EngUnit) (n : Nat) : State :=
  if s.onMain ∧ s.present u n ∧ ((s.engine u).periodS ≠ 0 ∨ (s.inst u n).asked) ∧ (s.inst u n).fenced = false then
    s.setInst u n { s.inst u n with starved := true } else s

/-- STREQ.GO: the instance is tested next. -/
def State.askTest (s : State) (u : EngUnit) (n : Nat) : State :=
  if s.present u n then s.setInst u n { s.inst u n with asked := true } else s

/-! ## Reseeds -/

/-- Commands that waited for an instance with a seed are looked at again. -/
def State.retryWaiting (s : State) (u : EngUnit) : State :=
  (s.engine u).waiting.foldl (fun t j => match j.src with
    | .raw _ => if t.unseededJob u j then t else t.unstall j.src
    | .step .. => t) s

/-- A reseed falls due after 2^24 cycles, or the first seeding after start-up (R41, R239, R260, R284). -/
def State.reseedCommand (s : State) (u : EngUnit) (n : Nat) : State :=
  if s.onMain ∧ s.present u n then (((s.reseedInst u n).retryWaiting u).pumpAt u n).stallWaiting u else s

/-- A due reseed was not served within 2^26 cycles: no new work (R241, R260, R284). -/
def State.stallInst (s : State) (u : EngUnit) (n : Nat) : State :=
  if s.present u n ∧ (s.inst u n).due then (s.setInst u n { s.inst u n with stalled := true }).stallWaiting u else s

/-! ## Clears of an instance's counters -/

def State.clearInst (s : State) (u : EngUnit) (n : Nat) (f : UnitInst → UnitInst) : State :=
  if s.present u n then s.setInst u n (f (s.inst u n)) else s

/-- Which writer the access rule of the engine blocks admits to a plain register: secure-world firmware and the supervisor in
control; the per-instance control registers and the self-test requests only the latter (R247, R273, R299). -/
def State.engineWrite (s : State) (who : Initiator) (controlOnly : Bool) (f : State → State) : State :=
  if s.onMain = false then s else if controlOnly then s.byControl who f else s.bySecure who f

end Sys2Proof.Machine
end

