-- ==== Sys2Proof/Machine/Calico.lean ====
section
/-! DEFINITION. The commands of the Calico cores (file 07), and Twill's request for a suspension (R138). -/

namespace Sys2Proof.Machine

/-! ## Messages and steps (R211–R230) -/

/-- CAL_ENCRYPT (R222, R223). -/
def execCalEncrypt (r : Req) (s : State) : Host.Outcome State Fault Refusal := .next (s.engineCommand .cal r 0x0401)

/-- CAL_DECRYPT (R222, R224). -/
def execCalDecrypt (r : Req) (s : State) : Host.Outcome State Fault Refusal := .next (s.engineCommand .cal r 0x0402)

/-- CAL_MAC_GEN (R222, R223). -/
def execCalMacGen (r : Req) (s : State) : Host.Outcome State Fault Refusal := .next (s.engineCommand .cal r 0x0403)

/-- CAL_MAC_VER (R222, R223). -/
def execCalMacVer (r : Req) (s : State) : Host.Outcome State Fault Refusal := .next (s.engineCommand .cal r 0x0404)

/-- ECB_ENC, a step (R228). -/
def execEcbEnc (n st : Nat) (s : State) : Host.Outcome State Fault Refusal := .next (s.engineStep .cal 1 n st)

/-- ECB_DEC, a step (R228). -/
def execEcbDec (n st : Nat) (s : State) : Host.Outcome State Fault Refusal := .next (s.engineStep .cal 2 n st)

/-- CBC_ENC, a step (R228). -/
def execCbcEnc (n st : Nat) (s : State) : Host.Outcome State Fault Refusal := .next (s.engineStep .cal 3 n st)

/-- CBC_DEC, a step (R228). -/
def execCbcDec (n st : Nat) (s : State) : Host.Outcome State Fault Refusal := .next (s.engineStep .cal 4 n st)

/-- CBC_MAC, a step (R228). -/
def execCbcMac (n st : Nat) (s : State) : Host.Outcome State Fault Refusal := .next (s.engineStep .cal 5 n st)

/-- CMAC, a step (R228). -/
def execCmac (n st : Nat) (s : State) : Host.Outcome State Fault Refusal := .next (s.engineStep .cal 6 n st)

/-- GCM_SEAL, a step (R228). -/
def execGcmSeal (n st : Nat) (s : State) : Host.Outcome State Fault Refusal := .next (s.engineStep .cal 7 n st)

/-- GCM_OPEN, a step (R228). -/
def execGcmOpen (n st : Nat) (s : State) : Host.Outcome State Fault Refusal := .next (s.engineStep .cal 8 n st)

/-- CAL_MESSAGE_END (R231, R235). -/
def execCalMessageEnd (n : Nat) (s : State) : Host.Outcome State Fault Refusal := .next (s.endOp .cal n)

/-! ## Suspension (R138, R232–R236) -/

/-- Waiting operations of a pool that request a suspension. -/
def State.asking (s : State) (p : PoolRec) : List Job := (s.poolWaiting .cal p).filter (·.asking.isSome)

/-- The request served first: the oldest (R237). -/
def State.oldestAsking (s : State) (p : PoolRec) (n : Nat) : Option Job :=
  ((s.asking p).filter fun j => s.takesJob .cal n j).foldl (fun b j => match b with
    | none => some j
    | some x => if j.asking.getD 0 < x.asking.getD 0 then some j else b) none

/-- A core runs a class N message. -/
def State.runsClassN (s : State) (n : Nat) : Bool := (s.inst .cal n).running.any (·.classN)

/-- Cipher invocations that a core's running message has left: free, as a command is no measure of time, and no more than its last
suspension left (assumption log 52). -/
def State.blocksLeft (s : State) (n : Nat) : Nat :=
  match (s.inst .cal n).running with
  | some j => Config.freshNat (s.fresh + n) % (j.blocks - j.done + 1)
  | none => 0

/-- A waiting step asks for a suspension. -/
def State.ask (s : State) (n st : Nat) : State :=
  { s with cal := { s.cal with
      asks := s.cal.asks + 1,
      waiting := s.cal.waiting.map fun j => if j.src = .step n st then { j with asking := some s.cal.asks } else j } }

/-- TWILL_SUSPENSION_REQUEST (R138): the step is urgent, or requests by waiting steps are not disabled; every core that stands in the
step's pool runs a class N message and none is free. -/
def execTwillSuspensionRequest (n st : Nat) (s : State) : Host.Outcome State Fault Refusal :=
  let tenant := (s.slot n).tenant
  match s.poolOf tenant 0 with
  | none => .next s
  | some p =>
    if s.stepLive n st ∧ ((s.slot n).urgent ∨ s.twl.suspWait ≠ 0) ∧ s.cal.waiting.any (fun j => decide (j.src = .step n st) && j.asking.isNone)
        ∧ (s.poolStanding .cal p).all (fun c => s.runsClassN c) then
      let x := s.poolUse p
      .next ((s.ask n st).setPoolUse p { x with suspReq := satAdd 16 x.suspReq 1 })
    else .next s

/-- The next free of a core's four suspension records (R233). -/
def UnitInst.freeRecord (i : UnitInst) : Nat := ((List.range 4).find? fun k => i.stack.all fun j => j.saved != some k).getD 0

/-- Output bytes a message has produced after `d` blocks, as far as they are text (R223). -/
def CalRun.produced (x : CalRun) (d : Nat) : Nat :=
  if x.cmd.mac then 0 else (if x.cmd.sealing then 16 else 0) + min x.cmd.text (d * blockLen x.cmd.cipher)

/-- The state of a suspended message saved where R233 puts it: its CAL_CHAIN context, its instance's record, or a record of the core,
whose contents have no layout in the spec (free, assumption log 52). -/
def State.saveState (s : State) (n d : Nat) (j : Job) : State :=
  match j.ctx, j.run, j.src with
  | some c, some x, .raw r =>
    let depth := (s.inst .cal n).stack.length
    (match s.chainAfter r x (d * blockLen x.cmd.cipher) with
      | some k => if (s.ctx c).frozen then s
          else s.setCtx c { s.ctx c with body := .chain { k with depth := depth, core := n } }
      | none => s)
  | _, _, .step k _ => (s.setSlot k { s.slot k with suspRec := s.randomBytes 64 }).drew 64
  | _, _, .raw _ =>
    (match j.saved with
      | some k => (s.setInst .cal n { s.inst .cal n with records := SMap.set [] (s.inst .cal n).records k (s.randomBytes 64) }).drew 64
      | none => s)

/-- A suspended message as it is kept under its core. One that gives way to a step keeps its staging; one that gives way to a raw
command hands over its output, and fetches its input again from offset 16 × BLOCKS (R233). -/
def Job.suspended (j : Job) (d : Nat) (record : Nat) (forStep : Bool) : Job :=
  { j with
    done := d
    saved := if j.ctx.isNone && !j.src.isStep then some record else none
    staged := forStep && !j.src.isStep
    refetch := if forStep || j.src.isStep then none else some (16 * d)
    handed := match j.run with
      | some x => if forStep then 0 else x.produced d
      | none => 0 }

/-- What is suspended under a core gives up its staging for a raw command (R233). -/
def Job.unstaged (j : Job) : Job :=
  if j.staged then { j with staged := false, refetch := some (16 * j.done), handed := (j.run.map (·.produced j.done)).getD 0 } else j

/-- Suspend the running message of a core for a request, `left` of its blocks to go (R226, R233). -/
def State.suspend (s : State) (n left : Nat) (j q : Job) : State :=
  let i := s.inst .cal n
  let d := j.blocks - left
  let x := j.suspended d i.freeRecord q.src.isStep
  let under := if q.src.isStep then i.stack else i.stack.map Job.unstaged
  let s1 := s.setInst .cal n { i with running := none, stack := x :: under, suspensions := satAdd 16 i.suspensions 1 }
  let s2 := s1.saveState n d x
  if q.src.isStep then s2 else { s2 with mem := s2.mem.zeroRange (operandBase .cal n + 0x1000) 0xC000 }

/-- The core of some that has most blocks left, the lowest-numbered of several (R232). -/
def State.mostLeft (s : State) (l : List Nat) : Option Nat :=
  l.foldl (fun b n => match b with
    | none => some n
    | some m => if s.blocksLeft m < s.blocksLeft n then some n else b) none

/-- The cores whose running message may be suspended (R232). -/
def State.suspendable (s : State) (p : PoolRec) : List Nat :=
  (s.poolStanding .cal p).filter fun n =>
    s.runsClassN n && decide (s.cal.minRem < s.blocksLeft n) && decide ((s.inst .cal n).stack.length < 4)

/-- Serve a request on a core that has just been cleared for it; where the request finds nothing to do, the core goes on. -/
def State.serveAsking (s : State) (n : Nat) (q : Job) : State :=
  let t := s.begin .cal n q
  if (t.inst .cal n).running.isSome then t else t.next .cal n

/-- CAL_SUSPEND (R232–R234): no core of the pool is free, a request waits, and the core is the one that R232 chooses. -/
def execCalSuspend (n : Nat) (s : State) : Host.Outcome State Fault Refusal :=
  match (s.inst .cal n).running, s.poolAt .cal n with
  | some j, some p =>
    match s.oldestAsking p n with
    | none => .next s
    | some q =>
      if s.firstFree .cal p = none ∧ s.mostLeft (s.suspendable p) = some n then
        .next (((s.suspend n (s.blocksLeft n) j q).skip 32).serveAsking n q)
      else .next s
  | _, _ => .next s

/-- A Twill step ended by an overflow counts in its pool (TWL_PSUSP). -/
def State.countOverflow (s : State) (p : PoolRec) (j : Job) : State :=
  let x := s.poolUse p
  if j.src.isStep then s.setPoolUse p { x with overflows := satAdd 16 x.overflows 1 } else s

/-- CAL_SUSPENSION_OVERFLOW (R236): every core of the pool runs a class N message with four messages suspended under it, so the running
message of the core that R232's ordering chooses ends with cause 4, and the request is served. -/
def execCalSuspensionOverflow (n : Nat) (s : State) : Host.Outcome State Fault Refusal :=
  match (s.inst .cal n).running, s.poolAt .cal n with
  | some j, some p =>
    let cores := s.poolStanding .cal p
    if s.cal.ovfWait ≠ 0 ∧ cores.all (fun c => s.runsClassN c && decide ((s.inst .cal c).stack.length = 4))
        ∧ s.mostLeft cores = some n then
      match s.oldestAsking p n with
      | none => .next s
      | some q =>
        let s1 := (s.skip 32).abortOp 4 j
        let i1 := s1.inst .cal n
        let s2 := (s1.setInst .cal n { i1 with overflows := satAdd 16 i1.overflows 1 }).countOverflow p j
        .next (s2.serveAsking n q).settleUnits
    else .next s
  | _, _ => .next s

/-! ## Faults, self-tests, reseeds, fences and clears (R239–R243, R247) -/

/-- CAL_FAULT (R242). -/
def execCalFault (n check : Nat) (s : State) : Host.Outcome State Fault Refusal := .next (s.faultCommand .cal n check)

/-- CAL_SELFTEST (R243). -/
def execCalSelftest (n : Nat) (pass : Bool) (vector : Nat) (s : State) : Host.Outcome State Fault Refusal :=
  .next (s.selfTest .cal n pass vector)

/-- CAL_SELFTEST_STARVE (R243). -/
def execCalSelftestStarve (n : Nat) (s : State) : Host.Outcome State Fault Refusal := .next (s.starveTest .cal n)

/-- CAL_SELFTEST_REQUEST (R243, R247). -/
def execCalSelftestRequest (who : Initiator) (n : Nat) (s : State) : Host.Outcome State Fault Refusal :=
  .next (s.engineWrite who true fun s => s.askTest .cal n)

/-- CAL_RESEED (R239, R240). -/
def execCalReseed (n : Nat) (s : State) : Host.Outcome State Fault Refusal := .next (s.reseedCommand .cal n)

/-- CAL_RESEED_STALL (R241). -/
def execCalReseedStall (n : Nat) (s : State) : Host.Outcome State Fault Refusal := .next (s.stallInst .cal n)

/-- CAL_FENCE (R247). -/
def execCalFence (who : Initiator) (n : Nat) (s : State) : Host.Outcome State Fault Refusal :=
  .next (s.engineWrite who true fun s => s.askFence .cal n)

/-- CAL_FENCE_LIFT (R247). -/
def execCalFenceLift (who : Initiator) (n : Nat) (s : State) : Host.Outcome State Fault Refusal :=
  .next (s.engineWrite who true fun s => s.askLift .cal n)

/-- CAL_CLEAR_BLK (R247). -/
def execCalClearBlk (who : Initiator) (n : Nat) (s : State) : Host.Outcome State Fault Refusal :=
  .next (s.engineWrite who false fun s => s.clearInst .cal n fun i => { i with count := 0 })

/-- CAL_CLEAR_SUSP (R247). -/
def execCalClearSusp (who : Initiator) (n : Nat) (s : State) : Host.Outcome State Fault Refusal :=
  .next (s.engineWrite who false fun s => s.clearInst .cal n fun i => { i with suspensions := 0, overflows := 0 })

/-- CAL_CLEAR_FAULT (R247). -/
def execCalClearFault (who : Initiator) (n : Nat) (s : State) : Host.Outcome State Fault Refusal :=
  .next (s.engineWrite who false fun s => s.clearInst .cal n fun i => { i with faults := 0, stFails := 0 })

end Sys2Proof.Machine
end

