-- ==== Sys2Proof/Machine/Lace.lean ====
section
/-! DEFINITION. Lace: the mesh, the die monitors, the backup domain's monitors, alarms that end, stimuli, and the tamper log
(R397–R422). -/

namespace Sys2Proof.Machine

/-! ## The mesh (R398–R400) -/

/-- Mesh channels. -/
def meshCount : Nat := 448

/-- A channel's state. -/
def State.channel (s : State) (ch : Nat) : Channel := SMap.get Channel.rest s.lace.channels ch

/-- Replace it. -/
def State.setChannel (s : State) (ch : Nat) (c : Channel) : State :=
  { s with lace := { s.lace with channels := SMap.set Channel.rest s.lace.channels ch c } }

/-- The channel is enrolled. -/
def State.enrolled (s : State) (ch : Nat) : Bool := (s.channel ch).baseline.isSome

/-- The channel is in use: named by the table in force, or enrolled (R398). -/
def State.inUse (s : State) (ch : Nat) : Bool :=
  s.enrolled ch || (!s.lace.romTable && s.lace.table.any fun x => x.1 == ch)

/-- The distance of two sample codes. -/
def sampleGap (a b : Nat) : Nat := if a < b then b - a else a - b

/-- The deviation D of a fingerprint and the first sample that shows it (R400). -/
def deviation (b l : List Nat) : Nat × Nat :=
  let ds := (l.zip b).map fun p => sampleGap p.1 p.2
  let d := ds.foldl max 0
  (d, (ds.findIdx? (· == d)).getD 0)

/-- The kind of a deviation (R400): an OPEN before a SHORT. -/
def meshKind (b l : List Nat) : Nat :=
  let ps := l.zip b
  if ps.any fun p => decide (960 ≤ p.1) && decide (p.2 < 768) then 1
  else if ps.any fun p => decide (p.1 ≤ 64) && decide (256 < p.2) then 2 else 0

/-- A fingerprint as the engine takes it: 64 codes of 10 bits (R399). -/
def fingerprint (l : List Nat) : Option (List Nat) := if l.length = 64 then some (l.map (· % 1024)) else none

/-- A channel after a scan has measured D at a sample. -/
def Channel.measured (c : Channel) (x : Nat × Nat) : Channel :=
  { c with d := x.1, sample := x.2, maxd := max c.maxd x.1, maxSample := if c.maxd < x.1 then x.2 else c.maxSample }

/-- A scan of a channel that is armed and not under stimulus: D against the threshold. -/
def State.scan (s : State) (ch : Nat) (samples : List Nat) (onHit : Channel → Baseline → List Nat → Nat × Nat → State) :
    State :=
  let c := s.channel ch
  match c.baseline, fingerprint samples with
  | some b, some l =>
    if s.onMain = false ∨ meshCount ≤ ch ∨ c.armed = false ∨ s.lace.stim = some ch then s
    else
      let x := deviation b.samples l
      let m := c.measured x
      if b.threshold ≤ x.1 then onHit m b l x
      else (s.setChannel ch { m with confirm := false }).calm ch
  | _, _ => s

/-- MESH_SCAN (R399, R400): a deviation at or above the threshold calls for the confirmation scan. -/
def execMeshScan (ch : Nat) (samples : List Nat) (s : State) : Host.Outcome State Fault Refusal :=
  .next (s.scan ch samples fun m _ _ _ => s.setChannel ch { m with confirm := true })

/-- MESH_CONFIRM_SCAN (R400, R416): the alarm with its kind, D, threshold and sample. -/
def execMeshConfirmScan (ch : Nat) (samples : List Nat) (s : State) : Host.Outcome State Fault Refusal :=
  .next (
    if (s.channel ch).confirm then
      s.scan ch samples fun m b l x =>
        let k := meshKind b.samples l
        (s.setChannel ch { m with confirm := false, kind := k }).alarm ch
          (k * 2 ^ 26 + x.1 * 2 ^ 16 + b.threshold * 2 ^ 6 + x.2)
    else s)

/-! ## Die monitors (R403) -/

/-- A monitor of the main domain finds its condition present or absent. -/
def State.detect (s : State) (mon : Nat) (present : Bool) (data : Nat) : State :=
  if s.onMain = false then s else if present then s.raiseAlarm mon data false else s.calm mon

/-- The sector of a photodiode cell (R403). -/
def lightSector (cell : Nat) : Nat := 6 * (cell / 48 / 8) + cell % 48 / 8

/-- Note whether a cell reads above THRESH. -/
def State.setLit (s : State) (cell : Nat) (above : Bool) : State :=
  let l := s.lace.lit.filter (· != cell)
  { s with lace := { s.lace with lit := if above then cell :: l else l } }

/-- LIGHT_DETECT (R403, R409, R410): a cell above THRESH raises its sector's alarm; the condition ends with the sector's last one. -/
def execLightDetect (cell level : Nat) (s : State) : Host.Outcome State Fault Refusal :=
  .next (
    if s.onMain ∧ cell < 2304 then
      let above := decide (s.lace.thresh < level)
      let t := s.setLit cell above
      if above then t.raiseAlarm (0x300 + lightSector cell) (cell * 2 ^ 16 + level % 65536) false
      else if t.lace.lit.any (fun x => lightSector x == lightSector cell) then t
      else t.calm (0x300 + lightSector cell)
    else s)

/-- JUNCTION_TEMP_DETECT (R403): reading in °C plus 64. -/
def execJunctionTempDetect (sensor reading : Nat) (s : State) : Host.Outcome State Fault Refusal :=
  .next (
    if sensor < 32 ∧ s.onMain then
      (s.senseJunction sensor reading).detect (0x400 + sensor)
        (decide (reading < s.lace.tlimLo) || decide (s.lace.tlimHi < reading)) (reading % 1024)
    else s)

/-- VIN_OVERVOLTAGE (R403). -/
def execVinOvervoltage (mv : Nat) (s : State) : Host.Outcome State Fault Refusal :=
  .next (
    if s.onMain then
      { s with pwr := { s.pwr with vinMv := mv % 65536 } }.detect 0x500 (decide (13800 < mv)) (mv % 65536)
    else s)

/-- The nominal voltage of an internal rail, in mV (R503). -/
def railNominal (rail : Nat) : Nat := [750, 800, 1800, 900, 1200, 1000, 1800, 1200].getD rail 0

/-- A rail of `mv` millivolts and `uv` microvolts stands outside ±8 % of its nominal value (R503). -/
def railOff (rail mv uv : Nat) : Bool :=
  let f := 1000 * railNominal rail
  let v := 1000 * mv + uv
  decide (100 * v < 92 * f) || decide (108 * f < 100 * v)

/-- RAIL_DETECT (R403, R503): the rail stands outside ±8 % of its nominal value. The alarm carries its whole millivolts. -/
def execRailDetect (rail mv uv : Nat) (s : State) : Host.Outcome State Fault Refusal :=
  .next (if rail < 8 then s.detect (0x501 + rail) (railOff rail mv uv) (mv % 65536) else s)

/-- The nominal clock of an island, in Hz (R50, R301); none where the spec gives no number. -/
def islandClock (isl : Nat) : Option Nat :=
  if isl = 0 then some 1000000000
  else if isl ≤ 4 then some 1600000000
  else if isl ≤ 8 then some 1000000000
  else if isl = 9 then some 1250000000
  else if isl = 10 ∨ isl = 11 then some 1000000000
  else if isl = 12 ∨ isl = 13 then some 1200000000
  else if isl = 17 then some 250000000
  else if isl = 18 then some 32768
  else none

/-- A clock of this period, in ps, is outside ±5 % of the island's nominal frequency (R403). -/
def clockOff (isl period : Nat) : Bool :=
  match islandClock isl with
  | some f => decide (f * period * 105 < 100 * 10 ^ 12) || decide (100 * 10 ^ 12 < f * period * 95)
  | none => false

/-- FREQUENCY_DETECT (R397, R403): the clock's period, and `short` where a half-period is below 40 % of the nominal period (of an
island whose clock the spec does not give, where the frequency is off too). The monitors of absent islands are absent. -/
def execFrequencyDetect (isl period : Nat) (short : Bool) (s : State) : Host.Outcome State Fault Refusal :=
  .next (if s.islandPresent isl then s.detect (0x600 + isl) (clockOff isl period || short) (period % 65536) else s)

/-- GLITCH_DETECT (R403). -/
def execGlitchDetect (n : Nat) (s : State) : Host.Outcome State Fault Refusal :=
  .next (if n < 16 then s.detect (0x700 + n) true 0 else s)

/-! ## The backup domain (R404, R405, R412) -/

/-- The mode of an intrusion pin. -/
def Backup.pinMode (b : Backup) (pin : Nat) : Nat := bits b.intrcfg.toNat (2 * pin) 2

/-- Bit `n` of an 8-bit pin register. -/
def intrBit (n : Nat) : BitVec 8 := 1#8 <<< n

/-- A sample of a pin's condition: two consecutive ones raise its alarm (R404). -/
def State.pinSample (s : State) (pin : Nat) (hit : Bool) : State :=
  let b := s.bkd
  let both := hit && b.intrPrev.getLsbD pin
  let t := { s with bkd := { b with
      intrPrev := if hit then b.intrPrev ||| intrBit pin else b.intrPrev &&& ~~~(intrBit pin)
      intrCond := if both then b.intrCond ||| intrBit pin else b.intrCond &&& ~~~(intrBit pin) } }
  if both then t.alarm (0x200 + pin) 0 else if hit then t else t.calm (0x200 + pin)

/-- INTRUSION_PIN_SAMPLE (R404): a static pin at its alarm level. -/
def execIntrusionPinSample (pin : Nat) (level : Bool) (s : State) : Host.Outcome State Fault Refusal :=
  .next (
    if pin < 8 then
      let b := s.bkd
      let t := { s with bkd := { b with
          intrLevel := if level then b.intrLevel ||| intrBit pin else b.intrLevel &&& ~~~(intrBit pin) } }
      if b.pinMode pin = 1 then t.pinSample pin (!level)
      else if b.pinMode pin = 2 then t.pinSample pin level else t
    else s)

/-- DYNAMIC_PAIR_TICK (R404): pin 2k + 1 must read back the bit that pin 2k drives. -/
def execDynamicPairTick (pair : Nat) (same : Bool) (s : State) : Host.Outcome State Fault Refusal :=
  .next (if pair < 4 ∧ s.bkd.pinMode (2 * pair) = 3 then s.pinSample (2 * pair + 1) (!same) else s)

/-- BACKUP_MONITOR_CHECK (R405, R412): VBAT in mV, temperature in °C plus 64. -/
def execBackupMonitorCheck (vbatMv temp : Nat) (s : State) : Host.Outcome State Fault Refusal :=
  .next (
    let t := { s with bkd := { s.bkd with vbatMv := vbatMv % 65536, temp := temp % 1024 } }
    let t1 := if temp < 14 ∨ 194 < temp then t.alarm 0x210 (temp % 1024) else t.calm 0x210
    if vbatMv < 2200 ∨ 3900 < vbatMv then t1.alarm 0x211 (vbatMv % 65536) else t1.calm 0x211)

/-- BKD_INTRCFG_WRITE (R404): only in CEREMONY, and with both pins of a pair in mode 3 or neither. -/
def pairsOk (v : BitVec 16) : Bool :=
  (List.range 4).all fun k => decide (bits v.toNat (4 * k) 2 = 3) == decide (bits v.toNat (4 * k + 2) 2 = 3)

/-- Set the pin modes, with the PINCFG entry of a change; no pin has its condition until its samples show it again (R404, R417). -/
def State.setPins (s : State) (v : BitVec 16) : State :=
  if v = s.bkd.intrcfg then s
  else
    let t := { s with bkd := { s.bkd with intrcfg := v, intrPrev := 0, intrCond := 0 } }
    ((List.range 8).foldl (fun u pin => u.calm (0x200 + pin)) t).logEvent 0x0A06 v.toNat

/-- BKD_INTRCFG_WRITE (R404, R422). -/
def execBkdIntrcfgWrite (who : Initiator) (v : BitVec 16) (s : State) : Host.Outcome State Fault Refusal :=
  .next (s.byControl who fun s =>
    if s.sys.mode = .ceremony ∧ pairsOk v then s.setPins v else s.offer 0x1201 v.toNat 0 0)

/-! ## Alarms that end (R407) -/

/-- ALARM_HOLD_EXPIRY (R407): an A0 or A1 alarm whose condition has been absent for HOLD_MS. -/
def execAlarmHoldExpiry (mon : Nat) (s : State) : Host.Outcome State Fault Refusal :=
  .next (
    let m := s.monitor mon
    match m.standing with
    | some k =>
      if (s.onMain ∨ isBackupMonitor mon) ∧ k < 2 ∧ m.condition = false then s.setMonitor mon { m with standing := none } else s
    | none => s)

/-! ## Stimuli (R411, R414) -/

/-- The monitor is present (LACE_MSTAT.PRESENT). -/
def State.monitorPresent (s : State) (mon : Nat) : Bool := issuedMonitor mon && !absentMonitor s.part mon

/-- The monitor is one that Lace stimulates (R414): present, its channel enrolled, its pin monitored. -/
def State.stimulable (s : State) (mon : Nat) : Bool :=
  s.onMain && s.monitorPresent mon && decide (mon < 0x800) && decide (s.lace.enrolling = none)
    && (decide (0x1C0 ≤ mon) || s.enrolled mon)
    && (decide (mon < 0x200) || decide (0x208 ≤ mon) || decide (s.bkd.pinMode (mon - 0x200) ≠ 0))

/-- A stimulus starts: its monitor's response is suppressed. -/
def State.startStimulus (s : State) (mon : Nat) : State :=
  let t := s.setMonitor mon { s.monitor mon with suppressed := true }
  { t with lace := { t.lace with stim := some mon } }

/-- STIMULUS_DUE (R414): it waits while another runs. -/
def execStimulusDue (mon : Nat) (s : State) : Host.Outcome State Fault Refusal :=
  .next (
    if s.stimulable mon ∧ s.lace.periodS ≠ 0 then
      match s.lace.stim with
      | none => s.startStimulus mon
      | some _ => if s.lace.stimDue.contains mon then s else { s with lace := { s.lace with stimDue := s.lace.stimDue ++ [mon] } }
    else s)

/-- STIMULUS_REQUEST (R414, R421): LACE_STREQ. -/
def execStimulusRequest (who : Initiator) (v : W32) (s : State) : Host.Outcome State Fault Refusal :=
  .next (s.byControl who fun s =>
    let mon := bits v.toNat 0 16
    if v.getLsbD 16 ∧ s.stimulable mon then
      match s.lace.stim with
      | none => s.startStimulus mon
      | some _ => { s with lace := { s.lace with stimAsked := some mon } }
    else s)

/-- The stimulus that waits, a requested one first. -/
def State.nextStimulus (s : State) : State :=
  match s.lace.stimAsked with
  | some m => { s with lace := { s.lace with stimAsked := none } }.startStimulus m
  | none =>
    match s.lace.stimDue with
    | m :: t => { s with lace := { s.lace with stimDue := t } }.startStimulus m
    | [] => s

/-- The parameter of an alarm that suppression has held back or a failed stimulus raises: the reading at that moment, which
nothing states (free, assumption log 3); pins and glitch detectors have none (R416). -/
def State.stimData (s : State) (mon : Nat) : Nat :=
  if (0x200 ≤ mon ∧ mon < 0x208) ∨ 0x700 ≤ mon then 0 else s.freeNat 28

/-- STIMULUS_END (R414): suppression ends; a stimulus that fails raises its monitor's own alarm with STIM, and a condition still
present raises it as usual. -/
def execStimulusEnd (pass : Bool) (s : State) : Host.Outcome State Fault Refusal :=
  .next (
    match s.lace.stim with
    | none => s
    | some mon =>
      let m := s.monitor mon
      let t := s.setMonitor mon { m with suppressed := false }
      let l := t.lace
      let u := { t.skip 1 with lace := { l with
          stim := none, stMonitor := mon, stPass := pass, stCut := false, stRuns := satAdd 14 l.stRuns 1,
          stimFails := if pass then l.stimFails else satAdd 16 l.stimFails 1 } }
      let v := if pass = false then u.raiseAlarm mon (s.stimData mon) true
        else if m.condition then u.raiseAlarm mon (s.stimData mon) false else u
      if v.lace.stim.isSome then v else v.nextStimulus)

/-! ## The tamper log (R416–R418) -/

/-- The 16 bytes of an entry (R416). -/
def LogEntry.bytes (e : LogEntry) : Bytes := leBytes 6 e.ts ++ leBytes 2 e.code ++ leBytes 4 e.param ++ leBytes 4 e.chain.toNat

/-- An entry with its chain value over the previous 16 bytes (R416). -/
def chained (prev : Bytes) (ts code param : Nat) : LogEntry :=
  let e : LogEntry := { ts := ts, code := code, param := param, chain := 0 }
  let h := beBytes 32 (Crypto.sha256 (prev ++ e.bytes.take 12)).toNat
  { e with chain := BitVec.ofNat 32 (leAt h 0 4) }

/-- The 16 bytes that entry `i` is chained to. -/
def Backup.before (b : Backup) (i : Nat) : Bytes :=
  if i = 0 then bytes128 Config.deviceIdentity
  else
    match b.log[i - 1]? with
    | some e => e.bytes
    | none => zeros 16

/-- The OVERFLOW counter of a code: the nibble's index (R418). -/
def overflowNibble (code : Nat) : Nat :=
  if code < 0x200 then 0 else if code < 0x210 then 1 else if code < 0x300 then (if code = 0x210 then 3 else 4)
  else if code < 0x400 then 2 else if code < 0x500 then 3 else if code < 0x800 then 4 else if code < 0x900 then 5
  else if code < 0xA00 then 6 else 7

/-- The counters with one more event, saturating (R418). -/
def overflowCount (counters code : Nat) : Nat :=
  let k := overflowNibble code
  if bits counters (4 * k) 4 = 15 then counters else counters + 2 ^ (4 * k)

/-- The log is full: its last entry is OVERFLOW. -/
def Backup.logFull (b : Backup) : Bool := decide (2048 ≤ b.log.length)

/-- LOCKED with the lock kept, on a full log (R418): none in END_OF_LIFE (R428). -/
def State.logFullLock (s : State) : State :=
  if s.lifeCycle = 3 then s
  else if s.onMain then
    let t := s.lockSequence 12
    { t with bkd := { t.bkd with lockKept := true } }
  else { s with bkd := { s.bkd with lockKept := true } }

/-- Append an event to the log, or count it in OVERFLOW (R416, R418). -/
def State.appendLog (s : State) (e : LogEvent) : State :=
  let b := s.bkd
  let n := b.log.length
  if n < 2047 then { s with bkd := { b with log := b.log ++ [chained (b.before n) b.ts e.code e.param] } }
  else
    let old := (b.log[2047]?.map (·.param)).getD 0
    let x := chained (b.before 2047) b.ts 0x0AFF (overflowCount old e.code)
    let t := { s with bkd := { b with log := b.log.take 2047 ++ [x] } }
    if n = 2047 then t.logFullLock else t

/-- TAMPER_LOG_WRITE (R417): the oldest queued event; a MERGED entry follows the queue as it drains. -/
def execTamperLogWrite (s : State) : Host.Outcome State Fault Refusal :=
  .next (
    match s.bkd.logQueue with
    | [] => s
    | e :: rest =>
      let t := { s with bkd := { s.bkd with logQueue := rest } }.appendLog e
      if t.bkd.logQueue = [] ∧ t.bkd.merged ≠ 0 then
        { t with bkd := { t.bkd with logQueue := [{ code := 0x0A07, param := t.bkd.merged % 2 ^ 32 }], merged := 0 } }
      else t)

/-! ## Audit signatures and the two queries (R419, R420) -/

/-- The key that signs audit exports (R70, R419): none where AUDITNODE is 0, its key cannot be resolved, or its algorithm has no
audit signature. -/
def State.auditKey (s : State) : Option (State × RKey) :=
  let n := s.img.force.recorder.auditNode
  if n = 0 then none
  else
    match s.resolve 0 (s.tenant 0).colour (mkHandle 0 n 0) with
    | .error _ => none
    | .ok (t, k, _) => if isCurve k.alg ∨ k.alg = 0x18 then some (t, k) else none

/-- Words of ENT_DATA an audit signature draws: those of an ECDSA signature (R260). -/
def auditWords (alg : Nat) : Nat := if isCurve alg then Machine.SrgOp.draws ⟨8, alg, 0, 0, 0, []⟩ else 0

/-- An audit signature: ECDSA with the hash of the order's length, or pure Ed25519 (R419). -/
def auditSign (k : RKey) (rnd msg : Bytes) : Bytes :=
  let h := if orderBits k.alg = 256 then beBytes 32 (Crypto.sha256 msg).toNat
    else if orderBits k.alg = 384 then beBytes 48 (Crypto.sha384 msg).toNat else beBytes 64 (Crypto.sha512 msg).toNat
  let sig := if isCurve k.alg then Crypto.ecdsaSign k.alg k.key h rnd else Crypto.eddsaSign 0x18 k.key msg
  (sig ++ zeros (sigLen k.alg)).take (sigLen k.alg)

/-- Answer an audit export: header with SIGNED by whether the key signs, body, signature (R419, R456). Where the signature's
randomness is not there the command waits for it (R310). -/
def State.answerAudit (s : State) (r : Req) (info : Nat) (header : Bool → Bytes) (body : Bytes) : State :=
  match s.auditKey with
  | none => s.answer r info (header false ++ body)
  | some (t, k) =>
    let msg := header true ++ body
    if r.desc.outLen < msg.length + sigLen k.alg then s.complete r 0x0301 0 0x25 0 (msg.length + sigLen k.alg) []
    else
      match t.draw (auditWords k.alg) with
      | none => s.stallFor (.command r)
      | some (b, u) => u.answer r info (msg ++ auditSign k b msg)

/-- TAMPER_EXPORT (R419). -/
def execTamperExport (r : Req) (s : State) : Host.Outcome State Fault Refusal :=
  .next (s.hostCommand r 0x0621 fun s =>
    let first := r.desc.par 0 2
    let count := r.desc.par 2 2
    let n := s.bkd.log.length
    if count = 0 ∨ n < first + count then s.refuseRange r 0x90
    else
      let header (signed : Bool) : Bytes :=
        leBytes 4 0x474F4C54 ++ leBytes 2 1 ++ leBytes 2 (flag signed + 2 * flag s.bkd.logFull) ++ leBytes 2 first
          ++ leBytes 2 count ++ leBytes 2 n ++ zeros 2 ++ bytes128 Config.deviceIdentity ++ leBytes 6 s.bkd.ts ++ zeros 2
          ++ leBytes 8 s.sys.optime ++ leBytes 4 s.bkd.pwrcyc ++ zeros 12
      s.answerAudit r n header (((s.bkd.log.drop first).take count).flatMap (·.bytes)))

/-- LACE_CHSTAT.STATE: 0 unused, 1 NOT_ENROLLED, 2 armed, 3 alarm, 4 stimulus, 5 enrolment rejected. DESIGN CHOICE: a channel
without enrolment that no record of the image in force names reads 0, at first use too (R42 lists NOT_ENROLLED for the channels
in use only by its table; assumption log 147). -/
def State.channelState (s : State) (ch : Nat) : Nat :=
  let c := s.channel ch
  if c.rejected then 5
  else if s.lace.stim = some ch then 4
  else if (s.monitor ch).standing.isSome then 3
  else if c.armed then 2
  else if s.inUse ch then 1 else 0

/-- The threshold of a channel (LACE_CHTH). -/
def Channel.threshold (c : Channel) : Nat := (c.baseline.map (·.threshold)).getD 0

/-- MESH_QUERY (R420). -/
def execMeshQuery (r : Req) (s : State) : Host.Outcome State Fault Refusal :=
  .next (s.hostCommand r 0x0622 fun s =>
    let ch := r.desc.par 0 2
    let c := s.channel ch
    if meshCount ≤ ch then s.refuseRange r 0x91
    else if c.baseline.isNone then s.refuse r 0x0204 ch 0
    else
      s.answer r 0 (leBytes 1 (s.channelState ch) ++ leBytes 1 (s.alarmCfg ch).cls ++ zeros 2 ++ leBytes 2 c.d
        ++ leBytes 2 c.threshold ++ leBytes 2 c.maxd ++ leBytes 1 c.maxSample ++ zeros 5))

end Sys2Proof.Machine
end

