-- ==== Sys2Proof/Machine/Flags.lean ====
section
/-! DEFINITION. The predicate registers of a Zynkel core: reading and writing them, the guard, the compares and the
predicate operations (R321–R323). -/

namespace Sys2Proof

/-- The two targets of a compare (R323). -/
def ZArgs.pT (a : ZArgs) : Nat := a.rd % 8
def ZArgs.pF (a : ZArgs) : Nat := a.rd / 8 % 8

end Sys2Proof

namespace Sys2Proof.Machine

/-- General register `k`; g0 reads as zero (R321). -/
def ZBank.greg (b : ZBank) (k : Nat) : W64 := if k = 0 then 0 else SMap.get 0 b.g k

/-- Write general register `k`; a write of g0 is discarded (R321). -/
def ZBank.setG (b : ZBank) (k : Nat) (v : W64) : ZBank :=
  if k = 0 ∨ 64 ≤ k then b else { b with g := SMap.set 0 b.g k v }

/-- Predicate `k`; p0 reads as 1 (R321). -/
def ZBank.pred (b : ZBank) (k : Nat) : Bool := decide (k = 0) || b.p.getLsbD k

/-- Write predicate `k`; a write of p0 is discarded (R321). -/
def ZBank.setPred (b : ZBank) (k : Nat) (v : Bool) : ZBank :=
  if k = 0 ∨ 8 ≤ k then b
  else { b with p := if v then b.p ||| (1#8 <<< k) else b.p &&& ~~~(1#8 <<< k) }

/-- The guard: predicate GP, inverted if GN is set (R322). -/
def ZBank.guard (b : ZBank) (a : ZArgs) : Bool := xor (b.pred (a.gp % 8)) a.gn

/-- A compare's result into pT, RD[2:0], and its inverse into pF, RD[5:3] (R323). What a predicate named as both holds is
not stated (free, assumption log 3). -/
def ZBank.compare (b : ZBank) (a : ZArgs) (r : Bool) : ZBank :=
  if a.pT = a.pF then b.setPred a.pT (Config.bothTargets r) else (b.setPred a.pT r).setPred a.pF (!r)

/-- An operand of a predicate operation: the low 3 bits name it, bit 3 inverts it (R323). -/
def ZBank.predOpd (b : ZBank) (f : Nat) : Bool := xor (b.pred (f % 8)) (f.testBit 3)

/-- A signed 64-bit comparison. -/
def ltSigned (x y : W64) : Bool := x.slt y

/-- An unsigned 64-bit comparison. -/
def ltUnsigned (x y : W64) : Bool := x.ult y

end Sys2Proof.Machine
end

