-- ==== Sys2Proof/Machine/Cores.lean ====
section
/-! DEFINITION. The Zynkel cores as the rest of the device sees them: banks, multiplier writes, interrupt lines, trap entry,
double faults, and a secure world that goes down and comes back (R321, R327, R336, R340–R342, R349–R354). -/

namespace Sys2Proof.Machine

/-! ## Banks -/

/-- Core `n`: a worker below 16, supervisors A and B at 16 and 17. -/
def State.core (s : State) (n : Nat) : ZCore := SMap.get ZCore.reset s.zyn.cores n

/-- Replace core `n`. -/
def State.setCore (s : State) (n : Nat) (c : ZCore) : State :=
  { s with zyn := { s.zyn with cores := SMap.set ZCore.reset s.zyn.cores n c } }

/-- The bank of a world. -/
def ZCore.bank (c : ZCore) : World → ZBank
  | .normal => c.normal
  | .secure => c.secure

/-- Replace the bank of a world. -/
def ZCore.setBank (c : ZCore) (w : World) (b : ZBank) : ZCore :=
  match w with
  | .normal => { c with normal := b }
  | .secure => { c with secure := b }

/-- The bank of the world the core is in. -/
def ZCore.cur (c : ZCore) : ZBank := c.bank c.world

/-- Replace the bank of the world the core is in. -/
def ZCore.setCur (c : ZCore) (b : ZBank) : ZCore := c.setBank c.world b

/-- Copy g1 to g8 of one bank into another (R334, R335). -/
def ZBank.copyArgs (src dst : ZBank) : ZBank := (List.range 8).foldl (fun b k => b.setG (k + 1) (src.greg (k + 1))) dst

/-- A worker core, rather than a supervisor. -/
def isWorker (n : Nat) : Bool := decide (n < 16)

/-! ## The multiplier (R326–R328) -/

/-- A multiplier write lands: MAC adds to mhi:mlo as they stand, the others replace them (R326). -/
def MulWrite.land (m : MulWrite) (b : ZBank) : ZBank :=
  let v := if m.acc then (b.mhi ++ b.mlo : W128) + m.value else m.value
  { b with mlo := v.extractLsb' 0 64, mhi := v.extractLsb' 64 64 }

/-- `d` clock cycles pass: the clock count advances, and the multiplier writes that fall due in them land in issue order (R327,
R343). -/
def ZCore.pass (c : ZCore) (d : Nat) : ZCore :=
  (c.flight.filter fun m => decide (m.left ≤ d)).foldl (fun c m => c.setBank m.world (m.land (c.bank m.world)))
    { c with
      cycle := (c.cycle + d) % 2 ^ 64
      flight := (c.flight.filter fun m => decide (d < m.left)).map fun m => { m with left := m.left - d } }

/-- Time passes to the cycle in which the oldest multiplier write lands (R327). -/
def ZCore.landOne (c : ZCore) : ZCore :=
  match c.flight with
  | [] => c
  | m :: _ => c.pass m.left

/-- Entry to a handler: 8 cycles, after every multiplier write in flight has landed (R325, R328). -/
def ZCore.landAll (c : ZCore) : ZCore := c.pass (8 + (c.flight.map (·.left)).foldl max 0)

/-! ## Interrupt lines (R341, R349) -/

/-- SUPV_IRQW of a core: every line secure at reset. -/
def State.irqWorlds (s : State) (n : Nat) : W32 := SMap.get 0xFFFFFFFF#32 s.supv.irqw n

/-- The world of a line: line 0 and every line of a supervisor are secure. -/
def State.lineWorld (s : State) (n line : Nat) : World :=
  if line = 0 ∨ 16 ≤ n ∨ (s.irqWorlds n).getLsbD line then .secure else .normal

/-- A line of a core becomes pending in its world's bank. -/
def State.raiseLine (s : State) (n line : Nat) : State :=
  let c := s.core n
  let w := s.lineWorld n line
  let b := c.bank w
  if c.started then s.setCore n (c.setBank w { b with ipend := b.ipend ||| (1#32 <<< line) }) else s

/-! ## Secure worlds (R336, R350–R354) -/

/-- A worker's SUPV registers and watchdog. -/
def State.worker (s : State) (n : Nat) : WorkerCtl := SMap.get WorkerCtl.reset s.supv.workers n

/-- Replace them. -/
def State.setWorker (s : State) (n : Nat) (w : WorkerCtl) : State :=
  { s with supv := { s.supv with workers := SMap.set WorkerCtl.reset s.supv.workers n w } }

/-- The worker's watchdog starts again (R351). -/
def State.clearWatch (s : State) (n : Nat) : State := s.setWorker n { s.worker n with watch := 0 }

/-- The address of a worker's Twill mailbox, which the spec leaves to ZCR_MBXTWL: a 128-byte place of Twill's scratch
memory (assumption log 4). -/
def twillBox (n : Nat) : Nat := 0x80A00000 + 128 * (Config.twillBox n % 16384)

/-- A worker's mailboxes: unit as in `Mailbox`, address, and length of its window (R125, R246, R268, R290). -/
def mailboxesOf (n : Nat) : List (Nat × Nat × Nat) :=
  [(0, 0x8000F000 + 0x10000 * n, 4096), (1, 0x8023F000 + 0x40000 * n, 4096),
   (2, 0x8067E000 + 0x80000 * (n / 2) + 4096 * (n % 2), 4096), (5, twillBox n, 128)]

/-- A command came through a mailbox of worker `n`. -/
def Src.ofWorker (n : Nat) : Src → Bool
  | .mailbox w _ _ => w == n
  | _ => false

/-- The core leaves its secure world (R336): it resumes the normal world at ZCR_NEPC, with SERVICE_UNAVAILABLE in g1 where it
had come by SCALL. With no normal world it halts (R353). -/
def ZCore.leaveSecure (c : ZCore) (hasNormal : Bool) : ZCore :=
  let d := { c with secure := ZBank.reset, flight := c.flight.filter (fun m => decide (m.world = World.normal)),
                    storeFault := c.storeFault.filter (fun f => decide (f.2 = World.normal)) }
  if c.world = .normal then d
  else if hasNormal then
    let b := { d.normal with pc := c.nepc.setWidth 64 }
    { d with world := .normal, bySCall := false, wfe := false,
             normal := if c.bySCall then b.setG 1 0x501#64 else b }
  else { d with bySCall := false, wfe := false, secure := { ZBank.reset with halted := true } }

/-- The firmware image has a KIND 2 entry, so that normal worlds exist (R353). -/
def State.hasNormal (s : State) : Bool := decide (s.boot.entry2 ≠ 0)

/-- The submissions of a worker's mailboxes abort with cause 2, and their completions are discarded and counted (R352). -/
def State.dropMailWork (s : State) (n : Nat) : State :=
  let s1 := s.abortWhere (fun r => Src.ofWorker n r.src) 2
  let gone := (s1.zyn.done.filter fun c => Src.ofWorker n c.src).length
    + (s1.zyn.submitted.filter fun r => Src.ofWorker n r.src).length
  { s1 with
    zyn := { s1.zyn with
      done := s1.zyn.done.filter (fun c => !Src.ofWorker n c.src)
      submitted := s1.zyn.submitted.filter (fun r => !Src.ofWorker n r.src)
      boxes := SMap.mapV Mailbox.reset (fun k b => if k / 64 = n then { b with busy := false } else b) s1.zyn.boxes }
    host := { s1.host with discard := satAdd 32 s1.host.discard gone } }

/-- Overwrite a worker's mailbox windows with zeros (R352). -/
def State.zeroMailboxes (s : State) (n : Nat) : State :=
  { s with mem := (mailboxesOf n).foldl (fun m x => m.zeroRange x.2.1 x.2.2) s.mem }

/-- The third down declaration within 10 s (R354). -/
def State.thirdDown (s : State) (n : Nat) : Bool :=
  decide (2 ≤ ((s.worker n).downs.filter fun t => decide (s.sys.optime ≤ t + 10000)).length)

/-- Declare a worker's secure world down (R350, R352, R354): 1 watchdog, 2 double fault, 3 request. -/
def State.declareDown (s : State) (n cause : Nat) : State :=
  let w := s.worker n
  if s.part.workers ≤ n ∨ w.sw ≠ .up ∨ (s.core n).started = false then s
  else
    let held := s.thirdDown n
    let s1 := s.setWorker n { w with sw := if held then .held else .down, swCause := cause, watch := 0,
                                     downs := s.sys.optime :: w.downs }
    let s2 := s1.setCore n ((s1.core n).leaveSecure s1.hasNormal)
    let s3 := ((s2.dropMailWork n).zeroMailboxes n).offer 0x1101 n cause 0
    if held then (s3.offer 0x1102 n w.restarts 0).afterFence else s3

/-- A restarted secure world is entered afresh (R353). -/
def State.enterRestarted (s : State) (n scnum : Nat) (args : ZBank) : State :=
  let c := s.core n
  let w := s.worker n
  let b := args.copyArgs { ZBank.reset with pc := BitVec.ofNat 64 s.boot.entry1 }
  (s.setCore n { c with world := .secure, secure := b, sentry := BitVec.ofNat 32 s.boot.entry1, scnum := scnum,
                        irqHeld := true }).setWorker n
    { w with sw := .up, fresh := true, restarts := satAdd 8 w.restarts 1, watch := 0 }

/-! ## Exceptions (R339–R342) -/

/-- Enter a trap handler of a world (R340): class, cause, slot, return address, access address. -/
def ZCore.enterTrap (c : ZCore) (w : World) (cls cause slot : Nat) (tpc taddr : W32) : ZCore :=
  let d := c.landAll
  let b := d.bank w
  { d with world := w, wfe := false }.setBank w
    { b with tpc := tpc &&& 0xFFFFFFF8#32, tcause := cause, tslot := slot, taddr := taddr, intrap := true,
             pc := (b.tbase + BitVec.ofNat 32 (0x40 * cls)).setWidth 64 }

/-- A double fault (R342). -/
def State.doubleFault (s : State) (n cause slot : Nat) : State :=
  let c := s.core n
  let b := c.cur
  if isWorker n = false then s.setCore n (c.setCur { b with halted := true })
  else if c.world = .normal then
    (s.setCore n ({ c with scnum := 0xFFFF }.setCur
      { b with halted := true, tpc := b.pc.setWidth 32 &&& 0xFFFFFFF8#32, tcause := cause, tslot := slot })).raiseLine n 0
  else s.declareDown n 2

/-- A synchronous exception of the word at the PC (R339, R340, R342). -/
def State.exception (s : State) (n cls cause slot : Nat) (taddr : W32) : State :=
  let c := s.core n
  if c.cur.intrap then s.doubleFault n cause slot
  else s.setCore n (c.enterTrap c.world cls cause slot (c.cur.pc.setWidth 32) taddr)

end Sys2Proof.Machine
end

