-- ==== Sys2Proof/Machine/Worlds.lean ====
section
/-! DEFINITION. Sideband pins, software interrupts, secure worlds that go down, the commit gate and the change of control
between the supervisors (R345–R368). -/

namespace Sys2Proof.Machine

/-! ## Pins and lines (R348, R349) -/

/-- Bit `n` of a 16-bit pin register. -/
def pinBit (n : Nat) : BitVec 16 := 1#16 <<< n

/-- A debug enable of either world is set. -/
def Custody.anyEnable (l : Custody) : Bool := l.nni || l.ninv || l.sni || l.sinv

/-- The TAP is present on GP0 to GP3 (R439). -/
def State.tapPresent (s : State) : Bool := decide (s.lifeCycle ≠ 2) || s.lcs.anyEnable

/-- A pin that serves the access port: it reads as zero to both worlds (R348, R439). -/
def State.scanPin (s : State) (pin : Nat) : Bool := s.tapPresent && decide (pin < 4)

/-- The world of a pin. -/
def State.pinWorld (s : State) (pin : Nat) : World := if s.supv.pinw.getLsbD pin then .secure else .normal

/-- A rising edge reaches line `pin + 1` of one core if the worlds agree, else it is dropped and counted (R349). -/
def State.edgeTo (s : State) (pin n : Nat) : State :=
  if s.lineWorld n (pin + 1) = s.pinWorld pin then s.raiseLine n (pin + 1)
  else { s with supv := { s.supv with dropEdges := satAdd 8 s.supv.dropEdges 1 } }

/-- GP_EDGE (R349): the pin reads high and its line is raised on every core that runs. -/
def execGpEdge (pin : Nat) (s : State) : Host.Outcome State Fault Refusal :=
  .next (
    if pin < 16 ∧ s.onMain ∧ s.scanPin pin = false then
      let t := { s with supv := { s.supv with gpin := s.supv.gpin ||| pinBit pin } }
      (t.zyn.cores.filter (fun x => x.2.started)).foldl (fun u x => u.edgeTo pin x.1) t
    else s)

/-- SUPV_PINW_WRITE (R348): a pin that changes world becomes an input. -/
def execSupvPinwWrite (who : Initiator) (v : BitVec 16) (s : State) : Host.Outcome State Fault Refusal :=
  .next (s.byControl who fun s =>
    { s with supv := { s.supv with pinw := v, gpoe := s.supv.gpoe &&& ~~~(v ^^^ s.supv.pinw) } })

/-- Clear the pending and mask bits of lines in both banks of a core. -/
def ZCore.clearLines (c : ZCore) (m : W32) : ZCore :=
  { c with normal := { c.normal with ipend := c.normal.ipend &&& ~~~m, imask := c.normal.imask &&& ~~~m },
           secure := { c.secure with ipend := c.secure.ipend &&& ~~~m, imask := c.secure.imask &&& ~~~m } }

/-- SUPV_IRQW_WRITE (R349): the lines that change world lose their pending and mask bits. Line 0 and the supervisors' lines
stay secure; an absent worker's register ignores the write (R3). -/
def execSupvIrqwWrite (who : Initiator) (n : Nat) (v : W32) (s : State) : Host.Outcome State Fault Refusal :=
  .next (s.byControl who fun s =>
    if n < s.part.workers then
      let w := v ||| 1#32
      let t := { s with supv := { s.supv with irqw := SMap.set 0xFFFFFFFF#32 s.supv.irqw n w } }
      t.setCore n ((t.core n).clearLines (w ^^^ s.irqWorlds n))
    else s)

/-- SUPV_SWI (R349): lines 17 to 31 of a worker or a supervisor. -/
def execSupvSwi (who : Initiator) (core line : Nat) (s : State) : Host.Outcome State Fault Refusal :=
  .next (s.byControl who fun s =>
    if 17 ≤ line ∧ line < 32 ∧ (core < s.part.workers ∨ core = 16 ∨ core = 17) then s.raiseLine core line else s)

/-- SUPV_WCOL_WRITE (R347): the stores a worker has issued keep the colour they were issued under, so the write need not
wait for them; every access issued from now on carries the new colours. -/
def execSupvWcolWrite (who : Initiator) (n : Nat) (v : W32) (s : State) : Host.Outcome State Fault Refusal :=
  .next (s.byControl who fun s =>
    if n < s.part.workers then
      s.setWorker n { s.worker n with ncol := v.extractLsb' 0 8, scol := v.extractLsb' 8 8 }
    else s)

/-! ## Secure worlds of workers (R350–R354) -/

/-- The watchdog has run SWLIM_MS without being cleared (R351); `watch` counts in 1/128 ms. -/
def State.watchExpired (s : State) (n : Nat) : Bool := decide (128 * s.supv.swlimMs ≤ (s.worker n).watch)

/-- SECURE_WATCHDOG_EXPIRY (R350, R351): the watchdog runs only while the core is in its secure world. -/
def execSecureWatchdogExpiry (n : Nat) (s : State) : Host.Outcome State Fault Refusal :=
  .next (if s.onMain ∧ isWorker n ∧ (s.core n).world = .secure ∧ s.watchExpired n then s.declareDown n 1 else s)

/-- SUPV_SWCTL_DOWN (R350). -/
def execSupvSwctlDown (who : Initiator) (n : Nat) (s : State) : Host.Outcome State Fault Refusal :=
  .next (s.byControl who fun s => if isWorker n then s.declareDown n 3 else s)

/-- SECURE_RESTART_PENDING (R352, R353): with no normal world to call it, the restarted world is entered at once. -/
def execSecureRestartPending (n : Nat) (s : State) : Host.Outcome State Fault Refusal :=
  .next (
    let w := s.worker n
    if s.onMain ∧ w.sw = .down then
      let t := s.setWorker n { w with sw := .pending }
      if s.hasNormal then t else t.enterRestarted n 0 ZBank.reset
    else s)

/-- SUPV_SWBEAT (R351): a write of that worker's own secure world; any other is dropped (R368). -/
def execSupvSwbeat (who : Initiator) (n : Nat) (s : State) : Host.Outcome State Fault Refusal :=
  .next (if who = .worker n .secure ∧ n < s.part.workers ∧ s.onMain then s.clearWatch n else s.dropWrite who)

/-! ## Supervisors and the commit gate (R355–R367) -/

/-- The state of a supervisor: `false` A, `true` B. -/
def Worlds.st (w : Worlds) (b : Bool) : SupState := if b then w.stB else w.stA

/-- Set it. A supervisor that begins to shadow has no clean and no unclean cycle yet (SUPV_CLEAN). -/
def Worlds.setSt (w : Worlds) (b : Bool) (x : SupState) : Worlds :=
  let v := if x = .shadowing then { w with clean := 0, unclean := 0 } else w
  if b then { v with stB := x } else { v with stA := x }

/-- The supervisor is fenced until the next start (R367). -/
def Worlds.held (w : Worlds) (b : Bool) : Bool := if b then w.heldB else w.heldA

/-- Fence a supervisor until the next start. -/
def Worlds.hold (w : Worlds) (b : Bool) : Worlds := if b then { w with heldB := true } else { w with heldA := true }

/-- Code of a supervisor's state (R355). -/
def SupState.code : SupState → Nat
  | .reset => 0
  | .active => 1
  | .shadowing => 2
  | .selfTest => 3
  | .fenced => 4

/-- SUPV_LASTSW as a word. -/
def Worlds.lastSw (w : Worlds) : Nat := w.lastCause + 8 * flag w.lastTo + 16 * w.lastCheck + 256 * w.lastGap

/-- Instances LOADING at a switch-over abort with cause 5 (R141, R365). -/
def State.abortLoading (s : State) : State :=
  ((s.twl.insts.filter fun x => decide (x.2.state = .loading)).map (·.1)).foldl (fun t n => t.abortInst n 5 none) s

/-- A unit's work is a request of a core's mailboxes. -/
def isOfCore (n : Nat) : EngSrc → Bool
  | .raw r => Src.ofWorker n r.src
  | _ => false

/-- Privileged-mailbox requests of a supervisor abort with cause 5: their work leaves its units, wiped, and no completion is written
(R365). -/
def State.dropPrivileged (s : State) (b : Bool) : State :=
  let n := if b then 17 else 16
  let t := s.dropJobs (isOfCore n)
  { t with
    zyn := { t.zyn with
      done := t.zyn.done.filter (fun c => !Src.ofWorker n c.src)
      boxes := SMap.mapV Mailbox.reset (fun k m => if k / 64 = n then { m with busy := false } else m) t.zyn.boxes }
    ent := { t.ent with stalled := t.ent.stalled.filter fun c => match c with
      | .command r => !Src.ofWorker n r.src
      | _ => true } }

/-- Control passes to a supervisor (R362, R365, R366): causes 1 give-up, 2 missed batch, 3 reclaim, 4 recovery. The gap is
not modelled in time (free, assumption log 3). -/
def State.takeControl (s : State) (b : Bool) (cause check : Nat) : State :=
  let w := s.supv.setSt b .active
  let s1 := { s with
    fresh := s.fresh + 1
    supv := { w with active := b, noSup := false, switches := satAdd 16 w.switches 1, lastCause := cause, lastTo := b,
                     lastCheck := check, lastGap := s.freeNat 16 } }
  let s2 := (s1.dropPrivileged (!b)).abortLoading
  s2.offer 0x1105 s2.supv.lastSw s2.supv.csn 0

/-- No supervisor is in control (R367). -/
def State.loseControl (s : State) : State :=
  let t := { s with supv := { s.supv with noSup := true } }
  (t.offer 0x1104 t.supv.stA.code t.supv.stB.code 0).faultEvent 7 0

/-- The third give-up within 1 s (R367). -/
def State.thirdGiveup (s : State) (b : Bool) : Bool :=
  decide (2 ≤ ((if b then s.supv.giveTimesB else s.supv.giveTimesA).filter fun t => decide (s.sys.optime ≤ t + 1000)).length)

/-- Count a give-up. -/
def State.noteGiveup (s : State) (b : Bool) : State :=
  let w := s.supv
  if b then { s with supv := { w with giveupsB := satAdd 8 w.giveupsB 1, giveTimesB := s.sys.optime :: w.giveTimesB } }
  else { s with supv := { w with giveupsA := satAdd 8 w.giveupsA 1, giveTimesA := s.sys.optime :: w.giveTimesA } }

/-- The supervisor in control gives up (R361, R362, R367): it enters self-test, or is fenced on its third give-up or by a
fence; the other takes control where it shadows or believes itself active. -/
def State.giveUp (s : State) (b : Bool) (check : Nat) (fence : Bool) : State :=
  let third := s.thirdGiveup b
  let s1 := s.noteGiveup b
  let w := s1.supv.setSt b (if fence || third then .fenced else .selfTest)
  let s2 := { s1 with supv := if third then w.hold b else w }
  let s3 :=
    if s2.supv.st (!b) = .shadowing ∨ s2.supv.st (!b) = .active then s2.takeControl (!b) 1 check
    else s2.loseControl
  s3.afterFence

/-- The supervisor is the one in control. -/
def State.controls (s : State) (b : Bool) : Bool := s.supv.active == b && !s.supv.noSup

/-- Checks of R361 that a supervisor in that state can fail; shadow agreement fails with 16 consecutive unclean cycles. -/
def Worlds.checkApplies (w : Worlds) (b : Bool) (check : Nat) : Bool :=
  match w.st b with
  | .active => [1, 2, 3, 4].contains check
  | .shadowing => [1, 2, 4].contains check || (decide (check = 6) && decide (16 ≤ w.unclean))
  | _ => false

/-- SUPERVISOR_CHECK_FAILURE (R361, R362, R367): the supervisor in control gives up; any other enters self-test. -/
def execSupervisorCheckFailure (b : Bool) (check : Nat) (s : State) : Host.Outcome State Fault Refusal :=
  .next (
    if s.onMain ∧ s.supv.checkApplies b check then
      if s.controls b then s.giveUp b check false else { s with supv := s.supv.setSt b .selfTest }
    else s)

/-- SUPV_CTL_GIVEUP (R361): the supervisor in control gives up with check code 5. -/
def execSupvCtlGiveup (b : Bool) (s : State) : Host.Outcome State Fault Refusal :=
  .next (if s.onMain ∧ s.controls b ∧ s.supv.st b = .active then s.giveUp b 5 false else s)

/-- SUPERVISOR_SELFTEST_DONE (R361): a pass leads to shadowing, a failure to a fence. -/
def execSupervisorSelftestDone (b pass : Bool) (s : State) : Host.Outcome State Fault Refusal :=
  .next (
    if s.onMain ∧ s.supv.st b = .selfTest then
      if pass then { s with supv := s.supv.setSt b .shadowing }
      else { s with supv := s.supv.setSt b .fenced }.afterFence
    else s)

/-- The FENCE bits of SUPV_CTL as last written. -/
def Worlds.setFenceBit (w : Worlds) (b on : Bool) : Worlds := if b then { w with fenceB := on } else { w with fenceA := on }

/-- Fence a supervisor or lift its fence (R367). Either supervisor may write SUPV_CTL (R364). -/
def State.fenceSup (s : State) (who : Initiator) (b on : Bool) : State :=
  match who with
  | .supervisor _ =>
    let t := { s with supv := s.supv.setFenceBit b on }
    if on then
      if t.supv.st b = .fenced then t
      else if t.controls b then t.giveUp b 5 true
      else { t with supv := t.supv.setSt b .fenced }.afterFence
    else if t.supv.st b = .fenced ∧ t.supv.held b = false then { t with supv := t.supv.setSt b .selfTest }.afterLift
    else t
  | _ => s.dropWrite who

/-- SUPV_CTL_FENCE_A (R367). -/
def execSupvCtlFenceA (who : Initiator) (on : Bool) (s : State) : Host.Outcome State Fault Refusal :=
  .next (if s.onMain then s.fenceSup who false on else s)

/-- SUPV_CTL_FENCE_B (R367). -/
def execSupvCtlFenceB (who : Initiator) (on : Bool) (s : State) : Host.Outcome State Fault Refusal :=
  .next (if s.onMain then s.fenceSup who true on else s)

/-! ### Batches (R356–R360, R362, R363, R366) -/

/-- An entry of a state delta is well formed (R357). -/
def entryOk (e : W32) : Bool :=
  let k := bits e.toNat 28 4
  if k = 1 ∨ k = 2 then decide (bits e.toNat 11 5 = 0) && decide (1 ≤ bits e.toNat 0 11) && decide (bits e.toNat 0 11 ≤ 1024)
  else decide (k = 3) || decide (k = 4)

/-- A state delta as its 256 bytes spell it, where it is well formed (R357). -/
def parseDelta (d : Bytes) : Option Delta :=
  let n := leAt d 10 2
  let es := (List.range n).map fun k => BitVec.ofNat 32 (leAt d (16 + 4 * k) 4)
  if d.length = 256 ∧ leAt d 8 2 < 4 ∧ n ≤ 60 ∧ es.all entryOk ∧ (d.drop (16 + 4 * n)).all (· == 0)
      ∧ leAt d 12 4 = (crc32c (d.take 12 ++ slice d 16 (4 * n))).toNat then
    some { csn := leAt d 0 8, flags := BitVec.ofNat 16 (leAt d 8 2), count := n, entries := es }
  else none

/-- The delta is the first well-formed one of the running cycle (R359). -/
def Worlds.firstOfCycle (w : Worlds) (d : Bytes) : Option Delta :=
  match parseDelta d with
  | some x => if x.csn = w.cycle ∧ w.csn ≠ w.cycle ∧ w.noSup = false then some x else none
  | none => none

/-- The gate rejects a batch (R359). -/
def State.rejectBatch (s : State) : State :=
  { s with supv := { s.supv with rejected := satAdd 12 s.supv.rejected 1 } }

/-- The shadowing supervisor compares its own batch, which the model does not compute (free, assumption log 3), with the
accepted one (R360). -/
def State.compareShadow (s : State) : State :=
  let b := !s.supv.active
  if s.supv.st b = .shadowing then
    let t := s.skip 1
    if Config.freshBool s.fresh then { t with supv := { t.supv with clean := satAdd 16 t.supv.clean 1, unclean := 0 } }
    else { t with supv := { t.supv with clean := 0, unclean := t.supv.unclean + 1, mismatch := satAdd 16 t.supv.mismatch 1 } }.offer 0x1103 t.supv.csn
        (flag b) 0
  else s

/-- The gate accepts a batch and keeps the last four deltas (R358, R359). -/
def State.acceptBatch (s : State) (x : Delta) : State :=
  { s with supv := { s.supv with csn := x.csn, deltas := (x :: s.supv.deltas).take 4 } }.compareShadow

/-- Supervisor A may reclaim control (R366). -/
def Worlds.mayReclaim (w : Worlds) : Bool :=
  decide (w.stA = .shadowing) && decide (1000 ≤ w.clean) && w.active && !w.noSup

/-- A reclaims: it is active from this batch on and B shadows (R366). -/
def State.reclaim (s : State) : State :=
  let t := { s with supv := s.supv.setSt true .shadowing }
  t.takeControl false 3 0

/-- A stalled supervisor learns from the reply that the other is in control, stands down and enters self-test (R363). -/
def State.standDown (s : State) (b : Bool) : State := { s with supv := s.supv.setSt b .selfTest }

/-- BATCH_PRESENT (R356–R360, R363, R366): the gate accepts the first well-formed batch of the cycle. A shadowing supervisor
presents one only to reclaim. -/
def execBatchPresent (b : Bool) (delta : Bytes) (s : State) : Host.Outcome State Fault Refusal :=
  .next (
    if s.onMain = false then s
    else
      match s.supv.st b, s.supv.firstOfCycle delta with
      | .active, some x => if s.controls b then s.acceptBatch x else (s.acceptBatch x).standDown b
      | .active, none => if s.controls b then s.rejectBatch else s.rejectBatch.standDown b
      | .shadowing, some x =>
        if b = false ∧ x.flags.getLsbD 1 ∧ s.supv.mayReclaim then s.reclaim.acceptBatch x else s.rejectBatch
      | .shadowing, none => s.rejectBatch
      | _, _ => s)

/-- MISSED_BATCH_TAKEOVER (R362, R365): no batch of the cycle was accepted by tick + 1.5 µs, and the standby presents its own
with TAKEOVER. The old active supervisor is stalled: it stands down when it next presents or fails a check (R363). -/
def execMissedBatchTakeover (delta : Bytes) (s : State) : Host.Outcome State Fault Refusal :=
  .next (
    if s.onMain ∧ s.supv.st (!s.supv.active) = .shadowing then
      match s.supv.firstOfCycle delta with
      | some x => if x.flags.getLsbD 0 then (s.takeControl (!s.supv.active) 2 0).acceptBatch x else s.rejectBatch
      | none => s.rejectBatch
    else s)

end Sys2Proof.Machine
end

