-- ==== Sys2Proof/Machine/MemAccess.lean ====
section
/-! DEFINITION. Accesses by address: check bits, what lies behind each address, what the gate does with a denied access, and
what an uncorrectable error does to its reader (R369–R390). -/

namespace Sys2Proof.Machine

/-! ## What lies behind an address (R369) -/

/-- The 32 bytes of a record (R444). -/
def Record.bytes (r : Record) : Bytes :=
  leBytes 4 r.seq ++ leBytes 4 (r.code + 2 ^ 16 * r.sev + 2 ^ 20 * r.source + 2 ^ 28 * flag r.fw + 2 ^ 29 * flag r.summary)
    ++ leBytes 8 r.optime ++ leBytes 4 r.pwrcyc ++ leBytes 4 r.p0 ++ leBytes 4 r.p1 ++ leBytes 4 r.p2

/-- The record that 32 bytes spell. -/
def recordAt (b : Bytes) : Record :=
  let w := leAt b 4 4
  { seq := leAt b 0 4, code := bits w 0 16, sev := bits w 16 4, source := bits w 20 8, fw := w.testBit 28,
    summary := w.testBit 29, optime := leAt b 8 8, pwrcyc := leAt b 16 4, p0 := leAt b 20 4, p1 := leAt b 24 4,
    p2 := leAt b 28 4 }

/-- The bytes of a key-state entry (R196). -/
def KsEntry.bytes (e : KsEntry) : Bytes := leBytes 8 e.handle.toNat ++ leBytes 4 e.ceil ++ leBytes 4 e.bceil

/-- Bytes of the MRAM persistent region (R196). -/
def State.regionRead (s : State) (off n : Nat) : Bytes :=
  if off < 8 then slice (if s.dmk.marker then leBytes 8 Config.formatMarker.toNat else zeros 8) off n
  else if off < 12 then slice (leBytes 4 s.dmk.nonceEpoch) (off - 8) n
  else if 0x1000 ≤ off ∧ off < 0x81000 then slice (s.dmk.entry ((off - 0x1000) / 16)).bytes (off % 16) n
  else if 0xC0000 ≤ off ∧ off < 0x100000 then slice (leBytes 4 (SMap.get 0 s.dmk.gens ((off - 0xC0000) / 4))) (off % 4) n
  else zeros n

/-- The key-state entry that 16 bytes spell. -/
def ksEntryAt (b : Bytes) : KsEntry := { handle := BitVec.ofNat 64 (leAt b 0 8), ceil := leAt b 8 4, bceil := leAt b 12 4 }

/-- Write bytes of the MRAM persistent region; the bytes R196 calls zero stay zero. -/
def State.regionWrite (s : State) (off : Nat) (b : Bytes) : State :=
  let d := s.dmk
  if off < 8 then
    { s with dmk := { d with marker := decide (splice (s.regionRead 0 8) off b = leBytes 8 Config.formatMarker.toNat) } }
  else if off < 12 then { s with dmk := { d with nonceEpoch := leNat (splice (s.regionRead 8 4) (off - 8) b) } }
  else if 0x1000 ≤ off ∧ off < 0x81000 then
    let k := (off - 0x1000) / 16
    { s with dmk := { d with ks := SMap.set KsEntry.free d.ks k (ksEntryAt (splice (d.entry k).bytes (off % 16) b)) } }
  else if 0xC0000 ≤ off ∧ off < 0x100000 then
    let k := (off - 0xC0000) / 4
    { s with dmk := { d with gens := SMap.set 0 d.gens k (leNat (splice (leBytes 4 (SMap.get 0 d.gens k)) (off % 4) b)) } }
  else s

/-- Set bytes of a sparse map. -/
def setBytes (m : SMap Byte) (off : Nat) (b : Bytes) : SMap Byte :=
  (b.foldl (fun p x => (SMap.set 0 p.1 p.2 x, p.2 + 1)) (m, off)).1

/-- Bytes that a key cache entry shows by address: the key lies there in two masked shares (R186), so they are free
(assumption log 3); an entry without a key is zero. -/
def State.keycRead (s : State) (off n : Nat) : Bytes :=
  if (SMap.get none s.dmk.keyc (off / 64)).isSome then s.randomBytes n else zeros n

/-- A write into a key cache entry spoils its shares: the key it gives is free. -/
def State.keycWrite (s : State) (off : Nat) : State :=
  match SMap.get none s.dmk.keyc (off / 64) with
  | none => s
  | some w =>
    { s.drew 32 with dmk := { s.dmk with keyc := SMap.set none s.dmk.keyc (off / 64) (some { w with key := s.randomBytes 32 }) } }

/-- The engine instance whose operand bank holds an address. -/
def operandInst (a : Nat) : Option (EngUnit × Nat) :=
  if 0x80000000 ≤ a ∧ a < 0x80200000 then some (.cal, (a - 0x80000000) / 0x10000)
  else if 0x80200000 ≤ a ∧ a < 0x80600000 then some (.srg, (a - 0x80200000) / 0x40000)
  else if 0x80600000 ≤ a ∧ a < 0x80A00000 then some (.tul, (a - 0x80600000) / 0x80000)
  else none

/-- The address lies in the operand memory of an instance that the part does not have: it reads zero and ignores stores (R3, R294). -/
def State.absentBank (s : State) (a : Nat) : Bool :=
  match operandInst a with
  | some (u, n) => !s.present u n
  | none => false

/-- The `n` bytes at an address of one region, as stored. -/
def State.peek (s : State) (a n : Nat) : Bytes :=
  if 0x40000000 ≤ a ∧ a < 0x44000000 then slice (s.ctx ((a - 0x40000000) / 64)).bytes (a % 64) n
  else if 0x90000000 ≤ a ∧ a < 0x90200000 then s.keycRead (a - 0x90000000) n
  else if 0x91000000 ≤ a ∧ a < 0x91040000 then
    slice (SMap.get Record.empty s.rcd.slots ((a - 0x91000000) / 32)).bytes (a % 32) n
  else if 0xA0000000 ≤ a ∧ a < 0xA0180000 then (List.range n).map fun k => SMap.get 0 s.img.slotA (a - 0xA0000000 + k)
  else if 0xA0180000 ≤ a ∧ a < 0xA0300000 then (List.range n).map fun k => SMap.get 0 s.img.slotB (a - 0xA0180000 + k)
  else if 0xA0300000 ≤ a ∧ a < 0xA0400000 then s.regionRead (a - 0xA0300000) n
  else if s.absentBank a then zeros n
  else s.mem.read a n

/-- Write bytes at an address of one region, with fresh check bits (R376). -/
def State.poke (s : State) (a : Nat) (b : Bytes) : State :=
  if 0x40000000 ≤ a ∧ a < 0x44000000 then
    let c := (a - 0x40000000) / 64
    let t := s.setCtx c (ctxAt (splice (s.ctx c).bytes (a % 64) b))
    { t with mem := { t.mem with chk := t.mem.chk.filter fun e => decide (e.1 < a) || decide (a + b.length ≤ e.1) } }
  else if 0x90000000 ≤ a ∧ a < 0x90200000 then s.keycWrite (a - 0x90000000)
  else if 0x91000000 ≤ a ∧ a < 0x91040000 then
    let k := (a - 0x91000000) / 32
    let r := recordAt (splice (SMap.get Record.empty s.rcd.slots k).bytes (a % 32) b)
    { s with rcd := { s.rcd with slots := SMap.set Record.empty s.rcd.slots k r } }
  else if 0xA0000000 ≤ a ∧ a < 0xA0180000 then { s with img := { s.img with slotA := setBytes s.img.slotA (a - 0xA0000000) b } }
  else if 0xA0180000 ≤ a ∧ a < 0xA0300000 then { s with img := { s.img with slotB := setBytes s.img.slotB (a - 0xA0180000) b } }
  else if 0xA0300000 ≤ a ∧ a < 0xA0400000 then s.regionWrite (a - 0xA0300000) b
  else if s.absentBank a then s
  else { s with mem := s.mem.write a b }

/-! ## Errors (R375–R377) -/

/-- Corrections of a class in its running second, the present one included (R376, R457). -/
def State.corrections (s : State) (k : Nat) : Nat :=
  match s.rcd.bursts.find? fun b => b.code == 0x0C01 && b.key == k with
  | some b => b.count + 2
  | none => 1

/-- Count `n` corrected bytes of a word; a foreground reader queues the word for the scrubber (R376). -/
def State.noteCorrected (s : State) (k n word : Nat) (foreground : Bool) : State :=
  if n = 0 then s
  else
    let m := s.mem.setCls k fun c => { c with corrected := satAdd 32 c.corrected n }
    let q := if foreground ∧ m.queue.length < 16 then m.queue ++ [word] else m.queue
    let t := { s with mem := { m with queue := q } }
    (List.range n).foldl (fun u _ => u.offerBurst 0x0C01 k k (u.corrections k)) t

/-- Bytes of a range whose error is corrected. -/
def Memory.badSingles (m : Memory) (a n : Nat) : Nat :=
  ((List.range n).filter fun k => match eccOf (SMap.get 0 m.chk (a + k)) with
    | .corrected _ => true
    | _ => false).length

/-- A byte as a read delivers it, with its single-bit error corrected. -/
def Memory.fixByte (m : Memory) (a : Nat) (b : Byte) : Byte :=
  match eccOf (SMap.get 0 m.chk a) with
  | .corrected x => b ^^^ x
  | _ => b

/-- A foreground read of `n` bytes of one word by a master: corrected data, or none with the error recorded (R376, R377). -/
def State.readWord (s : State) (a n master : Nat) : State × Option Bytes :=
  match s.mem.badByte a n with
  | some x => (s.noteUncorrectable x 0 master, none)
  | none =>
    let b := s.peek a n
    let fixed := (List.range b.length).zip b |>.map fun p => s.mem.fixByte (a + p.1) p.2
    let t := s.noteCorrected ((classOf a).getD 0) (s.mem.badSingles a n) (a - a % 8) true
    (if 0x90000000 ≤ a ∧ a < 0x90200000 then t.drew n else t, some fixed)

/-! ## What a core reaches (R386) -/

/-- The address lies in a register block (R15) or its broadcast alias (R18). -/
def isRegister (a : Nat) : Bool :=
  (decide (0xC0000000 ≤ a) && decide (a < 0xC0130000)) || (decide (0xE0000000 ≤ a) && decide (a < 0xE0130000))

/-- The address lies in a region of R369 or in a register block. -/
def mapped (a : Nat) : Bool :=
  decide (a < 0x40000) || (classOf a).isSome || (decide (0xA0000000 ≤ a) && decide (a < 0xA0400000)) || isRegister a

/-- The privileged mailboxes of the supervisors: address and length (R246, R268, R290). -/
def privilegedBoxes : List (Nat × Nat) :=
  (List.range 32).map (fun k => (0x80000D80 + 0x10000 * k, 128))
    ++ (List.range 16).map (fun k => (0x8021C000 + 0x40000 * k, 256))
    ++ (List.range 8).map (fun k => (0x8065C000 + 0x80000 * k, 256))

/-- An address lies in one of some ranges. -/
def within (l : List (Nat × Nat)) (a : Nat) : Bool := l.any fun x => decide (x.1 ≤ a) && decide (a < x.1 + x.2)

/-- A core's own windows of operand memory. -/
def ownWindows (n : Nat) (w : World) : List (Nat × Nat) :=
  if isWorker n = false then privilegedBoxes
  else if w = .secure then (mailboxesOf n).map (·.2)
  else []

/-- Whether a core may reach a region at all (R386). -/
def State.coreReaches (s : State) (n : Nat) (w : World) (a : Nat) (write : Bool) : Bool :=
  match classOf a with
  | some 0 => !write && (decide (w = World.secure) || s.zyn.imemNormal.contains ((a - 0x10000000) / 4096))
  | some 1 => true
  | some 3 => within (ownWindows n w) a
  | some 6 => (decide (n = 16) && decide (a < 0x920E0000)) || (decide (n = 17) && decide (0x920E0000 ≤ a))
  | some _ => !isWorker n
  | none => !isWorker n && decide (0xA0000000 ≤ a) && decide (a < 0xA0400000)

/-- The gate's answer to a core's memory access: 0 permitted, else the reason of its denial (R385). -/
def State.coreDenial (s : State) (n : Nat) (w : World) (colour a : Nat) (write : Bool) : Nat :=
  if s.coreReaches n w a write = false then 1
  else
    match pageOf a with
    | none => 0
    | some p => s.pageDenial (if isWorker n then .core w colour else .supervisor) p write

/-- The colour of a core in a world (R345). -/
def State.coreColour (s : State) (n : Nat) (w : World) : Nat :=
  if isWorker n = false then 0
  else
    match w with
    | .normal => (s.worker n).ncol.toNat
    | .secure => (s.worker n).scol.toNat

/-! ## An error at a reader (R377, R394) -/

/-- A supervisor fails a check of R361 now. -/
def State.failSupervisor (s : State) (b : Bool) (check : Nat) : State :=
  if s.supv.checkApplies b check then
    if s.controls b then s.giveUp b check false else { s with supv := s.supv.setSt b .selfTest }
  else s

/-- Fence the instance whose operand bank failed (R377, R382). -/
def State.fenceBank (s : State) (a : Nat) : State :=
  match operandInst a with
  | some (u, n) => if s.present u n then s.fenceInst u n else s
  | none => s

/-- The supervisor whose SUP part holds an address fails check 2 (R361, R382). -/
def State.failSupPart (s : State) (a : Nat) : State :=
  if classOf a = some 6 then s.failSupervisor (decide (0x920E0000 ≤ a)) 2 else s

end Sys2Proof.Machine
end

