-- ==== Sys2Proof/Machine/MemCmds.lean ====
section
/-! DEFINITION. The memories' background work, the gates' rule writes, and a failure on the interconnect (R372–R394). -/

namespace Sys2Proof.Machine

/-! ## MEM_INIT (R372) -/

/-- An initiator at a gate (R345). -/
def State.masterOf (s : State) : Initiator → Master × Nat × World
  | .worker n w => (.core w (s.coreColour n w), n, w)
  | .supervisor b => (.supervisor, if b then 17 else 16, .secure)
  | .host b => (.core .normal 0, if b then 25 else 24, .normal)
  | .debug w => (.debug w, 31, w)

/-- Zero-fill one page of WORK under the requester's rights: a denied page is skipped and counted (R372). -/
def State.initPage (s : State) (who : Initiator) (a : Nat) : State :=
  let x := s.masterOf who
  if classOf a ≠ some 1 then s
  else
    match pageOf a with
    | none => s
    | some p =>
      let d := s.pageDenial x.1 p true
      if d = 0 then { s with mem := s.mem.zeroRange a 4096 } else s.noteDenial x.2.1 x.2.2 true false a d

/-- MEM_INIT (R372, R395): a write of MEM_INIT_PAGES; its GO bit starts the fill. -/
def execMemInit (who : Initiator) (v : W32) (s : State) : Host.Outcome State Fault Refusal :=
  .next (s.bySecure who fun s =>
    let n := bits v.toNat 0 14
    if s.mem.initRun.isSome then s
    else if v.getLsbD 31 ∧ 1 ≤ n ∧ n ≤ 10240 then
      { s with mem := { s.mem with initPages := n, initRun := some { who := who, base := s.mem.initBase, pages := n } } }
    else { s with mem := { s.mem with initPages := n } })

/-- MEM_INIT_DONE (R372): a fill of all of WORK sets INIT and EN of class 1. -/
def execMemInitDone (s : State) : Host.Outcome State Fault Refusal :=
  .next (
    match s.mem.initRun with
    | none => s
    | some r =>
      let t := (List.range r.pages).foldl (fun u k => u.initPage r.who (r.base + 4096 * k)) s
      let m := { t.mem with initRun := none }
      if r.base = 0x20000000 ∧ r.pages = 10240 then
        { t with mem := { m with init := m.init ||| 2#7, scrubEn := m.scrubEn ||| 2#7 } }
      else { t with mem := m })

/-! ## The scrubber (R379, R380) -/

/-- The banks of a class. -/
def banksOf (k : Nat) : List Nat :=
  (regions.filter fun r => r.1 == k).flatMap fun r => (List.range (r.2.2.1 / r.2.2.2.1)).map (r.2.2.2.2 + ·)

/-- The word the scrubber reads next in a bank: a queued one first (R376), else the one its pointer names. -/
def Memory.scrubWord (m : Memory) (bank base : Nat) : Nat :=
  (m.queue.find? fun w => bankOf w == some bank).getD (base + 8 * SMap.get 0 m.scrubPtr bank)

/-- A bank has been visited to its end: the lap of its class ends with its last bank (R379, MEM_LAP). -/
def State.endBank (s : State) (k bank : Nat) : State :=
  let c := s.mem.cls k
  let left := (if c.lapLeft = [] then banksOf k else c.lapLeft).filter (· != bank)
  if left = [] then
    { s.skip 1 with mem := s.mem.setCls k fun c => { c with lapLeft := [], forced := false, lastMs := s.freeNat 16 } }
  else { s with mem := s.mem.setCls k fun c => { c with lapLeft := left } }

/-- Advance a bank's scrub pointer past a visited word. -/
def State.scrubNext (s : State) (k bank base size w : Nat) : State :=
  let p := SMap.get 0 s.mem.scrubPtr bank
  if s.mem.queue.contains w then { s with mem := { s.mem with queue := s.mem.queue.filter (· != w) } }
  else
    let q := if 8 * (p + 1) < size then p + 1 else 0
    let t := { s with mem := { s.mem with scrubPtr := SMap.set 0 s.mem.scrubPtr bank q } }
    if base + 8 * p = w ∧ q = 0 then t.endBank k bank else t

/-- The scrubber reads a word and rewrites its corrected bytes (R379); an uncorrectable error is only recorded (R377). -/
def State.scrub (s : State) (k w : Nat) : State :=
  if s.mem.ecctEn ∧ s.mem.ecctAddr = w then s
  else
    let s1 := match s.mem.badByte w 8 with
      | some x => s.noteUncorrectable x 1 29
      | none => s
    let n := s1.mem.badSingles w 8
    let s2 := s1.noteCorrected k n w false
    let t := (List.range 8).foldl (fun u i =>
      match eccOf (SMap.get 0 u.mem.chk (w + i)) with
      | .corrected x => u.poke (w + i) ((u.peek (w + i) 1).map (· ^^^ x))
      | _ => u) s2
    { t with mem := t.mem.setCls k fun c => { c with rewritten := satAdd 16 c.rewritten n } }

/-- SCRUB_VISIT (R379): the scrubber's next word of a bank whose class is enabled. -/
def execScrubVisit (bank : Nat) (s : State) : Host.Outcome State Fault Refusal :=
  .next (
    match bankRange bank, bankClass bank with
    | some (base, size), some k =>
      if s.onMain ∧ s.mem.scrubEn.getLsbD k then
        let w := s.mem.scrubWord bank base
        (s.scrub k w).scrubNext k bank base size w
      else s
    | _, _ => s)

/-- SCRUB_FORCE (R380): the class is forced until its lap ends. -/
def execScrubForce (cls : Nat) (s : State) : Host.Outcome State Fault Refusal :=
  .next (
    if s.onMain ∧ cls < 7 ∧ s.mem.scrubEn.getLsbD cls ∧ (s.mem.cls cls).forced = false then
      { s with mem := s.mem.setCls cls fun c => { c with forced := true, forcedLaps := satAdd 15 c.forcedLaps 1 } }
    else s)

/-! ## The transparent test (R381, R382) -/

/-- A region may be tested: its class is enabled, the test is on, and ECC test mode has no word in it (R378, R381). -/
def State.testsRegion (s : State) (a : Nat) : Bool :=
  match classOf a with
  | some k => s.onMain && decide (a % 256 = 0) && s.mem.scrubEn.getLsbD k && decide (s.mem.periodS ≠ 0)
      && !(s.mem.ecctEn && decide (s.mem.ecctAddr / 256 = a / 256))
  | none => false

/-- A failed region: recorded, reported to Lace, and its engine or supervisor taken out (R382). -/
def State.regionFails (s : State) (a : Nat) : State :=
  let s1 := s.noteUncorrectable a 2 30
  let s2 := { s1 with mem := { s1.mem with fails := satAdd 8 s1.mem.fails 1 } }
  (((s2.offer 0x0C03 a ((bankOf a).getD 0) 0).faultEvent 5 0).fenceBank a).failSupPart a

/-- REGION_TEST (R381, R382): a test that a foreground access ends leaves the region served from its shadow, to be tested again;
one that completes frees the shadow. Neither changes what the region holds. -/
def execRegionTest (addr : Nat) (done pass : Bool) (s : State) : Host.Outcome State Fault Refusal :=
  .next (
    if s.testsRegion addr then
      let others := s.mem.testing.filter (· != addr)
      if 8 ≤ others.length ∨ others.any (fun x => bankOf x == bankOf addr) then s
      else if done then
        let t := { s with mem := { s.mem with testing := others, forcedTests := s.mem.forcedTests.filter (· != addr) } }
        if pass then t else t.regionFails addr
      else { s with mem := { s.mem with testing := addr :: others, restarts := satAdd 16 s.mem.restarts 1 } }
    else s)

/-- REGION_TEST_FORCE (R381): a starved region takes its bank's guaranteed slot. -/
def execRegionTestForce (addr : Nat) (s : State) : Host.Outcome State Fault Refusal :=
  .next (
    if s.testsRegion addr ∧ s.mem.forcedTests.contains addr = false then
      { s with mem := { s.mem with forcedTests := addr :: s.mem.forcedTests } }
    else s)

/-! ## The March engine (R383) -/

/-- A bank the engine may not be pointed at (R383): CTX, KEYC, the SUP part of the supervisor in control, or no bank at all. -/
def State.marchBarred (s : State) (bank : Nat) : Bool :=
  match bankClass bank with
  | some 2 => true
  | some 4 => true
  | some 6 => !s.supv.noSup && (decide (537 ≤ bank) == s.supv.active)
  | some _ => false
  | none => true

/-- MARCH_START (R383, R395): a write of MEM_MARCH. -/
def execMarchStart (who : Initiator) (v : W32) (s : State) : Host.Outcome State Fault Refusal :=
  .next (s.byControl who fun s =>
    let bank := bits v.toNat 0 10
    let pre := v.getLsbD 10
    let t := { s with mem := { s.mem with marchBank := bank, marchPreserve := pre } }
    if v.getLsbD 11 = false ∨ s.mem.march.isSome then t
    else if s.marchBarred bank then { t with mem := { t.mem with marchRefused := true } }
    else { t with mem := { t.mem with marchRefused := false, march := some { bank := bank, preserve := pre } } })

/-- Empty the recorder's slots that a bank holds (R444, R450). -/
def Recorder.clearBank (r : Recorder) (bank : Nat) : Recorder :=
  { r with slots := r.slots.filter fun e => decide (e.1 / 4096 ≠ bank - 528) }

/-- A March run that fails is recorded as an error that cannot be corrected, with source 3 (R377, MEM_ELOG_INFO; assumption log
169). -/
def State.marchFails (s : State) (bank word : Nat) : State :=
  match bankRange bank with
  | some (base, _) => s.noteUncorrectable (base + 8 * word) 3 30
  | none => s

/-- MARCH_DONE (R383): a destructive run leaves zeros, a preserving one the bank as it was. -/
def execMarchDone (pass : Bool) (failWord : Nat) (s : State) : Host.Outcome State Fault Refusal :=
  .next (
    match s.mem.march with
    | none => s
    | some r =>
      let m := if r.preserve then s.mem else
        match bankRange r.bank with
        | some (base, size) => s.mem.zeroRange base size
        | none => s.mem
      let rec' := if r.preserve = false ∧ bankClass r.bank = some 5 then s.rcd.clearBank r.bank else s.rcd
      let t := { s with rcd := rec', mem := { m with march := none, marchPass := pass } }
      if pass then t else { t with mem := { t.mem with failWord := failWord % 65536 } }.marchFails r.bank (failWord % 65536))

/-! ## ECC test mode (R378) -/

/-- A word ECC test mode may be pointed at: in WORK or in the writer's own SUP part. -/
def ecctAllowed (who : Initiator) (a : Nat) : Bool :=
  match classOf a, who with
  | some 1, _ => true
  | some 6, .supervisor b => decide (0x920E0000 ≤ a) == b
  | _, _ => false

/-- ECC_TEST_CTL (R378): any other address is ignored and EN reads 0. -/
def execEccTestCtl (who : Initiator) (v : W32) (s : State) : Host.Outcome State Fault Refusal :=
  .next (s.byControl who fun s =>
    let a := (v &&& 0xFFFFFFF8#32).toNat
    if ecctAllowed who a then { s with mem := { s.mem with ecctEn := v.getLsbD 0, ecctAddr := a } }
    else { s with mem := { s.mem with ecctEn := false } })

/-- The stored check bits of a byte. -/
def Memory.storedChk (m : Memory) (a : Nat) : BitVec 5 := checkBits (m.readByte a) ^^^ SMap.get 0 m.chk a

/-- ECC_TEST_READ (R378): the word as stored, uncorrected. -/
def execEccTestRead (who : Initiator) (s : State) : Host.Outcome State Fault Refusal :=
  .next (s.byControl who fun s =>
    if s.mem.ecctEn then
      let a := s.mem.ecctAddr
      let chk := (List.range 8).foldl (fun n k => n + (s.mem.storedChk (a + k)).toNat * 2 ^ (5 * k)) 0
      { s with mem := { s.mem with ecctData := BitVec.ofNat 64 (leNat (s.mem.read a 8)), ecctChk := BitVec.ofNat 40 chk } }
    else s)

/-- Store a byte with check bits as given (R378). -/
def Memory.rawByte (m : Memory) (a : Nat) (b : Byte) (chk : BitVec 5) : Memory :=
  let w := m.writeByte a b
  { w with chk := SMap.set 0 w.chk a (chk ^^^ checkBits b) }

/-- ECC_TEST_WRITE (R378): data and check bits as the registers stand. -/
def execEccTestWrite (who : Initiator) (s : State) : Host.Outcome State Fault Refusal :=
  .next (s.byControl who fun s =>
    if s.mem.ecctEn then
      { s with mem := (List.range 8).foldl (fun m k =>
          m.rawByte (s.mem.ecctAddr + k) (s.mem.ecctData.extractLsb' (8 * k) 8) (s.mem.ecctChk.extractLsb' (5 * k) 5)) s.mem }
    else s)

/-- CONFLICT_CLEAR (R395): one counter, every class of a master, or all. -/
def execConflictClear (who : Initiator) (v : W32) (s : State) : Host.Outcome State Fault Refusal :=
  .next (s.bySecure who fun s =>
    let m := bits v.toNat 0 5
    let c := bits v.toNat 5 3
    let keep (k : Nat) : Bool :=
      if v.getLsbD 9 then false else if v.getLsbD 8 then decide (k / 8 ≠ m) else decide (k ≠ 8 * m + c)
    { s with mem := { s.mem with conf := SMap.keep (fun k _ => keep k) s.mem.conf } })

/-! ## Rule writes (R391) -/

/-- A rule write of a page range is refused (R391). -/
def State.psetRefused (s : State) (b n : Nat) (x : PageTag) : Bool :=
  decide (n = 0) || decide (pageCount < b + n) || decide (x.colour = 0xFF#8)
    || (s.lcs.anyEnable && (List.range n).any fun k => decide ((s.pageTag (b + k)).tag = 0b11#2) != decide (x.tag = 0b11#2))

/-- An accepted rule write (R391). -/
def Gates.ruled (g : Gates) : Gates := { (g.mirrored (· == GateEntry.epoch)) with epoch := wrapAdd 32 g.epoch 1, busy := true, refused := false }

/-- The grant that a GATE_GSET word names. -/
def grantOf (v : W32) : Grant :=
  { from_ := bits v.toNat 0 8, tgt := bits v.toNat 8 8, read := v.getLsbD 16, write := v.getLsbD 17, valid := v.getLsbD 18 }

/-- A rule write reaches the gates, or is refused (R391). -/
def State.ruleWrite (s : State) : RuleWrite → State
  | .pages b n x =>
    if s.psetRefused b n x then { s with gate := { s.gate with refused := true } }
    else { s with gate := (s.gate.putPages b n x).ruled }
  | .grant e v =>
    let g := s.gate.mirrored (· == GateEntry.grant e)
    { s with gate := { g with grants := SMap.set Grant.none g.grants e (grantOf v) }.ruled }

/-- A rule write is issued: the second of two waits until the first completes (R392). -/
def State.issueRule (s : State) (w : RuleWrite) : State :=
  if s.gate.busy then { s with gate := { s.gate with queued := s.gate.queued ++ [w] } } else s.ruleWrite w

/-- GATE_PSET (R391, R396): GO sets the colour and tag of the page range. -/
def execGatePset (who : Initiator) (v : W32) (s : State) : Host.Outcome State Fault Refusal :=
  .next (s.byControl who fun s =>
    let x : PageTag := { colour := v.extractLsb' 0 8, tag := v.extractLsb' 8 2 }
    let t := { s with gate := { s.gate with psetColour := x.colour, psetTag := x.tag } }
    if v.getLsbD 10 then t.issueRule (.pages s.gate.pbase s.gate.pcount x) else t)

/-- GATE_GSET (R391, R396): GO sets entry GATE_GSEL. -/
def execGateGset (who : Initiator) (v : W32) (s : State) : Host.Outcome State Fault Refusal :=
  .next (s.byControl who fun s =>
    let t := { s with gate := { s.gate with gset := v &&& 0x7FFFF#32 } }
    if v.getLsbD 19 then t.issueRule (.grant s.gate.gsel v) else t)

/-- Issue waiting rule writes up to the first that the gates take; the rest wait for it (R391, R392). -/
def State.issueQueued : List RuleWrite → State → State
  | [], s => { s with gate := { s.gate with queued := [] } }
  | w :: l, s => if (s.ruleWrite w).gate.busy then { s.ruleWrite w with gate := { (s.ruleWrite w).gate with queued := l } }
      else State.issueQueued l (s.ruleWrite w)

/-- RULE_WRITE_COMPLETE (R391, R392): the accesses of the old epoch have retired. -/
def execRuleWriteComplete (s : State) : Host.Outcome State Fault Refusal :=
  .next (if s.gate.busy then State.issueQueued s.gate.queued { s with gate := { s.gate with busy := false } } else s)

/-! ## A failure on the interconnect (R394) -/

/-- The engine unit of a master number (R375). -/
def masterUnit (master : Nat) : Option EngUnit :=
  if master = 20 then some .cal else if master = 21 then some .srg else if master = 22 then some .tul
  else if master = 23 then some .hsh else none

/-- Work of an engine unit, which the report does not name, aborts with cause 2: a recipe reports its step there (R123). -/
def State.failUnit (s : State) (u : EngUnit) : State :=
  let l := (s.engine u).jobs
  match l[Config.freshNat s.fresh % l.length]? with
  | none => s
  | some j => ((s.skip 1).abortOp 2 j).settleUnits

/-- The work that a master other than a core or an engine unit may be doing: its submissions. -/
def State.workOf (s : State) (master : Nat) : List Req :=
  if master = 18 then s.busySlots.map fun n => (s.slot n).req
  else if master = 24 ∨ master = 25 then s.host.admitted.map (·.req)
  else if master = 26 then s.blk.outs.map (·.req)
  else []

/-- The uncorrectable-error outcome at a master (R377): a core takes ECC; another's work, which the report does not name (free
among what it does, assumption log 3), aborts with cause 2. -/
def State.failAt (s : State) (master a : Nat) : State :=
  if master < 18 then
    let t := if (s.core master).started ∧ (s.core master).cur.halted = false then
        s.exception master 0 0x07 0 (BitVec.ofNat 32 a) else s
    if 16 ≤ master then t.failSupPart a else t
  else
    match masterUnit master with
    | some u => s.failUnit u
    | none =>
      let l := s.workOf master
      match l[Config.freshNat s.fresh % l.length]? with
      | none => s
      | some r => (s.skip 1).abortOne 2 r

/-- TRANSACTION_INTEGRITY_FAILURE (R394). -/
def execTransactionIntegrityFailure (master addr : Nat) (s : State) : Host.Outcome State Fault Refusal :=
  .next (
    if s.onMain ∧ master < 32 then
      let s1 := { s with mem := { s.mem with
          elogAddr := addr - addr % 8, elogInfo := elogInfo ((classOf addr).getD 0) 0 master (addr % 8) 0 true } }
      ((s1.failAt master addr).offer 0x0C04 addr master 0).faultEvent 6 0
    else s)

end Sys2Proof.Machine
end

