-- ==== Sys2Proof/Machine/Custody.lean ====
section
/-! DEFINITION. Life-cycle transitions, Plaore tokens, the custodian registry, ceremonies and their steps, the debug enables and
the access port's own instructions (R423–R443). -/

namespace Sys2Proof.Machine

/-! ## Challenges (R434) -/

/-- The ceremony challenge, where it has not lapsed. -/
def State.cerChallenge (s : State) : Option Bytes :=
  match s.lcs.challenge with
  | some c => if s.sys.optime ≤ c.issued + 600000 then some c.bytes else none
  | none => none

/-- CER_CHALLENGE (R433, R434): 32 bytes drawn from ENT_DATA. -/
def execCerChallenge (r : Req) (s : State) : Host.Outcome State Fault Refusal :=
  .next (s.hostCommand r 0x0801 fun s =>
    s.drawFor (.command r) 2 fun b t =>
      ({ t with lcs := { t.lcs with challenge := some { bytes := b, issued := t.sys.optime } } }).answer r 0 b)

/-- CEREMONY_CHALLENGE_LAPSE (R434): 10 minutes of operating time after its issue. -/
def execCeremonyChallengeLapse (s : State) : Host.Outcome State Fault Refusal :=
  .next (
    match s.lcs.challenge with
    | some c => if c.issued + 600000 ≤ s.sys.optime then { s with lcs := { s.lcs with challenge := none } } else s
    | none => s)

/-! ## Plaore tokens (R429, R430) -/

/-- Check 1 of R430 for a token of a KIND. -/
def tokenForm (tok : Bytes) (kind : Nat) : Bool :=
  decide (tok.length = 3472) && decide (leAt tok 0 4 = 0x4B4C4C43) && decide (leAt tok 4 1 = kind)
    && decide (leAt tok (if kind = 1 then 7 else 6) 1 = 0) && (kind == 1 || decide (leAt tok 7 1 < 16))
    && decide (leAt tok 8 8 = 0) && decide (leAt tok 3469 3 = 0)

/-- Both signatures of a token (R429). -/
def tokenSigned (tok : Bytes) : Bool :=
  let d := sha384Bytes (tok.take 64)
  Crypto.ecdsaVerify 0x11 Config.plaoreEc d (slice tok 64 96)
    && Crypto.mldsaVerify 0x29 Config.plaoreMl [0x43, 0x4C, 0x4C, 0x43] d (slice tok 160 3309)

/-- A transition that a token authorises (R426). -/
def tokenTransition (from_ tgt : Nat) : Bool :=
  (from_ == 0 && (tgt == 1 || tgt == 3)) || (from_ == 1 && (tgt == 2 || tgt == 3))

/-- The reason a token is refused for, in the order of R430; 0 where it is accepted. -/
def State.tokenReason (s : State) (tok : Bytes) (kind : Nat) (challenge : Option Bytes) : Nat :=
  if tokenForm tok kind = false ∨ slice tok 16 16 ≠ bytes128 Config.deviceIdentity then 0xA9
  else if challenge ≠ some (slice tok 32 32) then 0xA0
  else if leAt tok 5 1 ≠ s.lifeCycle
      ∨ (if kind = 1 then tokenTransition s.lifeCycle (leAt tok 6 1) else decide (s.lifeCycle = 1)) = false then 0xA9
  else if tokenSigned tok then 0 else 0xA9

/-! ## Transitions (R425, R426) -/

/-- Steps 1 and 2 of R425: the BEGUN mark and the erase. -/
def State.beginTransition (s : State) (tgt : Nat) : State :=
  let t := { s with lcs := { s.lcs with otp := s.lcs.otp.program (2 * (tgt - 1)) } }
  t.eraseLogged 2

/-- LOCKED before the restart of an accepted transition (R426). -/
def State.awaitRestart (s : State) : State :=
  let t := if s.sys.mode = .locked then s.dropCeremony else s.enterLocked 11
  { t with lcs := { t.lcs with restartPending := true } }

/-- LC_ADVANCE (R426, R430). -/
def execLcAdvance (r : Req) (s : State) : Host.Outcome State Fault Refusal :=
  .next (s.hostCommand r 0x0808 fun s =>
    let k := s.tokenReason r.bytes 1 s.cerChallenge
    if k ≠ 0 then s.refuseRange r k
    else
      let t := { s with lcs := { s.lcs with challenge := none } }.beginTransition (leAt r.bytes 6 1)
      (t.answer r 0 []).awaitRestart)

/-- LIFECYCLE_RESTART (R426): as on release of RESET_N; the ROM completes the transition. -/
def execLifecycleRestart (romOk : Bool) (s : State) : Host.Outcome State Fault Refusal :=
  .next (if s.onMain ∧ s.lcs.restartPending then s.mainStart 11 romOk else s)

/-! ## The registry (R431, R432) -/

/-- Custodian `i`. -/
def State.custodian (s : State) (i : Nat) : Custodian := SMap.get Custodian.none s.bkd.custodians i

/-- Registered custodians (R431). -/
def State.custodianCount (s : State) : Nat := (s.bkd.custodians.filter fun x => x.2.active).length

/-- A signature entry of R436: its index, and the keys and signatures it carries. -/
structure CerSig where
  cust : Nat
  hasMl : Bool
  ec : Bytes
  ecSig : Bytes
  ml : Bytes
  mlSig : Bytes
  deriving DecidableEq, Repr

/-- The entry at an offset, and its length, where it has the form of R436. -/
def cerSigAt (b : Bytes) (off : Nat) : Option (CerSig × Nat) :=
  let k := leAt b (off + 1) 1
  let ml := k.testBit 1
  let n := if ml then 5464 else 200
  if off + n ≤ b.length ∧ leAt b off 1 ≤ 15 ∧ (k = 1 ∨ k = 3) ∧ leAt b (off + 2) 2 = 0 ∧ leAt b (off + 101) 3 = 0
      ∧ (ml = false ∨ leAt b (off + 5461) 3 = 0) then
    some ({ cust := leAt b off 1, hasMl := ml, ec := slice b (off + 4) 97, ecSig := slice b (off + 104) 96,
            ml := if ml then slice b (off + 200) 1952 else [], mlSig := if ml then slice b (off + 2152) 3309 else [] }, n)
  else none

/-- `n` entries from an offset on that end the input. -/
def cerSigs (b : Bytes) : Nat → Nat → Option (List CerSig)
  | 0, off => if off = b.length then some [] else none
  | n + 1, off =>
    match cerSigAt b off with
    | none => none
    | some (e, k) => (cerSigs b n (off + k)).map (e :: ·)

/-- The context string of ceremony signatures (R436). -/
def cerContext : Bytes := [0x43, 0x4C, 0x43, 0x45]

/-- An entry's own signatures over a digest. -/
def CerSig.signs (e : CerSig) (d : Bytes) : Bool :=
  Crypto.ecdsaVerify 0x11 e.ec d e.ecSig && (!e.hasMl || Crypto.mldsaVerify 0x29 e.ml cerContext d e.mlSig)

/-- An entry counts toward the quorum (R436). -/
def State.sigValid (s : State) (d : Bytes) (e : CerSig) : Bool :=
  let c := s.custodian e.cust
  c.active && decide (sha384Bytes e.ec = c.keyHash) && Crypto.ecdsaVerify 0x11 e.ec d e.ecSig
    && (!c.mldsa || (e.hasMl && decide (sha384Bytes e.ml = c.mlHash) && Crypto.mldsaVerify 0x29 e.ml cerContext d e.mlSig))

/-- The custodians counted, in order and no further than the quorum (R436). -/
def State.counted (s : State) (d : Bytes) (es : List CerSig) : List Nat :=
  (es.foldl (fun l e => if l.contains e.cust = false ∧ s.sigValid d e then l ++ [e.cust] else l) []).take (max 2 s.bkd.quorum)

/-- Register a custodian with its keys (R431). -/
def State.register (s : State) (i : Nat) (e : CerSig) : State :=
  { s with
    bkd := { s.bkd with
      custodians := SMap.set Custodian.none s.bkd.custodians i
        { active := true, mldsa := e.hasMl, addedTs := s.bkd.ts, keyHash := sha384Bytes e.ec,
          mlHash := if e.hasMl then sha384Bytes e.ml else zeros 48 } }
    lcs := { s.lcs with store := SMap.set none s.lcs.store i (some (e.ec, if e.hasMl then e.ml else zeros 1952)) } }

/-- A change to the registry (R437). -/
def State.registryChanged (s : State) : State := { s with bkd := { s.bkd with regChanges := wrapAdd 32 s.bkd.regChanges 1 } }

/-- The founding statement's header F (R432, R435). -/
def foundingHeader (challenge : Bytes) : Bytes :=
  leBytes 4 0x45434C43 ++ leBytes 2 1 ++ leBytes 1 2 ++ zeros 9 ++ bytes128 Config.deviceIdentity ++ challenge

/-- CUST_FOUND (R432). -/
def execCustFound (r : Req) (s : State) : Host.Outcome State Fault Refusal :=
  .next (s.hostCommand r 0x0806 fun s =>
    let m := r.desc.par 0 1
    let n := r.desc.par 1 1
    if s.custodianCount ≠ 0 ∨ s.lifeCycle = 3 then s.refuseRange r 0xA8
    else
      match (if 2 ≤ m ∧ m ≤ 8 ∧ m ≤ n ∧ n ≤ 16 then cerSigs r.bytes n 0 else none), s.cerChallenge with
      | none, _ => s.refuseRange r 0xA1
      | some _, none => s.refuseRange r 0xA0
      | some es, some c =>
        let d := sha384Bytes (foundingHeader c ++ es.flatMap fun e => sha384Bytes e.ec)
        let good := (es.filter fun e => e.signs d).length
        if (es.map (·.cust)).Nodup = false then s.refuseRange r 0xA1
        else if good ≠ n then s.refuse r 0x0A01 good 0xA3
        else
          let t := es.foldl (fun t e => t.register e.cust e) s
          let u := { t with bkd := { t.bkd with quorum := m }, lcs := { t.lcs with challenge := none } }
          u.registryChanged.answer r 0 [])

/-- FLAGS of a registry entry (R431). -/
def Custodian.flags (c : Custodian) : Nat := flag c.active + 2 * flag c.mldsa

/-- REGISTRY_READ (R433). -/
def execRegistryRead (r : Req) (s : State) : Host.Outcome State Fault Refusal :=
  .next (s.hostCommand r 0x0807 fun s =>
    let head := leBytes 1 s.custodianCount ++ leBytes 1 s.bkd.quorum ++ zeros 2 ++ leBytes 4 s.bkd.regChanges ++ zeros 8
    let one (x : Nat × Custodian) : Bytes :=
      let k := (SMap.get (none : Option (Bytes × Bytes)) s.lcs.store x.1).getD (zeros 97, zeros 1952)
      leBytes 1 x.1 ++ leBytes 1 x.2.flags ++ zeros 2 ++ (k.1 ++ zeros 97).take 97 ++ zeros 3 ++ (k.2 ++ zeros 1952).take 1952
    s.answer r 0 (head ++ (s.bkd.custodians.filter fun x => x.2.active).flatMap one))

/-! ## Opening, querying and closing a ceremony (R433–R438) -/

/-- A step record (R435). -/
def cerStepAt (b : Bytes) (k : Nat) : CerStep :=
  let o := 64 + 64 * k
  { code := leAt b o 1, dataLen := leAt b (o + 2) 2, arg0 := leAt b (o + 4) 4, arg1 := leAt b (o + 8) 8,
    dataHash := slice b (o + 16) 48 }

/-- The step code is one of R437 that the ceremony's KIND may carry. -/
def codeOk (kind code : Nat) : Bool :=
  if kind = 1 then code == 1 || code == 2 else decide (2 ≤ code) && decide (code ≤ 13)

/-- A step record is as R435 states. -/
def stepOk (b : Bytes) (kind k : Nat) : Bool :=
  let x := cerStepAt b k
  codeOk kind x.code && decide (leAt b (65 + 64 * k) 1 = 0) && decide (x.dataLen ≤ 4096)
    && (decide (x.dataLen ≠ 0) || decide (x.dataHash = zeros 48))

/-- Check 1 of R436: the statement's length, its header, its step records. -/
def statementOk (b : Bytes) : Bool :=
  let kind := leAt b 6 1
  let steps := leAt b 7 1
  decide (64 ≤ b.length) && decide (leAt b 0 4 = 0x45434C43) && decide (leAt b 4 2 = 1) && decide (kind < 2)
    && decide (1 ≤ steps) && decide (steps ≤ 16) && (kind == 0 || steps == 1) && decide (60 ≤ leAt b 8 2)
    && decide (leAt b 8 2 ≤ 3600) && decide (leAt b 10 2 < 2) && decide (leAt b 12 4 = 0)
    && decide (64 + 64 * steps ≤ b.length) && (List.range steps).all (stepOk b kind)

/-- CER_OPEN's body: the checks of R436 in order. -/
def State.openCeremony (s : State) (r : Req) : State :=
  let b := r.bytes
  let kind := leAt b 6 1
  let steps := leAt b 7 1
  let stmt := b.take (64 + 64 * steps)
  let n := r.desc.par 0 1
  match (if statementOk b ∧ 2 ≤ n ∧ n ≤ 8 then cerSigs b n (64 + 64 * steps) else none) with
  | none => s.refuseRange r 0xA1
  | some es =>
    if s.cerChallenge ≠ some (slice b 32 32) ∨ slice b 16 16 ≠ bytes128 Config.deviceIdentity then s.refuseRange r 0xA0
    else if kind = 0 ∧ s.sys.mode = .locked then s.refuse r 0x0701 0 0
    else if kind = 1 ∧ s.sys.mode ≠ .locked then s.refuseRange r 0xA2
    else if s.lcs.ceremony.isSome then s.refuse r 0x0101 (s.hint r) 0xA4
    else
      let l := s.counted (sha384Bytes stmt) es
      if l.length < max 2 s.bkd.quorum then s.refuse r 0x0A01 l.length 0xA3
      else
        let c : Ceremony :=
          { unlock := kind == 1, steps := (List.range steps).map (cerStepAt b), next := 0, suspend := (leAt b 10 2).testBit 0,
            timeoutS := leAt b 8 2, opened := s.sys.optime, quorum := l.foldl (fun m i => m ||| (1#16 <<< i)) 0#16,
            statement := stmt, running := none }
        let t := { s with lcs := { s.lcs with ceremony := some c, challenge := none } }
        (t.setMode .ceremony 6).answer r l.length []

/-- CER_OPEN (R436, R47). -/
def execCerOpen (r : Req) (s : State) : Host.Outcome State Fault Refusal :=
  .next (s.hostCommand r 0x0802 fun s => s.openCeremony r)

/-- A step that runs ends with the ceremony: its command is refused as not the next step (R438). -/
def State.endRunning (s : State) : State :=
  match s.lcs.ceremony with
  | some c => match c.running with
    | some x => s.refuseRange x.req 0xA5
    | none => s
  | none => s

/-- Close the ceremony (R438): an unlock ceremony back into LOCKED, with all that entering it does (R46, R82); another into
SERVICE or DEGRADED. -/
def State.closeCeremony (s : State) : State :=
  match s.lcs.ceremony with
  | none => s
  | some c =>
    let t := s.endRunning
    let u := (t.lace.enrolling.map (·.enrol)).getD [] |>.foldl
      (fun v ch => v.setMonitor ch { v.monitor ch with suppressed := false }) t
    if c.unlock then u.dropCeremony.enterLocked 6 else u.dropCeremony.setMode s.openMode 6

/-- CER_CLOSE (R438). With no ceremony open there is nothing to close. -/
def execCerClose (r : Req) (s : State) : Host.Outcome State Fault Refusal :=
  .next (s.hostCommand r 0x0804 fun s => (s.answer r 0 []).closeCeremony)

/-- CEREMONY_TIMEOUT (R438): TIMEOUT_S of operating time after CER_OPEN. -/
def execCeremonyTimeout (s : State) : Host.Outcome State Fault Refusal :=
  .next (
    match s.lcs.ceremony with
    | some c => if c.opened + 1000 * c.timeoutS ≤ s.sys.optime then s.closeCeremony else s
    | none => s)

/-- LCS_CER as a word. -/
def State.lcsCer (s : State) : Nat :=
  match s.lcs.ceremony with
  | none => 0
  | some c =>
    let stop := c.opened + 1000 * c.timeoutS
    1 + 2 * flag c.unlock + 4 * (c.next % 16) + 64 * c.steps.length + 2048 * flag c.suspend
      + 4096 * ceilDiv (stop - s.sys.optime) 1000

/-- LCS_REG and LCS_REGMASK as words. -/
def State.lcsReg (s : State) : Nat := s.custodianCount + 32 * s.bkd.quorum
def State.lcsRegMask (s : State) : Nat :=
  (List.range 16).foldl (fun n i => n + flag (s.custodian i).active * 2 ^ i) 0

/-- CER_QUERY (R433). -/
def execCerQuery (r : Req) (s : State) : Host.Outcome State Fault Refusal :=
  .next (s.hostCommand r 0x0805 fun s =>
    s.answer r 0 (leBytes 4 s.lcsCer ++ leBytes 4 s.lcsReg ++ leBytes 4 s.lcsRegMask ++ zeros 4))

/-! ## Running a step (R437, R438) -/

/-- Replace what the open ceremony holds. -/
def State.setCeremony (s : State) (c : Ceremony) : State := { s with lcs := { s.lcs with ceremony := some c } }

/-- CER_STEP (R438): the next step starts once its index and its data are right. A step that still runs is not the next one. -/
def execCerStep (r : Req) (s : State) : Host.Outcome State Fault Refusal :=
  .next (s.hostCommand r 0x0803 fun s =>
    match s.lcs.ceremony with
    | none => s.refuseRange r 0xA5
    | some c =>
      match c.running, c.steps[c.next]? with
      | none, some x =>
        if r.desc.par 0 1 ≠ c.next then s.refuseRange r 0xA5
        else if r.bytes.length ≠ x.dataLen ∨ (x.dataLen ≠ 0 ∧ sha384Bytes r.bytes ≠ x.dataHash) then s.refuseRange r 0xA6
        else s.setCeremony { c with running := some { req := r, data := r.bytes } }
      | some x, _ => if x.req = r then s else s.refuseRange r 0xA5
      | none, none => s.refuseRange r 0xA5)

/-- The step under way, where it has a code: the ceremony, the step, its command and data. -/
def State.stepNow (s : State) (code : Nat) : Option (Ceremony × CerStep × CerRun) :=
  match s.lcs.ceremony with
  | some c =>
    match c.running, c.steps[c.next]? with
    | some x, some st => if st.code = code then some (c, st, x) else none
    | _, _ => none
  | none => none

/-- A step fails its precondition: nothing changes and it may be submitted again (R438). -/
def State.failStep (s : State) (c : Ceremony) (x : CerRun) (reason : Nat) : State :=
  (s.setCeremony { c with running := none }).refuseRange x.req reason

/-- A step completes: its record, its command's completion, and the close after the last one (R437, R438). -/
def State.finishStep (s : State) (c : Ceremony) (st : CerStep) (x : CerRun) (info : Nat) : State :=
  let t := (s.setCeremony { c with running := none, next := c.next + 1 }).offer 0x0E02 st.code c.next (info % 2 ^ 32)
  let u := t.answer x.req info []
  if c.next + 1 = c.steps.length then u.closeCeremony else u

/-- Run the step under way if it has this code: its precondition, the reason of its failure, and its effect. -/
def State.runStep (s : State) (code reason : Nat) (ok : Ceremony → CerStep → CerRun → Bool)
    (f : CerStep → CerRun → State → State × Nat) : State :=
  match s.stepNow code with
  | none => s
  | some (c, st, x) =>
    if ok c st x then
      let p := f st x s
      p.1.finishStep c st x p.2
    else s.failStep c x reason

/-- A monitor of class A2 or A3 has its condition present (R413). -/
def State.lockingCondition (s : State) : Bool :=
  s.lace.monitors.any fun x => x.2.condition && decide (2 ≤ (s.alarmCfg x.1).cls)

/-- End every standing A2 and A3 alarm (R413). -/
def State.endLockAlarms (s : State) : State :=
  let quiet (m : Monitor) : Monitor := if 2 ≤ m.standing.getD 0 then { m with standing := none } else m
  { s with lace := { s.lace with monitors := SMap.mapV Monitor.rest (fun _ m => quiet m) s.lace.monitors } }

/-- UNLOCK (R413, R418, R438). Damask stays locked where a secure invasive enable has been set in this start (R442). -/
def execUnlock (s : State) : Host.Outcome State Fault Refusal :=
  .next (
    match s.stepNow 0x01 with
    | none => s
    | some (c, st, x) =>
      if s.lockingCondition ∨ s.bkd.logFull then s.failStep c x 0xAA
      else
        let t := s.endLockAlarms
        let u := { t with
          dmk := { t.dmk with locked := t.lcs.dmkHold }
          sys := { t.sys with deferredLock := false }
          bkd := { t.bkd with lockKept := false, pendLock := false } }
        (u.logEvent 0x0A03 c.quorum.toNat).finishStep { c with unlock := false } st x 0)

/-- END_OF_LIFE (R426, R437): the command completes, then LOCKED and the restart. -/
def execEndOfLife (s : State) : Host.Outcome State Fault Refusal :=
  .next (
    match s.stepNow 0x02 with
    | none => s
    | some (c, _, x) =>
      if s.lifeCycle ≠ 2 then s.failStep c x 0xA7
      else
        let t := (s.beginTransition 3).setCeremony { c with running := none, next := c.next + 1 }
        ((t.offer 0x0E02 2 c.next 0).answer x.req 0 []).awaitRestart)

/-- ROOT_GEN (R208, R437): it waits for 256 bits of ENT_DATA, and draws an all-zero value again. -/
def execRootGen (s : State) : Host.Outcome State Fault Refusal :=
  .next (
    match s.stepNow 0x03 with
    | none => s
    | some (c, st, x) =>
      if s.lifeCycle ≠ 2 ∨ s.bkd.l0.isSome then s.failStep c x 0xA7
      else
        match s.takeWords 2 with
        | none => s
        | some (l, t) =>
          let b := wordBytes l
          if b = zeros 32 then t else (t.generateRoot b).finishStep c st x 0)

/-- The lowest free custodian index. -/
def State.freeCustodian (s : State) : Nat := ((List.range 16).find? fun i => !(s.custodian i).active).getD 16

/-- The new custodian's entry in a step's data. -/
def newCustodian (x : CerRun) : Option CerSig :=
  match cerSigAt x.data 0 with
  | some (e, n) => if n = x.data.length then some e else none
  | none => none

/-- CUST_ADD (R437): INFO is the index. -/
def execCustAdd (s : State) : Host.Outcome State Fault Refusal :=
  .next (
    match s.stepNow 0x04 with
    | none => s
    | some (c, st, x) =>
      match newCustodian x with
      | none => s.failStep c x 0xA7
      | some e =>
        let i := s.freeCustodian
        if 16 ≤ i ∨ s.bkd.custodians.any (fun y => y.2.active && decide (y.2.keyHash = sha384Bytes e.ec))
            ∨ e.signs (sha384Bytes c.statement) = false then s.failStep c x 0xA7
        else (s.register i e).registryChanged.finishStep c st x i)

/-- Zero a custodian's entry and store slot (R437). -/
def State.unregister (s : State) (i : Nat) : State :=
  { s with bkd := { s.bkd with custodians := SMap.drop i s.bkd.custodians }, lcs := { s.lcs with store := SMap.drop i s.lcs.store } }

/-- CUST_REMOVE (R437). -/
def execCustRemove (s : State) : Host.Outcome State Fault Refusal :=
  .next (s.runStep 0x05 0xA7
    (fun _ st _ => (s.custodian st.arg0).active && decide (max 2 s.bkd.quorum ≤ s.custodianCount - 1))
    (fun st _ s => ((s.unregister st.arg0).registryChanged, 0)))

/-- QUORUM_SET (R437). -/
def execQuorumSet (s : State) : Host.Outcome State Fault Refusal :=
  .next (s.runStep 0x06 0xA7
    (fun _ st _ => decide (2 ≤ st.arg0) && decide (st.arg0 ≤ 8) && decide (st.arg0 ≤ s.custodianCount))
    (fun st _ s => ({ s with bkd := { s.bkd with quorum := st.arg0 } }.registryChanged, 0)))

/-- INTR_CONFIG (R404, R437). -/
def execIntrConfig (s : State) : Host.Outcome State Fault Refusal :=
  .next (s.runStep 0x08 0xA7
    (fun _ st _ => pairsOk (BitVec.ofNat 16 st.arg0))
    (fun st _ s => (s.setPins (BitVec.ofNat 16 st.arg0), 0)))

/-- OWNER_SET (R437): effective at the next start, when the ROM reads OTP (R38). -/
def execOwnerSet (s : State) : Host.Outcome State Fault Refusal :=
  .next (s.runStep 0x0D 0xA7
    (fun _ _ x => decide (s.lifeCycle = 2) && !s.lcs.otp.ownerBit && decide (x.data.length = 97))
    (fun _ x s => ({ s with lcs := { s.lcs with
        otp := { s.lcs.otp with ownerBit := true, ownerHash := sha384Bytes x.data } } }, 0)))

/-- The key-state entries of a tenant's node's handles take CEIL = LIMIT: this device issues no count of them again (R200). -/
def Damask.retireCounts (d : Damask) (tenant node limit : Nat) : Damask :=
  let retire (e : KsEntry) : KsEntry :=
    if hTenant e.handle = tenant ∧ hNode e.handle = node ∧ e.handle ≠ 0 ∧ e.handle ≠ ksReleased then { e with ceil := limit } else e
  { d with ks := SMap.mapV KsEntry.free (fun _ e => retire e) d.ks }

/-- OWNER_MOVE (R200, R437): the node names its new owner. What carries the CEIL last reserved here to that device the spec does not say
(assumption log 165). -/
def execOwnerMove (s : State) : Host.Outcome State Fault Refusal :=
  .next (s.runStep 0x0B 0xA7
    (fun _ st _ => match s.node (bits st.arg0 0 16) with
      | some n => s.ownNode n && decide (n.limit ≠ 0)
      | none => false)
    (fun st _ s =>
      let k := bits st.arg0 0 16
      match s.node k with
      | some n =>
        let d := s.dmk.retireCounts n.tenant k n.limit
        ({ s with dmk := { d with nodes := SMap.set none d.nodes k (some { n with owner := bits st.arg1 0 16 }) } }, 0)
      | none => (s, 0)))

/-! ### Mesh enrolment (R401) -/

/-- The channels of a 56-byte bitmap: channel c is bit c mod 8 of byte c ÷ 8. -/
def bitmapChannels (b : Bytes) : List Nat :=
  (List.range meshCount).filter fun c => (b[c / 8]?.getD 0).getLsbD (c % 8)

/-- MESH_ENROL (R401, R437): the step starts; the channels to enrol are suppressed and no stimulus runs. -/
def execMeshEnrol (s : State) : Host.Outcome State Fault Refusal :=
  .next (
    match s.stepNow 0x07 with
    | none => s
    | some (c, st, x) =>
      let en := bitmapChannels (x.data.take 56)
      let wd := bitmapChannels (slice x.data 56 56)
      if s.lace.enrolling.isSome then s
      else if x.data.length ≠ 112 ∨ st.arg0 < 2 ∨ 16 < st.arg0 ∨ en.any (wd.contains ·) then s.failStep c x 0xA7
      else
        let t := s.cutStimulus
        let u := en.foldl (fun v ch => v.setMonitor ch { v.monitor ch with suppressed := true }) t
        { u with lace := { u.lace with stimAsked := none, stimDue := [],
                                       enrolling := some { enrol := en, withdraw := wd, margin := st.arg0 } } })

/-- A mean rounded to the nearest code, halves upwards. -/
def meanOf (l : List Nat) : Nat := (2 * l.sum + l.length) / (2 * l.length)

/-- The baseline of 256 fingerprints and its noise (R401). -/
def baselineOf (ps : List (List Nat)) : List Nat × Nat :=
  let b := (List.range 64).map fun i => meanOf (ps.map fun p => p[i]?.getD 0 % 1024)
  (b, ps.foldl (fun n p => max n (deviation b (p.map (· % 1024))).1) 0)

/-- Enrol one channel from its fingerprints: rejected for noise or an OPEN or SHORT mean, else baseline, threshold, armed
(R401). A channel without its 256 fingerprints is rejected. -/
def Channel.enrolWith (c : Channel) (k : Nat) (ps : List (List Nat)) : Channel :=
  let x := baselineOf ps
  if ps.length ≠ 256 ∨ ps.any (fun p => decide (p.length ≠ 64)) ∨ 24 < x.2 ∨ meshKind (List.replicate 64 512) x.1 ≠ 0 then
    { c with rejected := true }
  else
    { c with baseline := some { samples := x.1, threshold := min 511 (max 8 (k * x.2)), intact := true },
             armed := true, rejected := false, confirm := false }

/-- MESH_ENROLMENT_DONE (R401, R417): one ENROLLED entry for the step, which then completes. -/
def execMeshEnrolmentDone (prints : List (Nat × List (List Nat))) (s : State) : Host.Outcome State Fault Refusal :=
  .next (
    match s.lace.enrolling, s.stepNow 0x07 with
    | some e, some (c, st, x) =>
      let s1 := e.enrol.foldl (fun t ch =>
        let ps := ((prints.find? fun p => p.1 == ch).map (·.2)).getD []
        (t.setChannel ch ((t.channel ch).enrolWith e.margin ps)).setMonitor ch { t.monitor ch with suppressed := false }) s
      let s2 := e.withdraw.foldl (fun t ch => (t.setChannel ch Channel.rest).calm ch) s1
      let n := (e.enrol.filter fun ch => !(s2.channel ch).rejected).length
      let s3 := { s2 with lace := { s2.lace with enrolling := none } }
      (s3.logEvent 0x0A05 (n * 2 ^ 16 + e.withdraw.length)).finishStep c st x 0
    | _, _ => s)

/-! ## Debug enables (R441, R442) -/

/-- DEBUG_NORMAL (R433, R441). -/
def execDebugNormal (r : Req) (s : State) : Host.Outcome State Fault Refusal :=
  .next (s.hostCommand r 0x0809 fun s =>
    let v := r.desc.par 0 1
    (s.setDebug (v.testBit 0) (v.testBit 1) s.lcs.sni s.lcs.sinv).answer r 0 [])

/-- DEBUG_SECURE (R437, R442): SNI alone takes effect at once; SINV locks Damask and waits for the admitted work. -/
def execDebugSecure (s : State) : Host.Outcome State Fault Refusal :=
  .next (
    match s.stepNow 0x0C with
    | none => s
    | some (c, st, x) =>
      if s.lcs.sinvWait.isSome then s
      else if s.lifeCycle ≠ 2 then s.failStep c x 0xA7
      else if st.arg0.testBit 1 then 
        let earlier := (s.host.admitted.map (·.req)).filter fun r => decide (r ≠ x.req)
        { s.lockDamask with lcs := { s.lcs with sinvWait := some (st.arg0.testBit 0), sinvBefore := earlier } }
      else (s.setDebug s.lcs.nni s.lcs.ninv (st.arg0.testBit 0) false).finishStep c st x 0)

/-- A command that a step setting SINV ends itself: an RSA key search that still runs (R442). -/
def State.searching (s : State) (r : Req) : Bool := s.isSearch (.raw r) && s.heldByUnit (.raw r)

/-- The work admitted before the step has ended, apart from key searches (R442). -/
def State.workDrained (s : State) : Bool := s.lcs.sinvBefore.all fun r => !s.isAdmitted r || s.searching r

/-- DEBUG_SECURE_DRAINED (R442): a key search that still runs ends with cause 10, then SINV is set and the step completes. Work
admitted before the step holds it back. -/
def execDebugSecureDrained (s : State) : Host.Outcome State Fault Refusal :=
  .next (
    match s.lcs.sinvWait, s.stepNow 0x0C with
    | some sni, some (c, st, x) =>
      if s.workDrained then
        let t := s.abortWhere s.searching 10
        let u := { t with lcs := { t.lcs with sinvWait := none, sinvBefore := [], dmkHold := true } }
        (u.setDebug u.lcs.nni u.lcs.ninv sni true).finishStep c st x 0
      else s
    | _, _ => s)

/-- LCS_DBGEN_WRITE (R441, R443): a 1 in SNI or SINV is accepted only in CEREMONY, in SINV only with Damask locked; where it is
not, the bit keeps its value. -/
def execLcsDbgenWrite (who : Initiator) (v : W32) (s : State) : Host.Outcome State Fault Refusal :=
  .next (s.byControl who fun s =>
    let cer := decide (s.sys.mode = .ceremony)
    let sni := v.getLsbD 2 && (cer || s.lcs.sni)
    let sinv := v.getLsbD 3 && ((cer && s.dmk.locked) || s.lcs.sinv)
    let t := s.setDebug (v.getLsbD 0) (v.getLsbD 1) sni sinv
    { t with lcs := { t.lcs with dmkHold := t.lcs.dmkHold || sinv } })

/-! ## The access port (R439) -/

/-- Select an instruction; a refused one acts as BYPASS. -/
def State.tapSelect (s : State) (i : TapInstr) (ok : Bool) : State :=
  { s with lcs := { s.lcs with tap := if ok then i else .bypass } }

/-- The port answers: it is present, and the main domain has power. -/
def State.tapReady (s : State) : Bool := s.onMain && s.tapPresent

/-- IDCODE (R439). -/
def execIdcode (s : State) : Host.Outcome State Fault Refusal :=
  .next (
    if s.tapReady then
      let v := Config.sysStep.toNat % 16 * 2 ^ 28 + 0x0640 * 2 ^ 12 + Config.manufacturer.toNat * 2 + 1
      let t := s.tapSelect .idcode true
      { t with lcs := { t.lcs with dapOut := leBytes 4 v } }
    else s)

/-- BYPASS (R439). -/
def execBypass (s : State) : Host.Outcome State Fault Refusal := .next (if s.tapReady then s.tapSelect .bypass true else s)

/-- Boundary scan, in TEST alone (R439): the register takes what is shifted in, and shows what it held. -/
def State.boundaryScan (s : State) (i : TapInstr) (v : BitVec 4) : State :=
  if s.tapReady = false then s
  else if s.lifeCycle = 1 then
    let t := s.tapSelect i true
    { t with lcs := { t.lcs with boundary := v, dapOut := leBytes 1 s.lcs.boundary.toNat } }
  else s.tapSelect i false

/-- SAMPLE_PRELOAD (R439). -/
def execSamplePreload (v : BitVec 4) (s : State) : Host.Outcome State Fault Refusal := .next (s.boundaryScan .samplePreload v)

/-- EXTEST (R439). -/
def execExtest (v : BitVec 4) (s : State) : Host.Outcome State Fault Refusal := .next (s.boundaryScan .extest v)

/-- Internal scan is open (R423, R439). -/
def State.scanOpen (s : State) : Bool :=
  decide (s.lifeCycle = 0) || decide (s.lifeCycle = 3) || (decide (s.lifeCycle = 1) && s.lcs.rights.getLsbD 0)

/-- SCAN (R439): every SRAM bank is zero-filled and the main domain held in reset. -/
def execScan (s : State) : Host.Outcome State Fault Refusal :=
  .next (
    if s.tapReady = false then s
    else if s.scanOpen then
      let t := s.mainReset
      { t with boot := { t.boot with held := true }, lcs := { t.lcs with scanning := true, tap := .scan } }
    else s.tapSelect .scan false)

/-- SCAN_EXIT (R439): the main domain restarts as on release of RESET_N. -/
def execScanExit (romOk : Bool) (s : State) : Host.Outcome State Fault Refusal :=
  .next (if s.lcs.scanning ∧ s.powered then s.mainStart 1 romOk else s)

/-- TAP_CHALLENGE (R429, R430): zeros before the entropy start-up test has passed, and no token can match them. -/
def execTapChallenge (s : State) : Host.Outcome State Fault Refusal :=
  .next (
    if s.tapReady = false then s
    else if s.lifeCycle ≠ 1 then s.tapSelect .challenge false
    else
      let t := s.tapSelect .challenge true
      if s.ent.ready = false then { t with lcs := { t.lcs with portChallenge := none, dapOut := zeros 32 } }
      else
        match t.takeWords 2 with
        | none => t
        | some (l, u) =>
          let b := wordBytes l
          { u with lcs := { u.lcs with portChallenge := some b, dapOut := b } })

/-- TAP_TOKEN (R429, R430): the rights of an accepted token last until the next start; the challenge lapses at its use. -/
def execTapToken (tok : Bytes) (s : State) : Host.Outcome State Fault Refusal :=
  .next (
    if s.tapReady = false then s
    else if s.lifeCycle ≠ 1 then s.tapSelect .token false
    else
      let t := s.tapSelect .token true
      let k := s.tokenReason tok 2 s.lcs.portChallenge
      let l := { t.lcs with portChallenge := none, tokenKind := leAt tok 4 1 % 4, tokenReason := k }
      if k = 0 then { t with lcs := { l with tokenResult := 1, rights := l.rights ||| BitVec.ofNat 4 (leAt tok 7 1) } }
      else { t with lcs := { l with tokenResult := 2 } })

end Sys2Proof.Machine
end

