-- ==== Sys2Proof/Machine/Fabric.lean ====
section
/-! DEFINITION. What the commands of the fabric share: acceptance and transit of frames, the handshake, the coordinator and
its addresses, and the routing table (R460, R461, R464–R472). -/

namespace Sys2Proof.Machine

/-! ## Acceptance of frames (R460, R461, R473) -/

/-- The frame types of R460. -/
def frameTypes : List Nat :=
  [0x01, 0x02, 0x03, 0x10, 0x11, 0x12, 0x20, 0x21, 0x22, 0x23, 0x30, 0x31, 0x40]

/-- The 16 bytes of a frame's header (R460). -/
def frameHeader (f : Frame) : Bytes :=
  leBytes 1 f.ftype ++ leBytes 1 f.flags.toNat ++ leBytes 2 f.dst ++ leBytes 2 f.src ++ leBytes 1 f.ttl ++ [0]
    ++ leBytes 2 f.payload.length ++ leBytes 1 f.frag.toNat ++ [0] ++ leBytes 4 f.ctr.toNat

/-- This device has the lower identity of two (R464). -/
def ownLower (peer : W128) : Bool := decide (Config.deviceIdentity.toNat < peer.toNat)

/-- The IV of a frame (R461). -/
def frameIv (fromLower : Bool) (ctr : Nat) : Bytes := [if fromLower then 0 else 1, 0, 0, 0] ++ beBytes 8 ctr

/-- A tag or counter failure (R461, R473): the sixteenth within a millisecond is recorded and takes the link down. -/
def State.tagFailure (s : State) (n : Nat) : State :=
  let l := s.link n
  let k := if l.burstAt = s.sys.optime then l.tagBurst + 1 else 1
  let t := s.setLink n { l with tagFail := satAdd 16 l.tagFail 1, tagBurst := k, burstAt := s.sys.optime }
  if 16 ≤ k then (t.offer 0x1007 n 0 k).linkDown n 3 else t

/-- The text of a frame whose tag verifies and whose counter is the expected one, and the link after it; the first frame with
NEWKEY installs the rekeyed key (R461, R467). -/
def State.openFrame (s : State) (n : Nat) (f : Frame) : Option (Bytes × Link) :=
  let l := s.link n
  let fresh := f.flags.getLsbD 2
  let key := if fresh then l.nextRx.getD [] else l.keyRx
  let ctr := (if fresh then 0 else l.rxCtr) + f.frag.toNat % 128
  let o := gcmOpen key (frameIv (!ownLower (l.peerId.getD 0)) ctr) (frameHeader f) f.payload
  if key ≠ [] ∧ o.2 = f.tag ∧ f.ctr.toNat = ctr % 2 ^ 32 then
    let l1 := { l with rxCtr := ctr + 1 }
    some (o.1, if fresh then { l1 with keyRx := key, nextRx := none, newkey := false, keyedAt := s.sys.optime,
                                       rekeys := satAdd 16 l.rekeys 1 } else l1)
  else none

/-- Receive an encrypted frame of a type on a link that is UP. -/
def State.receive (s : State) (n : Nat) (f : Frame) (ftype : Nat) (k : Bytes → State → State) : State :=
  if s.onMain = false ∨ (s.link n).state ≠ .up then s
  else if frameTypes.contains f.ftype = false then s.tagFailure n
  else if f.ftype ≠ ftype then s
  else
    match s.openFrame n f with
    | none => s.tagFailure n
    | some (b, l) => k b (s.setLink n l)

/-- Pass a frame's text on over a link with one hop less (R460). -/
def State.pass (s : State) (out : Nat) (f : Frame) (b : Bytes) : State :=
  if f.ttl ≤ 1 then s else s.sendAs out f.ftype (f.flags.toNat % 4) f.dst f.src (f.ttl - 1) b

/-- This device is a member of a group address (R468, R472). -/
def State.inGroup (s : State) (dst : Nat) : Bool :=
  decide (0xF000 ≤ dst) && decide (dst < 0xF040) && s.img.force.bilkin.groups.getLsbD (dst - 0xF000)

/-- Deliver a routed frame here, or pass it on; a group frame travels by reverse-path forwarding (R471, R472). -/
def State.route (s : State) (n : Nat) (f : Frame) (b : Bytes) (k : State → State) : State :=
  if f.flags.getLsbD 1 then
    if s.linkTo f.src ≠ some n then s
    else
      let t := (s.upLinks.filter (· ≠ n)).foldl (fun t m => t.pass m f b) s
      if s.inGroup f.dst then k t else t
  else if f.dst = s.ownAddr ∨ f.dst = 0xFFFF then k s
  else
    match s.linkTo f.dst with
    | some m => s.pass m f b
    | none => s

/-- Receive a routed frame of a type. -/
def State.receiveRouted (s : State) (n : Nat) (f : Frame) (ftype : Nat) (k : State → State) : State :=
  s.receive n f ftype fun b t => t.route n f b k

/-! ## The handshake (R463–R467, R482) -/

/-- The payload of a HELLO: its items in the order of R464; the spec gives no layout (log 40). -/
def helloBody (h : Hello) : Bytes :=
  bytes128 h.ident ++ h.cert ++ leBytes 8 h.fabric.toNat ++ leBytes 1 h.unit ++ leBytes 1 (flag h.eligible) ++ h.nonce

/-- The HELLO a payload spells. -/
def helloOf (b : Bytes) : Hello :=
  { ident := block128 (b.take 16), cert := slice b 16 4716, fabric := BitVec.ofNat 64 (leAt b 4732 8), unit := leAt b 4740 1,
    eligible := decide (leAt b 4741 1 = 1), nonce := slice b 4742 32 }

/-- The reason a HELLO is refused for, in the order of R465 and R466; 0 where it is accepted. -/
def State.helloReason (s : State) (h : Hello) : Nat :=
  let c := h.cert
  let d := sha384Bytes (c.take 1308)
  if c.length ≠ 4716 ∨ leAt c 0 4 ≠ 0x4B4C4243 ∨ leAt c 21 3 ≠ 0 ∨ leAt c 121 3 ≠ 0 ∨ leAt c 4713 3 ≠ 0
      ∨ slice c 4 16 ≠ bytes128 h.ident then 1
  else if Crypto.ecdsaVerify 0x11 Config.plaoreEc d (slice c 1308 96) = false
      ∨ Crypto.mldsaVerify 0x29 Config.plaoreMl [0x43, 0x4C, 0x42, 0x4B] d (slice c 1404 3309) = false then 2
  else if h.fabric ≠ s.img.force.bilkin.fabric then 3
  else 0

/-- This device's HELLO with a nonce. -/
def State.ownHello (s : State) (nonce : Bytes) : Hello :=
  let p := s.img.force.bilkin
  { ident := Config.deviceIdentity, cert := Config.deviceCert, fabric := p.fabric, unit := s.blk.unit,
    eligible := p.coordEligible, nonce := nonce }

/-- A handshake whose own HELLO has been formed. -/
def Handshake.begin (h : Hello) : Handshake :=
  { own := h, peer := none, eph := [], sent := [], got := [], z := [], kOwn := [], kPeer := [], auth2Ok := false }

/-- The AUTH1 of this device from 96 fresh bytes: an ephemeral key and an encapsulation to the peer's certified key (R465
step 2). -/
def Handshake.auth1 (x : Handshake) (peer : Hello) (b : Bytes) : Handshake :=
  let eph := formKey 0x11 (b.take 56)
  let kem := Crypto.mlkemEncaps 0x2D (slice peer.cert 124 1184) (slice b 64 32)
  { x with peer := some peer, eph := eph, sent := Crypto.publicKey 0x11 eph ++ kem.take 1088, kOwn := kem.drop 1088 }

/-- Step 3 of R465 on a received AUTH1. -/
def Handshake.heard (x : Handshake) (eph kem : Bytes) : Handshake :=
  { x with got := eph ++ kem, z := Crypto.agree 0x11 x.eph eph, kPeer := Crypto.mlkemDecaps 0x2D Config.kemSeeds kem }

/-- A pair in the order of the identities, the lower device's first. -/
def Handshake.ordered (x : Handshake) (own peer : Bytes) : Bytes :=
  if ownLower ((x.peer.map (·.ident)).getD 0) then own ++ peer else peer ++ own

/-- H of R465. -/
def Handshake.digest (x : Handshake) : Bytes :=
  sha384Bytes (x.ordered (helloBody x.own) ((x.peer.map helloBody).getD []) ++ x.ordered x.sent x.got)

/-- The key of a direction (R465 step 5). -/
def Handshake.dirKey (x : Handshake) (label : Bytes) (fromLower : Bool) : Bytes :=
  (sha384Bytes (label ++ [if fromLower then 0 else 1] ++ x.z ++ x.ordered x.kOwn x.kPeer ++ x.digest)).take 32

/-- The peer's AUTH2 verifies (R465 step 4). -/
def Handshake.verified (x : Handshake) (sig : Bytes) : Bool :=
  Crypto.ecdsaVerify 0x11 (slice ((x.peer.map (·.cert)).getD []) 24 97) x.digest sig

/-- The labels of R465 and R482. -/
def linkLabel : Bytes := [0x42, 0x4C, 0x4B, 0x4E, 0x2D, 0x4C, 0x49, 0x4E, 0x4B]
def cloneLabel : Bytes := [0x42, 0x4C, 0x4B, 0x4E, 0x2D, 0x43, 0x4C, 0x4F, 0x4E, 0x45]

/-- A failed step refuses the link (R466); in a rekey it takes the link down (R467). -/
def State.refuseLink (s : State) (n reason : Nat) : State :=
  let l := s.link n
  if l.newkey then s.linkDown n 4
  else
    let peer := ((l.hs.bind (·.peer)).map fun h => h.ident.toNat).getD 0
    (s.setLink n (l.cut .refused reason)).offer 0x1003 n reason (peer % 2 ^ 32)

/-- Links whose handshake runs. -/
def State.handshakes (s : State) : Nat :=
  (s.blk.links.filter fun x => decide (x.2.state = .handshake) || x.2.newkey).length

/-- Form and send this device's HELLO, with a nonce of ENT_DATA (R464); without randomness the link waits. -/
def State.sayHello (s : State) (n : Nat) : State :=
  s.drawFor (.link n) 2 fun b t =>
    let h := t.ownHello b
    (t.setLink n { t.link n with hs := some (Handshake.begin h) }).sendFrame n 0x01 0xFFFF (helloBody h)

/-- The handshake on a link runs: its state, or a rekey over a link that is UP. -/
def State.shaking (s : State) (n : Nat) : Bool :=
  s.onMain && (decide ((s.link n).state = .handshake) || (decide ((s.link n).state = .up) && (s.link n).newkey))

/-- The keys of a completed exchange: installed at once on a new link; in a rekey the next frame sent is the first on the new
key, and the receiver waits for the peer's NEWKEY (R465, R467). -/
def State.installKeys (s : State) (n : Nat) (x : Handshake) : State :=
  let l := s.link n
  let lower := ownLower ((x.peer.map (·.ident)).getD 0)
  let tx := x.dirKey linkLabel lower
  let rx := x.dirKey linkLabel (!lower)
  if l.newkey then s.setLink n { l with keyTx := tx, txCtr := 0, announce := true, nextRx := some rx, hs := none }
  else s.setLink n { l with keyTx := tx, keyRx := rx, txCtr := 0, rxCtr := 0, keyedAt := s.sys.optime,
                            peerId := x.peer.map (·.ident), hs := some { x with auth2Ok := true } }

/-! ## Coordinator and addresses (R468–R470) -/

/-- Addresses a device may hold. -/
def isDeviceAddr (a : Nat) : Bool := decide (a < 0x0FFF)

/-- The lowest address not in a table. -/
def lowestFree (t : List (W128 × Nat)) : Nat :=
  ((List.range 0x0FFF).find? fun a => !(t.any fun x => x.2 == a)).getD 0x0FFF

/-- Addresses kept: every one the database shows, the lower identity first (R470). -/
def keptAddrs (db : List Lsa) : List (W128 × Nat) :=
  db.foldl (fun t l => match l.addr with
    | some a => if t.any fun x => x.2 == a then t else t ++ [(l.ident, a)]
    | none => t) []

/-- The table a coordinator grants (R470): kept addresses, then each request in ascending identity, the lowest free address
where the request is not free. -/
def grantAddrs (db : List Lsa) : List (W128 × Nat) :=
  db.foldl (fun t l =>
    if t.any fun x => x.1 == l.ident then t
    else if isDeviceAddr l.requested ∧ (t.any fun x => x.2 == l.requested) = false then t ++ [(l.ident, l.requested)]
    else t ++ [(l.ident, lowestFree t)]) (keptAddrs db)

/-- The conflicts a table has resolved: an address held, or asked for beyond the unit number, that another device got. -/
def conflicts (db : List Lsa) (t : List (W128 × Nat)) : List (Nat × W128) :=
  db.filterMap fun l =>
    let want := match l.addr with
      | some a => some a
      | none => if isDeviceAddr l.requested ∧ l.requested ≠ l.unit then some l.requested else none
    match want with
    | some a => if t.any (fun x => x.2 == a && x.1 != l.ident) then some (a, l.ident) else none
    | none => none

/-- Adopt the address a table gives this device: it is written to BBRAM and recorded (R470). -/
def State.adopt (s : State) (t : List (W128 × Nat)) : State :=
  match t.find? fun x => x.1 == Config.deviceIdentity with
  | none => s
  | some (_, a) =>
    if s.blk.addr = some a then s
    else
      let old := s.bkd.fabricAddr
      let sev := if old.isSome ∧ old ≠ some a then 4 else 2
      let u := { s with blk := { s.blk with addr := some a }, bkd := { s.bkd with fabricAddr := some a } }
      (u.offerSev 0x1005 sev a (old.getD 0xFFFF) 0).floodOwn

/-- The payload of an ASSIGN: each identity with its address (R470). -/
def assignBody (t : List (W128 × Nat)) : Bytes := t.flatMap fun x => bytes128 x.1 ++ leBytes 2 x.2

/-- The coordinator's part: grant, record conflicts, adopt, and flood ASSIGN (R470). -/
def State.coordinate (s : State) : State :=
  let t := grantAddrs s.blk.lsdb
  let s1 := (conflicts s.blk.lsdb t).foldl (fun u x => u.offer 0x1006 x.1 (x.2.toNat % 2 ^ 32) 0) s
  let s2 := s1.adopt t
  let s3 := { s2 with blk := { s2.blk with assigned := some (Config.deviceIdentity, t) } }
  s3.upLinks.foldl (fun u n => u.sendFrame n 0x12 0xFFFF (assignBody t)) s3

/-- The eligible device with the lowest identity (R469). -/
def State.elected (s : State) : Option W128 := (s.blk.lsdb.find? (·.eligible)).map (·.ident)

/-- The address of a device of the database. -/
def State.addrOf (s : State) (ident : W128) : Option Nat := (s.blk.lsdb.find? fun l => l.ident == ident).bind (·.addr)

/-! ## The routing table (R471) -/

/-- The neighbours a device advertises. -/
def peersOf (db : List Lsa) (i : W128) : List W128 := ((db.find? fun l => l.ident == i).map (·.peers)).getD []

/-- Add the devices not seen yet at a distance. -/
def addSeen (d : Nat) (seen : List (W128 × Nat)) : List W128 → List (W128 × Nat)
  | [] => seen
  | i :: t => addSeen d (if seen.any fun x => x.1 == i then seen else seen ++ [(i, d)]) t

/-- Distances in hops, a ring at a time. -/
def rings (db : List Lsa) : Nat → Nat → List (W128 × Nat) → List (W128 × Nat)
  | 0, _, seen => seen
  | fuel + 1, d, seen =>
    let edge := (seen.filter fun x => x.2 == d).map (·.1)
    rings db fuel (d + 1) (addSeen (d + 1) seen (edge.flatMap (peersOf db)))

/-- Distances from a device, up to 64 hops. -/
def distances (db : List Lsa) (i : W128) : List (W128 × Nat) := rings db 64 0 [(i, 0)]

/-- A distance. -/
def distTo (t : List (W128 × Nat)) (i : W128) : Option Nat := (t.find? fun x => x.1 == i).map (·.2)

/-- A link that leads to a destination: the hops through it, its tie-break, its number, and whether it can be an alternate. -/
structure Way where
  hops : Nat
  tie : Nat
  link : Nat
  safe : Bool
  deriving DecidableEq, Repr

/-- The order of R471: fewest hops, then the lowest CRC. -/
def Way.before (a b : Way) : Bool :=
  decide (a.hops < b.hops) || (decide (a.hops = b.hops) && decide (a.tie < b.tie))

/-- Insert a way in order. -/
def putWay (w : Way) : List Way → List Way
  | [] => [w]
  | x :: t => if w.before x then w :: x :: t else x :: putWay w t

/-- The links toward a destination in order. -/
def State.waysTo (s : State) (far : List (Nat × List (W128 × Nat))) (dest : W128) (addr hops : Nat) : List Way :=
  far.foldl (fun l x =>
    match distTo x.2 dest, distTo x.2 Config.deviceIdentity with
    | some d, back =>
      let tie := (crc32c (s.img.force.bilkin.seed ++ leBytes 2 addr ++ leBytes 1 x.1)).toNat
      putWay { hops := d + 1, tie := tie, link := x.1, safe := decide (d < back.getD 0 + hops) } l
    | none, _ => l) []

/-- The entry for a destination: the first way is the primary link, the next two that cannot loop are alternates. -/
def routeFrom (hops : Nat) : List Way → Route
  | [] => Route.none
  | p :: rest =>
    let alts := (rest.filter (·.safe)).map (·.link)
    { primary := some p.link, alt1 := alts[0]?, alt2 := alts[1]?, hops := hops }

/-- The routing table of the database (R471). -/
def State.newRoutes (s : State) : SMap Route :=
  let db := s.blk.lsdb
  let own := distances db Config.deviceIdentity
  let far := s.upLinks.filterMap fun n => (s.link n).peerId.map fun i => (n, distances db i)
  db.foldl (fun m l =>
    match l.addr, distTo own l.ident with
    | some a, some h => if 1 ≤ h ∧ isDeviceAddr a then SMap.set Route.none m a (routeFrom h (s.waysTo far l.ident a h)) else m
    | _, _ => m) []

end Sys2Proof.Machine
end

