-- ==== Sys2Proof/Machine/FabricCmds.lean ====
section
/-! DEFINITION. Board unit numbers, the life of a link, advertisements, the coordinator, addresses and routes (R462–R473). -/

namespace Sys2Proof.Machine

/-! ## Board unit numbers (R462) -/

/-- CHAIN_HEAD_DETECT (R462): the first device of the chain takes unit 0; a number once taken stands until the next start. -/
def execChainHeadDetect (s : State) : Host.Outcome State Fault Refusal :=
  .next (if s.onMain ∧ s.blk.unit = 0x7F then { s with blk := { s.blk with head := true, unit := 0 } } else s)

/-- CHAIN_FRAME_RECEIVE (R462): two consecutive identical frames of good parity give the number; 64 or more gives none. -/
def execChainFrameReceive (v : Nat) (parityOk : Bool) (s : State) : Host.Outcome State Fault Refusal :=
  .next (
    if s.onMain = false ∨ s.blk.unit ≠ 0x7F then s
    else if parityOk = false then { s with blk := { s.blk with lastFrame := none } }
    else if s.blk.lastFrame = some (v % 128) ∧ v % 128 < 64 then { s with blk := { s.blk with unit := v % 128, lastFrame := none } }
    else { s with blk := { s.blk with lastFrame := some (v % 128) } })

/-- CHAIN_FRAME_SEND (R462, R494): a numbered device sends min(n + 1, 64). -/
def execChainFrameSend (s : State) : Host.Outcome State Fault Refusal :=
  .next (if s.onMain ∧ s.blk.unit < 64 then { s with blk := { s.blk with chainOut := some (min (s.blk.unit + 1) 64) } } else s)

/-! ## A link comes up (R459, R464–R467) -/

/-- BILKIN_LINK_TRAINED (R459, R464): an allowed link starts its handshake with a HELLO; at most 8 run at once, and one that
found no randomness tries again. -/
def execBilkinLinkTrained (n : Nat) (s : State) : Host.Outcome State Fault Refusal :=
  .next (
    if s.onMain = false ∨ s.linkAllowed n = false then s
    else
      let l := s.link n
      match l.state with
      | .training | .down =>
        if 8 ≤ s.handshakes then s else (s.setLink n { l with state := .handshake, hs := none }).sayHello n
      | .handshake => if l.hs.isNone then s.sayHello n else s
      | _ => s)

/-- Send this device's AUTH1 for a peer's HELLO (R465 step 2), with six words of ENT_DATA. -/
def State.sendAuth1 (s : State) (n : Nat) (x : Handshake) (h : Hello) : State :=
  s.drawFor (.link n) 6 fun b t =>
    let y := x.auth1 h b
    (t.setLink n { t.link n with hs := some y, peerUnit := h.unit, peerPart := leAt h.cert 20 1 }).sendFrame n 0x02 0xFFFF y.sent

/-- HELLO (R464–R466): the peer's certificate is checked, and AUTH1 follows. -/
def execHello (n : Nat) (h : Hello) (s : State) : Host.Outcome State Fault Refusal :=
  .next (
    if s.shaking n = false then s
    else
      match (s.link n).hs with
      | none => s
      | some x =>
        if x.peer.isSome then s
        else
          let k := s.helloReason h
          if k ≠ 0 then (s.setLink n { s.link n with hs := some { x with peer := some h } }).refuseLink n k
          else s.sendAuth1 n x h)

/-- AUTH1 (R465 steps 3 and 4): the secrets are computed and AUTH2 is sent. The spec names no reason for a point that does not
decode (free, assumption log 3). -/
def execAuth1 (n : Nat) (eph kem : Bytes) (s : State) : Host.Outcome State Fault Refusal :=
  .next (
    if s.shaking n = false then s
    else
      match (s.link n).hs with
      | none => s
      | some x =>
        if x.sent = [] ∨ x.got ≠ [] then s
        else if Crypto.pointOk 0x11 eph = false ∨ kem.length ≠ 1088 then (s.skip 1).refuseLink n (s.freeNat 4)
        else
          s.drawFor (.link n) 4 fun b t =>
            let y := x.heard eph kem
            (t.setLink n { t.link n with hs := some y }).sendFrame n 0x03 0xFFFF
              (Crypto.ecdsaSign 0x11 Config.identityKey y.digest b))

/-- AUTH2 (R465, R466): the peer's signature over the transcript; then the keys are installed. -/
def execAuth2 (n : Nat) (sig : Bytes) (s : State) : Host.Outcome State Fault Refusal :=
  .next (
    if s.shaking n = false then s
    else
      match (s.link n).hs with
      | none => s
      | some x =>
        if x.got = [] ∨ x.auth2Ok then s
        else if x.verified sig = false then s.refuseLink n 4
        else s.installKeys n x)

/-- The link comes UP: its secrets are cleared, the record is written and an LSA flooded (R464, R469). -/
def State.linkUp (s : State) (n addr : Nat) : State :=
  let l := s.link n
  let first := decide (s.upLinks = [])
  let t := s.setLink n { l with state := .up, reason := 0, hs := none, missed := 0,
                                peerAddr := if addr = 0xFFFF then none else some addr }
  let u := t.offer 0x1001 n addr ((l.peerId.map (·.toNat)).getD 0 % 2 ^ 32)
  ({ u with blk := { u.blk with electDue := u.blk.electDue || first, routesDue := true } }).floodOwn

/-- KEEPALIVE (R464–R466, R473, R479): the first that decrypts brings the link UP; each carries SPARE. -/
def execKeepalive (n : Nat) (f : Frame) (s : State) : Host.Outcome State Fault Refusal :=
  .next (
    if s.shaking n ∧ (s.link n).state = .handshake then
      match (s.link n).hs with
      | none => s
      | some x =>
        if x.auth2Ok = false ∨ f.ftype ≠ 0x10 then s
        else
          match s.openFrame n f with
          | none => s.refuseLink n 5
          | some (b, l) => (s.setLink n { l with spare := leNat b }).linkUp n f.src
    else
      s.receive n f 0x10 fun b t =>
        t.setLink n { t.link n with missed := 0, spare := leNat b, peerAddr := if f.src = 0xFFFF then none else some f.src })

/-- KEEPALIVE_SEND (R473, R479): SPARE is this device's unspent admission, averaged over 1 ms (free, assumption log 3). -/
def execKeepaliveSend (n : Nat) (s : State) : Host.Outcome State Fault Refusal :=
  .next (
    let l := s.link n
    if s.onMain ∧ l.keyTx ≠ [] then (s.skip 1).sendFrame n 0x10 0xFFFF (leBytes 4 (s.freeNat 11)) else s)

/-- KEEPALIVE_MISSED (R473): the third in a row takes the link down. -/
def execKeepaliveMissed (n : Nat) (s : State) : Host.Outcome State Fault Refusal :=
  .next (
    let l := s.link n
    if s.onMain = false ∨ l.state ≠ .up then s
    else if 3 ≤ l.missed + 1 then s.linkDown n 2
    else s.setLink n { l with missed := l.missed + 1 })

/-- LINK_SIGNAL_LOSS (R473). -/
def execLinkSignalLoss (n : Nat) (s : State) : Host.Outcome State Fault Refusal :=
  .next (if s.onMain then s.linkDown n 1 else s)

/-- HANDSHAKE_TIMEOUT (R464, R466): a handshake that waits for randomness has its bound extended. -/
def execHandshakeTimeout (n : Nat) (s : State) : Host.Outcome State Fault Refusal :=
  .next (if s.shaking n ∧ s.ent.stalled.contains (.link n) = false then s.refuseLink n 6 else s)

/-- LINK_RETRAIN (R466, R473): a refused link after 1 s, and a link that went down. -/
def execLinkRetrain (n : Nat) (s : State) : Host.Outcome State Fault Refusal :=
  .next (
    let l := s.link n
    if s.onMain ∧ s.linkAllowed n ∧ (l.state = .refused ∨ l.state = .down) then s.setLink n { l with state := .training } else s)

/-- A rekey is due (R467): 2^32 frames in a direction, or 24 hours on one key. -/
def State.rekeyDue (s : State) (n : Nat) : Bool :=
  let l := s.link n
  decide (2 ^ 32 ≤ l.txCtr) || decide (2 ^ 32 ≤ l.rxCtr) || decide (l.keyedAt + 24 * 3600 * 1000 ≤ s.sys.optime)

/-- REKEY (R467, R473): the handshake runs again over the link; one that fails takes the link down. -/
def execRekey (n : Nat) (ok : Bool) (s : State) : Host.Outcome State Fault Refusal :=
  .next (
    let l := s.link n
    if s.onMain = false ∨ l.state ≠ .up then s
    else if ok then
      if l.newkey = false ∧ s.rekeyDue n ∧ s.handshakes < 8 then (s.setLink n { l with newkey := true }).sayHello n
      else if l.newkey ∧ l.hs.isNone ∧ l.nextRx.isNone then s.sayHello n
      else s
    else if l.newkey ∨ s.rekeyDue n then s.linkDown n 4
    else s)

/-! ## The database, the coordinator and the addresses (R469, R470) -/

/-- The address of a neighbour as its advertisement gives it (BLK_LPEER). -/
def State.notePeer (s : State) (l : Lsa) : State :=
  { s with blk := { s.blk with links := SMap.mapV Link.reset (fun _ x =>
      if x.peerId = some l.ident then { x with peerAddr := l.addr } else x) s.blk.links } }

/-- LSA (R469, R472): a newer advertisement is stored and passed on; the device's own, and an older one, go no further. -/
def execLsa (n : Nat) (f : Frame) (l : Lsa) (s : State) : Host.Outcome State Fault Refusal :=
  .next (s.receiveRouted n f 0x11 fun s =>
    let newer := match s.blk.lsdb.find? fun x => x.ident == l.ident with
      | some x => decide (x.stamp < l.stamp)
      | none => true
    if l.ident = Config.deviceIdentity ∨ newer = false then s
    else
      let t := (s.storeLsa l).notePeer l
      if f.flags.getLsbD 1 then t else t.floodLsa l (some n))

/-- LSA_PERIODIC (R469): every 100 ms in any case. -/
def execLsaPeriodic (s : State) : Host.Outcome State Fault Refusal :=
  .next (if s.onMain ∧ s.upLinks ≠ [] then s.floodOwn else s)

/-- COORDINATOR_ELECTION (R469, R470): each device computes it alone; the coordinator grants the addresses. -/
def execCoordinatorElection (s : State) : Host.Outcome State Fault Refusal :=
  .next (
    if s.onMain = false ∨ s.blk.electDue = false then s
    else
      let c := s.elected
      let t := { s with blk := { s.blk with electDue := false } }
      let u := if c = s.blk.coord then t
        else
          let k := satAdd 16 s.blk.elections 1
          let v := { t with blk := { t.blk with coord := c, elections := k } }
          v.offer 0x1004 ((c.bind s.addrOf).getD 0xFFFF) k 0
      if c = some Config.deviceIdentity then u.coordinate else u)

/-- ASSIGN (R470, R472, R484): of two in one database change the one from the lower coordinator stands; it is passed on once,
and the device adopts its address. -/
def execAssign (n : Nat) (f : Frame) (table : List (W128 × Nat)) (s : State) : Host.Outcome State Fault Refusal :=
  .next (s.receiveRouted n f 0x12 fun s =>
    let sender := ((table.find? fun x => x.2 == f.src).map (·.1)).getD 0
    let stands := match s.blk.assigned with
      | some (c, t) => decide (sender.toNat < c.toNat) || (decide (sender = c) && decide (t ≠ table))
      | none => true
    if stands = false then s
    else
      let s1 := { s with blk := { s.blk with assigned := some (sender, table) } }
      let s2 := if f.flags.getLsbD 1 then s1
        else (s1.upLinks.filter (· ≠ n)).foldl (fun u m => u.pass m f (assignBody table)) s1
      s2.adopt table)

/-- ROUTE_RECOMPUTE (R471): the new table is installed in one step. -/
def execRouteRecompute (s : State) : Host.Outcome State Fault Refusal :=
  .next (if s.onMain ∧ s.blk.routesDue then { s with blk := { s.blk with routes := s.newRoutes, routesDue := false } } else s)

end Sys2Proof.Machine
end

