-- ==== Sys2Proof/Machine/MicroOps.lean ====
section
/-! DEFINITION. Twill's format micro-ops (R131, R149). -/

namespace Sys2Proof.Machine

/-! ## Nibbles -/

/-- The nibbles of a string, high one first. -/
def nibbles (b : Bytes) : List Nat := b.flatMap fun x => [x.toNat / 16, x.toNat % 16]

/-- Nibbles packed two to a byte; an odd last one is followed by 0xF (R154). -/
def packNibbles : List Nat → Bytes
  | [] => []
  | [x] => [BitVec.ofNat 8 (16 * x + 15)]
  | x :: y :: t => BitVec.ofNat 8 (16 * x + y) :: packNibbles t

/-- A nibble that is a decimal digit. -/
def isDigit (n : Nat) : Bool := decide (n ≤ 9)

/-- `n` free nibbles of Twill's mask generator (R134, R149). -/
def State.freeNibbles (s : State) (n : Nat) : List Nat := (nibbles (s.randomBytes 8)).take n

/-! ## PAN_EXTRACT -/

/-- The digits of a PAN operand: a length byte, then BCD digits; `none` for a length outside 12 to 19 or a non-BCD digit
(R123). -/
def panDigits (a : Bytes) : Option (List Nat) :=
  let n := leAt a 0 1
  let d := (nibbles (a.drop 1)).take n
  if 12 ≤ n ∧ n ≤ 19 ∧ d.length = n ∧ d.all isDigit then some d else none

/-- The 12 rightmost digits before the check digit; a 12-digit PAN has 11 of them, and the spec states no nibble in front
(free). -/
def panTail (d : List Nat) (free : Nat) : List Nat :=
  let x := d.dropLast
  if x.length < 12 then free :: x else x.drop (x.length - 12)

/-- The output of PAN_EXTRACT by its form (R131, R149, R155). -/
def panField (form : Nat) (d : List Nat) (psn : Bytes) (free : Nat) : Bytes :=
  if form = 0 then packNibbles ([0, 0, 0, 0] ++ panTail d free)
  else if form = 1 then packNibbles (((d.length - 12) :: d) ++ List.replicate (31 - d.length) 0)
  else if form = 2 then
    let x := d ++ (nibbles psn).take 2
    packNibbles (List.replicate (16 - x.length) 0 ++ x.drop (x.length - 16))
  else packNibbles (panTail d free)

/-- PAN_EXTRACT on its operands. -/
def panExtract (form : Nat) (a b : Bytes) (free : Nat) : StepOut :=
  match panDigits a with
  | some d => .data (panField form d b free)
  | none => .verdict 0xF1

/-! ## PINB_PARSE and PINB_BUILD -/

/-- The fill a format is checked for (R131, R149). -/
def fillOk (fmt : Nat) (l : List Nat) : Bool :=
  if fmt = 0 then l.all (fun x => decide (x = 0xF)) else if fmt = 3 then l.all (fun x => decide (0xA ≤ x))
  else if fmt = 4 then l.all (fun x => decide (x = 0xA)) else true

/-- The 16 nibbles of a clear block, the PAN field taken off. -/
def pinNibbles (fmt : Nat) (a b : Bytes) : List Nat :=
  nibbles (if fmt = 0 ∨ fmt = 3 then xorBytes (a.take 8) b else a.take 8)

/-- PINB_PARSE: the length, then the PIN left-justified and F-padded; verdict 0xF2 on a failed check. -/
def pinbParse (fmt : Nat) (a b : Bytes) : StepOut :=
  let n := pinNibbles fmt a b
  let len := n[1]?.getD 0
  let pin := (n.drop 2).take len
  if n[0]?.getD 15 = fmt ∧ 4 ≤ len ∧ len ≤ 12 ∧ pin.all isDigit ∧ fillOk fmt (n.drop (2 + len)) then
    .data (BitVec.ofNat 8 len :: packNibbles (pin ++ List.replicate (12 - len) 0xF))
  else .verdict 0xF2

/-- The fill PINB_BUILD writes, from free nibbles (R149). -/
def pinFill (fmt : Nat) (free : List Nat) : List Nat :=
  if fmt = 0 then free.map (fun _ => 0xF) else if fmt = 1 then free.map (· % 16)
  else if fmt = 3 then free.map (fun x => 0xA + x % 6) else free.map (fun _ => 0xA)

/-- PINB_BUILD: a block of the format around a PIN in PINB_PARSE's layout; verdict 0xF2 on a failed check. -/
def pinbBuild (fmt : Nat) (a b : Bytes) (free : List Nat) (tail : Bytes) : StepOut :=
  let len := leAt a 0 1
  let n := nibbles (slice a 1 6)
  if 4 ≤ len ∧ len ≤ 12 ∧ (n.take len).all isDigit ∧ (n.drop len).all (fun x => decide (x = 0xF)) then
    let blk := packNibbles ([fmt, len] ++ n.take len ++ pinFill fmt (free.take (14 - len)))
    .data (if fmt = 0 ∨ fmt = 3 then xorBytes blk b else if fmt = 4 then blk ++ tail else blk)
  else .verdict 0xF2

/-! ## DECIMALISE, DIGIT_SELECT, PAD, COMPARE and BRANCH -/

/-- DECIMALISE: each nibble through the table; the spec states no digit for an entry outside 0 to 9 (free, one for each
nibble of A). -/
def decimalise (a table : Bytes) (free : List Nat) : StepOut :=
  .data (packNibbles (((nibbles a).zip free).map fun x => let d := leAt table x.1 1; if d ≤ 9 then d else x.2))

/-- DIGIT_SELECT: by position, or decimal digits first and then A to F less 10. -/
def digitSelect (mode start count : Nat) (a : Bytes) : StepOut :=
  let n := nibbles a
  .data (packNibbles (if mode = 0 then (n.drop start).take count
    else (n.filter isDigit ++ (n.filter fun x => !isDigit x).map (· - 10)).take count))

/-- PAD (ISO/IEC 9797-1 methods 1 and 2). -/
def padData (method block : Nat) (a : Bytes) : StepOut :=
  let x := if method = 2 then a ++ [0x80#8] else a
  .data ((x ++ zeros (padLen method block a.length)).take (padLen method block a.length))

/-- The comparison of COMPARE: bytes, or A equal to B plus C digit by digit over the first `n` nibbles. -/
def compareEq (mode n : Nat) (a b c : Bytes) : Bool :=
  if mode = 0 then decide (a = b)
  else (List.range n).all fun k =>
    let x := (nibbles a)[k]?.getD 15
    let y := (nibbles b)[k]?.getD 15
    let z := (nibbles c)[k]?.getD 15
    isDigit x && isDigit y && isDigit z && decide (x = (y + z) % 10)

/-! ## A micro-op of an instance -/

/-- The instance runs a dispatched micro-op that has no output yet. -/
def State.microReady (s : State) (prim n k : Nat) : Bool :=
  let i := s.slot n
  let st := i.graph.step k
  s.stepLive n k && decide (st.unit = 5) && decide (st.prim = prim) && !(i.outs.any fun x => x.1 == k)

/-- Run a micro-op: its output waits for STEP_RESOLVE. -/
def State.micro (s : State) (prim n k : Nat) (f : Inst → Step → StepOut) : State :=
  if s.microReady prim n k then (s.deliverStep n k (f (s.slot n) ((s.slot n).graph.step k))).skip 2 else s

/-- PAN_EXTRACT (R131). -/
def execPanExtract (n st : Nat) (s : State) : Host.Outcome State Fault Refusal :=
  .next (s.micro 1 n st fun i x => panExtract (x.im 0) (i.opd x.a) (i.opd x.b) (s.freeNat 4))

/-- PINB_PARSE (R131, R149). -/
def execPinbParse (n st : Nat) (s : State) : Host.Outcome State Fault Refusal :=
  .next (s.micro 2 n st fun i x => pinbParse (x.im 0) (i.opd x.a) (i.opd x.b))

/-- PINB_BUILD (R131, R149): formats 1, 3 and 4 wait while a reseed of the mask generator is due (R134). -/
def execPinbBuild (n st : Nat) (s : State) : Host.Outcome State Fault Refusal :=
  if s.twl.reseedDue ∧ ((s.slot n).graph.step st).im 0 ≠ 0 then .next s
  else .next (s.micro 3 n st fun i x =>
    pinbBuild (x.im 0) (i.opd x.a) (i.opd x.b) (s.freeNibbles 14) ((s.skip 1).randomBytes 8))

/-- DECIMALISE (R131). -/
def execDecimalise (n st : Nat) (s : State) : Host.Outcome State Fault Refusal :=
  .next (s.micro 4 n st fun i x => decimalise (i.opd x.a) (i.opd x.b) (nibbles (s.randomBytes 16)))

/-- DIGIT_SELECT (R131). -/
def execDigitSelect (n st : Nat) (s : State) : Host.Outcome State Fault Refusal :=
  .next (s.micro 5 n st fun i x => digitSelect (x.im 0) (x.im 1) (x.im 2) (i.opd x.a))

/-- PAD (R131). -/
def execPad (n st : Nat) (s : State) : Host.Outcome State Fault Refusal :=
  .next (s.micro 6 n st fun i x => padData (x.im 0) (x.im 1) (i.opd x.a))

/-- COMPARE (R131). -/
def execCompare (n st : Nat) (s : State) : Host.Outcome State Fault Refusal :=
  .next (s.micro 7 n st fun i x =>
    .setFlag (x.im 0) (compareEq (x.im 1) (x.im 2) (i.opd x.a) (i.opd x.b) (i.opd x.c)))

/-- BRANCH (R131). -/
def execBranch (n st : Nat) (s : State) : Host.Outcome State Fault Refusal :=
  .next (s.micro 8 n st fun i x =>
    .branch (i.flags.getLsbD (x.im 0) == decide (x.im 1 = 0)) (x.im 2) x.skipMask)

end Sys2Proof.Machine
end

