-- ==== Sys2Proof/Machine/Library.lean ====
section
/-! DEFINITION. The standard library (file 05): what each library recipe asks of its request and its slots (R143–R148, R150–R162,
R168), and the outcome it computes (R149, R152, R154–R162, R168, R169). The spec gives the graph of recipe 0x0040 alone; assumption
log 161 says how an outcome stands for a graph. -/

namespace Sys2Proof.Crypto

open Sys2Proof.Machine

/-! ## ISO/IEC 9797-1 -/

/-- The padding of R131. -/
def pad9797 (method blk : Nat) (m : Bytes) : Bytes :=
  ((if method = 2 then m ++ [0x80#8] else m) ++ zeros (padLen method blk m.length)).take (padLen method blk m.length)

/-- MAC algorithm 1: the last block of a CBC pass under triple DES. -/
def macAlg1 (k : Bytes) (method : Nat) (m : Bytes) : Bytes := cbcMacFrom 1 k (zeros 8) (pad9797 method 8 m)

/-- MAC algorithm 3 under a two-key TDES key: single DES up to the last block, which is enciphered with both keys. -/
def macAlg3 (k : Bytes) (method : Nat) (m : Bytes) : Bytes :=
  let x := pad9797 method 8 m
  let run := cbcMacFrom 2 (k.take 8) (zeros 8) (x.take (x.length - 8))
  encBlock 1 k (xorBytes run (x.drop (x.length - 8)))

/-! ## EMV keys (R155, R156) -/

/-- The complement of a block. -/
def complement (b : Bytes) : Bytes := b.map fun x => ~~~ x

/-- The card master key from an issuer master key and the block Y. -/
def cardKey (aes : Bool) (imk y : Bytes) : Bytes :=
  if aes then encBlock 0 imk (y ++ complement y) else (encBlock 1 imk y ++ encBlock 1 imk (complement y)).map oddParity

/-- A diversification value with its byte 2 replaced. -/
def withByte2 (v : Bytes) (x : Byte) : Bytes := v.take 2 ++ [x] ++ v.drop 3

/-- The session key of a card master key for a diversification value of one block. -/
def sessionKey (aes : Bool) (mk v : Bytes) : Bytes :=
  if aes then encBlock 0 mk (withByte2 v 0xF0)
  else (encBlock 1 mk (withByte2 v 0xF0) ++ encBlock 1 mk (withByte2 v 0x0F)).map oddParity

/-- The MAC of an EMV cryptogram: algorithm 3 with padding method 2, or CMAC, in 8 bytes. -/
def emvMac (aes : Bool) (k m : Bytes) : Bytes := if aes then (cmac 0 k m).take 8 else macAlg3 k 2 m

/-! ## DUKPT (R159): the derivations of ANSI X9.24-3. PRESUMED, assumption log 162 -/

/-- One AES DUKPT derivation: key usage, algorithm indicator by the key's length, and the last eight bytes of its data. -/
def aesDukptDerive (k : Bytes) (usage : Nat) (tail : Bytes) : Bytes :=
  ((List.range (ceilDiv k.length 16)).flatMap fun i =>
    encBlock 0 k ([1, BitVec.ofNat 8 (i + 1)] ++ beBytes 2 usage ++ beBytes 2 (if k.length = 16 then 2 else if k.length = 24 then 3 else 4)
      ++ beBytes 2 (8 * k.length) ++ tail)).take k.length

/-- The counter's bits from the highest of `n` on, each with the bits above it. -/
def counterSteps (cnt : Nat) : Nat → List Nat
  | 0 => []
  | n + 1 => if cnt.testBit n then (cnt >>> n <<< n) :: counterSteps cnt n else counterSteps cnt n

/-- The AES DUKPT PIN encryption key: base key, initial key ID of 8 bytes, counter. -/
def aesDukptPin (bdk ikid : Bytes) (cnt : Nat) : Bytes :=
  let id := ikid.drop 4
  let tx := (counterSteps cnt 32).foldl (fun k c => aesDukptDerive k 0x8000 (id ++ beBytes 4 c)) (aesDukptDerive bdk 0x8001 ikid)
  aesDukptDerive tx 0x1000 (id ++ beBytes 4 cnt)

/-- The variant mask of TDES DUKPT. -/
def dukptMask : Bytes := [0xC0, 0xC0, 0xC0, 0xC0, 0, 0, 0, 0]

/-- One half of a TDES DUKPT derivation under a 16-byte key. -/
def tdesDukptHalf (k r : Bytes) : Bytes :=
  xorBytes (encBlock 2 (k.take 8) (xorBytes r (k.drop 8))) (k.drop 8)

/-- One TDES DUKPT derivation for the register `r`. -/
def tdesDukptDerive (k r : Bytes) : Bytes := tdesDukptHalf (xorBytes k (dukptMask ++ dukptMask)) r ++ tdesDukptHalf k r

/-- The TDES DUKPT PIN key: base key, initial key ID of 10 bytes, counter of 21 bits. -/
def tdesDukptPin (bdk ikid : Bytes) (cnt : Nat) : Bytes :=
  let id := ikid.take 8
  let ipek := encBlock 1 bdk id ++ encBlock 1 (xorBytes bdk (dukptMask ++ dukptMask ++ dukptMask)) id
  let low := ikid.drop 2
  let tx := (counterSteps cnt 21).foldl (fun k c => tdesDukptDerive k (beBytes 8 (beNat low + c))) ipek
  xorBytes tx (beBytes 8 0xFF ++ beBytes 8 0xFF)

end Sys2Proof.Crypto

namespace Sys2Proof.Machine

/-! ## The recipes and their IDs -/

/-- The library recipes, by the tables of file 05. Formats by the index of R150. -/
inductive LibKind where
  /-- R150: input and output format. -/
  | translate (i o : Nat)
  /-- R152: input format. -/
  | offset (i : Nat)
  /-- R154. -/
  | cardValue (verify : Bool)
  /-- R157: AES, card master key in slot 0, ARPC method 2. -/
  | arqc (aes card m2 : Bool)
  /-- R158: AES, with encryption. -/
  | script (aes enc : Bool)
  /-- Recipe 0x0040. -/
  | authorise
  /-- R160: AES, with replay context, output format. -/
  | dukpt (aes ctx : Bool) (o : Nat)
  /-- R162: MAC algorithm (1, 3, or 0 for CMAC), padding method. -/
  | mac (alg method : Nat) (verify : Bool)
  /-- R168: ECDSA by its hash, EdDSA by its curve, composite by its code, ML-DSA by its set, RSA by its scheme. -/
  | ecdsa (halg : Nat)
  | eddsa (alg : Nat)
  | composite (code : Nat)
  | mldsa (alg : Nat)
  | rsa (scheme : Nat)
  deriving DecidableEq, Repr

/-- The recipe issued under an ID (R143). -/
def libKind (id : Nat) : Option LibKind :=
  if 0x10 ≤ id ∧ id ≤ 0x1F then
    if [0x11, 0x19, 0x1D].contains id then none else some (.translate ((id - 0x10) / 4) (id % 4))
  else if 0x20 ≤ id ∧ id ≤ 0x23 then some (.offset (id - 0x20))
  else if id = 0x28 ∨ id = 0x29 then some (.cardValue (id == 0x29))
  else if 0x30 ≤ id ∧ id ≤ 0x37 then some (.arqc (id / 2 % 2 == 1) (0x34 ≤ id) (id % 2 == 1))
  else if 0x38 ≤ id ∧ id ≤ 0x3B then some (.script (0x3A ≤ id) (id % 2 == 1))
  else if id = 0x40 then some .authorise
  else if (0x48 ≤ id ∧ id ≤ 0x4F) ∨ (0x58 ≤ id ∧ id ≤ 0x5F) then
    if id % 4 = 1 then none else some (.dukpt (id / 4 % 2 == 0) (0x58 ≤ id) (id % 4))
  else if 0x60 ≤ id ∧ id ≤ 0x65 then some (.mac (if id < 0x62 then 1 else if id < 0x64 then 3 else 0) 1 (id % 2 == 1))
  else if 0x68 ≤ id ∧ id ≤ 0x6B then some (.mac (if id < 0x6A then 1 else 3) 2 (id % 2 == 1))
  else if 0x80 ≤ id ∧ id ≤ 0x82 then some (.ecdsa (id - 0x80 + 2))
  else if id = 0x83 ∨ id = 0x84 then some (.eddsa (id - 0x83 + 0x18))
  else if 0x88 ≤ id ∧ id ≤ 0x8A then some (.composite id)
  else if 0x8C ≤ id ∧ id ≤ 0x8E then some (.mldsa (id - 0x8C + 0x28))
  else if id = 0x90 ∨ id = 0x91 then some (.rsa (id - 0x8F))
  else if id = 0x92 then some (.rsa 0x11)
  else none

/-! ## What a recipe asks for -/

/-- What a slot demands (R147, R148): its usage bit, the algorithms of check 2 and, among them, the lengths of check 3. -/
structure LibSlot where
  usage : Nat
  algs : List Nat
  lens : List Nat
  deriving DecidableEq, Repr

/-- A slot for triple DES, or AES, of any length. -/
def tdesSlot (usage : Nat) : LibSlot := { usage := usage, algs := [1, 2], lens := [1, 2] }
def aesSlot (usage : Nat) : LibSlot := { usage := usage, algs := [3, 4, 5], lens := [3, 4, 5] }
/-- A slot for two-key triple DES, or AES-128, only. -/
def tdes2Slot (usage : Nat) : LibSlot := { usage := usage, algs := [1, 2], lens := [1] }
def aes128Slot (usage : Nat) : LibSlot := { usage := usage, algs := [3, 4, 5], lens := [3] }
/-- A signing slot. -/
def signSlot (algs : List Nat) : LibSlot := { usage := 13, algs := algs, lens := algs }
/-- The slot of a PIN key for a format index. -/
def pinSlot (usage fmt : Nat) : LibSlot := if fmt = 3 then aesSlot usage else tdesSlot usage

/-- The curves of R14 for ECDSA. -/
def weierstrass : List Nat := [0x10, 0x11, 0x12, 0x13, 0x14, 0x15]

/-- The slots of a recipe, from slot 0 on. -/
def LibKind.slots : LibKind → List LibSlot
  | .translate i o => [pinSlot 0 i, pinSlot 1 o]
  | .offset i => [pinSlot 0 i, tdesSlot 2]
  | .cardValue v => [tdes2Slot (if v then 4 else 3)]
  | .arqc aes _ _ => [if aes then aes128Slot 5 else tdesSlot 5]
  | .script aes enc =>
    let slot (u : Nat) := if aes then aes128Slot u else tdesSlot u
    if enc then [slot 6, slot 7] else [slot 6]
  | .authorise => [aes128Slot 0, tdes2Slot 1, tdesSlot 5, aes128Slot 9, signSlot [0x10]]
  | .dukpt aes _ o => [if aes then { aesSlot 8 with lens := [3, 5] } else tdesSlot 8, pinSlot 1 o]
  | .mac alg _ v =>
    let u := if v then 10 else 9
    [if alg = 0 then aesSlot u else if alg = 3 then tdes2Slot u else tdesSlot u]
  | .ecdsa _ => [signSlot weierstrass]
  | .eddsa alg => [signSlot [alg]]
  | .composite code =>
    let a := (compAlgs code).getD (0, 0)
    [signSlot [a.1], signSlot [a.2]]
  | .mldsa alg => [signSlot [alg]]
  | .rsa _ => [signSlot [0x20, 0x21, 0x22]]

/-- INWIN. -/
def LibKind.inwin : LibKind → Nat
  | .translate .. => 28
  | .offset _ => 42
  | .cardValue _ => 34
  | .arqc .. => 56
  | .script _ enc => if enc then 72 else 56
  | .authorise => 104
  | .dukpt .. => 40
  | .mac _ _ v => if v then 16 else 0
  | _ => 0

/-- OUTMAX. -/
def LibKind.outmax : LibKind → Nat
  | .translate .. => 16
  | .offset _ => 0
  | .cardValue v => if v then 0 else 2
  | .arqc .. => 8
  | .script aes enc => if enc then (if aes then 40 else 32) else 8
  | .authorise => 96
  | .dukpt .. => 16
  | .mac alg _ v => if v then 0 else if alg = 0 then 16 else 8
  | .ecdsa _ => 132
  | .eddsa alg => if alg = 0x18 then 64 else 114
  | .composite code => if code = 0x89 then 4723 else 3373
  | .mldsa alg => latticeOut alg
  | .rsa _ => 512

/-- It signs (R146, R168). -/
def LibKind.signs : LibKind → Bool
  | .ecdsa _ => true
  | .eddsa _ => true
  | .composite _ => true
  | .mldsa _ => true
  | .rsa _ => true
  | _ => false

/-- It checks and moves on a DUKPT receive context (R161). -/
def LibKind.bindsCtx : LibKind → Bool
  | .dukpt _ ctx _ => ctx
  | _ => false

/-- The header of a library graph (R126, R146). -/
def LibKind.header (k : LibKind) (g : Graph) : Graph :=
  { g with
    slots := BitVec.ofNat 8 (2 ^ k.slots.length - 1)
    inwin := k.inwin
    tmoUs := if k.signs then 2000 else 500
    outmax := k.outmax
    ctxUse := k.bindsCtx
    ctxType := if k.bindsCtx then 4 else 0 }

/-- A catalogue entry as RECIPE_RUN takes it: a library ID stands for its library recipe and no other (R143). -/
def Recipe.standard (e : Recipe) : Recipe :=
  match libKind e.id with
  | some k => { e with graph := k.header e.graph }
  | none => e

/-- What the library demands of a slot, if the recipe is of the library. -/
def libSlot (id slot : Nat) : Option LibSlot := (libKind id).bind fun k => k.slots[slot]?

/-- The key carries the usage a library slot demands (R148 check 1). -/
def libUsageOk (id slot : Nat) (usage : BitVec 16) : Bool :=
  match libSlot id slot with
  | some x => usage.getLsbD x.usage
  | none => true

/-- The key's algorithm, and its length, are ones the library slot takes (R148 checks 2 and 3). -/
def libAlgOk (id slot alg : Nat) : Bool :=
  match libSlot id slot with
  | some x => x.algs.contains alg
  | none => true
def libLenOk (id slot alg : Nat) : Bool :=
  match libSlot id slot with
  | some x => x.lens.contains alg
  | none => true

/-! ## What a recipe reads and how it ends -/

/-- The reading of an instance: window, stream, the slots' keys and their algorithms, context shadow, graph, and free values: the
mask generator's nibbles and bytes, and random bits of a signature. -/
structure LibIn where
  win : Bytes
  stream : Bytes
  keys : List RKey
  shadow : Bytes
  graph : Graph
  nib : List Nat
  tail : Bytes
  rnd : Bytes
  deriving DecidableEq, Repr

/-- The end of a library recipe: its verdict (R145), or its result from offset 0 on and its context shadow. -/
inductive LibEnd where
  | verdict (v : Nat)
  | done (out shadow : Bytes)
  deriving DecidableEq, Repr

/-- The key of slot `n`, and its algorithm. -/
def LibIn.key (x : LibIn) (n : Nat) : Bytes := ((x.keys[n]?).map (·.key)).getD []
def LibIn.alg (x : LibIn) (n : Nat) : Nat := ((x.keys[n]?).map (·.alg)).getD 0

/-- The fields of R144. -/
def LibIn.block (x : LibIn) : Bytes := x.win.take 16
def LibIn.pan (x : LibIn) : Bytes := slice x.win 0x10 11
def LibIn.psn (x : LibIn) : Bytes := slice x.win 0x1B 1

/-- A result with the shadow as it is. -/
def LibIn.result (x : LibIn) (out : Bytes) : LibEnd := .done out x.shadow

/-- The PAN field of form `f` (R131); verdict 0xF1 on a PAN format error. -/
def LibIn.panField (x : LibIn) (f : Nat) : StepOut := panExtract f x.pan x.psn (x.nib.headD 0)

/-- Go on with the bytes of an output, or end by its verdict. -/
def StepOut.andThen (o : StepOut) (f : Bytes → LibEnd) : LibEnd :=
  match o with
  | .data b => f b
  | .verdict v => .verdict v
  | _ => .verdict 0

/-! ## PIN blocks (R149–R153) -/

/-- The format of an index (R150). -/
def pinFormat (i : Nat) : Nat := if i < 2 then i else i + 1

/-- The PAN field a format binds. -/
def LibIn.bound (x : LibIn) (i : Nat) : StepOut :=
  if i = 1 then .data [] else x.panField (if i = 3 then 1 else 0)

/-- The PIN of an incoming block under a key. -/
def LibIn.openPin (x : LibIn) (i : Nat) (key pan : Bytes) : StepOut :=
  if i = 3 then pinbParse 4 (decBlock 0 key (xorBytes (decBlock 0 key x.block) pan)) []
  else pinbParse (pinFormat i) (decBlock 1 key (x.block.take 8)) pan

/-- An outgoing block around a PIN under a key, in 16 bytes. -/
def LibIn.sealPin (x : LibIn) (o : Nat) (key pan pin : Bytes) : StepOut :=
  match pinbBuild (pinFormat o) pin pan (x.nib.drop 1) x.tail with
  | .data b =>
    if o = 3 then .data (encBlock 0 key (xorBytes (encBlock 0 key b) pan)) else .data (encBlock 1 key b ++ zeros 8)
  | e => e

/-- Translate a block from one key to another (R150, R151), then go on. Every PAN is read before the block (assumption log 163). -/
def LibIn.translateThen (x : LibIn) (i o : Nat) (kin kout : Bytes) (f : Bytes → LibEnd) : LibEnd :=
  (x.bound i).andThen fun p => (x.bound o).andThen fun q =>
    (x.openPin i kin p).andThen fun pin => (x.sealPin o kout q pin).andThen f

/-- The COMPARE in mode 1 of an offset recipe gives L, its DECIMALISE the table (R152); without them the defaults. -/
def Graph.checkLength (g : Graph) : Nat :=
  match g.steps.find? fun st => decide (st.unit = 5) && decide (st.prim = 7) && decide (st.im 1 = 1) with
  | some st => st.im 2
  | none => 4
def Graph.digitTable (g : Graph) : Bytes :=
  match g.steps.find? fun st => decide (st.unit = 5) && decide (st.prim = 4) with
  | some st => slice g.pool (st.b.off - 0x400) st.b.len
  | none => [0, 1, 2, 3, 4, 5, 6, 7, 8, 9, 0, 1, 2, 3, 4, 5]

/-- PIN verification by offset (R152, R153). -/
def LibIn.verifyOffset (x : LibIn) (i : Nat) : LibEnd :=
  let n := x.graph.checkLength
  (x.bound i).andThen fun p => (x.openPin i (x.key 0) p).andThen fun pin =>
    (decimalise (encBlock 1 (x.key 1) (slice x.win 0x1C 8)) x.graph.digitTable (x.nib.drop 1)).andThen fun nat =>
      if compareEq 1 n (pin.drop 1) nat (slice x.win 0x24 6) then x.result [] else .verdict 0x02

/-! ## Card verification values (R154) -/

/-- The 3 digits, then 0xF. -/
def cardValue (key : Bytes) (pan : List Nat) (expiry service : Bytes) : Bytes :=
  let d := pan ++ nibbles expiry ++ (nibbles service).take 3
  let b := packNibbles (d ++ List.replicate (32 - d.length) 0)
  let y := encBlock 1 key (xorBytes (encBlock 2 (key.take 8) (b.take 8)) (b.drop 8))
  match digitSelect 1 0 3 y with
  | .data z => z
  | _ => []

/-- Recipes 0x0028 and 0x0029. -/
def LibIn.cardRecipe (x : LibIn) (verify : Bool) : LibEnd :=
  match panDigits x.pan with
  | none => .verdict 0xF1
  | some d =>
    let v := cardValue (x.key 0) d (slice x.win 0x1C 2) (slice x.win 0x1E 2)
    if verify = false then x.result v else if v = slice x.win 0x20 2 then x.result [] else .verdict 0x03

/-! ## EMV (R155–R158) -/

/-- The session key of slot `n` for a diversification value, by way of the card master key. -/
def LibIn.session (x : LibIn) (aes card : Bool) (n : Nat) (v : Bytes) : StepOut :=
  let one (mk : Bytes) : Bytes := Crypto.sessionKey aes mk ((v ++ zeros 16).take (if aes then 16 else 8))
  if card then .data (one (x.key n))
  else
    match x.panField 2 with
    | .data y => .data (one (Crypto.cardKey aes (x.key n) y))
    | e => e

/-- The ARPC of a session key (R157). -/
def arpc (aes m2 : Bool) (sk arqc rc : Bytes) : Bytes :=
  if m2 then (Crypto.emvMac aes sk (arqc ++ rc)).take 4 ++ zeros 4
  else if aes then (encBlock 0 sk (xorBytes (arqc ++ zeros 8) (rc ++ zeros 14))).take 8
  else encBlock 1 sk (xorBytes arqc (rc ++ zeros 6))

/-- Check an ARQC over transaction data, then go on with the ARPC. -/
def LibIn.arqcThen (x : LibIn) (aes card m2 : Bool) (slot : Nat) (data : Bytes) (f : Bytes → LibEnd) : LibEnd :=
  let arqc := slice x.win 0x30 8
  (x.session aes card slot (slice x.win 0x1C 2)).andThen fun sk =>
    if Crypto.emvMac aes sk data = arqc then f (arpc aes m2 sk arqc (slice x.win 0x24 (if m2 then 4 else 2))) else .verdict 0x01

/-- Script secure messaging (R158). -/
def LibIn.script (x : LibIn) (aes enc : Bool) : LibEnd :=
  let v := slice x.win 0x30 8
  let blk := if aes then 16 else 8
  (x.session aes false 0 v).andThen fun smi =>
    if enc = false then x.result (Crypto.emvMac aes smi x.stream)
    else
      (x.session aes false 1 v).andThen fun smc =>
        let ct := (cbcEnc (if aes then 0 else 1) smc (zeros blk) (Crypto.pad9797 2 blk (slice x.win 0x38 16))).1
        x.result (Crypto.emvMac aes smi (x.stream ++ ct) ++ ct)

/-! ## DUKPT (R159–R161) -/

/-- The one bits of a counter. -/
def oneBits (n : Nat) : Nat := ((List.range 32).filter fun k => n.testBit k).length

/-- The initial key ID, in the 10 bytes of a context, and the counter of a KSN. -/
def ksnOf (aes : Bool) (win : Bytes) : Bytes × Nat :=
  if aes then (slice win 0x1C 8 ++ zeros 2, beNat (slice win 0x24 4))
  else
    let n := beNat (slice win 0x1C 10)
    (beBytes 10 (n - n % 2 ^ 21), n % 2 ^ 21)

/-- The KSN's checks against a context shadow: the verdict, or the shadow with the counter taken up (R161, R191). A first use binds
the key family with the key ID (assumption log 163). -/
def ksnCheck (aes ctx : Bool) (ikid : Bytes) (cnt : Nat) (shadow : Bytes) : Except Nat Bytes :=
  let id := slice shadow 8 10
  let high := leAt shadow 20 4
  let first := decide (id = zeros 10) && decide (high = 0)
  if cnt = 0 ∨ (if aes then 16 else 10) < oneBits cnt then .error 0x05
  else if ctx = false then .ok shadow
  else if first = false ∧ id ≠ ikid then .error 0x07
  else if cnt ≤ high then .error 0x06
  else
    let bound := if first then splice (splice shadow 8 ikid) 24 [if aes then 0 else 1] else shadow
    .ok (splice bound 20 (leBytes 4 cnt))

/-- The derived PIN key of a KSN (R159). -/
def dukptPinKey (aes : Bool) (bdk ikid : Bytes) (cnt : Nat) : Bytes :=
  if aes then Crypto.aesDukptPin bdk (ikid.take 8) cnt else Crypto.tdesDukptPin bdk ikid cnt

/-- DUKPT PIN translation (R160, R161). -/
def LibIn.dukpt (x : LibIn) (aes ctx : Bool) (o : Nat) : LibEnd :=
  let k := ksnOf aes x.win
  match ksnCheck aes ctx k.1 k.2 x.shadow with
  | .error v => .verdict v
  | .ok shadow =>
    x.translateThen (if aes then 3 else 0) o (dukptPinKey aes (x.key 0) k.1 k.2) (x.key 1) fun b => .done b shadow

/-! ## MACs and signatures (R162, R168, R169) -/

/-- The MAC of a message by an algorithm of R162. -/
def libMac (alg method : Nat) (key m : Bytes) : Bytes :=
  if alg = 0 then cmac 0 key m else if alg = 3 then Crypto.macAlg3 key method m else Crypto.macAlg1 key method m

/-- MAC recipes. -/
def LibIn.macRecipe (x : LibIn) (alg method : Nat) (verify : Bool) : LibEnd :=
  let t := libMac alg method (x.key 0) x.stream
  if verify = false then x.result t else if t.take 8 = x.win.take 8 then x.result [] else .verdict 0x04

/-- A classical signature over a digest or a message, in R169's encoding. -/
def libClassical (alg : Nat) (key m rnd : Bytes) : Bytes :=
  if isEd alg then Crypto.eddsaSign alg key m else Crypto.ecdsaSign alg key m (rnd.take (16 * (compOp alg true key).draws))

/-- The signature of a recipe over the stream; none where no candidate of an ML-DSA budget passes with these random bits. -/
def LibIn.sign (x : LibIn) (k : LibKind) : Option Bytes :=
  let m := x.stream
  match k with
  | .ecdsa h => some (libClassical (x.alg 0) (x.key 0) (hashOf h 0 m) x.rnd)
  | .eddsa alg => some (libClassical alg (x.key 0) m x.rnd)
  | .composite code =>
    let a := (compAlgs code).getD (0x29, 0x10)
    let m' := compMessage code m
    (Crypto.mldsaSign a.1 (x.key 0) (dsaMu a.1 (x.key 0) [] m') (x.rnd.take 32)).map
      (· ++ libClassical a.2 (x.key 1) (compClassical code m') (x.rnd.drop 32))
  | .mldsa alg => Crypto.mldsaSign alg (x.key 0) (dsaMu alg (x.key 0) [] m) (x.rnd.take 32)
  | .rsa scheme =>
    let o : SrgOp := { op := 5, alg := x.alg 0, scheme := scheme, w := 0, p := 0, key := x.key 0 }
    o.result [Crypto.schemeDigest scheme m] x.rnd
  | _ => none

/-- Recipe 0x0040 (R132's worked example): translation from format 4 to 0, ARQC and ARPC by method 1 over the 43 bytes at 0x38, a CMAC
and a signature over the stream. -/
def LibIn.authorise (x : LibIn) : LibEnd :=
  x.translateThen 3 0 (x.key 0) (x.key 1) fun blk =>
    x.arqcThen false false false 2 (slice x.win 0x38 43) fun rp =>
      x.result (blk.take 8 ++ rp ++ cmac 0 (x.key 3) x.stream
        ++ libClassical 0x10 (x.key 4) (beBytes 32 (Crypto.sha256 x.stream).toNat) x.rnd)

/-- The end of a library recipe; none where its signature is left to its steps. -/
def LibIn.ends (x : LibIn) (k : LibKind) : Option LibEnd :=
  match k with
  | .translate i o => some (x.translateThen i o (x.key 0) (x.key 1) x.result)
  | .offset i => some (x.verifyOffset i)
  | .cardValue v => some (x.cardRecipe v)
  | .arqc aes card m2 => some (x.arqcThen aes card m2 0 x.stream x.result)
  | .script aes enc => some (x.script aes enc)
  | .authorise => some x.authorise
  | .dukpt aes ctx o => some (x.dukpt aes ctx o)
  | .mac alg method v => some (x.macRecipe alg method v)
  | k => (x.sign k).map x.result

/-! ## A library instance -/

/-- The reading of an instance in slot order, free values from the state. -/
def State.libIn (s : State) (i : Inst) : LibIn :=
  { win := i.field.take i.graph.inwin
    stream := i.field.drop i.graph.inwin
    keys := (List.range 8).filterMap fun k => SMap.get none i.keys k
    shadow := i.shadow
    graph := i.graph
    nib := nibbles (s.randomBytes 16)
    tail := (s.skip 1).randomBytes 8
    rnd := (s.skip 2).randomBytes 112 }

/-- The end of an instance of the library. -/
def State.libEnd (s : State) (i : Inst) : Option LibEnd := (libKind i.recipe).bind fun k => (s.libIn i).ends k

end Sys2Proof.Machine
end

