-- ==== Sys2Proof/Machine/Twill.lean ====
section
/-! DEFINITION. Twill's instances (file 04): RECIPE_RUN and its refusals, LOADING with the checks of every slot and the
consumption in one step (R133, R148), dispatch and resolution of steps, completion (R123), timeouts, and CHILD (R183). -/

namespace Sys2Proof.Machine

/-! ## What a step demands of its slot (R148) -/

/-- The usage bit a step demands of its slot's key (R183, R228, R250, R275, R297). -/
def Step.usageBit (st : Step) : Option Nat :=
  if st.unit = 0 ∨ st.unit = 4 then some (st.im 2)
  else if st.unit = 1 then
    if [5, 8, 11, 16].contains st.prim then some 13
    else if st.prim = 7 then some 14 else if st.prim = 10 ∨ st.prim = 13 then some 15 else none
  else if st.unit = 2 then (if st.prim = 7 then none else some 13)
  else if st.unit = 3 then some 9
  else none

/-- The algorithms a step takes from its slot (R183, R230, R265, R289, R295). -/
def Step.algOk (st : Step) (alg : Nat) (n : Node) : Bool :=
  if st.unit = 0 then (if st.im 0 = 0 then isAes alg else isTdes alg)
  else if st.unit = 1 ∨ st.unit = 2 then decide (st.im 0 = alg)
  else if st.unit = 3 then decide (alg = 0x06)
  else decide (n.kind = 1) && n.labelled && decide (n.limit = 0)

/-- A step's further demands: the class of R230, and PINOUT for a key with a PIN usage (R129). -/
def Step.classRej (st : Step) (k : RKey) (slot : Nat) : Option Rej :=
  if st.unit ≠ 0 then none
  else if k.classN = (decide (7 ≤ st.prim)) ∨ (k.classN ∧ st.prim = 6 ∧ isAes k.alg) ∨ (st.prim = 6 ∧ k.classN = false) then
    if [2, 4, 8].contains st.prim ∧ k.usage &&& 0x7#16 ≠ 0 ∧ st.pinOut = false then some ⟨0x0201, slot, 0x40⟩ else none
  else some ⟨0x0201, slot, 0x61⟩

/-- The steps that use a slot's key. -/
def Graph.usersOf (g : Graph) (slot : Nat) : List Step := g.steps.filter fun st => st.usesSlot && st.slot == slot

/-! ## RECIPE_RUN (R122, R124) -/

/-- The handles of the eight slots. -/
def recipeHandles (r : Req) : List W64 :=
  let x := r.desc.par 2 1
  ([r.desc.key0, r.desc.key1] ++ (List.range x).map fun k => BitVec.ofNat 64 (leAt r.bytes (8 * k) 8))
    ++ List.replicate (6 - x) 0

/-- A stream operand stays within a field area of `n` bytes. -/
def Graph.streamsFit (g : Graph) (n : Nat) : Bool :=
  g.steps.all fun st => !g.isStream st.a ||
    (if st.a.len = 0xFFFF then decide (st.a.off - 0x8000 ≤ n) else decide (st.a.off - 0x8000 + st.a.len ≤ n))

/-- Instances of a tenant that are not FREE. -/
def State.activeOf (s : State) (t : Nat) : Nat :=
  (s.twl.insts.filter fun x => decide (x.2.state ≠ .free) && x.2.tenant == t).length

/-- The reason a RECIPE_RUN is refused before it loads (R124), in the order of R124's table. -/
def State.recipeReason (s : State) (r : Req) (g : Graph) : Option Nat :=
  let x := r.desc.par 2 1
  let n := r.desc.inLen - 8 * x
  if (s.tenant r.tenant).slots ≤ s.activeOf r.tenant then some 0x31
  else if r.desc.inLen < 8 * x + g.inwin ∨ 32767 < n then some 0x32
  else if g.ctxUse ∧ r.desc.ctxv = false then some 0x33
  else if 6 < x ∨ (List.range 8).any (fun k => g.slots.getLsbD k && decide ((recipeHandles r)[k]?.getD 0 = 0)) then some 0x34
  else if g.streamsFit n = false then some 0x35
  else if r.desc.outLen < g.outmax then some 0x25
  else none

/-- The lowest-numbered FREE slot. -/
def State.freeSlot (s : State) : Option Nat := (List.range 4096).find? fun n => decide ((s.slot n).state = .free)

/-- The instance a RECIPE_RUN starts, in LOADING (R132). -/
def State.newInst (s : State) (r : Req) (e : Recipe) : Inst :=
  { Inst.free with
    state := .loading, req := r, tenant := r.tenant, urgent := s.urgent r, recipe := e.id, version := e.version,
    graph := e.graph, handles := recipeHandles r, field := r.bytes.drop (8 * r.desc.par 2 1), ctxNo := r.desc.ctxNo,
    maskWait := s.twl.reseedDue }

/-- The body of RECIPE_RUN: refuse, or take a slot. DESIGN CHOICE (log 156): BUSY_RETRY 0x31 comes here, when the command has been
admitted and charged, and not among the checks of R104. -/
def State.startRecipe (s : State) (r : Req) : State :=
  if (s.instOf r).isSome then s
  else
    match (s.recipe (r.desc.par 0 2)).map Recipe.standard with
    | none => s.refuseRange r 0x30
    | some e =>
      match s.recipeReason r e.graph, s.freeSlot with
      | some 0x31, _ => s.refuse r 0x0101 2 0x31
      | some 0x25, _ => s.complete r 0x0301 0 0x25 0 e.graph.outmax []
      | some x, _ => s.refuseRange r x
      | none, none => s.refuse r 0x0101 2 0x31
      | none, some n =>
        let t := s.setSlot n (s.newInst r e)
        { t with twl := { t.twl with starts := wrapAdd 32 t.twl.starts 1 } }

/-- RECIPE_RUN (R122). -/
def execRecipeRun (r : Req) (s : State) : Host.Outcome State Fault Refusal :=
  .next (s.hostCommand r 0x0101 fun s => s.startRecipe r)

/-! ## The end of LOADING (R133, R148) -/

/-- A slot's key after its checks. -/
structure SlotKey where
  slot : Nat
  key : RKey
  node : Node
  deriving DecidableEq, Repr

/-- Resolve a slot's handle and check its key (R148, R182, R129, R183, R230). -/
def State.slotKey (s : State) (i : Inst) (slot : Nat) : Except Rej (State × SlotKey) :=
  let us := i.graph.usersOf slot
  match s.resolve i.tenant (s.actingColour i.req) (i.handles[slot]?.getD 0) with
  | .error x => .error x
  | .ok (t, k, n) =>
    if us.any (fun st => match st.usageBit with
        | some b => !k.usage.getLsbD b
        | none => false) ∨ libUsageOk i.recipe slot k.usage = false then .error ⟨0x0201, slot, 0x40⟩
    else
      match t.keyChecks k n none ((us.all fun st => st.algOk k.alg n) && libAlgOk i.recipe slot k.alg)
          (libLenOk i.recipe slot k.alg) slot with
      | some x => .error x
      | none =>
        match us.findSome? fun st => st.classRej k slot with
        | some x => .error x
        | none => .ok (t, { slot := slot, key := k, node := n })

/-- Every used slot in rising order; the first refusal stops (R148). -/
def State.slotKeys (i : Inst) : List Nat → State → Except Rej (State × List SlotKey)
  | [], s => .ok (s, [])
  | k :: rest, s =>
    if i.graph.slots.getLsbD k = false then State.slotKeys i rest s
    else
      match s.slotKey i k with
      | .error x => .error x
      | .ok (t, x) =>
        match State.slotKeys i rest t with
        | .error e => .error e
        | .ok (u, l) => .ok (u, x :: l)

/-- The graph accepts its context (R192). -/
def State.shadowRej (s : State) (i : Inst) : Option Rej :=
  let x := s.ctx i.ctxNo
  if i.graph.ctxUse = false then none
  else if x.ty ≠ i.graph.ctxType then some ⟨0x0301, 0, 0x43⟩
  else if x.frozen then some ⟨0x0301, 0, 0x5E⟩
  else none

/-- The steps of the instance that use the handle of a slot's key. -/
def Inst.usersOfHandle (i : Inst) (h : W64) : List (Nat × Step) :=
  (List.range i.graph.steps.length).filterMap fun k =>
    let st := i.graph.step k
    if st.usesSlot && decide (i.handles[st.slot]?.getD 0 = h) then some (k, st) else none

/-- The class U blocks an instance takes from a handle: cipher invocations of its Calico steps without the CMAC subkey
(R214, R228). -/
def Inst.blocksOf (i : Inst) (h : W64) : Nat :=
  ((i.usersOfHandle h).map fun x =>
    if x.2.unit = 0 ∧ x.2.prim ≤ 6 then
      primBlocks x.2.prim (x.2.im 0) (i.opd x.2.a).length - (if x.2.prim = 6 then 1 else 0)
    else 0).sum

/-- The steps of the instance that seal under a handle (R217). -/
def Inst.sealsOf (i : Inst) (h : W64) : List Nat :=
  ((i.usersOfHandle h).filter fun x => decide (x.2.unit = 0) && decide (x.2.prim = 7)).map (·.1)

/-- One key of the instance: slots that name one handle share it, under the lowest of them. -/
def distinctKeys : List SlotKey → List SlotKey
  | [] => []
  | x :: t => x :: (distinctKeys t).filter fun y => decide (y.key.handle ≠ x.key.handle)

/-- What keeps a key from giving the instance what it takes, before anything is consumed (R133, R214, R219, R220). -/
def State.takeRej (s : State) (i : Inst) (x : SlotKey) : Option Rej :=
  let h := x.key.handle
  let n := (i.sealsOf h).length
  match s.place x.node (decide (n ≠ 0)) with
  | .refused r => some ⟨0x0201, x.slot, r⟩
  | .at _ => none
  | .here =>
    if s.blocksFit h x.node (i.blocksOf h) = false then some ⟨0x0203, x.slot, 0x65⟩
    else if n = 0 then none
    else
      match s.nonceRefusal h x.slot with
      | some e => some e
      | none =>
        let used := match s.dmk.ksOf h with
          | none => 0
          | some e => match s.kstate e with
            | some (_, k) => k.nonceCtr
            | none => 0
        if 2 ^ 48 - 1 < used + n then some ⟨0x0203, x.slot, 0x66⟩ else none

/-- The owner an instance goes to: that of its first key counted elsewhere (R133, R474). -/
def State.awayOwner (s : State) (i : Inst) (l : List SlotKey) : Option Nat :=
  l.findSome? fun x => match s.place x.node (decide (i.sealsOf x.key.handle ≠ [])) with
    | .at a => some a
    | _ => none

/-- Issue the nonces of a key's sealing steps in step order (R217). -/
def State.sealNonces (t slot : Nat) (h : W64) : List Nat → State → Except Rej (State × SMap (Option Nat))
  | [], s => .ok (s, [])
  | k :: rest, s =>
    match s.takeNonce t h true slot with
    | .error e => .error e
    | .ok (s1, v) =>
      match State.sealNonces t slot h rest s1 with
      | .error e => .error e
      | .ok (s2, m) => .ok (s2, SMap.set none m k (some v))

/-- Take one count, the blocks and the nonces of every key (R133). A failure gives the state it failed in. -/
def State.takeAll (i : Inst) : List SlotKey → State → SMap (Option Nat) → State × Option Rej × SMap (Option Nat)
  | [], s, m => (s, none, m)
  | x :: rest, s, m =>
    match s.spend i.tenant x.key.handle x.node (i.blocksOf x.key.handle) x.slot with
    | (s1, some e) => (s1, some e, m)
    | (s1, none) =>
      match State.sealNonces i.tenant x.slot x.key.handle (i.sealsOf x.key.handle) s1 with
      | .error e => (s1, some e, m)
      | .ok (s2, m2) => State.takeAll i rest s2 (m2.foldl (fun a e => SMap.set none a e.1 e.2) m)

/-- End an instance that LOADING refuses: nothing is consumed (R124, R133); CAL_LIMREF counts a block or nonce limit (R247). -/
def State.refuseInst (s : State) (n : Nat) (x : Rej) : State :=
  ((s.setSlot n Inst.free).noteRefusal .cal x).reject (s.slot n).req x

/-- The instance as it starts to run (R128, R132). -/
def Inst.loaded (i : Inst) (l : List SlotKey) (nonces : SMap (Option Nat)) : Inst :=
  { i with
    state := .running
    keys := l.foldl (fun m x => SMap.set none m x.slot (some x.key)) []
    scratch := (List.range i.graph.inwin).foldl (fun m k => SMap.set 0 m k (i.field[k]?.getD 0)) []
    nonces := nonces
    maskWait := false }

/-- The instance with its context shadow read (R128): what a step would take depends on the lengths of its operands. -/
def State.withShadow (s : State) (i : Inst) : Inst := { i with shadow := if i.graph.ctxUse then (s.ctx i.ctxNo).bytes else [] }

/-- The end of LOADING: every check, then everything consumed in one step, or nothing. DESIGN CHOICE (log 154): every slot passes its
usage, algorithm, expiry and count checks before any slot is held to its block limit, its nonces or its place. -/
def State.endLoading (s : State) (n : Nat) : State :=
  let i := s.withShadow (s.slot n)
  match s.shadowRej i with
  | some x => s.refuseInst n x
  | none =>
    match State.slotKeys i (List.range 8) s with
    | .error x => s.refuseInst n x
    | .ok (s1, l) =>
      let ks := distinctKeys l
      match i.graph.steps.find? fun st => decide (st.unit = 0) && decide (7 ≤ st.prim) && st.scr with
      | some st => s1.refuseInst n ⟨0x0201, st.slot, 0x61⟩
      | none =>
      match ks.findSome? fun x => s1.takeRej i x with
      | some x => s1.refuseInst n x
      | none =>
        match s1.awayOwner i ks with
        | some a => (s1.setSlot n Inst.free).forward i.req a
        | none =>
          match State.takeAll i ks s1 [] with
          | (t, some x, _) => { s1 with fresh := t.fresh, rcd := t.rcd }.refuseInst n x
          | (t, none, m) => t.setSlot n (i.loaded l m)

/-- RECIPE_LOADING_DONE (R133); an instance start waits while a reseed of the mask generator is due (R134). -/
def execRecipeLoadingDone (n : Nat) (s : State) : Host.Outcome State Fault Refusal :=
  if (s.slot n).state = .loading ∧ s.twl.reseedDue = false then .next (s.endLoading n) else .next s

/-! ## Dispatch (R134, R135) -/

/-- Step `k` is ready: its instance runs, its predecessors have resolved, and it is neither dispatched nor skipped. -/
def Inst.ready (i : Inst) (k : Nat) : Bool :=
  let st := i.graph.step k
  decide (i.state = .running) && decide (k < i.graph.steps.length) && !i.dispatched.getLsbD k && !i.resolved.getLsbD k
    && decide (st.pred &&& ~~~i.resolved = 0)

/-- The step waits while a reseed of the mask generator is due. -/
def Step.waitsForMask (st : Step) : Bool :=
  st.needRng || (decide (st.unit = 5) && decide (st.prim = 3) && decide (st.im 0 ≠ 0))

/-- Dispatch a ready step: to its pool's queue, or to the format ALUs or Damask. -/
def State.dispatch (s : State) (n k : Nat) : State :=
  let i := s.slot n
  let st := i.graph.step k
  let t := s.setSlot n { i with dispatched := i.dispatched ||| (1#32 <<< k), lastStep := k, maskWait := false }
  let u := { t with twl := { t.twl with steps := wrapAdd 32 t.twl.steps 1 } }
  if st.unit < 4 then u.addWaiting (unitAt st.unit) (Job.new (.step n k) st.prim i.tenant i.urgent) else u

/-- STEP_DISPATCH (R135). -/
def execStepDispatch (n st : Nat) (s : State) : Host.Outcome State Fault Refusal :=
  let i := s.slot n
  if i.ready st = false then .next s
  else if s.twl.reseedDue ∧ (i.graph.step st).waitsForMask then .next (s.setSlot n { i with maskWait := true })
  else .next (s.dispatch n st)

/-! ## CHILD (R183) -/

/-- The key of a CHILD step: derived under its slot's node for the label of operand A. Where the node is gone by then, the
spec states no key (free). -/
def State.childKey (s : State) (i : Inst) (st : Step) : Bytes :=
  match s.keyNode i.tenant (hNode (i.handles[st.slot]?.getD 0)) with
  | some n => n.workingKey 0x06 (s.parentKey i.tenant n.parent).1 (beNat (i.opd st.a))
  | none => s.randomBytes 32

/-- The step is a dispatched derive step without output. -/
def State.childReady (s : State) (n k : Nat) : Bool :=
  let i := s.slot n
  let st := i.graph.step k
  s.stepLive n k && decide (st.unit = 4) && !(i.outs.any fun x => x.1 == k)

/-- CHILD (R183, R185). -/
def execChild (n st : Nat) (s : State) : Host.Outcome State Fault Refusal :=
  if s.childReady n st then
    let i := s.slot n
    let key := s.childKey i (i.graph.step st)
    let d := match s.keyNode i.tenant (hNode (i.handles[(i.graph.step st).slot]?.getD 0)) with
      | some x => (s.parentKey i.tenant x.parent).2.2
      | none => s.dmk
    .next (({ s with dmk := d }.deliverStep n st (.data key)).skip 2)
  else .next s

/-! ## Resolution and completion (R123, R129, R131, R132) -/

/-- The steps that are skipped once those of `m` are: every step that depends on one of them too. -/
def Graph.skipFrom (g : Graph) (m : BitVec 32) : BitVec 32 :=
  (List.range g.steps.length).foldl (fun m k =>
    if (g.step k).pred &&& m ≠ 0 then m ||| (1#32 <<< k) else m) m

/-- Some byte an operand reads is PIN-marked. -/
def Inst.readsPin (i : Inst) (o : Opd) : Bool :=
  decide (o.off < 0x200) && (List.range o.len).any fun k => SMap.get false i.pinMark (o.off + k)

/-- Write a step's output to its destination, with its marks (R128, R129). -/
def Inst.write (i : Inst) (st : Step) (out : Bytes) : Inst :=
  let b := out.take st.d.len
  let ix := List.range b.length
  let at_ (k : Nat) : Byte := b[k]?.getD 0
  if st.outResult then { i with held := ix.foldl (fun m k => SMap.set 0 m (st.d.off + k) (at_ k)) i.held }
  else if st.d.off < 0x200 then
    let pin := st.pinOut || (decide (st.unit = 5) && (i.readsPin st.a || i.readsPin st.b || i.readsPin st.c))
    { i with
      scratch := ix.foldl (fun m k => SMap.set 0 m (st.d.off + k) (at_ k)) i.scratch
      keyMark := ix.foldl (fun m k => SMap.set false m (st.d.off + k) st.keyOut) i.keyMark
      pinMark := ix.foldl (fun m k => SMap.set false m (st.d.off + k) pin) i.pinMark }
  else { i with shadow := splice i.shadow (st.d.off - 0x300) b }

/-- The step's output taken up, apart from a verdict. DESIGN CHOICE (log 155): an unequal COMPARE clears its flag, whatever an
earlier step left in it. -/
def Inst.settle (i : Inst) (k : Nat) (o : StepOut) : Inst :=
  let j := match o with
    | .data b => i.write (i.graph.step k) b
    | .setFlag f v => { i with flags := if v then i.flags ||| (1#4 <<< f) else i.flags &&& ~~~(1#4 <<< f) }
    | .branch true _ m =>
      let x := i.graph.skipFrom (m &&& ~~~i.resolved) &&& ~~~i.resolved
      { i with skipped := i.skipped ||| x, resolved := i.resolved ||| x }
    | _ => i
  { j with resolved := j.resolved ||| (1#32 <<< k), stepsRun := j.stepsRun + 1, outs := j.outs.filter fun x => x.1 != k }

/-- The verdict a step's output ends the instance with. -/
def StepOut.ends : StepOut → Option Nat
  | .verdict v => some v
  | .branch true v _ => if v = 0 then none else some v
  | _ => none

/-- INFO of a completed instance (R123). -/
def Inst.info (i : Inst) (verdict : Nat) : Nat := verdict % 256 + 256 * (i.stepsRun % 256) + 65536 * i.version

/-- The instance's slot is wiped and FREE, its steps gone from the units. -/
def State.freeInstance (s : State) (n : Nat) : State :=
  (s.dropJobs fun e => match e with
    | .step m _ => m == n
    | .raw _ => false).setSlot n Inst.free

/-- Completion by a verdict: OK, nothing written, the context unchanged (R123, R128). -/
def State.endVerdict (s : State) (n v : Nat) : State :=
  let i := s.slot n
  let t := s.freeInstance n
  { t with twl := { t.twl with done := wrapAdd 32 t.twl.done 1 } }.complete i.req 0 0 0 (i.info v) 0 []

/-- The context with bytes 8 to 63 of a shadow (R192). -/
def Ctx.withShadow (x : Ctx) (shadow : Bytes) : Ctx := ctxAt (x.bytes.take 8 ++ shadow.drop 8)

/-- The result that the steps have written, in OUTMAX bytes (R123). -/
def Inst.result (i : Inst) : Bytes := (List.range i.graph.outmax).map fun k => SMap.get 0 i.held k

/-- Completion with a result and a context shadow: the whole result is written, then the context, but one that an export has frozen
meanwhile (R123, R128, R132, R205). -/
def State.endAll (s : State) (n : Nat) (out shadow : Bytes) : State :=
  let i := s.slot n
  let t := s.freeInstance n
  if out ≠ [] ∧ i.req.outOk = false then t.refuseBuffer i.req
  else
    let t1 := if i.graph.ctxUse ∧ (t.ctx i.ctxNo).frozen = false then t.setCtx i.ctxNo ((t.ctx i.ctxNo).withShadow shadow) else t
    { t1 with twl := { t1.twl with done := wrapAdd 32 t1.twl.done 1 } }.answer i.req (i.info 0) out

/-- The instance ends, by a verdict of its steps or after the last of them. What an instance of the library ends with is its
recipe's outcome (R145, file 05; assumption log 161). -/
def State.endInst (s : State) (n : Nat) (verdict : Option Nat) : State :=
  let i := s.slot n
  match s.libEnd i with
  | some (.verdict v) => (s.skip 9).endVerdict n v
  | some (.done out shadow) => (s.skip 9).endAll n ((out ++ zeros i.graph.outmax).take i.graph.outmax) shadow
  | none =>
    match verdict with
    | some v => s.endVerdict n v
    | none => s.endAll n i.result i.shadow

/-- Every step has resolved. -/
def Inst.finished (i : Inst) : Bool := (List.range i.graph.steps.length).all fun k => i.resolved.getLsbD k

/-- STEP_RESOLVE (R131, R132): a delivered output is taken up; a verdict or the last step completes the instance. -/
def execStepResolve (n st : Nat) (s : State) : Host.Outcome State Fault Refusal :=
  let i := s.slot n
  if s.stepLive n st = false then .next s
  else
    match i.outs.find? fun x => x.1 == st with
    | none => .next s
    | some (_, o) =>
      let j := i.settle st o
      let t := s.setSlot n j
      .next (if o.ends.isSome ∨ j.finished then (t.endInst n o.ends).settleUnits else t)

/-! ## Timeouts and reseeds (R134, R139) -/

/-- RECIPE_TIMEOUT (R139): cause 3. -/
def execRecipeTimeout (n : Nat) (s : State) : Host.Outcome State Fault Refusal := .next (s.abortInst n 3 none).settleUnits

/-- TWILL_MASK_RESEED (R134). -/
def execTwillMaskReseed (s : State) : Host.Outcome State Fault Refusal :=
  if s.onMain then
    .next ({ s with twl := { s.twl with reseedDue := true } }.drawFor .twillMask 2 fun _ t => { t with twl := t.twl.reseeded })
  else .next s

end Sys2Proof.Machine
end

