-- ==== Sys2Proof/Machine/FabricWork.lean ====
section
/-! DEFINITION. What travels over the fabric: forwarded and spilled requests, replicas of a structure image, and cloned roots
(R475–R484). -/

namespace Sys2Proof.Machine

/-! ## Forwarded requests (R475–R478) -/

/-- The handles a request names. -/
def Req.handles (r : Req) : List W64 :=
  (if r.desc.opcode = 0x0101 then recipeHandles r else [r.desc.key0, r.desc.key1]).filter (· ≠ 0)

/-- A handle's node here names another owner (R476). -/
def State.otherOwner (s : State) (r : Req) : Bool :=
  (Req.handles r).any fun h => match s.node (hNode h) with
    | some n => decide (n.owner ≠ 0xFFFF) && decide (s.blk.addr ≠ some n.owner)
    | none => false

/-- Rows 1, 2 and 4 of R476, and row 3 for a forwarded request. -/
def State.inboundRej (s : State) (r : Req) (hash : Bytes) (version : Nat) (forwarded : Bool) : Option Rej :=
  if s.sys.mode = .locked then some ⟨0x0701, 0, 0⟩
  else if s.sys.mode = .drain then some ⟨0x0501, 0, 0⟩
  else if (s.tenant r.tenant).state ≠ .active ∨ hash ≠ s.rootHash r.tenant then some ⟨0x0801, 0, 0xB2⟩
  else if forwarded ∧ s.otherOwner r then some ⟨0x0801, 0, 0xB4⟩
  else if r.desc.opcode = 0x0101 ∧ (s.recipe (r.desc.par 0 2)).map (·.version) ≠ some version then some ⟨0x0301, 0, 0xB6⟩
  else none

/-- A request as this device holds it for another: its buffers travel in the frames. -/
def Req.inbound (r : Req) (src id : Nat) : Req := { r with src := .fabric src id r.tenant, inOk := true, outOk := true, cqOk := true }

/-- FWD_REQ (R476): answered, or queued as of a queue pair of the tenant. -/
def execFwdReq (n : Nat) (f : Frame) (id : Nat) (urgent : Bool) (rootHash : Bytes) (version : Nat) (r : Req) (s : State) :
    Host.Outcome State Fault Refusal :=
  .next (s.receiveRouted n f 0x20 fun s =>
    let q := Req.inbound r f.src id
    let e : FwdIn := { id := id, src := f.src, urgent := urgent, hash := rootHash, req := q }
    let t := { s with blk := { s.blk with ins := s.blk.ins ++ [e] } }
    match s.inboundRej q rootHash version true with
    | some x => t.reject q x
    | none => if 1024 ≤ (s.unadmitted s.blk.ins).length then t.refuse q 0x0101 (s.hint q) 0xB3 else t)

/-- A response for a request that is no longer outstanding (R477). -/
def State.lateResponse (s : State) (owner id : Nat) : State :=
  { s with blk := { s.blk with late := satAdd 32 s.blk.late 1 } }.offer 0x1009 owner (id % 2 ^ 32) 0

/-- FWD_RSP (R476, R477): written unchanged into the requester's completion; a late one is discarded. -/
def execFwdRsp (n : Nat) (f : Frame) (id status detail reason outLen info : Nat) (out : Bytes) (s : State) :
    Host.Outcome State Fault Refusal :=
  .next (s.receiveRouted n f 0x21 fun s =>
    match s.blk.outs.find? fun x => x.id == id && x.owner == f.src with
    | none => s.lateResponse f.src id
    | some x =>
      let t := { s with blk := { s.blk with outs := s.blk.outs.filter (·.id ≠ id) } }
      t.complete x.req status detail reason info outLen out)

/-- FORWARD_TIMEOUT (R477). -/
def execForwardTimeout (id : Nat) (s : State) : Host.Outcome State Fault Refusal :=
  .next (
    match s.blk.outs.find? fun x => x.id == id with
    | none => s
    | some x =>
      { s with blk := { s.blk with outs := s.blk.outs.filter (·.id ≠ id) } }.unreachable x.req x.owner 0xB9)

/-- OWNER_UNREACHABLE_RECORD (R478): one record per owner with the second's count. -/
def execOwnerUnreachableRecord (s : State) : Host.Outcome State Fault Refusal :=
  .next (
    let t := s.blk.unreachNow.foldl (fun t x => t.offer 0x1008 x.1 x.2.2 x.2.1) s
    { t with blk := { t.blk with unreachNow := [] } })

/-! ## Spilled commands (R479, R480) -/

/-- SPILL_REQ (R480): the checks of R476 rows 1, 2 and 4; a full spill queue answers BUSY. -/
def execSpillReq (n : Nat) (f : Frame) (id : Nat) (rootHash : Bytes) (version : Nat) (r : Req) (s : State) :
    Host.Outcome State Fault Refusal :=
  .next (s.receiveRouted n f 0x22 fun s =>
    let q := Req.inbound r f.src id
    let e : FwdIn := { id := id, src := f.src, urgent := false, hash := rootHash, req := q }
    let t := { s with blk := { s.blk with spillIns := s.blk.spillIns ++ [e] } }
    match s.inboundRej q rootHash version false with
    | some x => t.reject q x
    | none => if 1024 ≤ (s.unadmitted s.blk.spillIns).length then t.refuse q 0x0101 0 0 else t)

/-- A spilled command comes back to be run here, as though it had just been admitted (R480). -/
def State.unspill (s : State) (id : Nat) : State :=
  { s with blk := { s.blk with spillOuts := s.blk.spillOuts.filter (·.id ≠ id) } }

/-- SPILL_RSP (R480): the command completes, or BUSY runs it here; a late response is discarded. -/
def execSpillRsp (n : Nat) (f : Frame) (id : Nat) (busy : Bool) (status detail reason outLen info : Nat) (out : Bytes)
    (s : State) : Host.Outcome State Fault Refusal :=
  .next (s.receiveRouted n f 0x23 fun s =>
    match s.blk.spillOuts.find? fun x => x.id == id && x.owner == f.src with
    | none => s
    | some x =>
      let t := s.unspill id
      if busy then t else t.complete x.req status detail reason info outLen out)

/-- SPILL_TIMEOUT (R480). -/
def execSpillTimeout (id : Nat) (s : State) : Host.Outcome State Fault Refusal := .next (s.unspill id)

/-! ## Replication (R85, R481) -/

/-- Acknowledge a replica message: BUSY_RETRY or not, and the reason code. -/
def State.ackReplica (s : State) (tgt : Nat) (busy : Bool) (reason : Nat) : State :=
  s.sendTo tgt 0x31 (leBytes 1 (flag busy) ++ leBytes 1 reason)

/-- Store a replica message into the session it belongs to, and commit the copy with its last one (R81, R85). -/
def State.takeReplica (s : State) (x : Session) (src off : Nat) (data : Bytes) (last : Bool) : State :=
  if x.length < off + data.length then s.ackReplica src false 0x23
  else
    let t := s.sessionData x off data
    if last = false then t.ackReplica src false 0
    else
      match t.img.session with
      | none => t
      | some y =>
        let h := slotBytes y.header 256
        if imgSeq h ≠ y.seq ∨ imgLength h ≠ y.length then t.ackReplica src false 0x13
        else
          match t.commitSession y with
          | (u, v, _) => u.ackReplica src false v.reason

/-- REPLICA (R80–R83, R85, R481): the first message opens a session unless one is open or R80 refuses it. -/
def execReplica (n : Nat) (f : Frame) (seq len off : Nat) (data : Bytes) (last : Bool) (s : State) :
    Host.Outcome State Fault Refusal :=
  .next (s.receiveRouted n f 0x30 fun s =>
    if s.serving = false then s
    else
      match s.img.session with
      | some x =>
        if x.replica ∧ off ≠ 0 ∧ x.seq = seq ∧ x.length = len then s.takeReplica x f.src off data last
        else s.ackReplica f.src true 0x15
      | none =>
        if off ≠ 0 then s.ackReplica f.src false 0x10
        else if seq ≤ s.sys.imgSeq ∨ seq < s.bkd.seqFloor then s.ackReplica f.src false 0x11
        else if 1572864 < len then s.ackReplica f.src false 0x12
        else
          let b := s.targetSlotB
          let t := s.setMramSlot b (zeroHeader (s.mramSlot b))
          let x : Session := { seq := seq, length := len, slotB := b, header := [], replica := true }
          { t with img := { t.img with session := some x } }.takeReplica x f.src off data last)

/-- REPLICA_ACK (R85, R481): the next message, the end of the transfer, a retry to come, or a recorded failure. -/
def execReplicaAck (n : Nat) (f : Frame) (busy : Bool) (reason : Nat) (s : State) : Host.Outcome State Fault Refusal :=
  .next (s.receiveRouted n f 0x31 fun s =>
    let mine := ReplicaWait.runsTo f.src
    match s.img.replicas.find? mine with
    | none => s
    | some x =>
      if busy then (s.onReplica mine fun y => [{ y with busy := true, active := false }]).pumpReplicas 4
      else if reason ≠ 0 then (s.replicaFailed mine f.src reason).pumpReplicas 4
      else
        let off := x.off + 65536
        if x.copy.length ≤ off then (s.onReplica mine fun _ => []).pumpReplicas 4
        else (s.onReplica mine fun y => [{ y with off := off }]).sendTo f.src 0x30 (replicaBody x.copy off))

/-! ## Clone transfers (R437, R482, R483) -/

/-- The clone step under way on this device: the ceremony, the step and its command. -/
def State.cloneStep (s : State) : Option (Ceremony × CerStep × CerRun) :=
  match s.blk.clone with
  | none => none
  | some c => s.stepNow (if c.source then 0x09 else 0x0A)

/-- Clear a transfer with its secrets. -/
def State.dropClone (s : State) : State :=
  { s with blk := { s.blk with clone := none },
           ent := { s.ent with stalled := s.ent.stalled.filter (· ≠ Consumer.link 32) } }

/-- The step fails and nothing is stored (R483). -/
def State.failClone (s : State) (reason : Nat) : State :=
  match s.cloneStep with
  | some (c, _, x) => s.dropClone.failStep c x reason
  | none => s.dropClone

/-- The step completes, with its record (R482). -/
def State.finishClone (s : State) (c : CloneRun) : State :=
  match s.cloneStep with
  | some (z, st, x) => (s.dropClone.offer 0x100A c.peer c.tenant (flag (!c.source))).finishStep z st x 0
  | none => s

/-- Replace the transfer. -/
def State.setClone (s : State) (c : CloneRun) : State := { s with blk := { s.blk with clone := some c } }

/-- Send a stage of the exchange to the peer: its number, then its content. -/
def State.cloneSend (s : State) (c : CloneRun) (stage : Nat) (b : Bytes) : State := s.sendTo c.peer 0x40 (leBytes 1 stage ++ b)

/-- Form and send this device's HELLO of the exchange; it waits for randomness as a link does. -/
def State.cloneHello (s : State) (c : CloneRun) (k : CloneRun → State → State) : State :=
  match c.hs with
  | some _ => k c s
  | none =>
    s.drawFor (.link 32) 2 fun b t =>
      let h := t.ownHello b
      let d := { c with hs := some (Handshake.begin h) }
      k d ((t.setClone d).cloneSend d 1 (helloBody h))

/-- The transfer a step asks for (R437): ARG0 [15:0] the peer's address, [23:16] the tenant; ARG1 the peer's identity. -/
def cloneOf (st : CerStep) (source : Bool) : CloneRun :=
  { source := source, peer := bits st.arg0 0 16, tenant := bits st.arg0 16 8, peerId := st.arg1, hs := none, kclone := none,
    check := [] }

/-- The root a clone step names exists (R437). -/
def State.cloneable (s : State) (t : Nat) : Bool := if t = 0 then s.bkd.l0.isSome && s.bkd.l0CheckOk else s.hasRoot t

/-- The root of a clone step: L0, or a tenant's. -/
def State.cloneRoot (s : State) (t : Nat) : Bytes := if t = 0 then s.bkd.l0.getD [] else s.tenantRoot t

/-- CLONE_SEND (R437, R482): the step starts the exchange; a repeated arrival goes on where it waited. -/
def execCloneSend (s : State) : Host.Outcome State Fault Refusal :=
  .next (
    match s.stepNow 0x09 with
    | none => s
    | some (c, st, x) =>
      match s.blk.clone with
      | some d => if d.hs.isNone then s.cloneHello d fun _ t => t else s
      | none =>
        let d := cloneOf st true
        if s.cloneable d.tenant = false ∨ (s.linkTo d.peer).isNone then s.failStep c x 0xA7
        else (s.setClone d).cloneHello d fun _ t => t)

/-- CLONE_RECEIVE (R437, R482): the step waits for the source until its ceremony closes. -/
def execCloneReceive (s : State) : Host.Outcome State Fault Refusal :=
  .next (
    match s.stepNow 0x0A with
    | none => s
    | some (c, st, x) =>
      if s.blk.clone.isSome then s
      else
        let d := cloneOf st false
        let ok := if d.tenant = 0 then s.bkd.l0.isNone
          else decide ((s.tenant d.tenant).state = .absent) && (SMap.get none s.bkd.cloned d.tenant).isNone
        if ok then s.setClone d else s.failStep c x 0xA7)

/-- CLONE_WAIT_TIMEOUT (R482): the target of a source is not waiting within 10 s. -/
def execCloneWaitTimeout (s : State) : Host.Outcome State Fault Refusal :=
  .next (
    match s.blk.clone with
    | some c => if c.source ∧ ((c.hs.map (·.peer)).getD none).isNone then s.failClone 0xA7 else s
    | none => s)

/-- The first 8 bytes of the SHA-256 of a string. -/
def hash8 (b : Bytes) : Bytes := (beBytes 32 (Crypto.sha256 b).toNat).take 8

/-- The peer's HELLO of a clone exchange: its identity must begin with the bytes in ARG1 (reason 0xBA); the reason of another
failure is not stated (free, assumption log 3). -/
def State.cloneHeardHello (s : State) (c : CloneRun) (h : Hello) : State :=
  if leNat ((bytes128 h.ident).take 8) ≠ c.peerId then s.failClone 0xBA
  else if s.helloReason h ≠ 0 then (s.skip 1).failClone (s.freeNat 8)
  else
    s.cloneHello c fun d t =>
      match d.hs with
      | some x =>
        if x.peer.isSome then t
        else
          t.drawFor (.link 32) 6 fun b u =>
            let y := x.auth1 h b
            let e := { d with hs := some y }
            (u.setClone e).cloneSend e 2 y.sent
      | none => t

/-- The peer's AUTH1 of a clone exchange. -/
def State.cloneHeardAuth1 (s : State) (c : CloneRun) (x : Handshake) (body : Bytes) : State :=
  if x.sent = [] ∨ x.got ≠ [] then s
  else if Crypto.pointOk 0x11 (body.take 97) = false ∨ body.length ≠ 1185 then (s.skip 1).failClone (s.freeNat 8)
  else
    s.drawFor (.link 32) 4 fun b t =>
      let y := x.heard (body.take 97) (body.drop 97)
      let d := { c with hs := some y }
      (t.setClone d).cloneSend d 3 (Crypto.ecdsaSign 0x11 Config.identityKey y.digest b)

/-- K_clone of an exchange (R482): the key of the direction from the source to the target. -/
def cloneKey (c : CloneRun) (x : Handshake) : Bytes :=
  let lower := ownLower ((x.peer.map (·.ident)).getD 0)
  x.dirKey cloneLabel (if c.source then lower else !lower)

/-- The peer's AUTH2 of a clone exchange: K_clone is derived, and the source sends the wrapped root. -/
def State.cloneHeardAuth2 (s : State) (c : CloneRun) (x : Handshake) (sig : Bytes) : State :=
  if x.got = [] ∨ x.auth2Ok then s
  else if x.verified sig = false then (s.skip 1).failClone (s.freeNat 8)
  else
    let k := cloneKey c x
    let root := s.cloneRoot c.tenant
    let d := { c with hs := some { x with auth2Ok := true }, kclone := some k, check := hash8 root }
    if c.source then
      let clear := root ++ hash8 (bytes128 Config.deviceIdentity) ++ leBytes 4 (SMap.get 0 s.bkd.epochs c.tenant)
      (s.setClone d).cloneSend d 4 (Crypto.kwpWrap k clear)
    else s.setClone { d with check := [] }

/-- Store a cloned root (R207). -/
def State.storeClone (s : State) (tenant : Nat) (b : Bytes) : State :=
  if tenant = 0 then { s with bkd := { s.bkd with l0 := some (b.take 32), l0CheckOk := true } }
  else
    let x : ClonedRoot := { key := b.take 32, source := slice b 32 8, epoch := leAt b 40 4, checkOk := true }
    { s with bkd := { s.bkd with cloned := SMap.set none s.bkd.cloned tenant (some x) } }

/-- The wrapped root at the target: stored, its check returned, the step complete. -/
def State.cloneHeardRoot (s : State) (c : CloneRun) (body : Bytes) : State :=
  match c.kclone with
  | none => s
  | some k =>
    match Crypto.kwpUnwrap k body with
    | none => (s.skip 1).failClone (s.freeNat 8)
    | some b => ((s.storeClone c.tenant b).cloneSend c 5 (hash8 (b.take 32))).finishClone c

/-- CLONE (R482, R483): a frame of the exchange with the peer that the step names. Stages: 1 HELLO, 2 AUTH1, 3 AUTH2, 4 the
wrapped root, 5 its check value. -/
def execClone (n : Nat) (f : Frame) (stage : Nat) (body : Bytes) (s : State) : Host.Outcome State Fault Refusal :=
  .next (s.receiveRouted n f 0x40 fun s =>
    match s.blk.clone with
    | none => s
    | some c =>
      if f.src ≠ c.peer ∨ s.cloneStep.isNone then s
      else if stage = 1 then s.cloneHeardHello c (helloOf body)
      else if stage = 4 then (if c.source then s else s.cloneHeardRoot c body)
      else if stage = 5 then
        (if c.source = false ∨ c.kclone.isNone then s
         else if body = c.check then s.finishClone c
         else (s.skip 1).failClone (s.freeNat 8))
      else
        match c.hs with
        | none => s
        | some x =>
          if stage = 2 then s.cloneHeardAuth1 c x body
          else if stage = 3 then s.cloneHeardAuth2 c x body
          else s)

end Sys2Proof.Machine
end

