-- ==== Sys2Proof/Machine/Cycle.lean ====
section
/-! DEFINITION. The supervisor cycle: the tick, the credits, the walk over the tenants, and the load that spills in and out
(R103, R104, R106–R108, R125, R356, R366, R367, R476, R479, R480). -/

namespace Sys2Proof.Machine

/-! ## Entries that the mode turns away (R46, R49, R103) -/

/-- Every waiting entry of the rings and of the mailboxes. -/
def State.allWaiting (s : State) : List Req :=
  s.host.qps.flatMap (fun x => x.2.ring.filterMap fun e => match e with
    | .waiting r _ => some r
    | .answered => none) ++ s.zyn.submitted

/-- A waiting entry is answered LOCKED or SERVICE_UNAVAILABLE by the mode, where its completion has a slot. -/
def State.turnAway (s : State) (r : Req) : State :=
  let answer (k : Nat) : State :=
    let t := (s.consume r).refuse r k 0 0
    { t with zyn := { t.zyn with submitted := t.zyn.submitted.filter (· ≠ r) } }
  if s.srcOpen r = false then s
  else if s.sys.mode = .drain then answer 0x0501
  else if s.sys.mode = .locked ∧ servedLocked r = false then answer 0x0701
  else s

/-! ## Credits (R106, R110) -/

/-- A tenant's share of the cycle; how a quotient that is not whole is rounded is not stated (free, assumption log 3). -/
def State.shareOf (s : State) (t wsum : Nat) : Nat :=
  let a := s.capacity * (s.tenant t).weight
  if wsum = 0 then 0
  else if a % wsum = 0 then a / wsum
  else a / wsum + flag (Config.freshBool (s.fresh + t))

/-- Credit one tenant, or bring the balance of one without waiting work to at most 0. -/
def State.credit (s : State) (wsum t : Nat) : State :=
  let x := s.tenant t
  if s.hasWaiting t then
    let c := s.shareOf t wsum
    let u := s.setTenant t { x with bal := x.bal + c }
    { u with host := { u.host with shares := SMap.set 0 u.host.shares t c } }
  else s.setTenant t { x with bal := min x.bal 0 }

/-- Credit every tenant at the start of the cycle. -/
def State.creditAll (s : State) : State :=
  let ids := s.host.tenants.map (·.1)
  let wsum := ((ids.filter s.hasWaiting).map fun t => (s.tenant t).weight).sum
  let u := ids.foldl (fun u t => u.credit wsum t) { s with host := { s.host with shares := [], wsum := wsum } }
  u.skip 256

/-! ## The walk (R106, R357) -/

/-- What the walk has used: the entries of the cycle's delta, one for each queue pair it admits from, and units. -/
structure Budget where
  entries : List (Nat × Nat)
  spent : Nat
  deriving DecidableEq, Repr

/-- A lane fits into the delta: it is there already, or one of the 60 entries is free (R357). -/
def Budget.fits (b : Budget) (t k : Nat) : Bool := b.entries.contains (t, k) || decide (b.entries.length < 60)

/-- The budget after an admission. -/
def Budget.take (b : Budget) (t k cost : Nat) : Budget :=
  { entries := if b.entries.contains (t, k) then b.entries else b.entries ++ [(t, k)], spent := b.spent + cost }

/-- Admit a tenant's oldest commands one at a time while its balance is above 0 (R106). -/
def admitTenant : Nat → Nat → State × Budget → State × Budget
  | 0, _, p => p
  | fuel + 1, t, (s, b) =>
    if (s.tenant t).bal ≤ 0 ∨ s.cycleOpen = false then (s, b)
    else
      match s.nextOf t with
      | none => (s, b)
      | some (k, r) =>
        if b.fits t k = false then (s, b)
        else
          match s.admissionRej r with
          | some x => admitTenant fuel t ((s.turnDown r x).passTurn t k, b)
          | none =>
            let cost := s.nominal r.desc
            admitTenant fuel t ((s.admitCmd r).passTurn t k, b.take t k cost)

/-- The tenants with waiting work in the order of this cycle's walk. -/
def State.walkOrder (s : State) : List Nat :=
  let ids := (s.host.tenants.map (·.1)).filter s.hasWaiting
  ids.filter (fun t => s.host.walk ≤ t) ++ ids.filter fun t => t < s.host.walk

/-- The walk of a cycle: one tenant further round than the last. -/
def State.walkTenants (s : State) : State × Budget :=
  let order := s.walkOrder
  let t := { s with host := { s.host with walk := (order.head?.getD 0 + 1) % 256, inCycle := 0 } }
  order.foldl (fun p k => admitTenant 66560 k p) (t, { entries := [], spent := 0 })

/-! ## Spill (R479, R480) -/

/-- A command may be spilled (R479). -/
def State.spillable (s : State) (part : Nat) (r : Req) : Bool :=
  let d := r.desc
  let ordinary := match r.src with
    | .host t q _ => (s.queueRec t q).prio == 0
    | _ => false
  let keyed := (Req.handles r).any fun h => match s.node (hNode h) with
    | some n => decide (n.limit ≠ 0) || n.tracked || n.classN
    | none => false
  let units := s.unitsNeeded d
  ordinary && (d.cls == 1 || d.cls == 4) && !d.ctxv && decide (d.inLen ≤ 65536) && decide (d.outLen ≤ 65536)
    && s.clonedRoot r.tenant && !keyed && !(units.contains 2 && (part == 2 || part == 4))

/-- The link to spill on: the lowest UP link whose neighbour carries the same REPLICA group; a neighbour that does not spill
sends SPARE 0. -/
def State.spillLink (s : State) : Option Nat :=
  let p := s.img.force.bilkin
  if p.spillAllowed = false ∨ p.replica = 0xFF then none
  else s.upLinks.find? fun n =>
    let l := s.link n
    decide (0 < l.spare) && l.peerAddr.isSome && s.blk.lsdb.any fun x => some x.ident == l.peerId && x.replica == p.replica

/-- Spill one command over a link: admitted, charged to no credit, and sent as SPILL_REQ. -/
def State.spillOne (s : State) (n : Nat) (r : Req) : State :=
  let id := s.blk.nextId
  let tgt := ((s.link n).peerAddr).getD 0xFFFF
  let t := (s.admitFor r 0).sendFrame n 0x22 tgt (s.forwardPayload id r)
  { t with blk := { t.blk with spillOuts := t.blk.spillOuts ++ [{ id := id, owner := tgt, req := r }], nextId := id + 1,
                               spillOutN := satAdd 16 t.blk.spillOutN 1 } }

/-- Spill a tenant's oldest commands while units of the neighbour remain. -/
def spillTenant : Nat → Nat → Nat → State × Nat → State × Nat
  | 0, _, _, p => p
  | fuel + 1, n, t, (s, units) =>
    match s.nextOf t with
    | none => (s, units)
    | some (k, r) =>
      let cost := s.nominal r.desc
      if units < cost ∨ s.cycleOpen = false ∨ s.spillable (s.link n).peerPart r = false ∨ (s.admissionRej r).isSome then (s, units)
      else spillTenant fuel n t ((s.spillOne n r).passTurn t k, units - cost)

/-- Spill out at most half of the neighbour's SPARE (R479). -/
def State.spillOut (s : State) (order : List Nat) : State :=
  match s.spillLink with
  | none => s
  | some n => (order.foldl (fun p t => spillTenant 1024 n t p) (s, (s.link n).spare / 2)).1

/-- Admit spilled commands with the units the cycle has left unspent (R480). -/
def State.spillIn (s : State) (unspent : Nat) : State :=
  ((s.unadmitted s.blk.spillIns).foldl (fun (p : State × Nat) f =>
    let cost := p.1.nominal f.req.desc
    if p.2 < cost ∨ p.1.cycleOpen = false then p
    else
      match p.1.admissionRej f.req with
      | some x => (p.1.refuseUntaken f.req x, p.2)
      | none => (p.1.admitFor f.req 0, p.2 - cost)) (s, unspent)).1

/-! ## The tick (R355, R356, R366, R367) -/

/-- What the gate does at a tick before the cycle's decisions: the next commit sequence number, the return from having no
supervisor in control, and A's reclaim. -/
def State.tickControl (s : State) : State :=
  let t := { s with supv := { s.supv with cycle := s.supv.cycle + 1 } }
  if t.supv.noSup then
    if t.supv.stA = .shadowing then t.takeControl false 4 0
    else if t.supv.stB = .shadowing then t.takeControl true 4 0
    else t
  else if t.supv.mayReclaim then t.reclaim
  else t

/-- The decisions of a cycle (R106): credits, the walk, spill. -/
def State.cycleAdmissions (s : State) : State :=
  let s1 := s.creditAll
  let order := s1.walkOrder
  match s1.walkTenants with
  | (s2, b) => (s2.spillOut order).spillIn (s2.capacity - b.spent)

/-- SUPERVISOR_CYCLE (R106, R113–R117, R355, R356): tenants' lives that began go on; units whose
work has gone take their next (R140, R235); in BOOT and LOAD nothing is admitted; LOCKED
and DRAIN turn entries away, and LOCKED admits what it serves; with no supervisor in control no entry is consumed (R367). -/
def execSupervisorCycle (s : State) : Host.Outcome State Fault Refusal :=
  .next (
    if s.onMain = false then s
    else
      let t := s.tickControl
      if t.supv.noSup then t
      else
        let t1 := t.endLives
        let u := (t1.allWaiting.foldl (fun u r => u.turnAway r) t1).settleUnits
        if u.serving ∨ u.sys.mode = .locked then u.cycleAdmissions
        else if u.sys.mode = .drain then u.creditAll
        else u)

end Sys2Proof.Machine
end

