-- ==== Sys2Proof/Machine/DamaskCmds.lean ====
section
/-! DEFINITION. Damask's commands: nodes, leaves, public keys, counters and contexts (R203–R206), and the writes of DMK_LOCK
and DMK_FLUSH (R210). -/

namespace Sys2Proof.Machine

/-! ## Nodes (R174, R175, R178, R203) -/

/-- A node of a tenant, whatever its kind. -/
def State.tenantNode (s : State) (t n : Nat) : Option Node :=
  match s.node n with
  | some x => if x.tenant = t ∧ 2 ≤ n then some x else none
  | none => none

/-- Replace a node of the table. -/
def State.setNode (s : State) (n : Nat) (x : Option Node) : State :=
  { s with dmk := { s.dmk with nodes := SMap.set none s.dmk.nodes n x } }

/-- The nodes of the table. -/
def State.nodeList (s : State) : List Node := s.dmk.nodes.filterMap (·.2)

/-- Nodes of a tenant (R174). -/
def State.nodesOf (s : State) (t : Nat) : Nat := (s.nodeList.filter fun n => n.tenant == t).length

/-- The lowest free number above the image's records (R174). -/
def State.freeNode (s : State) : Option Nat :=
  ((List.range (65534 - s.img.force.nodes.length)).map (· + 2 + s.img.force.nodes.length)).find? fun n => (s.node n).isNone

/-- A record with what Damask adds to it at creation: run time, the reset epoch, and this device's address for OWNER 0xFFFF
(R174, R179, R474). -/
def State.newNode (s : State) (t : Nat) (x : Node) : Node :=
  { x with
    runtime := true, epochPwr := s.bkd.pwrcyc, epochRst := (s.tenant t).resets
    owner := if x.owner = 0xFFFF then s.blk.addr.getD 0xFFFF else x.owner }

/-- NODE_CREATE's body. -/
def State.nodeCreate (s : State) (r : Req) : State :=
  let b := r.bytes
  let x := nodeAt b 0
  if x.tenant ≠ r.tenant ∨ leAt b 22 2 ≠ 0 ∨ x.ok true (s.tenantNode r.tenant x.parent) s.nodeList = false then
    s.refuseRange r 0x58
  else
    match (if (s.tenant r.tenant).nodes ≤ s.nodesOf r.tenant then none else s.freeNode) with
    | none => s.refuseRange r 0x59
    | some n =>
      let t := s.setNode n (some (s.newNode r.tenant x))
      { t with dmk := { t.dmk with created := t.dmk.created + 1 } }.answer r n []

/-- NODE_CREATE (R203). -/
def execNodeCreate (r : Req) (s : State) : Host.Outcome State Fault Refusal :=
  .next (s.hostCommand r 0x0201 fun s => s.nodeCreate r)

/-- NODE_DELETE's body: an image node, or one with children or stored leaves, stays. -/
def State.nodeDelete (s : State) (r : Req) : State :=
  let n := r.desc.par 0 2
  match s.tenantNode r.tenant n with
  | none => s.refuseRange r 0x52
  | some x =>
    if x.runtime = false ∨ s.nodeList.any (fun y => y.tenant == x.tenant && y.parent == n) ∨ s.leavesOf n ≠ 0 then
      s.refuseRange r 0x5A
    else ((s.setNode n none).dropCached fun g => g.tenant == x.tenant && g.node == n).answer r 0 []

/-- NODE_DELETE (R188, R203). -/
def execNodeDelete (r : Req) (s : State) : Host.Outcome State Fault Refusal :=
  .next (s.hostCommand r 0x0202 fun s => s.nodeDelete r)

/-- Key-state entries in use by a node. -/
def State.entriesOf (s : State) (t n : Nat) : Nat :=
  (s.dmk.ks.filter fun e => decide (e.2.handle ≠ ksReleased) && hTenant e.2.handle == t && hNode e.2.handle == n).length

/-- NODE_QUERY's 48 bytes (R203). -/
def State.nodeInfo (s : State) (n : Nat) (x : Node) : Bytes :=
  x.bytes ++ leBytes 1 (flag x.runtime) ++ leBytes 3 (s.leavesOf n) ++ leBytes 2 (s.entriesOf x.tenant n) ++ zeros 2
    ++ leBytes 4 x.epochPwr ++ leBytes 4 x.epochRst

/-- NODE_QUERY (R203). -/
def execNodeQuery (r : Req) (s : State) : Host.Outcome State Fault Refusal :=
  .next (s.hostCommand r 0x0203 fun s =>
    match s.tenantNode r.tenant (r.desc.par 0 2) with
    | none => s.refuseRange r 0x52
    | some x => s.answer r 0 (s.nodeInfo (r.desc.par 0 2) x))

/-! ## Leaves (R193–R195, R203) -/

/-- The unit that makes a public key is there for a tenant (R4, R5, R53, R63). -/
def State.pubUnitRej (s : State) (t alg : Nat) : Option Rej :=
  let u := pubUnit alg
  if s.poolInsts t u = [] then some ⟨0x0103, u.code, 0⟩
  else if (s.poolInsts t u).all (fun n => !s.inPool u n) then some ⟨0x0501, 0, 0⟩
  else none

/-- KEY_GENERATE on its node, its checks passed: a new leaf, and its public half or the search that makes it. -/
def State.makeLeaf (s : State) (r : Req) (n : Node) : State :=
  let h := r.desc.key1
  if isRsa n.alg then s.offerRaw .srg r 0x0F
  else
    match s.draw (keyWords n.alg) with
    | none => s.stallFor (.command r)
    | some (b, t) =>
      let u := t.storeLeaf r.tenant h n (freshKey n.alg b) (n.exportBits.getLsbD 0)
      if n.exportBits.getLsbD 2 then u.offerRaw (pubUnit n.alg) r (if pubUnit n.alg = .tul then 7 else 0x0E)
      else u.answer r h.toNat []

/-- KEY_GENERATE's body (R203): checks 2, 11 and 15 of R165, the unit it needs, and room for its output. A command already
on a unit is looked at again. -/
def State.keyGenerate (s : State) (r : Req) : State :=
  let h := r.desc.key1
  if s.heldByUnit (.raw r) then
    match s.keyNode r.tenant (hNode h) with
    | some n => (s.unstall (.raw r)).pumpFor (pubUnit n.alg) r.tenant
    | none => s
  else
    match s.leafNode r h with
    | .error e => s.reject r e
    | .ok n =>
      let out := if n.exportBits.getLsbD 2 then pubLen n.alg else 0
      match s.leafRoom r.tenant (hLabel h) (keyBytes n.alg) with
      | some e => s.reject r e
      | none =>
        match (if isRsa n.alg ∨ n.exportBits.getLsbD 2 ∨ isMldsa n.alg ∨ isMlkem n.alg then s.pubUnitRej r.tenant n.alg
            else none) with
        | some e => s.reject r e
        | none => if r.desc.outLen < out then s.complete r 0x0301 0 0x25 0 out [] else s.makeLeaf r n

/-- KEY_GENERATE (R203, R267). -/
def execKeyGenerate (r : Req) (s : State) : Host.Outcome State Fault Refusal :=
  .next (s.hostCommand r 0x0204 fun s => s.keyGenerate r)

/-- LEAF_DELETE's body: the leaf resolves, and its contexts are wiped (R203, R209). -/
def State.leafDelete (s : State) (r : Req) : State :=
  match s.resolve r.tenant (s.actingColour r) r.desc.key1 with
  | .error e => s.reject r e
  | .ok (t, k, n) =>
    if n.kind ≠ 2 then t.refuseRange r 0x54
    else
      match t.keyChecks k n none true true 1 with
      | some e => t.reject r e
      | none => (t.wipeLeaf (hLabel r.desc.key1)).answer r 0 []

/-- LEAF_DELETE (R203). -/
def execLeafDelete (r : Req) (s : State) : Host.Outcome State Fault Refusal :=
  .next (s.hostCommand r 0x0205 fun s => s.leafDelete r)

/-- LEAF_RETIRE (R195, R203): the node's generation advances, and its entries leave KEYC. -/
def execLeafRetire (r : Req) (s : State) : Host.Outcome State Fault Refusal :=
  .next (s.hostCommand r 0x0206 fun s =>
    let n := r.desc.par 0 2
    match s.tenantNode r.tenant n with
    | none => s.refuseRange r 0x52
    | some x =>
      let g := s.leafGen x
      if x.gslot = 0 ∨ g = 2 ^ 32 - 1 then s.refuseRange r 0x5A
      else
        let t := { s with dmk := { s.dmk with gens := SMap.set 0 s.dmk.gens x.gslot (g + 1) } }
        (t.dropCached fun y => y.tenant == x.tenant && y.node == n).answer r (g + 1) [])

/-- PUBKEY_READ's body (R203): the checks of R182, the export policy, the unit, and the work on it. -/
def State.pubkeyRead (s : State) (r : Req) : State :=
  match s.resolve r.tenant (s.actingColour r) r.desc.key0 with
  | .error e => s.reject r e
  | .ok (t, _, n) =>
    if s.heldByUnit (.raw r) then (s.unstall (.raw r)).pumpFor (pubUnit n.alg) r.tenant
    else if n.exportBits.getLsbD 2 = false then t.refuse r 0x0201 0 0x5F
    else
      match t.pubUnitRej r.tenant n.alg with
      | some e => t.reject r e
      | none => s.offerRaw (pubUnit n.alg) r (if pubUnit n.alg = .tul then 7 else 0x0E)

/-- PUBKEY_READ (R203, R267, R275). -/
def execPubkeyRead (r : Req) (s : State) : Host.Outcome State Fault Refusal :=
  .next (s.hostCommand r 0x0207 fun s => s.pubkeyRead r)

/-- COUNTER_QUERY's body: R182 alone; a key counted elsewhere is asked for there (R200, R474). -/
def State.counterQuery (s : State) (r : Req) : State :=
  match s.resolve r.tenant (s.actingColour r) r.desc.key0 with
  | .error e => s.reject r e
  | .ok (t, _, n) =>
    if n.limit ≠ 0 ∧ s.ownNode n = false then t.forward r n.owner
    else
      let u := t.usedOf r.desc.key0
      t.answer r u.1 (leBytes 4 u.1 ++ leBytes 4 u.2 ++ leBytes 4 n.limit ++ leBytes 4 n.owner)

/-- COUNTER_QUERY (R203). -/
def execCounterQuery (r : Req) (s : State) : Host.Outcome State Fault Refusal :=
  .next (s.hostCommand r 0x0208 fun s => s.counterQuery r)

/-! ## Contexts (R189–R192, R203–R206) -/

/-- The contexts a command names, their number already within its limits (`formatReason`): refused without CTXV or where the tenant
does not hold one of them. -/
def State.ctxRange (s : State) (r : Req) (n : Nat) : Option Rej :=
  if r.desc.ctxv ∧ (List.range n).all (fun k => s.holds r.tenant (r.desc.ctxNo + k)) then none
  else some ⟨0x0801, 0, 0x27⟩

/-- CTX_INIT's body (R203). -/
def State.ctxInit (s : State) (r : Req) : State :=
  let c := r.desc.ctxNo
  let ty := r.desc.par 0 1
  match s.ctxRange r 1 with
  | some e => s.reject r e
  | none =>
    if (ty ≠ 4 ∧ ty ≠ 5) ∨ s.ctx c ≠ Ctx.free then s.refuseRange r 0x5B
    else
      let b := (r.bytes ++ zeros 56).take 56
      (s.setCtx c { frozen := false, tenant := r.tenant, body := if ty = 4 then .dukpt (zeros 56) else .session b }).answer r 0 []

/-- CTX_INIT (R203). -/
def execCtxInit (r : Req) (s : State) : Host.Outcome State Fault Refusal :=
  .next (s.hostCommand r 0x0301 fun s => s.ctxInit r)

/-- A context of a range that CTX_CLEAR may not clear: a KSTATE context, or a LEAF_CONT whose head lies outside. -/
def State.unclearable (s : State) (base n c : Nat) : Bool :=
  match (s.ctx c).body with
  | .kstate .. => true
  | .cont h _ => !(decide (base ≤ h) && decide (h < base + n))
  | _ => false

/-- Clear a context; a leaf's head takes its continuations with it (R203). -/
def State.clearCtx (s : State) (c : Nat) : State := (s.wipeLeaf c).setCtx c Ctx.free

/-- CTX_CLEAR's body. -/
def State.ctxClear (s : State) (r : Req) : State :=
  let c := r.desc.ctxNo
  let n := r.desc.par 0 2
  match s.ctxRange r n with
  | some e => s.reject r e
  | none =>
    let cs := (List.range n).map (c + ·)
    if cs.any fun k => s.unclearable c n k then s.refuseRange r 0x5B
    else (cs.foldl State.clearCtx s).answer r 0 []

/-- CTX_CLEAR (R203). -/
def execCtxClear (r : Req) (s : State) : Host.Outcome State Fault Refusal :=
  .next (s.hostCommand r 0x0302 fun s => s.ctxClear r)

/-- The node of the leaf a context belongs to. -/
def State.leafOwner (s : State) (c : Nat) : Option Nat :=
  match (s.ctx c).body with
  | .leaf h _ _ => some (hNode h)
  | .cont h _ => (match (s.ctx h).body with
      | .leaf h' _ _ => some (hNode h')
      | _ => none)
  | _ => none

/-- A leaf whose node does not permit CTXEXPORT (R203). -/
def State.unexportable (s : State) (c : Nat) : Bool :=
  match (s.ctx c).body with
  | .leaf .. | .cont .. =>
    (match (s.leafOwner c).bind s.node with
      | some n => !n.exportBits.getLsbD 3
      | none => true)
  | _ => false

/-- The first eight bytes of an export record. -/
def recordHead (ty t c : Nat) : Bytes := leBytes 2 0x4358 ++ leBytes 1 ty ++ leBytes 1 t ++ leBytes 4 c

/-- An export record (R204): of FREE and KSTATE contexts the TYPE alone. -/
def State.exportRecord (s : State) (t c : Nat) : Bytes :=
  let x := s.ctx c
  if x.ty ≤ 1 then (leBytes 2 0x4358 ++ leBytes 1 x.ty ++ zeros 96).take 96
  else
    let head := recordHead x.ty t c
    let plain := head ++ leBytes 4 s.dmk.nonceEpoch ++ leBytes 4 (SMap.get 0 s.bkd.epochs t) ++ x.bytes
    head ++ (Crypto.kwpWrap (s.ctxKey t) plain ++ zeros 88).take 88

/-- Freeze an exported context of type DUKPT_RX, SESSION or CAL_CHAIN (R205). -/
def State.freezeCtx (s : State) (c : Nat) : State :=
  if 4 ≤ (s.ctx c).ty then s.setCtx c { s.ctx c with frozen := true } else s

/-- The tenant's wrapping key can be derived. -/
def State.keysServed (s : State) (t : Nat) : Bool := s.hasRoot t && !s.dmk.locked && !s.dmk.wiping

/-- CTX_EXPORT's body. -/
def State.ctxExport (s : State) (r : Req) : State :=
  let n := r.desc.par 0 2
  match s.ctxRange r n with
  | some e => s.reject r e
  | none =>
    let cs := (List.range n).map (r.desc.ctxNo + ·)
    if s.keysServed r.tenant = false then s.refuse r 0x0701 0 0
    else if cs.any s.unexportable then s.refuse r 0x0201 0 0x5F
    else if r.desc.outLen < 96 * n then s.complete r 0x0301 0 0x25 0 (96 * n) []
    else
      let out := cs.flatMap fun c => (s.freezeCtx c).exportRecord r.tenant c
      (cs.foldl State.freezeCtx (s.derived r.tenant 1)).answer r 0 out

/-- CTX_EXPORT (R203–R205). -/
def execCtxExport (r : Req) (s : State) : Host.Outcome State Fault Refusal :=
  .next (s.hostCommand r 0x0303 fun s => s.ctxExport r)

/-- The wrapped leaf that a head record and the LEAF_CONT records of the same import make up. -/
def State.importedLeaf (s : State) (r : Req) (c w : Nat) (head : Bytes) : Bytes :=
  let b := r.bytes
  let recs := (List.range (b.length / 96)).map fun k => slice b (96 * k) 96
  let part (k : Nat) : Bytes :=
    match recs.find? fun x => leAt x 2 1 == 3 && leAt x 4 4 == c + 1 + k with
    | some x => (match Crypto.kwpUnwrap (s.ctxKey r.tenant) (x.drop 8) with
        | some p => slice p 24 56
        | none => zeros 56)
    | none => zeros 56
  (head ++ (List.range (leafCount w - 1)).flatMap part).take w

/-- The leaf is of its node's current generation (R206 check 7). -/
def State.leafCurrent (s : State) (r : Req) (c : Nat) (h : W64) (w : Nat) (head : Bytes) : Bool :=
  match s.keyNode r.tenant (hNode h) with
  | none => false
  | some n =>
    match Crypto.kwpUnwrap (n.leafKey (s.parentKey r.tenant n.parent).1 c (s.leafGen n)) (s.importedLeaf r c w head) with
    | some p => decide (leAt p 4 4 = s.leafGen n)
    | none => false

/-- The target contexts are FREE (R206 check 5). -/
def State.targetFree (s : State) (t c : Nat) (x : Ctx) : Bool :=
  match x.body with
  | .leaf _ w _ => (List.range (leafCount w)).all fun k => s.holds t (c + k) && decide (s.ctx (c + k) = Ctx.free)
  | _ => decide (s.ctx c = Ctx.free)

/-- Checks 2 to 7 of one record: `none` for a record that is skipped, else the context to write (R206). -/
def State.importRecord (s : State) (r : Req) (b : Bytes) : Except Rej (Option (Nat × Ctx)) :=
  let t := r.tenant
  let c := leAt b 4 4
  if leAt b 0 2 ≠ 0x4358 then .error ⟨0x0301, 0, 0x5C⟩
  else if leAt b 2 1 ≤ 1 then .ok none
  else if leAt b 3 1 ≠ t then .error ⟨0x0301, 0, 0x5C⟩
  else if s.holds t c = false then .error ⟨0x0801, 0, 0x27⟩
  else
    match Crypto.kwpUnwrap (s.ctxKey t) (b.drop 8) with
    | none => .error ⟨0x0301, 0, 0x5C⟩
    | some p =>
      let x := { ctxAt (p.drop 16) with frozen := false }
      let ep := leAt p 8 4
      if p.take 8 ≠ b.take 8 then .error ⟨0x0301, 0, 0x5C⟩
      else if s.targetFree t c x = false then .error ⟨0x0301, 0, 0x5D⟩
      else if 4 ≤ x.ty ∧ (s.dmk.imported.contains c ∨ ¬ (ep = s.dmk.nonceEpoch ∨ ep + 1 = s.dmk.nonceEpoch)) then
        .error ⟨0x0301, 0, 0x5D⟩
      else
        match x.body with
        | .leaf h w head => if s.leafCurrent r c h w head then .ok (some (c, x)) else .error ⟨0x0301, 0, 0x55⟩
        | _ => .ok (some (c, x))

/-- KEYC after the keys that checking a record takes: the tenant's root for its wrapping key, the parent's of a leaf (R186). -/
def State.importKeys (s : State) (r : Req) (x : Option (Nat × Ctx)) : State :=
  let t := s.derived r.tenant 1
  match x with
  | some (_, ⟨_, _, .leaf h _ _⟩) =>
    (match t.keyNode r.tenant (hNode h) with
      | some n => t.derived r.tenant n.parent
      | none => t)
  | _ => t

/-- Import records in order until one fails: the state, how many were imported, and the failure. -/
def State.importAll (r : Req) : List Bytes → State → Nat → State × Nat × Option Rej
  | [], s, n => (s, n, none)
  | b :: rest, s, n =>
    match s.importRecord r b with
    | .error e => (s, n, some e)
    | .ok none => State.importAll r rest s n
    | .ok (some (c, x)) =>
      let t := (s.importKeys r (some (c, x))).setCtx c x
      State.importAll r rest { t with dmk := { t.dmk with imported := c :: t.dmk.imported } } (n + 1)

/-- CTX_IMPORT's body (R206). -/
def State.ctxImport (s : State) (r : Req) : State :=
  let b := r.bytes
  if b.length % 96 ≠ 0 then s.refuseRange r 0x23
  else if s.keysServed r.tenant = false then s.refuse r 0x0701 0 0
  else
    match State.importAll r ((List.range (b.length / 96)).map fun k => slice b (96 * k) 96) s 0 with
    | (t, n, none) => t.answer r n []
    | (t, n, some e) => t.complete r e.status e.detail e.reason n 0 []

/-- CTX_IMPORT (R206). -/
def execCtxImport (r : Req) (s : State) : Host.Outcome State Fault Refusal :=
  .next (s.hostCommand r 0x0304 fun s => s.ctxImport r)

/-- CTX_QUERY (R203): TYPE, FLAGS and two zero bytes of each context. -/
def execCtxQuery (r : Req) (s : State) : Host.Outcome State Fault Refusal :=
  .next (s.hostCommand r 0x0305 fun s =>
    match s.ctxRange r (r.desc.par 0 2) with
    | some e => s.reject r e
    | none => s.answer r 0 ((List.range (r.desc.par 0 2)).flatMap fun k =>
        let x := s.ctx (r.desc.ctxNo + k)
        leBytes 1 x.ty ++ leBytes 1 (flag x.frozen) ++ zeros 2))

/-! ## DMK_LOCK and DMK_FLUSH (R188, R210) -/

/-- DMK_LOCK: 1 locks Damask and wipes KEYC; 0 is ignored while the device is LOCKED, secure invasive debug is enabled,
or Damask is held to the next start (R442). -/
def execDmkLockWrite (who : Initiator) (lock : Bool) (s : State) : Host.Outcome State Fault Refusal :=
  if s.onMain = false then .next s
  else
    .next (s.byControl who fun s =>
      if lock then s.lockDamask
      else if s.sys.mode = .locked ∨ s.lcs.sinv ∨ s.lcs.dmkHold then s
      else { s with dmk := { s.dmk with locked := false } })

/-- DMK_FLUSH of one tenant. -/
def execDmkFlushTenant (who : Initiator) (t : Nat) (s : State) : Host.Outcome State Fault Refusal :=
  if s.onMain = false then .next s
  else .next (s.byControl who fun s => s.dropCached fun g => g.tenant == t)

/-- DMK_FLUSH.ALL. -/
def execDmkFlushAll (who : Initiator) (s : State) : Host.Outcome State Fault Refusal :=
  if s.onMain = false then .next s else .next (s.byControl who fun s => s.dropCached fun _ => true)

end Sys2Proof.Machine
end

