-- ==== Sys2Proof/Machine/Operands.lean ====
section
/-! DEFINITION. Zynkel operations: their opcodes, the operand forms of long operations and slots, what decode checks, and
what the operations that touch only the register bank compute (R317–R328, R344). -/

namespace Sys2Proof.Machine

/-- The operations of R344. -/
inductive ZKind where
  | nop | add | sub | and | or | xor | shl | shr | sar | addi | andi | shli | shri | sari | rotri | movi
  | cmpeq | cmpne | cmplt | cmpltu | cmpeqi | cmplti | cmpltui | pand | por | pxor | mul | mulh | mac | mgetl | mgeth | bswap
  | ld64 | ld32 | st64 | st32
  | shori | br | brl | jr | jrl | ld8 | ld16 | lds8 | lds16 | lds32 | st8 | st16 | crd | cwr
  | scall | sret | tret | msub | wfe | fence | brk
  deriving DecidableEq, Repr

/-- The short opcodes in order from 0x00 (R344). -/
def shortKinds : List ZKind :=
  [.nop, .add, .sub, .and, .or, .xor, .shl, .shr, .sar, .addi, .andi, .shli, .shri, .sari, .rotri, .movi,
   .cmpeq, .cmpne, .cmplt, .cmpltu, .cmpeqi, .cmplti, .cmpltui, .pand, .por, .pxor, .mul, .mulh, .mac, .mgetl, .mgeth, .bswap,
   .ld64, .ld32, .st64, .st32]

/-- The long-only opcodes (R344). -/
def longKinds : List (Nat × ZKind) :=
  [(0x001, .shori), (0x010, .br), (0x011, .brl), (0x012, .jr), (0x013, .jrl), (0x020, .ld8), (0x021, .ld16), (0x022, .ld32),
   (0x023, .ld64), (0x024, .lds8), (0x025, .lds16), (0x026, .lds32), (0x028, .st8), (0x029, .st16), (0x02A, .st32),
   (0x02B, .st64), (0x030, .crd), (0x031, .cwr), (0x040, .scall), (0x041, .sret), (0x042, .tret), (0x043, .msub), (0x044, .wfe),
   (0x045, .fence), (0x046, .brk)]

/-- The operation of a short opcode. -/
def shortKind (opc : Nat) : Option ZKind := shortKinds[opc]?

/-- The operation of a long opcode: a long-only one, or short opcode s at 0x100 + s for s up to 0x1F. -/
def longKind (opc : Nat) : Option ZKind :=
  if 0x100 ≤ opc ∧ opc < 0x120 then shortKind (opc - 0x100) else (longKinds.find? fun x => x.1 == opc).map (·.2)

/-- The short opcode of an operation; 0x3F, undefined, where it has none. -/
def ZKind.shortCode (k : ZKind) : Nat := (shortKinds.findIdx? (· == k)).getD 0x3F

/-- The long opcode of an operation. -/
def ZKind.longCode (k : ZKind) : Nat :=
  match longKinds.find? fun x => x.2 == k with
  | some x => x.1
  | none => 0x100 + k.shortCode

/-- An operation as decode delivers it: its fields with the immediate extended both ways, and, where it is a load or store,
its byte offset and the register of its data. -/
structure ZOp where
  kind : ZKind
  a : ZArgs
  /-- Sign- and zero-extended immediate. -/
  immS : W64
  immZ : W64
  /-- Stands in a slot of a paired word. -/
  slot : Bool
  deriving DecidableEq, Repr

/-- A load's size in bytes and whether it sign-extends. -/
def ZKind.load : ZKind → Option (Nat × Bool)
  | .ld8 => some (1, false)
  | .ld16 => some (2, false)
  | .ld32 => some (4, false)
  | .ld64 => some (8, false)
  | .lds8 => some (1, true)
  | .lds16 => some (2, true)
  | .lds32 => some (4, true)
  | _ => none

/-- A store's size in bytes. -/
def ZKind.store : ZKind → Option Nat
  | .st8 => some 1
  | .st16 => some 2
  | .st32 => some 4
  | .st64 => some 8
  | _ => none

/-- A load or store. -/
def ZKind.isMem (k : ZKind) : Bool := k.load.isSome || k.store.isSome

/-- MUL, MULH or MAC. -/
def ZKind.isMul : ZKind → Bool
  | .mul => true
  | .mulh => true
  | .mac => true
  | _ => false

/-- An operation that writes general register RD. -/
def ZKind.writesRd : ZKind → Bool
  | .add | .sub | .and | .or | .xor | .shl | .shr | .sar | .addi | .andi | .shli | .shri | .sari | .rotri | .movi
  | .mgetl | .mgeth | .bswap | .ld64 | .ld32 | .shori | .ld8 | .ld16 | .lds8 | .lds16 | .lds32 | .crd | .msub => true
  | _ => false

/-- A compare. -/
def ZKind.isCompare : ZKind → Bool
  | .cmpeq | .cmpne | .cmplt | .cmpltu | .cmpeqi | .cmplti | .cmpltui => true
  | _ => false

/-- A predicate operation. -/
def ZKind.isPred : ZKind → Bool
  | .pand | .por | .pxor => true
  | _ => false

/-- An operation whose opcode uses RS1 as a general register. -/
def ZKind.usesRs1 : ZKind → Bool
  | .add | .sub | .and | .or | .xor | .shl | .shr | .sar | .addi | .andi | .shli | .shri | .sari | .rotri
  | .cmpeq | .cmpne | .cmplt | .cmpltu | .cmpeqi | .cmplti | .cmpltui | .mul | .mulh | .mac | .bswap
  | .ld64 | .ld32 | .st64 | .st32 => true
  | _ => false

/-- An operation with a short form whose opcode uses RS2 as a general register. -/
def ZKind.usesRs2 : ZKind → Bool
  | .add | .sub | .and | .or | .xor | .shl | .shr | .sar | .cmpeq | .cmpne | .cmplt | .cmpltu | .mul | .mulh | .mac => true
  | _ => false

/-- An operation whose short form has an immediate. -/
def ZKind.hasImm : ZKind → Bool
  | .addi | .andi | .shli | .shri | .sari | .rotri | .movi | .cmpeqi | .cmplti | .cmpltui => true
  | _ => false

/-! ## Decode (R320, R324) -/

/-- Fields of an operation of the short table that are zero, apart from the immediate (R323, R326, R344). -/
def ZKind.shortZeros (k : ZKind) (a : ZArgs) : Bool :=
  match k with
  | .nop => a.rd == 0 && a.rs1 == 0 && a.rs2 == 0
  | .movi => a.rs1 == 0
  | .mul | .mulh | .mac => a.rd == 0
  | .mgetl | .mgeth => a.rs1 == 0 && a.rs2 == 0
  | .bswap => a.rs2 == 0
  | .pand | .por | .pxor => a.rd / 8 == 0 && a.rs1 / 16 == 0 && a.rs2 / 16 == 0
  | _ => true

/-- Fields of a long operation that are zero (R334, R335, R337, R343, R344). The unused register fields of long immediate
operations, loads and stores are not marked zero. -/
def ZKind.longZeros (k : ZKind) (a : ZArgs) : Bool :=
  let imm := a.imm.toNat
  match k with
  | .shori => a.rs2 == 0
  | .br | .brl => a.rd == 0 && a.rs1 == 0 && a.rs2 == 0
  | .jr | .jrl => a.rd == 0 && a.rs2 == 0 && imm == 0
  | .crd => a.rs1 == 0 && a.rs2 == 0
  | .cwr => a.rd == 0 && a.rs2 == 0
  | .scall => a.rd == 0 && a.rs1 == 0 && a.rs2 == 0 && imm < 0x10000
  | .sret => a.rd == 0 && a.rs1 == 0 && a.rs2 == 0 && imm < 2
  | .tret | .wfe | .fence | .brk => a.rd == 0 && a.rs1 == 0 && a.rs2 == 0 && imm == 0
  | .msub => imm == 0
  | .ld8 | .ld16 | .ld32 | .ld64 | .lds8 | .lds16 | .lds32 | .st8 | .st16 | .st32 | .st64 => true
  | _ => k.shortZeros a && (k.hasImm || imm == 0)

/-- A control register that is the secure world's of workers alone (R343). -/
def isSecureReg (r : Nat) : Bool := decide (0x010 ≤ r) && decide (r ≤ 0x013)

/-- A control register's number is in the maps of R343 and may be named here. -/
def controlReg (supv : Bool) (w : World) (r : Nat) : Bool :=
  decide (r ≤ 0x009) || (isSecureReg r && !supv && decide (w = World.secure))

/-- An operation is permitted in a world, on a worker or a supervisor core (R334, R335, R337, R343). -/
def ZKind.permitted (k : ZKind) (supv : Bool) (w : World) (a : ZArgs) : Bool :=
  match k with
  | .scall => !supv && decide (w = World.normal)
  | .sret => !supv && decide (w = World.secure)
  | .msub => decide (w = World.secure)
  | .crd | .cwr => controlReg supv w (a.imm.toNat % 4096)
  | _ => true

/-- Decode a long operation; `none` raises ILLEGAL_INSTR. -/
def longOp (supv : Bool) (w : World) (m : ZMate) : Option ZOp :=
  match longKind m.opc with
  | none => none
  | some k =>
    if k.longZeros m.args && k.permitted supv w m.args then
      some { kind := k, a := m.args, slot := false, immZ := (m.args.imm.setWidth 31).setWidth 64,
             immS := (m.args.imm.setWidth 31).signExtend 64 }
    else none

/-- Decode a slot; `none` raises ILLEGAL_INSTR. Its immediate is the RS2 field, and `imm` its spare bits (R319). -/
def slotOp (m : ZMate) : Option ZOp :=
  match shortKind m.opc with
  | none => none
  | some k =>
    if k.shortZeros m.args && m.args.imm == 0 then
      let i := BitVec.ofNat 6 m.args.rs2
      some { kind := k, a := m.args, slot := true, immZ := i.setWidth 64, immS := i.signExtend 64 }
    else none

/-- Registers of a slot in one numbering: general registers as they are, predicates from 64 on; g0 and p0 never change
and are left out (R324). -/
def visible (l : List Nat) : List Nat := l.filter fun r => !(r == 0) && !(r == 64)

/-- Registers a slot writes. -/
def ZOp.writes (o : ZOp) : List Nat :=
  visible (if o.kind.writesRd then [o.a.rd] else if o.kind.isCompare then [64 + o.a.pT, 64 + o.a.pF]
    else if o.kind.isPred then [64 + o.a.pT] else [])

/-- Registers a slot reads. -/
def ZOp.reads (o : ZOp) : List Nat :=
  visible ([64 + o.a.gp] ++ (if o.kind.usesRs1 then [o.a.rs1] else []) ++ (if o.kind.usesRs2 then [o.a.rs2] else [])
    ++ (if o.kind.isPred then [64 + o.a.rs1 % 8, 64 + o.a.rs2 % 8] else [])
    ++ (if o.kind.store.isSome then [o.a.rd] else []))

/-- No register of one list is in the other. -/
def noneShared (x y : List Nat) : Bool := x.all fun r => !y.contains r

/-- The two slots of a pair are independent (R324). -/
def pairOk (x y : ZOp) : Bool :=
  noneShared x.writes (y.reads ++ y.writes) && noneShared y.writes x.reads && !(x.kind.isMem && y.kind.isMem)
    && !(x.kind.isMul && y.kind.isMul)

/-- What decode makes of a word: its operations, or the exception it raises with its slot (R320, R324, R343). -/
inductive Decoded where
  | ops (l : List ZOp)
  | fault (cause slot : Nat)
  deriving DecidableEq, Repr

/-- Decode a word on a core in a world. A slot that is illegal is reported before a pairing fault, X before Y
(assumption log 70). -/
def decodeOps (supv : Bool) (w : World) : ZWord → Decoded
  | .long m =>
    match longOp supv w m with
    | some o => .ops [o]
    | none => .fault 0x01 0
  | .paired true _ _ => .fault 0x01 0
  | .paired false x y =>
    match slotOp x, slotOp y with
    | none, _ => .fault 0x01 0
    | some _, none => .fault 0x01 1
    | some p, some q => if pairOk p q then .ops [p, q] else .fault 0x02 2

/-! ## What an operation computes -/

/-- The two's complement shift and rotate amounts are the low six bits. -/
def shiftOf (x : W64) : Nat := x.toNat % 64

/-- A 64-bit value with its 8 bytes reversed. -/
def bswap (x : W64) : W64 := BitVec.ofNat 64 (beNat (leBytes 8 x.toNat))

/-- What an operation that writes RD from the bank alone writes (R344). -/
def ZOp.result (o : ZOp) (b : ZBank) : W64 :=
  let x := b.greg o.a.rs1
  let y := b.greg o.a.rs2
  match o.kind with
  | .add => x + y
  | .sub => x - y
  | .and => x &&& y
  | .or => x ||| y
  | .xor => x ^^^ y
  | .shl => x <<< shiftOf y
  | .shr => x >>> shiftOf y
  | .sar => x.sshiftRight (shiftOf y)
  | .addi => x + o.immS
  | .andi => x &&& o.immS
  | .shli => x <<< shiftOf o.immZ
  | .shri => x >>> shiftOf o.immZ
  | .sari => x.sshiftRight (shiftOf o.immZ)
  | .rotri => x.rotateRight (shiftOf o.immZ)
  | .movi => o.immS
  | .mgetl => b.mlo
  | .mgeth => b.mhi
  | .bswap => Machine.bswap x
  | .shori => (x <<< 31) ||| o.immZ
  | _ => 0

/-- The relation a compare tests (R344). -/
def ZOp.relation (o : ZOp) (b : ZBank) : Bool :=
  let x := b.greg o.a.rs1
  let y := b.greg o.a.rs2
  match o.kind with
  | .cmpeq => decide (x = y)
  | .cmpne => decide (x ≠ y)
  | .cmplt => ltSigned x y
  | .cmpltu => ltUnsigned x y
  | .cmpeqi => decide (x = o.immS)
  | .cmplti => ltSigned x o.immS
  | .cmpltui => ltUnsigned x o.immZ
  | _ => false

/-- What a predicate operation writes (R323). -/
def ZOp.logic (o : ZOp) (b : ZBank) : Bool :=
  let x := b.predOpd o.a.rs1
  let y := b.predOpd o.a.rs2
  match o.kind with
  | .pand => x && y
  | .por => x || y
  | .pxor => xor x y
  | _ => false

/-- The multiplier write an operation starts (R326). -/
def ZOp.product (o : ZOp) (w : World) (b : ZBank) : MulWrite :=
  let x := b.greg o.a.rs1
  let y := b.greg o.a.rs2
  match o.kind with
  | .mulh => { world := w, left := 4, acc := false, value := x.signExtend 128 * y.signExtend 128 }
  | .mac => { world := w, left := 4, acc := true, value := x.setWidth 128 * y.setWidth 128 }
  | _ => { world := w, left := 4, acc := false, value := x.setWidth 128 * y.setWidth 128 }

/-- Write an operation's register results into `dst`, reading from `src`; `v` is what a load or a control register read
delivered. -/
def ZOp.apply (o : ZOp) (src : ZBank) (v : Option W64) (dst : ZBank) : ZBank :=
  if src.guard o.a = false then dst
  else if o.kind.isCompare then dst.compare o.a (o.relation src)
  else if o.kind.isPred then dst.setPred o.a.pT (o.logic src)
  else if o.kind.load.isSome then (match v with
    | some x => dst.setG o.a.rd x
    | none => dst)
  else if o.kind.writesRd then dst.setG o.a.rd (o.result src)
  else dst

/-- The address a load or store names (R329): short offsets are scaled by the access size. -/
def ZOp.address (o : ZOp) (b : ZBank) (size : Nat) : W64 :=
  b.greg o.a.rs1 + (if o.slot then o.immS * BitVec.ofNat 64 size else o.immS)

/-- The low bytes of a store's data: RD in a slot, RS2 in a long operation (R319, R344). -/
def ZOp.data (o : ZOp) (b : ZBank) (size : Nat) : Bytes :=
  leBytes size (b.greg (if o.slot then o.a.rd else o.a.rs2)).toNat

/-- A loaded value, zero- or sign-extended (R329). -/
def extend (size : Nat) (signed : Bool) (b : Bytes) : W64 :=
  let x := BitVec.ofNat (8 * size) (leNat b)
  if signed then x.signExtend 64 else x.setWidth 64

/-- A word with an operation in a given place of it (R317). -/
def zword (k : ZKind) (f : ZForm) (a : ZArgs) : ZWord :=
  match f with
  | .long => .long { opc := k.longCode, args := a }
  | .slotX m => .paired false { opc := k.shortCode, args := a } m
  | .slotY m => .paired false m { opc := k.shortCode, args := a }

end Sys2Proof.Machine
end

