-- ==== Sys2Proof/Machine/RecorderCmds.lean ====
section
/-! DEFINITION. The event recorder: placing records, summaries, searches, firmware records and export (R444–R458). -/

namespace Sys2Proof.Machine

/-- Slots of the recorder (R450). -/
def recSlots : Nat := 8192

/-- How long ago a sequence number was issued, wrap included (R448, R450). -/
def Recorder.age (r : Recorder) (seq : Nat) : Nat := (r.seq + 2 ^ 32 - seq) % 2 ^ 32

/-- The slot of the oldest record that is not more severe than `sev` (R450). -/
def Recorder.oldest (r : Recorder) (sev : Nat) : Option Nat :=
  (r.slots.foldl (fun (b : Option (Nat × Nat)) e =>
    if e.2.sev ≤ sev then
      match b with
      | some (k, a) => if a < r.age e.2.seq then some (e.1, r.age e.2.seq) else some (k, a)
      | none => some (e.1, r.age e.2.seq)
    else b) none).map (·.1)

/-- The lowest-numbered empty slot. -/
def Recorder.emptySlot (r : Recorder) : Option Nat :=
  if r.slots.length < recSlots then
    (List.range recSlots).find? fun k => decide ((SMap.get Record.empty r.slots k).seq = 0)
  else none

/-- Put a record into a slot. -/
def Recorder.place (r : Recorder) (k : Nat) (x : Record) : Recorder :=
  { r with slots := SMap.set Record.empty r.slots k x, newest := k }

/-- RECORD_WRITE (R449, R450): the oldest offer takes the lowest empty slot, else that of the oldest record not more severe, else
none. -/
def execRecordWrite (s : State) : Host.Outcome State Fault Refusal :=
  .next (
    match s.rcd.queue with
    | [] => s
    | x :: rest =>
      let r := { s.rcd with queue := rest }
      match r.emptySlot with
      | some k => { s with rcd := r.place k x }
      | none =>
        match r.oldest x.sev with
        | some k => { s with rcd := { r.place k x with overwrites := satAdd 32 r.overwrites 1 } }
        | none => { s with rcd := { r with drops := satAdd 32 r.drops 1 } })

/-- SUMMARY_INTERVAL (R451): the interval of a code ends; repeats that had no record of their own get one with SUMMARY. -/
def execSummaryInterval (code : Nat) (s : State) : Host.Outcome State Fault Refusal :=
  .next (
    let bs := s.rcd.bursts.filter fun b => b.code == code
    let t := { s with rcd := { s.rcd with bursts := s.rcd.bursts.filter fun b => b.code != code } }
    bs.foldl (fun u b =>
      if b.count = 0 then u else u.offerRecord code (recSeverity code) (code / 256) false true b.p0 b.p1 b.count) t)

/-! ## Searches and firmware records (R453, R454) -/

/-- The bank and the source of an initiator that may use the block (R446, R458). -/
def recBankOf : Initiator → Option (Nat × Nat)
  | .worker n .secure => some (n, 0x20 + n)
  | .supervisor false => some (16, 0x30)
  | .supervisor true => some (17, 0x31)
  | _ => none

/-- A bank of the recorder. -/
def Recorder.bank (r : Recorder) (k : Nat) : RecBank := SMap.get RecBank.reset r.banks k

/-- Replace it. -/
def State.setRecBank (s : State) (k : Nat) (b : RecBank) : State :=
  { s with rcd := { s.rcd with banks := SMap.set RecBank.reset s.rcd.banks k b } }

/-- A write of a banked register by an initiator that may make it (R364, R458). -/
def State.recWrite (s : State) (who : Initiator) (f : Nat → Nat → State → State) : State :=
  match recBankOf who with
  | some (k, src) => s.bySecure who (f k src)
  | none => s.dropWrite who

/-- The slot with the lowest sequence number not below `q` (R453). -/
def Recorder.seek (r : Recorder) (q : Nat) : Option Nat :=
  (r.slots.foldl (fun (b : Option (Nat × Nat)) e =>
    if q ≤ e.2.seq ∧ e.2.seq ≠ 0 then
      match b with
      | some (k, n) => if e.2.seq < n then some (e.1, e.2.seq) else some (k, n)
      | none => some (e.1, e.2.seq)
    else b) none).map (·.1)

/-- REC_SEEK (R453): a search starts, or starts again, over the slots as they stand. -/
def execRecSeek (who : Initiator) (q : W32) (s : State) : Host.Outcome State Fault Refusal :=
  .next (s.recWrite who fun k _ s =>
    s.setRecBank k { s.rcd.bank k with busy := true, found := false, target := s.rcd.seek q.toNat })

/-- SEEK_DONE (R453). -/
def execSeekDone (who : Initiator) (s : State) : Host.Outcome State Fault Refusal :=
  .next (
    match recBankOf who with
    | none => s
    | some (k, _) =>
      let b := s.rcd.bank k
      if b.busy = false then s
      else
        match b.target with
        | some c => s.setRecBank k { b with busy := false, found := true, cursor := c, target := none }
        | none => s.setRecBank k { b with busy := false, found := false })

/-- REC_POST (R454): a severity above 5 is written as 5. -/
def execRecPost (who : Initiator) (v : W32) (s : State) : Host.Outcome State Fault Refusal :=
  .next (s.recWrite who fun k src s =>
    let b := s.rcd.bank k
    s.offerRecord (bits v.toNat 0 16) (min 5 (bits v.toNat 16 4)) src true false b.postP0.toNat b.postP1.toNat b.postP2.toNat)

/-! ## Export (R455, R456) -/

/-- Records present, by rising sequence number. -/
def Recorder.sorted (r : Recorder) : List Record :=
  ((r.slots.map (·.2)).filter fun x => decide (x.seq ≠ 0)).mergeSort fun a b => decide (a.seq ≤ b.seq)

/-- REC_STAT as a word. -/
def Recorder.stat (r : Recorder) : Nat :=
  r.slots.length % 2 ^ 14 + 2 ^ 14 * flag (decide (r.slots.length = recSlots)) + 2 ^ 15 * (r.queue.length % 128)

/-- REC_QUERY (R455). -/
def execRecQuery (r : Req) (s : State) : Host.Outcome State Fault Refusal :=
  .next (s.hostCommand r 0x0601 fun s =>
    let x := s.rcd
    let low := ((x.sorted.head?).map (·.seq)).getD 0
    s.answer r x.slots.length (leBytes 4 x.stat ++ leBytes 4 x.seq ++ leBytes 4 x.newest ++ leBytes 4 x.drops
      ++ leBytes 4 x.filtered ++ leBytes 4 x.overwrites ++ leBytes 4 low ++ zeros 4))

/-- REC_EXPORT (R455, R456). Nothing is overwritten while it reads, so GAPS stays clear. -/
def execRecExport (r : Req) (s : State) : Host.Outcome State Fault Refusal :=
  .next (s.hostCommand r 0x0602 fun s =>
    let first := r.desc.par 0 4
    let count := r.desc.par 4 2
    let need := 64 + 32 * count + 132
    if count = 0 ∨ recSlots < count then s.refuseRange r 0x98
    else if r.desc.outLen < need then s.complete r 0x0301 0 0x25 0 need []
    else
      let l := (s.rcd.sorted.filter fun x => decide (first ≤ x.seq)).take count
      let header (signed : Bool) : Bytes :=
        leBytes 4 0x52434552 ++ leBytes 2 1 ++ leBytes 2 (flag signed) ++ leBytes 4 first ++ leBytes 2 l.length ++ zeros 2
          ++ leBytes 4 s.rcd.seq ++ leBytes 4 s.rcd.drops ++ bytes128 Config.deviceIdentity ++ leBytes 8 s.sys.optime
          ++ leBytes 4 s.bkd.pwrcyc ++ zeros 12
      s.answerAudit r l.length header (l.flatMap (·.bytes)))

end Sys2Proof.Machine
end

