-- ==== Sys2Proof/Machine/RegRead.lean ====
section
/-! DEFINITION. What every register reads as, by unit block and offset, who may read it, and the few effects of a read (R3,
R15, R16, R18 and the register tables of every file). Reserved fields, write-only fields and companions read as zero. -/

namespace Sys2Proof.Machine

/-! ## Places -/

/-- The unit block and the offset of a device address (R15). -/
def blockOf (a : Nat) : Option (Nat × Nat) :=
  if 0xC0000000 ≤ a ∧ a < 0xC0130000 then some ((a - 0xC0000000) / 65536, a % 65536) else none

/-- The engine unit of a block. -/
def engineBlock (b : Nat) : Option EngUnit :=
  if b = 6 then some .cal else if b = 7 then some .srg else if b = 8 then some .tul else if b = 9 then some .hsh else none

/-- The instance and the window offset of an offset in an engine block (R18). -/
def windowOf (off : Nat) : Option (Nat × Nat) :=
  if 0x1000 ≤ off then some ((off - 0x1000) / 0x400, (off - 0x1000) % 0x400) else none

/-- The block exists on this part, and the window an offset lies in (R3). -/
def State.registerPresent (s : State) (b off : Nat) : Bool :=
  match engineBlock b with
  | some u =>
    decide (s.part.count u ≠ 0) && (match windowOf off with
      | some (n, _) => s.present u n
      | none => true)
  | none => decide (b ≠ 0x10) || decide (s.part.links ≠ 0)

/-- The world an initiator acts in. -/
def worldOf : Initiator → World
  | .supervisor _ => .secure
  | .worker _ w => w
  | .host _ => .normal
  | .debug w => w

/-- The GP register offsets of SUPV. -/
def isGpReg (off : Nat) : Bool := decide (off = 0x40) || decide (off = 0x44) || decide (off = 0x48)

/-- Who may read a block (R142, R210, R247, R273, R299, R316, R368, R395, R396, R421, R422, R443, R458, R486). The SYS, PWR,
HOST and TEN blocks have no access rule. -/
def mayRead (who : Initiator) (b off : Nat) : Bool :=
  if b < 4 then true
  else if b = 0x0B ∨ b = 0x12 then
    match who with
    | .supervisor _ => true
    | _ => false
  else if b = 0x11 then
    match who with
    | .supervisor _ => true
    | .worker n .secure => isGpReg off || decide (off = 0x200 + 4 * n) || decide (off = 0x280 + 4 * n)
    | .worker _ .normal => isGpReg off
    | _ => false
  else secureWho who

/-! ## Small helpers -/

/-- The low and the high word of a number. -/
def loWord (x : Nat) : Nat := x % 2 ^ 32
def hiWord (x : Nat) : Nat := x / 2 ^ 32 % 2 ^ 32

/-- A mask of the numbers below `n` that satisfy `p`. -/
def maskOf (n : Nat) (p : Nat → Bool) : Nat := (List.range n).foldl (fun m k => m + flag (p k) * 2 ^ k) 0

/-- How many numbers below `n` satisfy `p`. -/
def countOf (n : Nat) (p : Nat → Bool) : Nat := (List.range n).countP p

/-- A latched HI word (SYS, BKD). -/
def State.latched (s : State) (a : Nat) : Nat := (SMap.get 0 s.sys.latches a).toNat

/-! ## SYS, PWR, HOST, TEN -/

/-- SYS_CAP (R9). -/
def Part.cap (p : Part) : Nat :=
  p.count .cal + 2 ^ 6 * p.count .srg + 2 ^ 11 * flag (decide (p.count .tul ≠ 0)) + 2 ^ 12 * p.workers + 2 ^ 17 * p.links
    + 2 ^ 24 * p.code

/-- SYS_STATUS.MESH_ARMED (R42): every channel that the image's table names is armed. -/
def State.meshArmed (s : State) : Bool :=
  !s.lace.romTable && s.lace.table.all fun x => decide (meshCount ≤ x.1) || (s.channel x.1).armed

/-- SYS_STATUS. -/
def State.sysStatus (s : State) : Nat :=
  flag s.sys.fwVerified + 2 * flag s.lcs.otp.ownerBit + 4 * flag s.sys.defaultImage + 8 * flag s.sys.imgSlotB
    + 16 * flag s.sys.entReady + 32 * flag s.meshArmed + 64 * flag s.sys.ctrFormatted + 128 * flag s.sys.lockKeptEnd
    + 256 * s.lifeCycle + 2 ^ 10 * flag (s.host.portA.link && s.host.portA.tunnel)
    + 2 ^ 11 * flag (s.host.portB.link && s.host.portB.tunnel) + 2 ^ 12 * flag s.sys.usb2Boot + 2 ^ 13 * flag s.sys.lcResumed
    + 2 ^ 14 * flag s.sys.bkdLost + 2 ^ 15 * flag s.sys.thermOff

/-- SYS_MODEREQ.DRAINTO. -/
def DrainTo.code : DrainTo → Nat
  | .off => 0
  | .load => 1
  | .boot => 2

/-- SYS registers (file 01, R9). -/
def State.sysReg (s : State) (off : Nat) : Nat :=
  let x := s.sys
  if 0x40 ≤ off ∧ off < 0x70 then leAt x.meas (off - 0x40) 4
  else
    match off with
    | 0x00 => Config.sysStep.toNat + 256 * Config.sysMaskset.toNat + 2 ^ 16 * 0x0640
    | 0x04 => x.modeWord
    | 0x08 => s.part.cap
    | 0x0C => s.sysStatus
    | 0x10 => x.bootErrWord
    | 0x18 => x.drainTo.code + 256 * flag x.modeReqGo
    | 0x20 => x.drainLim
    | 0x24 => s.bkd.pwrcyc
    | 0x28 => loWord x.optime
    | 0x2C => s.latched 0x2C
    | 0x70 => loWord x.imgSeq
    | 0x74 => hiWord x.imgSeq
    | 0x80 => loWord x.fwAddr.toNat
    | 0x84 => hiWord x.fwAddr.toNat
    | 0x88 => x.fwLen
    | 0x8C => 2 * flag (decide (s.boot.download ≠ .none))
    | _ => 0

/-- PWR_STAT.VBAT_LOW: the cell reads below 2.4 V, or none is fitted. -/
def State.vbatLow (s : State) : Bool := !s.pwr.cellFitted || decide (s.bkd.vbatMv < 2400)

/-- PWR registers (file 01); PWR_GRES is banked per world. -/
def State.pwrReg (s : State) (w : World) (off : Nat) : Nat :=
  let p := s.pwr
  match off with
  | 0x00 => flag p.vinOk + 2 * flag p.railsOk + 4 * flag p.bkdOnMain + 8 * flag s.vbatLow + 16 * flag p.holdupOk
      + 32 * flag (decide (p.tripped ≠ 0))
  | 0x04 => p.vinMv % 65536 + 65536 * p.p10mw
  | 0x10 => p.clkOn.toNat
  | 0x14 => p.pwrOn.toNat
  | 0x18 => p.owner.toNat
  | 0x20 => p.lease.toNat
  | 0x34 => (s.gres w).status + 2 ^ 16 * ((s.gres w).isl % 32) + 2 ^ 24 * flag (s.gres w).done
  | 0x40 => p.tmax % 1024 + 1024 * p.tmaxSensor
  | 0x44 => p.tripped.toNat
  | 0x48 => 199 + 2 ^ 16 * 189
  | _ => 0

/-- HOST_PORT_A and HOST_PORT_B. -/
def Port.word (p : Port) (usb2 : Bool) : Nat :=
  flag usb2 + 2 * flag p.link + 4 * (p.gen % 4) + 16 * flag p.x2 + 32 * flag p.tunnel + 64 * flag p.downstream
    + 256 * p.linkdowns + 2 ^ 16 * (p.depth % 8)

/-- HOST registers (file 03). -/
def State.hostReg (s : State) (off : Nat) : Nat :=
  let h := s.host
  match off with
  | 0x00 => h.portA.word s.boot.usb2A
  | 0x04 => h.portB.word s.boot.usb2B
  | 0x08 => h.chainMax % 8 + 8 * flag h.dsen
  | 0x10 => h.portA.dmaErr % 65536 + 65536 * h.portB.dmaErr
  | 0x14 => h.discard
  | _ => 0

/-- TEN registers (file 03). -/
def State.tenReg (s : State) (off : Nat) : Nat :=
  if 0x1000 ≤ off ∧ off < 0x3000 then ((s.tenWords ((off - 0x1000) / 0x20))[off % 0x20 / 4]?).getD 0
  else
    match off with
    | 0x00 => s.capacity + 2 ^ 16 * flag s.throttled
    | 0x04 => s.tenantsPresent.length
    | 0x08 => s.host.wsum
    | _ => 0

/-! ## TWL and DMK -/

/-- Waiting work of a pool that satisfies `p`. -/
def State.poolCount (s : State) (k : Nat) (p : Job → Bool) : Nat :=
  match s.img.force.pools.find? fun x => x.pool == k with
  | some x => ((s.poolAll (unitAt x.unit) x).filter p).length
  | none => 0

/-- Twill's measured share of a pool's time over the last millisecond, in per cent: free, as a command is no measure of time, and zero
while no step has been dispatched since this start (assumption log 3). -/
def State.measuredShare (s : State) (k : Nat) : Nat := if s.twl.steps = 0 then 0 else Config.freshNat (s.fresh + k) % 101

/-- A pool's registers (TWL_PWAIT, TWL_PSHARE, TWL_PSUSP). -/
def State.poolReg (s : State) (k off : Nat) : Nat :=
  let u := SMap.get PoolUse.reset s.twl.pools k
  match off with
  | 0x00 => s.poolCount k (fun j => j.src.isStep) + 65536 * s.poolCount k (fun j => !j.src.isStep)
  | 0x04 => ((s.img.force.pools.find? fun x => x.pool == k).map (·.twshare)).getD 0 + 256 * s.measuredShare k
  | 0x08 => u.suspReq + 65536 * u.overflows
  | _ => 0

/-- Codes of R132. -/
def InstState.code : InstState → Nat
  | .free => 0
  | .loading => 1
  | .running => 2
  | .completing => 3
  | .aborting => 4

/-- TWL_INSTINFO. -/
def Inst.word (i : Inst) : Nat :=
  i.state.code + 8 * flag i.urgent + 16 * (i.recipe % 1024) + 2 ^ 14 * i.tenant + 2 ^ 22 * (i.lastStep % 32)

/-- Instances of a tenant that are not FREE. -/
def State.slotsUsed (s : State) (t : Nat) : Nat :=
  (s.twl.insts.filter fun x => decide (x.2.state ≠ .free) && x.2.tenant == t).length

/-- TWL registers (file 04). -/
def State.twlReg (s : State) (off : Nat) : Nat :=
  let t := s.twl
  if 0x1000 ≤ off ∧ off < 0x1400 then
    s.slotsUsed ((off - 0x1000) / 4) + 65536 * (s.tenant ((off - 0x1000) / 4)).slots
  else if 0x100 ≤ off ∧ off < 0x200 then s.poolReg ((off - 0x100) / 16) (off % 16)
  else
    match off with
    | 0x00 => s.busySlots.length + 2 ^ 13 * flag t.catLoaded
    | 0x04 => s.img.force.recipes.length
    | 0x08 => t.suspWait
    | 0x10 => t.starts
    | 0x14 => t.done
    | 0x18 => t.aborts
    | 0x1C => t.lastStep % 256 + 256 * (t.lastCause % 16) + 2 ^ 12 * (t.lastInst % 4096) + 2 ^ 24 * t.lastTenant
    | 0x20 => t.wipeMax
    | 0x24 => t.steps
    | 0x28 => (t.insts.filter fun x => x.2.maskWait || x.2.rngSteps != 0).length
    | 0x30 => t.instSel
    | 0x34 => (s.slot t.instSel).word
    | 0x38 => (s.slot t.instSel).resolved.toNat
    | _ => 0

/-- DMK registers (file 06). -/
def State.dmkReg (s : State) (off : Nat) : Nat :=
  let d := s.dmk
  let nodes := d.nodes.filterMap (·.2)
  if 0x50 ≤ off ∧ off < 0x70 then maskOf 32 fun k => s.clonedRoot (32 * ((off - 0x50) / 4) + k)
  else
    match off with
    | 0x00 => flag (s.bkd.l0.isSome && s.bkd.l0CheckOk) + 2 * flag d.locked + 4 * flag d.wiping + 8 * flag d.formattedNow
    | 0x04 => (nodes.filter fun n => !n.runtime).length + 65536 * d.created
    | 0x08 => (d.ks.filter fun x => decide (x.2.handle ≠ 0) && decide (x.2.handle ≠ ksReleased)).length
        + 65536 * (d.bound.filter fun x => x.2.isSome).length
    | 0x10 => d.hits
    | 0x14 => d.misses
    | 0x18 => d.resv
    | 0x1C => d.latMax
    | 0x20 => d.nonceEpoch
    | 0x28 => flag d.locked
    | 0x40 => s.bkd.eraseCause % 16 + 65536 * s.bkd.eraseUs
    | _ => 0

/-! ## The engine blocks -/

/-- STATE of an instance's status register: 0 idle, 1 running, 4 fenced, 5 gated, 6 waiting for reseed. -/
def State.unitState (s : State) (u : EngUnit) (n : Nat) : Nat :=
  let i := s.inst u n
  if i.fenced then 4
  else if s.instGone u n then 5
  else if i.running.isSome then 1
  else if i.stalled then 6 else 0

end Sys2Proof.Machine

namespace Sys2Proof

/-- SOURCE of a running operation: 0 host, 1 worker mailbox, 2 Twill, 3 supervisor, or Damask's work for a command. -/
def EngSrc.sourceCode : EngSrc → Nat
  | .step _ _ => 2
  | .raw r =>
    if r.desc.opcode = 0x0204 ∨ r.desc.opcode = 0x0207 then 3
    else
    match r.src with
    | .mailbox w _ _ => if w < 16 then 1 else 3
    | _ => 0

/-- SOURCE in the hash units' status register: 0 host, 1 composite command, 2 Twill, 3 supervisor. -/
def EngSrc.hashSource : EngSrc → Nat
  | .step _ _ => 2
  | .raw r =>
    if r.desc.opcode = 0x0425 ∨ r.desc.opcode = 0x0426 then 1
    else
      match r.src with
      | .mailbox w _ _ => if w < 16 then 0 else 3
      | _ => 0

end Sys2Proof

namespace Sys2Proof.Machine

/-- The OP of a job: a step's primitive, the code of Damask's work (a search runs PRIME_TEST), the record's of a privileged mailbox,
a composite's classical operation, or the low part of a raw command's opcode. -/
def Job.op (j : Job) (u : EngUnit) (base : Nat) : Nat :=
  match j.src with
  | .step _ _ => j.code
  | .raw r =>
    if j.src.boxed then (stepAt r.input 0).prim
    else if j.search.isSome then 0x0F
    else if j.code < 0x20 then j.code
    else if u = .srg ∧ (j.code = 0x0425 ∨ j.code = 0x0426) then
      (compOp ((compAlgs (r.desc.par 0 1)).getD (0x29, 0x10)).2 (decide (j.code = 0x0425)) []).op
    else j.code - base

/-- A lane holds an RSA key search, running or yielded (R267). -/
def UnitInst.searches (i : UnitInst) : Bool := i.running.any (·.search.isSome) || i.stack.any (·.search.isSome)

/-- The MODE that a Calico primitive stands for (R212). -/
def stepMode (prim : Nat) : Nat := if prim ≤ 2 then 0 else if prim ≤ 5 then 1 else if prim = 6 then 7 else 6

/-- MODE of a Calico message: the command's, or the one its primitive stands for. -/
def Job.calMode (j : Job) : Nat :=
  match j.src with
  | .raw r => if j.src.boxed then stepMode (stepAt r.input 0).prim else r.desc.par 0 1 % 8
  | .step _ _ => stepMode j.code

/-- The step of an instance. -/
def State.stepOf (s : State) (n k : Nat) : Step := (s.slot n).graph.step k

/-- ALG of a Tulle operation: its key's, or the one its command names. -/
def State.jobAlg (s : State) (j : Job) : Nat :=
  match j.src with
  | .raw r =>
    if j.src.boxed then (stepAt r.input 0).im 0
    else if r.desc.opcode = 0x0425 ∨ r.desc.opcode = 0x0426 then ((compAlgs (r.desc.par 0 1)).getD (0x29, 0x10)).1
    else
      let h := if r.desc.opcode = 0x0204 then r.desc.key1 else r.desc.key0
      if h = 0 then r.desc.par 0 1 else ((s.keyNode r.tenant (hNode h)).map (·.alg)).getD (r.desc.par 0 1)
  | .step n k => ((s.slot n).key (s.stepOf n k)).alg

/-- HALG of a hash; a composite command's M′ is a SHA-512 (R279). -/
def State.jobHalg (s : State) (j : Job) : Nat :=
  match j.src with
  | .raw r => if r.desc.opcode = 0x0425 ∨ r.desc.opcode = 0x0426 then 0x04 else r.desc.par 0 1
  | .step n k => (s.stepOf n k).im 0

/-- The hash is an HMAC. -/
def Job.isHmac (j : Job) : Bool := if j.src.isStep then decide (j.code ≠ 1) else decide (j.code = 0x0432) || decide (j.code = 0x0433)

/-- HALF of the private half in use, which nothing states (free, assumption log 3). -/
def State.freeHalf (s : State) : Nat := flag (Config.freshBool s.fresh)

/-- An instance's status register. -/
def State.unitStat (s : State) (u : EngUnit) (n : Nat) : Nat :=
  let i := s.inst u n
  let st := s.unitState u n
  match u, i.running with
  | .cal, none => st + 2 ^ 9 * i.stack.length + 2 ^ 12 * flag (i.stack.any (·.staged))
  | .cal, some j => st + 8 * flag j.classN + 16 * j.calMode + 2 ^ 7 * j.src.sourceCode + 2 ^ 9 * i.stack.length
      + 2 ^ 12 * flag (i.stack.any (·.staged))
  | .srg, none => st + 2 ^ 19 * flag i.searches
  | .srg, some j => st + 8 * (j.op .srg 0x0410 % 32) + 2 ^ 8 * j.src.sourceCode + 2 ^ 10 * (j.blocks % 256) + 2 ^ 18 * s.freeHalf
      + 2 ^ 19 * flag i.searches
  | .tul, none => st
  | .tul, some j => st + 8 * (j.op .tul 0x0420 % 16) + 2 ^ 7 * j.src.sourceCode + 2 ^ 9 * (s.jobAlg j % 64) + 2 ^ 15 * s.freeHalf
  | .hsh, none => st
  | .hsh, some j => st + 8 * (s.jobHalg j % 64) + 2 ^ 9 * flag j.isHmac + 2 ^ 10 * j.src.hashSource

/-- An instance's window. -/
def State.windowReg (s : State) (u : EngUnit) (n off : Nat) : Nat :=
  let i := s.inst u n
  match off with
  | 0x00 => s.unitStat u n
  | 0x04 => loWord i.count
  | 0x08 => i.latch.toNat
  | 0x0C => if u = .cal then i.suspensions % 65536 + 65536 * i.overflows else loWord i.ops
  | 0x10 => i.reseeds % 2 ^ 24 + 2 ^ 24 * flag i.due + 2 ^ 25 * flag i.stalled
  | 0x14 => i.faults % 256 + 256 * i.stFails
  | 0x18 => flag (i.fenced || i.fencing)
  | _ => 0

/-- The STAT register of an engine block; no self-test is ever seen running, since a command is a whole one. -/
def State.engineStat (s : State) (u : EngUnit) : Nat :=
  let c := s.part.count u
  let busy := countOf c fun n => (s.inst u n).running.isSome
  match u with
  | .cal => c + 2 ^ 6 * busy + 2 ^ 12 * ((List.range c).map fun n => (s.inst u n).stack.length).sum
  | .srg => c + 2 ^ 5 * busy + 2 ^ 15 * countOf c fun n => (s.inst u n).searches
  | .tul => c + 2 ^ 4 * busy
  | .hsh => c + 2 ^ 5 * busy

/-- The STRES register of an engine block. -/
def Engine.stres (e : Engine) (passBit : Nat) : Nat :=
  e.stInst + 2 ^ passBit * flag e.stPass + 256 * e.stVector + 65536 * e.stRuns

/-- Registers of an engine block (files 07, 08 and 09). -/
def State.engineReg (s : State) (u : EngUnit) (off : Nat) : Nat :=
  let e := s.engine u
  let c := s.part.count u
  match windowOf off with
  | some (n, o) => s.windowReg u n o
  | none =>
    match off with
    | 0x00 => s.engineStat u
    | 0x04 => maskOf c fun _ => true
    | 0x08 => maskOf c fun n => (s.inst u n).fenced
    | 0x10 => e.bgrp.toNat
    | 0x18 => if u = .cal then e.ovfWait + 256 * e.minRem else if u = .srg then e.maxW else 0
    | 0x20 => e.periodS + 2 ^ 12 * e.starveMs
    | 0x2C => e.stres (if u = .cal then 5 else if u = .tul then 3 else 4)
    | 0x30 => if u = .cal then e.nonces else e.refuseA % 65536 + 65536 * e.refuseB
    | 0x34 => if u = .cal then e.refuseA % 65536 + 65536 * e.refuseB else if u = .hsh then loWord e.bytes else loWord e.opsTotal
    | 0x38 => if u = .hsh then (SMap.get 0 e.latches 0x38).toNat else e.urgMax
    | 0x3C => if u = .tul then e.restarts else if u = .hsh then e.urgMax else 0
    | _ => 0

/-! ## ENT -/

/-- Codes of ENT_STAT.STATE. -/
def EntState.code : EntState → Nat
  | .off => 0
  | .startup => 1
  | .running => 2
  | .failed => 3
  | .fenced => 4

/-- ENT registers (file 10), banked where R316 says. -/
def State.entReg (s : State) (who : Initiator) (off : Nat) : Nat :=
  let e := s.ent
  let b := s.entBank who
  if 0x10 ≤ off ∧ off < 0x20 then bits b.word.toNat (8 * (off - 0x10)) 32
  else if 0x40 ≤ off ∧ off < 0x50 then bits e.excluded.toNat (8 * (off - 0x40)) 32
  else
    match off with
    | 0x00 => e.state.code + 8 * flag e.legacy + 16 * flag e.ready + 64 * flag e.stretched + 128 * flag e.poolFull
        + 256 * (e.words / 4) + 65536 * e.healthy
    | 0x04 => e.reseedLog2 + 32 * e.stretchLog2 + 1024 * e.curLog2
    | 0x08 => e.timeoutUs
    | 0x20 => flag b.valid + 2 * flag b.unavail
    | 0x24 => e.reseeds
    | 0x28 => e.released
    | 0x2C => e.stalls
    | 0x30 => e.fails
    | 0x38 => flag e.condPass + 2 * flag e.expPass + 65536 * e.katRuns
    | 0x50 => e.raw.stream + 128 * flag e.raw.go + e.raw.addr
    | _ => 0

/-! ## GATE and MEM -/

/-- A grant in the layout of GATE_GSET. -/
def Grant.word (g : Grant) : Nat :=
  g.from_ % 256 + 256 * (g.tgt % 256) + 2 ^ 16 * flag g.read + 2 ^ 17 * flag g.write + 2 ^ 18 * flag g.valid

/-- GATE registers (file 13). -/
def State.gateReg (s : State) (off : Nat) : Nat :=
  let g := s.gate
  match off with
  | 0x00 => g.epoch
  | 0x04 => flag g.busy + 2 * flag g.refused
  | 0x08 => g.pbase
  | 0x0C => g.pcount
  | 0x10 => g.psetColour.toNat + 256 * g.psetTag.toNat
  | 0x18 => g.pqsel
  | 0x1C => if g.pqsel < pageCount then (s.pageTag g.pqsel).colour.toNat + 256 * (s.pageTag g.pqsel).tag.toNat else 0
  | 0x20 => g.gsel
  | 0x24 => g.gset.toNat
  | 0x2C => (SMap.get Grant.none g.grants g.gsel).word
  | 0x30 => g.dcount
  | 0x34 => g.dlogAddr
  | 0x38 => g.dlogInfo
  | 0x3C => g.dbgdeny
  | 0x40 => g.shadow
  | _ => 0

/-- A memory class's registers. -/
def MemClass.reg (c : MemClass) (kind : Nat) : Nat :=
  if kind = 0 then c.limitMs
  else if kind = 1 then c.lastMs % 65536 + 2 ^ 16 * flag c.forced + 2 ^ 17 * c.forcedLaps
  else if kind = 2 then c.corrected
  else c.uncorr + 65536 * c.rewritten

/-- MEM registers (file 13). -/
def State.memReg (s : State) (off : Nat) : Nat :=
  let m := s.mem
  if 0x1000 ≤ off ∧ off < 0x1400 then
    if off % 32 < 28 then SMap.get 0 m.conf (8 * ((off - 0x1000) / 32) + off % 32 / 4) else 0
  else if 0x100 ≤ off ∧ off < 0x180 then
    if off % 32 < 28 then (m.cls (off % 32 / 4)).reg ((off - 0x100) / 32) else 0
  else
    match off with
    | 0x00 => m.init.toNat + 2 ^ 7 * flag m.initRun.isSome + 2 ^ 8 * flag m.march.isSome + 2 ^ 9 * flag m.ecctEn
        + 2 ^ 10 * flag ((List.range 7).any fun k => (m.cls k).forced)
    | 0x04 => m.scrubEn.toNat
    | 0x08 => m.periodS + 2 ^ 12 * m.starveMs
    | 0x10 => m.restarts + 2 ^ 16 * m.fails + 2 ^ 24 * m.testing.length
    | 0x14 => m.elogAddr
    | 0x18 => m.elogInfo
    | 0x20 => m.marchBank + 2 ^ 10 * flag m.marchPreserve + 2 ^ 11 * flag m.march.isSome
    | 0x28 => flag m.march.isSome + 2 * flag m.marchPass + 4 * flag m.marchRefused + 65536 * m.failWord
    | 0x30 => m.initBase
    | 0x34 => m.initPages + 2 ^ 31 * flag m.initRun.isSome
    | 0x40 => flag m.ecctEn + m.ecctAddr
    | 0x50 => loWord m.ecctData.toNat
    | 0x54 => hiWord m.ecctData.toNat
    | 0x58 => loWord m.ecctChk.toNat
    | 0x5C => hiWord m.ecctChk.toNat
    | _ => 0

/-! ## LACE, BKD, LCS -/

/-- The highest class of a standing alarm. -/
def State.highestClass (s : State) : Nat := s.lace.monitors.foldl (fun m x => max m (x.2.standing.getD 0)) 0

/-- LACE registers (file 14). -/
def State.laceReg (s : State) (off : Nat) : Nat :=
  let l := s.lace
  let mon := l.msel
  let m := s.monitor mon
  let c := s.channel mon
  if 0x100 ≤ off ∧ off < 0x138 then maskOf 32 fun k => s.inUse (8 * (off - 0x100) + k)
  else if 0x140 ≤ off ∧ off < 0x178 then maskOf 32 fun k => s.enrolled (8 * (off - 0x140) + k)
  else
    match off with
    | 0x00 => countOf meshCount s.inUse + 2 ^ 9 * countOf meshCount (fun k => (s.channel k).armed)
        + 2 ^ 18 * flag (l.monitors.any fun x => x.2.standing.isSome) + 2 ^ 19 * s.highestClass
        + 2 ^ 21 * flag l.stim.isSome + 2 ^ 22 * flag l.enrolling.isSome
    | 0x08 => l.holdMs
    | 0x10 => l.last % 65536 + 2 ^ 16 * l.lastClass + 2 ^ 18 * flag l.lastStim
    | 0x14 => l.alarms + 65536 * l.stimFails
    | 0x18 => l.tlimLo + 65536 * l.tlimHi
    | 0x20 => l.thresh
    | 0x28 => l.periodS
    | 0x34 => l.stMonitor % 65536 + 2 ^ 16 * flag l.stPass + 2 ^ 17 * flag l.stCut + 2 ^ 18 * l.stRuns
    | 0x40 => mon
    | 0x44 => (s.alarmCfg mon).cls + 4 * flag m.standing.isSome + 8 * flag m.condition
        + 16 * flag (m.suppressed || (l.enrolling.isSome && decide (mon < meshCount))) + 32 * flag (s.alarmCfg mon).alert
        + 64 * flag (s.monitorPresent mon) + 65536 * m.raised
    | 0x48 => if mon < meshCount then s.channelState mon + 8 * c.kind + 32 * c.sample + 65536 * c.d else 0
    | 0x4C => if mon < meshCount then c.threshold + 65536 * c.maxd else 0
    | _ => 0

/-- BKD registers (file 14). -/
def State.bkdReg (s : State) (off : Nat) : Nat :=
  let b := s.bkd
  match off with
  | 0x00 => flag b.pendLock + 2 * flag b.lockKept + 4 * flag b.erased + 8 * flag b.logFull
  | 0x04 => loWord b.ts
  | 0x08 => s.latched 0x120008
  | 0x0C => b.log.length
  | 0x10 => b.intrcfg.toNat
  | 0x18 => b.intrLevel.toNat + 256 * maskOf 8 (fun n => decide (b.pinMode n ≠ 0)) + 65536 * b.intrCond.toNat
  | 0x1C => b.vbatMv % 65536 + 65536 * b.temp
  | 0x20 => b.classIntr.toNat + 65536 * b.classTemp + 2 ^ 18 * b.classVbat
  | 0x30 => b.logsel
  | 0x44 => if b.logFull then ((b.log.getLast?).map (·.param)).getD 0 else 0
  | _ =>
    if 0x34 ≤ off ∧ off < 0x44 then ((b.log[b.logsel]?).map fun e => leAt e.bytes (off - 0x34) 4).getD 0 else 0

/-- LCS registers (file 15). -/
def State.lcsReg4 (s : State) (off : Nat) : Nat :=
  let l := s.lcs
  match off with
  | 0x00 => s.lifeCycle + 4 * maskOf 6 l.otp.isSet + 256 * flag s.sys.lcResumed + 512 * flag l.otp.ownerBit
      + 1024 * flag s.bkd.rootDue + 2048 * flag s.tapPresent
  | 0x08 => l.dbgen
  | 0x10 => flag (l.attached && s.tapPresent) + 2 * flag l.lockDeny + 4 * flag l.dmkHold + 8 * l.halted.toNat
  | 0x18 => s.lcsCer
  | 0x20 => s.lcsReg
  | 0x24 => s.lcsRegMask
  | 0x28 => l.tokenResult % 4 + 4 * (l.tokenKind % 4) + 16 * l.rights.toNat + 256 * l.tokenReason
  | _ => 0

/-! ## REC, BLK, SUPV -/

/-- REC registers (file 16), banked where R458 says. -/
def State.recReg (s : State) (who : Initiator) (off : Nat) : Nat :=
  let r := s.rcd
  let b := match recBankOf who with
    | some (k, _) => r.bank k
    | none => RecBank.reset
  if 0x40 ≤ off ∧ off < 0x60 then leAt (SMap.get Record.empty r.slots b.cursor).bytes (off - 0x40) 4
  else
    match off with
    | 0x00 => r.stat
    | 0x04 => r.seq
    | 0x08 => r.newest
    | 0x0C => r.drops
    | 0x10 => r.filtered
    | 0x14 => r.overwrites
    | 0x20 => b.cursor
    | 0x28 => flag b.busy + 2 * flag b.found
    | 0x64 => b.postP0.toNat
    | 0x68 => b.postP1.toNat
    | 0x6C => b.postP2.toNat
    | _ => 0

/-- Codes of BLK_LSTAT.STATE. -/
def LinkState.code : LinkState → Nat
  | .notAllowed => 0
  | .training => 1
  | .handshake => 2
  | .up => 3
  | .refused => 4
  | .down => 5

/-- A link's window. -/
def Link.reg (l : Link) (off : Nat) : Nat :=
  match off with
  | 0x00 => l.state.code + 8 * (l.reason % 16) + 128 * flag l.newkey
  | 0x04 => l.peerAddr.getD 0xFFFF + 2 ^ 16 * (l.peerUnit % 128) + 2 ^ 23 * (l.peerPart % 16)
  | 0x08 => l.tagFail + 65536 * l.downs
  | 0x0C => l.rekeys
  | _ => 0

/-- BLK_ROUTE. -/
def Route.word (r : Route) : Nat :=
  r.primary.getD 0x3F + 2 ^ 6 * r.alt1.getD 0x3F + 2 ^ 12 * r.alt2.getD 0x3F + 2 ^ 18 * (r.hops % 128)
    + 2 ^ 25 * flag r.primary.isSome

/-- The coordinator's address. -/
def State.coordAddr (s : State) : Nat :=
  match s.blk.coord with
  | none => 0xFFFF
  | some c =>
    if c = Config.deviceIdentity then s.ownAddr
    else match s.blk.lsdb.find? fun l => l.ident == c with
      | some l => l.addr.getD 0xFFFF
      | none => 0xFFFF

/-- BLK registers (file 17). -/
def State.blkReg (s : State) (off : Nat) : Nat :=
  let b := s.blk
  if 0x100 ≤ off ∧ off < 0x100 + 32 * s.part.links then (s.link ((off - 0x100) / 32)).reg (off % 32)
  else
    match off with
    | 0x00 => s.upLinks.length + 64 * flag b.addr.isSome + 128 * flag (decide (b.coord = some Config.deviceIdentity))
        + 256 * flag s.img.force.bilkin.coordEligible + 512 * b.lsdb.length
    | 0x04 => s.ownAddr + 65536 * s.bkd.fabricAddr.getD 0xFFFF
    | 0x08 => b.unit % 128 + 128 * flag b.head
    | 0x0C => s.coordAddr + 65536 * b.elections
    | 0x10 => b.fwdTmo + 65536 * b.electWait
    | 0x18 => b.outs.length + 65536 * (b.ins.filter fun f => !s.isAdmitted f.req).length
    | 0x20 => b.sent
    | 0x24 => b.served
    | 0x28 => b.unreach
    | 0x2C => b.late
    | 0x30 => b.spillOutN + 65536 * b.spillInN
    | 0x40 => b.routeSel
    | 0x44 => (SMap.get Route.none b.routes b.routeSel).word
    | _ => 0

/-- The pins an initiator's world may use (R348). -/
def State.gpMask (s : State) (who : Initiator) : BitVec 16 :=
  BitVec.ofNat 16 (maskOf 16 fun p => decide (s.pinWorld p = worldOf who) && !s.scanPin p)

/-- Codes of SUPV_SWSTAT.STATE. -/
def SwState.code : SwState → Nat
  | .up => 0
  | .down => 1
  | .pending => 2
  | .held => 3

/-- SUPV_SWSTAT. -/
def WorkerCtl.swstat (w : WorkerCtl) : Nat := w.sw.code + 4 * (w.swCause % 4) + 16 * flag w.fresh + 256 * w.restarts

/-- SUPV registers (file 12). -/
def State.supvReg (s : State) (who : Initiator) (off : Nat) : Nat :=
  let w := s.supv
  let n := off % 128 / 4
  if 0x100 ≤ off ∧ off < 0x140 then
    if n < s.part.workers then (s.worker n).ncol.toNat + 256 * (s.worker n).scol.toNat else 0
  else if 0x200 ≤ off ∧ off < 0x240 then if n < s.part.workers then (s.worker n).swstat else 0
  else if 0x300 ≤ off ∧ off < 0x348 then
    if n < s.part.workers ∨ 16 ≤ n then (s.irqWorlds n ||| 1#32).toNat else 0
  else
    match off with
    | 0x00 => flag w.active + 2 * flag w.noSup + 4 * w.stA.code + 32 * w.stB.code
    | 0x04 => loWord w.csn
    | 0x08 => w.csnLatch.toNat
    | 0x0C => w.switches + 65536 * w.giveupsA + 2 ^ 24 * w.giveupsB
    | 0x10 => w.lastSw
    | 0x14 => w.clean + 65536 * w.mismatch
    | 0x18 => w.rejected + 2 ^ 12 * w.dropWrites + 2 ^ 24 * w.dropEdges
    | 0x20 => 2 * flag w.fenceA + 4 * flag w.fenceB
    | 0x28 => w.swlimMs + 1024 * w.restartUs
    | 0x38 => w.pinw.toNat
    | 0x40 => (w.gpout &&& s.gpMask who).toNat
    | 0x44 => (w.gpoe &&& s.gpMask who).toNat
    | 0x48 => (w.gpin &&& s.gpMask who).toNat
    | _ => 0

/-! ## A read -/

/-- What a register of a present block reads as. -/
def State.blockReg (s : State) (who : Initiator) (b off : Nat) : Nat :=
  match engineBlock b with
  | some u => s.engineReg u off
  | none =>
    match b with
    | 0x00 => s.sysReg off
    | 0x01 => s.pwrReg (worldOf who) off
    | 0x02 => s.hostReg off
    | 0x03 => s.tenReg off
    | 0x04 => s.twlReg off
    | 0x05 => s.dmkReg off
    | 0x0A => s.entReg who off
    | 0x0B => s.gateReg off
    | 0x0C => s.memReg off
    | 0x0D => s.laceReg off
    | 0x0E => s.lcsReg4 off
    | 0x0F => s.recReg who off
    | 0x10 => s.blkReg off
    | 0x11 => s.supvReg who off
    | 0x12 => s.bkdReg off
    | _ => 0

/-- Reading LO latches HI, and a read of ENT_DATA3 clears the latched word (R316 and the register tables). -/
def State.readEffect (s : State) (who : Initiator) (b off : Nat) : State :=
  match engineBlock b with
  | some u =>
    match windowOf off with
    | some (n, o) =>
      if o = 0x04 then
        let i := s.inst u n
        s.setInst u n { i with latch := BitVec.ofNat 32 (hiWord i.count) }
      else if o = 0 then s.skip 1 else s
    | none =>
      if u = .hsh ∧ off = 0x34 then
        let e := s.engine u
        s.setEngine u { e with latches := SMap.set 0 e.latches 0x38 (BitVec.ofNat 32 (hiWord e.bytes)) }
      else s
  | none =>
    if b = 0 ∧ off = 0x28 then
      { s with sys := { s.sys with latches := SMap.set 0 s.sys.latches 0x2C (BitVec.ofNat 32 (hiWord s.sys.optime)) } }
    else if b = 0x12 ∧ off = 0x04 then
      { s with sys := { s.sys with latches := SMap.set 0 s.sys.latches 0x120008 (BitVec.ofNat 32 (hiWord s.bkd.ts)) } }
    else if b = 0x11 ∧ off = 0x04 then { s with supv := { s.supv with csnLatch := BitVec.ofNat 32 (hiWord s.supv.csn) } }
    else if b = 0x0A ∧ off = 0x1C then s.latchWord who EntBank.reset
    else s

/-- A read of ENT_DATA0 (R316): it takes a word, or stalls; `false` while it stalls. A word latched for a stalled read
is that read's. -/
def State.readEntropy (s : State) (who : Initiator) : State × Bool :=
  let b := s.entBank who
  if b.due then (s.latchWord who { b with due := false }, true)
  else if s.ent.stalled.contains (.bank who) then (s, false)
  else
    match (s.latchWord who EntBank.reset).takeWords 1 with
    | some (l, t) => (t.latchWord who { word := l.headD 0, valid := true, unavail := false, due := false }, true)
    | none => ((s.latchWord who EntBank.reset).stallFor (.bank who), false)

/-- A denied register read: zero, counted in GATE_DCOUNT (R390). -/
def State.deniedRead (s : State) : State := { s with gate := { s.gate with dcount := satAdd 32 s.gate.dcount 1 } }

/-- A 32-bit read of a register address; `none` while it stalls. Aliases, absent blocks and windows and what an initiator
may not read are zero (R3, R18, R390). -/
def State.regRead (s : State) (who : Initiator) (a : Nat) : State × Option W32 :=
  match blockOf a with
  | none => (s, some 0)
  | some (b, off) =>
    if mayRead who b off = false then (s.deniedRead, some 0)
    else if s.registerPresent b off = false then (s, some 0)
    else if b = 0x0A ∧ off = 0x10 then
      let x := s.readEntropy who
      (x.1, if x.2 then some (BitVec.ofNat 32 (x.1.entReg who 0x10)) else none)
    else (s.readEffect who b off, some (BitVec.ofNat 32 (s.blockReg who b off)))

end Sys2Proof.Machine
end

