-- ==== Sys2Proof/Machine/RegWrite.lean ====
section
/-! DEFINITION. Register writes: who may write, what each register does with a written word, paired registers, doorbell pages
and BAR2, and broadcast (R3, R16–R18, R86–R96, R248 and the register tables of every file). -/

namespace Sys2Proof

/-- The instances a unit has on a part that has all of them: the width of its masks. -/
def EngUnit.width : EngUnit → Nat
  | .cal => 32
  | .srg => 16
  | .tul => 8
  | .hsh => 16

end Sys2Proof

namespace Sys2Proof.Machine

/-- The state an outcome leads to. -/
def after (s : State) : Host.Outcome State Fault Refusal → State
  | .next t => t
  | _ => s

/-! ## Who may write (R142, R210, R247, R273, R299, R316, R364, R368, R395, R396, R421, R422, R443, R458, R486) -/

/-- Registers of a block that secure-world firmware may write beside the supervisor in control. -/
def secureWrites (b off : Nat) : Bool :=
  match engineBlock b with
  | some _ =>
    match windowOf off with
    | some (_, o) => decide (o ≠ 0x18) && decide (o ≠ 0x1C)
    | none => !(decide (0x18 ≤ off) && decide (off < 0x2C))
  | none =>
    match b with
    | 0x04 => decide (off ≠ 0x08) && decide (off ≠ 0x0C)
    | 0x05 => decide (off ≠ 0x28) && decide (off ≠ 0x2C) && decide (off ≠ 0x30)
    | 0x0A => decide (off ≠ 0x34) && decide (off ≠ 0x50)
    | 0x0C => decide (off = 0x30) || decide (off = 0x34) || decide (off = 0x60)
    | 0x0F => true
    | _ => false

/-- An initiator may write a register. -/
def State.mayWrite (s : State) (who : Initiator) (b off : Nat) : Bool :=
  if b = 0x11 ∧ (off = 0x20 ∨ off = 0x24) then
    match who with
    | .supervisor _ => true
    | _ => false
  else
    match who with
    | .supervisor _ => s.inControl who
    | .worker n w =>
      if b = 0x11 then isGpReg off || (decide (w = World.secure) && (decide (off = 0x200 + 4 * n) || decide (off = 0x280 + 4 * n)))
      else if b < 4 then !(decide (b = 1) && decide (off = 0x20 ∨ off = 0x24) && decide (w = World.normal))
      else decide (w = World.secure) && secureWrites b off
    | _ => decide (b < 4) && !(decide (b = 1) && decide (off = 0x20 ∨ off = 0x24))

/-! ## Paired registers (R16, R17) -/

/-- The register is a paired one; its companion lies at the next offset. -/
def isPaired (b off : Nat) : Bool :=
  match engineBlock b with
  | some u =>
    match windowOf off with
    | some (_, o) => decide (o = 0x18)
    | none => decide (off = 0x20) || (decide (off = 0x18) && (decide (u = EngUnit.cal) || decide (u = EngUnit.srg)))
  | none =>
    match b with
    | 0x00 => decide (off = 0x18)
    | 0x01 => decide (off = 0x20)
    | 0x04 => decide (off = 0x08)
    | 0x05 => decide (off = 0x28)
    | 0x0B => decide (off = 0x10) || decide (off = 0x24)
    | 0x0C => decide (off = 0x08) || decide (off = 0x20) || decide (off = 0x40)
    | 0x0D => decide (off = 0x08) || decide (off = 0x18) || decide (off = 0x20) || decide (off = 0x28)
    | 0x0E => decide (off = 0x08)
    | 0x10 => decide (off = 0x10)
    | 0x11 => decide (off = 0x20) || decide (off = 0x28) || decide (off = 0x38)
    | 0x12 => decide (off = 0x10)
    | _ => false

/-! ## What a written word does, block by block -/

/-- SYS_DRAINLIM: 0 and values above 10,000 are written as 10,000. -/
def drainLimit (v : W32) : Nat :=
  let n := bits v.toNat 0 14
  if n = 0 ∨ 10000 < n then 10000 else n

/-- One word of a 64-bit register. -/
def putWord (x : W64) (high : Bool) (v : W32) : W64 :=
  if high then v ++ (x.extractLsb' 0 32 : W32) else (x.extractLsb' 32 32 : W32) ++ v

/-- SYS writes (file 01). -/
def State.writeSys (s : State) (off : Nat) (v : W32) : State :=
  let boot := decide (s.sys.mode = .boot)
  match off with
  | 0x18 => s.modeRequest v
  | 0x20 => { s with sys := { s.sys with drainLim := drainLimit v } }
  | 0x80 => if boot then { s with sys := { s.sys with fwAddr := putWord s.sys.fwAddr false v } } else s
  | 0x84 => if boot then { s with sys := { s.sys with fwAddr := putWord s.sys.fwAddr true v } } else s
  | 0x88 => if boot then { s with sys := { s.sys with fwLen := bits v.toNat 0 24 } } else s
  | 0x8C => if v.getLsbD 0 then after s (execFwDownloadGo s) else s
  | _ => s

/-- PWR writes (file 01): a gate request with ACT 3 is dropped. -/
def State.writePwr (s : State) (who : Initiator) (off : Nat) (v : W32) : State :=
  match off with
  | 0x20 => after s (execPwrLeaseWrite who (v.setWidth 19) s)
  | 0x30 =>
    let isl := bits v.toNat 0 5
    let act := bits v.toNat 8 2
    if act = 0 then after s (execIslandRun (worldOf who) isl s)
    else if act = 1 then after s (execIslandClockGate (worldOf who) isl s)
    else if act = 2 then after s (execIslandPowerGate (worldOf who) isl s)
    else s
  | 0x44 => after s (execPwrTrippedClear who (v.setWidth 19) s)
  | _ => s

/-- TWL writes (file 04). -/
def State.writeTwl (s : State) (off : Nat) (v : W32) : State :=
  match off with
  | 0x08 => { s with twl := { s.twl with suspWait := bits v.toNat 0 8 } }
  | 0x30 => { s with twl := { s.twl with instSel := bits v.toNat 0 12 } }
  | _ => s

/-- DMK writes (file 06). -/
def State.writeDmk (s : State) (who : Initiator) (off : Nat) (v : W32) : State :=
  match off with
  | 0x28 => after s (execDmkLockWrite who (v.getLsbD 0) s)
  | 0x30 =>
    if v.getLsbD 8 then after s (execDmkFlushAll who s) else after s (execDmkFlushTenant who (bits v.toNat 0 8) s)
  | _ => s

/-- The clears of an instance (CCLR, LCLR, UCLR). -/
def UnitInst.cleared (u : EngUnit) (v : W32) (i : UnitInst) : UnitInst :=
  let a := if v.getLsbD 0 then { i with count := 0 } else i
  let b := if v.getLsbD 1 then (if u = .cal then { a with suspensions := 0, overflows := 0 } else { a with ops := 0 }) else a
  if v.getLsbD 2 then { b with faults := 0, stFails := 0 } else b

/-- Writes of an engine block (files 07, 08 and 09). -/
def State.writeEngine (s : State) (u : EngUnit) (off : Nat) (v : W32) : State :=
  let e := s.engine u
  match windowOf off with
  | some (n, 0x18) => if v.getLsbD 0 then s.askFence u n else s.askLift u n
  | some (n, 0x20) => s.clearInst u n (UnitInst.cleared u v)
  | some _ => s
  | none =>
    match off with
    | 0x10 => s.setEngine u { e with bgrp := v &&& lowMask u.width }
    | 0x18 =>
      if u = .cal then s.setEngine u { e with ovfWait := bits v.toNat 0 8, minRem := bits v.toNat 8 8 }
      else
        let w := bits v.toNat 0 8
        s.setEngine u { e with maxW := if w = 0 ∨ 128 < w then 128 else w }
    | 0x20 => s.setEngine u { e with periodS := bits v.toNat 0 12, starveMs := bits v.toNat 12 16 }
    | 0x28 => if v.getLsbD 8 then s.askTest u (v.toNat % u.width) else s
    | _ => s

/-- ENT writes (file 10): a requested known-answer test falls due. -/
def State.writeEnt (s : State) (who : Initiator) (off : Nat) (v : W32) : State :=
  match off with
  | 0x34 => { s with ent := { s.ent with condDue := s.ent.condDue || v.getLsbD 0, expDue := s.ent.expDue || v.getLsbD 1 } }
  | 0x50 => after s (execRawCapture who v s)
  | _ => s

/-- GATE writes (file 13). -/
def State.writeGate (s : State) (who : Initiator) (off : Nat) (v : W32) : State :=
  let g := s.gate
  match off with
  | 0x08 => { s with gate := { g with pbase := bits v.toNat 0 15 } }
  | 0x0C => { s with gate := { g with pcount := bits v.toNat 0 15 } }
  | 0x10 => after s (execGatePset who v s)
  | 0x18 => { s with gate := { g with pqsel := bits v.toNat 0 15 } }
  | 0x20 => { s with gate := { g with gsel := bits v.toNat 0 10 } }
  | 0x24 => after s (execGateGset who v s)
  | _ => s

/-- MEM_ECCT_OP: a raw read, then a raw write. -/
def State.ecctOp (s : State) (who : Initiator) (v : W32) : State :=
  let t := if v.getLsbD 0 then after s (execEccTestRead who s) else s
  if v.getLsbD 1 then after t (execEccTestWrite who t) else t

/-- MEM writes (file 13). -/
def State.writeMem (s : State) (who : Initiator) (off : Nat) (v : W32) : State :=
  let m := s.mem
  if 0x100 ≤ off ∧ off < 0x11C then
    { s with mem := m.setCls ((off - 0x100) / 4) fun c => { c with limitMs := clamp 100 60000 (bits v.toNat 0 16) } }
  else
    match off with
    | 0x04 => { s with mem := { m with scrubEn := m.scrubEn ||| v.setWidth 7 } }
    | 0x08 => { s with mem := { m with periodS := bits v.toNat 0 12, starveMs := bits v.toNat 12 16 } }
    | 0x20 => after s (execMarchStart who v s)
    | 0x30 => { s with mem := { m with initBase := (v &&& 0xFFFFF000#32).toNat } }
    | 0x34 => after s (execMemInit who v s)
    | 0x40 => after s (execEccTestCtl who v s)
    | 0x48 => s.ecctOp who v
    | 0x50 => { s with mem := { m with ecctData := putWord m.ecctData false v } }
    | 0x54 => { s with mem := { m with ecctData := putWord m.ecctData true v } }
    | 0x58 => { s with mem := { m with ecctChk := (m.ecctChk.extractLsb' 32 8 : BitVec 8) ++ v } }
    | 0x5C => { s with mem := { m with ecctChk := (v.extractLsb' 0 8 : BitVec 8) ++ (m.ecctChk.extractLsb' 0 32 : W32) } }
    | 0x60 => after s (execConflictClear who v s)
    | _ => s

/-- LACE writes (file 14). -/
def State.writeLace (s : State) (who : Initiator) (off : Nat) (v : W32) : State :=
  let l := s.lace
  match off with
  | 0x08 => { s with lace := { l with holdMs := clamp 100 60000 (bits v.toNat 0 16) } }
  | 0x18 => { s with lace := { l with tlimLo := bits v.toNat 0 10, tlimHi := bits v.toNat 16 10 } }
  | 0x20 => { s with lace := { l with thresh := bits v.toNat 0 12 } }
  | 0x28 => { s with lace := { l with periodS := bits v.toNat 0 12 } }
  | 0x30 => after s (execStimulusRequest who v s)
  | 0x40 => { s with lace := { l with msel := bits v.toNat 0 16 } }
  | _ => s

/-- LCS writes (file 15): LOCKDENY is cleared by a 1. -/
def State.writeLcs (s : State) (who : Initiator) (off : Nat) (v : W32) : State :=
  match off with
  | 0x08 => after s (execLcsDbgenWrite who v s)
  | 0x10 => { s with lcs := { s.lcs with lockDeny := s.lcs.lockDeny && !v.getLsbD 1 } }
  | _ => s

/-- REC writes (file 16), in the initiator's bank. -/
def State.writeRec (s : State) (who : Initiator) (off : Nat) (v : W32) : State :=
  match off with
  | 0x20 => s.recWrite who fun k _ s => s.setRecBank k { s.rcd.bank k with cursor := bits v.toNat 0 13 }
  | 0x24 => after s (execRecSeek who v s)
  | 0x60 => after s (execRecPost who v s)
  | 0x64 => s.recWrite who fun k _ s => s.setRecBank k { s.rcd.bank k with postP0 := v }
  | 0x68 => s.recWrite who fun k _ s => s.setRecBank k { s.rcd.bank k with postP1 := v }
  | 0x6C => s.recWrite who fun k _ s => s.setRecBank k { s.rcd.bank k with postP2 := v }
  | _ => s

/-- BLK writes (file 17). -/
def State.writeBlk (s : State) (off : Nat) (v : W32) : State :=
  match off with
  | 0x10 => { s with blk := { s.blk with fwdTmo := max 100 (bits v.toNat 0 16), electWait := max 1 (bits v.toNat 16 8) } }
  | 0x40 => { s with blk := { s.blk with routeSel := bits v.toNat 0 12 } }
  | _ => s

/-- A write of SUPV_CTL (R361, R364, R367): the give-up of the supervisor in control, then the two fences. -/
def State.writeSupvCtl (s : State) (who : Initiator) (v : W32) : State :=
  match who with
  | .supervisor b =>
    let t := if v.getLsbD 0 ∧ s.controls b then after s (execSupvCtlGiveup b s) else s
    let u := after t (execSupvCtlFenceA who (v.getLsbD 1) t)
    after u (execSupvCtlFenceB who (v.getLsbD 2) u)
  | _ => s

/-- SUPV_SWSTAT.FRESH is cleared by a 1. -/
def State.clearFresh (s : State) (n : Nat) (v : W32) : State :=
  if n < s.part.workers ∧ v.getLsbD 4 then s.setWorker n { s.worker n with fresh := false } else s

/-- Bits of a pin register that an initiator may write (R348). -/
def maskedPins (old new mask : BitVec 16) : BitVec 16 := (old &&& ~~~mask) ||| (new &&& mask)

/-- SUPV_SWCFG's limits. -/
def watchLimit (n : Nat) : Nat := if n = 0 ∨ 1000 < n then 1000 else n

/-- SUPV writes (file 12). -/
def State.writeSupv (s : State) (who : Initiator) (off : Nat) (v : W32) : State :=
  let w := s.supv
  let n := off % 128 / 4
  if 0x100 ≤ off ∧ off < 0x140 then after s (execSupvWcolWrite who n v s)
  else if 0x200 ≤ off ∧ off < 0x240 then s.clearFresh n v
  else if 0x280 ≤ off ∧ off < 0x2C0 then after s (execSupvSwbeat who n s)
  else if 0x300 ≤ off ∧ off < 0x348 then after s (execSupvIrqwWrite who n v s)
  else
    match off with
    | 0x20 => s.writeSupvCtl who v
    | 0x28 => { s with supv := { w with swlimMs := watchLimit (bits v.toNat 0 10), restartUs := max 10 (bits v.toNat 10 16) } }
    | 0x30 => if v.getLsbD 4 then after s (execSupvSwctlDown who (bits v.toNat 0 4) s) else s
    | 0x38 => after s (execSupvPinwWrite who (v.setWidth 16) s)
    | 0x40 => { s with supv := { w with gpout := maskedPins w.gpout (v.setWidth 16) (s.gpMask who) } }
    | 0x44 => { s with supv := { w with gpoe := maskedPins w.gpoe (v.setWidth 16) (s.gpMask who) } }
    | 0x4C => after s (execSupvSwi who (bits v.toNat 0 5) (bits v.toNat 5 5) s)
    | _ => s

/-- BKD writes (file 14). -/
def State.writeBkd (s : State) (who : Initiator) (off : Nat) (v : W32) : State :=
  match off with
  | 0x10 => after s (execBkdIntrcfgWrite who (v.setWidth 16) s)
  | 0x30 => { s with bkd := { s.bkd with logsel := bits v.toNat 0 11 } }
  | _ => s

/-- A write that commits in its register. -/
def State.commit (s : State) (who : Initiator) (b off : Nat) (v : W32) : State :=
  match engineBlock b with
  | some u => s.writeEngine u off v
  | none =>
    match b with
    | 0x00 => s.writeSys off v
    | 0x01 => s.writePwr who off v
    | 0x04 => s.writeTwl off v
    | 0x05 => s.writeDmk who off v
    | 0x0A => s.writeEnt who off v
    | 0x0B => s.writeGate who off v
    | 0x0C => s.writeMem who off v
    | 0x0D => s.writeLace who off v
    | 0x0E => s.writeLcs who off v
    | 0x0F => s.writeRec who off v
    | 0x10 => s.writeBlk off v
    | 0x11 => s.writeSupv who off v
    | 0x12 => s.writeBkd who off v
    | _ => s

/-! ## A write -/

/-- A paired register receives its value, which waits for the complement; an older value of the same initiator goes. -/
def State.pairValue (s : State) (who : Initiator) (a : Nat) (v : W32) : State :=
  { s with rwp := (s.rwp.filter fun w => !(decide (w.who = who) && w.addr == a)) ++ [{ who := who, addr := a, value := v }] }

/-- A companion receives its word (R17): the exact inverse commits the waiting value, any other is an inverted-shadow
mismatch, and without a waiting value nothing happens. -/
def State.pairInverse (s : State) (who : Initiator) (a b off : Nat) (v : W32) : State :=
  match s.rwp.find? fun w => decide (w.who = who) && w.addr == a with
  | none => s
  | some w =>
    let t := { s with rwp := s.rwp.filter fun x => decide (x ≠ w) }
    if v = ~~~w.value then t.commit who b off w.value else t.shadowMismatch b off

/-- A 32-bit write to a register address: dropped where the initiator may not write, ignored where nothing is there. -/
def State.regWrite (s : State) (who : Initiator) (a : Nat) (v : W32) : State :=
  match blockOf a with
  | none => s
  | some (b, off) =>
    if s.mayWrite who b off = false then s.dropWrite who
    else if s.registerPresent b off = false then s
    else if isPaired b off then s.pairValue who a v
    else if 4 ≤ off ∧ isPaired b (off - 4) then s.pairInverse who (a - 4) b (off - 4) v
    else s.commit who b off v

/-- The address in a broadcast alias of an engine block's per-instance offset: its unit and instance 0's address (R18, R248). -/
def broadcastOf (a : Nat) : Option (EngUnit × Nat) :=
  if 0xE0000000 ≤ a ∧ a < 0xE0130000 then
    match blockOf (a - 0x20000000) with
    | some (b, off) => if 0x1000 ≤ off ∧ off < 0x1400 then (engineBlock b).map fun u => (u, a - 0x20000000) else none
    | none => none
  else none

/-- A broadcast write reaches every present instance that BGRP selects (R18, R248). -/
def State.broadcast (s : State) (who : Initiator) (a : Nat) (v : W32) : State :=
  match broadcastOf a with
  | none => s
  | some (u, base) =>
    ((List.range (s.part.count u)).filter fun n => (s.engine u).bgrp.getLsbD n).foldl
      (fun t n => t.regWrite who (base + 0x400 * n) v) s

/-- A write to any address of the register space. -/
def State.deviceWrite (s : State) (who : Initiator) (a : Nat) (v : W32) : State :=
  if 0xE0000000 ≤ a then s.broadcast who a v else s.regWrite who a v

/-! ## The host's pages (R29, R86–R96) -/

/-- Set a ring base, only while the queue pair reads ENABLED 0 (R94). -/
def State.setBase (s : State) (t q : Nat) (f : QPair → QPair) : State :=
  if s.doorbell t q ∧ (s.qp t q).enabled = false then s.setQp t q (f (s.qp t q)) else s

/-- A write to a tenant's doorbell page. -/
def State.writeDoorbell (s : State) (portB : Bool) (t off : Nat) (v : W32) : State :=
  let q := off / 32
  if off < 0x200 then
    match off % 32 with
    | 0x00 => s.setBase t q fun x => { x with sqBase := putWord x.sqBase false v }
    | 0x04 => s.setBase t q fun x => { x with sqBase := putWord x.sqBase true v }
    | 0x08 => s.setBase t q fun x => { x with cqBase := putWord x.cqBase false v }
    | 0x0C => s.setBase t q fun x => { x with cqBase := putWord x.cqBase true v }
    | 0x10 => if v.getLsbD 0 then after s (execDbQctlEnable portB t q v s) else after s (execDbQctlDisable portB t q v s)
    | 0x14 => after s (execDbSqtailWrite t q v s)
    | 0x18 => after s (execDbCqheadWrite t q v s)
    | _ => s
  else
    match off with
    | 0x404 => after s (execDbTresetWrite t v s)
    | 0x408 =>
      let x := s.tenant t
      if x.state = .absent then s else s.setTenant t { x with faultQp := x.faultQp &&& ~~~(v.setWidth 16) }
    | _ => s

/-- A write to an MSI-X table entry; a pending vector that is unmasked is signalled (PRESUMED: PCIe, log 46). -/
def State.writeMsix (s : State) (portB : Bool) (off : Nat) (v : W32) : State :=
  let k := off / 16
  let p := s.port portB
  let x := SMap.get MsixEntry.reset p.msix k
  let y : MsixEntry :=
    match off % 16 with
    | 0x00 => { x with addr := putWord x.addr false v }
    | 0x04 => { x with addr := putWord x.addr true v }
    | 0x08 => { x with data := v }
    | 0x0C => { x with masked := v.getLsbD 0 }
    | _ => x
  let t := s.setPort portB { p with msix := SMap.set MsixEntry.reset p.msix k y }
  if y.masked = false ∧ p.pba.contains k then
    let u := t.setPort portB { t.port portB with pba := p.pba.filter (· != k) }
    u.signal portB (k / 8) (k % 8)
  else t

/-- The SYS registers the host may write through BAR2 (R87). -/
def barWritable (mode : Mode) (off : Nat) : Bool :=
  (decide (mode = Mode.boot) && (decide (off = 0x80) || decide (off = 0x84) || decide (off = 0x88) || decide (off = 0x8C)))
    || decide (off = 0x20)

/-- A write through BAR2 (R87, R88): a paired register takes its companion only in the same 8-byte write. -/
def State.writeBar2 (s : State) (portB : Bool) (off : Nat) (v : W32) (hi : Option W32) : State :=
  let who := Initiator.host portB
  if 0x8000 ≤ off ∧ off < 0x10000 then
    let t := s.writeMsix portB (off - 0x8000) v
    match hi with
    | some w => t.writeMsix portB (off + 4 - 0x8000) w
    | none => t
  else if off = 0x18 then
    let t := s.regWrite who 0xC0000018 v
    match hi with
    | some w => t.regWrite who 0xC000001C w
    | none => t
  else
    let t := if barWritable s.sys.mode off then s.regWrite who (0xC0000000 + off) v else s
    match hi with
    | some w => if barWritable t.sys.mode (off + 4) then t.regWrite who (0xC0000000 + off + 4) w else t
    | none => t

/-- The port's function can be reached: its tunnel is up and it is no downstream-facing port. -/
def State.functionUp (s : State) (portB : Bool) : Bool :=
  s.onMain && (s.port portB).tunnel && !(s.port portB).downstream

/-! ## The commands -/

/-- REGISTER_WRITE (R3, R15–R17, R87, R88): an aligned 4-byte write, or an 8-byte one whose second word is `hi`. -/
def execRegisterWrite (who : Initiator) (p : RegPlace) (v : W32) (hi : Option W32) (s : State) :
    Host.Outcome State Fault Refusal :=
  .next (
    match p with
    | .dev a =>
      if s.onMain ∧ a % 4 = 0 then
        let t := s.deviceWrite who a v
        match hi with
        | some w => t.deviceWrite who (a + 4) w
        | none => t
      else s
    | .bar0 portB off =>
      if s.functionUp portB ∧ off < 0x100000 ∧ off % 4 = 0 then
        let t := s.writeDoorbell portB (off / 0x1000) (off % 0x1000) v
        match hi with
        | some w => t.writeDoorbell portB (off / 0x1000) (off % 0x1000 + 4) w
        | none => t
      else s
    | .bar2 portB off => if s.functionUp portB ∧ off < 0x10000 ∧ off % 4 = 0 then s.writeBar2 portB off v hi else s)

/-- RWP_COMPLEMENT_TIMEOUT (R17): the waiting write of a paired register is discarded and recorded. -/
def execRwpComplementTimeout (addr : Nat) (s : State) : Host.Outcome State Fault Refusal :=
  .next (
    match s.rwp.find? fun w => w.addr == addr, blockOf addr with
    | some w, some (b, off) => { s with rwp := s.rwp.filter fun x => decide (x ≠ w) }.offer 0x0005 b off 0
    | _, _ => s)

/-- BROADCAST_WRITE (R18, R248). -/
def execBroadcastWrite (who : Initiator) (addr : Nat) (v : W32) (s : State) : Host.Outcome State Fault Refusal :=
  .next (if s.onMain then s.broadcast who addr v else s)

end Sys2Proof.Machine
end

