-- ==== Sys2Proof/Machine/Zynkel.lean ====
section
/-! DEFINITION. How a Zynkel core issues a word: fetch, decode, exceptions, loads and stores, and the effect of each kind of
operation (R317–R344). -/

namespace Sys2Proof.Machine

/-! ## Readiness -/

/-- Core `n` exists on this part. -/
def State.coreFitted (s : State) (n : Nat) : Bool := decide (n < s.part.workers) || decide (n = 16) || decide (n = 17)

/-- The core runs: it has left reset and its island has clock and power. -/
def State.coreRuns (s : State) (n : Nat) : Bool :=
  s.onMain && s.coreFitted n && (s.core n).started && (decide (16 ≤ n) || s.islandServes (n / 4 + 1))

/-- Not halted by a double fault nor stalled in WFE. -/
def ZCore.awake (c : ZCore) : Bool := !c.cur.halted && !c.wfe

/-- Halted by the debugger (R440). -/
def State.debugHalted (s : State) (n : Nat) : Bool := s.lcs.halted.getLsbD n

/-- The core issues its next word. -/
def State.mayIssue (s : State) (n : Nat) : Bool := s.coreRuns n && (s.core n).awake && !s.debugHalted n

/-- A supervisor core. -/
def isSupv (n : Nat) : Bool := !isWorker n

/-- The core as an initiator of register accesses. -/
def coreWho (n : Nat) (w : World) : Initiator := if isWorker n then .worker n w else .supervisor (decide (n = 17))

/-- The PC as a 32-bit address. -/
def ZCore.pc32 (c : ZCore) : W32 := c.cur.pc.setWidth 32

/-- A word's cycles pass (R325); where the stalls of its accesses decide them, their number is free, and at least 1 (assumption
logs 3 and 168). -/
def State.tickCore (s : State) (n : Nat) (k : Option Nat) : State :=
  { s.setCore n ((s.core n).pass (k.getD (1 + Config.freshNat s.fresh))) with fresh := s.fresh + 1 }

/-- The current world's PC. -/
def State.setPc (s : State) (n : Nat) (pc : W64) : State :=
  let c := s.core n
  s.setCore n (c.setCur { c.cur with pc := pc })

/-- The word is done and the next follows it. -/
def State.retireWord (s : State) (n : Nat) (k : Option Nat) : State := (s.setPc n ((s.core n).cur.pc + 8)).tickCore n k

/-! ## Fetch (R333) -/

/-- The page of a fetch address carries the core's world. -/
def State.fetchable (s : State) (w : World) (pc : W64) : Bool :=
  let a := pc.toNat
  decide (a % 8 = 0) && decide (0x10000000 ≤ a) && decide (a < 0x10800000)
    && (decide (w = World.normal) == s.zyn.imemNormal.contains ((a - 0x10000000) / 4096))

/-- FETCH: the exception of a word that cannot be fetched; an uncorrectable error is recorded as well. -/
def State.fetchFault (s : State) (n : Nat) : Option State :=
  let c := s.core n
  let a := c.cur.pc.toNat
  if s.fetchable c.world c.cur.pc = false then some (s.exception n 0 0x03 2 c.pc32)
  else
    match s.mem.badByte a 8 with
    | some x => some ((s.noteUncorrectable x 0 n).exception n 0 0x03 2 c.pc32)
    | none => none

/-! ## The store buffer (R330–R332) -/

/-- The bytes of an address range as the store buffer has them, the youngest store last. -/
def buffered (l : List StoreEntry) (a : Nat) : Option Byte :=
  l.foldl (fun r e => if e.addr ≤ a ∧ a < e.addr + e.data.length then e.data[a - e.addr]? else r) none

/-- Read bytes with the buffered ones over them. -/
def overlay (l : List StoreEntry) (a : Nat) (b : Bytes) : Bytes :=
  (List.range b.length).zip b |>.map fun p => (buffered l (a + p.1)).getD p.2

/-- The store buffer holds every byte of a range. -/
def allBuffered (l : List StoreEntry) (a n : Nat) : Bool := (List.range n).all fun k => (buffered l (a + k)).isSome

/-- A failed store is due: it is of the current world, whose INTRAP is 0 (R332). -/
def ZCore.storeDue (c : ZCore) : Option Nat :=
  match c.storeFault with
  | some (a, w) => if w = c.world ∧ c.cur.intrap = false ∧ c.cur.halted = false then some a else none
  | none => none

/-- STORE is taken: TPC names the word at the PC (R332, R340). -/
def State.takeStore (s : State) (n a : Nat) : State :=
  let c := s.core n
  s.setCore n ({ c with storeFault := none }.enterTrap c.world 1 0x09 2 c.pc32 (BitVec.ofNat 32 a))

/-- A buffered store leaves the buffer with its fault kept for STORE; a fault already waiting stays (assumption log 74). -/
def State.failStore (s : State) (n : Nat) (e : StoreEntry) : State :=
  let c := s.core n
  s.setCore n { c with storeFault := c.storeFault <|> some (e.addr, e.world) }

/-! ## Loads and stores (R329–R332) -/

/-- What a memory operation comes to before its word commits. -/
inductive MemResult where
  /-- It is done; a load has its value. -/
  | done (s : State) (v : Option W64)
  /-- It stalls: the word has not issued. -/
  | stall (s : State)
  /-- It raises an exception. -/
  | fault (s : State) (cause : Nat)
  deriving DecidableEq, Repr

/-- The checks of R329 on an address: 0 none, else ADDRESS or ALIGN. ADDRESS comes first (assumption log 71). -/
def addressFault (a : W64) (size : Nat) : Nat :=
  let x := a.toNat
  if 2 ^ 32 ≤ x ∨ mapped x = false ∨ (isRegister x ∧ size ≠ 4 ∧ size ≠ 8) then 0x05
  else if x % size ≠ 0 then 0x04
  else 0

/-- A register load: one register, or two consecutive ones low first (R329). -/
def State.loadRegister (s : State) (who : Initiator) (a size : Nat) : State × Option Bytes :=
  match s.regRead who a with
  | (t, none) => (t, none)
  | (t, some lo) =>
    if size = 4 then (t, some (leBytes 4 lo.toNat))
    else
      match t.regRead who (a + 4) with
      | (u, none) => (u, none)
      | (u, some hi) => (u, some (leBytes 4 lo.toNat ++ leBytes 4 hi.toNat))

/-- A load of core `n` (R329–R331): `busy` says that its bank answered BUSY nine times. A bank that the March engine has holds it
(R383); an uncorrectable error in a supervisor's own SUP part fails that supervisor's check 2 (R377). -/
def State.loadAt (s : State) (n : Nat) (a : W64) (size : Nat) (signed busy : Bool) : MemResult :=
  let c := s.core n
  let x := a.toNat
  let f := addressFault a size
  if f ≠ 0 then .fault s f
  else if isRegister x then
    if allBuffered c.stores x size then .done s (some (extend size signed (overlay c.stores x (zeros size))))
    else
      match s.loadRegister (coreWho n c.world) x size with
      | (t, none) => .stall t
      | (t, some b) => .done t (some (extend size signed (overlay c.stores x b)))
  else
    let d := s.coreDenial n c.world (s.coreColour n c.world) x false
    if d ≠ 0 then .fault (s.noteDenial n c.world false false x d) 0x06
    else if allBuffered c.stores x size then .done s (some (extend size signed (overlay c.stores x (zeros size))))
    else if s.marchHolds x then .stall (s.noteConflicts n x 1)
    else if busy then .fault (s.noteConflicts n x 9) 0x08
    else
      match s.readWord x size n with
      | (t, none) => .fault (t.failSupPart x) 0x07
      | (t, some b) => .done t (some (extend size signed (overlay c.stores x b)))

/-- A store of core `n` enters the buffer; a full buffer stalls the word (R328, R330). -/
def State.storeAt (s : State) (n : Nat) (a : W64) (b : Bytes) : MemResult :=
  let c := s.core n
  let f := addressFault a b.length
  if f ≠ 0 then .fault s f
  else if 8 ≤ c.stores.length then .stall s
  else
    .done (s.setCore n { c with stores := c.stores
                                  ++ [{ addr := a.toNat, data := b, world := c.world, colour := s.coreColour n c.world }] })
      none

/-- The memory operation of an operation whose guard is true; the others do none. -/
def State.memOp (s : State) (n : Nat) (o : ZOp) (busy : Bool) : MemResult :=
  let b := (s.core n).cur
  if b.guard o.a = false then .done s none
  else
    match o.kind.load, o.kind.store with
    | some (size, signed), _ => s.loadAt n (o.address b size) size signed busy
    | none, some size => s.storeAt n (o.address b size) (o.data b size)
    | none, none => .done s none

/-- The address a memory operation names, for ZCR_TADDR. -/
def ZOp.taddr (o : ZOp) (b : ZBank) : W32 :=
  match o.kind.load, o.kind.store with
  | some (size, _), _ => (o.address b size).setWidth 32
  | none, some size => (o.address b size).setWidth 32
  | none, none => 0

/-- One store retires (R330): the gate of its target judges it under the colour and world it was issued with. At a register
block what is not admitted is dropped in silence (R390). -/
def State.retireStore (s : State) (n : Nat) (busy : Bool) : State :=
  let c := s.core n
  match c.stores with
  | [] => s
  | e :: t =>
    let s1 := s.setCore n { c with stores := t }
    if isRegister e.addr then
      let who := coreWho n e.world
      let s2 := s1.deviceWrite who e.addr (BitVec.ofNat 32 (leAt e.data 0 4))
      if e.data.length = 8 then s2.deviceWrite who (e.addr + 4) (BitVec.ofNat 32 (leAt e.data 4 4)) else s2
    else
      let d := s1.coreDenial n e.world e.colour e.addr true
      if d ≠ 0 then (s1.noteDenial n e.world true false e.addr d).failStore n e
      else if s.marchHolds e.addr then s.noteConflicts n e.addr 1
      else if busy then (s1.noteConflicts n e.addr 9).failStore n e
      else s1.poke e.addr e.data

/-! ## Control registers (R343) -/

/-- Lines of a world of a core. -/
def State.worldLines (s : State) (n : Nat) (w : World) : W32 :=
  let sec := if isWorker n then s.irqWorlds n ||| 1#32 else 0xFFFFFFFF#32
  match w with
  | .secure => sec
  | .normal => ~~~sec

/-- What a control register reads on a core in its current world. -/
def State.controlRead (s : State) (n r : Nat) : W32 :=
  let c := s.core n
  let b := c.cur
  match r with
  | 0x000 => if isWorker n then BitVec.ofNat 32 (n + 16 * (n / 4)) else BitVec.ofNat 32 (n - 16 + 64)
  | 0x001 => BitVec.ofNat 32 (flag b.irqon + 4 * flag b.intrap + 8 * flag b.event + 256 * flag (decide (c.world = World.secure)))
  | 0x002 => b.tbase &&& 0xFFFFFF00#32
  | 0x003 => b.tpc &&& 0xFFFFFFF8#32
  | 0x004 => BitVec.ofNat 32 (b.tcause % 256 + 256 * (b.tslot % 4))
  | 0x005 => b.taddr
  | 0x006 => b.imask &&& s.worldLines n c.world
  | 0x007 => b.ipend &&& s.worldLines n c.world
  | 0x008 => BitVec.ofNat 32 c.cycle
  | 0x009 => c.cycLatch
  | 0x010 => c.nepc &&& 0xFFFFFFF8#32
  | 0x011 => c.sentry &&& 0xFFFFFFF8#32
  | 0x012 => BitVec.ofNat 32 (c.scnum % 65536)
  | 0x013 => BitVec.ofNat 32 (twillBox n)
  | _ => 0

/-- A read of ZCR_CYCLE_LO latches ZCR_CYCLE_HI. -/
def ZCore.readLatch (c : ZCore) (r : Nat) : ZCore :=
  if r = 0x008 then { c with cycLatch := BitVec.ofNat 32 (c.cycle / 2 ^ 32) } else c

/-- A write of a control register; the read-only ones ignore it. A secure world that sets IRQON is ready for the interrupts
that its restart held (R353). -/
def State.controlWrite (s : State) (n r : Nat) (v : W32) : ZCore :=
  let c := s.core n
  let b := c.cur
  match r with
  | 0x001 =>
    let d := c.setCur { b with irqon := v.getLsbD 0, intrap := v.getLsbD 2 }
    if c.world = .secure ∧ v.getLsbD 0 then { d with irqHeld := false } else d
  | 0x002 => c.setCur { b with tbase := v &&& 0xFFFFFF00#32 }
  | 0x003 => c.setCur { b with tpc := v &&& 0xFFFFFFF8#32 }
  | 0x006 => c.setCur { b with imask := v &&& s.worldLines n c.world }
  | 0x010 => { c with nepc := v &&& 0xFFFFFFF8#32 }
  | 0x011 => { c with sentry := v &&& 0xFFFFFFF8#32 }
  | _ => c

/-! ## Interrupts (R338, R341) -/

/-- Lines of a world pending and enabled. -/
def State.pendingLines (s : State) (n : Nat) (w : World) : W32 :=
  let b := (s.core n).bank w
  b.ipend &&& b.imask &&& s.worldLines n w

/-- The lowest line of a set. -/
def lowestLine (x : W32) : Option Nat := (List.range 32).find? fun k => x.getLsbD k

/-- The core's own world takes its interrupts. -/
def ZCore.takesOwn (c : ZCore) : Bool :=
  c.cur.irqon && !c.cur.intrap && !c.cur.halted && !(decide (c.world = World.secure) && c.irqHeld)

/-- Secure lines of a core in its normal world are taken at once, while its secure world is up and not held (R336, R353). -/
def State.takesSecure (s : State) (n : Nat) : Bool :=
  isWorker n && decide ((s.core n).world = World.normal) && decide ((s.worker n).sw = SwState.up) && !(s.core n).irqHeld

/-- The line the core takes next: its world and number, the lowest of those it would take. -/
def State.takable (s : State) (n : Nat) : Option (World × Nat) :=
  let c := s.core n
  let own := if c.takesOwn then s.pendingLines n c.world else 0
  let sec := if s.takesSecure n then s.pendingLines n .secure else 0
  (lowestLine (own ||| sec)).map fun k => (s.lineWorld n k, k)

/-- Clear a line's pending bit as it is taken (assumption log 76). -/
def ZBank.clearPend (b : ZBank) (k : Nat) : ZBank := { b with ipend := b.ipend &&& ~~~(1#32 <<< k) }

/-- A secure line is taken from the normal world: ZCR_NEPC names the next normal word, and the normal world's trap registers
stay (R341). -/
def ZCore.takeSecure (c : ZCore) (k : Nat) : ZCore :=
  let d := { c with nepc := c.pc32 &&& 0xFFFFFFF8#32, bySCall := false }
  (d.setBank .secure (d.secure.clearPend k)).enterTrap .secure 2 (0x20 + k) 2 c.pc32 0

/-- A line of the core's own world is taken; a WFE it ends completes first (R338). -/
def ZCore.takeOwn (c : ZCore) (k : Nat) : ZCore :=
  let b := if c.wfe then { c.cur with event := false, pc := c.cur.pc + 8 } else c.cur
  (c.setCur (b.clearPend k)).enterTrap c.world 2 (0x20 + k) 2 (b.pc.setWidth 32) 0

/-! ## World calls (R334–R336) -/

/-- SCALL with the guard true: into the secure world, into a restarted one, or SERVICE_UNAVAILABLE while it is down. -/
def State.scall (s : State) (n num : Nat) : State :=
  let c := s.core n
  let b := c.cur
  let next : W32 := (b.pc + 8#64).setWidth 32
  match (s.worker n).sw with
  | .up =>
    let sec := b.copyArgs { c.secure with pc := c.sentry.setWidth 64 }
    s.setCore n { c with nepc := next, scnum := num, bySCall := true, world := .secure, secure := sec }
  | .pending => (s.setCore n { c with nepc := next, bySCall := true }).enterRestarted n num b
  | _ => s.setCore n (c.setCur { b.setG 1 0x501#64 with pc := b.pc + 8 })

/-- The secure world is down, so that a SCALL is answered at once (R336). -/
def State.scallDown (s : State) (n : Nat) : Bool :=
  match (s.worker n).sw with
  | .up => false
  | .pending => false
  | _ => true

/-- SRET with the guard true: into the normal world at ZCR_NEPC, with g1 to g8 where COPY is 1. A halted normal world runs
again (R342), and the secure world's watchdog starts again with its next entry (R351). -/
def State.sret (s : State) (n : Nat) (copy : Bool) : State :=
  let c := s.core n
  let b := if copy then c.secure.copyArgs c.normal else c.normal
  (s.setCore n { c with
    world := .normal, bySCall := false
    secure := { c.secure with pc := c.secure.pc + 8 }
    normal := { b with pc := c.nepc.setWidth 64, halted := false } }).clearWatch n

/-! ## Mailboxes (R125, R337) -/

/-- The mailbox a core's MSUB may name at an address: its unit number in `Mailbox`. -/
def boxAt (n a : Nat) : Option Nat :=
  if isWorker n then ((mailboxesOf n).find? fun x => x.2.1 == a).map (·.1)
  else (privilegedBoxes.findIdx? fun x => x.1 == a).map (6 + ·)

/-- The mailbox of a core at an address; the memory of an absent instance holds none (R294). -/
def State.boxAt (s : State) (n a : Nat) : Option Nat := if s.absentBank a then none else Machine.boxAt n a

/-- A mailbox of a core. -/
def State.box (s : State) (n u : Nat) : Mailbox := SMap.get Mailbox.reset s.zyn.boxes (64 * n + u)

/-- Replace it. -/
def State.setBox (s : State) (n u : Nat) (m : Mailbox) : State :=
  { s with zyn := { s.zyn with boxes := SMap.set Mailbox.reset s.zyn.boxes (64 * n + u) m } }

/-- The descriptor that 64 bytes spell (R97). -/
def descAt (b : Bytes) : Desc :=
  { opcode := leAt b 0 2, flags := BitVec.ofNat 16 (leAt b 2 2), cid := BitVec.ofNat 32 (leAt b 4 4),
    ctx := BitVec.ofNat 32 (leAt b 8 4), tmoUs := leAt b 12 2, rsvd := leAt b 14 2, key0 := BitVec.ofNat 64 (leAt b 16 8),
    key1 := BitVec.ofNat 64 (leAt b 24 8), inAddr := BitVec.ofNat 64 (leAt b 32 8), outAddr := BitVec.ofNat 64 (leAt b 40 8),
    inLen := leAt b 48 4, outLen := leAt b 52 4, param := BitVec.ofNat 64 (leAt b 56 8) }

/-- A scatter list entry that 16 bytes spell (R98). -/
def sgeAt (b : Bytes) : Sge := { addr := BitVec.ofNat 64 (leAt b 0 8), len := leAt b 8 4, flags := leAt b 12 4 }

/-- Entries of a scatter list up to LAST, at most 256 (R98). -/
def State.sglFrom (s : State) (a : Nat) : Nat → List Sge
  | 0 => []
  | k + 1 =>
    let e := sgeAt (s.mem.read a 16)
    if e.flags % 2 = 1 then [e] else e :: s.sglFrom (a + 16) k

/-- The master number of the unit that serves a mailbox (R375): Calico 20, Serge 21, Tulle 22, Twill 18. -/
def boxMaster (u : Nat) : Nat := if u = 5 then 18 else 20 + u

/-- Why a place is denied to a worker's secure world as a buffer of a mailbox command; 0 permitted. Buffers lie in WORK
(R125), so any other place is out of reach. -/
def State.workDenial (s : State) (n x : Nat) (write : Bool) : Nat :=
  if classOf x ≠ some 1 then 1
  else
    match pageOf x with
    | some p => s.pageDenial (.core .secure (s.coreColour n .secure)) p write
    | none => 1

/-- A byte range cut at the 4 KiB boundaries (R389). -/
def pageParts (a len : Nat) : List (Nat × Nat) :=
  ((List.range (len / 4096 + 2)).map fun k =>
      let lo := if k = 0 then a else (a / 4096 + k) * 4096
      (lo, min (a + len) ((a / 4096 + k + 1) * 4096) - lo)).filter fun x => decide (0 < x.2)

/-- The chunks of a buffer: one range, or those of its scatter list. -/
def bufferParts (sgl : Bool) (l : List Sge) (a len : Nat) : List (Nat × Nat) :=
  if sgl then l.flatMap fun e => pageParts e.addr.toNat e.len else pageParts a len

/-- The unit writes one part of a worker's buffer: a permitted part commits, a denied one is dropped and recorded (R389,
R390). -/
def State.writePart (s : State) (n u a : Nat) (b : Bytes) : State :=
  let d := s.workDenial n a true
  if d = 0 then s.poke a b else s.noteDenial (boxMaster u) .secure true false a d

/-- The unit writes an output over the parts of a worker's buffer. -/
def State.writeParts (s : State) (n u : Nat) : List (Nat × Nat) → Bytes → State
  | [], _ => s
  | x :: t, b => if b = [] then s else (s.writePart n u x.1 (b.take x.2)).writeParts n u t (b.drop x.2)

/-- Every part of an output that would be written is permitted. -/
def State.partsOk (s : State) (n : Nat) : List (Nat × Nat) → Nat → Bool
  | [], _ => true
  | x :: t, len => decide (len = 0) || (decide (s.workDenial n x.1 true = 0) && s.partsOk n t (len - x.2))

/-- The unit reads a range of WORK with its single-bit errors corrected; `none`, with the error recorded, where one cannot be
(R376, R377). -/
def State.readWork (s : State) (u a n : Nat) : State × Option Bytes :=
  match s.mem.badByte a n with
  | some x => (s.noteUncorrectable x 0 (boxMaster u), none)
  | none =>
    let words := (List.range ((a % 8 + n + 7) / 8)).map fun k => a - a % 8 + 8 * k
    let t := words.foldl (fun t w => t.noteCorrected 1 (s.mem.badSingles (max a w) (min (a + n) (w + 8) - max a w)) w true) s
    (t, some ((List.range n).map fun k => s.mem.fixByte (a + k) (s.mem.readByte (a + k))))

/-- What came of reading an input: whether a part was denied, and whether one could not be corrected. -/
structure ReadParts where
  bytes : Bytes
  denied : Bool
  spoilt : Bool
  deriving DecidableEq, Repr

/-- A part in front of others; its bytes are zeros where it was not read. -/
def ReadParts.cons (x : ReadParts) (b : Option Bytes) (n : Nat) (denied : Bool) : ReadParts :=
  { bytes := b.getD (zeros n) ++ x.bytes, denied := denied || x.denied, spoilt := (!denied && b.isNone) || x.spoilt }

/-- The unit reads an input of a worker, part by part (R389). -/
def State.readParts (s : State) (n u : Nat) : List (Nat × Nat) → State × ReadParts
  | [] => (s, { bytes := [], denied := false, spoilt := false })
  | x :: t =>
    let d := s.workDenial n x.1 false
    let p := if d = 0 then s.readWork u x.1 x.2 else (s.noteDenial (boxMaster u) .secure false false x.1 d, none)
    let r := p.1.readParts n u t
    (r.1, r.2.cons p.2 x.2 (decide (d ≠ 0)))

end Sys2Proof.Machine
end

