-- ==== Sys2Proof/WellFormed.lean ====
section
/-! DEFINITION. Which operands of a command are well formed: the ranges the spec gives the numbers a command names.
An ill-formed command is one the spec gives no place for; its meaning has no effect (assumption log 1). -/

namespace Sys2Proof

/-- A Zynkel operation's fields fit their widths (R318, R319). -/
def ZArgs.wf (a : ZArgs) : Bool := a.gp < 8 && a.rd < 64 && a.rs1 < 64 && a.rs2 < 64

/-- A slot fits its 31 bits; its immediate is its RS2 field, and `imm` holds its three spare bits (R319). -/
def ZMate.wfSlot (m : ZMate) : Bool := m.opc < 64 && m.args.wf && m.args.imm.toNat < 8

/-- A long operation fits its fields (R318). -/
def ZMate.wfLong (m : ZMate) : Bool := m.opc < 1024 && m.args.wf && m.args.imm.toNat < 2 ^ 31

/-- An instruction word can be encoded (R317). -/
def ZWord.wf : ZWord → Bool
  | .long m => m.wfLong
  | .paired _ x y => x.wfSlot && y.wfSlot

/-- An operation and what stands beside it in its word can be encoded. -/
def ZForm.wf (a : ZArgs) : ZForm → Bool
  | .long => a.wf && a.imm.toNat < 2 ^ 31
  | .slotX m => a.wf && a.imm.toNat < 8 && m.wfSlot
  | .slotY m => a.wf && a.imm.toNat < 8 && m.wfSlot

/-- A submission's source names a tenant below 256, a queue pair below 16, a worker's mailbox unit (R94, R112, R125). -/
def Src.wf : Src → Bool
  | .host t q k => t < 256 && q < 16 && k < 65536
  | .mailbox w t u => w < 16 && t < 256 && (u < 3 || u == 5)
  | .fabric a _ t => a < 65536 && t < 256

/-- A descriptor's numbers fit their fields (R97). -/
def Desc.wf (d : Desc) : Bool :=
  d.opcode < 65536 && d.tmoUs < 65536 && d.rsvd < 65536 && d.inLen < 2 ^ 32 && d.outLen < 2 ^ 32

/-- A scatter list entry's numbers fit their fields (R98). -/
def Sge.wf (e : Sge) : Bool := e.len < 2 ^ 32 && e.flags < 2 ^ 32

/-- A submission is well formed: its input, where it can be read, has the descriptor's length (R97). -/
def Req.wf (r : Req) : Bool :=
  r.src.wf && r.desc.wf && r.inSgl.all Sge.wf && r.outSgl.all Sge.wf && (!r.inOk || r.input.length == r.desc.inLen)

/-- An engine operation's source is well formed: up to 4,096 instances of up to 32 steps (R126, R132). -/
def EngSrc.wf : EngSrc → Bool
  | .raw r => r.wf
  | .step n st => n < 4096 && st < 32

/-- An initiator that the device can have: workers 0 to 15 (R1). -/
def Initiator.wf : Initiator → Bool
  | .worker n _ => n < 16
  | _ => true

/-- A frame's numbers fit their fields; a message has at most 256 KiB (R460). -/
def Frame.wf (f : Frame) : Bool :=
  f.ftype < 256 && f.dst < 65536 && f.src < 65536 && f.ttl < 256 && f.payload.length ≤ 262144
/-! ## Commands -/

/-- A command's numbers lie in the ranges the spec gives them. -/
def Instr.wf : Instr → Bool
  | .vinValid => true
  | .mainDomainStart _ => true
  | .vinLoss => true
  | .resetN _ => true
  | .oscillatorCalibration => true
  | .cellInserted => true
  | .holdupCharged => true
  | .usb2Attach _ => true
  | .usb4LinkUp _ _ _ _ => true
  | .usb4LinkLoss _ => true
  | .fwDownloadGo => true
  | .usb2FwTransfer _ => true
  | .fwImageReceived _ => true
  | .fwDownloadFailure => true
  | .structureImageApplied => true
  | .loadRootGenerate => true
  | .loadEnd => true
  | .downstreamRouterAttach _ => true
  | .thermalTrip sensor _ => sensor < 32
  | .thermalTripAbort isl => isl < 19
  | .thermalHoldCheck _ => true
  | .pwrTrippedClear who _ => who.wf
  | .pwrLeaseWrite who _ => who.wf
  | .islandRun _ isl => isl < 19
  | .islandClockGate _ isl => isl < 19
  | .islandPowerGate _ isl => isl < 19
  | .islandGateDone isl => isl < 19
  | .modereqDrain _ => true
  | .drainLimitExpiry => true
  | .drainToOff => true
  | .drainToLoad => true
  | .drainToBoot _ => true
  | .registerWrite who _ _ _ => who.wf
  | .rwpComplementTimeout _ => true
  | .broadcastWrite who _ _ => who.wf
  | .pcieFunctionReset _ => true
  | .dbQctlEnable _ t q _ => t < 256 && q < 16
  | .dbQctlDisable _ t q _ => t < 256 && q < 16
  | .dbSqtailWrite t q _ => t < 256 && q < 16
  | .dbCqheadWrite t q _ => t < 256 && q < 16
  | .dbTresetWrite t _ => t < 256
  | .sqEntryConsume t q _ => t < 256 && q < 16
  | .supervisorCycle => true
  | .completionItimeExpiry t q => t < 256 && q < 16
  | .overloadRecord t => t < 256
  | .tenantCreate r => r.wf
  | .tenantDestroy r => r.wf
  | .tenantReset r => r.wf
  | .tenantQuery r => r.wf
  | .tenantList r => r.wf
  | .imageQuery r => r.wf
  | .imageChallenge r => r.wf
  | .imageBegin r seq _ => r.wf && seq < 2 ^ 32
  | .imageData r _ => r.wf
  | .imageCommit r => r.wf
  | .replicaRetry _ => true
  | .imageAbort r => r.wf
  | .imageRead r _ _ _ => r.wf
  | .imageApply r => r.wf
  | .imageSessionTimeout => true
  | .imageChallengeLapse => true
  | .recipeRun r => r.wf
  | .recipeLoadingDone _ => true
  | .stepDispatch _ st => st < 32
  | .stepResolve _ st => st < 32
  | .recipeTimeout _ => true
  | .twillMaskReseed => true
  | .twillSuspensionRequest _ st => st < 32
  | .panExtract _ st => st < 32
  | .pinbParse _ st => st < 32
  | .pinbBuild _ st => st < 32
  | .decimalise _ st => st < 32
  | .digitSelect _ st => st < 32
  | .pad _ st => st < 32
  | .compare _ st => st < 32
  | .branch _ st => st < 32
  | .child _ st => st < 32
  | .keyblockImport r => r.wf
  | .keyblockExport r => r.wf
  | .keyCheckValue r => r.wf
  | .nodeCreate r => r.wf
  | .nodeDelete r => r.wf
  | .nodeQuery r => r.wf
  | .keyGenerate r => r.wf
  | .leafDelete r => r.wf
  | .leafRetire r => r.wf
  | .pubkeyRead r => r.wf
  | .counterQuery r => r.wf
  | .ctxInit r => r.wf
  | .ctxClear r => r.wf
  | .ctxExport r => r.wf
  | .ctxImport r => r.wf
  | .ctxQuery r => r.wf
  | .dmkLockWrite who _ => who.wf
  | .dmkFlushTenant who t => who.wf && t < 256
  | .dmkFlushAll who => who.wf
  | .calEncrypt r => r.wf
  | .calDecrypt r => r.wf
  | .calMacGen r => r.wf
  | .calMacVer r => r.wf
  | .ecbEnc _ st => st < 32
  | .ecbDec _ st => st < 32
  | .cbcEnc _ st => st < 32
  | .cbcDec _ st => st < 32
  | .cbcMac _ st => st < 32
  | .cmac _ st => st < 32
  | .gcmSeal _ st => st < 32
  | .gcmOpen _ st => st < 32
  | .calMessageEnd _ => true
  | .calSuspend _ => true
  | .calSuspensionOverflow _ => true
  | .calFault _ _ => true
  | .calSelftest _ _ vector => vector < 65536
  | .calSelftestStarve _ => true
  | .calSelftestRequest who _ => who.wf
  | .calReseed _ => true
  | .calReseedStall _ => true
  | .calFence who _ => who.wf
  | .calFenceLift who _ => who.wf
  | .calClearBlk who _ => who.wf
  | .calClearSusp who _ => who.wf
  | .calClearFault who _ => who.wf
  | .modMul e => e.wf
  | .modExp e => e.wf
  | .modExpPub e => e.wf
  | .modInv e => e.wf
  | .rsaSign e => e.wf
  | .rsaVerify e => e.wf
  | .rsaDecrypt e => e.wf
  | .ecdsaSign e => e.wf
  | .ecdsaVerify e => e.wf
  | .ecdh e => e.wf
  | .eddsaSign e => e.wf
  | .eddsaVerify e => e.wf
  | .xdh e => e.wf
  | .sergePubkey e => e.wf
  | .primeTest _ => true
  | .edPrefix _ st => st < 32
  | .edCommit _ st => st < 32
  | .edFinish _ st => st < 32
  | .sergeOperationEnd _ => true
  | .sergeFault _ _ => true
  | .sergeSelftest _ _ vector => vector < 65536
  | .sergeSelftestStarve _ => true
  | .sergeSelftestRequest who _ => who.wf
  | .sergeReseed _ => true
  | .sergeReseedStall _ => true
  | .sergeFence who _ => who.wf
  | .sergeFenceLift who _ => who.wf
  | .sergeClearCyc who _ => who.wf
  | .sergeClearOps who _ => who.wf
  | .sergeClearFault who _ => who.wf
  | .mlkemEncaps e => e.wf
  | .mlkemDecaps e => e.wf
  | .mldsaSign e => e.wf
  | .mldsaVerify e => e.wf
  | .compSign e => e.wf
  | .compVerify e => e.wf
  | .tullePubkey e => e.wf
  | .mldsaTr _ st => st < 32
  | .mldsaSignMu _ st => st < 32
  | .tulleOperationEnd _ => true
  | .tulleFault _ _ => true
  | .tulleSelftest _ _ vector => vector < 65536
  | .tulleSelftestStarve _ => true
  | .tulleSelftestRequest who _ => who.wf
  | .tulleReseed _ => true
  | .tulleFence who _ => who.wf
  | .tulleFenceLift who _ => who.wf
  | .tulleClearCyc who _ => who.wf
  | .tulleClearOps who _ => who.wf
  | .tulleClearFault who _ => who.wf
  | .hash r => r.wf
  | .hmacGen r => r.wf
  | .hmacVer r => r.wf
  | .hashStep _ st => st < 32
  | .hmacStep _ st => st < 32
  | .hashOperationEnd _ => true
  | .hashFault _ _ => true
  | .hashSelftest _ _ vector => vector < 65536
  | .hashSelftestStarve _ => true
  | .hashSelftestRequest who _ => who.wf
  | .hashReseed _ => true
  | .hashFence who _ => who.wf
  | .hashFenceLift who _ => who.wf
  | .hashClearBlk who _ => who.wf
  | .hashClearOps who _ => who.wf
  | .hashClearFault who _ => who.wf
  | .entStartupAttemptEnd _ _ => true
  | .legacyStartupComplete => true
  | .healthTestFailure _ _ _ => true
  | .retestComplete => true
  | .expanderReseed => true
  | .seedPoolFull => true
  | .entReadRelease _ => true
  | .entDataRead who => who.wf
  | .katPeriodic => true
  | .conditionerKat _ => true
  | .expanderKat _ => true
  | .expanderKatForce _ => true
  | .rawCapture who _ => who.wf
  | .rawCaptureDone _ => true
  | .randomGenerate r => r.wf
  | .nop core f a => core < 18 && f.wf a
  | .add core f a => core < 18 && f.wf a
  | .sub core f a => core < 18 && f.wf a
  | .and core f a => core < 18 && f.wf a
  | .or core f a => core < 18 && f.wf a
  | .xor core f a => core < 18 && f.wf a
  | .shl core f a => core < 18 && f.wf a
  | .shr core f a => core < 18 && f.wf a
  | .sar core f a => core < 18 && f.wf a
  | .addi core f a => core < 18 && f.wf a
  | .andi core f a => core < 18 && f.wf a
  | .shli core f a => core < 18 && f.wf a
  | .shri core f a => core < 18 && f.wf a
  | .sari core f a => core < 18 && f.wf a
  | .rotri core f a => core < 18 && f.wf a
  | .movi core f a => core < 18 && f.wf a
  | .cmpeq core f a => core < 18 && f.wf a
  | .cmpne core f a => core < 18 && f.wf a
  | .cmplt core f a => core < 18 && f.wf a
  | .cmpltu core f a => core < 18 && f.wf a
  | .cmpeqi core f a => core < 18 && f.wf a
  | .cmplti core f a => core < 18 && f.wf a
  | .cmpltui core f a => core < 18 && f.wf a
  | .pand core f a => core < 18 && f.wf a
  | .por core f a => core < 18 && f.wf a
  | .pxor core f a => core < 18 && f.wf a
  | .mul core f a => core < 18 && f.wf a
  | .mulh core f a => core < 18 && f.wf a
  | .mac core f a => core < 18 && f.wf a
  | .multiplierWrite core => core < 18
  | .mgetl core f a => core < 18 && f.wf a
  | .mgeth core f a => core < 18 && f.wf a
  | .bswap core f a => core < 18 && f.wf a
  | .shori core a => core < 18 && ZForm.long.wf a
  | .ld8 core a _ => core < 18 && ZForm.long.wf a
  | .ld16 core a _ => core < 18 && ZForm.long.wf a
  | .ld32 core f a _ => core < 18 && f.wf a
  | .ld64 core f a _ => core < 18 && f.wf a
  | .lds8 core a _ => core < 18 && ZForm.long.wf a
  | .lds16 core a _ => core < 18 && ZForm.long.wf a
  | .lds32 core a _ => core < 18 && ZForm.long.wf a
  | .st8 core a => core < 18 && ZForm.long.wf a
  | .st16 core a => core < 18 && ZForm.long.wf a
  | .st32 core f a => core < 18 && f.wf a
  | .st64 core f a => core < 18 && f.wf a
  | .storeRetire core _ => core < 18
  | .storeFault core => core < 18
  | .br core a => core < 18 && ZForm.long.wf a
  | .brl core a => core < 18 && ZForm.long.wf a
  | .jr core a => core < 18 && ZForm.long.wf a
  | .jrl core a => core < 18 && ZForm.long.wf a
  | .crd core a => core < 18 && ZForm.long.wf a
  | .cwr core a => core < 18 && ZForm.long.wf a
  | .scall core a => core < 18 && ZForm.long.wf a
  | .sret core a => core < 18 && ZForm.long.wf a
  | .tret core a => core < 18 && ZForm.long.wf a
  | .msub core a => core < 18 && ZForm.long.wf a
  | .mailboxCompletion core _ => core < 18
  | .wfe core a => core < 18 && ZForm.long.wf a
  | .wfeWake core => core < 18
  | .fence core a => core < 18 && ZForm.long.wf a
  | .brk core a => core < 18 && ZForm.long.wf a
  | .interruptEntry core => core < 18
  | .gpEdge pin => pin < 16
  | .secureWatchdogExpiry _ => true
  | .supvSwctlDown who _ => who.wf
  | .secureRestartPending _ => true
  | .supvSwbeat who _ => who.wf
  | .batchPresent _ _ => true
  | .supervisorCheckFailure _ _ => true
  | .supervisorSelftestDone _ _ => true
  | .missedBatchTakeover _ => true
  | .supvCtlGiveup _ => true
  | .supvCtlFenceA who _ => who.wf
  | .supvCtlFenceB who _ => who.wf
  | .supvWcolWrite who _ _ => who.wf
  | .supvPinwWrite who _ => who.wf
  | .supvIrqwWrite who _ _ => who.wf
  | .supvSwi who core line => who.wf && core < 18 && line < 32
  | .memInit who _ => who.wf
  | .memInitDone => true
  | .scrubVisit _ => true
  | .scrubForce cls => cls < 7
  | .regionTest _ _ _ => true
  | .regionTestForce _ => true
  | .marchStart who _ => who.wf
  | .marchDone _ _ => true
  | .eccTestCtl who _ => who.wf
  | .eccTestRead who => who.wf
  | .eccTestWrite who => who.wf
  | .conflictClear who _ => who.wf
  | .gatePset who _ => who.wf
  | .gateGset who _ => who.wf
  | .ruleWriteComplete => true
  | .transactionIntegrityFailure master _ => master < 32
  | .meshScan _ _ => true
  | .meshConfirmScan _ _ => true
  | .lightDetect cell level => cell < 2304 && level < 65536
  | .junctionTempDetect sensor _ => sensor < 32
  | .vinOvervoltage _ => true
  | .railDetect rail _ uv => decide (rail < 8) && decide (uv < 1000)
  | .frequencyDetect isl _ _ => isl < 19
  | .glitchDetect _ => true
  | .intrusionPinSample pin _ => pin < 8
  | .dynamicPairTick pair _ => pair < 4
  | .backupMonitorCheck _ _ => true
  | .alarmHoldExpiry _ => true
  | .stimulusDue _ => true
  | .stimulusRequest who _ => who.wf
  | .stimulusEnd _ => true
  | .tamperLogWrite => true
  | .tamperExport r => r.wf
  | .meshQuery r => r.wf
  | .bkdIntrcfgWrite who _ => who.wf
  | .lcAdvance r => r.wf
  | .lifecycleRestart _ => true
  | .debugNormal r => r.wf
  | .cerChallenge r => r.wf
  | .cerOpen r => r.wf
  | .cerStep r => r.wf
  | .cerClose r => r.wf
  | .cerQuery r => r.wf
  | .custFound r => r.wf
  | .registryRead r => r.wf
  | .unlock => true
  | .endOfLife => true
  | .rootGen => true
  | .custAdd => true
  | .custRemove => true
  | .quorumSet => true
  | .meshEnrol => true
  | .intrConfig => true
  | .cloneSend => true
  | .cloneReceive => true
  | .cloneWaitTimeout => true
  | .ownerMove => true
  | .debugSecure => true
  | .debugSecureDrained => true
  | .ownerSet => true
  | .ceremonyTimeout => true
  | .ceremonyChallengeLapse => true
  | .lcsDbgenWrite who _ => who.wf
  | .idcode => true
  | .bypass => true
  | .samplePreload _ => true
  | .extest _ => true
  | .scan => true
  | .scanExit _ => true
  | .tapChallenge => true
  | .tapToken _ => true
  | .dapMemoryRead _ _ size => (size == 1 || size == 2 || size == 4 || size == 8)
  | .dapMemoryWrite _ _ _ => true
  | .dapRegisterRead core _ reg => core < 18 && reg < 69
  | .dapRegisterWrite core _ reg _ => core < 18 && reg < 69
  | .dapHalt core _ => core < 18
  | .dapSingleStep core _ => core < 18
  | .recordWrite => true
  | .summaryInterval _ => true
  | .recSeek who _ => who.wf
  | .seekDone who => who.wf
  | .recPost who _ => who.wf
  | .recQuery r => r.wf
  | .recExport r => r.wf
  | .chainHeadDetect => true
  | .chainFrameReceive _ _ => true
  | .chainFrameSend => true
  | .bilkinLinkTrained _ => true
  | .hello _ _ => true
  | .auth1 _ _ _ => true
  | .auth2 _ _ => true
  | .keepalive _ f => f.wf
  | .keepaliveSend _ => true
  | .keepaliveMissed _ => true
  | .linkSignalLoss _ => true
  | .handshakeTimeout _ => true
  | .linkRetrain _ => true
  | .rekey _ _ => true
  | .lsa _ f _ => f.wf
  | .lsaPeriodic => true
  | .coordinatorElection => true
  | .assign _ _ _ => true
  | .routeRecompute => true
  | .fwdReq _ f _ _ _ version r => f.wf && version < 65536 && r.wf
  | .fwdRsp _ f _ status detail reason outLen info _ => f.wf && status < 65536 && detail < 65536 && reason < 256 && outLen < 2 ^ 32 && info < 2 ^ 64
  | .forwardTimeout _ => true
  | .ownerUnreachableRecord => true
  | .spillReq _ f _ _ version r => f.wf && version < 65536 && r.wf
  | .spillRsp _ f _ _ status detail reason outLen info _ => f.wf && status < 65536 && detail < 65536 && reason < 256 && outLen < 2 ^ 32 && info < 2 ^ 64
  | .spillTimeout _ => true
  | .replica _ f seq _ _ _ _ => f.wf && seq < 2 ^ 32
  | .replicaAck _ f _ reason => f.wf && reason < 256
  | .clone _ f _ _ => f.wf
  | .resetNRelease _ => true
  | .cellRemoved => true
  | .backupDomainPowerLoss => true
  | .meshEnrolmentDone _ => true
  | .tulleReseedStall _ => true
  | .hashReseedStall _ => true

end Sys2Proof
end

