-- ==== Sys2Proof/Machine/ZynkelOps.lean ====
section
/-! DEFINITION. A Zynkel word's issue, the effect of the operations that act on more than the register bank, and the commands
of the cores (R317–R344). -/

namespace Sys2Proof.Machine

/-! ## Debugger rights (R439, R440) -/

/-- What the access port may do in a world; `inv` asks for the invasive enable (R439, R440). -/
def State.dapWorld (s : State) (w : World) (inv : Bool) : Bool :=
  if s.lifeCycle = 0 ∨ s.lifeCycle = 3 then true
  else if s.lifeCycle = 1 then
    match w with
    | .normal => s.lcs.rights.getLsbD 1
    | .secure => s.lcs.rights.getLsbD 2
  else
    match w with
    | .normal => s.lcs.ninv || (!inv && s.lcs.nni)
    | .secure => s.lcs.sinv || (!inv && s.lcs.sni)

/-- What the access port may do to a core in a world; a supervisor has its own right, and is out of reach in PRODUCTION. -/
def State.dapCore (s : State) (n : Nat) (w : World) (inv : Bool) : Bool :=
  if isWorker n then s.dapWorld w inv
  else if s.lifeCycle = 1 then s.lcs.rights.getLsbD 3
  else decide (s.lifeCycle ≠ 2)

/-- A debugger is attached that may halt the core where it is (R339, R440). -/
def State.debugger (s : State) (n : Nat) : Bool :=
  s.lcs.attached && s.tapPresent && s.dapCore n (s.core n).world true

/-- The debugger halts a core. -/
def State.haltCore (s : State) (n : Nat) : State := { s with lcs := { s.lcs with halted := s.lcs.halted ||| (1#18 <<< n) } }

/-! ## Mailboxes (R125, R337) -/

/-- The scatter list or range of a submission's input, in parts of pages; a list that its world may not read is empty. -/
def State.sgl (s : State) (n : Nat) (on : Bool) (a : Nat) : List Sge :=
  if on ∧ s.workDenial n a false = 0 then s.sglFrom a 256 else []

/-- A scatter list in use holds an error that cannot be corrected. -/
def State.sglSpoilt (s : State) (on : Bool) (a : Nat) (l : List Sge) : Bool :=
  on && (s.mem.badByte a (16 * max 1 l.length)).isSome

/-- The submission that a worker's mailbox holds: its descriptor, its tenant, and its input read through the gates; and whether what
it reads holds an error that cannot be corrected (R377). -/
def State.mailReq (s : State) (n u a : Nat) : State × Req × Bool :=
  let b := s.peek a 96
  let d := descAt b
  let ins := s.sgl n (d.flags.getLsbD 1) d.inAddr.toNat
  let r := s.readParts n u (bufferParts (d.flags.getLsbD 1) ins d.inAddr.toNat d.inLen)
  let outs := s.sgl n (d.flags.getLsbD 2) d.outAddr.toNat
  (r.1, { src := .mailbox n (leAt b 64 1) u, desc := d, input := r.2.bytes, inSgl := ins, outSgl := outs, inOk := !r.2.denied,
          outOk := true, cqOk := true },
   r.2.spoilt || s.sglSpoilt (d.flags.getLsbD 1) d.inAddr.toNat ins || s.sglSpoilt (d.flags.getLsbD 2) d.outAddr.toNat outs)

/-- The address of a core's mailbox. -/
def boxAddr (n u : Nat) : Nat :=
  if isWorker n then (((mailboxesOf n).find? fun x => x.1 == u).map (·.2.1)).getD 0
  else ((privilegedBoxes[u - 6]?).map (·.1)).getD 0

/-- The request that a supervisor's privileged mailbox holds: a step record with its key material (R246); it has no descriptor. -/
def boxReq (n u : Nat) (copy : Bytes) : Req := { Req.none with src := .mailbox n 0 u, input := copy }

/-- A privileged request reaches its unit's instance, where it goes before every other work (R231, R269). -/
def State.submitStep (s : State) (n u : Nat) (copy : Bytes) : State :=
  match operandInst (boxAddr n u) with
  | none => s
  | some (v, k) =>
    let t := s.addWaiting v { Job.new (.raw (boxReq n u copy)) (stepAt copy 0).prim 0 false with only := some k }
    (t.pumpAt v k).stallWaiting v

/-- The opcodes that a worker's mailbox carries: those of its engine unit (R246, R268, R290); R125 names none for Twill's. Another
opcode is refused as an unknown one (assumption log 157). -/
def boxTakes (u op : Nat) : Bool :=
  if u = 0 then decide (0x0401 ≤ op) && decide (op ≤ 0x0404)
  else if u = 1 then decide (0x0411 ≤ op) && decide (op ≤ 0x041D)
  else if u = 2 then decide (0x0421 ≤ op) && decide (op ≤ 0x0426)
  else true

/-- MSUB of a mailbox: 1 while its submission is unfinished, else it is submitted and 0; one whose input cannot be corrected aborts
with cause 2 (R377). A supervisor that is not in control has its submission dropped and counted (R364). -/
def State.submitBox (s : State) (n u a : Nat) : State × W64 :=
  let m := s.box n u
  if m.busy then (s, 1)
  else if isWorker n then
    let x := s.mailReq n u a
    let t := x.1.setBox n u { m with busy := true, copy := s.peek a 96, outSgl := x.2.1.outSgl }
    if boxTakes u x.2.1.desc.opcode = false then (t.refuseRange x.2.1 0x21, 0)
    else if x.2.2 then (t.abortOne 2 x.2.1, 0)
    else ({ t with zyn := { t.zyn with submitted := t.zyn.submitted ++ [x.2.1] } }, 0)
  else
    let who := coreWho n .secure
    if s.inControl who then ((s.setBox n u { m with busy := true, copy := s.peek a 96 }).submitStep n u (s.peek a 96), 0)
    else (s.dropWrite who, 0)

/-! ## The operations that act on more than the bank -/

/-- A long-only operation other than SHORI, the loads and the stores. -/
def ZKind.isSystem : ZKind → Bool
  | .br | .brl | .jr | .jrl | .crd | .cwr | .scall | .sret | .tret | .msub | .wfe | .fence | .brk => true
  | _ => false

/-- The exception of such an operation: its class, cause and address. A MSUB of an address that is no mailbox of the core is a
denial (R337, R390). -/
def State.systemFault (s : State) (n : Nat) (o : ZOp) : Option State :=
  let c := s.core n
  let x := c.cur.greg o.a.rs1
  if c.cur.guard o.a = false then none
  else
    match o.kind with
    | .msub =>
      if (s.boxAt n x.toNat).isSome then none
      else some ((s.noteDenial n c.world true false (x.toNat % 2 ^ 32) 1).exception n 0 0x06 0 (x.setWidth 32))
    | .brk => if s.debugger n then none else some (s.exception n 3 0x0A 0 0)
    | _ => none

/-- A branch of the current world, of some cycles (R325). -/
def State.jump (s : State) (n : Nat) (pc : W64) (k : Nat) : State := (s.setPc n pc).tickCore n (some k)

/-- The link register is written. -/
def State.linkPc (s : State) (n : Nat) : State :=
  let c := s.core n
  s.setCore n (c.setCur (c.cur.setG 63 (c.cur.pc + 8)))

/-- Write RD in the current bank. -/
def State.setRd (s : State) (n rd : Nat) (v : W64) : State :=
  let c := s.core n
  s.setCore n (c.setCur (c.cur.setG rd v))

/-- WFE ends at once, or stalls (R338). -/
def State.waitEvent (s : State) (n : Nat) : State :=
  let c := s.core n
  if c.cur.event || (c.takesOwn && (lowestLine (s.pendingLines n c.world)).isSome) then
    (s.setCore n (c.setCur { c.cur with event := false })).retireWord n (if c.cur.event then some 1 else none)
  else s.setCore n { c with wfe := true }

/-- The effect of such an operation whose guard is true. FENCE and MSUB wait while earlier stores are in the buffer (R330). -/
def State.system (s : State) (n : Nat) (o : ZOp) : State :=
  let c := s.core n
  let b := c.cur
  let x := b.greg o.a.rs1
  let r := o.a.imm.toNat % 4096
  match o.kind with
  | .br => s.jump n (b.pc + o.immS * 8) 3
  | .brl => (s.linkPc n).jump n (b.pc + o.immS * 8) 3
  | .jr => s.jump n x 4
  | .jrl => (s.linkPc n).jump n x 4
  | .crd => ((s.setCore n (c.readLatch r)).setRd n o.a.rd ((s.controlRead n r).setWidth 64)).retireWord n none
  | .cwr => (s.setCore n (s.controlWrite n r (x.setWidth 32))).retireWord n (some 1)
  | .scall => (s.scall n (o.a.imm.toNat % 65536)).tickCore n (some (if s.scallDown n then 4 else 12))
  | .sret => (s.sret n (o.a.imm.getLsbD 0)).tickCore n (some 10)
  | .tret => (s.setCore n (c.setCur { b with pc := b.tpc.setWidth 64, intrap := false })).tickCore n (some 4)
  | .msub =>
    if c.stores ≠ [] then s
    else
      let y := s.submitBox n ((s.boxAt n x.toNat).getD 0) x.toNat
      (y.1.setRd n o.a.rd y.2).retireWord n none
  | .wfe => s.waitEvent n
  | .fence => if c.stores ≠ [] then s else s.retireWord n none
  | .brk => s.haltCore n
  | _ => s

/-! ## Issue -/

/-- A word of such an operation: its own exception, else a waiting STORE, else its effect (R340). -/
def State.runSystem (s : State) (n : Nat) (o : ZOp) : State :=
  match s.systemFault n o with
  | some t => t
  | none =>
    match (s.core n).storeDue with
    | some a => s.takeStore n a
    | none => if (s.core n).cur.guard o.a then s.system n o else s.retireWord n (some 1)

/-- The results of a word's operations, its memory operation done. -/
def State.commitWord (s : State) (n : Nat) (l : List ZOp) (v : Option W64) : State :=
  let c := s.core n
  let b := c.cur
  let muls := (l.filter fun o => o.kind.isMul && b.guard o.a).map fun o => o.product c.world b
  let d := c.setCur (l.foldl (fun x o => o.apply b v x) b)
  (s.setCore n { d with flight := d.flight ++ muls }).retireWord n (if v.isSome then none else some 1)

/-- The place of an operation in its word, as ZCR_TCAUSE.SLOT gives it. -/
def slotOf (l : List ZOp) (o : ZOp) : Nat := (l.findIdx? (· == o)).getD 0

/-- A decoded word: its memory operation's exception, else a waiting STORE, else its results (R340). -/
def State.runOps (s : State) (n : Nat) (l : List ZOp) (busy : Bool) : State :=
  match l.find? (fun o => o.kind.isMem) with
  | none =>
    match (s.core n).storeDue with
    | some a => s.takeStore n a
    | none => s.commitWord n l none
  | some o =>
    match s.memOp n o busy, (s.core n).storeDue with
    | .fault t cause, _ => t.exception n 0 cause (slotOf l o) (o.taddr (s.core n).cur)
    | _, some a => s.takeStore n a
    | .stall t, none => t
    | .done t v, none => t.commitWord n l v

/-- The word at the PC runs: fetch, decode, execution (R320, R324, R333). A bank that the March engine has holds the fetch (R383). -/
def State.runWord (s : State) (n : Nat) (w : ZWord) (busy : Bool) : State :=
  if s.marchHolds (s.core n).cur.pc.toNat then s.noteConflicts n (s.core n).cur.pc.toNat 1
  else
  match s.fetchFault n with
  | some t => t
  | none =>
    match decodeOps (isSupv n) (s.core n).world w with
    | .fault cause slot => s.exception n 0 cause slot 0
    | .ops [o] => if o.kind.isSystem then s.runSystem n o else s.runOps n [o] busy
    | .ops l => s.runOps n l busy

/-- A core issues a word. The command says which word stands at its PC (assumption log 72). -/
def State.issueWord (s : State) (n : Nat) (w : ZWord) (busy : Bool) : State :=
  if w.wf && s.mayIssue n then s.runWord n w busy else s

/-! ## The operations of both formats -/

/-- NOP (R344): does nothing. -/
def execNop (n : Nat) (f : ZForm) (a : ZArgs) (s : State) : Host.Outcome State Fault Refusal :=
  .next (s.issueWord n (zword .nop f a) false)

/-- ADD (R344): RD receives RS1 + RS2. -/
def execAdd (n : Nat) (f : ZForm) (a : ZArgs) (s : State) : Host.Outcome State Fault Refusal :=
  .next (s.issueWord n (zword .add f a) false)

/-- SUB (R344): RD receives RS1 - RS2. -/
def execSub (n : Nat) (f : ZForm) (a : ZArgs) (s : State) : Host.Outcome State Fault Refusal :=
  .next (s.issueWord n (zword .sub f a) false)

/-- AND (R344): RD receives the bitwise AND. -/
def execAnd (n : Nat) (f : ZForm) (a : ZArgs) (s : State) : Host.Outcome State Fault Refusal :=
  .next (s.issueWord n (zword .and f a) false)

/-- OR (R344): RD receives the bitwise OR. -/
def execOr (n : Nat) (f : ZForm) (a : ZArgs) (s : State) : Host.Outcome State Fault Refusal :=
  .next (s.issueWord n (zword .or f a) false)

/-- XOR (R344): RD receives the bitwise XOR. -/
def execXor (n : Nat) (f : ZForm) (a : ZArgs) (s : State) : Host.Outcome State Fault Refusal :=
  .next (s.issueWord n (zword .xor f a) false)

/-- SHL (R344): RD receives RS1 shifted left by RS2[5:0]. -/
def execShl (n : Nat) (f : ZForm) (a : ZArgs) (s : State) : Host.Outcome State Fault Refusal :=
  .next (s.issueWord n (zword .shl f a) false)

/-- SHR (R344): RD receives RS1 shifted right by RS2[5:0]. -/
def execShr (n : Nat) (f : ZForm) (a : ZArgs) (s : State) : Host.Outcome State Fault Refusal :=
  .next (s.issueWord n (zword .shr f a) false)

/-- SAR (R344): RD receives RS1 shifted arithmetically right by RS2[5:0]. -/
def execSar (n : Nat) (f : ZForm) (a : ZArgs) (s : State) : Host.Outcome State Fault Refusal :=
  .next (s.issueWord n (zword .sar f a) false)

/-- ADDI (R344): RD receives RS1 + the sign-extended immediate. -/
def execAddi (n : Nat) (f : ZForm) (a : ZArgs) (s : State) : Host.Outcome State Fault Refusal :=
  .next (s.issueWord n (zword .addi f a) false)

/-- ANDI (R344): RD receives RS1 AND the sign-extended immediate. -/
def execAndi (n : Nat) (f : ZForm) (a : ZArgs) (s : State) : Host.Outcome State Fault Refusal :=
  .next (s.issueWord n (zword .andi f a) false)

/-- SHLI (R344): RD receives RS1 shifted left by the immediate. -/
def execShli (n : Nat) (f : ZForm) (a : ZArgs) (s : State) : Host.Outcome State Fault Refusal :=
  .next (s.issueWord n (zword .shli f a) false)

/-- SHRI (R344): RD receives RS1 shifted right by the immediate. -/
def execShri (n : Nat) (f : ZForm) (a : ZArgs) (s : State) : Host.Outcome State Fault Refusal :=
  .next (s.issueWord n (zword .shri f a) false)

/-- SARI (R344): RD receives RS1 shifted arithmetically right by the immediate. -/
def execSari (n : Nat) (f : ZForm) (a : ZArgs) (s : State) : Host.Outcome State Fault Refusal :=
  .next (s.issueWord n (zword .sari f a) false)

/-- ROTRI (R344): RD receives RS1 rotated right by the immediate. -/
def execRotri (n : Nat) (f : ZForm) (a : ZArgs) (s : State) : Host.Outcome State Fault Refusal :=
  .next (s.issueWord n (zword .rotri f a) false)

/-- MOVI (R344): RD receives the sign-extended immediate. -/
def execMovi (n : Nat) (f : ZForm) (a : ZArgs) (s : State) : Host.Outcome State Fault Refusal :=
  .next (s.issueWord n (zword .movi f a) false)

/-- CMPEQ (R323): pT receives RS1 = RS2, pF its inverse. -/
def execCmpeq (n : Nat) (f : ZForm) (a : ZArgs) (s : State) : Host.Outcome State Fault Refusal :=
  .next (s.issueWord n (zword .cmpeq f a) false)

/-- CMPNE (R323): pT receives RS1 ≠ RS2, pF its inverse. -/
def execCmpne (n : Nat) (f : ZForm) (a : ZArgs) (s : State) : Host.Outcome State Fault Refusal :=
  .next (s.issueWord n (zword .cmpne f a) false)

/-- CMPLT (R323): pT receives signed RS1 < RS2, pF its inverse. -/
def execCmplt (n : Nat) (f : ZForm) (a : ZArgs) (s : State) : Host.Outcome State Fault Refusal :=
  .next (s.issueWord n (zword .cmplt f a) false)

/-- CMPLTU (R323): pT receives unsigned RS1 < RS2, pF its inverse. -/
def execCmpltu (n : Nat) (f : ZForm) (a : ZArgs) (s : State) : Host.Outcome State Fault Refusal :=
  .next (s.issueWord n (zword .cmpltu f a) false)

/-- CMPEQI (R323): pT receives RS1 = the immediate, pF its inverse. -/
def execCmpeqi (n : Nat) (f : ZForm) (a : ZArgs) (s : State) : Host.Outcome State Fault Refusal :=
  .next (s.issueWord n (zword .cmpeqi f a) false)

/-- CMPLTI (R323): pT receives signed RS1 < the immediate, pF its inverse. -/
def execCmplti (n : Nat) (f : ZForm) (a : ZArgs) (s : State) : Host.Outcome State Fault Refusal :=
  .next (s.issueWord n (zword .cmplti f a) false)

/-- CMPLTUI (R323): pT receives unsigned RS1 < the zero-extended immediate, pF its inverse. -/
def execCmpltui (n : Nat) (f : ZForm) (a : ZArgs) (s : State) : Host.Outcome State Fault Refusal :=
  .next (s.issueWord n (zword .cmpltui f a) false)

/-- PAND (R323): predicate AND. -/
def execPand (n : Nat) (f : ZForm) (a : ZArgs) (s : State) : Host.Outcome State Fault Refusal :=
  .next (s.issueWord n (zword .pand f a) false)

/-- POR (R323): predicate OR. -/
def execPor (n : Nat) (f : ZForm) (a : ZArgs) (s : State) : Host.Outcome State Fault Refusal :=
  .next (s.issueWord n (zword .por f a) false)

/-- PXOR (R323): predicate XOR. -/
def execPxor (n : Nat) (f : ZForm) (a : ZArgs) (s : State) : Host.Outcome State Fault Refusal :=
  .next (s.issueWord n (zword .pxor f a) false)

/-- MUL (R326): starts the unsigned product. -/
def execMul (n : Nat) (f : ZForm) (a : ZArgs) (s : State) : Host.Outcome State Fault Refusal :=
  .next (s.issueWord n (zword .mul f a) false)

/-- MULH (R326): starts the signed product. -/
def execMulh (n : Nat) (f : ZForm) (a : ZArgs) (s : State) : Host.Outcome State Fault Refusal :=
  .next (s.issueWord n (zword .mulh f a) false)

/-- MAC (R326): starts an accumulation of the unsigned product. -/
def execMac (n : Nat) (f : ZForm) (a : ZArgs) (s : State) : Host.Outcome State Fault Refusal :=
  .next (s.issueWord n (zword .mac f a) false)

/-- MGETL (R344): RD receives mlo. -/
def execMgetl (n : Nat) (f : ZForm) (a : ZArgs) (s : State) : Host.Outcome State Fault Refusal :=
  .next (s.issueWord n (zword .mgetl f a) false)

/-- MGETH (R344): RD receives mhi. -/
def execMgeth (n : Nat) (f : ZForm) (a : ZArgs) (s : State) : Host.Outcome State Fault Refusal :=
  .next (s.issueWord n (zword .mgeth f a) false)

/-- BSWAP (R344): RD receives RS1 with its bytes reversed. -/
def execBswap (n : Nat) (f : ZForm) (a : ZArgs) (s : State) : Host.Outcome State Fault Refusal :=
  .next (s.issueWord n (zword .bswap f a) false)

/-- SHORI (R344): RD receives RS1 shifted left by 31, OR the immediate. -/
def execShori (n : Nat) (a : ZArgs) (s : State) : Host.Outcome State Fault Refusal :=
  .next (s.issueWord n (zword .shori .long a) false)

/-! ## Loads and stores -/

/-- LD8 (R329): loads a byte, zero-extended. -/
def execLd8 (n : Nat) (a : ZArgs) (busy : Bool) (s : State) : Host.Outcome State Fault Refusal :=
  .next (s.issueWord n (zword .ld8 .long a) busy)

/-- LD16 (R329): loads a halfword, zero-extended. -/
def execLd16 (n : Nat) (a : ZArgs) (busy : Bool) (s : State) : Host.Outcome State Fault Refusal :=
  .next (s.issueWord n (zword .ld16 .long a) busy)

/-- LD32 (R329): loads a word, zero-extended. -/
def execLd32 (n : Nat) (f : ZForm) (a : ZArgs) (busy : Bool) (s : State) : Host.Outcome State Fault Refusal :=
  .next (s.issueWord n (zword .ld32 f a) busy)

/-- LD64 (R329): loads a doubleword. -/
def execLd64 (n : Nat) (f : ZForm) (a : ZArgs) (busy : Bool) (s : State) : Host.Outcome State Fault Refusal :=
  .next (s.issueWord n (zword .ld64 f a) busy)

/-- LDS8 (R329): loads a byte, sign-extended. -/
def execLds8 (n : Nat) (a : ZArgs) (busy : Bool) (s : State) : Host.Outcome State Fault Refusal :=
  .next (s.issueWord n (zword .lds8 .long a) busy)

/-- LDS16 (R329): loads a halfword, sign-extended. -/
def execLds16 (n : Nat) (a : ZArgs) (busy : Bool) (s : State) : Host.Outcome State Fault Refusal :=
  .next (s.issueWord n (zword .lds16 .long a) busy)

/-- LDS32 (R329): loads a word, sign-extended. -/
def execLds32 (n : Nat) (a : ZArgs) (busy : Bool) (s : State) : Host.Outcome State Fault Refusal :=
  .next (s.issueWord n (zword .lds32 .long a) busy)

/-- ST8 (R330): stores a byte. -/
def execSt8 (n : Nat) (a : ZArgs) (s : State) : Host.Outcome State Fault Refusal :=
  .next (s.issueWord n (zword .st8 .long a) false)

/-- ST16 (R330): stores a halfword. -/
def execSt16 (n : Nat) (a : ZArgs) (s : State) : Host.Outcome State Fault Refusal :=
  .next (s.issueWord n (zword .st16 .long a) false)

/-- ST32 (R330): stores a word. -/
def execSt32 (n : Nat) (f : ZForm) (a : ZArgs) (s : State) : Host.Outcome State Fault Refusal :=
  .next (s.issueWord n (zword .st32 f a) false)

/-- ST64 (R330): stores a doubleword, two registers in one transfer. -/
def execSt64 (n : Nat) (f : ZForm) (a : ZArgs) (s : State) : Host.Outcome State Fault Refusal :=
  .next (s.issueWord n (zword .st64 f a) false)

/-! ## Control flow and the system operations -/

/-- BR (R344): branches relative to the PC. -/
def execBr (n : Nat) (a : ZArgs) (s : State) : Host.Outcome State Fault Refusal :=
  .next (s.issueWord n (zword .br .long a) false)

/-- BRL (R344): branches relative to the PC and links into g63. -/
def execBrl (n : Nat) (a : ZArgs) (s : State) : Host.Outcome State Fault Refusal :=
  .next (s.issueWord n (zword .brl .long a) false)

/-- JR (R344): jumps to RS1. -/
def execJr (n : Nat) (a : ZArgs) (s : State) : Host.Outcome State Fault Refusal :=
  .next (s.issueWord n (zword .jr .long a) false)

/-- JRL (R344): jumps to RS1 and links into g63. -/
def execJrl (n : Nat) (a : ZArgs) (s : State) : Host.Outcome State Fault Refusal :=
  .next (s.issueWord n (zword .jrl .long a) false)

/-- CRD (R343): reads a control register. -/
def execCrd (n : Nat) (a : ZArgs) (s : State) : Host.Outcome State Fault Refusal :=
  .next (s.issueWord n (zword .crd .long a) false)

/-- CWR (R343): writes a control register. -/
def execCwr (n : Nat) (a : ZArgs) (s : State) : Host.Outcome State Fault Refusal :=
  .next (s.issueWord n (zword .cwr .long a) false)

/-- SCALL (R334, R336, R353): calls the secure world. -/
def execScall (n : Nat) (a : ZArgs) (s : State) : Host.Outcome State Fault Refusal :=
  .next (s.issueWord n (zword .scall .long a) false)

/-- SRET (R335): returns to the normal world. -/
def execSret (n : Nat) (a : ZArgs) (s : State) : Host.Outcome State Fault Refusal :=
  .next (s.issueWord n (zword .sret .long a) false)

/-- TRET (R340): returns from a trap. -/
def execTret (n : Nat) (a : ZArgs) (s : State) : Host.Outcome State Fault Refusal :=
  .next (s.issueWord n (zword .tret .long a) false)

/-- MSUB (R337): submits a mailbox. -/
def execMsub (n : Nat) (a : ZArgs) (s : State) : Host.Outcome State Fault Refusal :=
  .next (s.issueWord n (zword .msub .long a) false)

/-- WFE (R338): waits for the event flag or an interrupt. -/
def execWfe (n : Nat) (a : ZArgs) (s : State) : Host.Outcome State Fault Refusal :=
  .next (s.issueWord n (zword .wfe .long a) false)

/-- FENCE (R330): waits until earlier stores are at their targets. -/
def execFence (n : Nat) (a : ZArgs) (s : State) : Host.Outcome State Fault Refusal :=
  .next (s.issueWord n (zword .fence .long a) false)

/-- BRK (R339, R440): raises BREAK, or halts the core for a debugger. -/
def execBrk (n : Nat) (a : ZArgs) (s : State) : Host.Outcome State Fault Refusal :=
  .next (s.issueWord n (zword .brk .long a) false)

/-! ## Events of a core -/

/-- MULTIPLIER_WRITE (R327): the oldest multiplier write in flight lands, its cycle come. -/
def execMultiplierWrite (n : Nat) (s : State) : Host.Outcome State Fault Refusal :=
  .next (if s.coreRuns n then s.setCore n (s.core n).landOne else s)

/-- STORE_RETIRE (R330–R332): the oldest buffered store goes to its target; `busy` says that its bank answered BUSY nine
times. -/
def execStoreRetire (n : Nat) (busy : Bool) (s : State) : Host.Outcome State Fault Refusal :=
  .next (if s.coreRuns n then s.retireStore n busy else s)

/-- STORE_FAULT (R332): STORE is taken at a word boundary outside a trap. -/
def execStoreFault (n : Nat) (s : State) : Host.Outcome State Fault Refusal :=
  .next (
    if s.coreRuns n && !s.debugHalted n then
      match (s.core n).storeDue with
      | some a => s.takeStore n a
      | none => s
    else s)

/-- WFE_WAKE (R338): the event flag or an interrupt that the current world would take ends the wait. -/
def execWfeWake (n : Nat) (s : State) : Host.Outcome State Fault Refusal :=
  .next (
    let c := s.core n
    if s.coreRuns n && c.wfe && !s.debugHalted n
        && (c.cur.event || (c.takesOwn && (lowestLine (s.pendingLines n c.world)).isSome)) then
      (s.setCore n { c.setCur { c.cur with event := false } with wfe := false }).retireWord n none
    else s)

/-- INTERRUPT_ENTRY (R340, R341): the lowest line that the core takes; a waiting STORE comes first, and a core halted by a
debugger takes none (R440). -/
def execInterruptEntry (n : Nat) (s : State) : Host.Outcome State Fault Refusal :=
  .next (
    let c := s.core n
    if s.coreRuns n && !s.debugHalted n then
      match c.storeDue, s.takable n with
      | some a, some _ => s.takeStore n a
      | none, some (w, k) => s.setCore n (if w = c.world then c.takeOwn k else c.takeSecure k)
      | _, none => s
    else s)

/-! ## Completion of a mailbox (R337, R390) -/

/-- The record of a worker's completion, with its output written through the gates: a denied part makes it GATE_DENIED. -/
def State.deliverMail (s : State) (n u : Nat) (m : Mailbox) (c : Completion) : State × Bytes :=
  let d := descAt m.copy
  let parts := bufferParts (d.flags.getLsbD 2) m.outSgl d.outAddr.toNat d.outLen
  let ok := s.partsOk n parts c.out.length
  let t := s.writeParts n u parts c.out
  let x := if ok then c else { c with status := 0x0801, detail := 0, reason := 0x88, outLen := 0, info := 0 }
  (t, { x with phase := m.phase }.bytes 0)

/-- The completion that waits for a mailbox. -/
def State.doneFor (s : State) (n u : Nat) : Option Completion :=
  s.zyn.done.find? fun c => match c.src with
    | .mailbox k _ v => k == n && v == u
    | _ => false

/-- The record is written, EVENT of the secure world set, secure line 0 raised, and the mailbox free again. -/
def State.finishBox (s : State) (n u : Nat) (rcd : Bytes) : State :=
  let m := s.box n u
  let t := (s.poke (boxAddr n u + 96) rcd).setBox n u { m with busy := false, phase := !m.phase, copy := [], outSgl := [] }
  let c := t.core n
  (t.setCore n { c with secure := { c.secure with event := true } }).raiseLine n 0

/-- MAILBOX_COMPLETION (R337). The layout of the 32 bytes that a privileged request completes with is not stated, but for the
phase that R337 gives every record: the rest is free (assumption log 83). -/
def execMailboxCompletion (n u : Nat) (s : State) : Host.Outcome State Fault Refusal :=
  .next (
    let m := s.box n u
    if s.onMain = false ∨ m.busy = false then s
    else if isWorker n then
      match s.doneFor n u with
      | none => s
      | some c =>
        let t := { s with zyn := { s.zyn with done := s.zyn.done.erase c } }
        let x := t.deliverMail n u m c
        x.1.finishBox n u x.2
    else
      match s.doneFor n u with
      | none => s
      | some c =>
        let t := { s with zyn := { s.zyn with done := s.zyn.done.erase c } }
        (t.drew 30).finishBox n u (s.randomBytes 30 ++ leBytes 2 (flag m.phase)))

end Sys2Proof.Machine
end

