-- ==== Sys2Proof/Machine/Debug.lean ====
section
/-! DEFINITION. What the access port's DAP instruction does (R439, R440). The spec numbers no registers for it; the model takes
0–63 for g0 to g63, 64 the predicates, 65 mlo, 66 mhi, 67 the PC and 68 the cycle count (assumption log 80). -/

namespace Sys2Proof.Machine

/-- A DAP request: refused, the port acts as BYPASS; permitted, a session is open and `f` runs. -/
def State.dapRequest (s : State) (ok : Bool) (f : State → State) : State :=
  if s.tapReady = false then s
  else if ok then
    let t := s.tapSelect .dap true
    f { t with lcs := { t.lcs with attached := true } }
  else s.tapSelect .dap false

/-- What the port shifts out. -/
def State.dapAnswer (s : State) (b : Bytes) : State := { s with lcs := { s.lcs with dapOut := b } }

/-- Why a debug access to memory is denied; 0 permitted. It reaches WORK, and to read IMEM, there the
pages of its world or, from the secure world, any (R386, R440). -/
def State.debugDenial (s : State) (w : World) (a : Nat) (write : Bool) : Nat :=
  match classOf a with
  | some 0 => if !write && (decide (w = World.secure) || s.zyn.imemNormal.contains ((a - 0x10000000) / 4096)) then 0 else 1
  | some 1 =>
    match pageOf a with
    | some p => s.pageDenial (.debug w) p write
    | none => 1
  | _ => 1

/-- A size and alignment the interconnect carries (R329, R369). -/
def accessOk (a size : Nat) : Bool := [1, 2, 4, 8].contains size && decide (a % size = 0) && decide (a < 2 ^ 32)

/-- A debug read: zero where it is denied, where its word cannot be corrected, or where nothing lies (R388, R440). -/
def State.debugRead (s : State) (w : World) (a size : Nat) : State :=
  if isRegister a then
    if size ≠ 4 ∧ size ≠ 8 then s.dapAnswer (zeros size)
    else
      match s.loadRegister (.debug w) a size with
      | (t, some b) => t.dapAnswer b
      | (t, none) => t
  else if mapped a = false then s.dapAnswer (zeros size)
  else
    let d := s.debugDenial w a false
    if d ≠ 0 then (s.noteDenial 31 w false true a d).dapAnswer (zeros size)
    else
      match s.readWord a size 31 with
      | (t, some b) => t.dapAnswer b
      | (t, none) => t.dapAnswer (zeros size)

/-- A debug write: dropped where it is denied. -/
def State.debugWrite (s : State) (w : World) (a : Nat) (b : Bytes) : State :=
  if isRegister a then
    if b.length = 4 then s.deviceWrite (.debug w) a (BitVec.ofNat 32 (leNat b))
    else if b.length = 8 then
      (s.deviceWrite (.debug w) a (BitVec.ofNat 32 (leAt b 0 4))).deviceWrite (.debug w) (a + 4) (BitVec.ofNat 32 (leAt b 4 4))
    else s
  else if mapped a = false then s
  else
    let d := s.debugDenial w a true
    if d ≠ 0 then s.noteDenial 31 w true true a d else s.poke a b

/-- DAP_MEMORY_READ. -/
def execDapMemoryRead (w : World) (a size : Nat) (s : State) : Host.Outcome State Fault Refusal :=
  .next (if accessOk a size then s.dapRequest (s.dapWorld w false) fun s => s.debugRead w a size else s)

/-- DAP_MEMORY_WRITE. -/
def execDapMemoryWrite (w : World) (a : Nat) (b : Bytes) (s : State) : Host.Outcome State Fault Refusal :=
  .next (if accessOk a b.length then s.dapRequest (s.dapWorld w true) fun s => s.debugWrite w a b else s)

/-- A register of a world's bank, the PC or the cycle counter. -/
def ZCore.dapReg (c : ZCore) (w : World) (r : Nat) : W64 :=
  let b := c.bank w
  if r < 64 then b.greg r
  else
    match r with
    | 64 => (b.p ||| 1#8).setWidth 64
    | 65 => b.mlo
    | 66 => b.mhi
    | 67 => b.pc
    | 68 => BitVec.ofNat 64 c.cycle
    | _ => 0

/-- Write a register of a world's bank; the counter is read only, and g0 and p0 keep their values (R321). -/
def ZCore.dapSet (c : ZCore) (w : World) (r : Nat) (v : W64) : ZCore :=
  let b := c.bank w
  if r < 64 then c.setBank w (b.setG r v)
  else
    match r with
    | 64 => c.setBank w { b with p := v.setWidth 8 &&& 0xFE#8 }
    | 65 => c.setBank w { b with mlo := v }
    | 66 => c.setBank w { b with mhi := v }
    | 67 => c.setBank w { b with pc := v }
    | _ => c

/-- DAP_REGISTER_READ: of a running core as of a halted one. -/
def execDapRegisterRead (n : Nat) (w : World) (r : Nat) (s : State) : Host.Outcome State Fault Refusal :=
  .next (
    if s.coreRuns n && decide (r < 69) && (isWorker n || decide (w = World.secure)) then
      s.dapRequest (s.dapCore n w false) fun s => s.dapAnswer (leBytes 8 ((s.core n).dapReg w r).toNat)
    else s)

/-- DAP_REGISTER_WRITE: of a halted core. -/
def execDapRegisterWrite (n : Nat) (w : World) (r : Nat) (v : W64) (s : State) : Host.Outcome State Fault Refusal :=
  .next (
    if s.coreRuns n && decide (r < 69) && (isWorker n || decide (w = World.secure)) && s.debugHalted n then
      s.dapRequest (s.dapCore n w true) fun s => s.setCore n ((s.core n).dapSet w r v)
    else s)

/-- DAP_HALT: a core is halted in the world it is in (assumption log 81); its interrupts stay pending and its watchdog
pauses. -/
def execDapHalt (n : Nat) (w : World) (s : State) : Host.Outcome State Fault Refusal :=
  .next (
    if s.coreRuns n && decide ((s.core n).world = w) then s.dapRequest (s.dapCore n w true) fun s => s.haltCore n
    else s)

/-- DAP_SINGLE_STEP: a halted core issues the word at its PC, as IMEM holds it, and stays halted. -/
def execDapSingleStep (n : Nat) (w : World) (s : State) : Host.Outcome State Fault Refusal :=
  .next (
    let c := s.core n
    if s.coreRuns n && s.debugHalted n && c.awake && decide (c.world = w) then
      s.dapRequest (s.dapCore n w true) fun s =>
        s.runWord n (decodeZWord (BitVec.ofNat 64 (leNat (s.mem.read c.cur.pc.toNat 8)))) false
    else s)

end Sys2Proof.Machine
end

