-- ==== Sys2Proof/Machine/HashUnits.lean ====
section
/-! DEFINITION. The commands of the hash units (file 09). -/

namespace Sys2Proof.Machine

/-! ## Operations (R295–R297) -/

/-- HASH (R296). -/
def execHash (r : Req) (s : State) : Host.Outcome State Fault Refusal := .next (s.engineCommand .hsh r 0x0431)

/-- HMAC_GEN (R296). -/
def execHmacGen (r : Req) (s : State) : Host.Outcome State Fault Refusal := .next (s.engineCommand .hsh r 0x0432)

/-- HMAC_VER (R296). -/
def execHmacVer (r : Req) (s : State) : Host.Outcome State Fault Refusal := .next (s.engineCommand .hsh r 0x0433)

/-- HASH_STEP (R297). -/
def execHashStep (n st : Nat) (s : State) : Host.Outcome State Fault Refusal := .next (s.engineStep .hsh 1 n st)

/-- HMAC_STEP (R297). -/
def execHmacStep (n st : Nat) (s : State) : Host.Outcome State Fault Refusal := .next (s.engineStep .hsh 2 n st)

/-- HASH_OPERATION_END (R298). -/
def execHashOperationEnd (n : Nat) (s : State) : Host.Outcome State Fault Refusal := .next (s.endOp .hsh n)

/-! ## Faults, self-tests, reseeds, fences and clears (R298, R299) -/

/-- HASH_FAULT (R298). -/
def execHashFault (n check : Nat) (s : State) : Host.Outcome State Fault Refusal := .next (s.faultCommand .hsh n check)

/-- HASH_SELFTEST (R298). -/
def execHashSelftest (n : Nat) (pass : Bool) (vector : Nat) (s : State) : Host.Outcome State Fault Refusal :=
  .next (s.selfTest .hsh n pass vector)

/-- HASH_SELFTEST_STARVE (R298). -/
def execHashSelftestStarve (n : Nat) (s : State) : Host.Outcome State Fault Refusal := .next (s.starveTest .hsh n)

/-- HASH_SELFTEST_REQUEST (R298, R299). -/
def execHashSelftestRequest (who : Initiator) (n : Nat) (s : State) : Host.Outcome State Fault Refusal :=
  .next (s.engineWrite who true fun s => s.askTest .hsh n)

/-- HASH_RESEED (R298). -/
def execHashReseed (n : Nat) (s : State) : Host.Outcome State Fault Refusal := .next (s.reseedCommand .hsh n)

/-- HASH_RESEED_STALL (R298). -/
def execHashReseedStall (n : Nat) (s : State) : Host.Outcome State Fault Refusal := .next (s.stallInst .hsh n)

/-- HASH_FENCE (R299). -/
def execHashFence (who : Initiator) (n : Nat) (s : State) : Host.Outcome State Fault Refusal :=
  .next (s.engineWrite who true fun s => s.askFence .hsh n)

/-- HASH_FENCE_LIFT (R299). -/
def execHashFenceLift (who : Initiator) (n : Nat) (s : State) : Host.Outcome State Fault Refusal :=
  .next (s.engineWrite who true fun s => s.askLift .hsh n)

/-- HASH_CLEAR_BLK (R299). -/
def execHashClearBlk (who : Initiator) (n : Nat) (s : State) : Host.Outcome State Fault Refusal :=
  .next (s.engineWrite who false fun s => s.clearInst .hsh n fun i => { i with count := 0 })

/-- HASH_CLEAR_OPS (R299). -/
def execHashClearOps (who : Initiator) (n : Nat) (s : State) : Host.Outcome State Fault Refusal :=
  .next (s.engineWrite who false fun s => s.clearInst .hsh n fun i => { i with ops := 0 })

/-- HASH_CLEAR_FAULT (R299). -/
def execHashClearFault (who : Initiator) (n : Nat) (s : State) : Host.Outcome State Fault Refusal :=
  .next (s.engineWrite who false fun s => s.clearInst .hsh n fun i => { i with faults := 0, stFails := 0 })

end Sys2Proof.Machine
end

