-- ==== Sys2Proof/Machine/KeyBlocks.lean ====
section
/-! DEFINITION. X9.143 key blocks and key check values (R163–R167). The block's cryptography is `Config`'s (assumption log 2);
its header, its checks and its lengths are here. -/

namespace Sys2Proof.Machine

/-! ## Text -/

/-- A character's code. -/
def ch (c : Char) : Nat := c.toNat

/-- A printable ASCII byte. -/
def printable (b : Byte) : Bool := decide (0x20 ≤ b.toNat) && decide (b.toNat ≤ 0x7E)

/-- A decimal digit's value. -/
def decDigit (b : Byte) : Option Nat := if 0x30 ≤ b.toNat ∧ b.toNat ≤ 0x39 then some (b.toNat - 0x30) else none

/-- A hexadecimal digit's value. -/
def hexDigit (b : Byte) : Option Nat :=
  if 0x30 ≤ b.toNat ∧ b.toNat ≤ 0x39 then some (b.toNat - 0x30)
  else if 0x41 ≤ b.toNat ∧ b.toNat ≤ 0x46 then some (b.toNat - 0x37)
  else if 0x61 ≤ b.toNat ∧ b.toNat ≤ 0x66 then some (b.toNat - 0x57)
  else none

/-- The number a string of digits spells. -/
def digitsNat (base : Nat) (f : Byte → Option Nat) (b : Bytes) : Option Nat :=
  b.foldl (fun a x => match a, f x with
    | some n, some d => some (base * n + d)
    | _, _ => none) (some 0)

/-- The bytes a string of hexadecimal digits spells. DESIGN CHOICE (log 164): a string with another character spells none, and lower-case
digits count; the spec names no check for either. -/
def unhex (b : Bytes) : Option Bytes := (digitsNat 16 hexDigit b).map (beBytes (b.length / 2))

/-- An upper-case hexadecimal digit. -/
def hexChar (n : Nat) : Byte := BitVec.ofNat 8 (if n < 10 then 0x30 + n else 0x37 + n)

/-- Bytes as upper-case hexadecimal digits. -/
def toHex (b : Bytes) : Bytes := b.flatMap fun x => [hexChar (x.toNat / 16), hexChar (x.toNat % 16)]

/-- A text as bytes. -/
def ascii (l : List Char) : Bytes := l.map fun c => BitVec.ofNat 8 c.toNat

/-- A number as `n` decimal digits. -/
def decText : Nat → Nat → Bytes
  | 0, _ => []
  | n + 1, x => decText n (x / 10) ++ [BitVec.ofNat 8 (0x30 + x % 10)]

/-! ## Usages and modes (R147) -/

/-- The usage mask of an X9.143 key usage and mode of use; `none` where R147 does not name the pair. -/
def blockMask (u : Bytes) (mode : Nat) : Option (BitVec 16) :=
  let pair (x y z : Nat) (gen : Nat) (ver : Nat) : Option (BitVec 16) :=
    if mode = x then some ((1#16 <<< gen) ||| (1#16 <<< ver)) else if mode = y then some (1#16 <<< gen)
    else if mode = z then some (1#16 <<< ver) else none
  let single (bit : Nat) (l : List Nat) : Option (BitVec 16) := if l.contains mode then some (1#16 <<< bit) else none
  if u = ascii ['P', '0'] then pair (ch 'B') (ch 'D') (ch 'E') 0 1
  else if u = ascii ['V', '1'] then single 2 [ch 'C', ch 'V']
  else if u = ascii ['C', '0'] then pair (ch 'C') (ch 'G') (ch 'V') 3 4
  else if u = ascii ['E', '0'] then single 5 [ch 'X']
  else if u = ascii ['E', '2'] then single 6 [ch 'X']
  else if u = ascii ['E', '1'] then single 7 [ch 'X']
  else if u = ascii ['B', '0'] then single 8 [ch 'X']
  else if u = ascii ['M', '1'] ∨ u = ascii ['M', '3'] ∨ u = ascii ['M', '6'] then pair (ch 'C') (ch 'G') (ch 'V') 9 10
  else if u = ascii ['K', '1'] then pair (ch 'B') (ch 'D') (ch 'E') 11 12
  else none

/-- The usage and mode an exported mask takes; `none` where it maps to no single usage code. A PIN_VER key may take either of
two modes (`free`). -/
def maskUsage (m : BitVec 16) (free : Bool) : Option (Bytes × Char) :=
  let row (u : List Char) (c : Char) : Option (Bytes × Char) := some (ascii u, c)
  if m = 0x0003#16 then row ['P', '0'] 'B' else if m = 0x0001#16 then row ['P', '0'] 'D'
  else if m = 0x0002#16 then row ['P', '0'] 'E' else if m = 0x0004#16 then row ['V', '1'] (if free then 'C' else 'V')
  else if m = 0x0018#16 then row ['C', '0'] 'C' else if m = 0x0008#16 then row ['C', '0'] 'G'
  else if m = 0x0010#16 then row ['C', '0'] 'V' else if m = 0x0020#16 then row ['E', '0'] 'X'
  else if m = 0x0040#16 then row ['E', '2'] 'X' else if m = 0x0080#16 then row ['E', '1'] 'X'
  else if m = 0x0100#16 then row ['B', '0'] 'X' else if m = 0x1800#16 then row ['K', '1'] 'B'
  else if m = 0x0800#16 then row ['K', '1'] 'D' else if m = 0x1000#16 then row ['K', '1'] 'E'
  else none

/-! ## A block's header (R164) -/

/-- A block's header as read. -/
structure BlockHead where
  versionD : Bool
  mask : BitVec 16
  aes : Bool
  exportable : Bool
  optional : Nat
  deriving DecidableEq, Repr

/-- The header, where every field is within R164 and the length is the input's (check 3). -/
def blockHead (b : Bytes) : Option BlockHead :=
  let c (k : Nat) : Nat := leAt b k 1
  match digitsNat 10 decDigit (slice b 1 4), blockMask (slice b 5 2) (c 8), digitsNat 10 decDigit (slice b 12 2) with
  | some len, some m, some n =>
    if (b.take 16).all printable ∧ (c 0 = ch 'B' ∨ c 0 = ch 'D') ∧ len = b.length ∧ (c 7 = ch 'T' ∨ c 7 = ch 'A')
        ∧ (c 11 = ch 'E' ∨ c 11 = ch 'N' ∨ c 11 = ch 'S') ∧ c 14 = ch '0' ∧ c 15 = ch '0' then
      some { versionD := c 0 == ch 'D', mask := m, aes := c 7 == ch 'A', exportable := c 11 == ch 'E', optional := n }
    else none
  | _, _, _ => none

/-- The optional blocks from an offset on: their identifiers with their data, and the bytes they take. -/
def optBlocks : Nat → Bytes → Option (List (Bytes × Bytes) × Nat)
  | 0, _ => some ([], 0)
  | n + 1, b =>
    match digitsNat 16 hexDigit (slice b 2 2) with
    | none => none
    | some len =>
      if b.length < len ∨ len < 4 ∨ (b.take len).all printable = false then none
      else
        match optBlocks n (b.drop len) with
        | none => none
        | some (l, m) => some ((b.take 2, slice b 4 (len - 4)) :: l, len + m)

/-- A KC block's data: method 00 with 6 digits, or 01 with 10 (R166). -/
def kcOk (d : Bytes) : Bool :=
  ((d.take 2 == ascii ['0', '0']) && decide (d.length = 8) || (d.take 2 == ascii ['0', '1']) && decide (d.length = 12))
    && (unhex (d.drop 2)).isSome

/-- The optional blocks are those of R164, each well formed, filling whole cipher blocks (check 6). -/
def optOk (d : Bool) (l : List (Bytes × Bytes)) (len : Nat) : Bool :=
  decide (len % (if d then 16 else 8) = 0)
    && l.all fun x => if x.1 = ascii ['K', 'C'] then kcOk x.2 else x.1 = ascii ['P', 'B'] ∨ x.1 = ascii ['T', 'S']

/-- Payload and MAC bytes of a version (R164). -/
def payLen (d : Bool) : Nat := if d then 48 else 32
def macLen (d : Bool) : Nat := if d then 16 else 8

/-- The version's character code. -/
def verChar (d : Bool) : Nat := if d then ch 'D' else ch 'B'

/-! ## Check values (R167) -/

/-- The check value of a TDES or AES key: method 0 or 1. -/
def checkValue (alg method : Nat) (key : Bytes) : Bytes :=
  let c := if isTdes alg then 1 else 0
  let z := zeros (blockLen c)
  if method = 0 then (encBlock c key z).take 3 else (Sys2Proof.Machine.cmac c key z).take 5

/-- The check value a block reports: CMAC for AES, legacy for TDES (R163). -/
def blockCheckValue (alg : Nat) (key : Bytes) : Bytes := checkValue alg (if isAes alg then 1 else 0) key

/-- A check value in 8 bytes of output. -/
def pad8 (b : Bytes) : Bytes := (b ++ zeros 8).take 8

/-- KEY_CHECK_VALUE's body (R167). -/
def State.keyCheckValue (s : State) (r : Req) : State :=
  let d := r.desc
  if 1 < d.par 0 1 then s.refuseRange r 0x22
  else
    match s.resolve r.tenant (s.actingColour r) d.key0 with
    | .error x => s.reject r x
    | .ok (t, k, n) =>
      match t.keyChecks k n none (isTdes k.alg || isAes k.alg) true 0 with
      | some x => t.reject r x
      | none => t.answer r 0 (pad8 (checkValue k.alg (d.par 0 1) k.key))

/-- KEY_CHECK_VALUE (R167). -/
def execKeyCheckValue (r : Req) (s : State) : Host.Outcome State Fault Refusal :=
  .next (s.hostCommand r 0x0222 fun s => s.keyCheckValue r)

/-! ## KEYBLOCK_IMPORT (R165) -/

/-- The algorithm code of a key of the block's algorithm and a length in bits (check 9). -/
def blockAlg (aes : Bool) (len : Nat) : Option Nat :=
  if aes then (if len = 128 then some 3 else if len = 192 then some 4 else if len = 256 then some 5 else none)
  else if len = 128 then some 1 else if len = 192 then some 2 else none

/-- What a block that passes its checks gives: the new leaf's node and key, and the state its key resolution leaves. -/
structure Imported where
  node : Node
  alg : Nat
  key : Bytes
  exportable : Bool
  deriving DecidableEq, Repr

/-- Checks 9 to 15, of the clear payload. -/
def State.importKey (s : State) (r : Req) (x : BlockHead) (kbpk : RKey) (opts : List (Bytes × Bytes)) (p : Bytes) :
    Except Rej Imported :=
  let h := r.desc.key1
  match blockAlg x.aes (beNat (p.take 2)) with
  | none => .error ⟨0x0301, 0, 0x46⟩
  | some alg =>
    let key := slice p 2 (beNat (p.take 2) / 8)
    if kbpk.alg < alg then .error ⟨0x0201, 0, 0x4E⟩
    else
      match s.leafNode r h with
      | .error e => .error e
      | .ok n =>
        if x.mask ≠ n.usage then .error ⟨0x0301, 0, 0x48⟩
        else if alg ≠ n.alg then .error ⟨0x0301, 0, 0x49⟩
        else if opts.any (fun o => o.1 == ascii ['K', 'C'] &&
            decide (unhex (o.2.drop 2) ≠ some (checkValue alg (if o.2.take 2 = ascii ['0', '0'] then 0 else 1) key))) then
          .error ⟨0x0301, 0, 0x4B⟩
        else
          match s.leafRoom r.tenant (hLabel h) key.length with
          | some e => .error e
          | none => .ok { node := n, alg := alg, key := key, exportable := x.exportable }

/-- Checks 6 to 8, then the rest. -/
def State.importBlock (s : State) (r : Req) (x : BlockHead) (kbpk : RKey) : Except Rej Imported :=
  let b := r.bytes
  match optBlocks x.optional (b.drop 16) with
  | none => .error ⟨0x0301, 0, 0x4A⟩
  | some (opts, len) =>
    if optOk x.versionD opts len = false then .error ⟨0x0301, 0, 0x4A⟩
    else if b.length ≠ 16 + len + 2 * (payLen x.versionD + macLen x.versionD) then .error ⟨0x0301, 0, 0x46⟩
    else
      match unhex (b.drop (16 + len)) with
      | none => .error ⟨0x0301, 0, 0x46⟩
      | some d =>
        let p := payLen x.versionD
        match Crypto.keyBlockOpen (verChar x.versionD) kbpk.key (b.take (16 + len)) (d.take p) (d.drop p) with
        | none => .error ⟨0x0301, 0, 0x47⟩
        | some clear => s.importKey r x kbpk opts clear

/-- A failed import: its record, and the refusal (R165). -/
def State.importFailed (s : State) (r : Req) (x : Rej) : State := s.blockRecord.reject r x

/-- KEYBLOCK_IMPORT's checks in their order, and the leaf stored (R165). -/
def State.keyblockImport (s : State) (r : Req) : State :=
  if r.desc.ctxv = false then s.importFailed r ⟨0x0801, 0, 0x27⟩
  else
    match blockHead r.bytes with
    | none => s.importFailed r ⟨0x0301, 0, 0x44⟩
    | some x =>
      match s.resolve r.tenant (s.actingColour r) r.desc.key0 with
      | .error e => s.importFailed r e
      | .ok (t, k, n) =>
        if (if x.versionD then isAes k.alg else isTdes k.alg) = false then t.importFailed r ⟨0x0301, 0, 0x45⟩
        else
          match t.keyChecks k n (some 11) true true 0 with
          | some e => t.importFailed r e
          | none =>
            match t.importBlock r x k with
            | .error e => t.importFailed r e
            | .ok y =>
              if r.desc.outLen < 8 then t.complete r 0x0301 0 0x25 0 8 []
              else (t.storeLeaf r.tenant r.desc.key1 y.node y.key y.exportable).answer r r.desc.key1.toNat
                (pad8 (blockCheckValue y.alg y.key))

/-- KEYBLOCK_IMPORT (R163, R165). -/
def execKeyblockImport (r : Req) (s : State) : Host.Outcome State Fault Refusal :=
  .next (s.hostCommand r 0x0220 fun s => s.keyblockImport r)

/-! ## KEYBLOCK_EXPORT (R166) -/

/-- The optional blocks an export writes, and their number. -/
def exportOpts (kc : Bool) (alg : Nat) (key : Bytes) : Bytes × Nat :=
  if kc = false then ([], 0)
  else if isAes alg then (ascii ['K', 'C', '1', '0', '0', '1'] ++ toHex (checkValue alg 1 key), 1)
  else (ascii ['K', 'C', '0', 'C', '0', '0'] ++ toHex (checkValue alg 0 key) ++ ascii ['P', 'B', '0', '4'], 2)

/-- Length of an exported block (R166). -/
def exportLen (d kc : Bool) : Nat := 16 + (if kc then 16 else 0) + 2 * (payLen d + macLen d)

/-- The exported block: header, optional blocks, encrypted payload and MAC in hexadecimal digits. -/
def exportBlock (d kc : Bool) (kbpk : Bytes) (version : Bytes) (usage : Bytes × Char) (reexport : Bool) (alg : Nat)
    (key pad : Bytes) : Bytes :=
  let o := exportOpts kc alg key
  let head := ascii [if d then 'D' else 'B'] ++ decText 4 (exportLen d kc) ++ usage.1
    ++ ascii [if isAes alg then 'A' else 'T', usage.2] ++ version ++ ascii [if reexport then 'E' else 'N'] ++ decText 2 o.2
    ++ ascii ['0', '0'] ++ o.1
  let clear := (beBytes 2 (8 * key.length) ++ key ++ pad).take (payLen d)
  let n := payLen d + macLen d
  head ++ toHex ((Crypto.keyBlockSeal (verChar d) kbpk head clear ++ zeros n).take n)

/-- KEY1's export policy permits a key block (R166, R178). -/
def State.mayExport (s : State) (t : Nat) (n : Node) (h : W64) : Bool :=
  n.exportBits.getLsbD 0 && (decide (n.kind ≠ 2) || s.leafExportable t n (hLabel h))

/-- KEYBLOCK_EXPORT's refusals and its block (R166). -/
def State.keyblockExport (s : State) (r : Req) : State :=
  let d := r.desc
  match s.resolve r.tenant (s.actingColour r) d.key0 with
  | .error e => s.reject r e
  | .ok (s1, k0, n0) =>
    match s1.keyChecks k0 n0 (some 12) (isTdes k0.alg || isAes k0.alg) true 0 with
    | some e => s1.reject r e
    | none =>
      match s1.resolve r.tenant (s1.actingColour r) d.key1 with
      | .error e => s1.reject r e
      | .ok (s2, k1, n1) =>
        match s2.keyChecks k1 n1 none true true 1 with
        | some e => s2.reject r e
        | none =>
          if s2.mayExport r.tenant n1 d.key1 = false then s2.refuse r 0x0201 1 0x4D
          else
            match maskUsage k1.usage (Config.freshBool s2.fresh) with
            | none => s2.refuseRange r 0x48
            | some u =>
              if k0.alg < k1.alg then s2.refuse r 0x0201 0 0x4E
              else
                let t := s2.skip 5
                t.answer r 0 (exportBlock (isAes k0.alg) (decide (d.par 2 1 = 1)) k0.key (leBytes 2 (d.par 0 2)) u
                  (n1.exportBits.getLsbD 1) k1.alg k1.key ((s2.skip 1).randomBytes 48))

/-- KEYBLOCK_EXPORT (R163, R166). -/
def execKeyblockExport (r : Req) (s : State) : Host.Outcome State Fault Refusal :=
  .next (s.hostCommand r 0x0221 fun s => s.keyblockExport r)

end Sys2Proof.Machine
end

