-- ==== Sys2Proof/Machine/Serge.lean ====
section
/-! DEFINITION. The commands of the Serge lanes (file 08). -/

namespace Sys2Proof.Machine

/-! ## Operations (R250–R258) -/

/-- MOD_MUL (R252). -/
def execModMul (e : EngSrc) (s : State) : Host.Outcome State Fault Refusal := .next (s.engineOp .srg 0x0411 1 e)

/-- MOD_EXP (R252). -/
def execModExp (e : EngSrc) (s : State) : Host.Outcome State Fault Refusal := .next (s.engineOp .srg 0x0412 2 e)

/-- MOD_EXP_PUB (R252). -/
def execModExpPub (e : EngSrc) (s : State) : Host.Outcome State Fault Refusal := .next (s.engineOp .srg 0x0413 3 e)

/-- MOD_INV (R257). -/
def execModInv (e : EngSrc) (s : State) : Host.Outcome State Fault Refusal := .next (s.engineOp .srg 0x0414 4 e)

/-- RSA_SIGN (R254). -/
def execRsaSign (e : EngSrc) (s : State) : Host.Outcome State Fault Refusal := .next (s.engineOp .srg 0x0415 5 e)

/-- RSA_VERIFY (R254, R257). -/
def execRsaVerify (e : EngSrc) (s : State) : Host.Outcome State Fault Refusal := .next (s.engineOp .srg 0x0416 6 e)

/-- RSA_DECRYPT (R254, R257). -/
def execRsaDecrypt (e : EngSrc) (s : State) : Host.Outcome State Fault Refusal := .next (s.engineOp .srg 0x0417 7 e)

/-- ECDSA_SIGN (R252, R260). -/
def execEcdsaSign (e : EngSrc) (s : State) : Host.Outcome State Fault Refusal := .next (s.engineOp .srg 0x0418 8 e)

/-- ECDSA_VERIFY (R257). -/
def execEcdsaVerify (e : EngSrc) (s : State) : Host.Outcome State Fault Refusal := .next (s.engineOp .srg 0x0419 9 e)

/-- ECDH (R252). -/
def execEcdh (e : EngSrc) (s : State) : Host.Outcome State Fault Refusal := .next (s.engineOp .srg 0x041A 10 e)

/-- EDDSA_SIGN (R254). -/
def execEddsaSign (e : EngSrc) (s : State) : Host.Outcome State Fault Refusal := .next (s.engineOp .srg 0x041B 11 e)

/-- EDDSA_VERIFY (R254). -/
def execEddsaVerify (e : EngSrc) (s : State) : Host.Outcome State Fault Refusal := .next (s.engineOp .srg 0x041C 12 e)

/-- XDH (R252). -/
def execXdh (e : EngSrc) (s : State) : Host.Outcome State Fault Refusal := .next (s.engineOp .srg 0x041D 13 e)

/-- SERGE_PUBKEY (R250, R267): Damask's work for KEY_GENERATE and PUBKEY_READ, or a step. -/
def execSergePubkey (e : EngSrc) (s : State) : Host.Outcome State Fault Refusal :=
  .next (match e with
    | .raw r => if s.srg.holds e then s.offerRaw .srg r 0x0E else s
    | .step n k => s.engineStep .srg 0x0E n k)

/-- ED_PREFIX, a step (R266). -/
def execEdPrefix (n st : Nat) (s : State) : Host.Outcome State Fault Refusal := .next (s.engineStep .srg 0x10 n st)

/-- ED_COMMIT, a step (R266). -/
def execEdCommit (n st : Nat) (s : State) : Host.Outcome State Fault Refusal := .next (s.engineStep .srg 0x11 n st)

/-- ED_FINISH, a step (R266). -/
def execEdFinish (n st : Nat) (s : State) : Host.Outcome State Fault Refusal := .next (s.engineStep .srg 0x12 n st)

/-- SERGE_OPERATION_END (R264). -/
def execSergeOperationEnd (n : Nat) (s : State) : Host.Outcome State Fault Refusal := .next (s.endOp .srg n)

/-! ## The RSA key search (R267) -/

/-- The search leaves its lane: counted, its command answered by `f`, and the lane takes its next work. -/
def State.endSearch (s : State) (n : Nat) (f : State → State) : State :=
  let i := s.inst .srg n
  let s1 := s.setInst .srg n { i with running := none, ops := wrapAdd 32 i.ops 1 }
  (f { s1 with srg := { s1.srg with opsTotal := wrapAdd 32 s1.srg.opsTotal 1 } }).next .srg n

/-- Both primes are found: the leaf is stored where its contexts are still free (R194, R197), and the command completes with the
handle and, with PUBREAD, the public key. -/
def State.foundKey (s : State) (r : Req) (node : Node) (p q : Nat) : State :=
  let bits := rsaBits node.alg
  let key := rsaLeaf bits p q
  let h := r.desc.key1
  match s.leafRoom r.tenant (hLabel h) key.length with
  | some x => s.reject r x
  | none =>
  let t := s.storeLeaf r.tenant h node key (node.exportBits.getLsbD 0)
  t.answer r h.toNat (if node.exportBits.getLsbD 2 then beBytes 4 65537 ++ key.take (bits / 8) else [])

/-- 2^20 candidates without a prime: SERVICE_UNAVAILABLE and an ERROR record. -/
def State.searchFailed (s : State) (r : Req) (bits : Nat) : State :=
  (s.offer 0x0703 r.tenant bits 0).refuse r 0x0501 0 0

/-- At a candidate boundary the search yields its lane while other work waits for the pool and no lane is free. -/
def State.yieldSearch (s : State) (n : Nat) : State :=
  let i := s.inst .srg n
  match i.running, s.poolAt .srg n with
  | some j, some p =>
    match s.before .srg n p with
    | none => s
    | some q =>
      let t := (s.setInst .srg n { i with running := none, stack := j :: i.stack }).begin .srg n q
      if (t.inst .srg n).running.isSome then t else t.resume .srg n
  | _, _ => s

/-- One candidate of a search: drawn, sieved and tested. -/
def State.candidate (s : State) (n : Nat) (r : Req) (node : Node) (tried first : Nat) : State :=
  let bits := rsaBits node.alg
  match s.draw (bits / 256) with
  | none => s.stallFor (.command r)
  | some (b, t) =>
    let x := rsaCandidate bits b
    let i := t.inst .srg n
    let keep (z : Nat × Nat) : State :=
      t.setInst .srg n { i with running := i.running.map fun j => { j with search := some z }, count := wrapAdd 64 i.count (candidateCycles bits x) }
    if sieved x = false ∧ Crypto.probablePrime x then
      if first = 0 then (keep (0, x)).yieldSearch n
      else (keep (0, 0)).endSearch n fun t => t.foundKey r node first x
    else if tried + 1 = 2 ^ 20 then (keep (0, 0)).endSearch n fun t => t.searchFailed r bits
    else (keep (tried + 1, first)).yieldSearch n

/-- PRIME_TEST (R267). -/
def execPrimeTest (n : Nat) (s : State) : Host.Outcome State Fault Refusal :=
  let i := s.inst .srg n
  match i.running with
  | some j =>
    (match j.src, j.search with
      | .raw r, some (tried, first) =>
        (match s.keyNode r.tenant (hNode r.desc.key1) with
          | some node => .next (if s.isSearch j.src then s.candidate n r node tried first else s)
          | none => .next s)
      | _, _ => .next s)
  | none => .next s

/-! ## Faults, self-tests, reseeds, fences and clears (R260, R261, R272, R273) -/

/-- SERGE_FAULT (R261). -/
def execSergeFault (n check : Nat) (s : State) : Host.Outcome State Fault Refusal := .next (s.faultCommand .srg n check)

/-- SERGE_SELFTEST (R272). -/
def execSergeSelftest (n : Nat) (pass : Bool) (vector : Nat) (s : State) : Host.Outcome State Fault Refusal :=
  .next (s.selfTest .srg n pass vector)

/-- SERGE_SELFTEST_STARVE (R272). -/
def execSergeSelftestStarve (n : Nat) (s : State) : Host.Outcome State Fault Refusal := .next (s.starveTest .srg n)

/-- SERGE_SELFTEST_REQUEST (R272, R273). -/
def execSergeSelftestRequest (who : Initiator) (n : Nat) (s : State) : Host.Outcome State Fault Refusal :=
  .next (s.engineWrite who true fun s => s.askTest .srg n)

/-- SERGE_RESEED (R260). -/
def execSergeReseed (n : Nat) (s : State) : Host.Outcome State Fault Refusal := .next (s.reseedCommand .srg n)

/-- SERGE_RESEED_STALL (R260). -/
def execSergeReseedStall (n : Nat) (s : State) : Host.Outcome State Fault Refusal := .next (s.stallInst .srg n)

/-- SERGE_FENCE (R273). -/
def execSergeFence (who : Initiator) (n : Nat) (s : State) : Host.Outcome State Fault Refusal :=
  .next (s.engineWrite who true fun s => s.askFence .srg n)

/-- SERGE_FENCE_LIFT (R273). -/
def execSergeFenceLift (who : Initiator) (n : Nat) (s : State) : Host.Outcome State Fault Refusal :=
  .next (s.engineWrite who true fun s => s.askLift .srg n)

/-- SERGE_CLEAR_CYC (R273). -/
def execSergeClearCyc (who : Initiator) (n : Nat) (s : State) : Host.Outcome State Fault Refusal :=
  .next (s.engineWrite who false fun s => s.clearInst .srg n fun i => { i with count := 0 })

/-- SERGE_CLEAR_OPS (R273). -/
def execSergeClearOps (who : Initiator) (n : Nat) (s : State) : Host.Outcome State Fault Refusal :=
  .next (s.engineWrite who false fun s => s.clearInst .srg n fun i => { i with ops := 0 })

/-- SERGE_CLEAR_FAULT (R273). -/
def execSergeClearFault (who : Initiator) (n : Nat) (s : State) : Host.Outcome State Fault Refusal :=
  .next (s.engineWrite who false fun s => s.clearInst .srg n fun i => { i with faults := 0, stFails := 0 })

end Sys2Proof.Machine
end

