-- ==== Sys2Proof/Machine/Tulle.lean ====
section
/-! DEFINITION. The commands of the Tulle units (file 09). -/

namespace Sys2Proof.Machine

/-! ## Operations (R275–R283) -/

/-- MLKEM_ENCAPS (R278). -/
def execMlkemEncaps (e : EngSrc) (s : State) : Host.Outcome State Fault Refusal := .next (s.engineOp .tul 0x0421 1 e)

/-- MLKEM_DECAPS (R278). -/
def execMlkemDecaps (e : EngSrc) (s : State) : Host.Outcome State Fault Refusal := .next (s.engineOp .tul 0x0422 2 e)

/-- MLDSA_SIGN (R282). -/
def execMldsaSign (e : EngSrc) (s : State) : Host.Outcome State Fault Refusal := .next (s.engineOp .tul 0x0423 3 e)

/-- MLDSA_VERIFY (R281). -/
def execMldsaVerify (e : EngSrc) (s : State) : Host.Outcome State Fault Refusal := .next (s.engineOp .tul 0x0424 4 e)

/-- A composite command: its hashing, its lattice and its classical component run on three units (R280). -/
def State.compositeCommand (s : State) (op : Nat) : EngSrc → State
  | .raw r => s.hostCommand r op fun s =>
      if s.heldByUnit (.raw r) then
        let t := (((s.unstall (.raw r)).pumpFor .hsh r.tenant).pumpFor .tul r.tenant).pumpFor .srg r.tenant
        ((t.stallWaiting .hsh).stallWaiting .tul).stallWaiting .srg
      else s.offerRaw .hsh r op
  | .step .. => s

/-- COMP_SIGN (R279, R280): a raw command only. -/
def execCompSign (e : EngSrc) (s : State) : Host.Outcome State Fault Refusal := .next (s.compositeCommand 0x0425 e)

/-- COMP_VERIFY (R279, R280): a raw command only. -/
def execCompVerify (e : EngSrc) (s : State) : Host.Outcome State Fault Refusal := .next (s.compositeCommand 0x0426 e)

/-- TULLE_PUBKEY (R275): Damask's work for KEY_GENERATE and PUBKEY_READ, or a step. -/
def execTullePubkey (e : EngSrc) (s : State) : Host.Outcome State Fault Refusal :=
  .next (match e with
    | .raw r => if s.tul.holds e then s.offerRaw .tul r 7 else s
    | .step n k => s.engineStep .tul 7 n k)

/-- MLDSA_TR, a step (R289). -/
def execMldsaTr (n st : Nat) (s : State) : Host.Outcome State Fault Refusal := .next (s.engineStep .tul 8 n st)

/-- MLDSA_SIGN_MU, a step (R289). -/
def execMldsaSignMu (n st : Nat) (s : State) : Host.Outcome State Fault Refusal := .next (s.engineStep .tul 9 n st)

/-- TULLE_OPERATION_END (R288). -/
def execTulleOperationEnd (n : Nat) (s : State) : Host.Outcome State Fault Refusal := .next (s.endOp .tul n)

/-! ## Faults, self-tests, reseeds, fences and clears (R284, R286, R293, R299) -/

/-- TULLE_FAULT (R286). -/
def execTulleFault (n check : Nat) (s : State) : Host.Outcome State Fault Refusal := .next (s.faultCommand .tul n check)

/-- TULLE_SELFTEST (R293). -/
def execTulleSelftest (n : Nat) (pass : Bool) (vector : Nat) (s : State) : Host.Outcome State Fault Refusal :=
  .next (s.selfTest .tul n pass vector)

/-- TULLE_SELFTEST_STARVE (R293). -/
def execTulleSelftestStarve (n : Nat) (s : State) : Host.Outcome State Fault Refusal := .next (s.starveTest .tul n)

/-- TULLE_SELFTEST_REQUEST (R293, R299). -/
def execTulleSelftestRequest (who : Initiator) (n : Nat) (s : State) : Host.Outcome State Fault Refusal :=
  .next (s.engineWrite who true fun s => s.askTest .tul n)

/-- TULLE_RESEED (R284). -/
def execTulleReseed (n : Nat) (s : State) : Host.Outcome State Fault Refusal := .next (s.reseedCommand .tul n)

/-- TULLE_RESEED_STALL (R284). -/
def execTulleReseedStall (n : Nat) (s : State) : Host.Outcome State Fault Refusal := .next (s.stallInst .tul n)

/-- TULLE_FENCE (R299). -/
def execTulleFence (who : Initiator) (n : Nat) (s : State) : Host.Outcome State Fault Refusal :=
  .next (s.engineWrite who true fun s => s.askFence .tul n)

/-- TULLE_FENCE_LIFT (R299). -/
def execTulleFenceLift (who : Initiator) (n : Nat) (s : State) : Host.Outcome State Fault Refusal :=
  .next (s.engineWrite who true fun s => s.askLift .tul n)

/-- TULLE_CLEAR_CYC (R299). -/
def execTulleClearCyc (who : Initiator) (n : Nat) (s : State) : Host.Outcome State Fault Refusal :=
  .next (s.engineWrite who false fun s => s.clearInst .tul n fun i => { i with count := 0 })

/-- TULLE_CLEAR_OPS (R299). -/
def execTulleClearOps (who : Initiator) (n : Nat) (s : State) : Host.Outcome State Fault Refusal :=
  .next (s.engineWrite who false fun s => s.clearInst .tul n fun i => { i with ops := 0 })

/-- TULLE_CLEAR_FAULT (R299). -/
def execTulleClearFault (who : Initiator) (n : Nat) (s : State) : Host.Outcome State Fault Refusal :=
  .next (s.engineWrite who false fun s => s.clearInst .tul n fun i => { i with faults := 0, stFails := 0 })

end Sys2Proof.Machine
end

