-- ==== Sys2Proof/Machine/Dispatch.lean ====
section
/-! DEFINITION. One arm per command: its meaning, or its rejection by name. -/

namespace Sys2Proof.Machine

/-- The effect of a command on everything but the queue. -/
def exec (i : Instr) (s : State) : Host.Outcome State Fault Refusal :=
  match i with
  | .vinValid => Sys2Proof.Machine.execVinValid s
  | .mainDomainStart romOk => Sys2Proof.Machine.execMainDomainStart romOk s
  | .vinLoss => Sys2Proof.Machine.execVinLoss s
  | .resetN lowNs => Sys2Proof.Machine.execResetN lowNs s
  | .oscillatorCalibration => Sys2Proof.Machine.execOscillatorCalibration s
  | .cellInserted => Sys2Proof.Machine.execCellInserted s
  | .holdupCharged => Sys2Proof.Machine.execHoldupCharged s
  | .usb2Attach portB => Sys2Proof.Machine.execUsb2Attach portB s
  | .usb4LinkUp portB gen x2 depth => Sys2Proof.Machine.execUsb4LinkUp portB gen x2 depth s
  | .usb4LinkLoss portB => Sys2Proof.Machine.execUsb4LinkLoss portB s
  | .fwDownloadGo => Sys2Proof.Machine.execFwDownloadGo s
  | .usb2FwTransfer portB => Sys2Proof.Machine.execUsb2FwTransfer portB s
  | .fwImageReceived image => Sys2Proof.Machine.execFwImageReceived image s
  | .fwDownloadFailure => Sys2Proof.Machine.execFwDownloadFailure s
  | .structureImageApplied => Sys2Proof.Machine.execStructureImageApplied s
  | .loadRootGenerate => Sys2Proof.Machine.execLoadRootGenerate s
  | .loadEnd => Sys2Proof.Machine.execLoadEnd s
  | .downstreamRouterAttach colrid => Sys2Proof.Machine.execDownstreamRouterAttach colrid s
  | .thermalTrip sensor reading => Sys2Proof.Machine.execThermalTrip sensor reading s
  | .thermalTripAbort isl => Sys2Proof.Machine.execThermalTripAbort isl s
  | .thermalHoldCheck reading => Sys2Proof.Machine.execThermalHoldCheck reading s
  | .pwrTrippedClear who mask => Sys2Proof.Machine.execPwrTrippedClear who mask s
  | .pwrLeaseWrite who held => Sys2Proof.Machine.execPwrLeaseWrite who held s
  | .islandRun w isl => Sys2Proof.Machine.execIslandRun w isl s
  | .islandClockGate w isl => Sys2Proof.Machine.execIslandClockGate w isl s
  | .islandPowerGate w isl => Sys2Proof.Machine.execIslandPowerGate w isl s
  | .islandGateDone isl => Sys2Proof.Machine.execIslandGateDone isl s
  | .modereqDrain value => Sys2Proof.Machine.execModereqDrain value s
  | .drainLimitExpiry => Sys2Proof.Machine.execDrainLimitExpiry s
  | .drainToOff => Sys2Proof.Machine.execDrainToOff s
  | .drainToLoad => Sys2Proof.Machine.execDrainToLoad s
  | .drainToBoot romOk => Sys2Proof.Machine.execDrainToBoot romOk s
  | .registerWrite who p v hi => Sys2Proof.Machine.execRegisterWrite who p v hi s
  | .rwpComplementTimeout addr => Sys2Proof.Machine.execRwpComplementTimeout addr s
  | .broadcastWrite who addr v => Sys2Proof.Machine.execBroadcastWrite who addr v s
  | .pcieFunctionReset portB => Sys2Proof.Machine.execPcieFunctionReset portB s
  | .dbQctlEnable portB t q v => Sys2Proof.Machine.execDbQctlEnable portB t q v s
  | .dbQctlDisable portB t q v => Sys2Proof.Machine.execDbQctlDisable portB t q v s
  | .dbSqtailWrite t q v => Sys2Proof.Machine.execDbSqtailWrite t q v s
  | .dbCqheadWrite t q v => Sys2Proof.Machine.execDbCqheadWrite t q v s
  | .dbTresetWrite t v => Sys2Proof.Machine.execDbTresetWrite t v s
  | .sqEntryConsume t q entry => Sys2Proof.Machine.execSqEntryConsume t q entry s
  | .supervisorCycle => Sys2Proof.Machine.execSupervisorCycle s
  | .completionItimeExpiry t q => Sys2Proof.Machine.execCompletionItimeExpiry t q s
  | .overloadRecord t => Sys2Proof.Machine.execOverloadRecord t s
  | .tenantCreate r => Sys2Proof.Machine.execTenantCreate r s
  | .tenantDestroy r => Sys2Proof.Machine.execTenantDestroy r s
  | .tenantReset r => Sys2Proof.Machine.execTenantReset r s
  | .tenantQuery r => Sys2Proof.Machine.execTenantQuery r s
  | .tenantList r => Sys2Proof.Machine.execTenantList r s
  | .imageQuery r => Sys2Proof.Machine.execImageQuery r s
  | .imageChallenge r => Sys2Proof.Machine.execImageChallenge r s
  | .imageBegin r seq len => Sys2Proof.Machine.execImageBegin r seq len s
  | .imageData r off => Sys2Proof.Machine.execImageData r off s
  | .imageCommit r => Sys2Proof.Machine.execImageCommit r s
  | .replicaRetry addr => Sys2Proof.Machine.execReplicaRetry addr s
  | .imageAbort r => Sys2Proof.Machine.execImageAbort r s
  | .imageRead r slot off len => Sys2Proof.Machine.execImageRead r slot off len s
  | .imageApply r => Sys2Proof.Machine.execImageApply r s
  | .imageSessionTimeout => Sys2Proof.Machine.execImageSessionTimeout s
  | .imageChallengeLapse => Sys2Proof.Machine.execImageChallengeLapse s
  | .recipeRun r => Sys2Proof.Machine.execRecipeRun r s
  | .recipeLoadingDone n => Sys2Proof.Machine.execRecipeLoadingDone n s
  | .stepDispatch n st => Sys2Proof.Machine.execStepDispatch n st s
  | .stepResolve n st => Sys2Proof.Machine.execStepResolve n st s
  | .recipeTimeout n => Sys2Proof.Machine.execRecipeTimeout n s
  | .twillMaskReseed => Sys2Proof.Machine.execTwillMaskReseed s
  | .twillSuspensionRequest n st => Sys2Proof.Machine.execTwillSuspensionRequest n st s
  | .panExtract n st => Sys2Proof.Machine.execPanExtract n st s
  | .pinbParse n st => Sys2Proof.Machine.execPinbParse n st s
  | .pinbBuild n st => Sys2Proof.Machine.execPinbBuild n st s
  | .decimalise n st => Sys2Proof.Machine.execDecimalise n st s
  | .digitSelect n st => Sys2Proof.Machine.execDigitSelect n st s
  | .pad n st => Sys2Proof.Machine.execPad n st s
  | .compare n st => Sys2Proof.Machine.execCompare n st s
  | .branch n st => Sys2Proof.Machine.execBranch n st s
  | .child n st => Sys2Proof.Machine.execChild n st s
  | .keyblockImport r => Sys2Proof.Machine.execKeyblockImport r s
  | .keyblockExport r => Sys2Proof.Machine.execKeyblockExport r s
  | .keyCheckValue r => Sys2Proof.Machine.execKeyCheckValue r s
  | .nodeCreate r => Sys2Proof.Machine.execNodeCreate r s
  | .nodeDelete r => Sys2Proof.Machine.execNodeDelete r s
  | .nodeQuery r => Sys2Proof.Machine.execNodeQuery r s
  | .keyGenerate r => Sys2Proof.Machine.execKeyGenerate r s
  | .leafDelete r => Sys2Proof.Machine.execLeafDelete r s
  | .leafRetire r => Sys2Proof.Machine.execLeafRetire r s
  | .pubkeyRead r => Sys2Proof.Machine.execPubkeyRead r s
  | .counterQuery r => Sys2Proof.Machine.execCounterQuery r s
  | .ctxInit r => Sys2Proof.Machine.execCtxInit r s
  | .ctxClear r => Sys2Proof.Machine.execCtxClear r s
  | .ctxExport r => Sys2Proof.Machine.execCtxExport r s
  | .ctxImport r => Sys2Proof.Machine.execCtxImport r s
  | .ctxQuery r => Sys2Proof.Machine.execCtxQuery r s
  | .dmkLockWrite who lock => Sys2Proof.Machine.execDmkLockWrite who lock s
  | .dmkFlushTenant who t => Sys2Proof.Machine.execDmkFlushTenant who t s
  | .dmkFlushAll who => Sys2Proof.Machine.execDmkFlushAll who s
  | .calEncrypt r => Sys2Proof.Machine.execCalEncrypt r s
  | .calDecrypt r => Sys2Proof.Machine.execCalDecrypt r s
  | .calMacGen r => Sys2Proof.Machine.execCalMacGen r s
  | .calMacVer r => Sys2Proof.Machine.execCalMacVer r s
  | .ecbEnc n st => Sys2Proof.Machine.execEcbEnc n st s
  | .ecbDec n st => Sys2Proof.Machine.execEcbDec n st s
  | .cbcEnc n st => Sys2Proof.Machine.execCbcEnc n st s
  | .cbcDec n st => Sys2Proof.Machine.execCbcDec n st s
  | .cbcMac n st => Sys2Proof.Machine.execCbcMac n st s
  | .cmac n st => Sys2Proof.Machine.execCmac n st s
  | .gcmSeal n st => Sys2Proof.Machine.execGcmSeal n st s
  | .gcmOpen n st => Sys2Proof.Machine.execGcmOpen n st s
  | .calMessageEnd n => Sys2Proof.Machine.execCalMessageEnd n s
  | .calSuspend n => Sys2Proof.Machine.execCalSuspend n s
  | .calSuspensionOverflow n => Sys2Proof.Machine.execCalSuspensionOverflow n s
  | .calFault n check => Sys2Proof.Machine.execCalFault n check s
  | .calSelftest n pass vector => Sys2Proof.Machine.execCalSelftest n pass vector s
  | .calSelftestStarve n => Sys2Proof.Machine.execCalSelftestStarve n s
  | .calSelftestRequest who n => Sys2Proof.Machine.execCalSelftestRequest who n s
  | .calReseed n => Sys2Proof.Machine.execCalReseed n s
  | .calReseedStall n => Sys2Proof.Machine.execCalReseedStall n s
  | .calFence who n => Sys2Proof.Machine.execCalFence who n s
  | .calFenceLift who n => Sys2Proof.Machine.execCalFenceLift who n s
  | .calClearBlk who n => Sys2Proof.Machine.execCalClearBlk who n s
  | .calClearSusp who n => Sys2Proof.Machine.execCalClearSusp who n s
  | .calClearFault who n => Sys2Proof.Machine.execCalClearFault who n s
  | .modMul e => Sys2Proof.Machine.execModMul e s
  | .modExp e => Sys2Proof.Machine.execModExp e s
  | .modExpPub e => Sys2Proof.Machine.execModExpPub e s
  | .modInv e => Sys2Proof.Machine.execModInv e s
  | .rsaSign e => Sys2Proof.Machine.execRsaSign e s
  | .rsaVerify e => Sys2Proof.Machine.execRsaVerify e s
  | .rsaDecrypt e => Sys2Proof.Machine.execRsaDecrypt e s
  | .ecdsaSign e => Sys2Proof.Machine.execEcdsaSign e s
  | .ecdsaVerify e => Sys2Proof.Machine.execEcdsaVerify e s
  | .ecdh e => Sys2Proof.Machine.execEcdh e s
  | .eddsaSign e => Sys2Proof.Machine.execEddsaSign e s
  | .eddsaVerify e => Sys2Proof.Machine.execEddsaVerify e s
  | .xdh e => Sys2Proof.Machine.execXdh e s
  | .sergePubkey e => Sys2Proof.Machine.execSergePubkey e s
  | .primeTest n => Sys2Proof.Machine.execPrimeTest n s
  | .edPrefix n st => Sys2Proof.Machine.execEdPrefix n st s
  | .edCommit n st => Sys2Proof.Machine.execEdCommit n st s
  | .edFinish n st => Sys2Proof.Machine.execEdFinish n st s
  | .sergeOperationEnd n => Sys2Proof.Machine.execSergeOperationEnd n s
  | .sergeFault n check => Sys2Proof.Machine.execSergeFault n check s
  | .sergeSelftest n pass vector => Sys2Proof.Machine.execSergeSelftest n pass vector s
  | .sergeSelftestStarve n => Sys2Proof.Machine.execSergeSelftestStarve n s
  | .sergeSelftestRequest who n => Sys2Proof.Machine.execSergeSelftestRequest who n s
  | .sergeReseed n => Sys2Proof.Machine.execSergeReseed n s
  | .sergeReseedStall n => Sys2Proof.Machine.execSergeReseedStall n s
  | .sergeFence who n => Sys2Proof.Machine.execSergeFence who n s
  | .sergeFenceLift who n => Sys2Proof.Machine.execSergeFenceLift who n s
  | .sergeClearCyc who n => Sys2Proof.Machine.execSergeClearCyc who n s
  | .sergeClearOps who n => Sys2Proof.Machine.execSergeClearOps who n s
  | .sergeClearFault who n => Sys2Proof.Machine.execSergeClearFault who n s
  | .mlkemEncaps e => Sys2Proof.Machine.execMlkemEncaps e s
  | .mlkemDecaps e => Sys2Proof.Machine.execMlkemDecaps e s
  | .mldsaSign e => Sys2Proof.Machine.execMldsaSign e s
  | .mldsaVerify e => Sys2Proof.Machine.execMldsaVerify e s
  | .compSign e => Sys2Proof.Machine.execCompSign e s
  | .compVerify e => Sys2Proof.Machine.execCompVerify e s
  | .tullePubkey e => Sys2Proof.Machine.execTullePubkey e s
  | .mldsaTr n st => Sys2Proof.Machine.execMldsaTr n st s
  | .mldsaSignMu n st => Sys2Proof.Machine.execMldsaSignMu n st s
  | .tulleOperationEnd n => Sys2Proof.Machine.execTulleOperationEnd n s
  | .tulleFault n check => Sys2Proof.Machine.execTulleFault n check s
  | .tulleSelftest n pass vector => Sys2Proof.Machine.execTulleSelftest n pass vector s
  | .tulleSelftestStarve n => Sys2Proof.Machine.execTulleSelftestStarve n s
  | .tulleSelftestRequest who n => Sys2Proof.Machine.execTulleSelftestRequest who n s
  | .tulleReseed n => Sys2Proof.Machine.execTulleReseed n s
  | .tulleFence who n => Sys2Proof.Machine.execTulleFence who n s
  | .tulleFenceLift who n => Sys2Proof.Machine.execTulleFenceLift who n s
  | .tulleClearCyc who n => Sys2Proof.Machine.execTulleClearCyc who n s
  | .tulleClearOps who n => Sys2Proof.Machine.execTulleClearOps who n s
  | .tulleClearFault who n => Sys2Proof.Machine.execTulleClearFault who n s
  | .hash r => Sys2Proof.Machine.execHash r s
  | .hmacGen r => Sys2Proof.Machine.execHmacGen r s
  | .hmacVer r => Sys2Proof.Machine.execHmacVer r s
  | .hashStep n st => Sys2Proof.Machine.execHashStep n st s
  | .hmacStep n st => Sys2Proof.Machine.execHmacStep n st s
  | .hashOperationEnd n => Sys2Proof.Machine.execHashOperationEnd n s
  | .hashFault n check => Sys2Proof.Machine.execHashFault n check s
  | .hashSelftest n pass vector => Sys2Proof.Machine.execHashSelftest n pass vector s
  | .hashSelftestStarve n => Sys2Proof.Machine.execHashSelftestStarve n s
  | .hashSelftestRequest who n => Sys2Proof.Machine.execHashSelftestRequest who n s
  | .hashReseed n => Sys2Proof.Machine.execHashReseed n s
  | .hashFence who n => Sys2Proof.Machine.execHashFence who n s
  | .hashFenceLift who n => Sys2Proof.Machine.execHashFenceLift who n s
  | .hashClearBlk who n => Sys2Proof.Machine.execHashClearBlk who n s
  | .hashClearOps who n => Sys2Proof.Machine.execHashClearOps who n s
  | .hashClearFault who n => Sys2Proof.Machine.execHashClearFault who n s
  | .entStartupAttemptEnd failed katOk => Sys2Proof.Machine.execEntStartupAttemptEnd failed katOk s
  | .legacyStartupComplete => Sys2Proof.Machine.execLegacyStartupComplete s
  | .healthTestFailure stream test count => Sys2Proof.Machine.execHealthTestFailure stream test count s
  | .retestComplete => Sys2Proof.Machine.execRetestComplete s
  | .expanderReseed => Sys2Proof.Machine.execExpanderReseed s
  | .seedPoolFull => Sys2Proof.Machine.execSeedPoolFull s
  | .entReadRelease k => Sys2Proof.Machine.execEntReadRelease k s
  | .entDataRead who => Sys2Proof.Machine.execEntDataRead who s
  | .katPeriodic => Sys2Proof.Machine.execKatPeriodic s
  | .conditionerKat pass => Sys2Proof.Machine.execConditionerKat pass s
  | .expanderKat pass => Sys2Proof.Machine.execExpanderKat pass s
  | .expanderKatForce pass => Sys2Proof.Machine.execExpanderKatForce pass s
  | .rawCapture who v => Sys2Proof.Machine.execRawCapture who v s
  | .rawCaptureDone samples => Sys2Proof.Machine.execRawCaptureDone samples s
  | .randomGenerate r => Sys2Proof.Machine.execRandomGenerate r s
  | .nop core f a => Sys2Proof.Machine.execNop core f a s
  | .add core f a => Sys2Proof.Machine.execAdd core f a s
  | .sub core f a => Sys2Proof.Machine.execSub core f a s
  | .and core f a => Sys2Proof.Machine.execAnd core f a s
  | .or core f a => Sys2Proof.Machine.execOr core f a s
  | .xor core f a => Sys2Proof.Machine.execXor core f a s
  | .shl core f a => Sys2Proof.Machine.execShl core f a s
  | .shr core f a => Sys2Proof.Machine.execShr core f a s
  | .sar core f a => Sys2Proof.Machine.execSar core f a s
  | .addi core f a => Sys2Proof.Machine.execAddi core f a s
  | .andi core f a => Sys2Proof.Machine.execAndi core f a s
  | .shli core f a => Sys2Proof.Machine.execShli core f a s
  | .shri core f a => Sys2Proof.Machine.execShri core f a s
  | .sari core f a => Sys2Proof.Machine.execSari core f a s
  | .rotri core f a => Sys2Proof.Machine.execRotri core f a s
  | .movi core f a => Sys2Proof.Machine.execMovi core f a s
  | .cmpeq core f a => Sys2Proof.Machine.execCmpeq core f a s
  | .cmpne core f a => Sys2Proof.Machine.execCmpne core f a s
  | .cmplt core f a => Sys2Proof.Machine.execCmplt core f a s
  | .cmpltu core f a => Sys2Proof.Machine.execCmpltu core f a s
  | .cmpeqi core f a => Sys2Proof.Machine.execCmpeqi core f a s
  | .cmplti core f a => Sys2Proof.Machine.execCmplti core f a s
  | .cmpltui core f a => Sys2Proof.Machine.execCmpltui core f a s
  | .pand core f a => Sys2Proof.Machine.execPand core f a s
  | .por core f a => Sys2Proof.Machine.execPor core f a s
  | .pxor core f a => Sys2Proof.Machine.execPxor core f a s
  | .mul core f a => Sys2Proof.Machine.execMul core f a s
  | .mulh core f a => Sys2Proof.Machine.execMulh core f a s
  | .mac core f a => Sys2Proof.Machine.execMac core f a s
  | .multiplierWrite core => Sys2Proof.Machine.execMultiplierWrite core s
  | .mgetl core f a => Sys2Proof.Machine.execMgetl core f a s
  | .mgeth core f a => Sys2Proof.Machine.execMgeth core f a s
  | .bswap core f a => Sys2Proof.Machine.execBswap core f a s
  | .shori core a => Sys2Proof.Machine.execShori core a s
  | .ld8 core a busy => Sys2Proof.Machine.execLd8 core a busy s
  | .ld16 core a busy => Sys2Proof.Machine.execLd16 core a busy s
  | .ld32 core f a busy => Sys2Proof.Machine.execLd32 core f a busy s
  | .ld64 core f a busy => Sys2Proof.Machine.execLd64 core f a busy s
  | .lds8 core a busy => Sys2Proof.Machine.execLds8 core a busy s
  | .lds16 core a busy => Sys2Proof.Machine.execLds16 core a busy s
  | .lds32 core a busy => Sys2Proof.Machine.execLds32 core a busy s
  | .st8 core a => Sys2Proof.Machine.execSt8 core a s
  | .st16 core a => Sys2Proof.Machine.execSt16 core a s
  | .st32 core f a => Sys2Proof.Machine.execSt32 core f a s
  | .st64 core f a => Sys2Proof.Machine.execSt64 core f a s
  | .storeRetire core busy => Sys2Proof.Machine.execStoreRetire core busy s
  | .storeFault core => Sys2Proof.Machine.execStoreFault core s
  | .br core a => Sys2Proof.Machine.execBr core a s
  | .brl core a => Sys2Proof.Machine.execBrl core a s
  | .jr core a => Sys2Proof.Machine.execJr core a s
  | .jrl core a => Sys2Proof.Machine.execJrl core a s
  | .crd core a => Sys2Proof.Machine.execCrd core a s
  | .cwr core a => Sys2Proof.Machine.execCwr core a s
  | .scall core a => Sys2Proof.Machine.execScall core a s
  | .sret core a => Sys2Proof.Machine.execSret core a s
  | .tret core a => Sys2Proof.Machine.execTret core a s
  | .msub core a => Sys2Proof.Machine.execMsub core a s
  | .mailboxCompletion core unit => Sys2Proof.Machine.execMailboxCompletion core unit s
  | .wfe core a => Sys2Proof.Machine.execWfe core a s
  | .wfeWake core => Sys2Proof.Machine.execWfeWake core s
  | .fence core a => Sys2Proof.Machine.execFence core a s
  | .brk core a => Sys2Proof.Machine.execBrk core a s
  | .interruptEntry core => Sys2Proof.Machine.execInterruptEntry core s
  | .gpEdge pin => Sys2Proof.Machine.execGpEdge pin s
  | .secureWatchdogExpiry n => Sys2Proof.Machine.execSecureWatchdogExpiry n s
  | .supvSwctlDown who n => Sys2Proof.Machine.execSupvSwctlDown who n s
  | .secureRestartPending n => Sys2Proof.Machine.execSecureRestartPending n s
  | .supvSwbeat who n => Sys2Proof.Machine.execSupvSwbeat who n s
  | .batchPresent b delta => Sys2Proof.Machine.execBatchPresent b delta s
  | .supervisorCheckFailure b check => Sys2Proof.Machine.execSupervisorCheckFailure b check s
  | .supervisorSelftestDone b pass => Sys2Proof.Machine.execSupervisorSelftestDone b pass s
  | .missedBatchTakeover delta => Sys2Proof.Machine.execMissedBatchTakeover delta s
  | .supvCtlGiveup b => Sys2Proof.Machine.execSupvCtlGiveup b s
  | .supvCtlFenceA who on => Sys2Proof.Machine.execSupvCtlFenceA who on s
  | .supvCtlFenceB who on => Sys2Proof.Machine.execSupvCtlFenceB who on s
  | .supvWcolWrite who n v => Sys2Proof.Machine.execSupvWcolWrite who n v s
  | .supvPinwWrite who v => Sys2Proof.Machine.execSupvPinwWrite who v s
  | .supvIrqwWrite who n v => Sys2Proof.Machine.execSupvIrqwWrite who n v s
  | .supvSwi who core line => Sys2Proof.Machine.execSupvSwi who core line s
  | .memInit who v => Sys2Proof.Machine.execMemInit who v s
  | .memInitDone => Sys2Proof.Machine.execMemInitDone s
  | .scrubVisit bank => Sys2Proof.Machine.execScrubVisit bank s
  | .scrubForce cls => Sys2Proof.Machine.execScrubForce cls s
  | .regionTest addr done pass => Sys2Proof.Machine.execRegionTest addr done pass s
  | .regionTestForce addr => Sys2Proof.Machine.execRegionTestForce addr s
  | .marchStart who v => Sys2Proof.Machine.execMarchStart who v s
  | .marchDone pass failWord => Sys2Proof.Machine.execMarchDone pass failWord s
  | .eccTestCtl who v => Sys2Proof.Machine.execEccTestCtl who v s
  | .eccTestRead who => Sys2Proof.Machine.execEccTestRead who s
  | .eccTestWrite who => Sys2Proof.Machine.execEccTestWrite who s
  | .conflictClear who v => Sys2Proof.Machine.execConflictClear who v s
  | .gatePset who v => Sys2Proof.Machine.execGatePset who v s
  | .gateGset who v => Sys2Proof.Machine.execGateGset who v s
  | .ruleWriteComplete => Sys2Proof.Machine.execRuleWriteComplete s
  | .transactionIntegrityFailure master addr => Sys2Proof.Machine.execTransactionIntegrityFailure master addr s
  | .meshScan ch samples => Sys2Proof.Machine.execMeshScan ch samples s
  | .meshConfirmScan ch samples => Sys2Proof.Machine.execMeshConfirmScan ch samples s
  | .lightDetect cell level => Sys2Proof.Machine.execLightDetect cell level s
  | .junctionTempDetect sensor reading => Sys2Proof.Machine.execJunctionTempDetect sensor reading s
  | .vinOvervoltage mv => Sys2Proof.Machine.execVinOvervoltage mv s
  | .railDetect rail mv uv => Sys2Proof.Machine.execRailDetect rail mv uv s
  | .frequencyDetect isl period short => Sys2Proof.Machine.execFrequencyDetect isl period short s
  | .glitchDetect n => Sys2Proof.Machine.execGlitchDetect n s
  | .intrusionPinSample pin level => Sys2Proof.Machine.execIntrusionPinSample pin level s
  | .dynamicPairTick pair same => Sys2Proof.Machine.execDynamicPairTick pair same s
  | .backupMonitorCheck vbatMv temp => Sys2Proof.Machine.execBackupMonitorCheck vbatMv temp s
  | .alarmHoldExpiry mon => Sys2Proof.Machine.execAlarmHoldExpiry mon s
  | .stimulusDue mon => Sys2Proof.Machine.execStimulusDue mon s
  | .stimulusRequest who v => Sys2Proof.Machine.execStimulusRequest who v s
  | .stimulusEnd pass => Sys2Proof.Machine.execStimulusEnd pass s
  | .tamperLogWrite => Sys2Proof.Machine.execTamperLogWrite s
  | .tamperExport r => Sys2Proof.Machine.execTamperExport r s
  | .meshQuery r => Sys2Proof.Machine.execMeshQuery r s
  | .bkdIntrcfgWrite who v => Sys2Proof.Machine.execBkdIntrcfgWrite who v s
  | .lcAdvance r => Sys2Proof.Machine.execLcAdvance r s
  | .lifecycleRestart romOk => Sys2Proof.Machine.execLifecycleRestart romOk s
  | .debugNormal r => Sys2Proof.Machine.execDebugNormal r s
  | .cerChallenge r => Sys2Proof.Machine.execCerChallenge r s
  | .cerOpen r => Sys2Proof.Machine.execCerOpen r s
  | .cerStep r => Sys2Proof.Machine.execCerStep r s
  | .cerClose r => Sys2Proof.Machine.execCerClose r s
  | .cerQuery r => Sys2Proof.Machine.execCerQuery r s
  | .custFound r => Sys2Proof.Machine.execCustFound r s
  | .registryRead r => Sys2Proof.Machine.execRegistryRead r s
  | .unlock => Sys2Proof.Machine.execUnlock s
  | .endOfLife => Sys2Proof.Machine.execEndOfLife s
  | .rootGen => Sys2Proof.Machine.execRootGen s
  | .custAdd => Sys2Proof.Machine.execCustAdd s
  | .custRemove => Sys2Proof.Machine.execCustRemove s
  | .quorumSet => Sys2Proof.Machine.execQuorumSet s
  | .meshEnrol => Sys2Proof.Machine.execMeshEnrol s
  | .intrConfig => Sys2Proof.Machine.execIntrConfig s
  | .cloneSend => Sys2Proof.Machine.execCloneSend s
  | .cloneReceive => Sys2Proof.Machine.execCloneReceive s
  | .cloneWaitTimeout => Sys2Proof.Machine.execCloneWaitTimeout s
  | .ownerMove => Sys2Proof.Machine.execOwnerMove s
  | .debugSecure => Sys2Proof.Machine.execDebugSecure s
  | .debugSecureDrained => Sys2Proof.Machine.execDebugSecureDrained s
  | .ownerSet => Sys2Proof.Machine.execOwnerSet s
  | .ceremonyTimeout => Sys2Proof.Machine.execCeremonyTimeout s
  | .ceremonyChallengeLapse => Sys2Proof.Machine.execCeremonyChallengeLapse s
  | .lcsDbgenWrite who v => Sys2Proof.Machine.execLcsDbgenWrite who v s
  | .idcode => Sys2Proof.Machine.execIdcode s
  | .bypass => Sys2Proof.Machine.execBypass s
  | .samplePreload v => Sys2Proof.Machine.execSamplePreload v s
  | .extest v => Sys2Proof.Machine.execExtest v s
  | .scan => Sys2Proof.Machine.execScan s
  | .scanExit romOk => Sys2Proof.Machine.execScanExit romOk s
  | .tapChallenge => Sys2Proof.Machine.execTapChallenge s
  | .tapToken tok => Sys2Proof.Machine.execTapToken tok s
  | .dapMemoryRead w addr size => Sys2Proof.Machine.execDapMemoryRead w addr size s
  | .dapMemoryWrite w addr data => Sys2Proof.Machine.execDapMemoryWrite w addr data s
  | .dapRegisterRead core w reg => Sys2Proof.Machine.execDapRegisterRead core w reg s
  | .dapRegisterWrite core w reg v => Sys2Proof.Machine.execDapRegisterWrite core w reg v s
  | .dapHalt core w => Sys2Proof.Machine.execDapHalt core w s
  | .dapSingleStep core w => Sys2Proof.Machine.execDapSingleStep core w s
  | .recordWrite => Sys2Proof.Machine.execRecordWrite s
  | .summaryInterval code => Sys2Proof.Machine.execSummaryInterval code s
  | .recSeek who q => Sys2Proof.Machine.execRecSeek who q s
  | .seekDone who => Sys2Proof.Machine.execSeekDone who s
  | .recPost who v => Sys2Proof.Machine.execRecPost who v s
  | .recQuery r => Sys2Proof.Machine.execRecQuery r s
  | .recExport r => Sys2Proof.Machine.execRecExport r s
  | .chainHeadDetect => Sys2Proof.Machine.execChainHeadDetect s
  | .chainFrameReceive v parityOk => Sys2Proof.Machine.execChainFrameReceive v parityOk s
  | .chainFrameSend => Sys2Proof.Machine.execChainFrameSend s
  | .bilkinLinkTrained n => Sys2Proof.Machine.execBilkinLinkTrained n s
  | .hello n h => Sys2Proof.Machine.execHello n h s
  | .auth1 n eph kem => Sys2Proof.Machine.execAuth1 n eph kem s
  | .auth2 n sig => Sys2Proof.Machine.execAuth2 n sig s
  | .keepalive n f => Sys2Proof.Machine.execKeepalive n f s
  | .keepaliveSend n => Sys2Proof.Machine.execKeepaliveSend n s
  | .keepaliveMissed n => Sys2Proof.Machine.execKeepaliveMissed n s
  | .linkSignalLoss n => Sys2Proof.Machine.execLinkSignalLoss n s
  | .handshakeTimeout n => Sys2Proof.Machine.execHandshakeTimeout n s
  | .linkRetrain n => Sys2Proof.Machine.execLinkRetrain n s
  | .rekey n ok => Sys2Proof.Machine.execRekey n ok s
  | .lsa n f l => Sys2Proof.Machine.execLsa n f l s
  | .lsaPeriodic => Sys2Proof.Machine.execLsaPeriodic s
  | .coordinatorElection => Sys2Proof.Machine.execCoordinatorElection s
  | .assign n f table => Sys2Proof.Machine.execAssign n f table s
  | .routeRecompute => Sys2Proof.Machine.execRouteRecompute s
  | .fwdReq n f id urgent rootHash version r => Sys2Proof.Machine.execFwdReq n f id urgent rootHash version r s
  | .fwdRsp n f id status detail reason outLen info out => Sys2Proof.Machine.execFwdRsp n f id status detail reason outLen info out s
  | .forwardTimeout id => Sys2Proof.Machine.execForwardTimeout id s
  | .ownerUnreachableRecord => Sys2Proof.Machine.execOwnerUnreachableRecord s
  | .spillReq n f id rootHash version r => Sys2Proof.Machine.execSpillReq n f id rootHash version r s
  | .spillRsp n f id busy status detail reason outLen info out => Sys2Proof.Machine.execSpillRsp n f id busy status detail reason outLen info out s
  | .spillTimeout id => Sys2Proof.Machine.execSpillTimeout id s
  | .replica n f seq len off data last => Sys2Proof.Machine.execReplica n f seq len off data last s
  | .replicaAck n f busy reason => Sys2Proof.Machine.execReplicaAck n f busy reason s
  | .clone n f stage body => Sys2Proof.Machine.execClone n f stage body s
  | .resetNRelease romOk => Sys2Proof.Machine.execResetNRelease romOk s
  | .cellRemoved => Sys2Proof.Machine.execCellRemoved s
  | .backupDomainPowerLoss => Sys2Proof.Machine.execBackupDomainPowerLoss s
  | .meshEnrolmentDone prints => Sys2Proof.Machine.execMeshEnrolmentDone prints s
  | .tulleReseedStall n => Sys2Proof.Machine.execTulleReseedStall n s
  | .hashReseedStall n => Sys2Proof.Machine.execHashReseedStall n s

end Sys2Proof.Machine
end

