-- ==== Sys2Proof/Machine/Tick.lean ====
section
/-! DEFINITION. What the passing of time does when no command waits. -/

namespace Sys2Proof.Machine

/-- The operating time advances by one 1,024th of a second, in whole milliseconds (SYS_OPTIME, R448): 125/128 ms. -/
def Sys.tick (x : Sys) : Sys :=
  let f := x.optimeFrac + 125
  { x with optimeFrac := f % 128, optime := wrapAdd 48 x.optime (f / 128) }

/-- The secure-world watchdog runs while its core is in the secure world (R351), and not while a debugger halts it (R440). -/
def State.runWatch (s : State) : State :=
  (s.zyn.cores.filter fun x => decide (x.1 < 16) && x.2.started && decide (x.2.world = .secure) && !s.lcs.halted.getLsbD x.1).foldl
    (fun t x =>
      let w := SMap.get WorkerCtl.reset t.supv.workers x.1
      { t with supv := { t.supv with workers := SMap.set WorkerCtl.reset t.supv.workers x.1 { w with watch := w.watch + 125 } } })
    s

/-- One tick of the backup clock (R22, BKD_TS): TS advances, and the operating time with it on main power. -/
def State.tick (s : State) : State :=
  let t := { s with bkd := { s.bkd with ts := wrapAdd 48 s.bkd.ts 1 } }
  if s.onMain then { t with sys := t.sys.tick }.runWatch else t

end Sys2Proof.Machine
end

