-- ==== Sys2Proof/Safety.lean ====
section
/-! DEFINITION. The terms that the statements about the block use: a command that completes, the areas of the state it
leaves alone, a submission whose turn has come, an engine operation that may run, a core that issues its next word, and what
a good state is. -/

namespace Sys2Proof.Machine

/-- The command answers a next state, and the property holds of it. -/
def Completes (i : Instr) (s : State) (p : State → Prop) : Prop := ∃ t, exec i s = .next t ∧ p t

/-- The areas of the state, one for each of its fields but the queue of commands. -/
inductive Area where
  | part | sys | boot | pwr | img | host | twl | dmk | cal | srg | tul | hsh | ent | zyn | supv | mem | gate | lace | bkd | lcs
  | rcd | blk | rwp | fresh
  deriving DecidableEq, Repr

/-- Two states agree on an area. -/
def Area.same (a : Area) (s t : State) : Prop :=
  match a with
  | .part => t.part = s.part
  | .sys => t.sys = s.sys
  | .boot => t.boot = s.boot
  | .pwr => t.pwr = s.pwr
  | .img => t.img = s.img
  | .host => t.host = s.host
  | .twl => t.twl = s.twl
  | .dmk => t.dmk = s.dmk
  | .cal => t.cal = s.cal
  | .srg => t.srg = s.srg
  | .tul => t.tul = s.tul
  | .hsh => t.hsh = s.hsh
  | .ent => t.ent = s.ent
  | .zyn => t.zyn = s.zyn
  | .supv => t.supv = s.supv
  | .mem => t.mem = s.mem
  | .gate => t.gate = s.gate
  | .lace => t.lace = s.lace
  | .bkd => t.bkd = s.bkd
  | .lcs => t.lcs = s.lcs
  | .rcd => t.rcd = s.rcd
  | .blk => t.blk = s.blk
  | .rwp => t.rwp = s.rwp
  | .fresh => t.fresh = s.fresh

/-- `t` differs from `s` in no area but those listed, and its queue is that of `s`. -/
def OnlyIn (l : List Area) (s t : State) : Prop := (∀ a, a ∉ l → a.same s t) ∧ t.pending = s.pending

/-- What a loss of the main domain's power or its reset keeps (R19, R20, R24): BBRAM, the slots of MRAM, OTP and the operating
time; and what has left the device (the model's own record, assumption log 6). -/
def Kept (s t : State) : Prop :=
  t.bkd = s.bkd ∧ t.part = s.part ∧ t.img.slotA = s.img.slotA ∧ t.img.slotB = s.img.slotB ∧ t.lcs.otp = s.lcs.otp
    ∧ t.dmk.ks = s.dmk.ks ∧ t.dmk.gens = s.dmk.gens ∧ t.sys.optime = s.sys.optime
    ∧ t.host.outbox = s.host.outbox ∧ t.host.signals = s.host.signals ∧ t.blk.frames = s.blk.frames

/-- What they destroy: memories, keys, tenants, queues, instances, cores and pending register writes. -/
def Volatile (t : State) : Prop :=
  t.mem = Memory.reset ∧ t.dmk.keyc = [] ∧ t.dmk.ctx = [] ∧ t.twl = Twill.reset
    ∧ t.host = { HostSide.reset with outbox := t.host.outbox, signals := t.host.signals }
    ∧ t.zyn = Zynkel.reset ∧ t.cal = Engine.reset ∧ t.srg = Engine.reset ∧ t.tul = Engine.reset ∧ t.hsh = Engine.reset
    ∧ t.gate = Gates.reset ∧ t.blk = { Fabric.reset with frames := t.blk.frames } ∧ t.rwp = []

/-- A host command that has been admitted and whose turn has come (R97, R104, R108): it is here, nothing holds it back, its unit
may and can read its context (R377, R390), and its input can be read. -/
def Turn (s : State) (r : Req) (op : Nat) : Prop :=
  r.desc.opcode = op ∧ s.onMain = true ∧ s.isAdmitted r = true ∧ s.isAway r = false ∧ s.heldBack r = false
    ∧ s.ctxDenial r = 0 ∧ s.ctxError r = none ∧ (r.desc.inLen = 0 ∨ r.inOk = true)

/-- The command answers its completion OK: after the state `u`, `r` completes with its result word and output (R99, R107). -/
def Answers (i : Instr) (s : State) (r : Req) (u : State) (info : Nat) (out : Bytes) : Prop :=
  exec i s = .next (u.answer r info out)

/-- The command is refused with a status, a detail and a reason (R100–R102). -/
def Refuses (i : Instr) (s : State) (r : Req) (status detail reason : Nat) : Prop :=
  exec i s = .next (s.refuse r status detail reason)

/-- A core that issues the word at its PC without fetch fault, its bank not held by the March engine, and with no failed store due
(R332, R333, R383). -/
def Issues (s : State) (n : Nat) : Prop :=
  s.mayIssue n = true ∧ s.marchHolds (s.core n).cur.pc.toNat = false ∧ s.fetchFault n = none ∧ (s.core n).storeDue = none

/-- Core `n` becomes `c`, in which `k` cycles then pass (R325, R327); no other core moves, and nothing else of the state but the count
of free values. -/
def CoreMoves (s t : State) (n : Nat) (c : ZCore) (k : Nat) : Prop :=
  t.core n = c.pass k ∧ (∀ m, m ≠ n → t.core m = s.core m)
    ∧ t.zyn = { s.zyn with cores := t.zyn.cores } ∧ OnlyIn [.zyn, .fresh] s t

/-- The same where accesses decide the number of cycles, at least one. -/
def CoreWaits (s t : State) (n : Nat) (c : ZCore) : Prop := ∃ k, 1 ≤ k ∧ CoreMoves s t n c k

/-- A frame of a type arrives at this device over link `n`: its tag and counter are right, it is addressed here, and `t` is the
state with the link's counter advanced (R460, R461, R472). -/
def Delivered (s : State) (n : Nat) (f : Frame) (ftype : Nat) (t : State) : Prop :=
  s.onMain = true ∧ (s.link n).state = .up ∧ f.ftype = ftype ∧ f.flags.getLsbD 1 = false ∧ (f.dst = s.ownAddr ∨ f.dst = 0xFFFF)
    ∧ ∃ b l, s.openFrame n f = some (b, l) ∧ t = s.setLink n l

/-- The memories are in their canonical form: rising addresses, no byte that an unlisted address reads as. -/
def Memory.wf (m : Memory) : Bool := SMap.wf 0 m.bytes && SMap.wf 0 m.chk

/-- Good states: memory canonical, and the recorder's and the tamper log's queues within their depths (R417, R449). -/
def State.Good (s : State) : Prop := s.mem.wf = true ∧ s.rcd.queue.length ≤ 64 ∧ s.bkd.logQueue.length ≤ 32

end Sys2Proof.Machine
end

