-- ==== Sys2Proof/Certificates/Slice0/Obligations.lean ====
section
/-! DEFINITION. The statements about the block, by chapter of its spec. -/

open Sys2Proof Sys2Proof.Machine

/-! ## Supply, start and download (file 01) -/

/-- R13, R19–R22, R24, R26, R54, R500: the events of the supply that leave the mode as it is, each next state written whole; a loss of
VIN, which leads to BACKUP, and a RESET_N held low a microsecond or more, which holds the main domain in reset with the mode as it
was: both lose the volatile state and keep the backup domain, MRAM and OTP. -/
def Obligations.SupplyEventsAndLossesOfPower : Prop :=
  (∀ s : State,
    (s.sys.mode = .backup → s.pwr.vinOk = false →
      exec .vinValid s = .next { s with
        pwr := { s.pwr with vinOk := true, thermHold := false, goodChecks := 0 }
        sys := { s.sys with thermOff := s.sys.thermOff || s.pwr.thermHold } })
    ∧ (s.sys.mode = .backup → s.pwr.vinOk = false → s.pwr.cellFitted = false →
      exec .backupDomainPowerLoss s = .next { s with
        bkd := { s.bkd with intact := false }, pwr := { s.pwr with holdupOk := false } })
    ∧ (s.powered = true → exec .oscillatorCalibration s = .next { s with pwr := { s.pwr with calibrated := true } })
    ∧ (s.powered = true ∨ s.pwr.cellFitted = true →
      exec .holdupCharged s = .next { s with pwr := { s.pwr with holdupOk := true } })
    ∧ exec .cellInserted s = .next { s with pwr := { s.pwr with cellFitted := true } }
    ∧ exec .cellRemoved s = .next { s with pwr := { s.pwr with cellFitted := false } })
  ∧ (∀ s : State, s.powered = true →
    Completes .vinLoss s (fun t => t.sys.mode = .backup ∧ t.pwr.vinOk = false ∧ t.pwr.railsOk = false ∧ t.onMain = false
      ∧ Kept s t ∧ Volatile t)
    ∧ (∀ ns, 1000 ≤ ns →
      Completes (.resetN ns) s (fun t => t.sys.mode = s.sys.mode ∧ t.boot.held = true ∧ t.onMain = false ∧ t.serving = false
        ∧ t.readyHigh = false ∧ t.alertLow = false ∧ Kept s t ∧ Volatile t)))

/-- R23–R26, R47: each way the main domain starts ends in BOOT with the power-cycle count of BBRAM advanced where the backup domain
is intact, no firmware verified, no core started and a failed ROM self-test shown by SYS_BOOTERR 0x0001. -/
def Obligations.EveryStartOfTheMainDomainEndsInBoot : Prop :=
  ∀ (s : State) (ok : Bool),
    let started (cause : Nat) (t : State) : Prop :=
      t.sys.mode = .boot ∧ t.sys.cause = cause ∧ t.sys.fwVerified = false ∧ t.sys.romFailed = !ok
        ∧ t.sys.bootErr = (if ok then 0 else 1) ∧ t.zyn = Zynkel.reset ∧ t.onMain = true
        ∧ (s.bkd.intact = true → t.bkd.pwrcyc = satAdd 32 s.bkd.pwrcyc 1 ∧ t.sys.bkdLost = false)
        ∧ (s.bkd.intact = false → t.sys.bkdLost = true ∧ t.bkd.erased = true ∧ t.bkd.l0 = none
            ∧ (s.lcs.otp.interrupted = none → t.bkd.lockKept = true ∧ t.bkd.eraseCause = 3))
    (s.sys.mode = .backup → s.pwr.vinOk = true → s.pwr.thermHold = false → s.lcs.scanning = false →
      Completes (.mainDomainStart ok) s (started 0))
    ∧ (s.powered = true → s.boot.held = true → s.lcs.scanning = false → Completes (.resetNRelease ok) s (started 1))
    ∧ (s.drained .boot = true → Completes (.drainToBoot ok) s (started 9))

/-- R30–R33, R37–R39, R333: downloads in BOOT. A port's pull-up, the start of a download on either path, a second start, which is
recorded, its failure, and the first failing check of R38, which rejects an image; after a failed ROM self-test every image is
refused; an image that passes every check starts the cores: LOAD, the measurement, the supervisors at the KIND 0 entry and the
present workers in their secure worlds at the KIND 1 entry, with ZCR_NEPC at the KIND 2 entry. -/
def Obligations.DownloadsRunInBootAndStartTheCores : Prop :=
  (∀ s : State, s.booting = true →
    (∀ b, Completes (.usb2Attach b) s fun t =>
      t.boot.usb2A = (s.boot.usb2A || !b) ∧ t.boot.usb2B = (s.boot.usb2B || b) ∧ (t.usb2Device b).isSome = true ∧ OnlyIn [.boot] s t)
    ∧ (s.boot.download = .none → exec .fwDownloadGo s = .next { s with boot := { s.boot with
        download := .usb4, dmaAddr := s.sys.fwAddr &&& ~~~0xFFF#64, dmaLen := s.sys.fwLen } })
    ∧ (s.boot.download ≠ .none → exec .fwDownloadGo s = .next (s.offer 0x0004 0 0 0))
    ∧ (∀ b, (if b then s.boot.usb2B else s.boot.usb2A) = true →
      (s.boot.download = .none → exec (.usb2FwTransfer b) s = .next { s with boot := { s.boot with download := .usb2 } })
      ∧ (s.boot.download ≠ .none → exec (.usb2FwTransfer b) s = .next (s.offer 0x0004 1 0 0)))
    ∧ (s.boot.download ≠ .none → Completes .fwDownloadFailure s fun t =>
      t.sys.bootErr = 0x0009 ∧ t.boot.download = .none ∧ t.mem = s.mem.zeroRange 0x20000000 0x800000
        ∧ OnlyIn [.boot, .mem, .sys, .rcd] s t)
    ∧ (∀ img : Bytes, (s.boot.download = .usb2 ∨ s.boot.download = .usb4 ∧ img.length = s.boot.dmaLen) →
      (s.sys.romFailed = true → Completes (.fwImageReceived img) s fun t =>
        t.boot.download = .none ∧ t.mem = s.mem.zeroRange 0x20000000 0x800000 ∧ OnlyIn [.boot, .mem] s t)
      ∧ (s.sys.romFailed = false → firmwareCode s.part s.lcs.otp img ≠ 0 →
        Completes (.fwImageReceived img) s fun t =>
          t.sys.bootErr = firmwareCode s.part s.lcs.otp img ∧ t.sys.rejects = satAdd 8 s.sys.rejects 1
            ∧ t.boot.download = .none ∧ t.mem = s.mem.zeroRange 0x20000000 0x800000 ∧ OnlyIn [.boot, .mem, .sys, .rcd] s t)))
  ∧ (∀ (s : State) (img : Bytes), s.booting = true →
    (s.boot.download = .usb2 ∨ s.boot.download = .usb4 ∧ img.length = s.boot.dmaLen) → s.sys.romFailed = false →
    firmwareCode s.part s.lcs.otp img = 0 →
    Completes (.fwImageReceived img) s fun t =>
      t.sys.mode = .load ∧ t.sys.fwVerified = true ∧ t.sys.meas = digestAll img ∧ t.boot.download = .none
        ∧ t.zyn.imemNormal = normalPages (segments img)
        ∧ (∀ n, n < s.part.workers → (t.core n).started = true ∧ (t.core n).world = .secure
            ∧ (t.core n).secure.pc = BitVec.ofNat 64 (entryPoint (segments img) 1)
            ∧ (t.core n).nepc = BitVec.ofNat 32 (entryPoint (segments img) 2))
        ∧ (∀ n, n = 16 ∨ n = 17 → (t.core n).started = true
            ∧ (t.core n).secure.pc = BitVec.ofNat 64 (entryPoint (segments img) 0)))

/-- R40, R43, R44, R77, R121, R208, R427: the steps of LOAD. Applying a structure image sets IMG_APPLIED and puts the chosen copy in
force; ROOT_DUE draws a root, formats the region and clears ROOT_DUE, waits without randomness, and draws again after an all-zero
value; the end of LOAD, with the start-up tests passed, places port B and leads to LOCKED where a lock is due, else to SERVICE or
DEGRADED. -/
def Obligations.StepsOfLoad : Prop :=
  ∀ s : State, s.loading = true →
    (s.sys.imgApplied = false → Completes .structureImageApplied s fun t =>
      t.sys.imgApplied = true ∧ t.sys.defaultImage = s.chooseCopy.2.isNone ∧ t.pwr.lease = 0
        ∧ (∀ b, s.chooseCopy.2 = some b → t.sys.imgSlotB = b ∧ t.img.force = slotImage (s.mramSlot b))
        ∧ OnlyIn [.sys, .pwr, .img, .host, .twl, .dmk, .ent, .mem, .gate, .lace, .bkd, .rcd, .fresh] s t)
    ∧ (s.bkd.rootDue = true → s.sys.imgApplied = true →
      (∀ w u, s.takeWords 2 = some (w, u) →
        (wordBytes w ≠ zeros 32 → Completes .loadRootGenerate s fun t =>
          t.bkd.l0 = some (wordBytes w) ∧ t.bkd.erased = false ∧ t.bkd.rootDue = false
            ∧ OnlyIn [.sys, .dmk, .ent, .bkd, .fresh] s t)
        ∧ (wordBytes w = zeros 32 → exec .loadRootGenerate s = .next u))
      ∧ (s.takeWords 2 = none → exec .loadRootGenerate s = .next s))
    ∧ (s.sys.imgApplied = true → s.startTestsPassed = true → s.bkd.rootDue = false →
      (s.lockDue = true → s.lifeCycle ≠ 3 → Completes .loadEnd s fun t =>
        t.sys.mode = .locked ∧ t.dmk.locked = true ∧ t.bkd.lockKept = true
          ∧ t.host.portB.downstream = s.img.force.portBDown)
      ∧ (s.lockDue = false ∨ s.lifeCycle = 3 → Completes .loadEnd s fun t =>
        t.sys.mode = (if s.fenceStands then .degraded else .service) ∧ t.sys.cause = 3
          ∧ t.host.portB.downstream = s.img.force.portBDown))

/-! ## Islands, temperature and DRAIN (file 01) -/

/-- R51–R53, R61: a request to gate an island, served when no earlier one of its world waits, is refused for an absent island with
0x0103, and for the normal world on an owned one with 0x0802; otherwise it waits, and is carried out once the island's work has
ended. RUN brings clock and power back; one behind earlier requests of its world waits for them. A write of PWR_LEASE takes the bits
of gateable islands that are present and not owned by the image. -/
def Obligations.GateRequestsAndLeasesOfIslands : Prop :=
  (∀ (s : State) (w : World) (isl : Nat),
    (s.pwr.serving w = none →
      (s.islandPresent isl = false → ∀ c ∈ [Instr.islandClockGate w isl, .islandPowerGate w isl],
        exec c s = .next (s.setGres w { status := 0x0103, isl := isl, done := true }))
      ∧ (s.islandPresent isl = false → s.pwr.tripped.getLsbD isl = false → s.pwr.tripping.getLsbD isl = false →
        exec (.islandRun w isl) s = .next (s.setGres w { status := 0x0103, isl := isl, done := true }))
      ∧ (s.islandPresent isl = true → w = .normal → s.pwr.owner.getLsbD isl = true →
        ∀ c ∈ [Instr.islandClockGate w isl, .islandPowerGate w isl],
          exec c s = .next (s.setGres w { status := 0x0802, isl := isl, done := true }))
      ∧ (s.islandPresent isl = true → s.pwr.tripped.getLsbD isl = false → s.pwr.tripping.getLsbD isl = false →
        Completes (.islandRun w isl) s fun t => t.pwr.clkOn.getLsbD isl = true ∧ t.pwr.pwrOn.getLsbD isl = true
          ∧ t.gres w = { status := 0, isl := isl, done := true } ∧ OnlyIn [.pwr, .ent, .rcd, .blk] s t))
    ∧ (s.islandPresent isl = true → gateable isl = true → (w = .normal → s.pwr.owner.getLsbD isl = false) →
      ∀ x ∈ [(Instr.islandClockGate w isl, GateAct.clock), (.islandPowerGate w isl, .power)],
        Completes x.1 s fun t => t.gres w = { status := 0, isl := isl, done := false }
          ∧ t.pwr.gating = s.pwr.gating ++ [{ world := w, isl := isl, act := x.2 }] ∧ t.pwr.clkOn = s.pwr.clkOn ∧ OnlyIn [.pwr] s t)
    ∧ ((s.pwr.serving w).isSome = true → s.pwr.tripped.getLsbD isl = false → s.pwr.tripping.getLsbD isl = false →
        Completes (.islandRun w isl) s fun t => t.gres w = { status := 0, isl := isl, done := false }
          ∧ t.pwr.gating = s.pwr.gating ++ [{ world := w, isl := isl, act := .run }] ∧ t.pwr.clkOn = s.pwr.clkOn ∧ OnlyIn [.pwr] s t)
    ∧ (∀ g, isl < 19 → s.pwr.gateServed isl = some g → s.islandBusy isl = false →
      Completes (.islandGateDone isl) s (fun t => t.pwr.gating.length < s.pwr.gating.length)
      ∧ (s.pwr.gating.filter (fun x => decide (x.world = g.world)) = [g] → Completes (.islandGateDone isl) s fun t =>
          t.pwr.clkOn.getLsbD isl = false ∧ (g.act = .power → t.pwr.pwrOn.getLsbD isl = false)
            ∧ t.pwr.gating = s.pwr.gating.erase g ∧ t.gres g.world = { status := 0, isl := isl, done := true })))
  ∧ (∀ (s : State) (who : Initiator) (held : BitVec 19), s.secureOrControl who = true →
    exec (.pwrLeaseWrite who held) s = .next { s with
      pwr := { s.pwr with lease := held &&& gateMask &&& s.part.islands &&& ~~~s.pwr.ownerImg } })

/-- R54: a reading of 135 °C (199) or more trips the sensor's island, or starts a shutdown where it is none that can be gated; the
abort that follows leaves the island off and tripped, or the device in BACKUP under a thermal hold; the hold ends after 80 good
checks; an island that has cooled returns when its bit is cleared. -/
def Obligations.ThermalTripHoldAndReturn : Prop :=
  ∀ s : State,
    (∀ k x, s.onMain = true → k < 32 → 199 ≤ x → Completes (.thermalTrip k x) s fun t =>
      (∀ isl, isl < 19 → (s.senseJunction k x).tripIsland k = some isl → s.pwr.tripped.getLsbD isl = false →
        t.pwr.tripping.getLsbD isl = true)
      ∧ ((s.senseJunction k x).tripIsland k = none → t.pwr.shutdownDue = true) ∧ OnlyIn [.pwr] s t)
    ∧ (∀ k x, s.onMain = true → k < 32 → x < 199 → exec (.thermalTrip k x) s = .next (s.senseJunction k x))
    ∧ (∀ isl, isl < 19 → s.onMain = true → s.pwr.tripping.getLsbD isl = true → s.pwr.shutdownDue = true →
      Completes (.thermalTripAbort isl) s fun t => t.sys.mode = .backup ∧ t.sys.cause = 10 ∧ t.pwr.thermHold = true ∧ Volatile t)
    ∧ (∀ isl, isl < 19 → s.onMain = true → s.pwr.tripping.getLsbD isl = true → s.pwr.shutdownDue = false →
      Completes (.thermalTripAbort isl) s fun t =>
        t.pwr.tripped.getLsbD isl = true ∧ t.pwr.tripping.getLsbD isl = false ∧ t.pwr.clkOn.getLsbD isl = false
          ∧ t.pwr.pwrOn.getLsbD isl = false ∧ (s.sys.mode = .service → t.sys.mode = .degraded ∧ t.sys.cause = 10))
    ∧ (∀ x, s.sys.mode = .backup → s.pwr.thermHold = true → Completes (.thermalHoldCheck x) s fun t =>
      t.bkd.temp = x
        ∧ (x ≤ 164 → 79 ≤ s.pwr.goodChecks → s.pwr.vinOnly = false → t.pwr.thermHold = false)
        ∧ (164 < x → t.pwr.thermHold = true ∧ t.pwr.goodChecks = 0) ∧ OnlyIn [.sys, .pwr, .bkd] s t)
    ∧ (∀ b mask isl, s.inControl (.supervisor b) = true → isl < 19 → mask.getLsbD isl = true → s.pwr.tripped.getLsbD isl = true →
      s.islandCool isl = true → Completes (.pwrTrippedClear (.supervisor b) mask) s fun t =>
        t.pwr.tripped.getLsbD isl = false ∧ t.pwr.clkOn.getLsbD isl = true ∧ t.pwr.pwrOn.getLsbD isl = true)

/-- R47–R49: a mode request with GO in SERVICE, DEGRADED or LOCKED enters DRAIN with its target, but gives way to an alarm of the same
supervisor cycle; one in another mode, in a transition or during a ceremony is discarded and recorded, and one with DRAINTO 3
dropped. The limit aborts what is left; with no admitted work left, DRAIN to OFF stops the engines' clocks and DRAIN to LOAD returns
to LOAD with its leases gone. -/
def Obligations.DrainAndItsTargets : Prop :=
  ∀ s : State,
    let discarded (v : W32) : Prop := exec (.modereqDrain v) s = .next (s.offer 0x0002 v.toNat 0 0)
    (∀ v : W32, s.onMain = true →
      let free := s.sys.pend = false ∧ s.lcs.ceremony = none
      (free → bits v.toNat 0 2 ≠ 3 → v.getLsbD 8 = true →
        (s.sys.alarmAt ≠ some s.supv.cycle → (s.sys.mode = .service ∨ s.sys.mode = .degraded ∨ s.sys.mode = .locked) →
          Completes (.modereqDrain v) s fun t => t.sys.mode = .drain ∧ t.sys.pend = true ∧ t.sys.cause = 8
            ∧ t.sys.drainTo = (if bits v.toNat 0 2 = 0 then .off else if bits v.toNat 0 2 = 1 then .load else .boot))
        ∧ (s.sys.alarmAt = some s.supv.cycle ∨ s.sys.mode = .boot ∨ s.sys.mode = .load → discarded v))
      ∧ (free → bits v.toNat 0 2 = 3 → exec (.modereqDrain v) s = .next s)
      ∧ (s.sys.pend = true ∨ s.lcs.ceremony ≠ none → discarded v))
    ∧ (s.sys.mode = .drain → (∀ r, s.instOf r = none) → Completes .drainLimitExpiry s fun t => t.host.admitted = [])
    ∧ (∀ r n, s.sys.mode = .drain → s.host.admitted.map (·.req) = [r] → s.instOf r = some n → (s.slot n).req = r →
        ((s.slot n).state = .running ∨ (s.slot n).state = .loading) → Completes .drainLimitExpiry s fun t =>
          t.host.admitted = [] ∧ t.slot n = Inst.free ∧ t.twl.lastCause = 8)
    ∧ (s.drained .off = true → exec .drainToOff s = .next { s with
        sys := { s.sys with pend := false }, pwr := { s.pwr with clkOn := s.pwr.clkOn &&& ~~~0x01FE0#19 } })
    ∧ (s.drained .load = true → Completes .drainToLoad s fun t =>
        t.sys.mode = .load ∧ t.sys.cause = 9 ∧ t.pwr.lease = 0 ∧ t.sys.imgApplied = false ∧ t.zyn = s.zyn)

/-! ## Ports, doorbells and queue pairs (file 03) -/

/-- R26, R89, R118, R121: a port's link comes up and goes; its loss ends the tunnel and counts; a reset of its function clears its
MSI-X table, its BARs and its command register; a downstream port's adapter opens to a Colrid part within CHAIN_MAX, and its tunnel
needs the adapter. -/
def Obligations.PortsOfTheHostInterface : Prop :=
  ∀ (s : State) (b : Bool),
    (∀ gen x2 depth, s.onMain = true → (s.port b).link = false → Completes (.usb4LinkUp b gen x2 depth) s fun t =>
      (t.port b).link = true ∧ (t.port b).gen = gen ∧ (t.port b).x2 = x2
        ∧ ((s.port b).downstream = false → (t.port b).tunnel = true ∧ (t.port b).depth = depth)
        ∧ (b = true → (s.port b).downstream = true → (t.port b).tunnel = t.host.dsen ∧ (t.port b).depth = 0) ∧ OnlyIn [.host] s t)
    ∧ (s.onMain = true → (s.port b).link = true → Completes (.usb4LinkLoss b) s fun t =>
        (t.port b).link = false ∧ (t.port b).tunnel = false ∧ (t.port b).linkdowns = satAdd 8 (s.port b).linkdowns 1
          ∧ (b = true → t.host.dsen = false) ∧ OnlyIn [.host, .rcd] s t)
    ∧ (s.onMain = true → Completes (.pcieFunctionReset b) s fun t =>
        (t.port b).msix = [] ∧ (t.port b).bar0 = 0 ∧ (t.port b).bar2 = 0 ∧ (t.port b).command = 0 ∧ OnlyIn [.host] s t)
    ∧ (∀ c, s.host.portB.downstream = true → Completes (.downstreamRouterAttach c) s fun t =>
        t.host.dsen = (c && s.host.portB.link && decide (s.host.portA.depth ≤ s.host.chainMax))
          ∧ t.host.portB.tunnel = (s.host.portB.tunnel && t.host.dsen) ∧ OnlyIn [.host] s t)

/-- R91, R92, R94, R118: what the doorbells of a queue pair do. Enabling a disabled pair on a port it may be bound to starts it
afresh; an index outside the ring faults the pair, 1 for a tail and 5 for a head that would release records not written; an expired
ITIME signals the pair's vector once. -/
def Obligations.DoorbellsOfAQueuePair : Prop :=
  ∀ (s : State) (t q : Nat), s.doorbell t q = true →
    (∀ b (v : W32), v.getLsbD 0 = true → (s.port b).downstream = false → s.sys.mode ≠ .boot → s.sys.mode ≠ .load →
      (s.qp t q).enabled = false → s.mayBind t q b = true → Completes (.dbQctlEnable b t q v) s fun u =>
        (u.qp t q).enabled = true ∧ (u.qp t q).en = true ∧ (u.qp t q).sqHead = 0 ∧ (u.qp t q).sqTail = 0 ∧ (u.qp t q).cqHead = 0
          ∧ (u.qp t q).cqTail = 0 ∧ (u.qp t q).phase = true ∧ (u.qp t q).fault = 0 ∧ (u.qp t q).portB = b
          ∧ (u.qp t q).ien = v.getLsbD 1 ∧ OnlyIn [.host] s u)
    ∧ (∀ b (v : W32), v.getLsbD 0 = false → (s.port b).downstream = false → Completes (.dbQctlDisable b t q v) s fun u =>
        (u.qp t q).en = false ∧ (u.qp t q).ring = [] ∧ (u.qp t q).ien = v.getLsbD 1 ∧ OnlyIn [.host] s u)
    ∧ (∀ v : W32, (v.extractLsb' 0 13).toNat < 2 * s.depth t q →
        exec (.dbSqtailWrite t q v) s = .next (s.setQp t q { s.qp t q with sqTail := (v.extractLsb' 0 13).toNat }))
    ∧ (∀ v : W32, 2 * s.depth t q ≤ (v.extractLsb' 0 13).toNat → exec (.dbSqtailWrite t q v) s = .next (s.faultQp t q 1))
    ∧ (∀ v : W32, (v.extractLsb' 0 13).toNat < 2 * s.depth t q →
        ((v.extractLsb' 0 13).toNat + 2 * s.depth t q - (s.qp t q).cqHead) % (2 * s.depth t q)
          ≤ ((s.qp t q).cqTail + 2 * s.depth t q - (s.qp t q).cqHead) % (2 * s.depth t q) →
        exec (.dbCqheadWrite t q v) s = .next (s.setQp t q { s.qp t q with cqHead := (v.extractLsb' 0 13).toNat }))
    ∧ (∀ v : W32, 2 * s.depth t q ≤ (v.extractLsb' 0 13).toNat → exec (.dbCqheadWrite t q v) s = .next (s.faultQp t q 5))
    ∧ ((s.qp t q).itimeRun = true → (s.qp t q).ien = true → 0 < (s.qp t q).unsignalled →
        exec (.completionItimeExpiry t q) s = .next ((s.setQp t q { s.qp t q with unsignalled := 0, itimeRun := false }).signal
          (s.qp t q).portB t (s.queueRec t q).vector))

/-! ## Registers (files 01 and 03) -/

/-- R3, R16–R18, R248, R390: a register write is dropped and counted where its initiator may not write, commits at once in a plain
register, and waits in a paired one for its exact complement, which commits it; any other word there is an inverted-shadow
mismatch, and a value whose complement does not come is discarded with a record. A broadcast write reaches the present instances
that BGRP selects and no other; here the count of blocks that a write of CCLR clears on Calico. -/
def Obligations.RegisterWritesCommitWaitOrReachTheirInstances : Prop :=
  (∀ (s : State) (who : Initiator) (a b off : Nat) (v : W32),
    s.onMain = true → a % 4 = 0 → a < 0xE0000000 → blockOf a = some (b, off) →
    (s.mayWrite who b off = false → exec (.registerWrite who (.dev a) v none) s = .next (s.dropWrite who))
    ∧ (s.mayWrite who b off = true → s.registerPresent b off = true →
      (isPaired b off = false → (4 ≤ off → isPaired b (off - 4) = false) →
        exec (.registerWrite who (.dev a) v none) s = .next (s.commit who b off v))
      ∧ (isPaired b off = true → Completes (.registerWrite who (.dev a) v none) s fun t =>
          t.rwp.getLast? = some { who := who, addr := a, value := v } ∧ OnlyIn [.rwp] s t)
      ∧ (∀ w, isPaired b off = false → 4 ≤ off → isPaired b (off - 4) = true →
          s.rwp.find? (fun w => decide (w.who = who) && w.addr == a - 4) = some w →
        let t := { s with rwp := s.rwp.filter fun x => decide (x ≠ w) }
        (v = ~~~w.value → exec (.registerWrite who (.dev a) v none) s = .next (t.commit who b (off - 4) w.value))
        ∧ (v ≠ ~~~w.value → exec (.registerWrite who (.dev a) v none) s = .next (t.shadowMismatch b (off - 4)))))
    ∧ (∀ w, s.rwp.find? (fun w => w.addr == a) = some w → exec (.rwpComplementTimeout a) s =
        .next ({ s with rwp := s.rwp.filter fun x => decide (x ≠ w) }.offer 0x0005 b off 0)))
  ∧ (∀ (s : State) (who : Initiator) (v : W32), s.onMain = true → s.inControl who = true → v.getLsbD 0 = true →
    Completes (.broadcastWrite who 0xE0061020 v) s fun t =>
      (∀ n, n < s.part.count .cal →
        (t.inst .cal n).count = if s.cal.bgrp.getLsbD n then 0 else (s.inst .cal n).count)
      ∧ OnlyIn [.cal] s t)

/-! ## Admission and completion (file 03) -/

/-- R46, R49, R83, R92, R93, R99, R100, R103, R104, R106, R107, R118: a command of a queue pair that completes OK writes one completion
record with its CID, result word and output at the tail of its ring, whose PHASE it carries, and is admitted no longer; a record that
cannot be written faults the pair. One that arrives waits untouched while no supervisor is in control or its pair takes nothing;
LOCKED refuses with 0x0701 what it does not serve, DRAIN refuses with 0x0501, a full window with BUSY_RETRY, reason 0x20; where it
is its turn a command of class 5 or above that tenant 0 did not send is refused with 0x0801, reason 0x28, and one that passes its
checks is charged and run; else it joins what waits. Stated of any command, by its opcode and body. -/
def Obligations.CommandsAreTurnedAwayOrCompleteInTheirRing : Prop :=
  (∀ (s : State) (r : Req) (t q i info : Nat) (out : Bytes),
    r.src = .host t q i → s.isAdmitted r = true → (s.qp t q).enabled = true → (s.port (s.qp t q).portB).tunnel = true →
    out.length ≤ r.desc.outLen → (out = [] ∨ r.outOk = true) →
    let u := s.answer r info out
    u.host.admitted = dropAdmitted r s.host.admitted
    ∧ (r.cqOk = true →
      (∃ c, u.host.outbox = c :: s.host.outbox ∧ c.src = r.src ∧ c.cid = r.desc.cid ∧ c.status = 0 ∧ c.info = info
        ∧ c.outLen = out.length ∧ c.out = out ∧ c.admitted = true ∧ c.phase = (s.qp t q).phase)
      ∧ (u.qp t q).cqTail = ((s.qp t q).cqTail + 1) % (2 * s.depth t q)
      ∧ (u.qp t q).phase = (if ((s.qp t q).cqTail + 1) % (2 * s.depth t q) = 0 then !(s.qp t q).phase else (s.qp t q).phase)
      ∧ OnlyIn [.host, .fresh] s u)
    ∧ (r.cqOk = false → (s.qp t q).fault = 0 → u.host.outbox = s.host.outbox ∧ (u.qp t q).fault = 3
        ∧ (u.qp t q).cqTail = (s.qp t q).cqTail))
  ∧ (∀ (s : State) (r : Req) (op : Nat) (body : State → State), r.desc.opcode = op → s.onMain = true →
    (s.isAdmitted r = true → s.isAway r = true → s.hostCommand r op body = s)
    ∧ (Turn s r op → s.hostCommand r op body = body s)
    ∧ (s.isAdmitted r = false →
      (s.supv.noSup = true ∨ s.srcOpen r = false → s.hostCommand r op body = s)
      ∧ (s.supv.noSup = false → s.srcOpen r = true →
        (s.sys.mode = .locked → servedLocked r = false →
            s.hostCommand r op body = ((s.arrive r).consume r).refuse r 0x0701 0 0)
        ∧ (s.sys.mode = .drain → s.hostCommand r op body = ((s.arrive r).consume r).refuse r 0x0501 0 0)
        ∧ ((s.serving = true ∨ s.sys.mode = .locked ∧ servedLocked r = true) → (s.tenant r.tenant).state = .active →
          (s.isWaiting r = false → s.windowFull r = true →
              s.hostCommand r op body = ((s.arrive r).consume r).refuse r 0x0101 (s.hint r) 0x20)
          ∧ (s.isWaiting r = true ∨ s.windowFull r = false →
            let u := s.arrive r
            (u.hasTurn r = false → s.hostCommand r op body = u)
            ∧ (∀ k, u.hasTurn r = true → u.nextOf r.tenant = some (k, r) →
              (5 ≤ r.desc.cls → r.desc.cls ≤ 8 → r.tenant ≠ 0 → s.hostCommand r op body =
                ((u.consume r).refuse r 0x0801 0 0x28).passTurn r.tenant k)
              ∧ (u.admissionRej r = none → s.hostCommand r op body =
                  ((u.admitCmd r).passTurn r.tenant k).runBody r body)))))))

/-- R46, R49, R103, R104, R109, R111, R118: what becomes of the next entry of a ring. A failed read faults the queue pair; an entry
within the window waits; one beyond it is turned away with BUSY_RETRY, reason 0x20, and its tenant's count and hint; LOCKED answers
what it does not serve, DRAIN answers everything. Each second of an overload is recorded with its BUSY_RETRY completions, or as its
end. -/
def Obligations.RingEntriesWaitOrAreTurnedAway : Prop :=
  (∀ (s : State) (t q : Nat) (e : Req),
    let x := s.qp t q
    let size := 2 * s.depth t q
    let r : Req := { e with src := .host t q ((x.sqHead + x.ring.length) % size) }
    let turnedAway (status reason : Nat) (u : State) : Prop :=
      ∃ c, u.host.outbox = c :: s.host.outbox ∧ c.cid = e.desc.cid ∧ c.status = status ∧ c.reason = reason
    x.en = true → x.fault = 0 → s.supv.noSup = false → x.slotFree size = true → (x.sqHead + x.ring.length) % size ≠ x.sqTail →
    x.ring.length + 1 < size →
    (s.serving = true ∨ s.sys.mode = .locked ∨ s.sys.mode = .drain →
        exec (.sqEntryConsume t q none) s = .next ((s.countDmaErr (.host t q 0)).faultQp t q 2))
    ∧ (s.serving = true ∨ s.sys.mode = .locked ∧ servedLocked r = true → (s.tenant t).state = .active → x.waiting < s.depth t q →
        exec (.sqEntryConsume t q (some e)) s = .next (s.setQp t q { x with ring := x.ring ++ [.waiting r s.supv.cycle] }))
    ∧ (x.enabled = true → (s.port x.portB).tunnel = true → e.cqOk = true →
      (s.serving = true → (s.tenant t).state = .active → s.depth t q ≤ x.waiting →
        Completes (.sqEntryConsume t q (some e)) s fun u => turnedAway 0x0101 0x20 u ∧ (u.tenant t).hint = s.hint r
          ∧ (u.tenant t).retry = satAdd 32 (s.tenant t).retry 1 ∧ (u.tenant t).overloaded = true)
      ∧ (s.sys.mode = .locked → servedLocked r = false → Completes (.sqEntryConsume t q (some e)) s (turnedAway 0x0701 0))
      ∧ (s.sys.mode = .drain → Completes (.sqEntryConsume t q (some e)) s (turnedAway 0x0501 0))))
  ∧ (∀ (s : State) (t : Nat), (s.tenant t).overloaded = true →
    ((s.tenant t).retriesInSecond = 0 → exec (.overloadRecord t) s =
      .next ((s.setTenant t { s.tenant t with overloaded := false }).offer 0x0305 t 0 0))
    ∧ ((s.tenant t).retriesInSecond ≠ 0 → exec (.overloadRecord t) s =
      .next ((s.setTenant t { s.tenant t with retriesInSecond := 0 }).offer 0x0304 t (s.tenant t).retriesInSecond 0)))

/-- R45, R106, R113, R355, R366, R367: at a tick the commit number advances; without a supervisor in control one that shadows takes it, and
where none does nothing else happens. The lives of tenants that began go on; BOOT and LOAD admit nothing, DRAIN credits, the serving
modes and LOCKED run the cycle's admissions. A credit adds a waiting tenant's share, and brings the balance of one without work to at
most 0. An admission charges its tenant the nominal cost and counts; a tenant whose balance is not above 0 is admitted nothing, nor
anybody in a cycle that has admitted its 1,024. -/
def Obligations.SupervisorCycleAdmitsAgainstCredits : Prop :=
  ∀ s : State,
    let c := { s with supv := { s.supv with cycle := s.supv.cycle + 1 } }
    let t := s.tickControl
    let u := (t.endLives.allWaiting.foldl (fun v r => v.turnAway r) t.endLives).settleUnits
    (s.onMain = true →
      (t.supv.noSup = true → exec .supervisorCycle s = .next t)
      ∧ (t.supv.noSup = false →
        (u.serving = true ∨ u.sys.mode = .locked → exec .supervisorCycle s = .next u.cycleAdmissions)
        ∧ (u.sys.mode = .drain → exec .supervisorCycle s = .next u.creditAll)
        ∧ (u.sys.mode = .boot ∨ u.sys.mode = .load → exec .supervisorCycle s = .next u)))
    ∧ (s.supv.noSup = false → s.supv.mayReclaim = false → t = c)
    ∧ (s.supv.noSup = true →
      (s.supv.stA ≠ .shadowing → s.supv.stB ≠ .shadowing → t = c)
      ∧ (s.supv.stA = .shadowing → t.supv.noSup = false ∧ t.supv.active = false ∧ t.supv.lastCause = 4)
      ∧ (s.supv.stA ≠ .shadowing → s.supv.stB = .shadowing → t.supv.noSup = false ∧ t.supv.active = true ∧ t.supv.lastCause = 4))
    ∧ (∀ w x, let v := s.credit w x
        (s.hasWaiting x = true → (v.tenant x).bal = (s.tenant x).bal + s.shareOf x w)
          ∧ (s.hasWaiting x = false → (v.tenant x).bal = min (s.tenant x).bal 0) ∧ OnlyIn [.host] s v)
    ∧ (∀ r, let u := s.admitCmd r
        u.isAdmitted r = true ∧ (u.tenant r.tenant).bal = (s.tenant r.tenant).bal - s.nominal r.desc
          ∧ (u.tenant r.tenant).admitted = wrapAdd 32 (s.tenant r.tenant).admitted 1
          ∧ u.host.inCycle = s.host.inCycle + 1 ∧ OnlyIn [.host, .zyn] s u)
    ∧ (∀ fuel x b, (s.tenant x).bal ≤ 0 ∨ 1024 ≤ s.host.inCycle → admitTenant fuel x (s, b) = (s, b))

/-- R106, R357: a cycle's walk admits at most 1,024 commands, from at most 60 queue pairs or lanes of tenants. -/
def Obligations.WalkStaysWithinOneDelta : Prop :=
  ∀ s : State,
    s.walkTenants.1.host.admitted.length ≤ s.host.admitted.length + 1024
      ∧ s.walkTenants.2.entries.length ≤ 60 ∧ s.walkTenants.2.entries.Nodup


/-! ## Tenants (file 03) -/

/-- R112–R117: the creation of an absent tenant from its record of the image, the destruction of an active one and a reset begin
with the tenant CREATING, DESTROYING or RESETTING, and end by the next supervisor cycle with it ACTIVE, ABSENT (its erase epoch
advanced where keys are to be erased) or ACTIVE with its resets counted; only then does the command complete. A command on a tenant
in another of those states is refused with BUSY_RETRY, reason 0x2C; a reset of one that is RESETTING joins the reset in progress, and
a doorbell's is dropped. The commands of R113 on tenant 0 are refused; the queries answer. -/
def Obligations.TenantsAreCreatedDestroyedAndReset : Prop :=
  (∀ (s : State) (r : Req),
    let t := r.desc.par 0 1
    let busy (i : Instr) := ∃ hint, hint ≤ 65535 ∧ exec i s = .next ({ s with fresh := s.fresh + 1 }.refuse r 0x0101 hint 0x2C)
    (∀ x, Turn s r 0x0501 → t ≠ 0 → s.tenantRec t = some x → (s.tenant t).state = .absent →
      exec (.tenantCreate r) s = .next ((s.openTenant x).beginLife t .creating .create [r]))
    ∧ (∀ e, e = decide (r.desc.par 1 1 % 2 = 1) → Turn s r 0x0502 → t ≠ 0 → (s.tenant t).state = .active →
        (e = true → SMap.get 0 s.bkd.epochs t < 2 ^ 32 - 1) →
        exec (.tenantDestroy r) s = .next (s.beginLife t .destroying (.destroy e) [r]))
    ∧ (Turn s r 0x0503 → t ≠ 0 →
        ((s.tenant t).state = .active → exec (.tenantReset r) s = .next (s.beginLife t .resetting .reset [r]))
        ∧ ((s.tenant t).state = .resetting → exec (.tenantReset r) s = .next (s.joinReset t r)))
    ∧ (t ≠ 0 → (s.tenant t).state = .creating ∨ (s.tenant t).state = .destroying →
        (Turn s r 0x0501 → busy (.tenantCreate r)) ∧ (Turn s r 0x0502 → busy (.tenantDestroy r))
        ∧ (Turn s r 0x0503 → busy (.tenantReset r)))
    ∧ (t ≠ 0 → (s.tenant t).state = .resetting →
        (Turn s r 0x0501 → busy (.tenantCreate r)) ∧ (Turn s r 0x0502 → busy (.tenantDestroy r)))
    ∧ (t = 0 → (Turn s r 0x0501 → Refuses (.tenantCreate r) s r 0x0301 0 0x2B)
        ∧ (Turn s r 0x0502 → Refuses (.tenantDestroy r) s r 0x0301 0 0x2B)
        ∧ (Turn s r 0x0503 → Refuses (.tenantReset r) s r 0x0301 0 0x2B))
    ∧ (Turn s r 0x0504 → Answers (.tenantQuery r) s r s 0 ((s.tenWords t).flatMap (leBytes 4)))
    ∧ (Turn s r 0x0505 → Answers (.tenantList r) s r s s.tenantsPresent.length
        (leBytes 32 (s.tenantsPresent.foldl (fun n t => n + 2 ^ t) 0))))
  ∧ (∀ (s : State) (k : Nat), s.onMain = true →
    ((s.tenant k).state = .active → exec (.dbTresetWrite k 0xA5A5#32) s = .next (s.beginLife k .resetting .reset []))
    ∧ ((s.tenant k).state ≠ .active → exec (.dbTresetWrite k 0xA5A5#32) s = .next s))
  ∧ (∀ (s : State) (k : Nat) (st : TState) (d : LifeStep) (l : List Req), let u := s.beginLife k st d l
      (u.tenant k).state = st ∧ u.host.life = s.host.life ++ [{ tenant := k, step := d, askers := l }] ∧ OnlyIn [.host] s u)
  ∧ (∀ (s : State) (w : LifeWork),
    (w.askers = [] → s.endLife w = s.liveOn w)
    ∧ (∀ r, w.askers = [r] → s.isAdmitted r = true → (s.liveOn w).isAdmitted r = true →
        s.endLife w = (s.liveOn w).answer r ((s.liveOn w).lifeInfo w) [])
    ∧ (w.step = .create → ((s.liveOn w).tenant w.tenant).state = .active
        ∧ ((s.liveOn w).tenant w.tenant).units = (s.tenant w.tenant).units)
    ∧ (∀ e, w.step = .destroy e → ((s.liveOn w).tenant w.tenant).state = .absent
        ∧ SMap.get 0 (s.liveOn w).bkd.epochs w.tenant = SMap.get 0 s.bkd.epochs w.tenant + if e then 1 else 0)
    ∧ (w.step = .reset → ((s.liveOn w).tenant w.tenant).state = .active ∧ ((s.liveOn w).tenant w.tenant).faultQp = 0
        ∧ ((s.liveOn w).tenant w.tenant).resets = satAdd 32 (s.tenant w.tenant).resets 1))
  ∧ (∀ (s : State) (x : TenantRec), let u := s.openTenant x
      (u.tenant x.tenant).state = .creating ∧ (u.tenant x.tenant).colour = x.colour ∧ (u.tenant x.tenant).slots = x.slots
        ∧ (u.tenant x.tenant).nodes = x.nodes ∧ (u.tenant x.tenant).qpairs = x.qpairs ∧ (u.tenant x.tenant).weight = x.weight
        ∧ (u.tenant x.tenant).units = s.freeUnits x.ctxUnits ∧ OnlyIn [.host] s u)

/-! ## The structure image (file 02) -/

/-- R79–R82: a write session. BEGIN opens it over the slot not in force and zeroes that slot's header; DATA fills it; COMMIT writes
the held header of a copy that R72 finds valid and consumes the challenge; ABORT and the timeout end it. -/
def Obligations.ImageWriteSession : Prop :=
  ∀ (s : State) (r : Req),
    (∀ seq len, Turn s r 0x0703 → s.img.session = none → s.sys.imgSeq < seq → s.bkd.seqFloor ≤ seq → len ≤ 1572864 →
      ∃ u, Answers (.imageBegin r seq len) s r u (flag s.targetSlotB) []
        ∧ u.img.session = some { seq := seq, length := len, slotB := s.targetSlotB, header := [], replica := false }
        ∧ (∀ k, k < 256 → SMap.get 0 (u.mramSlot s.targetSlotB) k = 0)
        ∧ u.mramSlot (!s.targetSlotB) = s.mramSlot (!s.targetSlotB) ∧ OnlyIn [.img] s u)
    ∧ (∀ x off, Turn s r 0x0704 → s.img.session = some x → off % 64 = 0 → r.desc.inLen % 64 = 0 → 64 ≤ r.desc.inLen →
        r.desc.inLen ≤ 65536 → off + r.desc.inLen ≤ x.length →
        ∃ u, Answers (.imageData r off) s r u 0 [] ∧ OnlyIn [.img] s u
          ∧ ∀ k, k < r.desc.inLen → 256 ≤ off + k → SMap.get 0 (u.mramSlot x.slotB) (off + k) = r.bytes[k]?.getD 0)
    ∧ (∀ x c, Turn s r 0x0705 → s.img.session = some x → s.img.challenge = some c → s.challengeLapsed c = false →
        imgSeq (slotBytes x.header 256) = x.seq → imgLength (slotBytes x.header 256) = x.length →
        slice (slotBytes x.header 256) 0x58 32 = c.bytes →
        let slot := writeSlot (s.mramSlot x.slotB) 0 (slotBytes x.header 256)
        (validity (s.setMramSlot x.slotB slot) slot).reason = 0 →
        ∃ u, exec (.imageCommit r) s = .next ((u.answer r 0 []).replicate (slotBytes slot x.length))
          ∧ u.img.session = none ∧ u.img.challenge = none ∧ u.mramSlot x.slotB = slot ∧ OnlyIn [.img, .rcd] s u)
    ∧ (Turn s r 0x0706 → s.img.session ≠ none →
        ∃ u, Answers (.imageAbort r) s r u 0 [] ∧ u.img.session = none ∧ OnlyIn [.img] s u)
    ∧ (∀ x, s.img.session = some x → Completes .imageSessionTimeout s fun u => u.img.session = none
        ∧ (∀ k, k < 256 → SMap.get 0 (u.mramSlot x.slotB) k = 0) ∧ OnlyIn [.img] s u)
    ∧ (Turn s r 0x0705 → s.img.session = none → Refuses (.imageCommit r) s r 0x0301 0 0x10)

/-- R78, R79, R83–R85: what reads a slot, the challenge and its lapse after 72 hours, the application of a newer copy by DRAIN to
LOAD, and the retry of a replica transfer, which fails after 60 attempts; at most four transfers run at once. -/
def Obligations.ImageQueriesAndReplication : Prop :=
  ∀ (s : State) (r : Req),
    (Turn s r 0x0701 → ∃ l, Answers (.imageQuery r) s r s 0 (Config.imageQueryLayout l))
    ∧ (∀ w u, Turn s r 0x0702 → s.takeWords 2 = some (w, u) → ∃ v, Answers (.imageChallenge r) s r v 0 (wordBytes w)
        ∧ v.img.challenge = some { bytes := wordBytes w, issued := s.sys.optime } ∧ OnlyIn [.img, .ent] s v)
    ∧ (∀ c, s.img.challenge = some c →
        (c.issued + 259200000 ≤ s.sys.optime →
          exec .imageChallengeLapse s = .next { s with img := { s.img with challenge := none } })
        ∧ (s.sys.optime < c.issued + 259200000 → exec .imageChallengeLapse s = .next s))
    ∧ (∀ slot off len, Turn s r 0x0707 → slot ≤ 1 → 0 < len → off + len ≤ 1572864 → Answers (.imageRead r slot off len) s r s 0
        ((List.range len).map fun k => SMap.get 0 (s.mramSlot (decide (slot = 1))) (off + k)))
    ∧ (Turn s r 0x0708 → s.img.session = none → s.lcs.ceremony = none →
        (validity s (s.mramSlot true)).reason = 0 → s.sys.imgSeq < imgSeq (slotBytes (s.mramSlot true) 256) →
        exec (.imageApply r) s = .next ((s.answer r 0 []).enterDrain .load))
    ∧ (Turn s r 0x0708 → s.img.session ≠ none → Refuses (.imageApply r) s r 0x0101 (s.hint r) 0x15)
    ∧ (∀ addr x, s.img.replicas.find? (ReplicaWait.waitsFor addr) = some x →
        (60 ≤ x.retries →
          exec (.replicaRetry addr) s = .next ((s.replicaFailed (ReplicaWait.waitsFor addr) addr 0x15).pumpReplicas 4))
        ∧ (x.retries < 60 → s.img.replicas.any (ReplicaWait.runsTo addr) = true → exec (.replicaRetry addr) s =
            .next (s.onReplica (ReplicaWait.waitsFor addr) fun y => [{ y with retries := y.retries + 1 }]))
        ∧ (x.retries < 60 → s.img.replicas.any (ReplicaWait.runsTo addr) = false → Completes (.replicaRetry addr) s fun u =>
            (∀ y ∈ u.img.replicas, y = { x with busy := false, active := true, off := 0, retries := x.retries + 1 }
              ∨ y ∈ s.img.replicas) ∧ u.img.replicas.any (ReplicaWait.runsTo addr) = true ∧ OnlyIn [.img, .blk] s u))
    ∧ (∀ fuel, (s.img.replicas.filter (·.active)).length ≤ 4 →
        ((s.pumpReplicas fuel).img.replicas.filter (·.active)).length ≤ 4)

/-! ## Twill (file 04) -/

/-- R122–R124, R132, R133, R148: RECIPE_RUN takes the lowest free slot for an instance in LOADING, or is refused with BUSY_RETRY,
reason 0x31, when its tenant's slots are taken. At the end of LOADING the instance runs with its keys, its input window and all it
consumes; or it ends with the first refusal of its slots, or of what it would take, and nothing is consumed. -/
def Obligations.RecipesStartAndLoad : Prop :=
  ∀ (s : State) (r : Req),
    (∀ e n, Turn s r 0x0101 → s.instOf r = none → (s.recipe (r.desc.par 0 2)).map Recipe.standard = some e →
      s.recipeReason r e.graph = none → s.freeSlot = some n → Completes (.recipeRun r) s fun t =>
        t.slot n = s.newInst r e ∧ (t.slot n).state = .loading ∧ t.twl.starts = wrapAdd 32 s.twl.starts 1 ∧ OnlyIn [.twl] s t)
    ∧ (∀ e, Turn s r 0x0101 → s.instOf r = none → (s.recipe (r.desc.par 0 2)).map Recipe.standard = some e →
        (s.tenant r.tenant).slots ≤ s.activeOf r.tenant → Refuses (.recipeRun r) s r 0x0101 2 0x31)
    ∧ (∀ n, let i := s.withShadow (s.slot n)
      (s.slot n).state = .loading → s.twl.reseedDue = false → s.shadowRej i = none →
        (∀ x, State.slotKeys i (List.range 8) s = .error x →
          exec (.recipeLoadingDone n) s = .next (s.refuseInst n x))
        ∧ (∀ u l, State.slotKeys i (List.range 8) s = .ok (u, l) →
            (i.graph.steps.find? fun st => decide (st.unit = 0) && decide (7 ≤ st.prim) && st.scr) = none →
          (∀ x, (distinctKeys l).findSome? (fun k => u.takeRej i k) = some x →
            exec (.recipeLoadingDone n) s = .next (u.refuseInst n x))
          ∧ ((distinctKeys l).findSome? (fun x => u.takeRej i x) = none → u.awayOwner i (distinctKeys l) = none →
            (∀ t x m, State.takeAll i (distinctKeys l) u [] = (t, some x, m) → exec (.recipeLoadingDone n) s =
              .next ({ u with fresh := t.fresh, rcd := t.rcd }.refuseInst n x))
            ∧ (∀ t m, State.takeAll i (distinctKeys l) u [] = (t, none, m) → let j := i.loaded l m
              exec (.recipeLoadingDone n) s = .next (t.setSlot n j)
              ∧ j.state = .running ∧ j.nonces = m
              ∧ ∀ k, k < i.graph.inwin → SMap.get 0 j.scratch k = i.field[k]?.getD 0)))
        ∧ (∀ x, (s.refuseInst n x).slot n = Inst.free ∧ (s.refuseInst n x).dmk = s.dmk))

/-- R123, R132, R134, R135, R139, R145, R159–R161: a ready step is dispatched once; a delivered output is taken up; a verdict or the
last step ends the instance, which completes with its verdict or its result, an instance of the library with its recipe's, and its
slot is free again; a timeout aborts it with cause 3; a reseed gives the mask generator its bits. The checks of a KSN give verdict
0x05 for a counter that is 0 or has too many one bits, 0x07 for another initial key ID than the context's, 0x06 for one not above
its high mark, which else takes the counter. -/
def Obligations.StepsRunToTheEndOfTheirRecipe : Prop :=
  (∀ (s : State) (n k : Nat),
    (let i := s.slot n
      let st := i.graph.step k
      i.ready k = true → k < 32 → s.twl.reseedDue = false →
      4 ≤ st.unit ∨ s.jobGone (unitAt st.unit) (Job.new (.step n k) st.prim i.tenant i.urgent) = false →
      Completes (.stepDispatch n k) s fun t =>
        (t.slot n).dispatched.getLsbD k = true ∧ (t.slot n).resolved = i.resolved
          ∧ t.twl.steps = wrapAdd 32 s.twl.steps 1 ∧ OnlyIn [.twl, .cal, .srg, .tul, .hsh] s t)
    ∧ (∀ o, s.stepLive n k = true → (s.slot n).outs.find? (fun x => x.1 == k) = some (k, o) →
        let j := (s.slot n).settle k o
        (o.ends.isSome = true ∨ j.finished = true →
          exec (.stepResolve n k) s = .next (((s.setSlot n j).endInst n o.ends).settleUnits))
        ∧ (o.ends = none → j.finished = false → exec (.stepResolve n k) s = .next (s.setSlot n j)))
    ∧ (let i := s.slot n
      (s.libEnd i = none → (∀ v, s.endInst n (some v) = s.endVerdict n v) ∧ s.endInst n none = s.endAll n i.result i.shadow)
      ∧ (∀ v x, s.libEnd i = some (.verdict v) → s.endInst n x = (s.skip 9).endVerdict n v)
      ∧ (∀ out sh x, s.libEnd i = some (.done out sh) →
          s.endInst n x = (s.skip 9).endAll n ((out ++ zeros i.graph.outmax).take i.graph.outmax) sh))
    ∧ (∀ v, (s.endVerdict n v).slot n = Inst.free ∧ (s.endVerdict n v).twl.done = wrapAdd 32 s.twl.done 1)
    ∧ (∀ out sh, (s.endAll n out sh).slot n = Inst.free
        ∧ (out = [] ∨ (s.slot n).req.outOk = true → (s.endAll n out sh).twl.done = wrapAdd 32 s.twl.done 1))
    ∧ exec (.recipeTimeout n) s = .next (s.abortInst n 3 none).settleUnits
    ∧ ((s.slot n).state = .running ∨ (s.slot n).state = .loading → let t := s.abortInst n 3 none
        t.slot n = Inst.free ∧ t.twl.lastCause = 3 ∧ t.twl.aborts = satAdd 32 s.twl.aborts 1)
    ∧ (∀ u, s.onMain = true → s.takeWords 2 = some u → Completes .twillMaskReseed s fun t =>
        t.twl.reseedDue = false ∧ t.twl.reseeds = s.twl.reseeds + 1 ∧ OnlyIn [.twl, .ent] s t))
  ∧ (∀ (aes ctx : Bool) (ikid sh : Bytes) (cnt : Nat),
    let valid := cnt ≠ 0 ∧ oneBits cnt ≤ (if aes then 16 else 10)
    let first := slice sh 8 10 = zeros 10 ∧ leAt sh 20 4 = 0
    (¬ valid → ksnCheck aes ctx ikid cnt sh = .error 0x05)
    ∧ (valid → ctx = false → ksnCheck aes ctx ikid cnt sh = .ok sh)
    ∧ (valid → ctx = true →
      (¬ first → slice sh 8 10 ≠ ikid → ksnCheck aes ctx ikid cnt sh = .error 0x07)
      ∧ (first ∨ slice sh 8 10 = ikid →
        (cnt ≤ leAt sh 20 4 → ksnCheck aes ctx ikid cnt sh = .error 0x06)
        ∧ (leAt sh 20 4 < cnt → cnt < 2 ^ 32 → sh.length = 64 → ikid.length = 10 →
            ∃ t, ksnCheck aes ctx ikid cnt sh = .ok t ∧ leAt t 20 4 = cnt ∧ slice t 8 10 = ikid ∧ t.length = 64))))

/-- R131, R149, R183: what each format micro-op and a CHILD step deliver to their instance, from its operands; only the
instance changes, and KEYC for a CHILD. -/
def Obligations.MicroOpsDeliverTheirOutput : Prop :=
  ∀ (s : State) (n k : Nat),
    let i := s.slot n
    let x := i.graph.step k
    let a := i.opd x.a
    let b := i.opd x.b
    let c := i.opd x.c
    let delivers (e : Instr) (o : StepOut) : Prop := exec e s = .next ((s.deliverStep n k o).skip 2)
    (s.microReady 1 n k = true → delivers (.panExtract n k) (panExtract (x.im 0) a b (s.freeNat 4)))
    ∧ (s.microReady 2 n k = true → delivers (.pinbParse n k) (pinbParse (x.im 0) a b))
    ∧ (s.microReady 3 n k = true → s.twl.reseedDue = false ∨ x.im 0 = 0 → delivers (.pinbBuild n k)
        (pinbBuild (x.im 0) a b (s.freeNibbles 14) ((s.skip 1).randomBytes 8)))
    ∧ (s.microReady 4 n k = true → delivers (.decimalise n k) (decimalise a b (nibbles (s.randomBytes 16))))
    ∧ (s.microReady 5 n k = true → delivers (.digitSelect n k) (digitSelect (x.im 0) (x.im 1) (x.im 2) a))
    ∧ (s.microReady 6 n k = true → delivers (.pad n k) (padData (x.im 0) (x.im 1) a))
    ∧ (s.microReady 7 n k = true → delivers (.compare n k) (.setFlag (x.im 0) (compareEq (x.im 1) (x.im 2) a b c)))
    ∧ (s.microReady 8 n k = true → delivers (.branch n k)
        (.branch (i.flags.getLsbD (x.im 0) == decide (x.im 1 = 0)) (x.im 2) x.skipMask))
    ∧ (s.childReady n k = true → Completes (.child n k) s fun t =>
        ((t.slot n).outs.find? fun y => y.1 == k) = some (k, .data (s.childKey i x)) ∧ OnlyIn [.twl, .dmk, .fresh] s t)
    ∧ (∀ o, s.stepLive n k = true → (i.outs.any fun y => y.1 == k) = false →
        ((s.deliverStep n k o).slot n) = { i with outs := i.outs ++ [(k, o)] } ∧ OnlyIn [.twl] s (s.deliverStep n k o))

/-- R131, R149: a PIN block parsed gives back the PIN it was built from, in every format, whatever its random fill. -/
def Obligations.PinBlocksParseToTheirPin : Prop :=
  ∀ (fmt : Nat) (a b tail blk : Bytes) (nib : List Nat), (fmt = 0 ∨ fmt = 1 ∨ fmt = 3 ∨ fmt = 4) →
    a.length = 7 → b.length = 8 → nib.length = 14 →
    pinbBuild fmt a b nib tail = .data blk → pinbParse fmt blk b = .data a

/-! ## Keys and contexts (files 05 and 06) -/

/-- R182, R198, R214, R217: the checks of a handle in their order: no root or a locked Damask, another tenant's handle, a node that
names no key, a label without the form, a colour without a grant. Uses, blocks and nonces of a key whose entry is bound: a use at
the limit is refused with 0x0203; one below it, within what is reserved, counts; blocks count within their reservation; a nonce is
issued and counted. -/
def Obligations.HandlesAreCheckedAndTheirUsesCounted : Prop :=
  (∀ (s : State) (t colour : Nat) (h : W64),
    (s.hasRoot t = false ∨ s.dmk.locked = true ∨ s.dmk.wiping = true → s.resolve t colour h = .error ⟨0x0701, 0, 0⟩)
    ∧ (s.hasRoot t = true → s.dmk.locked = false → s.dmk.wiping = false →
      (hTenant h ≠ t → s.resolve t colour h = .error ⟨0x0801, 0, 0x50⟩)
      ∧ (hTenant h = t → s.keyNode t (hNode h) = none → s.resolve t colour h = .error ⟨0x0301, 0, 0x52⟩)
      ∧ (∀ n, hTenant h = t → s.keyNode t (hNode h) = some n →
        (labelOk n (hLabel h) = false → s.resolve t colour h = .error ⟨0x0301, 0, 0x53⟩)
        ∧ (labelOk n (hLabel h) = true → colour ≠ s.nodeColour n → s.granted colour (s.nodeColour n) false = false →
            s.resolve t colour h = .error ⟨0x0801, 0, 0x51⟩))))
  ∧ (∀ (s u : State) (t e c op : Nat) (h : W64) (k : KState) (n : Node), s.bindKs t h = .ok (u, e, c, k) →
    (n.limit ≠ 0 → n.limit ≤ k.used → s.countUse t h n op = (u, some ⟨0x0203, op, 0⟩))
    ∧ (n.limit ≠ 0 → k.used < n.limit → k.used ≠ k.ceil →
        s.countUse t h n op = (u.setKstate t e c { k with used := k.used + 1 }, none))
    ∧ (n.limit = 0 → s.countUse t h n op = (s, none))
    ∧ (∀ b, n.tracked = true → s.blocksFit h n b = true → k.blkUsed + b ≤ 1024 * k.bceil →
        s.chargeBlocks t h n b op = (u.setKstate t e c { k with blkUsed := k.blkUsed + b }, none))
    ∧ (s.nonceRefusal h op = none → s.issueNonce t h op = .ok (u.setKstate t e c { k with nonceCtr := k.nonceCtr + 1 }, k.nonceCtr)))

/-- R175, R191: a node record and a context keep every field through their bytes. -/
def Obligations.NodesAndContextsKeepTheirFields : Prop :=
  (∀ n : Node, n.tenant < 256 → n.kind < 256 → n.parent < 65536 → n.depth < 256 → n.alg < 256 → n.colour < 256 →
      n.blimit < 256 → n.limit < 2 ^ 32 → n.block < 65536 → n.owner < 65536 → n.gslot < 65536 →
      nodeAt n.bytes 0 = { n with runtime := false, epochPwr := 0, epochRst := 0 })
  ∧ (∀ (f : Bool) (t e : Nat) (k : KState), t < 256 → e < 2 ^ 32 → k.used < 2 ^ 32 → k.ceil < 2 ^ 32 → k.blkUsed < 2 ^ 64 →
      k.bceil < 2 ^ 32 → k.nonceCtr < 2 ^ 64 →
      let x : Ctx := { frozen := f, tenant := t, body := .kstate e k }
      ctxAt x.bytes = x)
  ∧ (∀ (f : Bool) (t w : Nat) (h : W64) (p : Bytes), t < 256 → w < 2 ^ 32 → p.length = 48 →
      let x : Ctx := { frozen := f, tenant := t, body := .leaf h w p }
      ctxAt x.bytes = x)
  ∧ (∀ (f : Bool) (t c : Nat) (p : Bytes), t < 256 → c < 2 ^ 32 → p.length = 56 →
      let x (b : CtxBody) : Ctx := { frozen := f, tenant := t, body := b }
      ctxAt (x (.cont c p)).bytes = x (.cont c p) ∧ ctxAt (x (.dukpt p)).bytes = x (.dukpt p)
        ∧ ctxAt (x (.session p)).bytes = x (.session p))
  ∧ (∀ (f : Bool) (t : Nat) (k : Chain), t < 256 → k.mode < 256 → k.dir < 256 → k.depth < 256 → k.blocks < 2 ^ 32 →
      k.chaining.length = 16 → k.ghash.length = 16 → k.aad < 2 ^ 24 → k.text < 2 ^ 24 → k.core < 2 ^ 32 →
      let x : Ctx := { frozen := f, tenant := t, body := .chain k }
      ctxAt x.bytes = { x with body := .chain { k with mac := none } })
  ∧ ctxAt Ctx.free.bytes = Ctx.free


/-- R163, R165–R167: key blocks. An import whose checks all pass stores the leaf and answers its handle and check value; a failed
one is recorded; an export answers the block; KEY_CHECK_VALUE answers a check value padded to 8 bytes. -/
def Obligations.KeyBlocksAreImportedAndExported : Prop :=
  ∀ (s : State) (r : Req),
    (∀ x t k n y, Turn s r 0x0220 → r.desc.ctxv = true → blockHead r.bytes = some x →
      s.resolve r.tenant (s.actingColour r) r.desc.key0 = .ok (t, k, n) →
      (if x.versionD then isAes k.alg else isTdes k.alg) = true → t.keyChecks k n (some 11) true true 0 = none →
      t.importBlock r x k = .ok y → 8 ≤ r.desc.outLen →
      Answers (.keyblockImport r) s r (t.storeLeaf r.tenant r.desc.key1 y.node y.key y.exportable) r.desc.key1.toNat
        (pad8 (blockCheckValue y.alg y.key)))
    ∧ (Turn s r 0x0220 → r.desc.ctxv = true → blockHead r.bytes = none →
        exec (.keyblockImport r) s = .next (s.importFailed r ⟨0x0301, 0, 0x44⟩))
    ∧ (∀ s1 k0 n0 s2 k1 n1 m, Turn s r 0x0221 → s.resolve r.tenant (s.actingColour r) r.desc.key0 = .ok (s1, k0, n0) →
        s1.keyChecks k0 n0 (some 12) (isTdes k0.alg || isAes k0.alg) true 0 = none →
        s1.resolve r.tenant (s1.actingColour r) r.desc.key1 = .ok (s2, k1, n1) → s2.keyChecks k1 n1 none true true 1 = none →
        s2.mayExport r.tenant n1 r.desc.key1 = true → maskUsage k1.usage (Config.freshBool s2.fresh) = some m →
        k1.alg ≤ k0.alg →
        Answers (.keyblockExport r) s r (s2.skip 5) 0 (exportBlock (isAes k0.alg) (decide (r.desc.par 2 1 = 1)) k0.key
          (leBytes 2 (r.desc.par 0 2)) m (n1.exportBits.getLsbD 1) k1.alg k1.key ((s2.skip 1).randomBytes 48)))
    ∧ (∀ t k n, Turn s r 0x0222 → r.desc.par 0 1 ≤ 1 → s.resolve r.tenant (s.actingColour r) r.desc.key0 = .ok (t, k, n) →
        t.keyChecks k n none (isTdes k.alg || isAes k.alg) true 0 = none →
        Answers (.keyCheckValue r) s r t 0 (pad8 (checkValue k.alg (r.desc.par 0 1) k.key)))

/-- R174, R178, R195, R203: nodes and leaves. A node is created from a valid record at the lowest free number, deleted when it has no
children and no leaves, and queried; a leaf is generated, deleted and retired; a public key is read on the unit that makes it; a
counter is answered where it is kept. -/
def Obligations.NodesAndLeavesAnswer : Prop :=
  ∀ (s : State) (r : Req),
    (∀ n, let x := nodeAt r.bytes 0
        Turn s r 0x0201 → x.tenant = r.tenant → leAt r.bytes 22 2 = 0 →
        x.ok true (s.tenantNode r.tenant x.parent) s.nodeList = true → s.nodesOf r.tenant < (s.tenant r.tenant).nodes →
        s.freeNode = some n → let t := s.setNode n (some (s.newNode r.tenant x))
        Answers (.nodeCreate r) s r { t with dmk := { t.dmk with created := t.dmk.created + 1 } } n [])
    ∧ (∀ x, let n := r.desc.par 0 2
        Turn s r 0x0202 → s.tenantNode r.tenant n = some x → x.runtime = true →
        (s.nodeList.any fun y => y.tenant == x.tenant && y.parent == n) = false → s.leavesOf n = 0 →
        ∃ u, Answers (.nodeDelete r) s r u 0 [] ∧ u.node n = none ∧ OnlyIn [.dmk] s u)
    ∧ (∀ x, Turn s r 0x0203 → s.tenantNode r.tenant (r.desc.par 0 2) = some x →
        Answers (.nodeQuery r) s r s 0 (s.nodeInfo (r.desc.par 0 2) x))
    ∧ (∀ n b t, Turn s r 0x0204 → s.heldByUnit (.raw r) = false → s.leafNode r r.desc.key1 = .ok n →
        s.leafRoom r.tenant (hLabel r.desc.key1) (keyBytes n.alg) = none → isAsym n.alg = false →
        n.exportBits.getLsbD 2 = false → s.draw (keyWords n.alg) = some (b, t) →
        Answers (.keyGenerate r) s r (t.storeLeaf r.tenant r.desc.key1 n (freshKey n.alg b) (n.exportBits.getLsbD 0))
          r.desc.key1.toNat [])
    ∧ (∀ t k n, Turn s r 0x0205 → s.resolve r.tenant (s.actingColour r) r.desc.key1 = .ok (t, k, n) → n.kind = 2 →
        t.keyChecks k n none true true 1 = none → Answers (.leafDelete r) s r (t.wipeLeaf (hLabel r.desc.key1)) 0 [])
    ∧ (∀ x, Turn s r 0x0206 → s.tenantNode r.tenant (r.desc.par 0 2) = some x → x.gslot ≠ 0 → s.leafGen x ≠ 2 ^ 32 - 1 →
        ∃ u, Answers (.leafRetire r) s r u (s.leafGen x + 1) [] ∧ u.leafGen x = s.leafGen x + 1 ∧ OnlyIn [.dmk] s u)
    ∧ (∀ t k n, Turn s r 0x0207 → s.resolve r.tenant (s.actingColour r) r.desc.key0 = .ok (t, k, n) →
        s.heldByUnit (.raw r) = false → n.exportBits.getLsbD 2 = true → t.pubUnitRej r.tenant n.alg = none →
        exec (.pubkeyRead r) s = .next (s.offerRaw (pubUnit n.alg) r (if pubUnit n.alg = .tul then 7 else 0x0E)))
    ∧ (∀ t k n, Turn s r 0x0208 → s.resolve r.tenant (s.actingColour r) r.desc.key0 = .ok (t, k, n) →
        (n.limit = 0 ∨ s.ownNode n = true → Answers (.counterQuery r) s r t (t.usedOf r.desc.key0).1
          (leBytes 4 (t.usedOf r.desc.key0).1 ++ leBytes 4 (t.usedOf r.desc.key0).2 ++ leBytes 4 n.limit ++ leBytes 4 n.owner))
        ∧ (n.limit ≠ 0 → s.ownNode n = false → exec (.counterQuery r) s = .next (t.forward r n.owner)))

/-- R189–R192, R203–R206: contexts. INIT makes a DUKPT_RX or SESSION context of a FREE one; CLEAR frees a range; EXPORT answers a
record for each, and freezes those of types 4 to 6; IMPORT takes its records in order; QUERY answers types and FROZEN. -/
def Obligations.ContextsAreInitialisedMovedAndCleared : Prop :=
  ∀ (s : State) (r : Req),
    let c := r.desc.ctxNo
    let n := r.desc.par 0 2
    (Turn s r 0x0301 → s.ctxRange r 1 = none → s.ctx c = Ctx.free →
      (r.desc.par 0 1 = 4 → r.desc.inLen = 0 → Answers (.ctxInit r) s r
        (s.setCtx c { frozen := false, tenant := r.tenant, body := .dukpt (zeros 56) }) 0 [])
      ∧ (r.desc.par 0 1 = 5 → r.desc.inLen = 56 → Answers (.ctxInit r) s r
        (s.setCtx c { frozen := false, tenant := r.tenant, body := .session r.bytes }) 0 []))
    ∧ (Turn s r 0x0302 → s.ctxRange r n = none → ((List.range n).map (c + ·)).any (fun k => s.unclearable c n k) = false →
        ∃ u, Answers (.ctxClear r) s r u 0 [] ∧ (∀ k, k < n → u.ctx (c + k) = Ctx.free) ∧ OnlyIn [.dmk] s u)
    ∧ (Turn s r 0x0303 → s.ctxRange r n = none → s.keysServed r.tenant = true →
        ((List.range n).map (c + ·)).any s.unexportable = false → 96 * n ≤ r.desc.outLen →
        ∃ u, Answers (.ctxExport r) s r u 0
            (((List.range n).map (c + ·)).flatMap fun k => (s.freezeCtx k).exportRecord r.tenant k)
          ∧ (∀ k, k < n → 4 ≤ (s.ctx (c + k)).ty → u.ctx (c + k) = { s.ctx (c + k) with frozen := true }) ∧ OnlyIn [.dmk] s u)
    ∧ (∀ t m, Turn s r 0x0304 → r.bytes.length % 96 = 0 → s.keysServed r.tenant = true →
        State.importAll r ((List.range (r.bytes.length / 96)).map fun k => slice r.bytes (96 * k) 96) s 0 = (t, m, none) →
        Answers (.ctxImport r) s r t m [])
    ∧ (Turn s r 0x0305 → s.ctxRange r n = none → Answers (.ctxQuery r) s r s 0 ((List.range n).flatMap fun k =>
        leBytes 1 (s.ctx (c + k)).ty ++ leBytes 1 (flag (s.ctx (c + k)).frozen) ++ zeros 2))

/-- R188, R210: the supervisor in control locks Damask, which wipes KEYC, unlocks it unless the device is LOCKED, secure
invasive debug is enabled or Damask is held to the next start, and flushes a tenant's cached keys or all; nobody else does. -/
def Obligations.DamaskIsLockedAndFlushedByTheSupervisorInControl : Prop :=
  ∀ (s : State) (who : Initiator), s.onMain = true →
    (s.inControl who = true →
      exec (.dmkLockWrite who true) s = .next { s with dmk := { s.dmk with locked := true, keyc := [], plru := [] } }
      ∧ (s.sys.mode ≠ .locked → s.lcs.sinv = false → s.lcs.dmkHold = false →
          exec (.dmkLockWrite who false) s = .next { s with dmk := { s.dmk with locked := false } })
      ∧ (s.sys.mode = .locked ∨ s.lcs.sinv = true ∨ s.lcs.dmkHold = true → exec (.dmkLockWrite who false) s = .next s)
      ∧ (∀ t, Completes (.dmkFlushTenant who t) s fun u =>
          (∀ x ∈ u.dmk.keyc, ∀ y, x.2 = some y → y.tag.tenant ≠ t) ∧ OnlyIn [.dmk] s u)
      ∧ Completes (.dmkFlushAll who) s (fun u => u.dmk.keyc = [] ∧ OnlyIn [.dmk] s u))
    ∧ (s.inControl who = false → ∀ t,
        exec (.dmkLockWrite who true) s = .next (s.dropWrite who) ∧ exec (.dmkFlushTenant who t) s = .next (s.dropWrite who)
          ∧ exec (.dmkFlushAll who) s = .next (s.dropWrite who))

/-! ## The engines (files 07, 08 and 09) -/

/-- R135, R222, R228, R250, R265, R275, R280, R289, R296, R297: a raw engine command whose turn has come joins the waiting work of its
unit, which takes work up while it has free instances; a composite command begins on the hash units. Damask's work on a public key
goes on where it is; a composite is no recipe step. A dispatched step of an engine's primitive that waits for its unit is taken up by
its tenant's pool. -/
def Obligations.CommandsAndStepsReachTheirUnit : Prop :=
  (∀ (s : State) (r : Req),
    (s.heldByUnit (.raw r) = false → ∀ u op c,
      (u, op, c) ∈ [(EngUnit.cal, 0x0401, Instr.calEncrypt r), (.cal, 0x0402, .calDecrypt r), (.cal, 0x0403, .calMacGen r),
        (.cal, 0x0404, .calMacVer r), (.srg, 0x0411, .modMul (.raw r)), (.srg, 0x0412, .modExp (.raw r)),
        (.srg, 0x0413, .modExpPub (.raw r)), (.srg, 0x0414, .modInv (.raw r)), (.srg, 0x0415, .rsaSign (.raw r)),
        (.srg, 0x0416, .rsaVerify (.raw r)), (.srg, 0x0417, .rsaDecrypt (.raw r)), (.srg, 0x0418, .ecdsaSign (.raw r)),
        (.srg, 0x0419, .ecdsaVerify (.raw r)), (.srg, 0x041A, .ecdh (.raw r)), (.srg, 0x041B, .eddsaSign (.raw r)),
        (.srg, 0x041C, .eddsaVerify (.raw r)), (.srg, 0x041D, .xdh (.raw r)), (.tul, 0x0421, .mlkemEncaps (.raw r)),
        (.tul, 0x0422, .mlkemDecaps (.raw r)), (.tul, 0x0423, .mldsaSign (.raw r)), (.tul, 0x0424, .mldsaVerify (.raw r)),
        (.hsh, 0x0425, .compSign (.raw r)), (.hsh, 0x0426, .compVerify (.raw r)), (.hsh, 0x0431, .hash r),
        (.hsh, 0x0432, .hmacGen r), (.hsh, 0x0433, .hmacVer r)] →
      Turn s r op → exec c s = .next (s.offerRaw u r op))
    ∧ (s.srg.holds (.raw r) = true → exec (.sergePubkey (.raw r)) s = .next (s.offerRaw .srg r 0x0E))
    ∧ (s.tul.holds (.raw r) = true → exec (.tullePubkey (.raw r)) s = .next (s.offerRaw .tul r 7))
    ∧ (∀ n k, exec (.compSign (.step n k)) s = .next s ∧ exec (.compVerify (.step n k)) s = .next s)
    ∧ (∀ u op, let j : Job := { Job.new (.raw r) op r.tenant (s.urgent r) with
          asking := if u = .cal ∧ s.urgent r = true then some s.cal.asks else none }
        s.heldByUnit (.raw r) = false → s.jobGone u j = false → (s.engine u).waiting = [] →
        (∀ p, s.poolOf r.tenant u.code = some p → s.placeFor u p j = none) → ((s.offerRaw u r op).engine u).waiting = [j]))
  ∧ (∀ (s : State) (n k : Nat) (u : EngUnit) (prim : Nat) (c : Instr),
    (u, prim, c) ∈ [(EngUnit.cal, 1, Instr.ecbEnc n k), (.cal, 2, .ecbDec n k), (.cal, 3, .cbcEnc n k), (.cal, 4, .cbcDec n k),
      (.cal, 5, .cbcMac n k), (.cal, 6, .cmac n k), (.cal, 7, .gcmSeal n k), (.cal, 8, .gcmOpen n k),
      (.srg, 1, .modMul (.step n k)), (.srg, 2, .modExp (.step n k)), (.srg, 3, .modExpPub (.step n k)),
      (.srg, 4, .modInv (.step n k)), (.srg, 5, .rsaSign (.step n k)), (.srg, 6, .rsaVerify (.step n k)),
      (.srg, 7, .rsaDecrypt (.step n k)), (.srg, 8, .ecdsaSign (.step n k)), (.srg, 9, .ecdsaVerify (.step n k)),
      (.srg, 10, .ecdh (.step n k)), (.srg, 11, .eddsaSign (.step n k)), (.srg, 12, .eddsaVerify (.step n k)),
      (.srg, 13, .xdh (.step n k)), (.srg, 14, .sergePubkey (.step n k)), (.srg, 16, .edPrefix n k), (.srg, 17, .edCommit n k),
      (.srg, 18, .edFinish n k), (.tul, 1, .mlkemEncaps (.step n k)), (.tul, 2, .mlkemDecaps (.step n k)),
      (.tul, 3, .mldsaSign (.step n k)), (.tul, 4, .mldsaVerify (.step n k)), (.tul, 7, .tullePubkey (.step n k)),
      (.tul, 8, .mldsaTr n k), (.tul, 9, .mldsaSignMu n k), (.hsh, 1, .hashStep n k), (.hsh, 2, .hmacStep n k)] →
    s.stepLive n k = true → ((s.slot n).graph.step k).unit = u.code → ((s.slot n).graph.step k).prim = prim →
    ((s.engine u).waiting.any fun j => decide (j.src = .step n k)) = true →
    exec c s = .next ((s.unstall (.step n k)).pumpFor u (s.slot n).tenant))

/-- R135, R137, R231, R269: a pool takes the operation it chooses among those that some instance of it can take, on the lowest-numbered
such instance: that runs it with the result its evaluation gives, and it waits no longer; where evaluation refuses a raw command, that
command completes with the refusal; one that goes to another device leaves the unit; one that needs random bits waits for them. -/
def Obligations.PoolsTakeUpTheirWork : Prop :=
  ∀ (s : State) (u : EngUnit) (p : PoolRec) (n fuel : Nat) (j : Job),
    s.choose p ((s.poolWaiting u p).filter fun x => (s.placeFor u p x).isSome) = some j → s.placeFor u p j = some n →
    State.pump u p (fuel + 1) s = State.pump u p fuel (s.begin u n j)
    ∧ (∀ t w, s.evaluate u n j.src = .runs t w → ∃ x,
        ((s.begin u n j).inst u n).running = some x ∧ x.src = j.src ∧ x.result = w.result ∧ x.cycles = w.cycles
          ∧ x.blocks = w.blocks ∧ x.classN = w.classN ∧ ∀ y ∈ ((s.begin u n j).engine u).waiting, y.src ≠ j.src)
    ∧ (∀ t r x ol, j.src = .raw r → r.desc.opcode ≠ 0x0425 → r.desc.opcode ≠ 0x0426 →
        s.evaluate u n j.src = .refused t x ol → s.begin u n j =
          ((t.dropJobs fun y => decide (y = j.src)).noteRefusal u x).complete r x.status x.detail x.reason 0 ol [])
    ∧ (∀ t, s.evaluate u n j.src = .forwarded t → s.begin u n j = t.dropWaiting u j.src)
    ∧ (s.evaluate u n j.src = .waits → s.begin u n j = s.stallJob j.src)

/-- R93, R132, R242, R264: an operation that ends on an instance is counted, delivers its result, and gives the instance its next work;
one that ends in a fault faults the instance. A raw result of status 0 is answered OK. -/
def Obligations.OperationsEndWithTheirResult : Prop :=
  ∀ (s : State) (n : Nat) (j : Job) (u : EngUnit) (c : Instr),
    (u, c) ∈ [(EngUnit.cal, Instr.calMessageEnd n), (.srg, .sergeOperationEnd n), (.tul, .tulleOperationEnd n),
      (.hsh, .hashOperationEnd n)] →
    (s.inst u n).running = some j → s.isSearch j.src = false →
    (j.result.fault = false →
      exec c s = .next ((((s.setInst u n { s.inst u n with running := none }).countEnd u n j).deliver u n j).next u n))
    ∧ (j.result.fault = true → exec c s = .next (s.unitFault u n 0).settleUnits)
    ∧ (∀ r, j.src = .raw r → r.desc.opcode ≠ 0x0425 → r.desc.opcode ≠ 0x0426 → j.result.status = 0 → j.result.ctxAfter = none →
        s.deliver u n j = s.answer r j.result.info j.result.out)
    ∧ (∀ i k, j.src = .step i k → s.deliver u n j = s.deliverStep i k j.result.step)
    ∧ ((s.countEnd u n j).inst u n).ops = wrapAdd 32 (s.inst u n).ops 1

/-- R252, R255, R257: modular arithmetic of the Serge lanes: a product and a power modulo the first field, and the check of their
operands. -/
def Obligations.ModularResultsAreExact : Prop :=
  (∀ m b e fuel : Nat, e < 2 ^ fuel → powMod m fuel b e = b ^ e % m)
  ∧ (∀ (x : SrgOp) (f : List Bytes) (rnd : Bytes), x.op = 1 →
      x.result f rnd = some (beBytes (8 * x.w) (beNat (fieldAt f 1) * beNat (fieldAt f 2) % beNat (fieldAt f 0))))
  ∧ (∀ (x : SrgOp) (f : List Bytes) (rnd : Bytes), x.op = 2 → beNat (fieldAt f 2) < 2 ^ (64 * x.w) →
      x.result f rnd = some (beBytes (8 * x.w) (beNat (fieldAt f 1) ^ beNat (fieldAt f 2) % beNat (fieldAt f 0))))
  ∧ (∀ (x : SrgOp) (f : List Bytes), x.op = 1 ∨ x.op = 2 → beNat (fieldAt f 0) % 2 = 0 → x.valueCheck f = some (0x72, 0))

/-- R138, R232–R237: suspension on Calico. A waiting step asks for one, in the order of asking; where no core of the pool is free, the
class N message with most blocks left gives way to the oldest request: it goes under its core, which runs the request. With four
messages under every core, the running one with most blocks left ends with cause 4. -/
def Obligations.ClassNMessagesAreSuspended : Prop :=
  ∀ (s : State),
    (∀ n k p, s.poolOf (s.slot n).tenant 0 = some p → s.stepLive n k = true → (s.slot n).urgent = true ∨ s.twl.suspWait ≠ 0 →
      (s.cal.waiting.any fun j => decide (j.src = .step n k) && j.asking.isNone) = true →
      ((s.poolStanding .cal p).all fun c => s.runsClassN c) = true → Completes (.twillSuspensionRequest n k) s fun t =>
        (∀ j ∈ t.cal.waiting, j.src = .step n k → j.asking = some s.cal.asks) ∧ t.cal.asks = s.cal.asks + 1
          ∧ (t.poolUse p).suspReq = satAdd 16 (s.poolUse p).suspReq 1 ∧ OnlyIn [.twl, .cal] s t)
    ∧ (∀ n j p q, (s.inst .cal n).running = some j → s.poolAt .cal n = some p → s.oldestAsking p n = some q →
        s.firstFree .cal p = none → s.mostLeft (s.suspendable p) = some n →
        let t := (s.suspend n (s.blocksLeft n) j q).skip 32
        exec (.calSuspend n) s = .next (t.serveAsking n q)
        ∧ (((t.begin .cal n q).inst .cal n).running.isSome = true → t.serveAsking n q = t.begin .cal n q))
    ∧ (∀ n left j q, let t := s.suspend n left j q
        (∃ x l, (t.inst .cal n).stack = x :: l ∧ x.src = j.src ∧ x.done = j.blocks - left
          ∧ l.length = (s.inst .cal n).stack.length ∧ (q.src.isStep = true → l = (s.inst .cal n).stack))
        ∧ (t.inst .cal n).suspensions = satAdd 16 (s.inst .cal n).suspensions 1
        ∧ (t.inst .cal n).running = none ∧ OnlyIn [.cal, .dmk, .twl, .mem, .fresh] s t)
    ∧ (∀ n j p q, (s.inst .cal n).running = some j → s.poolAt .cal n = some p → s.cal.ovfWait ≠ 0 →
        ((s.poolStanding .cal p).all fun c => s.runsClassN c && decide ((s.inst .cal c).stack.length = 4)) = true →
        s.mostLeft (s.poolStanding .cal p) = some n → s.oldestAsking p n = some q →
        let t := (s.skip 32).abortOp 4 j
        let u := t.setInst .cal n { t.inst .cal n with overflows := satAdd 16 (t.inst .cal n).overflows 1 }
        exec (.calSuspensionOverflow n) s = .next (((u.countOverflow p j).serveAsking n q).settleUnits))

/-- R47, R242, R261, R286, R298: a fault of an instance aborts what runs on it, counts, records, fences the instance and raises
Lace's event; a fence takes SERVICE to DEGRADED. -/
def Obligations.FaultsFenceTheirInstance : Prop :=
  ∀ (s : State) (n check : Nat) (u : EngUnit) (c : Instr),
    (u, c) ∈ [(EngUnit.cal, Instr.calFault n check), (.srg, .sergeFault n check), (.tul, .tulleFault n check),
      (.hsh, .hashFault n check)] →
    (s.onMain = true → s.present u n = true → (s.inst u n).fenced = false →
      let a := ((s.inst u n).running.toList ++ (s.inst u n).stack).foldl (fun v j => v.abortOp 2 j) s
      let t := a.setInst u n { a.inst u n with faults := satAdd 8 (a.inst u n).faults 1 }
      exec c s = .next ((((t.offer (0x0601 + 256 * u.code) n check 0).fenceInst u n).faultEvent u.code n).settleUnits))
    ∧ (s.present u n = true → (s.inst u n).fenced = true → exec c s = .next s)
    ∧ ((s.fenceInst u n).inst u n).fenced = true
    ∧ (s.present u n = true → s.sys.mode = .service → (s.fenceInst u n).sys.mode = .degraded ∧ (s.fenceInst u n).sys.cause = 4)

/-- R239–R241, R243, R260, R272, R284, R293, R298: a self-test of an idle instance: a pass writes the test registers and leaves the
instance in service, a failure fences it, is recorded and raises Lace's event; an instance that is not taken starves; STREQ asks for
a test. A reseed draws 256 bits for an instance and its pool dispatches; where the words are not there it stays due, and one that
stays due stalls the instance. -/
def Obligations.SelfTestsAndReseedsOfInstances : Prop :=
  (∀ (s : State) (n : Nat) (u : EngUnit),
    let i := s.inst u n
    (∀ v c, (u, c) ∈ [(EngUnit.cal, Instr.calSelftest n true v), (.srg, .sergeSelftest n true v), (.tul, .tulleSelftest n true v),
        (.hsh, .hashSelftest n true v)] →
      s.testable u n = true → i.fenced = false → i.fencing = false → s.poolAt u n = none →
      (∀ j ∈ (s.engine u).waiting, j.only ≠ some n) → Completes c s fun t =>
        t.inst u n = { i with asked := false, starved := false, lifting := false } ∧ (t.engine u).stInst = n
          ∧ (t.engine u).stPass = true ∧ (t.engine u).stVector = 0 ∧ (t.engine u).stRuns = satAdd 16 (s.engine u).stRuns 1
          ∧ OnlyIn [.cal, .srg, .tul, .hsh] s t)
    ∧ (∀ v c, (u, c) ∈ [(EngUnit.cal, Instr.calSelftest n false v), (.srg, .sergeSelftest n false v),
        (.tul, .tulleSelftest n false v), (.hsh, .hashSelftest n false v)] →
      s.testable u n = true →
      ∃ t, (let a := i.running.toList.foldl (fun w j => w.abortOp 2 j) t
          exec c s = .next ((((a.offer (0x0602 + 256 * u.code) n (v % 256) 0).fenceInst u n).faultEvent u.code n).settleUnits))
        ∧ (t.engine u).stPass = false ∧ (t.engine u).stVector = v % 256 ∧ (t.inst u n).stFails = satAdd 8 i.stFails 1
        ∧ OnlyIn [.cal, .srg, .tul, .hsh] s t)
    ∧ (∀ c, (u, c) ∈ [(EngUnit.cal, Instr.calSelftestStarve n), (.srg, .sergeSelftestStarve n), (.tul, .tulleSelftestStarve n),
        (.hsh, .hashSelftestStarve n)] →
      s.onMain = true → s.present u n = true → (s.engine u).periodS ≠ 0 ∨ i.asked = true → i.fenced = false →
        exec c s = .next (s.setInst u n { i with starved := true }))
    ∧ (∀ who c, (u, c) ∈ [(EngUnit.cal, Instr.calSelftestRequest who n), (.srg, .sergeSelftestRequest who n),
        (.tul, .tulleSelftestRequest who n), (.hsh, .hashSelftestRequest who n)] →
      s.onMain = true → s.present u n = true →
        (s.inControl who = true → exec c s = .next (s.setInst u n { i with asked := true }))
        ∧ (s.inControl who = false → exec c s = .next (s.dropWrite who))))
  ∧ (∀ (s : State) (n : Nat) (u : EngUnit), s.onMain = true → s.present u n = true →
    (∀ c, (u, c) ∈ [(EngUnit.cal, Instr.calReseed n), (.srg, .sergeReseed n), (.tul, .tulleReseed n), (.hsh, .hashReseed n)] →
      exec c s = .next ((((s.reseedInst u n).retryWaiting u).pumpAt u n).stallWaiting u))
    ∧ (∀ w t, s.takeWords 2 = some (w, t) → ((s.reseedInst u n).inst u n).seeded = true ∧ ((s.reseedInst u n).inst u n).due = false
        ∧ ((s.reseedInst u n).inst u n).stalled = false
        ∧ ((s.reseedInst u n).inst u n).reseeds = satAdd 24 (s.inst u n).reseeds 1 ∧ (s.reseedInst u n).ent.stalled =
          t.ent.stalled.filter (· ≠ Consumer.mask u n))
    ∧ (s.takeWords 2 = none → ((s.reseedInst u n).inst u n).due = true ∧ Consumer.mask u n ∈ (s.reseedInst u n).ent.stalled)
    ∧ (∀ c, (u, c) ∈ [(EngUnit.cal, Instr.calReseedStall n), (.srg, .sergeReseedStall n), (.tul, .tulleReseedStall n),
        (.hsh, .hashReseedStall n)] →
      (s.inst u n).due = true → exec c s = .next ((s.setInst u n { s.inst u n with stalled := true }).stallWaiting u)))

/-- R247, R273, R299: writes of an instance's control register. The supervisor in control fences it, at once or when its work has
ended, and asks for the fence to be lifted; secure-world firmware too clears its counters; nobody else writes. -/
def Obligations.ControlOfInstances : Prop :=
  ∀ (s : State) (who : Initiator) (n : Nat) (u : EngUnit), s.onMain = true → s.present u n = true →
    let i := s.inst u n
    (∀ c, (u, c) ∈ [(EngUnit.cal, Instr.calFence who n), (.srg, .sergeFence who n), (.tul, .tulleFence who n),
        (.hsh, .hashFence who n)] →
      (s.inControl who = true → i.fenced = false →
        (i.running = none → i.stack = [] → exec c s = .next ((s.setInst u n { i with fencing := true }).fenceInst u n))
        ∧ (i.running ≠ none ∨ i.stack ≠ [] → exec c s = .next (s.setInst u n { i with fencing := true })))
      ∧ (s.inControl who = true → i.fenced = true → exec c s = .next (s.setInst u n { i with lifting := false }))
      ∧ (s.inControl who = false → exec c s = .next (s.dropWrite who)))
    ∧ (∀ c, (u, c) ∈ [(EngUnit.cal, Instr.calFenceLift who n), (.srg, .sergeFenceLift who n), (.tul, .tulleFenceLift who n),
        (.hsh, .hashFenceLift who n)] →
      s.inControl who = true →
        (i.fenced = true → exec c s = .next (s.setInst u n { i with lifting := true }))
        ∧ (i.fenced = false → exec c s = .next (s.setInst u n { i with fencing := false })))
    ∧ (s.secureOrControl who = true →
      (∀ c, (u, c) ∈ [(EngUnit.cal, Instr.calClearBlk who n), (.srg, .sergeClearCyc who n), (.tul, .tulleClearCyc who n),
          (.hsh, .hashClearBlk who n)] → exec c s = .next (s.setInst u n { i with count := 0 }))
      ∧ (∀ c, (u, c) ∈ [(EngUnit.srg, Instr.sergeClearOps who n), (.tul, .tulleClearOps who n), (.hsh, .hashClearOps who n)] →
          exec c s = .next (s.setInst u n { i with ops := 0 }))
      ∧ (∀ c, (u, c) ∈ [(EngUnit.cal, Instr.calClearFault who n), (.srg, .sergeClearFault who n), (.tul, .tulleClearFault who n),
          (.hsh, .hashClearFault who n)] → exec c s = .next (s.setInst u n { i with faults := 0, stFails := 0 }))
      ∧ (u = .cal → exec (.calClearSusp who n) s = .next (s.setInst u n { i with suspensions := 0, overflows := 0 })))

/-- R267: a candidate of the RSA search that the sieve or the test rejects is counted with its cycles and the search goes on, as it does
with the first prime; the second prime ends it with the leaf stored, where its contexts are still free, and the command answered; the
2^20th candidate without a prime ends it with 0x0501. -/
def Obligations.PrimeSearchTriesItsCandidates : Prop :=
  ∀ (s t : State) (n tried first : Nat) (j : Job) (r : Req) (node : Node) (b : Bytes),
    (s.inst .srg n).running = some j → j.search = some (tried, first) → j.src = .raw r →
    s.isSearch j.src = true → s.keyNode r.tenant (hNode r.desc.key1) = some node →
    s.draw (rsaBits node.alg / 256) = some (b, t) →
    let x := rsaCandidate (rsaBits node.alg) b
    let prime := sieved x = false ∧ Crypto.probablePrime x = true
    let kept (z : Nat × Nat) : State := t.setInst .srg n { t.inst .srg n with
      running := some { j with search := some z }
      count := wrapAdd 64 (t.inst .srg n).count (candidateCycles (rsaBits node.alg) x) }
    (¬ prime → tried + 1 < 2 ^ 20 → exec (.primeTest n) s = .next ((kept (tried + 1, first)).yieldSearch n))
    ∧ (¬ prime → tried + 1 = 2 ^ 20 →
        exec (.primeTest n) s = .next ((kept (0, 0)).endSearch n fun t => t.searchFailed r (rsaBits node.alg)))
    ∧ (prime → first ≠ 0 → exec (.primeTest n) s = .next ((kept (0, 0)).endSearch n fun t => t.foundKey r node first x))
    ∧ (prime → first = 0 → exec (.primeTest n) s = .next ((kept (0, x)).yieldSearch n))
    ∧ (∀ p q, s.leafRoom r.tenant (hLabel r.desc.key1) (rsaLeaf (rsaBits node.alg) p q).length = none →
        s.foundKey r node p q = (s.storeLeaf r.tenant r.desc.key1 node (rsaLeaf (rsaBits node.alg) p q)
          (node.exportBits.getLsbD 0)).answer r r.desc.key1.toNat (if node.exportBits.getLsbD 2 then
            beBytes 4 65537 ++ (rsaLeaf (rsaBits node.alg) p q).take (rsaBits node.alg / 8) else []))
    ∧ (∀ p q e, s.leafRoom r.tenant (hLabel r.desc.key1) (rsaLeaf (rsaBits node.alg) p q).length = some e →
        s.foundKey r node p q = s.reject r e)

/-! ## The entropy unit (file 10) -/

/-- R41, R306–R308, R311: start-up. An attempt without failures instantiates the expander with a full buffer; one that leaves too few
healthy streams fences the unit; the third failed attempt shows SYS_BOOTERR 0x0011. A failure while serving stops the unit and
excludes its stream, a count below its stream's cutoff is none, a passed retest instantiates it again. -/
def Obligations.EntropyStartsFailsAndRetests : Prop :=
  ∀ s : State, s.ent.stalled = [] →
    (∀ failed, s.ent.state = .startup → s.ent.attempts < 3 → failed &&& ~~~s.ent.excluded = 0 →
      { s.ent with legacy := s.ent.legacy || s.ent.legacyDue }.starved = false →
      Completes (.entStartupAttemptEnd failed ⟨true, true⟩) s fun t =>
        let d := Drbg.instantiate (s.ent.firstSeed (s.fresh + 2)) (personalisation s.bkd.pwrcyc)
        t.ent.state = .running ∧ t.ent.buf = Drbg.lines 128 d ∧ t.ent.words = 512 ∧ t.ent.requests = 128 ∧ t.ent.excluded = s.ent.excluded ||| failed
          ∧ t.ent.legacyTest = (s.ent.legacyTest || s.ent.legacyDue) ∧ t.sys.entReady = true
          ∧ t.ent.condPass = true ∧ t.ent.expPass = true ∧ OnlyIn [.sys, .ent, .fresh] s t)
    ∧ (∀ failed cond exp, s.ent.state = .startup → s.ent.attempts < 3 →
        ¬ (failed &&& ~~~s.ent.excluded = 0 ∧ cond = true ∧ exp = true) →
        let e := { s.ent with excluded := s.ent.excluded ||| failed }
        let fences := e.starved = true ∨ 2 ≤ s.ent.condFails + flag (!cond) ∨ 2 ≤ s.ent.expFails + flag (!exp)
        (fences → Completes (.entStartupAttemptEnd failed ⟨cond, exp⟩) s fun t => t.ent.state = .fenced ∧ t.ent.words = 0
          ∧ (s.ent.attempts = 2 → t.sys.bootErr = 0x11))
        ∧ (¬ fences → Completes (.entStartupAttemptEnd failed ⟨cond, exp⟩) s fun t =>
            t.ent.state = .startup ∧ t.ent.attempts = s.ent.attempts + 1 ∧ t.ent.excluded = s.ent.excluded ||| failed
              ∧ t.sys.bootErr = (if s.ent.attempts = 2 then 0x11 else s.sys.bootErr) ∧ OnlyIn [.sys, .ent, .rcd, .fresh] s t))
    ∧ (∀ stream test count, s.ent.state = .running → s.ent.failing stream test count = true →
        let e := { s.ent with excluded := s.ent.excluded ||| (1#128 <<< stream) }
        (e.starved = false → Completes (.healthTestFailure stream test count) s fun t =>
          t.ent.state = .failed ∧ t.ent.buf = [] ∧ t.ent.pool = none ∧ t.ent.drbg = Drbg.zero ∧ t.ent.excluded.getLsbD stream = true ∧ OnlyIn [.ent, .rcd] s t)
        ∧ (e.starved = true → Completes (.healthTestFailure stream test count) s fun t => t.ent.state = .fenced))
    ∧ (∀ stream test count, s.ent.failing stream test count = false → exec (.healthTestFailure stream test count) s = .next s)
    ∧ (s.ent.state = .failed → Completes .retestComplete s fun t =>
        t.ent.state = .running ∧ t.ent.buf = Drbg.lines 128 (Drbg.instantiate (s.ent.firstSeed s.fresh) (personalisation s.bkd.pwrcyc))
          ∧ t.ent.words = 512 ∧ t.ent.requests = 128 ∧ OnlyIn [.ent, .fresh] s t)

/-- R301, R303, R305, R309, R313: reseeds and known-answer tests of a unit that serves. A full pool and a due point reseed the
expander; the periodic tests fall due; a passed test clears its request, a failed one stops the unit. At a due point a full pool
reseeds at once, an empty one doubles the interval. However many words are taken, the buffer holds at most 512, the requests since a
reseed never pass the interval, and the interval is stretched to its ceiling at most. -/
def Obligations.EntropyReseedsAndTestsItself : Prop :=
  (∀ s : State, s.ent.state = .running → s.ent.stalled = [] →
    (s.ent.legacyTest = true → exec .legacyStartupComplete s =
      .next { s with ent := { s.ent with legacyTest := false, pool := none } })
    ∧ (s.ent.legacyTest = false → s.ent.pool = none → exec .seedPoolFull s =
      .next (let e := { s.ent.poured s.fresh with pool := some (s.ent.poolBits s.fresh) }
        { s with ent := e, fresh := s.fresh + s.ent.poolTicks }))
    ∧ (∀ x, s.ent.pool = some x → s.ent.due = true → s.ent.legacyTest = false → s.ent.words = 512 →
        Completes .expanderReseed s fun t => t.ent.requests = 0 ∧ t.ent.curLog2 = s.ent.reseedLog2 ∧ t.ent.pool = none
          ∧ t.ent.drbg = s.ent.drbg.update x ∧ t.ent.buf = s.ent.buf
          ∧ t.ent.reseeds = wrapAdd 32 s.ent.reseeds 1 ∧ OnlyIn [.ent] s t)
    ∧ (s.ent.katS ≠ 0 → exec .katPeriodic s = .next { s with ent := { s.ent with condDue := true, expDue := true } })
    ∧ (s.ent.katMayRun = true →
      (s.ent.condDue = true → Completes (.conditionerKat true) s fun t =>
          t.ent.condDue = false ∧ t.ent.condPass = true ∧ t.ent.state = .running ∧ t.ent.pool = s.ent.pool
            ∧ t.ent.cond = (condTicks s.ent.streams (s.ent.ticksFor 1024) s.fresh 0).2 ∧ OnlyIn [.ent, .fresh] s t)
      ∧ (s.ent.condDue = true → s.ent.condFails = 0 → Completes (.conditionerKat false) s fun t =>
          t.ent.condPass = false ∧ t.ent.state = .failed ∧ t.ent.kat = satAdd 8 s.ent.kat 1 ∧ OnlyIn [.ent, .rcd] s t)
      ∧ (s.ent.condDue = true → 1 ≤ s.ent.condFails → Completes (.conditionerKat false) s fun t => t.ent.state = .fenced)
      ∧ (s.ent.expDue = true → s.ent.words = 512 → Completes (.expanderKat true) s fun t =>
          t.ent.expDue = false ∧ t.ent.expPass = true ∧ t.ent.words = 512 ∧ OnlyIn [.ent] s t)
      ∧ (s.ent.expDue = true → s.ent.words < 512 → Completes (.expanderKatForce true) s fun t =>
          t.ent.expDue = false ∧ t.ent.expPass = true ∧ t.ent.words = s.ent.words ∧ OnlyIn [.ent] s t)))
  ∧ (∀ (e f : Entropy) (n : Nat) (w : List W128), e.words ≤ 512 → e.requests ≤ 2 ^ e.curLog2 → e.take n = some (w, f) →
    w.length = n ∧ f.words ≤ 512 ∧ f.requests ≤ 2 ^ f.curLog2 ∧ f.state = .running
      ∧ f.curLog2 ≤ max (max e.curLog2 e.reseedLog2) e.stretchLog2 ∧ min e.curLog2 e.reseedLog2 ≤ f.curLog2
      ∧ (e.pool = none → e.curLog2 ≤ f.curLog2
        ∧ ∃ k, w ++ f.buf = e.buf ++ Drbg.lines k e.drbg ∧ f.drbg = Drbg.after k e.drbg))
  ∧ (∀ e : Entropy,
    (e.due = false → e.atDue = e)
    ∧ (e.due = true → e.legacyTest = false → ∀ x, e.pool = some x → e.atDue = e.reseedFrom x)
    ∧ (e.due = true → e.legacyTest = true ∨ e.pool = none → e.atDue = if e.stretchLog2 ≤ e.curLog2 then e
        else { e with curLog2 := e.curLog2 + 1, stretched := true }))

/-- R41, R310–R312, R314–R316: reads. RANDOM_GENERATE and ENT_DATA0 are answered with fresh words where the unit serves, and wait where
it does not; a waiting read is released without data while the unit is failed or fenced, a waiting command with RNG_UNAVAILABLE; a raw capture is set up in BLANK and TEST and
writes its samples to WORK. -/
def Obligations.EntropyReadsAndRawCapture : Prop :=
  ∀ s : State,
    (∀ r w t, Turn s r 0x0441 → 16 ≤ r.desc.outLen → r.desc.outLen ≤ 65536 → r.desc.outLen % 16 = 0 →
      s.takeWords (r.desc.outLen / 16) = some (w, t) → ∃ u, Answers (.randomGenerate r) s r u 0 (wordBytes w)
        ∧ OnlyIn [.ent] s u)
    ∧ (∀ r, Turn s r 0x0441 → 16 ≤ r.desc.outLen → r.desc.outLen ≤ 65536 → r.desc.outLen % 16 = 0 →
        s.takeWords (r.desc.outLen / 16) = none → exec (.randomGenerate r) s = .next (s.stallFor (.command r)))
    ∧ (∀ r, Turn s r 0x0441 → r.desc.outLen < 16 ∨ 65536 < r.desc.outLen ∨ r.desc.outLen % 16 ≠ 0 → Refuses (.randomGenerate r) s r 0x0301 0 0x80)
    ∧ (∀ who w t, secureWho who = true → s.onMain = true → s.takeWords 1 = some ([w], t) → Completes (.entDataRead who) s fun u =>
        u.entBank who = { word := w, valid := true, unavail := false, due := false } ∧ OnlyIn [.ent] s u)
    ∧ (∀ who, secureWho who = true → s.onMain = true → s.takeWords 1 = none → Completes (.entDataRead who) s fun u =>
        Consumer.bank who ∈ u.ent.stalled ∧ OnlyIn [.ent] s u)
    ∧ (∀ k r, s.ent.state = .failed ∨ s.ent.state = .fenced → s.ent.stalled[k]? = some (.command r) →
        ∃ u, exec (.entReadRelease k) s = .next ((u.dropJobs fun e => decide (e = .raw r)).refuse r 0x0401 0 0)
          ∧ Consumer.command r ∉ u.ent.stalled ∧ u.ent.released = satAdd 32 s.ent.released 1 ∧ OnlyIn [.ent] s u)
    ∧ (∀ k who, s.ent.state = .failed ∨ s.ent.state = .fenced → s.ent.stalled[k]? = some (.bank who) →
        Completes (.entReadRelease k) s fun u => (u.entBank who).valid = false ∧ (u.entBank who).unavail = true
          ∧ Consumer.bank who ∉ u.ent.stalled ∧ u.ent.released = satAdd 32 s.ent.released 1 ∧ OnlyIn [.ent] s u)
    ∧ (∀ who v, s.onMain = true → s.inControl who = true → s.lifeCycle ≤ 1 → Completes (.rawCapture who v) s fun u =>
        u.ent.raw.stream = (v.extractLsb' 0 7).toNat ∧ u.ent.raw.addr = (v.extractLsb' 8 24).toNat * 256
          ∧ u.ent.raw.go = (s.ent.raw.go || v.getLsbD 7) ∧ OnlyIn [.ent] s u)
    ∧ (∀ samples : Bytes, s.ent.raw.go = true → Completes (.rawCaptureDone samples) s fun u =>
        u.ent.raw.go = false ∧ OnlyIn [.mem, .ent] s u)

/-! ## The Zynkel cores (file 11) -/

/-- R320, R324, R332, R333, R339, R340, R383: what becomes of the word at the PC of a core, for every operation of both formats: a fetch
fault, a decode fault in its slot, the exception of its memory operation, a waiting STORE, a stall, or the commitment of all its
results; a word in a bank that the March engine has waits. -/
def Obligations.WordsIssueAsDecoded : Prop :=
  ∀ (s : State) (n : Nat) (f : ZForm) (a : ZArgs) (busy : Bool), s.mayIssue n = true →
    ∀ x ∈ ([(.nop, f, false, .nop n f a), (.add, f, false, .add n f a), (.sub, f, false, .sub n f a), (.and, f, false, .and n f a),
        (.or, f, false, .or n f a), (.xor, f, false, .xor n f a), (.shl, f, false, .shl n f a), (.shr, f, false, .shr n f a),
        (.sar, f, false, .sar n f a), (.addi, f, false, .addi n f a), (.andi, f, false, .andi n f a),
        (.shli, f, false, .shli n f a), (.shri, f, false, .shri n f a), (.sari, f, false, .sari n f a),
        (.rotri, f, false, .rotri n f a), (.movi, f, false, .movi n f a), (.cmpeq, f, false, .cmpeq n f a),
        (.cmpne, f, false, .cmpne n f a), (.cmplt, f, false, .cmplt n f a), (.cmpltu, f, false, .cmpltu n f a),
        (.cmpeqi, f, false, .cmpeqi n f a), (.cmplti, f, false, .cmplti n f a), (.cmpltui, f, false, .cmpltui n f a),
        (.pand, f, false, .pand n f a), (.por, f, false, .por n f a), (.pxor, f, false, .pxor n f a),
        (.mul, f, false, .mul n f a), (.mulh, f, false, .mulh n f a), (.mac, f, false, .mac n f a),
        (.mgetl, f, false, .mgetl n f a), (.mgeth, f, false, .mgeth n f a), (.bswap, f, false, .bswap n f a),
        (.shori, .long, false, .shori n a), (.ld8, .long, busy, .ld8 n a busy), (.ld16, .long, busy, .ld16 n a busy),
        (.ld32, f, busy, .ld32 n f a busy), (.ld64, f, busy, .ld64 n f a busy), (.lds8, .long, busy, .lds8 n a busy),
        (.lds16, .long, busy, .lds16 n a busy), (.lds32, .long, busy, .lds32 n a busy), (.st8, .long, false, .st8 n a),
        (.st16, .long, false, .st16 n a), (.st32, f, false, .st32 n f a), (.st64, f, false, .st64 n f a)] :
        List (ZKind × ZForm × Bool × Instr)),
      let w := zword x.1 x.2.1 a
      let i := x.2.2.2
      let c := s.core n
      w.wf = true →
      (s.marchHolds c.cur.pc.toNat = true → exec i s = .next (s.noteConflicts n c.cur.pc.toNat 1))
      ∧ (s.marchHolds c.cur.pc.toNat = false →
        (∀ t, s.fetchFault n = some t → exec i s = .next t)
        ∧ (∀ cause slot, s.fetchFault n = none → decodeOps (isSupv n) c.world w = .fault cause slot →
            exec i s = .next (s.exception n 0 cause slot 0))
        ∧ (∀ l, s.fetchFault n = none → decodeOps (isSupv n) c.world w = .ops l →
          (l.find? (fun o => o.kind.isMem) = none →
            (c.storeDue = none → exec i s = .next (s.commitWord n l none))
            ∧ (∀ y, c.storeDue = some y → exec i s = .next (s.takeStore n y)))
          ∧ (∀ o, l.find? (fun o => o.kind.isMem) = some o →
            (∀ t cause, s.memOp n o x.2.2.1 = .fault t cause →
              exec i s = .next (t.exception n 0 cause (slotOf l o) (o.taddr c.cur)))
            ∧ (∀ t v, s.memOp n o x.2.2.1 = .done t v → c.storeDue = none → exec i s = .next (t.commitWord n l v))
            ∧ (∀ t, s.memOp n o x.2.2.1 = .stall t → c.storeDue = none → exec i s = .next t)
            ∧ (∀ t v y, s.memOp n o x.2.2.1 = .done t v ∨ s.memOp n o x.2.2.1 = .stall t → c.storeDue = some y →
              exec i s = .next (s.takeStore n y)))))

/-- R321–R327, R344: what the commitment of a word writes, alone or in a pair: each operation whose guard is true writes its
result from the registers as they stood, a multiplication joins the multiplier writes in flight, and nothing else changes but the PC,
which names the next word; then the word's cycle passes, or those of its load. -/
def Obligations.OperationsWriteTheirResults : Prop :=
  ∀ (s : State) (n : Nat) (k : ZKind) (f : ZForm) (a : ZArgs) (l : List ZOp) (v : Option W64),
    (zword k f a).wf = true → decodeOps (isSupv n) (s.core n).world (zword k f a) = .ops l → k.isSystem = false →
    let b := (s.core n).cur
    let x := b.greg a.rs1
    let y := b.greg a.rs2
    let i : W64 := if f = .long then (a.imm.setWidth 31).signExtend 64 else (BitVec.ofNat 6 a.rs2).signExtend 64
    let z : W64 := if f = .long then (a.imm.setWidth 31).setWidth 64 else (BitVec.ofNat 6 a.rs2).setWidth 64
    ∃ e : ZCore, (v = none → CoreMoves s (s.commitWord n l v) n e 1) ∧ CoreWaits s (s.commitWord n l v) n e ∧
    let d := e.cur
    e = { s.core n with flight := e.flight }.setCur { b with g := d.g, p := d.p, pc := b.pc + 8 }
    ∧ (b.guard a = true →
      (∀ p ∈ ([(.add, x + y), (.sub, x - y), (.and, x &&& y), (.or, x ||| y), (.xor, x ^^^ y), (.shl, x <<< (y.toNat % 64)),
            (.shr, x >>> (y.toNat % 64)), (.sar, x.sshiftRight (y.toNat % 64)), (.addi, x + i), (.andi, x &&& i),
            (.shli, x <<< (z.toNat % 64)), (.shri, x >>> (z.toNat % 64)), (.sari, x.sshiftRight (z.toNat % 64)),
            (.rotri, x.rotateRight (z.toNat % 64)), (.movi, i), (.mgetl, b.mlo), (.mgeth, b.mhi), (.shori, (x <<< 31) ||| z)] :
            List (ZKind × W64)),
          p.1 = k → a.rd ≠ 0 → d.greg a.rd = p.2)
      ∧ (k = .bswap → a.rd ≠ 0 → leBytes 8 (d.greg a.rd).toNat = (leBytes 8 x.toNat).reverse)
      ∧ (∀ u, k.load.isSome = true → v = some u → a.rd ≠ 0 → d.greg a.rd = u)
      ∧ (∀ p ∈ ([(.cmpeq, decide (x = y)), (.cmpne, decide (x ≠ y)), (.cmplt, decide (x.toInt < y.toInt)),
            (.cmpltu, decide (x.toNat < y.toNat)), (.cmpeqi, decide (x = i)), (.cmplti, decide (x.toInt < i.toInt)),
            (.cmpltui, decide (x.toNat < z.toNat))] : List (ZKind × Bool)),
          p.1 = k → a.rd % 8 ≠ a.rd / 8 % 8 →
            (a.rd % 8 ≠ 0 → d.pred (a.rd % 8) = p.2) ∧ (a.rd / 8 % 8 ≠ 0 → d.pred (a.rd / 8 % 8) = !p.2))
      ∧ (let px := xor (b.pred (a.rs1 % 8)) (a.rs1.testBit 3)
         let py := xor (b.pred (a.rs2 % 8)) (a.rs2.testBit 3)
         ∀ p ∈ ([(.pand, px && py), (.por, px || py), (.pxor, xor px py)] : List (ZKind × Bool)),
          p.1 = k → a.rd % 8 ≠ 0 → d.pred (a.rd % 8) = p.2)
      ∧ (∀ p ∈ ([(.mul, false, (x.setWidth 128 * y.setWidth 128 : W128)), (.mulh, false, x.signExtend 128 * y.signExtend 128),
            (.mac, true, x.setWidth 128 * y.setWidth 128)] : List (ZKind × Bool × W128)),
          p.1 = k → e.flight = (s.core n).flight ++ [{ world := (s.core n).world, left := 4, acc := p.2.1, value := p.2.2 }]))
    ∧ (b.guard a = false → f = .long → d = { b with pc := b.pc + 8 })
    ∧ (∃ new, e.flight = (s.core n).flight ++ new ∧ new.length ≤ l.length ∧ (l.any (fun o => o.kind.isMul) = false → new = []))
    ∧ d.greg 0 = 0 ∧ d.pred 0 = true
    ∧ (∀ r, r < 64 → (∀ o ∈ l, r ∉ o.writes) → d.greg r = b.greg r)
    ∧ (∀ p, p < 8 → (∀ o ∈ l, 64 + p ∉ o.writes) → d.pred p = b.pred p)

/-- R329–R332, R375, R383, R385, R388: a load or store of a core meets the address checks, then the gate. A permitted load delivers its bytes
extended, a denied one is recorded and raises GATE, one of a bank that stays busy raises BUS; a store joins the buffer, or waits for
a place there; a bank that the March engine has holds both; the oldest goes to its target, where it changes no byte but its own, or fails for STORE. -/
def Obligations.LoadsAndStoresMeetTheGate : Prop :=
  ∀ (s : State) (n size : Nat) (ad : W64) (signed busy : Bool), size ∈ [1, 2, 4, 8] →
    let c := s.core n
    let x := ad.toNat
    let denial := s.coreDenial n c.world (s.coreColour n c.world) x false
    (∀ b : Bytes, b.length = size →
      (2 ^ 32 ≤ x ∨ mapped x = false → s.loadAt n ad size signed busy = .fault s 0x05 ∧ s.storeAt n ad b = .fault s 0x05)
      ∧ (x < 2 ^ 32 → mapped x = true → isRegister x = false → x % size ≠ 0 →
          s.loadAt n ad size signed busy = .fault s 0x04 ∧ s.storeAt n ad b = .fault s 0x04)
      ∧ (x < 2 ^ 32 → mapped x = true → isRegister x = false → x % size = 0 →
        (8 ≤ c.stores.length → s.storeAt n ad b = .stall s)
        ∧ (c.stores.length < 8 → s.storeAt n ad b = .done (s.setCore n { c with
            stores := c.stores ++ [{ addr := x, data := b, world := c.world, colour := s.coreColour n c.world }] }) none)))
    ∧ (x < 2 ^ 32 → mapped x = true → isRegister x = false → x % size = 0 →
      (denial ≠ 0 → s.loadAt n ad size signed busy = .fault (s.noteDenial n c.world false false x denial) 0x06)
      ∧ (denial = 0 → c.stores = [] → s.marchHolds x = true → s.loadAt n ad size signed busy = .stall (s.noteConflicts n x 1))
      ∧ (denial = 0 → c.stores = [] → s.marchHolds x = false → busy = true →
          s.loadAt n ad size signed busy = .fault (s.noteConflicts n x 9) 0x08)
      ∧ (denial = 0 → c.stores = [] → s.marchHolds x = false → busy = false → classOf x = some 1 → (∀ k, k < size → SMap.get 0 s.mem.chk (x + k) = 0) →
          s.loadAt n ad size signed busy = .done s (some (extend size signed (s.mem.read x size)))))
    ∧ (∀ e l, s.coreRuns n = true → c.stores = e :: l → isRegister e.addr = false →
        let u := s.setCore n { c with stores := l }
        let deny := s.coreDenial n e.world e.colour e.addr true
        (deny = 0 → s.marchHolds e.addr = false → exec (.storeRetire n false) s = .next (u.poke e.addr e.data))
        ∧ (deny = 0 → s.marchHolds e.addr = false →
          exec (.storeRetire n true) s = .next ((u.noteConflicts n e.addr 9).failStore n e))
        ∧ (deny = 0 → s.marchHolds e.addr = true → exec (.storeRetire n busy) s = .next (s.noteConflicts n e.addr 1))
        ∧ (deny ≠ 0 → exec (.storeRetire n busy) s = .next ((u.noteDenial n e.world true false e.addr deny).failStore n e))
        ∧ (classOf e.addr = some 1 → (∀ k, k < e.data.length → (u.poke e.addr e.data).mem.readByte (e.addr + k) = e.data[k]?.getD 0)
            ∧ (∀ y, y < e.addr ∨ e.addr + e.data.length ≤ y → (u.poke e.addr e.data).mem.readByte y = s.mem.readByte y)
            ∧ OnlyIn [.mem] u (u.poke e.addr e.data)))

/-- R385: a load that the gate denies outside a trap handler, for another reason than a mismatch of the gate's own copies, leaves the cores in a state that does not depend on what memory holds. -/
def Obligations.DeniedLoadsTellNothing : Prop :=
  ∀ (s : State) (n : Nat) (a : ZArgs) (busy : Bool) (m : SMap Byte),
    let s' := { s with mem := { s.mem with bytes := m } }
    let o : ZOp := { kind := .ld64, a := a, immS := (a.imm.setWidth 31).signExtend 64, immZ := (a.imm.setWidth 31).setWidth 64,
                     slot := false }
    let c := s.core n
    let x := (o.address c.cur 8).toNat
    s.mayIssue n = true → s.fetchFault n = none → (zword .ld64 .long a).wf = true → c.cur.guard a = true →
    c.cur.intrap = false → x < 2 ^ 32 → mapped x = true → isRegister x = false →
    s.coreDenial n c.world (s.coreColour n c.world) x false ≠ 0 → s.coreDenial n c.world (s.coreColour n c.world) x false ≠ 5 →
    ∃ t t', exec (.ld64 n .long a busy) s = .next t ∧ exec (.ld64 n .long a busy) s' = .next t'
      ∧ t'.zyn = t.zyn ∧ t'.gate = t.gate ∧ t'.supv = t.supv ∧ t'.rcd = t.rcd

/-- R334–R341, R343, R344: the long-only operations with a true guard: branches and jumps, control registers, calls between the
worlds, the return from a trap, MSUB of a free or an unfinished mailbox, WFE with and without an event, FENCE and BRK; with the cycles
of R325, which the stalls of CRD, MSUB, a woken WFE and FENCE decide. -/
def Obligations.SystemOperationsActOnTheirCore : Prop :=
  ∀ (s : State) (n : Nat) (a : ZArgs), Issues s n → a.wf = true → a.imm.toNat < 2 ^ 31 → (s.core n).cur.guard a = true →
    let c := s.core n
    let b := c.cur
    let x := b.greg a.rs1
    let i : W64 := (a.imm.setWidth 31).signExtend 64
    let r := a.imm.toNat % 4096
    let link := c.setCur (b.setG 63 (b.pc + 8))
    let fits (k : ZKind) : Prop := k.longZeros a = true ∧ k.permitted (isSupv n) c.world a = true
    let goes (d : ZCore) (pc : W64) : ZCore := d.setCur { d.cur with pc := pc }
    (fits .br → Completes (.br n a) s fun t => CoreMoves s t n (goes c (b.pc + i * 8)) 3)
    ∧ (fits .brl → Completes (.brl n a) s fun t => CoreMoves s t n (goes link (b.pc + i * 8)) 3)
    ∧ (fits .jr → Completes (.jr n a) s fun t => CoreMoves s t n (goes c x) 4)
    ∧ (fits .jrl → Completes (.jrl n a) s fun t => CoreMoves s t n (goes link x) 4)
    ∧ (fits .crd → Completes (.crd n a) s fun t =>
        CoreWaits s t n (goes ((c.readLatch r).setCur (b.setG a.rd ((s.controlRead n r).setWidth 64))) (b.pc + 8)))
    ∧ (fits .cwr → Completes (.cwr n a) s fun t => CoreMoves s t n (goes (s.controlWrite n r (x.setWidth 32)) (b.pc + 8)) 1)
    ∧ (fits .scall →
      ((s.worker n).sw = .up → Completes (.scall n a) s fun t => CoreMoves s t n { c with
          nepc := (b.pc + 8).setWidth 32, scnum := a.imm.toNat % 65536, bySCall := true, world := .secure
          secure := b.copyArgs { c.secure with pc := c.sentry.setWidth 64 } } 12)
      ∧ ((s.worker n).sw = .pending → Completes (.scall n a) s fun t =>
          (t.core n).world = .secure ∧ (t.core n).secure.pc = BitVec.ofNat 64 s.boot.entry1
            ∧ (t.core n).nepc = (b.pc + 8).setWidth 32 ∧ (t.core n).scnum = a.imm.toNat % 65536 ∧ (t.core n).irqHeld = true
            ∧ (t.worker n).sw = .up ∧ (t.worker n).restarts = satAdd 8 (s.worker n).restarts 1
            ∧ (∀ k, 1 ≤ k → k ≤ 8 → (t.core n).secure.greg k = b.greg k) ∧ (∀ k, 8 < k → (t.core n).secure.greg k = 0)
            ∧ OnlyIn [.zyn, .supv, .fresh] s t)
      ∧ ((s.worker n).sw = .down ∨ (s.worker n).sw = .held → Completes (.scall n a) s fun t =>
          CoreMoves s t n (c.setCur { b.setG 1 0x501#64 with pc := b.pc + 8 }) 4))
    ∧ (∀ d : ZBank, (∀ k, 1 ≤ k → k ≤ 8 → (b.copyArgs d).greg k = b.greg k) ∧ (∀ k, 8 < k → (b.copyArgs d).greg k = d.greg k))
    ∧ (fits .sret → Completes (.sret n a) s fun t =>
        t.core n = ZCore.pass { c with
          world := .normal, bySCall := false, secure := { c.secure with pc := c.secure.pc + 8 }
          normal := { (if a.imm.getLsbD 0 then c.secure.copyArgs c.normal else c.normal) with
            pc := c.nepc.setWidth 64, halted := false } } 10
          ∧ (t.worker n).watch = 0 ∧ OnlyIn [.zyn, .supv, .fresh] s t)
    ∧ (fits .tret → Completes (.tret n a) s fun t =>
        CoreMoves s t n (c.setCur { b with pc := b.tpc.setWidth 64, intrap := false }) 4)
    ∧ (∀ u, fits .msub → s.boxAt n x.toNat = some u →
      (c.stores = [] → (s.box n u).busy = true → Completes (.msub n a) s fun t =>
        CoreWaits s t n (goes (c.setCur (b.setG a.rd 1)) (b.pc + 8)))
      ∧ (c.stores = [] → (s.box n u).busy = false → isWorker n = true → s.gate.upset = [] →
        let y := s.mailReq n u x.toNat
        Completes (.msub n a) s fun t =>
          (t.box n u).busy = true ∧ (t.box n u).copy = s.peek x.toNat 96 ∧ (a.rd ≠ 0 → (t.core n).cur.greg a.rd = 0)
            ∧ (t.core n).cur.pc = b.pc + 8
            ∧ (boxTakes u y.2.1.desc.opcode = true → y.2.2 = false → t.zyn.submitted = s.zyn.submitted ++ [y.2.1])
            ∧ (boxTakes u y.2.1.desc.opcode = false → ∃ z ∈ t.zyn.done, z.src = y.2.1.src ∧ z.status = 0x0301 ∧ z.reason = 0x21))
      ∧ (c.stores = [] → (s.box n u).busy = false → isWorker n = false → Completes (.msub n a) s fun t =>
          (a.rd ≠ 0 → (t.core n).cur.greg a.rd = 0) ∧ (t.core n).cur.pc = b.pc + 8
            ∧ (t.box n u).busy = s.inControl (coreWho n .secure))
      ∧ (c.stores ≠ [] → exec (.msub n a) s = .next s))
    ∧ (fits .msub → s.boxAt n x.toNat = none → exec (.msub n a) s =
        .next ((s.noteDenial n c.world true false (x.toNat % 2 ^ 32) 1).exception n 0 0x06 0 (x.setWidth 32)))
    ∧ (fits .wfe →
      (b.event = true → Completes (.wfe n a) s fun t =>
        CoreMoves s t n (c.setCur { b with event := false, pc := b.pc + 8 }) 1)
      ∧ (b.event = false → s.pendingLines n c.world ≠ 0 → c.takesOwn = true → Completes (.wfe n a) s fun t =>
        CoreWaits s t n (c.setCur { b with event := false, pc := b.pc + 8 }))
      ∧ (b.event = false → s.pendingLines n c.world = 0 ∨ c.takesOwn = false →
          exec (.wfe n a) s = .next (s.setCore n { c with wfe := true })))
    ∧ (fits .fence →
      (c.stores = [] → Completes (.fence n a) s fun t => CoreWaits s t n (goes c (b.pc + 8)))
      ∧ (c.stores ≠ [] → exec (.fence n a) s = .next s))
    ∧ (fits .brk →
      (s.debugger n = true → exec (.brk n a) s = .next (s.haltCore n))
      ∧ (s.debugger n = false → exec (.brk n a) s = .next (s.exception n 3 0x0A 0 0)))

/-- R327, R328, R332, R336–R342: what happens to a core between its words. A multiplier write lands in its cycle, in order; STORE, an interrupt and
an exception enter their handlers with the trap registers written; an event ends WFE; a second fault halts a normal world and takes
a secure one down; a mailbox's completion record is written at its offset 96. -/
def Obligations.EventsOfACore : Prop :=
  ∀ (s : State) (n : Nat),
    let c := s.core n
    let b := c.cur
    (∀ m l, s.coreRuns n = true → c.flight = m :: l →
        exec (.multiplierWrite n) s = .next (s.setCore n (c.pass m.left))
        ∧ (m.world = c.world → (∀ y ∈ l, m.left < y.left) →
          let sum : W128 := if m.acc then (b.mhi ++ b.mlo) + m.value else m.value
          let d := c.pass m.left
          d.flight = l.map (fun y => { y with left := y.left - m.left })
            ∧ d.cur = { b with mhi := sum.extractLsb' 64 64, mlo := sum.extractLsb' 0 64 }))
    ∧ (∀ y, s.coreRuns n = true → s.debugHalted n = false → c.storeDue = some y → Completes (.storeFault n) s fun t =>
        (t.core n).storeFault = none ∧ (t.core n).cur.tcause = 0x09 ∧ (t.core n).cur.tpc = b.pc.setWidth 32 &&& 0xFFFFFFF8#32
          ∧ (t.core n).cur.taddr = BitVec.ofNat 32 y ∧ (t.core n).cur.pc = (b.tbase + 0x40).setWidth 64
          ∧ (t.core n).cur.intrap = true ∧ OnlyIn [.zyn] s t)
    ∧ (s.coreRuns n = true → s.debugHalted n = false → c.wfe = true → b.event = true → Completes (.wfeWake n) s fun t =>
        CoreWaits s t n ({ c with wfe := false }.setCur { b with event := false, pc := b.pc + 8 }))
    ∧ (∀ k, s.coreRuns n = true → s.debugHalted n = false → c.storeDue = none → s.takable n = some (c.world, k) → k < 32 →
        let pc := if c.wfe = true then b.pc + 8 else b.pc
        Completes (.interruptEntry n) s fun t =>
          (t.core n).world = c.world ∧ (t.core n).cur.tcause = 0x20 + k ∧ (t.core n).cur.ipend.getLsbD k = false
            ∧ (t.core n).cur.tpc = pc.setWidth 32 &&& 0xFFFFFFF8#32 ∧ (t.core n).cur.pc = (b.tbase + 0x80).setWidth 64
            ∧ (t.core n).wfe = false ∧ (t.core n).cur.intrap = true ∧ (t.core n).flight = [] ∧ OnlyIn [.zyn] s t)
    ∧ (∀ k, s.coreRuns n = true → s.debugHalted n = false → c.storeDue = none → c.world = .normal →
        s.takable n = some (.secure, k) → c.flight = [] → Completes (.interruptEntry n) s fun t =>
          (t.core n).world = .secure ∧ (t.core n).nepc = b.pc.setWidth 32 &&& 0xFFFFFFF8#32
            ∧ (t.core n).secure.tcause = 0x20 + k ∧ (t.core n).normal = c.normal ∧ OnlyIn [.zyn] s t)
    ∧ (∀ cls cause slot (y : W32), b.intrap = false →
        let u := s.exception n cls cause slot y
        let d := c.landAll
        u.core n = { d with wfe := false }.setCur { d.cur with
            tpc := b.pc.setWidth 32 &&& 0xFFFFFFF8#32, tcause := cause, tslot := slot, taddr := y, intrap := true,
            pc := (b.tbase + BitVec.ofNat 32 (0x40 * cls)).setWidth 64 }
          ∧ d.flight = [] ∧ (c.flight = [] → d = { c with cycle := (c.cycle + 8) % 2 ^ 64 })
          ∧ (∀ m, m ≠ n → u.core m = s.core m) ∧ OnlyIn [.zyn] s u)
    ∧ (∀ cls cause slot (y : W32), b.intrap = true → n < 16 → c.started = true →
        let u := s.exception n cls cause slot y
        (c.world = .normal → (u.core n).normal.halted = true ∧ (u.core n).scnum = 0xFFFF ∧ (u.core n).normal.tcause = cause
          ∧ (u.core n).secure.ipend.getLsbD 0 = true ∧ OnlyIn [.zyn] s u)
        ∧ (c.world = .secure → u = s.declareDown n 2))
    ∧ (∀ u x, s.onMain = true → n < 16 → (s.box n u).busy = true → c.started = true →
        s.doneFor n u = some x →
        Completes (.mailboxCompletion n u) s fun t =>
          (t.box n u).busy = false ∧ (t.box n u).phase = !(s.box n u).phase ∧ (t.core n).secure.event = true
            ∧ (t.core n).secure.ipend.getLsbD 0 = true ∧ t.zyn.done = s.zyn.done.erase x)
    ∧ (∀ u x, s.onMain = true → (n = 16 ∨ n = 17) → (s.box n u).busy = true → c.started = true → s.doneFor n u = some x →
        Completes (.mailboxCompletion n u) s fun t =>
          (t.box n u).busy = false ∧ (t.box n u).phase = !(s.box n u).phase ∧ (t.core n).secure.event = true
            ∧ (t.core n).secure.ipend.getLsbD 0 = true ∧ t.zyn.done = s.zyn.done.erase x)

/-- R317–R319: the fields of a long operation and of the slots of a pair stand at their bits, and an instruction word keeps every
field through its 64 bits. -/
def Obligations.ZynkelWordsKeepTheirFields : Prop :=
  let slot (x : BitVec 31) : ZMate := {
    opc := (x.extractLsb' 25 6).toNat
    args := { gn := x.getLsbD 24, gp := (x.extractLsb' 21 3).toNat, rd := (x.extractLsb' 15 6).toNat,
              rs1 := (x.extractLsb' 9 6).toNat, rs2 := (x.extractLsb' 3 6).toNat, imm := (x.extractLsb' 0 3).setWidth 32 } }
  (∀ w : W64,
    (w.getLsbD 63 = false → decodeZWord w = .long {
      opc := (w.extractLsb' 53 10).toNat
      args := { gn := w.getLsbD 52, gp := (w.extractLsb' 49 3).toNat, rd := (w.extractLsb' 43 6).toNat,
                rs1 := (w.extractLsb' 37 6).toNat, rs2 := (w.extractLsb' 31 6).toNat,
                imm := (w.extractLsb' 0 31).setWidth 32 } })
    ∧ (w.getLsbD 63 = true → decodeZWord w = .paired (w.getLsbD 62) (slot (w.extractLsb' 31 31)) (slot (w.extractLsb' 0 31))))
  ∧ ∀ w : ZWord, w.wf = true → decodeZWord (encodeZWord w) = w

/-! ## Worlds, lines and supervisors (file 12) -/

/-- R347–R354, R364, R368: an edge on a pin raises its line where the worlds agree and is dropped and counted where they do not; pins
and lines that change world become inputs or lose their bits; a software interrupt and new colours; a secure world that is declared
down keeps its cause, leaves its core to the normal world at ZCR_NEPC, and is entered afresh after its restart. Its watchdog takes it down only once it has run
SWLIM_MS without being cleared. -/
def Obligations.WorldsAndLinesOfCores : Prop :=
  ∀ (s : State) (who : Initiator) (n : Nat),
    let c := s.core n
    (∀ pin, pin < 16 → s.onMain = true → s.scanPin pin = false → Completes (.gpEdge pin) s fun t =>
        t.supv.gpin.getLsbD pin = true ∧ OnlyIn [.zyn, .supv] s t
          ∧ (c.started = true → s.lineWorld n (pin + 1) = s.pinWorld pin →
              ((t.core n).bank (s.pinWorld pin)).ipend.getLsbD (pin + 1) = true)
          ∧ (s.lineWorld n (pin + 1) ≠ s.pinWorld pin → t.core n = c))
    ∧ (∀ pin d, pin < 16 → s.onMain = true → s.scanPin pin = false → s.zyn.cores.filter (fun x => x.2.started) = [(n, d)] →
        s.lineWorld n (pin + 1) ≠ s.pinWorld pin → exec (.gpEdge pin) s = .next { s with supv := { s.supv with
          gpin := s.supv.gpin ||| pinBit pin, dropEdges := satAdd 8 s.supv.dropEdges 1 } })
    ∧ (s.inControl who = true →
      (∀ v, Completes (.supvPinwWrite who v) s fun t => t.supv.pinw = v ∧ OnlyIn [.supv] s t
        ∧ ∀ k, k < 16 → t.supv.gpoe.getLsbD k = (s.supv.gpoe.getLsbD k && (v.getLsbD k == s.supv.pinw.getLsbD k)))
      ∧ (∀ v, n < s.part.workers → Completes (.supvIrqwWrite who n v) s fun t =>
          t.irqWorlds n = v ||| 1#32 ∧ OnlyIn [.zyn, .supv] s t
            ∧ ∀ k, k < 32 → ((v ||| 1#32).getLsbD k ≠ (s.irqWorlds n).getLsbD k →
                (t.core n).normal.ipend.getLsbD k = false ∧ (t.core n).normal.imask.getLsbD k = false
                  ∧ (t.core n).secure.ipend.getLsbD k = false ∧ (t.core n).secure.imask.getLsbD k = false)
              ∧ ((v ||| 1#32).getLsbD k = (s.irqWorlds n).getLsbD k →
                (t.core n).normal.ipend.getLsbD k = c.normal.ipend.getLsbD k
                  ∧ (t.core n).secure.ipend.getLsbD k = c.secure.ipend.getLsbD k))
      ∧ (∀ line, 17 ≤ line → line < 32 → n < s.part.workers ∨ n = 16 ∨ n = 17 → c.started = true →
          Completes (.supvSwi who n line) s fun t =>
            ((t.core n).bank (s.lineWorld n line)).ipend.getLsbD line = true ∧ OnlyIn [.zyn] s t)
      ∧ (∀ v : W32, n < s.part.workers → n < 16 → Completes (.supvWcolWrite who n v) s fun t =>
          t.coreColour n .normal = v.toNat % 256 ∧ t.coreColour n .secure = v.toNat / 256 % 256 ∧ OnlyIn [.supv] s t)
      ∧ (n < 16 → exec (.supvSwctlDown who n) s = .next (s.declareDown n 3)))
    ∧ (s.inControl who = false → exec (.supvPinwWrite who 0) s = .next (s.dropWrite who)
        ∧ exec (.supvWcolWrite who n 0) s = .next (s.dropWrite who) ∧ exec (.supvSwctlDown who n) s = .next (s.dropWrite who))
    ∧ (who = .worker n .secure → n < s.part.workers → s.onMain = true → exec (.supvSwbeat who n) s = .next (s.clearWatch n))
    ∧ (who ≠ .worker n .secure → exec (.supvSwbeat who n) s = .next (s.dropWrite who))
    ∧ (s.onMain = true → n < 16 → c.world = .secure → s.watchExpired n = true → exec (.secureWatchdogExpiry n) s = .next (s.declareDown n 1))
    ∧ (s.watchExpired n = false → exec (.secureWatchdogExpiry n) s = .next s)
    ∧ (∀ cause, n < s.part.workers → n < 16 → (s.worker n).sw = .up → c.started = true →
        let u := s.declareDown n cause
        (u.worker n).sw = (if s.thirdDown n then .held else .down) ∧ (u.worker n).swCause = cause
          ∧ (u.worker n).downs = s.sys.optime :: (s.worker n).downs ∧ (u.core n).secure.g = []
          ∧ (c.world = .secure → s.hasNormal = true → (u.core n).world = .normal ∧ (u.core n).normal.pc = c.nepc.setWidth 64
              ∧ (c.bySCall = true → (u.core n).normal.greg 1 = 0x501#64))
          ∧ (c.world = .normal → (u.core n).normal = c.normal))
    ∧ (s.onMain = true → (s.worker n).sw = .down →
      (s.hasNormal = true → exec (.secureRestartPending n) s = .next (s.setWorker n { s.worker n with sw := .pending }))
      ∧ (s.hasNormal = false → Completes (.secureRestartPending n) s fun t =>
          (t.worker n).sw = .up ∧ (t.worker n).fresh = true ∧ (t.worker n).restarts = satAdd 8 (s.worker n).restarts 1
            ∧ (t.core n).world = .secure ∧ (t.core n).secure.pc = BitVec.ofNat 64 s.boot.entry1 ∧ (t.core n).irqHeld = true
            ∧ OnlyIn [.zyn, .supv] s t))

/-- R356–R363, R365–R367: the gate accepts the first well-formed batch of a cycle and rejects any other; a supervisor that fails a
check, gives up, misses its batch or is fenced loses control to the one that shadows, and none is in control where that one cannot
take it; the old supervisor's privileged mailboxes are then no longer busy; A reclaims after 1,000 clean cycles; 16 unclean ones fail
the one that shadows; a self-test leads to shadowing, with no cycle counted yet, or to a fence. -/
def Obligations.SupervisorsPassControl : Prop :=
  ∀ (s : State) (b : Bool), s.onMain = true →
    let passes (cause check : Nat) (tgt : Bool) (t : State) : Prop :=
      t.supv.active = tgt ∧ t.supv.noSup = false ∧ t.supv.st tgt = .active ∧ t.supv.switches = satAdd 16 s.supv.switches 1
        ∧ t.supv.lastCause = cause ∧ t.supv.lastTo = tgt ∧ t.supv.lastCheck = check
        ∧ (∀ n, (t.slot n).state ≠ .loading) ∧ t.part = s.part ∧ t.pwr = s.pwr ∧ t.img = s.img ∧ t.bkd = s.bkd
        ∧ t.gate = s.gate ∧ (∀ k, (t.zyn.boxes.find? fun x => x.1 = k).map (fun x => x.2.busy) = some true →
            k / 64 ≠ (if tgt then 16 else 17))
    (∀ d x, s.supv.st b = .active → s.controls b = true → s.supv.firstOfCycle d = some x →
      exec (.batchPresent b d) s = .next (s.acceptBatch x))
    ∧ (∀ d, s.supv.st b = .active → s.controls b = true → s.supv.firstOfCycle d = none →
        exec (.batchPresent b d) s = .next { s with supv := { s.supv with rejected := satAdd 12 s.supv.rejected 1 } })
    ∧ (∀ d x, s.supv.firstOfCycle d = some x → x.csn = s.supv.cycle ∧ x.csn = leAt d 0 8 ∧ s.supv.csn ≠ s.supv.cycle
        ∧ x.count ≤ 60 ∧ x.entries.length = x.count ∧ d.length = 256)
    ∧ (∀ x, (s.acceptBatch x).supv.csn = x.csn ∧ (s.acceptBatch x).supv.deltas = (x :: s.supv.deltas).take 4
        ∧ OnlyIn [.supv, .rcd, .fresh] s (s.acceptBatch x))
    ∧ (∀ d x, s.supv.st false = .shadowing → s.supv.active = true → s.supv.noSup = false → 1000 ≤ s.supv.clean →
        s.supv.firstOfCycle d = some x → x.flags.getLsbD 1 = true → Completes (.batchPresent false d) s fun t =>
          passes 3 0 false t ∧ t.supv.st true = .shadowing ∧ t.supv.csn = x.csn)
    ∧ (∀ d x, s.supv.st (!s.supv.active) = .shadowing → s.supv.firstOfCycle d = some x → x.flags.getLsbD 0 = true →
        Completes (.missedBatchTakeover d) s fun t => passes 2 0 (!s.supv.active) t ∧ t.supv.csn = x.csn)
    ∧ (s.controls b = true → s.supv.st b = .active → s.thirdGiveup b = false →
      (s.supv.st (!b) = .shadowing →
        (∀ check, check ∈ [1, 2, 3, 4] → Completes (.supervisorCheckFailure b check) s fun t =>
            passes 1 check (!b) t ∧ t.supv.st b = .selfTest)
        ∧ Completes (.supvCtlGiveup b) s (fun t => passes 1 5 (!b) t ∧ t.supv.st b = .selfTest)
        ∧ (∀ c, (b, c) ∈ [(false, Instr.supvCtlFenceA (.supervisor (!b)) true), (true, .supvCtlFenceB (.supervisor (!b)) true)] →
            Completes c s fun t => passes 1 5 (!b) t ∧ t.supv.st b = .fenced))
      ∧ (s.supv.st (!b) = .selfTest ∨ s.supv.st (!b) = .fenced → Completes (.supvCtlGiveup b) s fun t =>
          t.supv.noSup = true ∧ t.supv.st b = .selfTest ∧ t.pwr = s.pwr ∧ t.gate = s.gate))
    ∧ (∀ check, s.supv.st b = .shadowing → s.controls b = false → (check ∈ [1, 2, 4] ∨ check = 6 ∧ 16 ≤ s.supv.unclean) →
        exec (.supervisorCheckFailure b check) s = .next { s with supv := s.supv.setSt b .selfTest })
    ∧ (s.supv.st b = .shadowing → s.supv.unclean < 16 → exec (.supervisorCheckFailure b 6) s = .next s)
    ∧ (s.supv.st (!s.supv.active) = .shadowing → ∀ x, (∃ u, (s.acceptBatch x).supv.clean = u ∧ (u = 0 ∨ u = satAdd 16 s.supv.clean 1))
        ∧ ((s.acceptBatch x).supv.clean = 0 → (s.acceptBatch x).supv.unclean = s.supv.unclean + 1)
        ∧ ((s.acceptBatch x).supv.clean ≠ 0 → (s.acceptBatch x).supv.unclean = 0))
    ∧ (s.supv.st b = .selfTest →
      (exec (.supervisorSelftestDone b true) s = .next { s with supv := s.supv.setSt b .shadowing }
        ∧ (s.supv.setSt b .shadowing).clean = 0 ∧ (s.supv.setSt b .shadowing).unclean = 0)
      ∧ Completes (.supervisorSelftestDone b false) s (fun t => t.supv.st b = .fenced ∧ t.sys.mode ≠ .service))
    ∧ (∀ c, (b, c) ∈ [(false, Instr.supvCtlFenceA (.supervisor (!b)) false), (true, .supvCtlFenceB (.supervisor (!b)) false)] →
        s.supv.st b = .fenced → s.supv.held b = false → Completes c s fun t => t.supv.st b = .selfTest)

/-! ## Memories and gates (file 13) -/

/-- R372, R376–R383, R394, R395: check bits correct one inverted bit of a byte and detect two; a MEM_INIT fill clears the pages that
its requester may write; the scrubber rewrites the corrected bytes of a word; a tested region keeps its contents; the March engine
refuses what it may not test and leaves zeros, or the bank as it was; ECC test mode stores and reads a word as it stands; an
integrity failure on the interconnect reaches the core that read. -/
def Obligations.MemoriesAndTheirAgents : Prop :=
  (∀ (b : Byte) (i j : Nat), i < 8 → j < 8 →
    eccOf (checkBits b ^^^ checkBits (b ^^^ (1#8 <<< i))) = .corrected (1#8 <<< i)
      ∧ (i < 5 → eccOf (1#5 <<< i) = .corrected 0)
      ∧ (i ≠ j → eccOf (checkBits b ^^^ checkBits (b ^^^ (1#8 <<< i) ^^^ (1#8 <<< j))) = .uncorrectable)
      ∧ (j < 5 → eccOf (checkBits b ^^^ (1#5 <<< j) ^^^ checkBits (b ^^^ (1#8 <<< i))) = .uncorrectable))
  ∧ ∀ (s : State) (who : Initiator),
    (∀ v : W32, s.secureOrControl who = true → s.mem.initRun = none → v.getLsbD 31 = true → 1 ≤ v.toNat % 16384 →
      v.toNat % 16384 ≤ 10240 → exec (.memInit who v) s = .next { s with mem := { s.mem with
        initPages := v.toNat % 16384, initRun := some { who := who, base := s.mem.initBase, pages := v.toNat % 16384 } } })
    ∧ (∀ r b, s.mem.initRun = some r → r.who = .supervisor b → r.base % 4096 = 0 → s.gate.upset = [] → Completes .memInitDone s fun t =>
        (∀ y, classOf y = some 1 → r.base ≤ y → y < r.base + 4096 * r.pages → t.mem.readByte y = 0 ∧ SMap.get 0 t.mem.chk y = 0)
          ∧ (∀ y, y < r.base ∨ r.base + 4096 * r.pages ≤ y → t.mem.readByte y = s.mem.readByte y)
          ∧ t.mem.initRun = none ∧ (r.base = 0x20000000 → r.pages = 10240 → t.mem.init.getLsbD 1 = true) ∧ OnlyIn [.mem] s t)
    ∧ (∀ n w p, s.mem.initRun = some { who := .worker n w, base := p, pages := 1 } → classOf p = some 1 → s.gate.upset = [] →
        s.pageDenial (.core w (s.coreColour n w)) ((pageOf p).getD 0) true ≠ 0 → Completes .memInitDone s fun t =>
          t.mem.bytes = s.mem.bytes ∧ t.gate.dcount = satAdd 32 s.gate.dcount 1 ∧ t.gate.dlogAddr = p
            ∧ OnlyIn [.mem, .gate, .rcd] s t)
    ∧ (∀ bank base size, bankRange bank = some (base, size) → bankClass bank = some 1 → s.onMain = true →
        s.mem.scrubEn.getLsbD 1 = true → s.mem.ecctEn = false → classOf (s.mem.scrubWord bank base) = some 1 →
        let w := s.mem.scrubWord bank base
        Completes (.scrubVisit bank) s fun t =>
          (∀ i x, i < 8 → eccOf (SMap.get 0 s.mem.chk (w + i)) = .corrected x →
            t.mem.readByte (w + i) = s.mem.readByte (w + i) ^^^ x ∧ SMap.get 0 t.mem.chk (w + i) = 0)
          ∧ (∀ y, y < w ∨ w + 8 ≤ y → t.mem.readByte y = s.mem.readByte y)
          ∧ (t.mem.cls 1).rewritten = satAdd 16 (s.mem.cls 1).rewritten (s.mem.badSingles w 8) ∧ OnlyIn [.mem, .rcd, .fresh] s t)
    ∧ (∀ k, s.onMain = true → k < 7 → s.mem.scrubEn.getLsbD k = true → (s.mem.cls k).forced = false →
        Completes (.scrubForce k) s fun t => (t.mem.cls k).forced = true
          ∧ (t.mem.cls k).forcedLaps = satAdd 15 (s.mem.cls k).forcedLaps 1 ∧ t.mem.bytes = s.mem.bytes ∧ OnlyIn [.mem] s t)
    ∧ (∀ y pass, s.testsRegion y = true → s.mem.testing = [] →
        Completes (.regionTest y false pass) s (fun t => t.mem.testing = [y] ∧ t.mem.bytes = s.mem.bytes
          ∧ t.mem.restarts = satAdd 16 s.mem.restarts 1 ∧ OnlyIn [.mem] s t)
        ∧ Completes (.regionTest y true true) s (fun t => t.mem.testing = [] ∧ t.mem.bytes = s.mem.bytes
          ∧ t.mem.fails = s.mem.fails ∧ OnlyIn [.mem] s t)
        ∧ Completes (.regionTest y true false) s (fun t => t.mem.testing = []
          ∧ t.mem.fails = satAdd 8 s.mem.fails 1 ∧ t.mem.elogAddr = y - y % 8
          ∧ (classOf y = some 1 → (s.alarmCfg 0x805).cls < 2 → t.mem.bytes = s.mem.bytes))
        ∧ (s.mem.forcedTests.contains y = false → exec (.regionTestForce y) s =
            .next { s with mem := { s.mem with forcedTests := y :: s.mem.forcedTests } }))
    ∧ (∀ v : W32, s.inControl who = true → s.mem.march = none → v.getLsbD 11 = true →
        (s.marchBarred (v.toNat % 1024) = false → Completes (.marchStart who v) s fun t =>
          t.mem.march = some { bank := v.toNat % 1024, preserve := v.getLsbD 10 } ∧ t.mem.marchRefused = false ∧ OnlyIn [.mem] s t)
        ∧ (s.marchBarred (v.toNat % 1024) = true → Completes (.marchStart who v) s fun t =>
          t.mem.march = none ∧ t.mem.marchRefused = true ∧ OnlyIn [.mem] s t))
    ∧ (∀ r base size pass k, s.mem.march = some r → bankRange r.bank = some (base, size) →
        Completes (.marchDone pass k) s fun t =>
          t.mem.march = none ∧ t.mem.marchPass = pass ∧ (r.preserve = true → t.mem.bytes = s.mem.bytes)
            ∧ (r.preserve = true → pass = true → t.rcd = s.rcd)
            ∧ (pass = false → t.mem.failWord = k % 65536 ∧ t.mem.elogAddr = base + 8 * (k % 65536) - (base + 8 * (k % 65536)) % 8)
            ∧ (r.preserve = false → (∀ y, base ≤ y → y < base + size → t.mem.readByte y = 0)
                ∧ (∀ y, y < base ∨ base + size ≤ y → t.mem.readByte y = s.mem.readByte y))
            ∧ OnlyIn [.mem, .rcd] s t)
    ∧ (∀ v : W32, s.inControl who = true →
        (ecctAllowed who (v &&& 0xFFFFFFF8#32).toNat = true → exec (.eccTestCtl who v) s =
          .next { s with mem := { s.mem with ecctEn := v.getLsbD 0, ecctAddr := (v &&& 0xFFFFFFF8#32).toNat } })
        ∧ (ecctAllowed who (v &&& 0xFFFFFFF8#32).toNat = false → exec (.eccTestCtl who v) s =
          .next { s with mem := { s.mem with ecctEn := false } }))
    ∧ (s.inControl who = true → s.mem.ecctEn = true →
        Completes (.eccTestWrite who) s (fun t => OnlyIn [.mem] s t
          ∧ (∀ y, y < s.mem.ecctAddr ∨ s.mem.ecctAddr + 8 ≤ y → t.mem.readByte y = s.mem.readByte y)
          ∧ Completes (.eccTestRead who) t fun u =>
              u.mem.ecctData = s.mem.ecctData ∧ u.mem.ecctChk = s.mem.ecctChk ∧ u.mem.bytes = t.mem.bytes ∧ OnlyIn [.mem] t u))
    ∧ (∀ v : W32, s.secureOrControl who = true → Completes (.conflictClear who v) s fun t =>
        (∀ k, SMap.get 0 t.mem.conf k = if v.getLsbD 9 then 0
          else if v.getLsbD 8 then (if k / 8 = v.toNat % 32 then 0 else SMap.get 0 s.mem.conf k)
          else if k = 8 * (v.toNat % 32) + v.toNat / 32 % 8 then 0 else SMap.get 0 s.mem.conf k)
        ∧ t.mem.bytes = s.mem.bytes ∧ OnlyIn [.mem] s t)
    ∧ (∀ m y, s.onMain = true → m < 16 → (s.core m).started = true → (s.core m).cur.halted = false →
        (s.core m).cur.intrap = false → Completes (.transactionIntegrityFailure m y) s fun t =>
          t.mem.elogAddr = y - y % 8 ∧ (t.core m).cur.tcause = 0x07 ∧ (t.core m).cur.intrap = true
            ∧ (t.core m).cur.taddr = BitVec.ofNat 32 y
            ∧ ((s.alarmCfg 0x806).cls < 2 → t.mem.bytes = s.mem.bytes))

/-- R384, R385, R388, R391–R393, R396: a rule write sets the colour and tag of its pages and no other, or one grant, advances the gate
epoch and is busy until it has completed, while a second one waits for it; a refused one changes nothing. A core reaches a page whose tag permits its world and whose
colour is its own or granted to it; an entry compared that differs from its inverted copy denies every access with reason 5, counts in
GATE_SHADOW and raises the inverted-shadow alarm; a denied access is counted and logged. -/
def Obligations.RulesOfTheGates : Prop :=
  ∀ (s : State) (who : Initiator), s.inControl who = true →
    (∀ v : W32, v.getLsbD 10 = true →
      let x : PageTag := { colour := v.extractLsb' 0 8, tag := v.extractLsb' 8 2 }
      let b := s.gate.pbase
      (s.gate.busy = false → s.psetRefused b s.gate.pcount x = false → Completes (.gatePset who v) s fun t =>
        (∀ p, b ≤ p → p < b + s.gate.pcount → t.pageTag p = x)
          ∧ (∀ p, p < b ∨ b + s.gate.pcount ≤ p → t.pageTag p = s.pageTag p)
          ∧ t.gate.epoch = wrapAdd 32 s.gate.epoch 1 ∧ t.gate.busy = true ∧ t.gate.refused = false
          ∧ t.gate.grants = s.gate.grants ∧ t.gate.upset = s.gate.upset.filter (fun e =>
              e != GateEntry.epoch && !GateEntry.within b s.gate.pcount e) ∧ OnlyIn [.gate] s t)
      ∧ (s.gate.busy = false → s.psetRefused b s.gate.pcount x = true → Completes (.gatePset who v) s fun t =>
        (∀ p, t.pageTag p = s.pageTag p) ∧ t.gate.refused = true ∧ t.gate.epoch = s.gate.epoch ∧ OnlyIn [.gate] s t)
      ∧ (s.gate.busy = true → Completes (.gatePset who v) s fun t =>
        (∀ p, t.pageTag p = s.pageTag p) ∧ t.gate.epoch = s.gate.epoch ∧ t.gate.busy = true
          ∧ t.gate.queued = s.gate.queued ++ [.pages b s.gate.pcount x] ∧ OnlyIn [.gate] s t)
      ∧ (pageCount < b + s.gate.pcount ∨ s.gate.pcount = 0 ∨ x.colour = 0xFF#8 → s.psetRefused b s.gate.pcount x = true))
    ∧ (∀ (v : W32) (g : Grant), v.getLsbD 19 = true → g.from_ = v.toNat % 256 → g.tgt = v.toNat / 256 % 256 →
        g.read = v.getLsbD 16 → g.write = v.getLsbD 17 → g.valid = v.getLsbD 18 →
        (s.gate.busy = false → Completes (.gateGset who v) s fun t =>
          SMap.get Grant.none t.gate.grants s.gate.gsel = g
          ∧ (∀ k, k ≠ s.gate.gsel → SMap.get Grant.none t.gate.grants k = SMap.get Grant.none s.gate.grants k)
          ∧ t.gate.epoch = wrapAdd 32 s.gate.epoch 1 ∧ t.gate.busy = true ∧ t.gate.pages = s.gate.pages ∧ OnlyIn [.gate] s t)
        ∧ (s.gate.busy = true → Completes (.gateGset who v) s fun t =>
          t.gate.grants = s.gate.grants ∧ t.gate.queued = s.gate.queued ++ [.grant s.gate.gsel v] ∧ OnlyIn [.gate] s t))
    ∧ (s.gate.busy = true → s.gate.queued = [] →
        exec .ruleWriteComplete s = .next { s with gate := { s.gate with busy := false } })
    ∧ (∀ b n x l, s.gate.busy = true → s.gate.queued = .pages b n x :: l → s.psetRefused b n x = false →
        Completes .ruleWriteComplete s fun t => t.gate.busy = true ∧ t.gate.queued = l ∧ t.gate.epoch = wrapAdd 32 s.gate.epoch 1
          ∧ (∀ p, b ≤ p → p < b + n → t.pageTag p = x) ∧ (∀ p, p < b ∨ b + n ≤ p → t.pageTag p = s.pageTag p) ∧ OnlyIn [.gate] s t)
    ∧ (∀ p e, s.gate.mismatch p = some e → ∀ m wr, s.pageDenial m p wr = 5)
    ∧ (∀ p e, e ∈ s.gate.upset → (∀ q, e = .page q → q = p) → (s.gate.mismatch p).isSome = true)
    ∧ (∀ w k p wr, s.gate.mismatch p = none → (s.pageDenial (.core w k) p wr = 0 ↔
        (w = .secure ∨ (s.pageTag p).tag = 0#2 ∨ ((s.pageTag p).tag = 2#2 ∧ wr = false))
          ∧ (k = (s.pageTag p).colour.toNat ∨ s.granted k (s.pageTag p).colour.toNat wr = true)))
    ∧ (∀ p wr, s.gate.mismatch p = none → s.pageDenial .supervisor p wr = 0 ∧ ∀ w, (s.pageTag p).tag = 3#2 → s.pageDenial (.debug w) p wr = 2)
    ∧ (∀ n w wr a reason, reason ≠ 5 → let t := s.noteDenial n w wr false a reason
        t.gate.dcount = satAdd 32 s.gate.dcount 1 ∧ t.gate.dlogAddr = a ∧ t.gate.pages = s.gate.pages ∧ OnlyIn [.gate, .rcd] s t)
    ∧ (∀ n w wr a, let t := s.noteDenial n w wr false a 5
        t.gate.dcount = satAdd 32 s.gate.dcount 1 ∧ t.gate.dlogAddr = a ∧ t.gate.shadow = satAdd 16 s.gate.shadow 1
          ∧ ((s.monitor 0x0900).standing = none → (s.monitor 0x0900).suppressed = false →
              (t.monitor 0x0900).standing = some (s.alarmCfg 0x0900).cls))

/-! ## Lace and the tamper log (file 14) -/

/-- R398–R420: the monitors. A reading beyond its limit raises its monitor's alarm, one within ends the condition; the class of the
alarm says whether keys are erased and the device locked; a mesh channel is scanned twice before its alarm, a pin sampled twice; an
alarm of class A0 or A1 ends after its hold time; a stimulus suppresses its monitor's response and raises its alarm where it fails;
the tamper log takes its queued events in a chain and ends in OVERFLOW. -/
def Obligations.AlarmsAndTheTamperLog : Prop :=
  ∀ s : State,
    (∀ (cell level : Nat), s.onMain = true → cell < 2304 →
      let mon := 0x300 + 6 * (cell / 384) + cell % 48 / 8
      let others := s.lace.lit.filter (· != cell)
      (s.lace.thresh < level → exec (.lightDetect cell level) s =
        .next ({ s with lace := { s.lace with lit := cell :: others } }.raiseAlarm mon (cell * 65536 + level % 65536) false))
      ∧ (level ≤ s.lace.thresh → let t := { s with lace := { s.lace with lit := others } }
        exec (.lightDetect cell level) s = .next (if ∃ x ∈ others, lightSector x = lightSector cell then t else t.calm mon)))
    ∧ (∀ (rail mv uv isl period g : Nat) (out : Bool), s.onMain = true → rail < 8 → s.islandPresent isl = true → g < 16 →
      ∀ x ∈ ([(.railDetect rail mv uv, 0x501 + rail, decide (100 * (1000 * mv + uv) < 92000 * railNominal rail)
              || decide (108000 * railNominal rail < 100 * (1000 * mv + uv)),
            mv % 65536),
          (.frequencyDetect isl period out, 0x600 + isl, clockOff isl period || out, period % 65536), (.glitchDetect g, 0x700 + g, true, 0)] :
          List (Instr × Nat × Bool × Nat)),
        exec x.1 s = .next (if x.2.2.1 then s.raiseAlarm x.2.1 x.2.2.2 false else s.calm x.2.1))
    ∧ (∀ k x, s.onMain = true → k < 32 →
        (x < s.lace.tlimLo ∨ s.lace.tlimHi < x → exec (.junctionTempDetect k x) s =
          .next ((s.senseJunction k x).raiseAlarm (0x400 + k) (x % 1024) false))
        ∧ (s.lace.tlimLo ≤ x → x ≤ s.lace.tlimHi → exec (.junctionTempDetect k x) s =
          .next ((s.senseJunction k x).calm (0x400 + k))))
    ∧ (∀ mv, s.onMain = true → let t := { s with pwr := { s.pwr with vinMv := mv % 65536 } }
        (13800 < mv → exec (.vinOvervoltage mv) s = .next (t.raiseAlarm 0x500 (mv % 65536) false))
        ∧ (mv ≤ 13800 → exec (.vinOvervoltage mv) s = .next (t.calm 0x500)))
    ∧ (∀ mon data, s.onMain = true → (s.monitor mon).standing = none → (s.monitor mon).suppressed = false →
        let cls := (s.alarmCfg mon).cls
        let u := s.raiseAlarm mon data false
        (u.monitor mon).standing = some cls ∧ (u.monitor mon).raised = satAdd 16 (s.monitor mon).raised 1
          ∧ u.lace.last = mon ∧ u.lace.alarms = satAdd 16 s.lace.alarms 1
          ∧ (cls < 2 → OnlyIn [.lace, .bkd, .rcd, .sys] s u ∧ u.sys.mode = s.sys.mode ∧ u.bkd.l0 = s.bkd.l0)
          ∧ (cls = 2 ∨ cls = 3 → s.lifeCycle ≠ 3 → s.serving = true →
              u.sys.mode = .locked ∧ u.sys.cause = 7 ∧ u.dmk.locked = true ∧ u.bkd.lockKept = true)
          ∧ (cls = 3 → u.bkd.l0 = none ∧ u.bkd.erased = true ∧ u.dmk.keyc = []))
    ∧ (∀ mon data, (s.monitor mon).standing ≠ none → mon < 0x700 → s.raiseAlarm mon data false =
        s.setMonitor mon { s.monitor mon with condition := true })
    ∧ (∀ ch samples b l, s.onMain = true → ch < 448 → (s.channel ch).baseline = some b → (s.channel ch).armed = true →
        s.lace.stim ≠ some ch → fingerprint samples = some l →
        let x := deviation b.samples l
        (b.threshold ≤ x.1 → Completes (.meshScan ch samples) s fun t => (t.channel ch).confirm = true
          ∧ (t.channel ch).d = x.1 ∧ (t.channel ch).sample = x.2 ∧ t.lace.monitors = s.lace.monitors ∧ OnlyIn [.lace] s t)
        ∧ (x.1 < b.threshold → Completes (.meshScan ch samples) s fun t => (t.channel ch).confirm = false
          ∧ (t.channel ch).d = x.1 ∧ (t.monitor ch).condition = false ∧ OnlyIn [.lace] s t)
        ∧ ((s.channel ch).confirm = true → b.threshold ≤ x.1 → ∃ u, OnlyIn [.lace] s u
          ∧ (u.channel ch).kind = meshKind b.samples l ∧ (u.channel ch).confirm = false
          ∧ exec (.meshConfirmScan ch samples) s = .next (u.raiseAlarm ch
              (meshKind b.samples l * 2 ^ 26 + x.1 * 2 ^ 16 + b.threshold * 2 ^ 6 + x.2) false)))
    ∧ (∀ pin (level : Bool), pin < 8 → s.bkd.pinMode pin = 1 ∨ s.bkd.pinMode pin = 2 →
        let hit := decide (level = decide (s.bkd.pinMode pin = 2))
        (hit = true → s.bkd.intrPrev.getLsbD pin = false → Completes (.intrusionPinSample pin level) s fun t =>
          t.bkd.intrPrev.getLsbD pin = true ∧ t.lace = s.lace ∧ OnlyIn [.bkd] s t)
        ∧ (hit = true → s.bkd.intrPrev.getLsbD pin = true → ∃ u, OnlyIn [.bkd] s u ∧ u.bkd.intrCond.getLsbD pin = true
          ∧ exec (.intrusionPinSample pin level) s = .next (u.alarm (0x200 + pin) 0))
        ∧ (hit = false → ∃ u, OnlyIn [.bkd] s u ∧ u.bkd.intrCond.getLsbD pin = false
          ∧ exec (.intrusionPinSample pin level) s = .next (u.calm (0x200 + pin))))
    ∧ (∀ k, k < 4 → s.bkd.pinMode (2 * k) = 3 →
        (s.bkd.intrPrev.getLsbD (2 * k + 1) = true → ∃ u, OnlyIn [.bkd] s u
          ∧ exec (.dynamicPairTick k false) s = .next (u.alarm (0x200 + (2 * k + 1)) 0))
        ∧ (∃ u, OnlyIn [.bkd] s u ∧ exec (.dynamicPairTick k true) s = .next (u.calm (0x200 + (2 * k + 1)))))
    ∧ (∀ v x, 2200 ≤ v → v ≤ 3900 → 14 ≤ x → x ≤ 194 → Completes (.backupMonitorCheck v x) s fun t =>
        t.bkd.vbatMv = v ∧ t.bkd.temp = x ∧ OnlyIn [.lace, .bkd] s t)
    ∧ (∀ v x, v < 2200 ∨ 3900 < v → 14 ≤ x → x ≤ 194 → ∃ u, OnlyIn [.lace, .bkd] s u
        ∧ exec (.backupMonitorCheck v x) s = .next (u.alarm 0x211 (v % 65536)))
    ∧ (∀ mon k, s.onMain = true → (s.monitor mon).standing = some k → (s.monitor mon).condition = false →
        (k < 2 → Completes (.alarmHoldExpiry mon) s fun t => (t.monitor mon).standing = none ∧ OnlyIn [.lace] s t)
        ∧ (2 ≤ k → exec (.alarmHoldExpiry mon) s = .next s))
    ∧ (∀ mon, s.stimulable mon = true →
        (s.lace.periodS ≠ 0 → s.lace.stim = none → Completes (.stimulusDue mon) s fun t =>
          t.lace.stim = some mon ∧ (t.monitor mon).suppressed = true ∧ OnlyIn [.lace] s t)
        ∧ (∀ y, s.lace.periodS ≠ 0 → s.lace.stim = some y → s.lace.stimDue.contains mon = false →
          exec (.stimulusDue mon) s = .next { s with lace := { s.lace with stimDue := s.lace.stimDue ++ [mon] } })
        ∧ (∀ who (v : W32), s.inControl who = true → v.getLsbD 16 = true → v.toNat % 65536 = mon → s.lace.stim = none →
          Completes (.stimulusRequest who v) s fun t =>
            t.lace.stim = some mon ∧ (t.monitor mon).suppressed = true ∧ OnlyIn [.lace] s t))
    ∧ (∀ mon, s.lace.stim = some mon → s.lace.stimAsked = none → s.lace.stimDue = [] →
        ((s.monitor mon).condition = false → Completes (.stimulusEnd true) s fun t =>
          t.lace.stim = none ∧ (t.monitor mon).suppressed = false ∧ t.lace.stPass = true
            ∧ t.lace.stRuns = satAdd 14 s.lace.stRuns 1 ∧ OnlyIn [.lace, .fresh] s t)
        ∧ ((s.monitor mon).standing = none → (s.alarmCfg mon).cls < 2 → Completes (.stimulusEnd false) s fun t =>
          t.lace.stim = none ∧ (t.monitor mon).standing = some (s.alarmCfg mon).cls
            ∧ t.lace.stimFails = satAdd 16 s.lace.stimFails 1 ∧ t.lace.lastStim = true ∧ OnlyIn [.lace, .bkd, .rcd, .sys, .fresh] s t))
    ∧ (∀ e rest, s.bkd.logQueue = e :: rest → s.bkd.merged = 0 →
        let n := s.bkd.log.length
        (n < 2047 → Completes .tamperLogWrite s fun t => ∃ x : LogEntry, t.bkd.log = s.bkd.log ++ [x] ∧ x.ts = s.bkd.ts
          ∧ x.code = e.code ∧ x.param = e.param
          ∧ leBytes 4 x.chain.toNat = (beBytes 32 (Crypto.sha256 (s.bkd.before n ++ x.bytes.take 12)).toNat).take 4
          ∧ t.bkd.logQueue = rest ∧ OnlyIn [.bkd] s t)
        ∧ (n = 2047 → s.lifeCycle = 3 → Completes .tamperLogWrite s fun t => t.bkd.log.length = 2048
          ∧ t.bkd.log.take 2047 = s.bkd.log ∧ t.bkd.log[2047]?.map (·.code) = some 0x0AFF ∧ OnlyIn [.bkd] s t)
        ∧ (n = 2047 → s.lifeCycle ≠ 3 → Completes .tamperLogWrite s fun t => t.bkd.log.length = 2048 ∧ t.bkd.lockKept = true))
    ∧ (∀ r : Req, Turn s r 0x0621 → s.img.force.recorder.auditNode = 0 → r.desc.par 2 2 ≠ 0 →
        r.desc.par 0 2 + r.desc.par 2 2 ≤ s.bkd.log.length → ∃ h : Bytes, h.length = 64
          ∧ Answers (.tamperExport r) s r s s.bkd.log.length
              (h ++ ((s.bkd.log.drop (r.desc.par 0 2)).take (r.desc.par 2 2)).flatMap (·.bytes)))
    ∧ (∀ (r : Req) (b : Baseline), Turn s r 0x0622 → r.desc.par 0 2 < 448 →
        (s.channel (r.desc.par 0 2)).baseline = some b →
        let ch := r.desc.par 0 2
        let c := s.channel ch
        Answers (.meshQuery r) s r s 0 (leBytes 1 (s.channelState ch) ++ leBytes 1 (s.alarmCfg ch).cls ++ zeros 2 ++ leBytes 2 c.d
          ++ leBytes 2 b.threshold ++ leBytes 2 c.maxd ++ leBytes 1 c.maxSample ++ zeros 5))
    ∧ (∀ r : Req, Turn s r 0x0622 → r.desc.par 0 2 < 448 → (s.channel (r.desc.par 0 2)).baseline = none →
        Refuses (.meshQuery r) s r 0x0204 (r.desc.par 0 2) 0)
    ∧ (∀ who (v : BitVec 16), s.inControl who = true →
        (s.sys.mode = .ceremony → pairsOk v = true → v ≠ s.bkd.intrcfg → Completes (.bkdIntrcfgWrite who v) s fun t =>
          t.bkd.intrcfg = v ∧ OnlyIn [.lace, .bkd] s t)
        ∧ (s.sys.mode ≠ .ceremony ∨ pairsOk v = false → exec (.bkdIntrcfgWrite who v) s = .next (s.offer 0x1201 v.toNat 0 0)))

/-! ## Custody and debug (file 15) -/

/-- R431–R438, R47: the challenge; a ceremony opens on a statement that a quorum signs, runs the step it names, and closes; a founding
statement registers its custodians; what reads the registry and the ceremony. -/
def Obligations.CeremoniesOpenAndClose : Prop :=
  ∀ (s : State) (r : Req),
    let b := r.bytes
    let steps := leAt b 7 1
    let stmt := b.take (64 + 64 * steps)
    let n := r.desc.par 0 1
    (∀ w u, Turn s r 0x0801 → s.takeWords 2 = some (w, u) → ∃ v, Answers (.cerChallenge r) s r v 0 (wordBytes w)
      ∧ v.lcs.challenge = some { bytes := wordBytes w, issued := s.sys.optime } ∧ OnlyIn [.lcs, .ent] s v)
    ∧ (∀ c, s.lcs.challenge = some c →
        (c.issued + 600000 ≤ s.sys.optime → exec .ceremonyChallengeLapse s =
          .next { s with lcs := { s.lcs with challenge := none } })
        ∧ (s.sys.optime < c.issued + 600000 → exec .ceremonyChallengeLapse s = .next s))
    ∧ (∀ es, Turn s r 0x0802 → statementOk b = true → 2 ≤ n → n ≤ 8 → cerSigs b n (64 + 64 * steps) = some es →
        s.cerChallenge = some (slice b 32 32) → slice b 16 16 = bytes128 Config.deviceIdentity → leAt b 6 1 = 0 →
        s.sys.mode ≠ .locked → s.lcs.ceremony = none →
        let l := s.counted (sha384Bytes stmt) es
        (max 2 s.bkd.quorum ≤ l.length → ∃ u c, Answers (.cerOpen r) s r u l.length [] ∧ u.lcs.ceremony = some c
          ∧ c.steps = (List.range steps).map (cerStepAt b) ∧ c.next = 0 ∧ c.running = none ∧ c.unlock = false
          ∧ c.timeoutS = leAt b 8 2 ∧ c.opened = s.sys.optime ∧ c.statement = stmt ∧ u.sys.mode = .ceremony
          ∧ u.lcs.challenge = none)
        ∧ (l.length < max 2 s.bkd.quorum → Refuses (.cerOpen r) s r 0x0A01 l.length 0xA3))
    ∧ (Turn s r 0x0802 → statementOk b = false → Refuses (.cerOpen r) s r 0x0301 0 0xA1)
    ∧ (∀ c x, Turn s r 0x0803 → s.lcs.ceremony = some c → c.running = none → c.steps[c.next]? = some x →
        (n ≠ c.next → Refuses (.cerStep r) s r 0x0301 0 0xA5)
        ∧ (n = c.next → b.length ≠ x.dataLen → Refuses (.cerStep r) s r 0x0301 0 0xA6)
        ∧ (n = c.next → b.length = x.dataLen → (x.dataLen ≠ 0 → sha384Bytes b = x.dataHash) →
            exec (.cerStep r) s = .next (s.setCeremony { c with running := some { req := r, data := b } })))
    ∧ (Turn s r 0x0804 → s.lcs.ceremony = none → Answers (.cerClose r) s r s 0 [])
    ∧ (∀ c, Turn s r 0x0804 → s.lcs.ceremony = some c → c.running = none → s.sys.mode = .ceremony →
        let u := (s.answer r 0 []).closeCeremony
        exec (.cerClose r) s = .next u ∧ u.lcs.ceremony = none ∧ u.bkd.l0 = s.bkd.l0
          ∧ u.sys.mode = (if c.unlock then .locked else if s.fenceStands then .degraded else .service)
          ∧ (c.unlock = true → u.bkd.lockKept = true ∧ u.dmk.locked = true ∧ u.img.session = none ∧ u.lcs.nni = false
              ∧ u.lcs.ninv = false ∧ u.lcs.sni = false ∧ u.lcs.sinv = false))
    ∧ (Turn s r 0x0805 → Answers (.cerQuery r) s r s 0 (leBytes 4 s.lcsCer ++ leBytes 4 s.lcsReg ++ leBytes 4 s.lcsRegMask ++ zeros 4))
    ∧ (∀ c, s.lcs.ceremony = some c →
        (c.opened + 1000 * c.timeoutS ≤ s.sys.optime → exec .ceremonyTimeout s = .next s.closeCeremony
          ∧ s.closeCeremony.lcs.ceremony = none)
        ∧ (s.sys.optime < c.opened + 1000 * c.timeoutS → exec .ceremonyTimeout s = .next s))
    ∧ (∀ es c, let m := r.desc.par 0 1
        let k := r.desc.par 1 1
        Turn s r 0x0806 → s.custodianCount = 0 → s.lifeCycle ≠ 3 → 2 ≤ m → m ≤ 8 → m ≤ k → k ≤ 16 → cerSigs b k 0 = some es →
        s.cerChallenge = some c → (es.map (·.cust)).Nodup →
        (∀ e ∈ es, e.signs (sha384Bytes (foundingHeader c ++ es.flatMap fun e => sha384Bytes e.ec)) = true) →
        ∃ u, Answers (.custFound r) s r u 0 [] ∧ u.bkd.quorum = m ∧ u.lcs.challenge = none
          ∧ u.bkd.regChanges = wrapAdd 32 s.bkd.regChanges 1 ∧ OnlyIn [.bkd, .lcs] s u
          ∧ ∀ e ∈ es, (u.custodian e.cust).active = true ∧ (u.custodian e.cust).keyHash = sha384Bytes e.ec)
    ∧ (Turn s r 0x0806 → s.custodianCount ≠ 0 → Refuses (.custFound r) s r 0x0301 0 0xA8)
    ∧ (Turn s r 0x0807 → ∃ out : Bytes, Answers (.registryRead r) s r s 0 out ∧ out.length = 16 + 2056 * s.custodianCount
        ∧ out.take 2 = leBytes 1 s.custodianCount ++ leBytes 1 s.bkd.quorum)

/-- R401, R404, R413, R426, R437, R438: what the steps of a ceremony do once they run. A step whose precondition fails changes nothing
and may be submitted again; the one that completes advances the ceremony, and the last one closes it. -/
def Obligations.StepsOfCeremonies : Prop :=
  ∀ (s : State) (c : Ceremony) (st : CerStep) (x : CerRun),
    let fails (i : Instr) (reason : Nat) : Prop := exec i s = .next (s.failStep c x reason)
    let does (i : Instr) (info : Nat) (p : State → Prop) : Prop := ∃ u : State, exec i s = .next (u.finishStep c st x info) ∧ p u
    (∀ info, (c.next + 1 < c.steps.length → (s.finishStep c st x info).lcs.ceremony =
        some { c with running := none, next := c.next + 1 })
      ∧ (c.next + 1 = c.steps.length → (s.finishStep c st x info).lcs.ceremony = none))
    ∧ (s.stepNow 0x01 = some (c, st, x) →
      (s.lockingCondition = true ∨ s.bkd.logFull = true → fails .unlock 0xAA)
      ∧ (s.lockingCondition = false → s.bkd.logFull = false → ∃ u : State, exec .unlock s =
          .next (u.finishStep { c with unlock := false } st x 0) ∧ u.dmk.locked = s.lcs.dmkHold ∧ u.bkd.lockKept = false
          ∧ u.bkd.pendLock = false ∧ u.sys.deferredLock = false ∧ OnlyIn [.sys, .dmk, .lace, .bkd] s u))
    ∧ (s.stepNow 0x02 = some (c, st, x) →
      (s.lifeCycle ≠ 2 → fails .endOfLife 0xA7)
      ∧ (s.lifeCycle = 2 → s.sys.mode = .ceremony → Completes .endOfLife s fun t => t.lcs.restartPending = true
          ∧ t.lcs.otp = s.lcs.otp.program 4 ∧ t.bkd.l0 = none ∧ t.sys.mode = .locked ∧ t.lcs.ceremony = none))
    ∧ (s.stepNow 0x03 = some (c, st, x) →
      (s.lifeCycle ≠ 2 ∨ s.bkd.l0 ≠ none → fails .rootGen 0xA7)
      ∧ (∀ w v, s.lifeCycle = 2 → s.bkd.l0 = none → s.takeWords 2 = some (w, v) → wordBytes w ≠ zeros 32 →
          does .rootGen 0 fun u => u.bkd.l0 = some (wordBytes w) ∧ u.bkd.erased = false ∧ OnlyIn [.dmk, .ent, .bkd] s u))
    ∧ (s.stepNow 0x04 = some (c, st, x) →
      (newCustodian x = none → fails .custAdd 0xA7)
      ∧ (∀ e, newCustodian x = some e → s.freeCustodian < 16 →
          (s.bkd.custodians.any fun y => y.2.active && decide (y.2.keyHash = sha384Bytes e.ec)) = false →
          e.signs (sha384Bytes c.statement) = true → does .custAdd s.freeCustodian fun u =>
            (u.custodian s.freeCustodian).active = true ∧ (u.custodian s.freeCustodian).keyHash = sha384Bytes e.ec
              ∧ (∀ i, i ≠ s.freeCustodian → u.custodian i = s.custodian i)
              ∧ u.bkd.regChanges = wrapAdd 32 s.bkd.regChanges 1 ∧ OnlyIn [.bkd, .lcs] s u))
    ∧ (s.stepNow 0x05 = some (c, st, x) → (s.custodian st.arg0).active = true →
      (max 2 s.bkd.quorum ≤ s.custodianCount - 1 → does .custRemove 0 fun u => u.custodian st.arg0 = Custodian.none
          ∧ (∀ i, i ≠ st.arg0 → u.custodian i = s.custodian i) ∧ u.bkd.regChanges = wrapAdd 32 s.bkd.regChanges 1
          ∧ OnlyIn [.bkd, .lcs] s u)
      ∧ (s.custodianCount - 1 < max 2 s.bkd.quorum → fails .custRemove 0xA7))
    ∧ (s.stepNow 0x06 = some (c, st, x) →
      (2 ≤ st.arg0 → st.arg0 ≤ 8 → st.arg0 ≤ s.custodianCount → does .quorumSet 0 fun u =>
        u.bkd.quorum = st.arg0 ∧ u.bkd.custodians = s.bkd.custodians
          ∧ u.bkd.regChanges = wrapAdd 32 s.bkd.regChanges 1 ∧ OnlyIn [.bkd] s u)
      ∧ (st.arg0 < 2 ∨ 8 < st.arg0 ∨ s.custodianCount < st.arg0 → fails .quorumSet 0xA7))
    ∧ (s.stepNow 0x07 = some (c, st, x) →
      let en := bitmapChannels (x.data.take 56)
      let wd := bitmapChannels (slice x.data 56 56)
      (s.lace.enrolling = none → x.data.length = 112 → 2 ≤ st.arg0 → st.arg0 ≤ 16 → (en.any (wd.contains ·)) = false →
        Completes .meshEnrol s fun t => t.lace.enrolling = some { enrol := en, withdraw := wd, margin := st.arg0 }
          ∧ t.lace.stim = none ∧ (∀ ch ∈ en, (t.monitor ch).suppressed = true) ∧ OnlyIn [.lace] s t)
      ∧ (s.lace.enrolling = none → x.data.length ≠ 112 → fails .meshEnrol 0xA7)
      ∧ (∀ e ps, s.lace.enrolling = some e → e.enrol.Nodup → (∀ ch ∈ e.enrol, ch ∉ e.withdraw) →
        does (.meshEnrolmentDone ps) 0 fun u => u.lace.enrolling = none ∧ OnlyIn [.lace, .bkd] s u
          ∧ (∀ ch ∈ e.withdraw, u.channel ch = Channel.rest)
          ∧ (∀ ch ∈ e.enrol, (u.monitor ch).suppressed = false
              ∧ u.channel ch = (s.channel ch).enrolWith e.margin (((ps.find? fun p => p.1 == ch).map (·.2)).getD []))))
    ∧ (s.stepNow 0x08 = some (c, st, x) →
      let v := BitVec.ofNat 16 st.arg0
      (pairsOk v = true → does .intrConfig 0 fun u => u.bkd.intrcfg = v ∧ OnlyIn [.lace, .bkd] s u)
      ∧ (pairsOk v = false → fails .intrConfig 0xA7))
    ∧ (∀ k node, s.stepNow 0x0B = some (c, st, x) → k = st.arg0 % 65536 → s.node k = some node → s.ownNode node = true →
        node.limit ≠ 0 → does .ownerMove 0 fun u => u.node k = some { node with owner := st.arg1 % 65536 } ∧ OnlyIn [.dmk] s u)
    ∧ (s.stepNow 0x0D = some (c, st, x) →
      (s.lifeCycle = 2 → s.lcs.otp.ownerBit = false → x.data.length = 97 → does .ownerSet 0 fun u =>
        u.lcs.otp.ownerBit = true ∧ u.lcs.otp.ownerHash = sha384Bytes x.data ∧ u.lcs.otp.marks = s.lcs.otp.marks ∧ OnlyIn [.lcs] s u)
      ∧ (s.lcs.otp.ownerBit = true → fails .ownerSet 0xA7))

/-- R423–R426, R429, R430, R439–R443: a token advances the life cycle, which the ROM completes at the restart; the debug enables; the
access port by life-cycle state and rights, and what a debugger reads, writes, halts and steps. -/
def Obligations.LifeCycleAndDebugPort : Prop :=
  ∀ s : State,
    (∀ r, Turn s r 0x0808 → let k := s.tokenReason r.bytes 1 s.cerChallenge
      (k ≠ 0 → Refuses (.lcAdvance r) s r 0x0301 0 k)
      ∧ (k = 0 → Completes (.lcAdvance r) s fun t => t.lcs.restartPending = true ∧ t.sys.mode = .locked ∧ t.bkd.l0 = none
          ∧ t.lcs.otp = s.lcs.otp.program (2 * (leAt r.bytes 6 1 - 1)) ∧ t.lcs.challenge = none))
    ∧ (∀ tgt ok, s.onMain = true → s.lcs.restartPending = true → s.lcs.otp.interrupted = some tgt →
        Completes (.lifecycleRestart ok) s fun t => t.sys.mode = .boot ∧ t.sys.cause = 11 ∧ t.lifeCycle = tgt ∧ t.bkd.l0 = none
          ∧ t.bkd.custodians = [] ∧ t.sys.lcResumed = true ∧ t.zyn = Zynkel.reset ∧ t.dmk.keyc = [])
    ∧ (∀ ok, s.onMain = true → s.lcs.restartPending = true → Completes (.lifecycleRestart ok) s fun t => t.sys.mode = .boot
        ∧ t.sys.cause = 11 ∧ Volatile { t with mem := Memory.reset })
    ∧ (∀ r, Turn s r 0x0809 → ∃ u, Answers (.debugNormal r) s r u 0 [] ∧ u.lcs.nni = (r.desc.par 0 1).testBit 0
        ∧ u.lcs.ninv = (r.desc.par 0 1).testBit 1 ∧ u.lcs.sni = s.lcs.sni ∧ u.lcs.sinv = s.lcs.sinv ∧ OnlyIn [.lcs, .rcd] s u)
    ∧ (∀ c st x, s.stepNow 0x0C = some (c, st, x) → s.lcs.sinvWait = none → s.lifeCycle = 2 →
        (st.arg0.testBit 1 = true → Completes .debugSecure s fun t => t.dmk.locked = true ∧ t.dmk.keyc = []
          ∧ t.lcs.sinvWait = some (st.arg0.testBit 0) ∧ t.lcs.sinv = s.lcs.sinv
          ∧ t.lcs.sinvBefore = (s.host.admitted.map (·.req)).filter (fun y => decide (y ≠ x.req)) ∧ OnlyIn [.dmk, .lcs] s t)
        ∧ (st.arg0.testBit 1 = false → ∃ u : State, exec .debugSecure s = .next (u.finishStep c st x 0)
          ∧ u.lcs.sni = st.arg0.testBit 0 ∧ u.lcs.sinv = false ∧ u.lcs.nni = s.lcs.nni ∧ OnlyIn [.lcs, .rcd] s u))
    ∧ (∀ c st x sni, s.stepNow 0x0C = some (c, st, x) → s.lcs.sinvWait = some sni →
        (s.workDrained = true → ∃ u : State, exec .debugSecureDrained s = .next (u.finishStep c st x 0) ∧ u.lcs.sinv = true
          ∧ u.lcs.sni = sni ∧ u.lcs.dmkHold = true ∧ u.lcs.sinvWait = none)
        ∧ ((∃ y ∈ s.lcs.sinvBefore, s.isAdmitted y = true ∧ s.searching y = false) →
            exec .debugSecureDrained s = .next s))
    ∧ (∀ who (v : W32), s.inControl who = true → Completes (.lcsDbgenWrite who v) s fun t =>
        t.lcs.nni = v.getLsbD 0 ∧ t.lcs.ninv = v.getLsbD 1
          ∧ t.lcs.sni = (v.getLsbD 2 && (decide (s.sys.mode = .ceremony) || s.lcs.sni))
          ∧ t.lcs.sinv = (v.getLsbD 3 && ((decide (s.sys.mode = .ceremony) && s.dmk.locked) || s.lcs.sinv))
          ∧ OnlyIn [.lcs, .rcd] s t)
    ∧ (s.tapReady = true →
      (Completes .idcode s fun t => t.lcs.tap = .idcode ∧ t.lcs.dapOut = leBytes 4
          (Config.sysStep.toNat % 16 * 2 ^ 28 + 0x0640 * 2 ^ 12 + Config.manufacturer.toNat * 2 + 1) ∧ OnlyIn [.lcs] s t)
      ∧ (Completes .bypass s fun t => t.lcs.tap = .bypass ∧ OnlyIn [.lcs] s t)
      ∧ (∀ v, (s.lifeCycle = 1 → Completes (.samplePreload v) s fun t => t.lcs.boundary = v ∧ t.lcs.tap = .samplePreload
            ∧ t.lcs.dapOut = leBytes 1 s.lcs.boundary.toNat ∧ OnlyIn [.lcs] s t)
          ∧ (s.lifeCycle = 1 → Completes (.extest v) s fun t => t.lcs.boundary = v ∧ t.lcs.tap = .extest ∧ OnlyIn [.lcs] s t)
          ∧ (s.lifeCycle ≠ 1 → Completes (.extest v) s fun t => t.lcs.tap = .bypass ∧ t.lcs.boundary = s.lcs.boundary
            ∧ OnlyIn [.lcs] s t))
      ∧ (s.scanOpen = true → Completes .scan s fun t => Volatile t ∧ t.boot.held = true ∧ t.lcs.scanning = true
          ∧ t.lcs.otp = s.lcs.otp ∧ t.bkd = s.bkd)
      ∧ (s.scanOpen = false → Completes .scan s fun t => t.lcs.tap = .bypass ∧ t.lcs.scanning = s.lcs.scanning ∧ OnlyIn [.lcs] s t)
      ∧ (∀ w u, s.lifeCycle = 1 → s.ent.ready = true → s.takeWords 2 = some (w, u) → Completes .tapChallenge s fun t =>
          t.lcs.portChallenge = some (wordBytes w) ∧ t.lcs.dapOut = wordBytes w ∧ OnlyIn [.lcs, .ent] s t)
      ∧ (∀ tok, s.lifeCycle = 1 → Completes (.tapToken tok) s fun t => t.lcs.portChallenge = none ∧ OnlyIn [.lcs] s t
          ∧ t.lcs.tokenReason = s.tokenReason tok 2 s.lcs.portChallenge
          ∧ (t.lcs.tokenReason = 0 → t.lcs.tokenResult = 1 ∧ t.lcs.rights = s.lcs.rights ||| BitVec.ofNat 4 (leAt tok 7 1))
          ∧ (t.lcs.tokenReason ≠ 0 → t.lcs.tokenResult = 2 ∧ t.lcs.rights = s.lcs.rights)))
    ∧ (∀ ok, s.lcs.scanning = true → s.powered = true → Completes (.scanExit ok) s fun t =>
        t.sys.mode = .boot ∧ t.sys.cause = 1 ∧ t.lcs.scanning = false ∧ t.onMain = true
          ∧ (s.lcs.otp.interrupted = none → t.lcs.otp = s.lcs.otp) ∧ Volatile { t with mem := Memory.reset })
    ∧ (∀ w a size, s.tapReady = true → accessOk a size = true → isRegister a = false → mapped a = true →
        let t := { s.tapSelect .dap true with lcs := { (s.tapSelect .dap true).lcs with attached := true } }
        (s.dapWorld w false = false → exec (.dapMemoryRead w a size) s = .next (s.tapSelect .dap false))
        ∧ (s.dapWorld w false = true → s.debugDenial w a false ≠ 0 → exec (.dapMemoryRead w a size) s =
            .next ((t.noteDenial 31 w false true a (s.debugDenial w a false)).dapAnswer (zeros size)))
        ∧ (s.dapWorld w false = true → s.debugDenial w a false = 0 → classOf a = some 1 →
            (∀ k, k < size → SMap.get 0 s.mem.chk (a + k) = 0) → exec (.dapMemoryRead w a size) s =
            .next (t.dapAnswer (s.mem.read a size)))
        ∧ (∀ b : Bytes, b.length = size → s.dapWorld w true = true →
            (s.debugDenial w a true ≠ 0 → exec (.dapMemoryWrite w a b) s =
              .next (t.noteDenial 31 w true true a (s.debugDenial w a true)))
            ∧ (s.debugDenial w a true = 0 → exec (.dapMemoryWrite w a b) s = .next (t.poke a b))))
    ∧ (∀ n w reg v, s.tapReady = true → s.coreRuns n = true → reg < 69 → n < 16 →
        (s.dapCore n w false = true → Completes (.dapRegisterRead n w reg) s fun t =>
          t.lcs.dapOut = leBytes 8 ((s.core n).dapReg w reg).toNat ∧ t.zyn = s.zyn ∧ OnlyIn [.lcs] s t)
        ∧ (s.debugHalted n = true → s.dapCore n w true = true → Completes (.dapRegisterWrite n w reg v) s fun t =>
          t.core n = (s.core n).dapSet w reg v ∧ (∀ m, m ≠ n → t.core m = s.core m) ∧ OnlyIn [.zyn, .lcs] s t)
        ∧ (s.debugHalted n = false → exec (.dapRegisterWrite n w reg v) s = .next s)
        ∧ ((s.core n).world = w → s.dapCore n w true = true → Completes (.dapHalt n w) s fun t =>
          t.lcs.halted.getLsbD n = true ∧ t.mayIssue n = false ∧ t.zyn = s.zyn ∧ OnlyIn [.lcs] s t)
        ∧ (s.debugHalted n = true → (s.core n).awake = true → (s.core n).world = w → s.dapCore n w true = true →
          let t := { s.tapSelect .dap true with lcs := { (s.tapSelect .dap true).lcs with attached := true } }
          exec (.dapSingleStep n w) s = .next (t.runWord n
            (decodeZWord (BitVec.ofNat 64 (leNat (s.mem.read (s.core n).cur.pc.toNat 8)))) false)))

/-! ## The event recorder (file 16) -/

/-- R444, R447–R456: an offer is filtered by its severity, queued with the next sequence number, or dropped; the oldest one takes an
empty slot, or that of the oldest record not more severe, or none; the interval of a code ends in a summary; searches, firmware
records and the two queries; a record keeps its fields through its bytes. -/
def Obligations.RecordsAreOfferedWrittenAndRead : Prop :=
  (∀ x : Record, x.seq < 2 ^ 32 → x.code < 2 ^ 16 → x.sev < 16 → x.source < 256 → x.optime < 2 ^ 64 → x.pwrcyc < 2 ^ 32 →
    x.p0 < 2 ^ 32 → x.p1 < 2 ^ 32 → x.p2 < 2 ^ 32 → recordAt x.bytes = x ∧ x.bytes.length = 32)
  ∧ ∀ s : State,
    (∀ code sev src fw summ p0 p1 p2, s.onMain = true → let u := s.offerRecord code sev src fw summ p0 p1 p2
      (sev < s.minsevFor src → sev ≠ 6 → u.rcd.filtered = satAdd 32 s.rcd.filtered 1 ∧ u.rcd.queue = s.rcd.queue
        ∧ u.rcd.seq = s.rcd.seq)
      ∧ (s.minsevFor src ≤ sev ∨ sev = 6 → u.rcd.seq = nextSeq s.rcd.seq
        ∧ (s.rcd.queue.length < 64 → ∃ x, u.rcd.queue = s.rcd.queue ++ [x] ∧ x.seq = nextSeq s.rcd.seq ∧ x.code = code
            ∧ x.sev = sev ∧ x.source = src ∧ x.fw = fw ∧ x.summary = summ ∧ x.optime = s.sys.optime ∧ x.pwrcyc = s.bkd.pwrcyc
            ∧ x.p0 = p0 % 2 ^ 32 ∧ x.p1 = p1 % 2 ^ 32 ∧ x.p2 = p2 % 2 ^ 32)
        ∧ (64 ≤ s.rcd.queue.length → u.rcd.queue = s.rcd.queue ∧ u.rcd.drops = satAdd 32 s.rcd.drops 1))
      ∧ u.rcd.slots = s.rcd.slots ∧ OnlyIn [.rcd] s u)
    ∧ (∀ x rest, s.rcd.queue = x :: rest →
        (∀ k, s.rcd.emptySlot = some k → Completes .recordWrite s fun t => SMap.get Record.empty t.rcd.slots k = x
          ∧ t.rcd.newest = k ∧ t.rcd.queue = rest ∧ t.rcd.overwrites = s.rcd.overwrites ∧ OnlyIn [.rcd] s t
          ∧ ∀ j, j ≠ k → SMap.get Record.empty t.rcd.slots j = SMap.get Record.empty s.rcd.slots j)
        ∧ (∀ k, s.rcd.emptySlot = none → s.rcd.oldest x.sev = some k → Completes .recordWrite s fun t =>
          SMap.get Record.empty t.rcd.slots k = x ∧ t.rcd.overwrites = satAdd 32 s.rcd.overwrites 1
            ∧ ∀ j, j ≠ k → SMap.get Record.empty t.rcd.slots j = SMap.get Record.empty s.rcd.slots j)
        ∧ (s.rcd.emptySlot = none → s.rcd.oldest x.sev = none → Completes .recordWrite s fun t =>
          t.rcd.slots = s.rcd.slots ∧ t.rcd.drops = satAdd 32 s.rcd.drops 1 ∧ t.rcd.queue = rest))
    ∧ (∀ k, s.rcd.emptySlot = some k → (SMap.get Record.empty s.rcd.slots k).seq = 0 ∧ k < 8192
        ∧ ∀ j, j < k → (SMap.get Record.empty s.rcd.slots j).seq ≠ 0)
    ∧ (∀ sev k, s.rcd.oldest sev = some k → ∃ e ∈ s.rcd.slots, e.1 = k ∧ e.2.sev ≤ sev
        ∧ ∀ d ∈ s.rcd.slots, d.2.sev ≤ sev → s.rcd.age d.2.seq ≤ s.rcd.age e.2.seq)
    ∧ (∀ b, s.rcd.bursts = [b] → 0 < b.count → exec (.summaryInterval b.code) s =
        .next ({ s with rcd := { s.rcd with bursts := [] } }.offerRecord b.code (recSeverity b.code) (b.code / 256) false true
          b.p0 b.p1 b.count))
    ∧ (∀ code, (∀ b ∈ s.rcd.bursts, b.code ≠ code) → Completes (.summaryInterval code) s fun t =>
        t.rcd.bursts = s.rcd.bursts ∧ t.rcd.queue = s.rcd.queue ∧ OnlyIn [.rcd] s t)
    ∧ (∀ who k src, recBankOf who = some (k, src) → s.secureOrControl who = true →
        (∀ q : W32, Completes (.recSeek who q) s fun t => (t.rcd.bank k).busy = true ∧ (t.rcd.bank k).found = false
          ∧ (t.rcd.bank k).target = s.rcd.seek q.toNat ∧ t.rcd.slots = s.rcd.slots ∧ OnlyIn [.rcd] s t)
        ∧ (∀ v : W32, exec (.recPost who v) s = .next (s.offerRecord (v.toNat % 65536) (min 5 (v.toNat / 65536 % 16)) src true false
          (s.rcd.bank k).postP0.toNat (s.rcd.bank k).postP1.toNat (s.rcd.bank k).postP2.toNat))
        ∧ ((s.rcd.bank k).busy = true → Completes (.seekDone who) s fun t => (t.rcd.bank k).busy = false
          ∧ (t.rcd.bank k).found = (s.rcd.bank k).target.isSome
          ∧ (∀ c, (s.rcd.bank k).target = some c → (t.rcd.bank k).cursor = c) ∧ OnlyIn [.rcd] s t))
    ∧ (∀ who v, recBankOf who = none → exec (.recPost who v) s = .next (s.dropWrite who))
    ∧ (∀ q k, s.rcd.seek q = some k → ∃ e ∈ s.rcd.slots, e.1 = k ∧ q ≤ e.2.seq
        ∧ ∀ d ∈ s.rcd.slots, q ≤ d.2.seq → d.2.seq ≠ 0 → e.2.seq ≤ d.2.seq)
    ∧ (∀ r, Turn s r 0x0601 → Answers (.recQuery r) s r s s.rcd.slots.length (leBytes 4 s.rcd.stat ++ leBytes 4 s.rcd.seq
        ++ leBytes 4 s.rcd.newest ++ leBytes 4 s.rcd.drops ++ leBytes 4 s.rcd.filtered ++ leBytes 4 s.rcd.overwrites
        ++ leBytes 4 (((s.rcd.sorted.head?).map (·.seq)).getD 0) ++ zeros 4))
    ∧ (∀ r, Turn s r 0x0602 → s.img.force.recorder.auditNode = 0 → 1 ≤ r.desc.par 4 2 → r.desc.par 4 2 ≤ 8192 →
        196 + 32 * r.desc.par 4 2 ≤ r.desc.outLen →
        let l := (s.rcd.sorted.filter fun x => decide (r.desc.par 0 4 ≤ x.seq)).take (r.desc.par 4 2)
        ∃ h : Bytes, h.length = 64 ∧ Answers (.recExport r) s r s l.length (h ++ l.flatMap (·.bytes)))
    ∧ (∀ r, Turn s r 0x0602 → r.desc.par 4 2 = 0 → Refuses (.recExport r) s r 0x0301 0 0x98)

/-! ## The Bilkin fabric (file 17) -/

/-- R462–R473: unit numbers along the chain; a link that may train says HELLO, checks what it hears, exchanges secrets, installs keys
and comes up; it goes down for its causes with its secrets cleared, is refused for the reasons of the handshake, and retrains;
advertisements, elections, addresses and routes. -/
def Obligations.LinksOfTheFabric : Prop :=
  ∀ (s : State) (n : Nat),
    let l := s.link n
    let refused (reason : Nat) (t : State) : Prop :=
      (t.link n).state = .refused ∧ (t.link n).reason = reason ∧ (t.link n).hs = none ∧ (t.link n).keyRx = []
        ∧ OnlyIn [.blk, .rcd, .fresh] s t
    (s.onMain = true → s.blk.unit = 0x7F →
      exec .chainHeadDetect s = .next { s with blk := { s.blk with head := true, unit := 0 } }
      ∧ (∀ v, v < 64 → s.blk.lastFrame = some v → exec (.chainFrameReceive v true) s =
          .next { s with blk := { s.blk with unit := v, lastFrame := none } })
      ∧ (∀ v, v < 128 → s.blk.lastFrame ≠ some v → exec (.chainFrameReceive v true) s =
          .next { s with blk := { s.blk with lastFrame := some v } })
      ∧ (∀ v, exec (.chainFrameReceive v false) s = .next { s with blk := { s.blk with lastFrame := none } }))
    ∧ (s.onMain = true → s.blk.unit < 64 → exec .chainFrameSend s =
        .next { s with blk := { s.blk with chainOut := some (s.blk.unit + 1) } })
    ∧ (∀ w u, s.onMain = true → s.linkAllowed n = true → l.state = .training ∨ l.state = .down → s.handshakes < 8 →
        s.takeWords 2 = some (w, u) → Completes (.bilkinLinkTrained n) s fun t => (t.link n).state = .handshake
          ∧ (t.link n).hs = some (Handshake.begin (s.ownHello (wordBytes w))) ∧ OnlyIn [.ent, .blk] s t)
    ∧ (s.linkAllowed n = false → exec (.bilkinLinkTrained n) s = .next s)
    ∧ (∀ x, s.shaking n = true → l.hs = some x →
      (∀ h w u, x.peer = none → s.helloReason h = 0 → s.takeWords 6 = some (w, u) → Completes (.hello n h) s fun t =>
          (t.link n).hs = some (x.auth1 h (wordBytes w)) ∧ (t.link n).peerUnit = h.unit ∧ (t.link n).state = l.state
            ∧ OnlyIn [.ent, .blk, .fresh] s t)
      ∧ (∀ h, x.peer = none → s.helloReason h ≠ 0 → l.newkey = false →
          Completes (.hello n h) s (refused (s.helloReason h)))
      ∧ (∀ eph kem u, x.sent ≠ [] → x.got = [] → Crypto.pointOk 0x11 eph = true → kem.length = 1088 → s.takeWords 4 = some u →
          Completes (.auth1 n eph kem) s fun t => (t.link n).hs = some (x.heard eph kem) ∧ OnlyIn [.ent, .blk, .fresh] s t)
      ∧ (∀ sig, x.got ≠ [] → x.auth2Ok = false → l.newkey = false →
          (x.verified sig = false → Completes (.auth2 n sig) s (refused 4))
          ∧ (x.verified sig = true → Completes (.auth2 n sig) s fun t =>
            let lower := ownLower ((x.peer.map (·.ident)).getD 0)
            (t.link n).keyTx = x.dirKey linkLabel lower ∧ (t.link n).keyRx = x.dirKey linkLabel (!lower)
              ∧ (t.link n).txCtr = 0 ∧ (t.link n).rxCtr = 0 ∧ (t.link n).peerId = x.peer.map (·.ident) ∧ OnlyIn [.blk] s t))
      ∧ (∀ f b k, l.state = .handshake → x.auth2Ok = true → f.ftype = 0x10 → s.openFrame n f = some (b, k) →
          Completes (.keepalive n f) s fun t => (t.link n).state = .up ∧ (t.link n).hs = none ∧ (t.link n).spare = leNat b
            ∧ OnlyIn [.blk, .rcd] s t)
      ∧ (s.ent.stalled.contains (.link n) = false → l.newkey = false → Completes (.handshakeTimeout n) s (refused 6))
      ∧ (s.ent.stalled.contains (.link n) = true → exec (.handshakeTimeout n) s = .next s))
    ∧ (∀ f b k, s.onMain = true → l.state = .up → l.newkey = false → f.ftype = 0x10 → s.openFrame n f = some (b, k) →
        Completes (.keepalive n f) s fun t => (t.link n).missed = 0 ∧ (t.link n).spare = leNat b ∧ (t.link n).rxCtr = k.rxCtr
          ∧ OnlyIn [.blk] s t)
    ∧ (s.onMain = true → l.keyTx ≠ [] → Completes (.keepaliveSend n) s fun t => OnlyIn [.blk, .fresh] s t
        ∧ (t.link n).txCtr = l.txCtr + 1 ∧ ∃ f, t.blk.frames = f :: s.blk.frames ∧ f.link = n ∧ f.ftype = 0x10 ∧ f.payload.length = 4)
    ∧ (s.onMain = true → l.state = .up →
      (l.missed < 2 → exec (.keepaliveMissed n) s = .next (s.setLink n { l with missed := l.missed + 1 }))
      ∧ (2 ≤ l.missed → exec (.keepaliveMissed n) s = .next (s.linkDown n 2))
      ∧ exec (.linkSignalLoss n) s = .next (s.linkDown n 1)
      ∧ (∀ cause, let u := s.linkDown n cause
          (u.link n).state = .down ∧ (u.link n).reason = cause ∧ (u.link n).keyTx = [] ∧ (u.link n).keyRx = []
            ∧ (u.link n).hs = none ∧ (u.link n).downs = satAdd 16 l.downs 1 ∧ OnlyIn [.ent, .blk, .rcd] s u)
      ∧ (∀ u, s.rekeyDue n = true → l.newkey = false → s.handshakes < 8 → s.takeWords 2 = some u → Completes (.rekey n true) s fun t =>
          (t.link n).newkey = true ∧ (t.link n).state = .up ∧ (t.link n).hs.isSome = true ∧ OnlyIn [.ent, .blk, .fresh] s t)
      ∧ (l.newkey = true → exec (.rekey n false) s = .next (s.linkDown n 4)))
    ∧ (s.onMain = true → s.linkAllowed n = true → l.state = .refused ∨ l.state = .down →
        exec (.linkRetrain n) s = .next (s.setLink n { l with state := .training }))
    ∧ (∀ f x, s.onMain = true → l.state = .up → f.ftype = 0x11 → s.openFrame n f = none →
        exec (.lsa n f x) s = .next (s.tagFailure n))
    ∧ (∀ f x t, Delivered s n f 0x11 t → x.ident ≠ Config.deviceIdentity →
        (∀ y, s.blk.lsdb.find? (fun y => y.ident == x.ident) = some y → y.stamp < x.stamp) →
        Completes (.lsa n f x) s fun u => u.blk.lsdb.find? (fun y => y.ident == x.ident) = some x ∧ OnlyIn [.blk] s u)
    ∧ (∀ f x t y, Delivered s n f 0x11 t → s.blk.lsdb.find? (fun y => y.ident == x.ident) = some y → x.stamp ≤ y.stamp →
        exec (.lsa n f x) s = .next t)
    ∧ (s.onMain = true → s.upLinks ≠ [] → Completes .lsaPeriodic s fun t =>
        t.blk.lsaStamp = s.blk.lsaStamp + 1 ∧ OnlyIn [.blk] s t)
    ∧ (s.onMain = true → s.blk.electDue = true → s.elected ≠ some Config.deviceIdentity → Completes .coordinatorElection s fun t =>
        t.blk.coord = s.elected ∧ t.blk.electDue = false ∧ OnlyIn [.blk, .rcd] s t
          ∧ t.blk.elections = (if s.elected = s.blk.coord then s.blk.elections else satAdd 16 s.blk.elections 1))
    ∧ (∀ f table a t, Delivered s n f 0x12 t → s.blk.assigned = none →
        table.find? (fun x => x.1 == Config.deviceIdentity) = some (Config.deviceIdentity, a) → s.blk.addr ≠ some a →
        Completes (.assign n f table) s fun u => u.blk.addr = some a ∧ u.bkd.fabricAddr = some a ∧ OnlyIn [.bkd, .blk, .rcd] s u)
    ∧ (s.onMain = true → s.blk.routesDue = true → exec .routeRecompute s =
        .next { s with blk := { s.blk with routes := s.newRoutes, routesDue := false } })

/-- R475–R484: requests of other devices are queued or refused in order; a response completes its request unchanged, a late one is
counted; one that does not come makes its owner unreachable; spilled commands come back; replicas of an image are stored and
acknowledged; a root is cloned over its own exchange, or nothing is stored. -/
def Obligations.RequestsReplicasAndClones : Prop :=
  ∀ (s : State) (n : Nat) (f : Frame) (t : State),
    (∀ id urg hash version r, Delivered s n f 0x20 t →
        let q := Req.inbound r f.src id
        let e : FwdIn := { id := id, src := f.src, urgent := urg, hash := hash, req := q }
        let u := { t with blk := { t.blk with ins := t.blk.ins ++ [e] } }
        (∀ x, s.inboundRej q hash version true = some x → exec (.fwdReq n f id urg hash version r) s = .next (u.reject q x))
        ∧ (s.inboundRej q hash version true = none → (s.unadmitted s.blk.ins).length < 1024 →
            exec (.fwdReq n f id urg hash version r) s = .next u)
        ∧ (s.inboundRej q hash version true = none → 1024 ≤ (s.unadmitted s.blk.ins).length →
            exec (.fwdReq n f id urg hash version r) s = .next (u.refuse q 0x0101 (t.hint q) 0xB3))
        ∧ (s.sys.mode = .locked → s.inboundRej q hash version true = some ⟨0x0701, 0, 0⟩)
        ∧ (s.sys.mode = .drain → s.inboundRej q hash version true = some ⟨0x0501, 0, 0⟩)
        ∧ (s.serving = true → (s.tenant q.tenant).state ≠ .active → s.inboundRej q hash version true = some ⟨0x0801, 0, 0xB2⟩))
    ∧ (∀ id st de re ol info out, Delivered s n f 0x21 t →
        (∀ x, s.blk.outs.find? (fun x => x.id == id && x.owner == f.src) = some x →
          exec (.fwdRsp n f id st de re ol info out) s = .next ({ t with blk := { t.blk with
            outs := t.blk.outs.filter (·.id ≠ id) } }.complete x.req st de re info ol out))
        ∧ (s.blk.outs.find? (fun x => x.id == id && x.owner == f.src) = none →
          exec (.fwdRsp n f id st de re ol info out) s = .next ({ t with blk := { t.blk with
            late := satAdd 32 t.blk.late 1 } }.offer 0x1009 f.src (id % 2 ^ 32) 0)))
    ∧ (∀ id x, s.blk.outs.find? (fun x => x.id == id) = some x → ∃ u : State, u.blk.unreach = satAdd 32 s.blk.unreach 1
        ∧ u.blk.outs = s.blk.outs.filter (·.id ≠ id) ∧ OnlyIn [.blk] s u
        ∧ exec (.forwardTimeout id) s = .next (u.refuse x.req 0x0901 x.owner 0xB9))
    ∧ (∀ o k reason, s.blk.unreachNow = [(o, k, reason)] → exec .ownerUnreachableRecord s =
        .next (let u := s.offer 0x1008 o reason k
               { u with blk := { u.blk with unreachNow := [] } }))
    ∧ (∀ id hash version r, Delivered s n f 0x22 t →
        let q := Req.inbound r f.src id
        let e : FwdIn := { id := id, src := f.src, urgent := false, hash := hash, req := q }
        let u := { t with blk := { t.blk with spillIns := t.blk.spillIns ++ [e] } }
        (s.inboundRej q hash version false = none → (s.unadmitted s.blk.spillIns).length < 1024 →
            exec (.spillReq n f id hash version r) s = .next u)
        ∧ (s.inboundRej q hash version false = none → 1024 ≤ (s.unadmitted s.blk.spillIns).length →
            exec (.spillReq n f id hash version r) s = .next (u.refuse q 0x0101 0 0)))
    ∧ (∀ id busy st de re ol info out x, Delivered s n f 0x23 t →
        s.blk.spillOuts.find? (fun x => x.id == id && x.owner == f.src) = some x →
        exec (.spillRsp n f id busy st de re ol info out) s =
          .next (if busy then t.unspill id else (t.unspill id).complete x.req st de re info ol out))
    ∧ (∀ id, exec (.spillTimeout id) s = .next { s with blk := { s.blk with spillOuts := s.blk.spillOuts.filter (·.id ≠ id) } })
    ∧ (∀ seq len off data last, Delivered s n f 0x30 t → s.serving = true →
        (s.img.session = none → off = 0 → s.sys.imgSeq < seq → s.bkd.seqFloor ≤ seq → len ≤ 1572864 → data.length ≤ len →
          last = false → Completes (.replica n f seq len off data last) s fun u =>
            (∃ x, u.img.session = some x ∧ x.seq = seq ∧ x.length = len ∧ x.slotB = s.targetSlotB ∧ x.replica = true)
              ∧ u.mramSlot (!s.targetSlotB) = s.mramSlot (!s.targetSlotB) ∧ OnlyIn [.img, .blk] s u)
        ∧ (∀ x, s.img.session = some x → x.replica = false → exec (.replica n f seq len off data last) s =
            .next (t.ackReplica f.src true 0x15))
        ∧ (s.img.session = none → off = 0 → seq ≤ s.sys.imgSeq → exec (.replica n f seq len off data last) s =
            .next (t.ackReplica f.src false 0x11)))
    ∧ (∀ busy reason x, let mine := ReplicaWait.runsTo f.src
        Delivered s n f 0x31 t → s.img.replicas.find? mine = some x →
        (busy = true → exec (.replicaAck n f busy reason) s =
          .next ((t.onReplica mine fun y => [{ y with busy := true, active := false }]).pumpReplicas 4))
        ∧ (busy = false → reason ≠ 0 → exec (.replicaAck n f busy reason) s = .next ((t.replicaFailed mine f.src reason).pumpReplicas 4))
        ∧ (busy = false → reason = 0 → x.copy.length ≤ x.off + 65536 → ∃ u : State, OnlyIn [.img] t u
            ∧ u.img.replicas.length + 1 = s.img.replicas.length
            ∧ exec (.replicaAck n f busy reason) s = .next (u.pumpReplicas 4))
        ∧ (busy = false → reason = 0 → x.off + 65536 < x.copy.length → ∃ u : State, OnlyIn [.img] t u
            ∧ u.img.replicas.find? mine = some { x with off := x.off + 65536 }
            ∧ exec (.replicaAck n f busy reason) s = .next (u.sendTo f.src 0x30 (replicaBody x.copy (x.off + 65536)))))
    ∧ ((∀ y ∈ s.img.replicas, ReplicaWait.runsTo f.src y = false) → Delivered s n f 0x31 t →
        ∀ busy reason, exec (.replicaAck n f busy reason) s = .next t)
    ∧ (∀ c st x, s.stepNow 0x09 = some (c, st, x) → s.blk.clone = none →
        (s.cloneable (cloneOf st true).tenant = false ∨ s.linkTo (cloneOf st true).peer = none →
          exec .cloneSend s = .next (s.failStep c x 0xA7))
        ∧ (∀ k w u, s.cloneable (cloneOf st true).tenant = true → s.linkTo (cloneOf st true).peer = some k → s.takeWords 2 = some (w, u) →
          Completes .cloneSend s fun v => v.blk.clone = some { cloneOf st true with
            hs := some (Handshake.begin (s.ownHello (wordBytes w))) } ∧ OnlyIn [.ent, .blk] s v))
    ∧ (∀ c st x, s.stepNow 0x0A = some (c, st, x) → s.blk.clone = none → (cloneOf st false).tenant = 0 →
        (s.bkd.l0 = none → exec .cloneReceive s = .next (s.setClone (cloneOf st false)))
        ∧ (s.bkd.l0 ≠ none → exec .cloneReceive s = .next (s.failStep c x 0xA7)))
    ∧ (∀ d, s.blk.clone = some d → d.source = true → d.hs = none → exec .cloneWaitTimeout s = .next (s.failClone 0xA7))
    ∧ (∀ d k root stage body c st x, Delivered s n f 0x40 t → s.blk.clone = some d → d.source = false → f.src = d.peer →
        d.tenant = 0 → s.stepNow 0x0A = some (c, st, x) → d.kclone = some k → stage = 4 → Crypto.kwpUnwrap k body = some root →
        Completes (.clone n f stage body) s fun u => u.bkd.l0 = some (root.take 32) ∧ u.blk.clone = none)
    ∧ (∀ d stage body, Delivered s n f 0x40 t → s.blk.clone = some d → d.source = true → f.src = d.peer → stage = 5 →
        s.cloneStep ≠ none → d.kclone ≠ none → body = d.check → exec (.clone n f stage body) s = .next (t.finishClone d))

/-! ## The block as a whole -/

/-- A step takes the command at the front of the queue and is its effect on the state with the rest of the queue; with none waiting,
time passes (the model's choice, assumption log 8). -/
def Obligations.StepTakesTheFrontCommand : Prop :=
  (∀ (c : Instr) (rest : List Instr) (s : State), s.pending = c :: rest → step s = exec c { s with pending := rest })
    ∧ (∀ s : State, s.pending = [] → step s = .next s.tick ∧ s.tick.bkd.ts = wrapAdd 48 s.bkd.ts 1
        ∧ OnlyIn [.sys, .supv, .bkd] s s.tick)

/-- R9: SYS_CAP reads the fixed value of its part, in every state, for every initiator. At reset the state is good, and the registers
whose tables give a reset value other than zero read it. -/
def Obligations.ResetIsGoodAndReadsItsRegisters : Prop :=
  (∀ (s : State) (who : Initiator), s.regRead who 0xC0000008 = (s, some (match s.part with
    | .cx640 => 0x00410C20#32
    | .cx641 => 0x01010C20#32
    | .cx642 => 0x02108210#32
    | .cx644 => 0x04410420#32)))
  ∧ State.reset.Good ∧ State.reset.pending = []
  ∧ ∀ x ∈ ([(0xC0000004, 0x1), (0xC0000020, 0xFA), (0xC0010018, 0x7FFFF), (0xC0010048, 0xBD00C7), (0xC0030000, 0x7D0),
        (0xC0040008, 0x14), (0xC0060018, 0x4032), (0xC0060020, 0x3E803C), (0xC0070018, 0x80), (0xC0090000, 0x10),
        (0xC00A0000, 0x800000), (0xC00A0004, 0x4310), (0xC00A0008, 0x64), (0xC0110000, 0x44), (0xC0110028, 0x19032),
        (0xC0110038, 0xFFFF), (0xC00C0008, 0x3E8E10), (0xC00D0008, 0x3E8), (0xC00D0018, 0xC2000E), (0xC00D0020, 0x200),
        (0xC00D0028, 0x3C), (0xC0100008, 0x7F), (0xC010000C, 0xFFFF), (0xC0100010, 0xA07D0)] : List (Nat × W32)),
      (State.reset.regRead (.supervisor false) x.1).2 = some x.2

/-- Every command completes in every state: nothing stops the block, and a command whose rule's condition does not hold has no
effect (the model's reading of a case that the spec leaves out, assumption log 1).
Every step keeps a good state good, the memory in its canonical form and the recorder's and the tamper log's queues within their
depths, and takes one command from the queue; the part stays what it is. -/
def Obligations.StepKeepsGood : Prop :=
  (∀ (c : Instr) (s : State), ∃ t, exec c s = .next t)
    ∧ ∀ s t : State, s.Good → step s = .next t → t.Good ∧ t.part = s.part ∧ t.pending = s.pending.tail
end

