-- ==== Sys2Proof/Laws/Sparse.lean ====
section
/-! SUPPORT. Laws of the sparse maps: what a key reads after a write, and that every operation keeps the canonical form. -/

namespace Sys2Proof.Machine.SMap

variable {α : Type}

@[simp] theorem get_nil (d : α) (k : Nat) : get d ([] : SMap α) k = d := rfl

theorem get_put_self (d : α) (k : Nat) (v : α) (m : SMap α) : get d (put k v m) k = v := by
  induction m with
  | nil => simp [put, get]
  | cons e t ih =>
    obtain ⟨j, u⟩ := e
    simp only [put]
    split
    · simp [get]
    · split
      · simp [get]
      · rename_i h2; simp only [get]; rw [if_neg h2]; exact ih

theorem get_put_other (d : α) {k j : Nat} (h : j ≠ k) (v : α) (m : SMap α) : get d (put k v m) j = get d m j := by
  induction m with
  | nil => simp [put, get, h.symm]
  | cons e t ih =>
    obtain ⟨i, u⟩ := e
    simp only [put]
    split
    · simp [get, h.symm]
    · split
      · rename_i h2; subst h2; simp [get, h.symm]
      · simp only [get]; split <;> simp_all

theorem drop_cons (k : Nat) (e : Nat × α) (t : SMap α) : drop k (e :: t) = if e.1 = k then drop k t else e :: drop k t := by
  by_cases h : e.1 = k <;> simp [drop, h]

theorem get_drop_self (d : α) (k : Nat) (m : SMap α) : get d (drop k m) k = d := by
  induction m with
  | nil => rfl
  | cons e t ih =>
    obtain ⟨j, u⟩ := e
    rw [drop_cons]
    by_cases h : j = k <;> simp [h, get, ih]

theorem get_drop_other (d : α) {k j : Nat} (h : j ≠ k) (m : SMap α) : get d (drop k m) j = get d m j := by
  induction m with
  | nil => rfl
  | cons e t ih =>
    obtain ⟨i, u⟩ := e
    rw [drop_cons]
    by_cases hi : i = k
    · subst hi; simp [ih, get, h.symm]
    · simp only [hi, if_false, get, ih]

/-- A key reads what was last written to it. -/
@[simp] theorem get_set_self [DecidableEq α] (d : α) (m : SMap α) (k : Nat) (v : α) : get d (set d m k v) k = v := by
  unfold set
  split
  · rename_i h; rw [h, get_drop_self]
  · exact get_put_self d k v m

/-- A write leaves every other key alone. -/
@[simp] theorem get_set_other [DecidableEq α] (d : α) (m : SMap α) {k j : Nat} (h : j ≠ k) (v : α) :
    get d (set d m k v) j = get d m j := by
  unfold set
  split
  · exact get_drop_other d h m
  · exact get_put_other d h v m

/-- The canonical form: no entry is the default, and the keys rise. -/
theorem wf_iff [DecidableEq α] (d : α) (m : SMap α) :
    wf d m = true ↔ (∀ e ∈ m, e.2 ≠ d) ∧ m.Pairwise (fun a b => a.1 < b.1) := by
  induction m with
  | nil => simp [wf]
  | cons e t ih =>
    obtain ⟨k, v⟩ := e
    cases t with
    | nil => simp [wf]
    | cons e2 t2 =>
      obtain ⟨j, u⟩ := e2
      simp only [wf, Bool.and_eq_true, decide_eq_true_eq, ih]
      constructor
      · rintro ⟨⟨hv, hkj⟩, hall, hp⟩
        refine ⟨?_, ?_⟩
        · intro x hx
          rcases List.mem_cons.1 hx with rfl | hx
          · exact hv
          · exact hall x hx
        · refine List.pairwise_cons.2 ⟨?_, hp⟩
          intro b hb
          rcases List.mem_cons.1 hb with rfl | hb
          · exact hkj
          · exact lt_trans hkj ((List.pairwise_cons.1 hp).1 b hb)
      · rintro ⟨hall, hp⟩
        have hp' := List.pairwise_cons.1 hp
        exact ⟨⟨hall (k, v) (by simp), hp'.1 (j, u) (by simp)⟩, fun x hx => hall x (List.mem_cons_of_mem _ hx), hp'.2⟩

theorem mem_put [DecidableEq α] {k : Nat} {v : α} {m : SMap α} {e : Nat × α} (h : e ∈ put k v m) : e = (k, v) ∨ e ∈ m := by
  induction m with
  | nil => simp [put] at h; exact Or.inl h
  | cons x t ih =>
    obtain ⟨j, u⟩ := x
    simp only [put] at h
    split at h
    · rcases List.mem_cons.1 h with h | h
      · exact Or.inl h
      · exact Or.inr h
    · split at h
      · rcases List.mem_cons.1 h with h | h
        · exact Or.inl h
        · exact Or.inr (List.mem_cons_of_mem _ h)
      · rcases List.mem_cons.1 h with h | h
        · exact Or.inr (by simp [h])
        · rcases ih h with h | h
          · exact Or.inl h
          · exact Or.inr (List.mem_cons_of_mem _ h)

theorem wf_put [DecidableEq α] {d : α} {m : SMap α} (h : wf d m = true) (k : Nat) {v : α} (hv : v ≠ d) :
    wf d (put k v m) = true := by
  rw [wf_iff] at h ⊢
  obtain ⟨hd, hp⟩ := h
  refine ⟨fun e he => ?_, ?_⟩
  · rcases mem_put he with rfl | he
    · exact hv
    · exact hd e he
  · clear hd
    induction m with
    | nil => simp [put]
    | cons x t ih =>
      obtain ⟨j, u⟩ := x
      have hp' := List.pairwise_cons.1 hp
      simp only [put]
      split
      · rename_i hkj
        refine List.pairwise_cons.2 ⟨fun b hb => ?_, hp⟩
        rcases List.mem_cons.1 hb with rfl | hb
        · exact hkj
        · exact lt_trans hkj (hp'.1 b hb)
      · rename_i hkj
        split
        · rename_i hjk; subst hjk
          exact List.pairwise_cons.2 ⟨hp'.1, hp'.2⟩
        · rename_i hjk
          refine List.pairwise_cons.2 ⟨fun b hb => ?_, ih hp'.2⟩
          rcases mem_put hb with rfl | hb
          · exact lt_of_le_of_ne (Nat.le_of_not_lt hkj) hjk
          · exact hp'.1 b hb

/-- Keeping some entries keeps the canonical form. -/
theorem wf_filter [DecidableEq α] {d : α} {m : SMap α} (h : wf d m = true) (p : Nat × α → Bool) :
    wf d (List.filter p m) = true := by
  rw [wf_iff] at h ⊢
  exact ⟨fun e he => h.1 e (List.mem_of_mem_filter he), h.2.filter p⟩

/-- A write keeps the canonical form. -/
theorem wf_set [DecidableEq α] {d : α} {m : SMap α} (h : wf d m = true) (k : Nat) (v : α) : wf d (set d m k v) = true := by
  unfold set
  split
  · exact wf_filter h _
  · rename_i hv; exact wf_put h k hv

/-- Dropping an entry keeps it. -/
theorem wf_drop [DecidableEq α] {d : α} {m : SMap α} (h : wf d m = true) (k : Nat) : wf d (drop k m) = true := wf_filter h _

/-- Keeping some entries keeps it. -/
theorem wf_keep [DecidableEq α] {d : α} {m : SMap α} (h : wf d m = true) (p : Nat → α → Bool) : wf d (keep p m) = true :=
  wf_filter h _

end Sys2Proof.Machine.SMap
end

