-- ==== Sys2Proof/Laws/State.lean ====
section
/-! SUPPORT. What each replacement of one part of the state leaves alone: one lemma for each replacement and field, true by
definition, and what the replaced part reads. -/

namespace Sys2Proof.Machine

@[simp] theorem State.setCore_part (s : State) (n : Nat) (c : ZCore) : (s.setCore n c).part = s.part := rfl
@[simp] theorem State.setCore_sys (s : State) (n : Nat) (c : ZCore) : (s.setCore n c).sys = s.sys := rfl
@[simp] theorem State.setCore_boot (s : State) (n : Nat) (c : ZCore) : (s.setCore n c).boot = s.boot := rfl
@[simp] theorem State.setCore_pwr (s : State) (n : Nat) (c : ZCore) : (s.setCore n c).pwr = s.pwr := rfl
@[simp] theorem State.setCore_img (s : State) (n : Nat) (c : ZCore) : (s.setCore n c).img = s.img := rfl
@[simp] theorem State.setCore_host (s : State) (n : Nat) (c : ZCore) : (s.setCore n c).host = s.host := rfl
@[simp] theorem State.setCore_twl (s : State) (n : Nat) (c : ZCore) : (s.setCore n c).twl = s.twl := rfl
@[simp] theorem State.setCore_dmk (s : State) (n : Nat) (c : ZCore) : (s.setCore n c).dmk = s.dmk := rfl
@[simp] theorem State.setCore_cal (s : State) (n : Nat) (c : ZCore) : (s.setCore n c).cal = s.cal := rfl
@[simp] theorem State.setCore_srg (s : State) (n : Nat) (c : ZCore) : (s.setCore n c).srg = s.srg := rfl
@[simp] theorem State.setCore_tul (s : State) (n : Nat) (c : ZCore) : (s.setCore n c).tul = s.tul := rfl
@[simp] theorem State.setCore_hsh (s : State) (n : Nat) (c : ZCore) : (s.setCore n c).hsh = s.hsh := rfl
@[simp] theorem State.setCore_ent (s : State) (n : Nat) (c : ZCore) : (s.setCore n c).ent = s.ent := rfl
@[simp] theorem State.setCore_supv (s : State) (n : Nat) (c : ZCore) : (s.setCore n c).supv = s.supv := rfl
@[simp] theorem State.setCore_mem (s : State) (n : Nat) (c : ZCore) : (s.setCore n c).mem = s.mem := rfl
@[simp] theorem State.setCore_gate (s : State) (n : Nat) (c : ZCore) : (s.setCore n c).gate = s.gate := rfl
@[simp] theorem State.setCore_lace (s : State) (n : Nat) (c : ZCore) : (s.setCore n c).lace = s.lace := rfl
@[simp] theorem State.setCore_bkd (s : State) (n : Nat) (c : ZCore) : (s.setCore n c).bkd = s.bkd := rfl
@[simp] theorem State.setCore_lcs (s : State) (n : Nat) (c : ZCore) : (s.setCore n c).lcs = s.lcs := rfl
@[simp] theorem State.setCore_rcd (s : State) (n : Nat) (c : ZCore) : (s.setCore n c).rcd = s.rcd := rfl
@[simp] theorem State.setCore_blk (s : State) (n : Nat) (c : ZCore) : (s.setCore n c).blk = s.blk := rfl
@[simp] theorem State.setCore_rwp (s : State) (n : Nat) (c : ZCore) : (s.setCore n c).rwp = s.rwp := rfl
@[simp] theorem State.setCore_fresh (s : State) (n : Nat) (c : ZCore) : (s.setCore n c).fresh = s.fresh := rfl
@[simp] theorem State.setCore_pending (s : State) (n : Nat) (c : ZCore) : (s.setCore n c).pending = s.pending := rfl

@[simp] theorem State.setWorker_part (s : State) (n : Nat) (w : WorkerCtl) : (s.setWorker n w).part = s.part := rfl
@[simp] theorem State.setWorker_sys (s : State) (n : Nat) (w : WorkerCtl) : (s.setWorker n w).sys = s.sys := rfl
@[simp] theorem State.setWorker_boot (s : State) (n : Nat) (w : WorkerCtl) : (s.setWorker n w).boot = s.boot := rfl
@[simp] theorem State.setWorker_pwr (s : State) (n : Nat) (w : WorkerCtl) : (s.setWorker n w).pwr = s.pwr := rfl
@[simp] theorem State.setWorker_img (s : State) (n : Nat) (w : WorkerCtl) : (s.setWorker n w).img = s.img := rfl
@[simp] theorem State.setWorker_host (s : State) (n : Nat) (w : WorkerCtl) : (s.setWorker n w).host = s.host := rfl
@[simp] theorem State.setWorker_twl (s : State) (n : Nat) (w : WorkerCtl) : (s.setWorker n w).twl = s.twl := rfl
@[simp] theorem State.setWorker_dmk (s : State) (n : Nat) (w : WorkerCtl) : (s.setWorker n w).dmk = s.dmk := rfl
@[simp] theorem State.setWorker_cal (s : State) (n : Nat) (w : WorkerCtl) : (s.setWorker n w).cal = s.cal := rfl
@[simp] theorem State.setWorker_srg (s : State) (n : Nat) (w : WorkerCtl) : (s.setWorker n w).srg = s.srg := rfl
@[simp] theorem State.setWorker_tul (s : State) (n : Nat) (w : WorkerCtl) : (s.setWorker n w).tul = s.tul := rfl
@[simp] theorem State.setWorker_hsh (s : State) (n : Nat) (w : WorkerCtl) : (s.setWorker n w).hsh = s.hsh := rfl
@[simp] theorem State.setWorker_ent (s : State) (n : Nat) (w : WorkerCtl) : (s.setWorker n w).ent = s.ent := rfl
@[simp] theorem State.setWorker_zyn (s : State) (n : Nat) (w : WorkerCtl) : (s.setWorker n w).zyn = s.zyn := rfl
@[simp] theorem State.setWorker_mem (s : State) (n : Nat) (w : WorkerCtl) : (s.setWorker n w).mem = s.mem := rfl
@[simp] theorem State.setWorker_gate (s : State) (n : Nat) (w : WorkerCtl) : (s.setWorker n w).gate = s.gate := rfl
@[simp] theorem State.setWorker_lace (s : State) (n : Nat) (w : WorkerCtl) : (s.setWorker n w).lace = s.lace := rfl
@[simp] theorem State.setWorker_bkd (s : State) (n : Nat) (w : WorkerCtl) : (s.setWorker n w).bkd = s.bkd := rfl
@[simp] theorem State.setWorker_lcs (s : State) (n : Nat) (w : WorkerCtl) : (s.setWorker n w).lcs = s.lcs := rfl
@[simp] theorem State.setWorker_rcd (s : State) (n : Nat) (w : WorkerCtl) : (s.setWorker n w).rcd = s.rcd := rfl
@[simp] theorem State.setWorker_blk (s : State) (n : Nat) (w : WorkerCtl) : (s.setWorker n w).blk = s.blk := rfl
@[simp] theorem State.setWorker_rwp (s : State) (n : Nat) (w : WorkerCtl) : (s.setWorker n w).rwp = s.rwp := rfl
@[simp] theorem State.setWorker_fresh (s : State) (n : Nat) (w : WorkerCtl) : (s.setWorker n w).fresh = s.fresh := rfl
@[simp] theorem State.setWorker_pending (s : State) (n : Nat) (w : WorkerCtl) : (s.setWorker n w).pending = s.pending := rfl

@[simp] theorem State.setCtx_part (s : State) (c : Nat) (x : Ctx) : (s.setCtx c x).part = s.part := by unfold State.setCtx; rfl
@[simp] theorem State.setCtx_sys (s : State) (c : Nat) (x : Ctx) : (s.setCtx c x).sys = s.sys := by unfold State.setCtx; rfl
@[simp] theorem State.setCtx_boot (s : State) (c : Nat) (x : Ctx) : (s.setCtx c x).boot = s.boot := by unfold State.setCtx; rfl
@[simp] theorem State.setCtx_pwr (s : State) (c : Nat) (x : Ctx) : (s.setCtx c x).pwr = s.pwr := by unfold State.setCtx; rfl
@[simp] theorem State.setCtx_img (s : State) (c : Nat) (x : Ctx) : (s.setCtx c x).img = s.img := by unfold State.setCtx; rfl
@[simp] theorem State.setCtx_host (s : State) (c : Nat) (x : Ctx) : (s.setCtx c x).host = s.host := by unfold State.setCtx; rfl
@[simp] theorem State.setCtx_twl (s : State) (c : Nat) (x : Ctx) : (s.setCtx c x).twl = s.twl := by unfold State.setCtx; rfl
@[simp] theorem State.setCtx_cal (s : State) (c : Nat) (x : Ctx) : (s.setCtx c x).cal = s.cal := by unfold State.setCtx; rfl
@[simp] theorem State.setCtx_srg (s : State) (c : Nat) (x : Ctx) : (s.setCtx c x).srg = s.srg := by unfold State.setCtx; rfl
@[simp] theorem State.setCtx_tul (s : State) (c : Nat) (x : Ctx) : (s.setCtx c x).tul = s.tul := by unfold State.setCtx; rfl
@[simp] theorem State.setCtx_hsh (s : State) (c : Nat) (x : Ctx) : (s.setCtx c x).hsh = s.hsh := by unfold State.setCtx; rfl
@[simp] theorem State.setCtx_ent (s : State) (c : Nat) (x : Ctx) : (s.setCtx c x).ent = s.ent := by unfold State.setCtx; rfl
@[simp] theorem State.setCtx_zyn (s : State) (c : Nat) (x : Ctx) : (s.setCtx c x).zyn = s.zyn := by unfold State.setCtx; rfl
@[simp] theorem State.setCtx_supv (s : State) (c : Nat) (x : Ctx) : (s.setCtx c x).supv = s.supv := by unfold State.setCtx; rfl
@[simp] theorem State.setCtx_mem (s : State) (c : Nat) (x : Ctx) : (s.setCtx c x).mem = s.mem := by unfold State.setCtx; rfl
@[simp] theorem State.setCtx_gate (s : State) (c : Nat) (x : Ctx) : (s.setCtx c x).gate = s.gate := by unfold State.setCtx; rfl
@[simp] theorem State.setCtx_lace (s : State) (c : Nat) (x : Ctx) : (s.setCtx c x).lace = s.lace := by unfold State.setCtx; rfl
@[simp] theorem State.setCtx_bkd (s : State) (c : Nat) (x : Ctx) : (s.setCtx c x).bkd = s.bkd := by unfold State.setCtx; rfl
@[simp] theorem State.setCtx_lcs (s : State) (c : Nat) (x : Ctx) : (s.setCtx c x).lcs = s.lcs := by unfold State.setCtx; rfl
@[simp] theorem State.setCtx_rcd (s : State) (c : Nat) (x : Ctx) : (s.setCtx c x).rcd = s.rcd := by unfold State.setCtx; rfl
@[simp] theorem State.setCtx_blk (s : State) (c : Nat) (x : Ctx) : (s.setCtx c x).blk = s.blk := by unfold State.setCtx; rfl
@[simp] theorem State.setCtx_rwp (s : State) (c : Nat) (x : Ctx) : (s.setCtx c x).rwp = s.rwp := by unfold State.setCtx; rfl
@[simp] theorem State.setCtx_fresh (s : State) (c : Nat) (x : Ctx) : (s.setCtx c x).fresh = s.fresh := by unfold State.setCtx; rfl
@[simp] theorem State.setCtx_pending (s : State) (c : Nat) (x : Ctx) : (s.setCtx c x).pending = s.pending := by unfold State.setCtx; rfl

@[simp] theorem State.setTenant_part (s : State) (t : Nat) (x : Tenant) : (s.setTenant t x).part = s.part := rfl
@[simp] theorem State.setTenant_sys (s : State) (t : Nat) (x : Tenant) : (s.setTenant t x).sys = s.sys := rfl
@[simp] theorem State.setTenant_boot (s : State) (t : Nat) (x : Tenant) : (s.setTenant t x).boot = s.boot := rfl
@[simp] theorem State.setTenant_pwr (s : State) (t : Nat) (x : Tenant) : (s.setTenant t x).pwr = s.pwr := rfl
@[simp] theorem State.setTenant_img (s : State) (t : Nat) (x : Tenant) : (s.setTenant t x).img = s.img := rfl
@[simp] theorem State.setTenant_twl (s : State) (t : Nat) (x : Tenant) : (s.setTenant t x).twl = s.twl := rfl
@[simp] theorem State.setTenant_dmk (s : State) (t : Nat) (x : Tenant) : (s.setTenant t x).dmk = s.dmk := rfl
@[simp] theorem State.setTenant_cal (s : State) (t : Nat) (x : Tenant) : (s.setTenant t x).cal = s.cal := rfl
@[simp] theorem State.setTenant_srg (s : State) (t : Nat) (x : Tenant) : (s.setTenant t x).srg = s.srg := rfl
@[simp] theorem State.setTenant_tul (s : State) (t : Nat) (x : Tenant) : (s.setTenant t x).tul = s.tul := rfl
@[simp] theorem State.setTenant_hsh (s : State) (t : Nat) (x : Tenant) : (s.setTenant t x).hsh = s.hsh := rfl
@[simp] theorem State.setTenant_ent (s : State) (t : Nat) (x : Tenant) : (s.setTenant t x).ent = s.ent := rfl
@[simp] theorem State.setTenant_zyn (s : State) (t : Nat) (x : Tenant) : (s.setTenant t x).zyn = s.zyn := rfl
@[simp] theorem State.setTenant_supv (s : State) (t : Nat) (x : Tenant) : (s.setTenant t x).supv = s.supv := rfl
@[simp] theorem State.setTenant_mem (s : State) (t : Nat) (x : Tenant) : (s.setTenant t x).mem = s.mem := rfl
@[simp] theorem State.setTenant_gate (s : State) (t : Nat) (x : Tenant) : (s.setTenant t x).gate = s.gate := rfl
@[simp] theorem State.setTenant_lace (s : State) (t : Nat) (x : Tenant) : (s.setTenant t x).lace = s.lace := rfl
@[simp] theorem State.setTenant_bkd (s : State) (t : Nat) (x : Tenant) : (s.setTenant t x).bkd = s.bkd := rfl
@[simp] theorem State.setTenant_lcs (s : State) (t : Nat) (x : Tenant) : (s.setTenant t x).lcs = s.lcs := rfl
@[simp] theorem State.setTenant_rcd (s : State) (t : Nat) (x : Tenant) : (s.setTenant t x).rcd = s.rcd := rfl
@[simp] theorem State.setTenant_blk (s : State) (t : Nat) (x : Tenant) : (s.setTenant t x).blk = s.blk := rfl
@[simp] theorem State.setTenant_rwp (s : State) (t : Nat) (x : Tenant) : (s.setTenant t x).rwp = s.rwp := rfl
@[simp] theorem State.setTenant_fresh (s : State) (t : Nat) (x : Tenant) : (s.setTenant t x).fresh = s.fresh := rfl
@[simp] theorem State.setTenant_pending (s : State) (t : Nat) (x : Tenant) : (s.setTenant t x).pending = s.pending := rfl

@[simp] theorem State.setQp_part (s : State) (t q : Nat) (x : QPair) : (s.setQp t q x).part = s.part := rfl
@[simp] theorem State.setQp_sys (s : State) (t q : Nat) (x : QPair) : (s.setQp t q x).sys = s.sys := rfl
@[simp] theorem State.setQp_boot (s : State) (t q : Nat) (x : QPair) : (s.setQp t q x).boot = s.boot := rfl
@[simp] theorem State.setQp_pwr (s : State) (t q : Nat) (x : QPair) : (s.setQp t q x).pwr = s.pwr := rfl
@[simp] theorem State.setQp_img (s : State) (t q : Nat) (x : QPair) : (s.setQp t q x).img = s.img := rfl
@[simp] theorem State.setQp_twl (s : State) (t q : Nat) (x : QPair) : (s.setQp t q x).twl = s.twl := rfl
@[simp] theorem State.setQp_dmk (s : State) (t q : Nat) (x : QPair) : (s.setQp t q x).dmk = s.dmk := rfl
@[simp] theorem State.setQp_cal (s : State) (t q : Nat) (x : QPair) : (s.setQp t q x).cal = s.cal := rfl
@[simp] theorem State.setQp_srg (s : State) (t q : Nat) (x : QPair) : (s.setQp t q x).srg = s.srg := rfl
@[simp] theorem State.setQp_tul (s : State) (t q : Nat) (x : QPair) : (s.setQp t q x).tul = s.tul := rfl
@[simp] theorem State.setQp_hsh (s : State) (t q : Nat) (x : QPair) : (s.setQp t q x).hsh = s.hsh := rfl
@[simp] theorem State.setQp_ent (s : State) (t q : Nat) (x : QPair) : (s.setQp t q x).ent = s.ent := rfl
@[simp] theorem State.setQp_zyn (s : State) (t q : Nat) (x : QPair) : (s.setQp t q x).zyn = s.zyn := rfl
@[simp] theorem State.setQp_supv (s : State) (t q : Nat) (x : QPair) : (s.setQp t q x).supv = s.supv := rfl
@[simp] theorem State.setQp_mem (s : State) (t q : Nat) (x : QPair) : (s.setQp t q x).mem = s.mem := rfl
@[simp] theorem State.setQp_gate (s : State) (t q : Nat) (x : QPair) : (s.setQp t q x).gate = s.gate := rfl
@[simp] theorem State.setQp_lace (s : State) (t q : Nat) (x : QPair) : (s.setQp t q x).lace = s.lace := rfl
@[simp] theorem State.setQp_bkd (s : State) (t q : Nat) (x : QPair) : (s.setQp t q x).bkd = s.bkd := rfl
@[simp] theorem State.setQp_lcs (s : State) (t q : Nat) (x : QPair) : (s.setQp t q x).lcs = s.lcs := rfl
@[simp] theorem State.setQp_rcd (s : State) (t q : Nat) (x : QPair) : (s.setQp t q x).rcd = s.rcd := rfl
@[simp] theorem State.setQp_blk (s : State) (t q : Nat) (x : QPair) : (s.setQp t q x).blk = s.blk := rfl
@[simp] theorem State.setQp_rwp (s : State) (t q : Nat) (x : QPair) : (s.setQp t q x).rwp = s.rwp := rfl
@[simp] theorem State.setQp_fresh (s : State) (t q : Nat) (x : QPair) : (s.setQp t q x).fresh = s.fresh := rfl
@[simp] theorem State.setQp_pending (s : State) (t q : Nat) (x : QPair) : (s.setQp t q x).pending = s.pending := rfl

@[simp] theorem State.setPort_part (s : State) (b : Bool) (p : Port) : (s.setPort b p).part = s.part := by cases b <;> rfl
@[simp] theorem State.setPort_sys (s : State) (b : Bool) (p : Port) : (s.setPort b p).sys = s.sys := by cases b <;> rfl
@[simp] theorem State.setPort_boot (s : State) (b : Bool) (p : Port) : (s.setPort b p).boot = s.boot := by cases b <;> rfl
@[simp] theorem State.setPort_pwr (s : State) (b : Bool) (p : Port) : (s.setPort b p).pwr = s.pwr := by cases b <;> rfl
@[simp] theorem State.setPort_img (s : State) (b : Bool) (p : Port) : (s.setPort b p).img = s.img := by cases b <;> rfl
@[simp] theorem State.setPort_twl (s : State) (b : Bool) (p : Port) : (s.setPort b p).twl = s.twl := by cases b <;> rfl
@[simp] theorem State.setPort_dmk (s : State) (b : Bool) (p : Port) : (s.setPort b p).dmk = s.dmk := by cases b <;> rfl
@[simp] theorem State.setPort_cal (s : State) (b : Bool) (p : Port) : (s.setPort b p).cal = s.cal := by cases b <;> rfl
@[simp] theorem State.setPort_srg (s : State) (b : Bool) (p : Port) : (s.setPort b p).srg = s.srg := by cases b <;> rfl
@[simp] theorem State.setPort_tul (s : State) (b : Bool) (p : Port) : (s.setPort b p).tul = s.tul := by cases b <;> rfl
@[simp] theorem State.setPort_hsh (s : State) (b : Bool) (p : Port) : (s.setPort b p).hsh = s.hsh := by cases b <;> rfl
@[simp] theorem State.setPort_ent (s : State) (b : Bool) (p : Port) : (s.setPort b p).ent = s.ent := by cases b <;> rfl
@[simp] theorem State.setPort_zyn (s : State) (b : Bool) (p : Port) : (s.setPort b p).zyn = s.zyn := by cases b <;> rfl
@[simp] theorem State.setPort_supv (s : State) (b : Bool) (p : Port) : (s.setPort b p).supv = s.supv := by cases b <;> rfl
@[simp] theorem State.setPort_mem (s : State) (b : Bool) (p : Port) : (s.setPort b p).mem = s.mem := by cases b <;> rfl
@[simp] theorem State.setPort_gate (s : State) (b : Bool) (p : Port) : (s.setPort b p).gate = s.gate := by cases b <;> rfl
@[simp] theorem State.setPort_lace (s : State) (b : Bool) (p : Port) : (s.setPort b p).lace = s.lace := by cases b <;> rfl
@[simp] theorem State.setPort_bkd (s : State) (b : Bool) (p : Port) : (s.setPort b p).bkd = s.bkd := by cases b <;> rfl
@[simp] theorem State.setPort_lcs (s : State) (b : Bool) (p : Port) : (s.setPort b p).lcs = s.lcs := by cases b <;> rfl
@[simp] theorem State.setPort_rcd (s : State) (b : Bool) (p : Port) : (s.setPort b p).rcd = s.rcd := by cases b <;> rfl
@[simp] theorem State.setPort_blk (s : State) (b : Bool) (p : Port) : (s.setPort b p).blk = s.blk := by cases b <;> rfl
@[simp] theorem State.setPort_rwp (s : State) (b : Bool) (p : Port) : (s.setPort b p).rwp = s.rwp := by cases b <;> rfl
@[simp] theorem State.setPort_fresh (s : State) (b : Bool) (p : Port) : (s.setPort b p).fresh = s.fresh := by cases b <;> rfl
@[simp] theorem State.setPort_pending (s : State) (b : Bool) (p : Port) : (s.setPort b p).pending = s.pending := by cases b <;> rfl

@[simp] theorem State.setSlot_part (s : State) (n : Nat) (i : Inst) : (s.setSlot n i).part = s.part := rfl
@[simp] theorem State.setSlot_sys (s : State) (n : Nat) (i : Inst) : (s.setSlot n i).sys = s.sys := rfl
@[simp] theorem State.setSlot_boot (s : State) (n : Nat) (i : Inst) : (s.setSlot n i).boot = s.boot := rfl
@[simp] theorem State.setSlot_pwr (s : State) (n : Nat) (i : Inst) : (s.setSlot n i).pwr = s.pwr := rfl
@[simp] theorem State.setSlot_img (s : State) (n : Nat) (i : Inst) : (s.setSlot n i).img = s.img := rfl
@[simp] theorem State.setSlot_host (s : State) (n : Nat) (i : Inst) : (s.setSlot n i).host = s.host := rfl
@[simp] theorem State.setSlot_dmk (s : State) (n : Nat) (i : Inst) : (s.setSlot n i).dmk = s.dmk := rfl
@[simp] theorem State.setSlot_cal (s : State) (n : Nat) (i : Inst) : (s.setSlot n i).cal = s.cal := rfl
@[simp] theorem State.setSlot_srg (s : State) (n : Nat) (i : Inst) : (s.setSlot n i).srg = s.srg := rfl
@[simp] theorem State.setSlot_tul (s : State) (n : Nat) (i : Inst) : (s.setSlot n i).tul = s.tul := rfl
@[simp] theorem State.setSlot_hsh (s : State) (n : Nat) (i : Inst) : (s.setSlot n i).hsh = s.hsh := rfl
@[simp] theorem State.setSlot_ent (s : State) (n : Nat) (i : Inst) : (s.setSlot n i).ent = s.ent := rfl
@[simp] theorem State.setSlot_zyn (s : State) (n : Nat) (i : Inst) : (s.setSlot n i).zyn = s.zyn := rfl
@[simp] theorem State.setSlot_supv (s : State) (n : Nat) (i : Inst) : (s.setSlot n i).supv = s.supv := rfl
@[simp] theorem State.setSlot_mem (s : State) (n : Nat) (i : Inst) : (s.setSlot n i).mem = s.mem := rfl
@[simp] theorem State.setSlot_gate (s : State) (n : Nat) (i : Inst) : (s.setSlot n i).gate = s.gate := rfl
@[simp] theorem State.setSlot_lace (s : State) (n : Nat) (i : Inst) : (s.setSlot n i).lace = s.lace := rfl
@[simp] theorem State.setSlot_bkd (s : State) (n : Nat) (i : Inst) : (s.setSlot n i).bkd = s.bkd := rfl
@[simp] theorem State.setSlot_lcs (s : State) (n : Nat) (i : Inst) : (s.setSlot n i).lcs = s.lcs := rfl
@[simp] theorem State.setSlot_rcd (s : State) (n : Nat) (i : Inst) : (s.setSlot n i).rcd = s.rcd := rfl
@[simp] theorem State.setSlot_blk (s : State) (n : Nat) (i : Inst) : (s.setSlot n i).blk = s.blk := rfl
@[simp] theorem State.setSlot_rwp (s : State) (n : Nat) (i : Inst) : (s.setSlot n i).rwp = s.rwp := rfl
@[simp] theorem State.setSlot_fresh (s : State) (n : Nat) (i : Inst) : (s.setSlot n i).fresh = s.fresh := rfl
@[simp] theorem State.setSlot_pending (s : State) (n : Nat) (i : Inst) : (s.setSlot n i).pending = s.pending := rfl

@[simp] theorem State.setLink_part (s : State) (n : Nat) (l : Link) : (s.setLink n l).part = s.part := rfl
@[simp] theorem State.setLink_sys (s : State) (n : Nat) (l : Link) : (s.setLink n l).sys = s.sys := rfl
@[simp] theorem State.setLink_boot (s : State) (n : Nat) (l : Link) : (s.setLink n l).boot = s.boot := rfl
@[simp] theorem State.setLink_pwr (s : State) (n : Nat) (l : Link) : (s.setLink n l).pwr = s.pwr := rfl
@[simp] theorem State.setLink_img (s : State) (n : Nat) (l : Link) : (s.setLink n l).img = s.img := rfl
@[simp] theorem State.setLink_host (s : State) (n : Nat) (l : Link) : (s.setLink n l).host = s.host := rfl
@[simp] theorem State.setLink_twl (s : State) (n : Nat) (l : Link) : (s.setLink n l).twl = s.twl := rfl
@[simp] theorem State.setLink_dmk (s : State) (n : Nat) (l : Link) : (s.setLink n l).dmk = s.dmk := rfl
@[simp] theorem State.setLink_cal (s : State) (n : Nat) (l : Link) : (s.setLink n l).cal = s.cal := rfl
@[simp] theorem State.setLink_srg (s : State) (n : Nat) (l : Link) : (s.setLink n l).srg = s.srg := rfl
@[simp] theorem State.setLink_tul (s : State) (n : Nat) (l : Link) : (s.setLink n l).tul = s.tul := rfl
@[simp] theorem State.setLink_hsh (s : State) (n : Nat) (l : Link) : (s.setLink n l).hsh = s.hsh := rfl
@[simp] theorem State.setLink_ent (s : State) (n : Nat) (l : Link) : (s.setLink n l).ent = s.ent := rfl
@[simp] theorem State.setLink_zyn (s : State) (n : Nat) (l : Link) : (s.setLink n l).zyn = s.zyn := rfl
@[simp] theorem State.setLink_supv (s : State) (n : Nat) (l : Link) : (s.setLink n l).supv = s.supv := rfl
@[simp] theorem State.setLink_mem (s : State) (n : Nat) (l : Link) : (s.setLink n l).mem = s.mem := rfl
@[simp] theorem State.setLink_gate (s : State) (n : Nat) (l : Link) : (s.setLink n l).gate = s.gate := rfl
@[simp] theorem State.setLink_lace (s : State) (n : Nat) (l : Link) : (s.setLink n l).lace = s.lace := rfl
@[simp] theorem State.setLink_bkd (s : State) (n : Nat) (l : Link) : (s.setLink n l).bkd = s.bkd := rfl
@[simp] theorem State.setLink_lcs (s : State) (n : Nat) (l : Link) : (s.setLink n l).lcs = s.lcs := rfl
@[simp] theorem State.setLink_rcd (s : State) (n : Nat) (l : Link) : (s.setLink n l).rcd = s.rcd := rfl
@[simp] theorem State.setLink_rwp (s : State) (n : Nat) (l : Link) : (s.setLink n l).rwp = s.rwp := rfl
@[simp] theorem State.setLink_fresh (s : State) (n : Nat) (l : Link) : (s.setLink n l).fresh = s.fresh := rfl
@[simp] theorem State.setLink_pending (s : State) (n : Nat) (l : Link) : (s.setLink n l).pending = s.pending := rfl

@[simp] theorem State.setMonitor_part (s : State) (k : Nat) (m : Monitor) : (s.setMonitor k m).part = s.part := rfl
@[simp] theorem State.setMonitor_sys (s : State) (k : Nat) (m : Monitor) : (s.setMonitor k m).sys = s.sys := rfl
@[simp] theorem State.setMonitor_boot (s : State) (k : Nat) (m : Monitor) : (s.setMonitor k m).boot = s.boot := rfl
@[simp] theorem State.setMonitor_pwr (s : State) (k : Nat) (m : Monitor) : (s.setMonitor k m).pwr = s.pwr := rfl
@[simp] theorem State.setMonitor_img (s : State) (k : Nat) (m : Monitor) : (s.setMonitor k m).img = s.img := rfl
@[simp] theorem State.setMonitor_host (s : State) (k : Nat) (m : Monitor) : (s.setMonitor k m).host = s.host := rfl
@[simp] theorem State.setMonitor_twl (s : State) (k : Nat) (m : Monitor) : (s.setMonitor k m).twl = s.twl := rfl
@[simp] theorem State.setMonitor_dmk (s : State) (k : Nat) (m : Monitor) : (s.setMonitor k m).dmk = s.dmk := rfl
@[simp] theorem State.setMonitor_cal (s : State) (k : Nat) (m : Monitor) : (s.setMonitor k m).cal = s.cal := rfl
@[simp] theorem State.setMonitor_srg (s : State) (k : Nat) (m : Monitor) : (s.setMonitor k m).srg = s.srg := rfl
@[simp] theorem State.setMonitor_tul (s : State) (k : Nat) (m : Monitor) : (s.setMonitor k m).tul = s.tul := rfl
@[simp] theorem State.setMonitor_hsh (s : State) (k : Nat) (m : Monitor) : (s.setMonitor k m).hsh = s.hsh := rfl
@[simp] theorem State.setMonitor_ent (s : State) (k : Nat) (m : Monitor) : (s.setMonitor k m).ent = s.ent := rfl
@[simp] theorem State.setMonitor_zyn (s : State) (k : Nat) (m : Monitor) : (s.setMonitor k m).zyn = s.zyn := rfl
@[simp] theorem State.setMonitor_supv (s : State) (k : Nat) (m : Monitor) : (s.setMonitor k m).supv = s.supv := rfl
@[simp] theorem State.setMonitor_mem (s : State) (k : Nat) (m : Monitor) : (s.setMonitor k m).mem = s.mem := rfl
@[simp] theorem State.setMonitor_gate (s : State) (k : Nat) (m : Monitor) : (s.setMonitor k m).gate = s.gate := rfl
@[simp] theorem State.setMonitor_bkd (s : State) (k : Nat) (m : Monitor) : (s.setMonitor k m).bkd = s.bkd := rfl
@[simp] theorem State.setMonitor_lcs (s : State) (k : Nat) (m : Monitor) : (s.setMonitor k m).lcs = s.lcs := rfl
@[simp] theorem State.setMonitor_rcd (s : State) (k : Nat) (m : Monitor) : (s.setMonitor k m).rcd = s.rcd := rfl
@[simp] theorem State.setMonitor_blk (s : State) (k : Nat) (m : Monitor) : (s.setMonitor k m).blk = s.blk := rfl
@[simp] theorem State.setMonitor_rwp (s : State) (k : Nat) (m : Monitor) : (s.setMonitor k m).rwp = s.rwp := rfl
@[simp] theorem State.setMonitor_fresh (s : State) (k : Nat) (m : Monitor) : (s.setMonitor k m).fresh = s.fresh := rfl
@[simp] theorem State.setMonitor_pending (s : State) (k : Nat) (m : Monitor) : (s.setMonitor k m).pending = s.pending := rfl

@[simp] theorem State.setBox_part (s : State) (n u : Nat) (m : Mailbox) : (s.setBox n u m).part = s.part := rfl
@[simp] theorem State.setBox_sys (s : State) (n u : Nat) (m : Mailbox) : (s.setBox n u m).sys = s.sys := rfl
@[simp] theorem State.setBox_boot (s : State) (n u : Nat) (m : Mailbox) : (s.setBox n u m).boot = s.boot := rfl
@[simp] theorem State.setBox_pwr (s : State) (n u : Nat) (m : Mailbox) : (s.setBox n u m).pwr = s.pwr := rfl
@[simp] theorem State.setBox_img (s : State) (n u : Nat) (m : Mailbox) : (s.setBox n u m).img = s.img := rfl
@[simp] theorem State.setBox_host (s : State) (n u : Nat) (m : Mailbox) : (s.setBox n u m).host = s.host := rfl
@[simp] theorem State.setBox_twl (s : State) (n u : Nat) (m : Mailbox) : (s.setBox n u m).twl = s.twl := rfl
@[simp] theorem State.setBox_dmk (s : State) (n u : Nat) (m : Mailbox) : (s.setBox n u m).dmk = s.dmk := rfl
@[simp] theorem State.setBox_cal (s : State) (n u : Nat) (m : Mailbox) : (s.setBox n u m).cal = s.cal := rfl
@[simp] theorem State.setBox_srg (s : State) (n u : Nat) (m : Mailbox) : (s.setBox n u m).srg = s.srg := rfl
@[simp] theorem State.setBox_tul (s : State) (n u : Nat) (m : Mailbox) : (s.setBox n u m).tul = s.tul := rfl
@[simp] theorem State.setBox_hsh (s : State) (n u : Nat) (m : Mailbox) : (s.setBox n u m).hsh = s.hsh := rfl
@[simp] theorem State.setBox_ent (s : State) (n u : Nat) (m : Mailbox) : (s.setBox n u m).ent = s.ent := rfl
@[simp] theorem State.setBox_supv (s : State) (n u : Nat) (m : Mailbox) : (s.setBox n u m).supv = s.supv := rfl
@[simp] theorem State.setBox_mem (s : State) (n u : Nat) (m : Mailbox) : (s.setBox n u m).mem = s.mem := rfl
@[simp] theorem State.setBox_gate (s : State) (n u : Nat) (m : Mailbox) : (s.setBox n u m).gate = s.gate := rfl
@[simp] theorem State.setBox_lace (s : State) (n u : Nat) (m : Mailbox) : (s.setBox n u m).lace = s.lace := rfl
@[simp] theorem State.setBox_bkd (s : State) (n u : Nat) (m : Mailbox) : (s.setBox n u m).bkd = s.bkd := rfl
@[simp] theorem State.setBox_lcs (s : State) (n u : Nat) (m : Mailbox) : (s.setBox n u m).lcs = s.lcs := rfl
@[simp] theorem State.setBox_rcd (s : State) (n u : Nat) (m : Mailbox) : (s.setBox n u m).rcd = s.rcd := rfl
@[simp] theorem State.setBox_blk (s : State) (n u : Nat) (m : Mailbox) : (s.setBox n u m).blk = s.blk := rfl
@[simp] theorem State.setBox_rwp (s : State) (n u : Nat) (m : Mailbox) : (s.setBox n u m).rwp = s.rwp := rfl
@[simp] theorem State.setBox_fresh (s : State) (n u : Nat) (m : Mailbox) : (s.setBox n u m).fresh = s.fresh := rfl
@[simp] theorem State.setBox_pending (s : State) (n u : Nat) (m : Mailbox) : (s.setBox n u m).pending = s.pending := rfl

@[simp] theorem State.setEngine_part (s : State) (u : EngUnit) (e : Engine) : (s.setEngine u e).part = s.part := by cases u <;> rfl
@[simp] theorem State.setEngine_sys (s : State) (u : EngUnit) (e : Engine) : (s.setEngine u e).sys = s.sys := by cases u <;> rfl
@[simp] theorem State.setEngine_boot (s : State) (u : EngUnit) (e : Engine) : (s.setEngine u e).boot = s.boot := by cases u <;> rfl
@[simp] theorem State.setEngine_pwr (s : State) (u : EngUnit) (e : Engine) : (s.setEngine u e).pwr = s.pwr := by cases u <;> rfl
@[simp] theorem State.setEngine_img (s : State) (u : EngUnit) (e : Engine) : (s.setEngine u e).img = s.img := by cases u <;> rfl
@[simp] theorem State.setEngine_host (s : State) (u : EngUnit) (e : Engine) : (s.setEngine u e).host = s.host := by cases u <;> rfl
@[simp] theorem State.setEngine_twl (s : State) (u : EngUnit) (e : Engine) : (s.setEngine u e).twl = s.twl := by cases u <;> rfl
@[simp] theorem State.setEngine_dmk (s : State) (u : EngUnit) (e : Engine) : (s.setEngine u e).dmk = s.dmk := by cases u <;> rfl
@[simp] theorem State.setEngine_ent (s : State) (u : EngUnit) (e : Engine) : (s.setEngine u e).ent = s.ent := by cases u <;> rfl
@[simp] theorem State.setEngine_zyn (s : State) (u : EngUnit) (e : Engine) : (s.setEngine u e).zyn = s.zyn := by cases u <;> rfl
@[simp] theorem State.setEngine_supv (s : State) (u : EngUnit) (e : Engine) : (s.setEngine u e).supv = s.supv := by cases u <;> rfl
@[simp] theorem State.setEngine_mem (s : State) (u : EngUnit) (e : Engine) : (s.setEngine u e).mem = s.mem := by cases u <;> rfl
@[simp] theorem State.setEngine_gate (s : State) (u : EngUnit) (e : Engine) : (s.setEngine u e).gate = s.gate := by cases u <;> rfl
@[simp] theorem State.setEngine_lace (s : State) (u : EngUnit) (e : Engine) : (s.setEngine u e).lace = s.lace := by cases u <;> rfl
@[simp] theorem State.setEngine_bkd (s : State) (u : EngUnit) (e : Engine) : (s.setEngine u e).bkd = s.bkd := by cases u <;> rfl
@[simp] theorem State.setEngine_lcs (s : State) (u : EngUnit) (e : Engine) : (s.setEngine u e).lcs = s.lcs := by cases u <;> rfl
@[simp] theorem State.setEngine_rcd (s : State) (u : EngUnit) (e : Engine) : (s.setEngine u e).rcd = s.rcd := by cases u <;> rfl
@[simp] theorem State.setEngine_blk (s : State) (u : EngUnit) (e : Engine) : (s.setEngine u e).blk = s.blk := by cases u <;> rfl
@[simp] theorem State.setEngine_rwp (s : State) (u : EngUnit) (e : Engine) : (s.setEngine u e).rwp = s.rwp := by cases u <;> rfl
@[simp] theorem State.setEngine_fresh (s : State) (u : EngUnit) (e : Engine) : (s.setEngine u e).fresh = s.fresh := by cases u <;> rfl
@[simp] theorem State.setEngine_pending (s : State) (u : EngUnit) (e : Engine) : (s.setEngine u e).pending = s.pending := by cases u <;> rfl

@[simp] theorem State.setInst_part (s : State) (u : EngUnit) (n : Nat) (i : UnitInst) : (s.setInst u n i).part = s.part := by cases u <;> rfl
@[simp] theorem State.setInst_sys (s : State) (u : EngUnit) (n : Nat) (i : UnitInst) : (s.setInst u n i).sys = s.sys := by cases u <;> rfl
@[simp] theorem State.setInst_boot (s : State) (u : EngUnit) (n : Nat) (i : UnitInst) : (s.setInst u n i).boot = s.boot := by cases u <;> rfl
@[simp] theorem State.setInst_pwr (s : State) (u : EngUnit) (n : Nat) (i : UnitInst) : (s.setInst u n i).pwr = s.pwr := by cases u <;> rfl
@[simp] theorem State.setInst_img (s : State) (u : EngUnit) (n : Nat) (i : UnitInst) : (s.setInst u n i).img = s.img := by cases u <;> rfl
@[simp] theorem State.setInst_host (s : State) (u : EngUnit) (n : Nat) (i : UnitInst) : (s.setInst u n i).host = s.host := by cases u <;> rfl
@[simp] theorem State.setInst_twl (s : State) (u : EngUnit) (n : Nat) (i : UnitInst) : (s.setInst u n i).twl = s.twl := by cases u <;> rfl
@[simp] theorem State.setInst_dmk (s : State) (u : EngUnit) (n : Nat) (i : UnitInst) : (s.setInst u n i).dmk = s.dmk := by cases u <;> rfl
@[simp] theorem State.setInst_ent (s : State) (u : EngUnit) (n : Nat) (i : UnitInst) : (s.setInst u n i).ent = s.ent := by cases u <;> rfl
@[simp] theorem State.setInst_zyn (s : State) (u : EngUnit) (n : Nat) (i : UnitInst) : (s.setInst u n i).zyn = s.zyn := by cases u <;> rfl
@[simp] theorem State.setInst_supv (s : State) (u : EngUnit) (n : Nat) (i : UnitInst) : (s.setInst u n i).supv = s.supv := by cases u <;> rfl
@[simp] theorem State.setInst_mem (s : State) (u : EngUnit) (n : Nat) (i : UnitInst) : (s.setInst u n i).mem = s.mem := by cases u <;> rfl
@[simp] theorem State.setInst_gate (s : State) (u : EngUnit) (n : Nat) (i : UnitInst) : (s.setInst u n i).gate = s.gate := by cases u <;> rfl
@[simp] theorem State.setInst_lace (s : State) (u : EngUnit) (n : Nat) (i : UnitInst) : (s.setInst u n i).lace = s.lace := by cases u <;> rfl
@[simp] theorem State.setInst_bkd (s : State) (u : EngUnit) (n : Nat) (i : UnitInst) : (s.setInst u n i).bkd = s.bkd := by cases u <;> rfl
@[simp] theorem State.setInst_lcs (s : State) (u : EngUnit) (n : Nat) (i : UnitInst) : (s.setInst u n i).lcs = s.lcs := by cases u <;> rfl
@[simp] theorem State.setInst_rcd (s : State) (u : EngUnit) (n : Nat) (i : UnitInst) : (s.setInst u n i).rcd = s.rcd := by cases u <;> rfl
@[simp] theorem State.setInst_blk (s : State) (u : EngUnit) (n : Nat) (i : UnitInst) : (s.setInst u n i).blk = s.blk := by cases u <;> rfl
@[simp] theorem State.setInst_rwp (s : State) (u : EngUnit) (n : Nat) (i : UnitInst) : (s.setInst u n i).rwp = s.rwp := by cases u <;> rfl
@[simp] theorem State.setInst_fresh (s : State) (u : EngUnit) (n : Nat) (i : UnitInst) : (s.setInst u n i).fresh = s.fresh := by cases u <;> rfl
@[simp] theorem State.setInst_pending (s : State) (u : EngUnit) (n : Nat) (i : UnitInst) : (s.setInst u n i).pending = s.pending := by cases u <;> rfl

@[simp] theorem State.setGres_part (s : State) (w : World) (g : GateRes) : (s.setGres w g).part = s.part := by cases w <;> rfl
@[simp] theorem State.setGres_sys (s : State) (w : World) (g : GateRes) : (s.setGres w g).sys = s.sys := by cases w <;> rfl
@[simp] theorem State.setGres_boot (s : State) (w : World) (g : GateRes) : (s.setGres w g).boot = s.boot := by cases w <;> rfl
@[simp] theorem State.setGres_img (s : State) (w : World) (g : GateRes) : (s.setGres w g).img = s.img := by cases w <;> rfl
@[simp] theorem State.setGres_host (s : State) (w : World) (g : GateRes) : (s.setGres w g).host = s.host := by cases w <;> rfl
@[simp] theorem State.setGres_twl (s : State) (w : World) (g : GateRes) : (s.setGres w g).twl = s.twl := by cases w <;> rfl
@[simp] theorem State.setGres_dmk (s : State) (w : World) (g : GateRes) : (s.setGres w g).dmk = s.dmk := by cases w <;> rfl
@[simp] theorem State.setGres_cal (s : State) (w : World) (g : GateRes) : (s.setGres w g).cal = s.cal := by cases w <;> rfl
@[simp] theorem State.setGres_srg (s : State) (w : World) (g : GateRes) : (s.setGres w g).srg = s.srg := by cases w <;> rfl
@[simp] theorem State.setGres_tul (s : State) (w : World) (g : GateRes) : (s.setGres w g).tul = s.tul := by cases w <;> rfl
@[simp] theorem State.setGres_hsh (s : State) (w : World) (g : GateRes) : (s.setGres w g).hsh = s.hsh := by cases w <;> rfl
@[simp] theorem State.setGres_ent (s : State) (w : World) (g : GateRes) : (s.setGres w g).ent = s.ent := by cases w <;> rfl
@[simp] theorem State.setGres_zyn (s : State) (w : World) (g : GateRes) : (s.setGres w g).zyn = s.zyn := by cases w <;> rfl
@[simp] theorem State.setGres_supv (s : State) (w : World) (g : GateRes) : (s.setGres w g).supv = s.supv := by cases w <;> rfl
@[simp] theorem State.setGres_mem (s : State) (w : World) (g : GateRes) : (s.setGres w g).mem = s.mem := by cases w <;> rfl
@[simp] theorem State.setGres_gate (s : State) (w : World) (g : GateRes) : (s.setGres w g).gate = s.gate := by cases w <;> rfl
@[simp] theorem State.setGres_lace (s : State) (w : World) (g : GateRes) : (s.setGres w g).lace = s.lace := by cases w <;> rfl
@[simp] theorem State.setGres_bkd (s : State) (w : World) (g : GateRes) : (s.setGres w g).bkd = s.bkd := by cases w <;> rfl
@[simp] theorem State.setGres_lcs (s : State) (w : World) (g : GateRes) : (s.setGres w g).lcs = s.lcs := by cases w <;> rfl
@[simp] theorem State.setGres_rcd (s : State) (w : World) (g : GateRes) : (s.setGres w g).rcd = s.rcd := by cases w <;> rfl
@[simp] theorem State.setGres_blk (s : State) (w : World) (g : GateRes) : (s.setGres w g).blk = s.blk := by cases w <;> rfl
@[simp] theorem State.setGres_rwp (s : State) (w : World) (g : GateRes) : (s.setGres w g).rwp = s.rwp := by cases w <;> rfl
@[simp] theorem State.setGres_fresh (s : State) (w : World) (g : GateRes) : (s.setGres w g).fresh = s.fresh := by cases w <;> rfl
@[simp] theorem State.setGres_pending (s : State) (w : World) (g : GateRes) : (s.setGres w g).pending = s.pending := by cases w <;> rfl

@[simp] theorem State.setMramSlot_part (s : State) (b : Bool) (m : SMap Byte) : (s.setMramSlot b m).part = s.part := by cases b <;> rfl
@[simp] theorem State.setMramSlot_sys (s : State) (b : Bool) (m : SMap Byte) : (s.setMramSlot b m).sys = s.sys := by cases b <;> rfl
@[simp] theorem State.setMramSlot_boot (s : State) (b : Bool) (m : SMap Byte) : (s.setMramSlot b m).boot = s.boot := by cases b <;> rfl
@[simp] theorem State.setMramSlot_pwr (s : State) (b : Bool) (m : SMap Byte) : (s.setMramSlot b m).pwr = s.pwr := by cases b <;> rfl
@[simp] theorem State.setMramSlot_host (s : State) (b : Bool) (m : SMap Byte) : (s.setMramSlot b m).host = s.host := by cases b <;> rfl
@[simp] theorem State.setMramSlot_twl (s : State) (b : Bool) (m : SMap Byte) : (s.setMramSlot b m).twl = s.twl := by cases b <;> rfl
@[simp] theorem State.setMramSlot_dmk (s : State) (b : Bool) (m : SMap Byte) : (s.setMramSlot b m).dmk = s.dmk := by cases b <;> rfl
@[simp] theorem State.setMramSlot_cal (s : State) (b : Bool) (m : SMap Byte) : (s.setMramSlot b m).cal = s.cal := by cases b <;> rfl
@[simp] theorem State.setMramSlot_srg (s : State) (b : Bool) (m : SMap Byte) : (s.setMramSlot b m).srg = s.srg := by cases b <;> rfl
@[simp] theorem State.setMramSlot_tul (s : State) (b : Bool) (m : SMap Byte) : (s.setMramSlot b m).tul = s.tul := by cases b <;> rfl
@[simp] theorem State.setMramSlot_hsh (s : State) (b : Bool) (m : SMap Byte) : (s.setMramSlot b m).hsh = s.hsh := by cases b <;> rfl
@[simp] theorem State.setMramSlot_ent (s : State) (b : Bool) (m : SMap Byte) : (s.setMramSlot b m).ent = s.ent := by cases b <;> rfl
@[simp] theorem State.setMramSlot_zyn (s : State) (b : Bool) (m : SMap Byte) : (s.setMramSlot b m).zyn = s.zyn := by cases b <;> rfl
@[simp] theorem State.setMramSlot_supv (s : State) (b : Bool) (m : SMap Byte) : (s.setMramSlot b m).supv = s.supv := by cases b <;> rfl
@[simp] theorem State.setMramSlot_mem (s : State) (b : Bool) (m : SMap Byte) : (s.setMramSlot b m).mem = s.mem := by cases b <;> rfl
@[simp] theorem State.setMramSlot_gate (s : State) (b : Bool) (m : SMap Byte) : (s.setMramSlot b m).gate = s.gate := by cases b <;> rfl
@[simp] theorem State.setMramSlot_lace (s : State) (b : Bool) (m : SMap Byte) : (s.setMramSlot b m).lace = s.lace := by cases b <;> rfl
@[simp] theorem State.setMramSlot_bkd (s : State) (b : Bool) (m : SMap Byte) : (s.setMramSlot b m).bkd = s.bkd := by cases b <;> rfl
@[simp] theorem State.setMramSlot_lcs (s : State) (b : Bool) (m : SMap Byte) : (s.setMramSlot b m).lcs = s.lcs := by cases b <;> rfl
@[simp] theorem State.setMramSlot_rcd (s : State) (b : Bool) (m : SMap Byte) : (s.setMramSlot b m).rcd = s.rcd := by cases b <;> rfl
@[simp] theorem State.setMramSlot_blk (s : State) (b : Bool) (m : SMap Byte) : (s.setMramSlot b m).blk = s.blk := by cases b <;> rfl
@[simp] theorem State.setMramSlot_rwp (s : State) (b : Bool) (m : SMap Byte) : (s.setMramSlot b m).rwp = s.rwp := by cases b <;> rfl
@[simp] theorem State.setMramSlot_fresh (s : State) (b : Bool) (m : SMap Byte) : (s.setMramSlot b m).fresh = s.fresh := by cases b <;> rfl
@[simp] theorem State.setMramSlot_pending (s : State) (b : Bool) (m : SMap Byte) : (s.setMramSlot b m).pending = s.pending := by cases b <;> rfl

@[simp] theorem State.setPc_part (s : State) (n : Nat) (pc : W64) : (s.setPc n pc).part = s.part := rfl
@[simp] theorem State.setPc_sys (s : State) (n : Nat) (pc : W64) : (s.setPc n pc).sys = s.sys := rfl
@[simp] theorem State.setPc_boot (s : State) (n : Nat) (pc : W64) : (s.setPc n pc).boot = s.boot := rfl
@[simp] theorem State.setPc_pwr (s : State) (n : Nat) (pc : W64) : (s.setPc n pc).pwr = s.pwr := rfl
@[simp] theorem State.setPc_img (s : State) (n : Nat) (pc : W64) : (s.setPc n pc).img = s.img := rfl
@[simp] theorem State.setPc_host (s : State) (n : Nat) (pc : W64) : (s.setPc n pc).host = s.host := rfl
@[simp] theorem State.setPc_twl (s : State) (n : Nat) (pc : W64) : (s.setPc n pc).twl = s.twl := rfl
@[simp] theorem State.setPc_dmk (s : State) (n : Nat) (pc : W64) : (s.setPc n pc).dmk = s.dmk := rfl
@[simp] theorem State.setPc_cal (s : State) (n : Nat) (pc : W64) : (s.setPc n pc).cal = s.cal := rfl
@[simp] theorem State.setPc_srg (s : State) (n : Nat) (pc : W64) : (s.setPc n pc).srg = s.srg := rfl
@[simp] theorem State.setPc_tul (s : State) (n : Nat) (pc : W64) : (s.setPc n pc).tul = s.tul := rfl
@[simp] theorem State.setPc_hsh (s : State) (n : Nat) (pc : W64) : (s.setPc n pc).hsh = s.hsh := rfl
@[simp] theorem State.setPc_ent (s : State) (n : Nat) (pc : W64) : (s.setPc n pc).ent = s.ent := rfl
@[simp] theorem State.setPc_supv (s : State) (n : Nat) (pc : W64) : (s.setPc n pc).supv = s.supv := rfl
@[simp] theorem State.setPc_mem (s : State) (n : Nat) (pc : W64) : (s.setPc n pc).mem = s.mem := rfl
@[simp] theorem State.setPc_gate (s : State) (n : Nat) (pc : W64) : (s.setPc n pc).gate = s.gate := rfl
@[simp] theorem State.setPc_lace (s : State) (n : Nat) (pc : W64) : (s.setPc n pc).lace = s.lace := rfl
@[simp] theorem State.setPc_bkd (s : State) (n : Nat) (pc : W64) : (s.setPc n pc).bkd = s.bkd := rfl
@[simp] theorem State.setPc_lcs (s : State) (n : Nat) (pc : W64) : (s.setPc n pc).lcs = s.lcs := rfl
@[simp] theorem State.setPc_rcd (s : State) (n : Nat) (pc : W64) : (s.setPc n pc).rcd = s.rcd := rfl
@[simp] theorem State.setPc_blk (s : State) (n : Nat) (pc : W64) : (s.setPc n pc).blk = s.blk := rfl
@[simp] theorem State.setPc_rwp (s : State) (n : Nat) (pc : W64) : (s.setPc n pc).rwp = s.rwp := rfl
@[simp] theorem State.setPc_fresh (s : State) (n : Nat) (pc : W64) : (s.setPc n pc).fresh = s.fresh := rfl
@[simp] theorem State.setPc_pending (s : State) (n : Nat) (pc : W64) : (s.setPc n pc).pending = s.pending := rfl

@[simp] theorem State.setRd_part (s : State) (n rd : Nat) (v : W64) : (s.setRd n rd v).part = s.part := rfl
@[simp] theorem State.setRd_sys (s : State) (n rd : Nat) (v : W64) : (s.setRd n rd v).sys = s.sys := rfl
@[simp] theorem State.setRd_boot (s : State) (n rd : Nat) (v : W64) : (s.setRd n rd v).boot = s.boot := rfl
@[simp] theorem State.setRd_pwr (s : State) (n rd : Nat) (v : W64) : (s.setRd n rd v).pwr = s.pwr := rfl
@[simp] theorem State.setRd_img (s : State) (n rd : Nat) (v : W64) : (s.setRd n rd v).img = s.img := rfl
@[simp] theorem State.setRd_host (s : State) (n rd : Nat) (v : W64) : (s.setRd n rd v).host = s.host := rfl
@[simp] theorem State.setRd_twl (s : State) (n rd : Nat) (v : W64) : (s.setRd n rd v).twl = s.twl := rfl
@[simp] theorem State.setRd_dmk (s : State) (n rd : Nat) (v : W64) : (s.setRd n rd v).dmk = s.dmk := rfl
@[simp] theorem State.setRd_cal (s : State) (n rd : Nat) (v : W64) : (s.setRd n rd v).cal = s.cal := rfl
@[simp] theorem State.setRd_srg (s : State) (n rd : Nat) (v : W64) : (s.setRd n rd v).srg = s.srg := rfl
@[simp] theorem State.setRd_tul (s : State) (n rd : Nat) (v : W64) : (s.setRd n rd v).tul = s.tul := rfl
@[simp] theorem State.setRd_hsh (s : State) (n rd : Nat) (v : W64) : (s.setRd n rd v).hsh = s.hsh := rfl
@[simp] theorem State.setRd_ent (s : State) (n rd : Nat) (v : W64) : (s.setRd n rd v).ent = s.ent := rfl
@[simp] theorem State.setRd_supv (s : State) (n rd : Nat) (v : W64) : (s.setRd n rd v).supv = s.supv := rfl
@[simp] theorem State.setRd_mem (s : State) (n rd : Nat) (v : W64) : (s.setRd n rd v).mem = s.mem := rfl
@[simp] theorem State.setRd_gate (s : State) (n rd : Nat) (v : W64) : (s.setRd n rd v).gate = s.gate := rfl
@[simp] theorem State.setRd_lace (s : State) (n rd : Nat) (v : W64) : (s.setRd n rd v).lace = s.lace := rfl
@[simp] theorem State.setRd_bkd (s : State) (n rd : Nat) (v : W64) : (s.setRd n rd v).bkd = s.bkd := rfl
@[simp] theorem State.setRd_lcs (s : State) (n rd : Nat) (v : W64) : (s.setRd n rd v).lcs = s.lcs := rfl
@[simp] theorem State.setRd_rcd (s : State) (n rd : Nat) (v : W64) : (s.setRd n rd v).rcd = s.rcd := rfl
@[simp] theorem State.setRd_blk (s : State) (n rd : Nat) (v : W64) : (s.setRd n rd v).blk = s.blk := rfl
@[simp] theorem State.setRd_rwp (s : State) (n rd : Nat) (v : W64) : (s.setRd n rd v).rwp = s.rwp := rfl
@[simp] theorem State.setRd_fresh (s : State) (n rd : Nat) (v : W64) : (s.setRd n rd v).fresh = s.fresh := rfl
@[simp] theorem State.setRd_pending (s : State) (n rd : Nat) (v : W64) : (s.setRd n rd v).pending = s.pending := rfl

@[simp] theorem State.haltCore_part (s : State) (n : Nat) : (s.haltCore n).part = s.part := rfl
@[simp] theorem State.haltCore_sys (s : State) (n : Nat) : (s.haltCore n).sys = s.sys := rfl
@[simp] theorem State.haltCore_boot (s : State) (n : Nat) : (s.haltCore n).boot = s.boot := rfl
@[simp] theorem State.haltCore_pwr (s : State) (n : Nat) : (s.haltCore n).pwr = s.pwr := rfl
@[simp] theorem State.haltCore_img (s : State) (n : Nat) : (s.haltCore n).img = s.img := rfl
@[simp] theorem State.haltCore_host (s : State) (n : Nat) : (s.haltCore n).host = s.host := rfl
@[simp] theorem State.haltCore_twl (s : State) (n : Nat) : (s.haltCore n).twl = s.twl := rfl
@[simp] theorem State.haltCore_dmk (s : State) (n : Nat) : (s.haltCore n).dmk = s.dmk := rfl
@[simp] theorem State.haltCore_cal (s : State) (n : Nat) : (s.haltCore n).cal = s.cal := rfl
@[simp] theorem State.haltCore_srg (s : State) (n : Nat) : (s.haltCore n).srg = s.srg := rfl
@[simp] theorem State.haltCore_tul (s : State) (n : Nat) : (s.haltCore n).tul = s.tul := rfl
@[simp] theorem State.haltCore_hsh (s : State) (n : Nat) : (s.haltCore n).hsh = s.hsh := rfl
@[simp] theorem State.haltCore_ent (s : State) (n : Nat) : (s.haltCore n).ent = s.ent := rfl
@[simp] theorem State.haltCore_zyn (s : State) (n : Nat) : (s.haltCore n).zyn = s.zyn := rfl
@[simp] theorem State.haltCore_supv (s : State) (n : Nat) : (s.haltCore n).supv = s.supv := rfl
@[simp] theorem State.haltCore_mem (s : State) (n : Nat) : (s.haltCore n).mem = s.mem := rfl
@[simp] theorem State.haltCore_gate (s : State) (n : Nat) : (s.haltCore n).gate = s.gate := rfl
@[simp] theorem State.haltCore_lace (s : State) (n : Nat) : (s.haltCore n).lace = s.lace := rfl
@[simp] theorem State.haltCore_bkd (s : State) (n : Nat) : (s.haltCore n).bkd = s.bkd := rfl
@[simp] theorem State.haltCore_rcd (s : State) (n : Nat) : (s.haltCore n).rcd = s.rcd := rfl
@[simp] theorem State.haltCore_blk (s : State) (n : Nat) : (s.haltCore n).blk = s.blk := rfl
@[simp] theorem State.haltCore_rwp (s : State) (n : Nat) : (s.haltCore n).rwp = s.rwp := rfl
@[simp] theorem State.haltCore_fresh (s : State) (n : Nat) : (s.haltCore n).fresh = s.fresh := rfl
@[simp] theorem State.haltCore_pending (s : State) (n : Nat) : (s.haltCore n).pending = s.pending := rfl

@[simp] theorem State.dapAnswer_part (s : State) (b : Bytes) : (s.dapAnswer b).part = s.part := rfl
@[simp] theorem State.dapAnswer_sys (s : State) (b : Bytes) : (s.dapAnswer b).sys = s.sys := rfl
@[simp] theorem State.dapAnswer_boot (s : State) (b : Bytes) : (s.dapAnswer b).boot = s.boot := rfl
@[simp] theorem State.dapAnswer_pwr (s : State) (b : Bytes) : (s.dapAnswer b).pwr = s.pwr := rfl
@[simp] theorem State.dapAnswer_img (s : State) (b : Bytes) : (s.dapAnswer b).img = s.img := rfl
@[simp] theorem State.dapAnswer_host (s : State) (b : Bytes) : (s.dapAnswer b).host = s.host := rfl
@[simp] theorem State.dapAnswer_twl (s : State) (b : Bytes) : (s.dapAnswer b).twl = s.twl := rfl
@[simp] theorem State.dapAnswer_dmk (s : State) (b : Bytes) : (s.dapAnswer b).dmk = s.dmk := rfl
@[simp] theorem State.dapAnswer_cal (s : State) (b : Bytes) : (s.dapAnswer b).cal = s.cal := rfl
@[simp] theorem State.dapAnswer_srg (s : State) (b : Bytes) : (s.dapAnswer b).srg = s.srg := rfl
@[simp] theorem State.dapAnswer_tul (s : State) (b : Bytes) : (s.dapAnswer b).tul = s.tul := rfl
@[simp] theorem State.dapAnswer_hsh (s : State) (b : Bytes) : (s.dapAnswer b).hsh = s.hsh := rfl
@[simp] theorem State.dapAnswer_ent (s : State) (b : Bytes) : (s.dapAnswer b).ent = s.ent := rfl
@[simp] theorem State.dapAnswer_zyn (s : State) (b : Bytes) : (s.dapAnswer b).zyn = s.zyn := rfl
@[simp] theorem State.dapAnswer_supv (s : State) (b : Bytes) : (s.dapAnswer b).supv = s.supv := rfl
@[simp] theorem State.dapAnswer_mem (s : State) (b : Bytes) : (s.dapAnswer b).mem = s.mem := rfl
@[simp] theorem State.dapAnswer_gate (s : State) (b : Bytes) : (s.dapAnswer b).gate = s.gate := rfl
@[simp] theorem State.dapAnswer_lace (s : State) (b : Bytes) : (s.dapAnswer b).lace = s.lace := rfl
@[simp] theorem State.dapAnswer_bkd (s : State) (b : Bytes) : (s.dapAnswer b).bkd = s.bkd := rfl
@[simp] theorem State.dapAnswer_rcd (s : State) (b : Bytes) : (s.dapAnswer b).rcd = s.rcd := rfl
@[simp] theorem State.dapAnswer_blk (s : State) (b : Bytes) : (s.dapAnswer b).blk = s.blk := rfl
@[simp] theorem State.dapAnswer_rwp (s : State) (b : Bytes) : (s.dapAnswer b).rwp = s.rwp := rfl
@[simp] theorem State.dapAnswer_fresh (s : State) (b : Bytes) : (s.dapAnswer b).fresh = s.fresh := rfl
@[simp] theorem State.dapAnswer_pending (s : State) (b : Bytes) : (s.dapAnswer b).pending = s.pending := rfl

@[simp] theorem State.tapSelect_part (s : State) (i : TapInstr) (ok : Bool) : (s.tapSelect i ok).part = s.part := rfl
@[simp] theorem State.tapSelect_sys (s : State) (i : TapInstr) (ok : Bool) : (s.tapSelect i ok).sys = s.sys := rfl
@[simp] theorem State.tapSelect_boot (s : State) (i : TapInstr) (ok : Bool) : (s.tapSelect i ok).boot = s.boot := rfl
@[simp] theorem State.tapSelect_pwr (s : State) (i : TapInstr) (ok : Bool) : (s.tapSelect i ok).pwr = s.pwr := rfl
@[simp] theorem State.tapSelect_img (s : State) (i : TapInstr) (ok : Bool) : (s.tapSelect i ok).img = s.img := rfl
@[simp] theorem State.tapSelect_host (s : State) (i : TapInstr) (ok : Bool) : (s.tapSelect i ok).host = s.host := rfl
@[simp] theorem State.tapSelect_twl (s : State) (i : TapInstr) (ok : Bool) : (s.tapSelect i ok).twl = s.twl := rfl
@[simp] theorem State.tapSelect_dmk (s : State) (i : TapInstr) (ok : Bool) : (s.tapSelect i ok).dmk = s.dmk := rfl
@[simp] theorem State.tapSelect_cal (s : State) (i : TapInstr) (ok : Bool) : (s.tapSelect i ok).cal = s.cal := rfl
@[simp] theorem State.tapSelect_srg (s : State) (i : TapInstr) (ok : Bool) : (s.tapSelect i ok).srg = s.srg := rfl
@[simp] theorem State.tapSelect_tul (s : State) (i : TapInstr) (ok : Bool) : (s.tapSelect i ok).tul = s.tul := rfl
@[simp] theorem State.tapSelect_hsh (s : State) (i : TapInstr) (ok : Bool) : (s.tapSelect i ok).hsh = s.hsh := rfl
@[simp] theorem State.tapSelect_ent (s : State) (i : TapInstr) (ok : Bool) : (s.tapSelect i ok).ent = s.ent := rfl
@[simp] theorem State.tapSelect_zyn (s : State) (i : TapInstr) (ok : Bool) : (s.tapSelect i ok).zyn = s.zyn := rfl
@[simp] theorem State.tapSelect_supv (s : State) (i : TapInstr) (ok : Bool) : (s.tapSelect i ok).supv = s.supv := rfl
@[simp] theorem State.tapSelect_mem (s : State) (i : TapInstr) (ok : Bool) : (s.tapSelect i ok).mem = s.mem := rfl
@[simp] theorem State.tapSelect_gate (s : State) (i : TapInstr) (ok : Bool) : (s.tapSelect i ok).gate = s.gate := rfl
@[simp] theorem State.tapSelect_lace (s : State) (i : TapInstr) (ok : Bool) : (s.tapSelect i ok).lace = s.lace := rfl
@[simp] theorem State.tapSelect_bkd (s : State) (i : TapInstr) (ok : Bool) : (s.tapSelect i ok).bkd = s.bkd := rfl
@[simp] theorem State.tapSelect_rcd (s : State) (i : TapInstr) (ok : Bool) : (s.tapSelect i ok).rcd = s.rcd := rfl
@[simp] theorem State.tapSelect_blk (s : State) (i : TapInstr) (ok : Bool) : (s.tapSelect i ok).blk = s.blk := rfl
@[simp] theorem State.tapSelect_rwp (s : State) (i : TapInstr) (ok : Bool) : (s.tapSelect i ok).rwp = s.rwp := rfl
@[simp] theorem State.tapSelect_fresh (s : State) (i : TapInstr) (ok : Bool) : (s.tapSelect i ok).fresh = s.fresh := rfl
@[simp] theorem State.tapSelect_pending (s : State) (i : TapInstr) (ok : Bool) : (s.tapSelect i ok).pending = s.pending := rfl

@[simp] theorem State.lockDamask_part (s : State) : (s.lockDamask).part = s.part := rfl
@[simp] theorem State.lockDamask_sys (s : State) : (s.lockDamask).sys = s.sys := rfl
@[simp] theorem State.lockDamask_boot (s : State) : (s.lockDamask).boot = s.boot := rfl
@[simp] theorem State.lockDamask_pwr (s : State) : (s.lockDamask).pwr = s.pwr := rfl
@[simp] theorem State.lockDamask_img (s : State) : (s.lockDamask).img = s.img := rfl
@[simp] theorem State.lockDamask_host (s : State) : (s.lockDamask).host = s.host := rfl
@[simp] theorem State.lockDamask_twl (s : State) : (s.lockDamask).twl = s.twl := rfl
@[simp] theorem State.lockDamask_cal (s : State) : (s.lockDamask).cal = s.cal := rfl
@[simp] theorem State.lockDamask_srg (s : State) : (s.lockDamask).srg = s.srg := rfl
@[simp] theorem State.lockDamask_tul (s : State) : (s.lockDamask).tul = s.tul := rfl
@[simp] theorem State.lockDamask_hsh (s : State) : (s.lockDamask).hsh = s.hsh := rfl
@[simp] theorem State.lockDamask_ent (s : State) : (s.lockDamask).ent = s.ent := rfl
@[simp] theorem State.lockDamask_zyn (s : State) : (s.lockDamask).zyn = s.zyn := rfl
@[simp] theorem State.lockDamask_supv (s : State) : (s.lockDamask).supv = s.supv := rfl
@[simp] theorem State.lockDamask_mem (s : State) : (s.lockDamask).mem = s.mem := rfl
@[simp] theorem State.lockDamask_gate (s : State) : (s.lockDamask).gate = s.gate := rfl
@[simp] theorem State.lockDamask_lace (s : State) : (s.lockDamask).lace = s.lace := rfl
@[simp] theorem State.lockDamask_bkd (s : State) : (s.lockDamask).bkd = s.bkd := rfl
@[simp] theorem State.lockDamask_lcs (s : State) : (s.lockDamask).lcs = s.lcs := rfl
@[simp] theorem State.lockDamask_rcd (s : State) : (s.lockDamask).rcd = s.rcd := rfl
@[simp] theorem State.lockDamask_blk (s : State) : (s.lockDamask).blk = s.blk := rfl
@[simp] theorem State.lockDamask_rwp (s : State) : (s.lockDamask).rwp = s.rwp := rfl
@[simp] theorem State.lockDamask_fresh (s : State) : (s.lockDamask).fresh = s.fresh := rfl
@[simp] theorem State.lockDamask_pending (s : State) : (s.lockDamask).pending = s.pending := rfl

@[simp] theorem State.wipeKeyc_part (s : State) : (s.wipeKeyc).part = s.part := rfl
@[simp] theorem State.wipeKeyc_sys (s : State) : (s.wipeKeyc).sys = s.sys := rfl
@[simp] theorem State.wipeKeyc_boot (s : State) : (s.wipeKeyc).boot = s.boot := rfl
@[simp] theorem State.wipeKeyc_pwr (s : State) : (s.wipeKeyc).pwr = s.pwr := rfl
@[simp] theorem State.wipeKeyc_img (s : State) : (s.wipeKeyc).img = s.img := rfl
@[simp] theorem State.wipeKeyc_host (s : State) : (s.wipeKeyc).host = s.host := rfl
@[simp] theorem State.wipeKeyc_twl (s : State) : (s.wipeKeyc).twl = s.twl := rfl
@[simp] theorem State.wipeKeyc_cal (s : State) : (s.wipeKeyc).cal = s.cal := rfl
@[simp] theorem State.wipeKeyc_srg (s : State) : (s.wipeKeyc).srg = s.srg := rfl
@[simp] theorem State.wipeKeyc_tul (s : State) : (s.wipeKeyc).tul = s.tul := rfl
@[simp] theorem State.wipeKeyc_hsh (s : State) : (s.wipeKeyc).hsh = s.hsh := rfl
@[simp] theorem State.wipeKeyc_ent (s : State) : (s.wipeKeyc).ent = s.ent := rfl
@[simp] theorem State.wipeKeyc_zyn (s : State) : (s.wipeKeyc).zyn = s.zyn := rfl
@[simp] theorem State.wipeKeyc_supv (s : State) : (s.wipeKeyc).supv = s.supv := rfl
@[simp] theorem State.wipeKeyc_mem (s : State) : (s.wipeKeyc).mem = s.mem := rfl
@[simp] theorem State.wipeKeyc_gate (s : State) : (s.wipeKeyc).gate = s.gate := rfl
@[simp] theorem State.wipeKeyc_lace (s : State) : (s.wipeKeyc).lace = s.lace := rfl
@[simp] theorem State.wipeKeyc_bkd (s : State) : (s.wipeKeyc).bkd = s.bkd := rfl
@[simp] theorem State.wipeKeyc_lcs (s : State) : (s.wipeKeyc).lcs = s.lcs := rfl
@[simp] theorem State.wipeKeyc_rcd (s : State) : (s.wipeKeyc).rcd = s.rcd := rfl
@[simp] theorem State.wipeKeyc_blk (s : State) : (s.wipeKeyc).blk = s.blk := rfl
@[simp] theorem State.wipeKeyc_rwp (s : State) : (s.wipeKeyc).rwp = s.rwp := rfl
@[simp] theorem State.wipeKeyc_fresh (s : State) : (s.wipeKeyc).fresh = s.fresh := rfl
@[simp] theorem State.wipeKeyc_pending (s : State) : (s.wipeKeyc).pending = s.pending := rfl

@[simp] theorem State.skip_part (s : State) (k : Nat) : (s.skip k).part = s.part := rfl
@[simp] theorem State.skip_sys (s : State) (k : Nat) : (s.skip k).sys = s.sys := rfl
@[simp] theorem State.skip_boot (s : State) (k : Nat) : (s.skip k).boot = s.boot := rfl
@[simp] theorem State.skip_pwr (s : State) (k : Nat) : (s.skip k).pwr = s.pwr := rfl
@[simp] theorem State.skip_img (s : State) (k : Nat) : (s.skip k).img = s.img := rfl
@[simp] theorem State.skip_host (s : State) (k : Nat) : (s.skip k).host = s.host := rfl
@[simp] theorem State.skip_twl (s : State) (k : Nat) : (s.skip k).twl = s.twl := rfl
@[simp] theorem State.skip_dmk (s : State) (k : Nat) : (s.skip k).dmk = s.dmk := rfl
@[simp] theorem State.skip_cal (s : State) (k : Nat) : (s.skip k).cal = s.cal := rfl
@[simp] theorem State.skip_srg (s : State) (k : Nat) : (s.skip k).srg = s.srg := rfl
@[simp] theorem State.skip_tul (s : State) (k : Nat) : (s.skip k).tul = s.tul := rfl
@[simp] theorem State.skip_hsh (s : State) (k : Nat) : (s.skip k).hsh = s.hsh := rfl
@[simp] theorem State.skip_ent (s : State) (k : Nat) : (s.skip k).ent = s.ent := rfl
@[simp] theorem State.skip_zyn (s : State) (k : Nat) : (s.skip k).zyn = s.zyn := rfl
@[simp] theorem State.skip_supv (s : State) (k : Nat) : (s.skip k).supv = s.supv := rfl
@[simp] theorem State.skip_mem (s : State) (k : Nat) : (s.skip k).mem = s.mem := rfl
@[simp] theorem State.skip_gate (s : State) (k : Nat) : (s.skip k).gate = s.gate := rfl
@[simp] theorem State.skip_lace (s : State) (k : Nat) : (s.skip k).lace = s.lace := rfl
@[simp] theorem State.skip_bkd (s : State) (k : Nat) : (s.skip k).bkd = s.bkd := rfl
@[simp] theorem State.skip_lcs (s : State) (k : Nat) : (s.skip k).lcs = s.lcs := rfl
@[simp] theorem State.skip_rcd (s : State) (k : Nat) : (s.skip k).rcd = s.rcd := rfl
@[simp] theorem State.skip_blk (s : State) (k : Nat) : (s.skip k).blk = s.blk := rfl
@[simp] theorem State.skip_rwp (s : State) (k : Nat) : (s.skip k).rwp = s.rwp := rfl
@[simp] theorem State.skip_pending (s : State) (k : Nat) : (s.skip k).pending = s.pending := rfl

@[simp] theorem State.drew_part (s : State) (n : Nat) : (s.drew n).part = s.part := rfl
@[simp] theorem State.drew_sys (s : State) (n : Nat) : (s.drew n).sys = s.sys := rfl
@[simp] theorem State.drew_boot (s : State) (n : Nat) : (s.drew n).boot = s.boot := rfl
@[simp] theorem State.drew_pwr (s : State) (n : Nat) : (s.drew n).pwr = s.pwr := rfl
@[simp] theorem State.drew_img (s : State) (n : Nat) : (s.drew n).img = s.img := rfl
@[simp] theorem State.drew_host (s : State) (n : Nat) : (s.drew n).host = s.host := rfl
@[simp] theorem State.drew_twl (s : State) (n : Nat) : (s.drew n).twl = s.twl := rfl
@[simp] theorem State.drew_dmk (s : State) (n : Nat) : (s.drew n).dmk = s.dmk := rfl
@[simp] theorem State.drew_cal (s : State) (n : Nat) : (s.drew n).cal = s.cal := rfl
@[simp] theorem State.drew_srg (s : State) (n : Nat) : (s.drew n).srg = s.srg := rfl
@[simp] theorem State.drew_tul (s : State) (n : Nat) : (s.drew n).tul = s.tul := rfl
@[simp] theorem State.drew_hsh (s : State) (n : Nat) : (s.drew n).hsh = s.hsh := rfl
@[simp] theorem State.drew_ent (s : State) (n : Nat) : (s.drew n).ent = s.ent := rfl
@[simp] theorem State.drew_zyn (s : State) (n : Nat) : (s.drew n).zyn = s.zyn := rfl
@[simp] theorem State.drew_supv (s : State) (n : Nat) : (s.drew n).supv = s.supv := rfl
@[simp] theorem State.drew_mem (s : State) (n : Nat) : (s.drew n).mem = s.mem := rfl
@[simp] theorem State.drew_gate (s : State) (n : Nat) : (s.drew n).gate = s.gate := rfl
@[simp] theorem State.drew_lace (s : State) (n : Nat) : (s.drew n).lace = s.lace := rfl
@[simp] theorem State.drew_bkd (s : State) (n : Nat) : (s.drew n).bkd = s.bkd := rfl
@[simp] theorem State.drew_lcs (s : State) (n : Nat) : (s.drew n).lcs = s.lcs := rfl
@[simp] theorem State.drew_rcd (s : State) (n : Nat) : (s.drew n).rcd = s.rcd := rfl
@[simp] theorem State.drew_blk (s : State) (n : Nat) : (s.drew n).blk = s.blk := rfl
@[simp] theorem State.drew_rwp (s : State) (n : Nat) : (s.drew n).rwp = s.rwp := rfl
@[simp] theorem State.drew_pending (s : State) (n : Nat) : (s.drew n).pending = s.pending := rfl

@[simp] theorem State.keepLock_part (s : State) : (s.keepLock).part = s.part := rfl
@[simp] theorem State.keepLock_sys (s : State) : (s.keepLock).sys = s.sys := rfl
@[simp] theorem State.keepLock_boot (s : State) : (s.keepLock).boot = s.boot := rfl
@[simp] theorem State.keepLock_pwr (s : State) : (s.keepLock).pwr = s.pwr := rfl
@[simp] theorem State.keepLock_img (s : State) : (s.keepLock).img = s.img := rfl
@[simp] theorem State.keepLock_host (s : State) : (s.keepLock).host = s.host := rfl
@[simp] theorem State.keepLock_twl (s : State) : (s.keepLock).twl = s.twl := rfl
@[simp] theorem State.keepLock_dmk (s : State) : (s.keepLock).dmk = s.dmk := rfl
@[simp] theorem State.keepLock_cal (s : State) : (s.keepLock).cal = s.cal := rfl
@[simp] theorem State.keepLock_srg (s : State) : (s.keepLock).srg = s.srg := rfl
@[simp] theorem State.keepLock_tul (s : State) : (s.keepLock).tul = s.tul := rfl
@[simp] theorem State.keepLock_hsh (s : State) : (s.keepLock).hsh = s.hsh := rfl
@[simp] theorem State.keepLock_ent (s : State) : (s.keepLock).ent = s.ent := rfl
@[simp] theorem State.keepLock_zyn (s : State) : (s.keepLock).zyn = s.zyn := rfl
@[simp] theorem State.keepLock_supv (s : State) : (s.keepLock).supv = s.supv := rfl
@[simp] theorem State.keepLock_mem (s : State) : (s.keepLock).mem = s.mem := rfl
@[simp] theorem State.keepLock_gate (s : State) : (s.keepLock).gate = s.gate := rfl
@[simp] theorem State.keepLock_lace (s : State) : (s.keepLock).lace = s.lace := rfl
@[simp] theorem State.keepLock_lcs (s : State) : (s.keepLock).lcs = s.lcs := rfl
@[simp] theorem State.keepLock_rcd (s : State) : (s.keepLock).rcd = s.rcd := rfl
@[simp] theorem State.keepLock_blk (s : State) : (s.keepLock).blk = s.blk := rfl
@[simp] theorem State.keepLock_rwp (s : State) : (s.keepLock).rwp = s.rwp := rfl
@[simp] theorem State.keepLock_fresh (s : State) : (s.keepLock).fresh = s.fresh := rfl
@[simp] theorem State.keepLock_pending (s : State) : (s.keepLock).pending = s.pending := rfl

@[simp] theorem State.tickCore_part (s : State) (n : Nat) (k : Option Nat) : (s.tickCore n k).part = s.part := rfl
@[simp] theorem State.tickCore_sys (s : State) (n : Nat) (k : Option Nat) : (s.tickCore n k).sys = s.sys := rfl
@[simp] theorem State.tickCore_boot (s : State) (n : Nat) (k : Option Nat) : (s.tickCore n k).boot = s.boot := rfl
@[simp] theorem State.tickCore_pwr (s : State) (n : Nat) (k : Option Nat) : (s.tickCore n k).pwr = s.pwr := rfl
@[simp] theorem State.tickCore_img (s : State) (n : Nat) (k : Option Nat) : (s.tickCore n k).img = s.img := rfl
@[simp] theorem State.tickCore_host (s : State) (n : Nat) (k : Option Nat) : (s.tickCore n k).host = s.host := rfl
@[simp] theorem State.tickCore_twl (s : State) (n : Nat) (k : Option Nat) : (s.tickCore n k).twl = s.twl := rfl
@[simp] theorem State.tickCore_dmk (s : State) (n : Nat) (k : Option Nat) : (s.tickCore n k).dmk = s.dmk := rfl
@[simp] theorem State.tickCore_cal (s : State) (n : Nat) (k : Option Nat) : (s.tickCore n k).cal = s.cal := rfl
@[simp] theorem State.tickCore_srg (s : State) (n : Nat) (k : Option Nat) : (s.tickCore n k).srg = s.srg := rfl
@[simp] theorem State.tickCore_tul (s : State) (n : Nat) (k : Option Nat) : (s.tickCore n k).tul = s.tul := rfl
@[simp] theorem State.tickCore_hsh (s : State) (n : Nat) (k : Option Nat) : (s.tickCore n k).hsh = s.hsh := rfl
@[simp] theorem State.tickCore_ent (s : State) (n : Nat) (k : Option Nat) : (s.tickCore n k).ent = s.ent := rfl
@[simp] theorem State.tickCore_supv (s : State) (n : Nat) (k : Option Nat) : (s.tickCore n k).supv = s.supv := rfl
@[simp] theorem State.tickCore_mem (s : State) (n : Nat) (k : Option Nat) : (s.tickCore n k).mem = s.mem := rfl
@[simp] theorem State.tickCore_gate (s : State) (n : Nat) (k : Option Nat) : (s.tickCore n k).gate = s.gate := rfl
@[simp] theorem State.tickCore_lace (s : State) (n : Nat) (k : Option Nat) : (s.tickCore n k).lace = s.lace := rfl
@[simp] theorem State.tickCore_bkd (s : State) (n : Nat) (k : Option Nat) : (s.tickCore n k).bkd = s.bkd := rfl
@[simp] theorem State.tickCore_lcs (s : State) (n : Nat) (k : Option Nat) : (s.tickCore n k).lcs = s.lcs := rfl
@[simp] theorem State.tickCore_rcd (s : State) (n : Nat) (k : Option Nat) : (s.tickCore n k).rcd = s.rcd := rfl
@[simp] theorem State.tickCore_blk (s : State) (n : Nat) (k : Option Nat) : (s.tickCore n k).blk = s.blk := rfl
@[simp] theorem State.tickCore_rwp (s : State) (n : Nat) (k : Option Nat) : (s.tickCore n k).rwp = s.rwp := rfl
@[simp] theorem State.tickCore_pending (s : State) (n : Nat) (k : Option Nat) : (s.tickCore n k).pending = s.pending := rfl

/-! ## What the replaced part reads -/

@[simp] theorem State.setNode_part (s : State) (n : Nat) (x : Option Node) : (s.setNode n x).part = s.part := rfl
@[simp] theorem State.setNode_sys (s : State) (n : Nat) (x : Option Node) : (s.setNode n x).sys = s.sys := rfl
@[simp] theorem State.setNode_boot (s : State) (n : Nat) (x : Option Node) : (s.setNode n x).boot = s.boot := rfl
@[simp] theorem State.setNode_pwr (s : State) (n : Nat) (x : Option Node) : (s.setNode n x).pwr = s.pwr := rfl
@[simp] theorem State.setNode_img (s : State) (n : Nat) (x : Option Node) : (s.setNode n x).img = s.img := rfl
@[simp] theorem State.setNode_host (s : State) (n : Nat) (x : Option Node) : (s.setNode n x).host = s.host := rfl
@[simp] theorem State.setNode_twl (s : State) (n : Nat) (x : Option Node) : (s.setNode n x).twl = s.twl := rfl
@[simp] theorem State.setNode_cal (s : State) (n : Nat) (x : Option Node) : (s.setNode n x).cal = s.cal := rfl
@[simp] theorem State.setNode_srg (s : State) (n : Nat) (x : Option Node) : (s.setNode n x).srg = s.srg := rfl
@[simp] theorem State.setNode_tul (s : State) (n : Nat) (x : Option Node) : (s.setNode n x).tul = s.tul := rfl
@[simp] theorem State.setNode_hsh (s : State) (n : Nat) (x : Option Node) : (s.setNode n x).hsh = s.hsh := rfl
@[simp] theorem State.setNode_ent (s : State) (n : Nat) (x : Option Node) : (s.setNode n x).ent = s.ent := rfl
@[simp] theorem State.setNode_zyn (s : State) (n : Nat) (x : Option Node) : (s.setNode n x).zyn = s.zyn := rfl
@[simp] theorem State.setNode_supv (s : State) (n : Nat) (x : Option Node) : (s.setNode n x).supv = s.supv := rfl
@[simp] theorem State.setNode_mem (s : State) (n : Nat) (x : Option Node) : (s.setNode n x).mem = s.mem := rfl
@[simp] theorem State.setNode_gate (s : State) (n : Nat) (x : Option Node) : (s.setNode n x).gate = s.gate := rfl
@[simp] theorem State.setNode_lace (s : State) (n : Nat) (x : Option Node) : (s.setNode n x).lace = s.lace := rfl
@[simp] theorem State.setNode_bkd (s : State) (n : Nat) (x : Option Node) : (s.setNode n x).bkd = s.bkd := rfl
@[simp] theorem State.setNode_lcs (s : State) (n : Nat) (x : Option Node) : (s.setNode n x).lcs = s.lcs := rfl
@[simp] theorem State.setNode_rcd (s : State) (n : Nat) (x : Option Node) : (s.setNode n x).rcd = s.rcd := rfl
@[simp] theorem State.setNode_blk (s : State) (n : Nat) (x : Option Node) : (s.setNode n x).blk = s.blk := rfl
@[simp] theorem State.setNode_rwp (s : State) (n : Nat) (x : Option Node) : (s.setNode n x).rwp = s.rwp := rfl
@[simp] theorem State.setNode_fresh (s : State) (n : Nat) (x : Option Node) : (s.setNode n x).fresh = s.fresh := rfl
@[simp] theorem State.setNode_pending (s : State) (n : Nat) (x : Option Node) : (s.setNode n x).pending = s.pending := rfl

@[simp] theorem State.setChannel_part (s : State) (ch : Nat) (c : Channel) : (s.setChannel ch c).part = s.part := rfl
@[simp] theorem State.setChannel_sys (s : State) (ch : Nat) (c : Channel) : (s.setChannel ch c).sys = s.sys := rfl
@[simp] theorem State.setChannel_boot (s : State) (ch : Nat) (c : Channel) : (s.setChannel ch c).boot = s.boot := rfl
@[simp] theorem State.setChannel_pwr (s : State) (ch : Nat) (c : Channel) : (s.setChannel ch c).pwr = s.pwr := rfl
@[simp] theorem State.setChannel_img (s : State) (ch : Nat) (c : Channel) : (s.setChannel ch c).img = s.img := rfl
@[simp] theorem State.setChannel_host (s : State) (ch : Nat) (c : Channel) : (s.setChannel ch c).host = s.host := rfl
@[simp] theorem State.setChannel_twl (s : State) (ch : Nat) (c : Channel) : (s.setChannel ch c).twl = s.twl := rfl
@[simp] theorem State.setChannel_dmk (s : State) (ch : Nat) (c : Channel) : (s.setChannel ch c).dmk = s.dmk := rfl
@[simp] theorem State.setChannel_cal (s : State) (ch : Nat) (c : Channel) : (s.setChannel ch c).cal = s.cal := rfl
@[simp] theorem State.setChannel_srg (s : State) (ch : Nat) (c : Channel) : (s.setChannel ch c).srg = s.srg := rfl
@[simp] theorem State.setChannel_tul (s : State) (ch : Nat) (c : Channel) : (s.setChannel ch c).tul = s.tul := rfl
@[simp] theorem State.setChannel_hsh (s : State) (ch : Nat) (c : Channel) : (s.setChannel ch c).hsh = s.hsh := rfl
@[simp] theorem State.setChannel_ent (s : State) (ch : Nat) (c : Channel) : (s.setChannel ch c).ent = s.ent := rfl
@[simp] theorem State.setChannel_zyn (s : State) (ch : Nat) (c : Channel) : (s.setChannel ch c).zyn = s.zyn := rfl
@[simp] theorem State.setChannel_supv (s : State) (ch : Nat) (c : Channel) : (s.setChannel ch c).supv = s.supv := rfl
@[simp] theorem State.setChannel_mem (s : State) (ch : Nat) (c : Channel) : (s.setChannel ch c).mem = s.mem := rfl
@[simp] theorem State.setChannel_gate (s : State) (ch : Nat) (c : Channel) : (s.setChannel ch c).gate = s.gate := rfl
@[simp] theorem State.setChannel_bkd (s : State) (ch : Nat) (c : Channel) : (s.setChannel ch c).bkd = s.bkd := rfl
@[simp] theorem State.setChannel_lcs (s : State) (ch : Nat) (c : Channel) : (s.setChannel ch c).lcs = s.lcs := rfl
@[simp] theorem State.setChannel_rcd (s : State) (ch : Nat) (c : Channel) : (s.setChannel ch c).rcd = s.rcd := rfl
@[simp] theorem State.setChannel_blk (s : State) (ch : Nat) (c : Channel) : (s.setChannel ch c).blk = s.blk := rfl
@[simp] theorem State.setChannel_rwp (s : State) (ch : Nat) (c : Channel) : (s.setChannel ch c).rwp = s.rwp := rfl
@[simp] theorem State.setChannel_fresh (s : State) (ch : Nat) (c : Channel) : (s.setChannel ch c).fresh = s.fresh := rfl
@[simp] theorem State.setChannel_pending (s : State) (ch : Nat) (c : Channel) : (s.setChannel ch c).pending = s.pending := rfl

@[simp] theorem State.setCeremony_part (s : State) (c : Ceremony) : (s.setCeremony c).part = s.part := rfl
@[simp] theorem State.setCeremony_sys (s : State) (c : Ceremony) : (s.setCeremony c).sys = s.sys := rfl
@[simp] theorem State.setCeremony_boot (s : State) (c : Ceremony) : (s.setCeremony c).boot = s.boot := rfl
@[simp] theorem State.setCeremony_pwr (s : State) (c : Ceremony) : (s.setCeremony c).pwr = s.pwr := rfl
@[simp] theorem State.setCeremony_img (s : State) (c : Ceremony) : (s.setCeremony c).img = s.img := rfl
@[simp] theorem State.setCeremony_host (s : State) (c : Ceremony) : (s.setCeremony c).host = s.host := rfl
@[simp] theorem State.setCeremony_twl (s : State) (c : Ceremony) : (s.setCeremony c).twl = s.twl := rfl
@[simp] theorem State.setCeremony_dmk (s : State) (c : Ceremony) : (s.setCeremony c).dmk = s.dmk := rfl
@[simp] theorem State.setCeremony_cal (s : State) (c : Ceremony) : (s.setCeremony c).cal = s.cal := rfl
@[simp] theorem State.setCeremony_srg (s : State) (c : Ceremony) : (s.setCeremony c).srg = s.srg := rfl
@[simp] theorem State.setCeremony_tul (s : State) (c : Ceremony) : (s.setCeremony c).tul = s.tul := rfl
@[simp] theorem State.setCeremony_hsh (s : State) (c : Ceremony) : (s.setCeremony c).hsh = s.hsh := rfl
@[simp] theorem State.setCeremony_ent (s : State) (c : Ceremony) : (s.setCeremony c).ent = s.ent := rfl
@[simp] theorem State.setCeremony_zyn (s : State) (c : Ceremony) : (s.setCeremony c).zyn = s.zyn := rfl
@[simp] theorem State.setCeremony_supv (s : State) (c : Ceremony) : (s.setCeremony c).supv = s.supv := rfl
@[simp] theorem State.setCeremony_mem (s : State) (c : Ceremony) : (s.setCeremony c).mem = s.mem := rfl
@[simp] theorem State.setCeremony_gate (s : State) (c : Ceremony) : (s.setCeremony c).gate = s.gate := rfl
@[simp] theorem State.setCeremony_lace (s : State) (c : Ceremony) : (s.setCeremony c).lace = s.lace := rfl
@[simp] theorem State.setCeremony_bkd (s : State) (c : Ceremony) : (s.setCeremony c).bkd = s.bkd := rfl
@[simp] theorem State.setCeremony_rcd (s : State) (c : Ceremony) : (s.setCeremony c).rcd = s.rcd := rfl
@[simp] theorem State.setCeremony_blk (s : State) (c : Ceremony) : (s.setCeremony c).blk = s.blk := rfl
@[simp] theorem State.setCeremony_rwp (s : State) (c : Ceremony) : (s.setCeremony c).rwp = s.rwp := rfl
@[simp] theorem State.setCeremony_fresh (s : State) (c : Ceremony) : (s.setCeremony c).fresh = s.fresh := rfl
@[simp] theorem State.setCeremony_pending (s : State) (c : Ceremony) : (s.setCeremony c).pending = s.pending := rfl

@[simp] theorem State.setClone_part (s : State) (c : CloneRun) : (s.setClone c).part = s.part := rfl
@[simp] theorem State.setClone_sys (s : State) (c : CloneRun) : (s.setClone c).sys = s.sys := rfl
@[simp] theorem State.setClone_boot (s : State) (c : CloneRun) : (s.setClone c).boot = s.boot := rfl
@[simp] theorem State.setClone_pwr (s : State) (c : CloneRun) : (s.setClone c).pwr = s.pwr := rfl
@[simp] theorem State.setClone_img (s : State) (c : CloneRun) : (s.setClone c).img = s.img := rfl
@[simp] theorem State.setClone_host (s : State) (c : CloneRun) : (s.setClone c).host = s.host := rfl
@[simp] theorem State.setClone_twl (s : State) (c : CloneRun) : (s.setClone c).twl = s.twl := rfl
@[simp] theorem State.setClone_dmk (s : State) (c : CloneRun) : (s.setClone c).dmk = s.dmk := rfl
@[simp] theorem State.setClone_cal (s : State) (c : CloneRun) : (s.setClone c).cal = s.cal := rfl
@[simp] theorem State.setClone_srg (s : State) (c : CloneRun) : (s.setClone c).srg = s.srg := rfl
@[simp] theorem State.setClone_tul (s : State) (c : CloneRun) : (s.setClone c).tul = s.tul := rfl
@[simp] theorem State.setClone_hsh (s : State) (c : CloneRun) : (s.setClone c).hsh = s.hsh := rfl
@[simp] theorem State.setClone_ent (s : State) (c : CloneRun) : (s.setClone c).ent = s.ent := rfl
@[simp] theorem State.setClone_zyn (s : State) (c : CloneRun) : (s.setClone c).zyn = s.zyn := rfl
@[simp] theorem State.setClone_supv (s : State) (c : CloneRun) : (s.setClone c).supv = s.supv := rfl
@[simp] theorem State.setClone_mem (s : State) (c : CloneRun) : (s.setClone c).mem = s.mem := rfl
@[simp] theorem State.setClone_gate (s : State) (c : CloneRun) : (s.setClone c).gate = s.gate := rfl
@[simp] theorem State.setClone_lace (s : State) (c : CloneRun) : (s.setClone c).lace = s.lace := rfl
@[simp] theorem State.setClone_bkd (s : State) (c : CloneRun) : (s.setClone c).bkd = s.bkd := rfl
@[simp] theorem State.setClone_lcs (s : State) (c : CloneRun) : (s.setClone c).lcs = s.lcs := rfl
@[simp] theorem State.setClone_rcd (s : State) (c : CloneRun) : (s.setClone c).rcd = s.rcd := rfl
@[simp] theorem State.setClone_rwp (s : State) (c : CloneRun) : (s.setClone c).rwp = s.rwp := rfl
@[simp] theorem State.setClone_fresh (s : State) (c : CloneRun) : (s.setClone c).fresh = s.fresh := rfl
@[simp] theorem State.setClone_pending (s : State) (c : CloneRun) : (s.setClone c).pending = s.pending := rfl

@[simp] theorem State.setPoolUse_part (s : State) (p : PoolRec) (x : PoolUse) : (s.setPoolUse p x).part = s.part := rfl
@[simp] theorem State.setPoolUse_sys (s : State) (p : PoolRec) (x : PoolUse) : (s.setPoolUse p x).sys = s.sys := rfl
@[simp] theorem State.setPoolUse_boot (s : State) (p : PoolRec) (x : PoolUse) : (s.setPoolUse p x).boot = s.boot := rfl
@[simp] theorem State.setPoolUse_pwr (s : State) (p : PoolRec) (x : PoolUse) : (s.setPoolUse p x).pwr = s.pwr := rfl
@[simp] theorem State.setPoolUse_img (s : State) (p : PoolRec) (x : PoolUse) : (s.setPoolUse p x).img = s.img := rfl
@[simp] theorem State.setPoolUse_host (s : State) (p : PoolRec) (x : PoolUse) : (s.setPoolUse p x).host = s.host := rfl
@[simp] theorem State.setPoolUse_dmk (s : State) (p : PoolRec) (x : PoolUse) : (s.setPoolUse p x).dmk = s.dmk := rfl
@[simp] theorem State.setPoolUse_cal (s : State) (p : PoolRec) (x : PoolUse) : (s.setPoolUse p x).cal = s.cal := rfl
@[simp] theorem State.setPoolUse_srg (s : State) (p : PoolRec) (x : PoolUse) : (s.setPoolUse p x).srg = s.srg := rfl
@[simp] theorem State.setPoolUse_tul (s : State) (p : PoolRec) (x : PoolUse) : (s.setPoolUse p x).tul = s.tul := rfl
@[simp] theorem State.setPoolUse_hsh (s : State) (p : PoolRec) (x : PoolUse) : (s.setPoolUse p x).hsh = s.hsh := rfl
@[simp] theorem State.setPoolUse_ent (s : State) (p : PoolRec) (x : PoolUse) : (s.setPoolUse p x).ent = s.ent := rfl
@[simp] theorem State.setPoolUse_zyn (s : State) (p : PoolRec) (x : PoolUse) : (s.setPoolUse p x).zyn = s.zyn := rfl
@[simp] theorem State.setPoolUse_supv (s : State) (p : PoolRec) (x : PoolUse) : (s.setPoolUse p x).supv = s.supv := rfl
@[simp] theorem State.setPoolUse_mem (s : State) (p : PoolRec) (x : PoolUse) : (s.setPoolUse p x).mem = s.mem := rfl
@[simp] theorem State.setPoolUse_gate (s : State) (p : PoolRec) (x : PoolUse) : (s.setPoolUse p x).gate = s.gate := rfl
@[simp] theorem State.setPoolUse_lace (s : State) (p : PoolRec) (x : PoolUse) : (s.setPoolUse p x).lace = s.lace := rfl
@[simp] theorem State.setPoolUse_bkd (s : State) (p : PoolRec) (x : PoolUse) : (s.setPoolUse p x).bkd = s.bkd := rfl
@[simp] theorem State.setPoolUse_lcs (s : State) (p : PoolRec) (x : PoolUse) : (s.setPoolUse p x).lcs = s.lcs := rfl
@[simp] theorem State.setPoolUse_rcd (s : State) (p : PoolRec) (x : PoolUse) : (s.setPoolUse p x).rcd = s.rcd := rfl
@[simp] theorem State.setPoolUse_blk (s : State) (p : PoolRec) (x : PoolUse) : (s.setPoolUse p x).blk = s.blk := rfl
@[simp] theorem State.setPoolUse_rwp (s : State) (p : PoolRec) (x : PoolUse) : (s.setPoolUse p x).rwp = s.rwp := rfl
@[simp] theorem State.setPoolUse_fresh (s : State) (p : PoolRec) (x : PoolUse) : (s.setPoolUse p x).fresh = s.fresh := rfl
@[simp] theorem State.setPoolUse_pending (s : State) (p : PoolRec) (x : PoolUse) : (s.setPoolUse p x).pending = s.pending := rfl

@[simp] theorem State.beginLife_part (s : State) (t : Nat) (x : TState) (k : LifeStep) (l : List Req) : (s.beginLife t x k l).part = s.part := rfl
@[simp] theorem State.beginLife_sys (s : State) (t : Nat) (x : TState) (k : LifeStep) (l : List Req) : (s.beginLife t x k l).sys = s.sys := rfl
@[simp] theorem State.beginLife_boot (s : State) (t : Nat) (x : TState) (k : LifeStep) (l : List Req) : (s.beginLife t x k l).boot = s.boot := rfl
@[simp] theorem State.beginLife_pwr (s : State) (t : Nat) (x : TState) (k : LifeStep) (l : List Req) : (s.beginLife t x k l).pwr = s.pwr := rfl
@[simp] theorem State.beginLife_img (s : State) (t : Nat) (x : TState) (k : LifeStep) (l : List Req) : (s.beginLife t x k l).img = s.img := rfl
@[simp] theorem State.beginLife_twl (s : State) (t : Nat) (x : TState) (k : LifeStep) (l : List Req) : (s.beginLife t x k l).twl = s.twl := rfl
@[simp] theorem State.beginLife_dmk (s : State) (t : Nat) (x : TState) (k : LifeStep) (l : List Req) : (s.beginLife t x k l).dmk = s.dmk := rfl
@[simp] theorem State.beginLife_cal (s : State) (t : Nat) (x : TState) (k : LifeStep) (l : List Req) : (s.beginLife t x k l).cal = s.cal := rfl
@[simp] theorem State.beginLife_srg (s : State) (t : Nat) (x : TState) (k : LifeStep) (l : List Req) : (s.beginLife t x k l).srg = s.srg := rfl
@[simp] theorem State.beginLife_tul (s : State) (t : Nat) (x : TState) (k : LifeStep) (l : List Req) : (s.beginLife t x k l).tul = s.tul := rfl
@[simp] theorem State.beginLife_hsh (s : State) (t : Nat) (x : TState) (k : LifeStep) (l : List Req) : (s.beginLife t x k l).hsh = s.hsh := rfl
@[simp] theorem State.beginLife_ent (s : State) (t : Nat) (x : TState) (k : LifeStep) (l : List Req) : (s.beginLife t x k l).ent = s.ent := rfl
@[simp] theorem State.beginLife_zyn (s : State) (t : Nat) (x : TState) (k : LifeStep) (l : List Req) : (s.beginLife t x k l).zyn = s.zyn := rfl
@[simp] theorem State.beginLife_supv (s : State) (t : Nat) (x : TState) (k : LifeStep) (l : List Req) : (s.beginLife t x k l).supv = s.supv := rfl
@[simp] theorem State.beginLife_mem (s : State) (t : Nat) (x : TState) (k : LifeStep) (l : List Req) : (s.beginLife t x k l).mem = s.mem := rfl
@[simp] theorem State.beginLife_gate (s : State) (t : Nat) (x : TState) (k : LifeStep) (l : List Req) : (s.beginLife t x k l).gate = s.gate := rfl
@[simp] theorem State.beginLife_lace (s : State) (t : Nat) (x : TState) (k : LifeStep) (l : List Req) : (s.beginLife t x k l).lace = s.lace := rfl
@[simp] theorem State.beginLife_bkd (s : State) (t : Nat) (x : TState) (k : LifeStep) (l : List Req) : (s.beginLife t x k l).bkd = s.bkd := rfl
@[simp] theorem State.beginLife_lcs (s : State) (t : Nat) (x : TState) (k : LifeStep) (l : List Req) : (s.beginLife t x k l).lcs = s.lcs := rfl
@[simp] theorem State.beginLife_rcd (s : State) (t : Nat) (x : TState) (k : LifeStep) (l : List Req) : (s.beginLife t x k l).rcd = s.rcd := rfl
@[simp] theorem State.beginLife_blk (s : State) (t : Nat) (x : TState) (k : LifeStep) (l : List Req) : (s.beginLife t x k l).blk = s.blk := rfl
@[simp] theorem State.beginLife_rwp (s : State) (t : Nat) (x : TState) (k : LifeStep) (l : List Req) : (s.beginLife t x k l).rwp = s.rwp := rfl
@[simp] theorem State.beginLife_fresh (s : State) (t : Nat) (x : TState) (k : LifeStep) (l : List Req) : (s.beginLife t x k l).fresh = s.fresh := rfl
@[simp] theorem State.beginLife_pending (s : State) (t : Nat) (x : TState) (k : LifeStep) (l : List Req) : (s.beginLife t x k l).pending = s.pending := rfl

@[simp] theorem State.joinReset_part (s : State) (t : Nat) (r : Req) : (s.joinReset t r).part = s.part := rfl
@[simp] theorem State.joinReset_sys (s : State) (t : Nat) (r : Req) : (s.joinReset t r).sys = s.sys := rfl
@[simp] theorem State.joinReset_boot (s : State) (t : Nat) (r : Req) : (s.joinReset t r).boot = s.boot := rfl
@[simp] theorem State.joinReset_pwr (s : State) (t : Nat) (r : Req) : (s.joinReset t r).pwr = s.pwr := rfl
@[simp] theorem State.joinReset_img (s : State) (t : Nat) (r : Req) : (s.joinReset t r).img = s.img := rfl
@[simp] theorem State.joinReset_twl (s : State) (t : Nat) (r : Req) : (s.joinReset t r).twl = s.twl := rfl
@[simp] theorem State.joinReset_dmk (s : State) (t : Nat) (r : Req) : (s.joinReset t r).dmk = s.dmk := rfl
@[simp] theorem State.joinReset_cal (s : State) (t : Nat) (r : Req) : (s.joinReset t r).cal = s.cal := rfl
@[simp] theorem State.joinReset_srg (s : State) (t : Nat) (r : Req) : (s.joinReset t r).srg = s.srg := rfl
@[simp] theorem State.joinReset_tul (s : State) (t : Nat) (r : Req) : (s.joinReset t r).tul = s.tul := rfl
@[simp] theorem State.joinReset_hsh (s : State) (t : Nat) (r : Req) : (s.joinReset t r).hsh = s.hsh := rfl
@[simp] theorem State.joinReset_ent (s : State) (t : Nat) (r : Req) : (s.joinReset t r).ent = s.ent := rfl
@[simp] theorem State.joinReset_zyn (s : State) (t : Nat) (r : Req) : (s.joinReset t r).zyn = s.zyn := rfl
@[simp] theorem State.joinReset_supv (s : State) (t : Nat) (r : Req) : (s.joinReset t r).supv = s.supv := rfl
@[simp] theorem State.joinReset_mem (s : State) (t : Nat) (r : Req) : (s.joinReset t r).mem = s.mem := rfl
@[simp] theorem State.joinReset_gate (s : State) (t : Nat) (r : Req) : (s.joinReset t r).gate = s.gate := rfl
@[simp] theorem State.joinReset_lace (s : State) (t : Nat) (r : Req) : (s.joinReset t r).lace = s.lace := rfl
@[simp] theorem State.joinReset_bkd (s : State) (t : Nat) (r : Req) : (s.joinReset t r).bkd = s.bkd := rfl
@[simp] theorem State.joinReset_lcs (s : State) (t : Nat) (r : Req) : (s.joinReset t r).lcs = s.lcs := rfl
@[simp] theorem State.joinReset_rcd (s : State) (t : Nat) (r : Req) : (s.joinReset t r).rcd = s.rcd := rfl
@[simp] theorem State.joinReset_blk (s : State) (t : Nat) (r : Req) : (s.joinReset t r).blk = s.blk := rfl
@[simp] theorem State.joinReset_rwp (s : State) (t : Nat) (r : Req) : (s.joinReset t r).rwp = s.rwp := rfl
@[simp] theorem State.joinReset_fresh (s : State) (t : Nat) (r : Req) : (s.joinReset t r).fresh = s.fresh := rfl
@[simp] theorem State.joinReset_pending (s : State) (t : Nat) (r : Req) : (s.joinReset t r).pending = s.pending := rfl

@[simp] theorem State.passTurn_part (s : State) (t k : Nat) : (s.passTurn t k).part = s.part := rfl
@[simp] theorem State.passTurn_sys (s : State) (t k : Nat) : (s.passTurn t k).sys = s.sys := rfl
@[simp] theorem State.passTurn_boot (s : State) (t k : Nat) : (s.passTurn t k).boot = s.boot := rfl
@[simp] theorem State.passTurn_pwr (s : State) (t k : Nat) : (s.passTurn t k).pwr = s.pwr := rfl
@[simp] theorem State.passTurn_img (s : State) (t k : Nat) : (s.passTurn t k).img = s.img := rfl
@[simp] theorem State.passTurn_twl (s : State) (t k : Nat) : (s.passTurn t k).twl = s.twl := rfl
@[simp] theorem State.passTurn_dmk (s : State) (t k : Nat) : (s.passTurn t k).dmk = s.dmk := rfl
@[simp] theorem State.passTurn_cal (s : State) (t k : Nat) : (s.passTurn t k).cal = s.cal := rfl
@[simp] theorem State.passTurn_srg (s : State) (t k : Nat) : (s.passTurn t k).srg = s.srg := rfl
@[simp] theorem State.passTurn_tul (s : State) (t k : Nat) : (s.passTurn t k).tul = s.tul := rfl
@[simp] theorem State.passTurn_hsh (s : State) (t k : Nat) : (s.passTurn t k).hsh = s.hsh := rfl
@[simp] theorem State.passTurn_ent (s : State) (t k : Nat) : (s.passTurn t k).ent = s.ent := rfl
@[simp] theorem State.passTurn_zyn (s : State) (t k : Nat) : (s.passTurn t k).zyn = s.zyn := rfl
@[simp] theorem State.passTurn_supv (s : State) (t k : Nat) : (s.passTurn t k).supv = s.supv := rfl
@[simp] theorem State.passTurn_mem (s : State) (t k : Nat) : (s.passTurn t k).mem = s.mem := rfl
@[simp] theorem State.passTurn_gate (s : State) (t k : Nat) : (s.passTurn t k).gate = s.gate := rfl
@[simp] theorem State.passTurn_lace (s : State) (t k : Nat) : (s.passTurn t k).lace = s.lace := rfl
@[simp] theorem State.passTurn_bkd (s : State) (t k : Nat) : (s.passTurn t k).bkd = s.bkd := rfl
@[simp] theorem State.passTurn_lcs (s : State) (t k : Nat) : (s.passTurn t k).lcs = s.lcs := rfl
@[simp] theorem State.passTurn_rcd (s : State) (t k : Nat) : (s.passTurn t k).rcd = s.rcd := rfl
@[simp] theorem State.passTurn_blk (s : State) (t k : Nat) : (s.passTurn t k).blk = s.blk := rfl
@[simp] theorem State.passTurn_rwp (s : State) (t k : Nat) : (s.passTurn t k).rwp = s.rwp := rfl
@[simp] theorem State.passTurn_fresh (s : State) (t k : Nat) : (s.passTurn t k).fresh = s.fresh := rfl
@[simp] theorem State.passTurn_pending (s : State) (t k : Nat) : (s.passTurn t k).pending = s.pending := rfl

@[simp] theorem State.ask_part (s : State) (n st : Nat) : (s.ask n st).part = s.part := rfl
@[simp] theorem State.ask_sys (s : State) (n st : Nat) : (s.ask n st).sys = s.sys := rfl
@[simp] theorem State.ask_boot (s : State) (n st : Nat) : (s.ask n st).boot = s.boot := rfl
@[simp] theorem State.ask_pwr (s : State) (n st : Nat) : (s.ask n st).pwr = s.pwr := rfl
@[simp] theorem State.ask_img (s : State) (n st : Nat) : (s.ask n st).img = s.img := rfl
@[simp] theorem State.ask_host (s : State) (n st : Nat) : (s.ask n st).host = s.host := rfl
@[simp] theorem State.ask_twl (s : State) (n st : Nat) : (s.ask n st).twl = s.twl := rfl
@[simp] theorem State.ask_dmk (s : State) (n st : Nat) : (s.ask n st).dmk = s.dmk := rfl
@[simp] theorem State.ask_srg (s : State) (n st : Nat) : (s.ask n st).srg = s.srg := rfl
@[simp] theorem State.ask_tul (s : State) (n st : Nat) : (s.ask n st).tul = s.tul := rfl
@[simp] theorem State.ask_hsh (s : State) (n st : Nat) : (s.ask n st).hsh = s.hsh := rfl
@[simp] theorem State.ask_ent (s : State) (n st : Nat) : (s.ask n st).ent = s.ent := rfl
@[simp] theorem State.ask_zyn (s : State) (n st : Nat) : (s.ask n st).zyn = s.zyn := rfl
@[simp] theorem State.ask_supv (s : State) (n st : Nat) : (s.ask n st).supv = s.supv := rfl
@[simp] theorem State.ask_mem (s : State) (n st : Nat) : (s.ask n st).mem = s.mem := rfl
@[simp] theorem State.ask_gate (s : State) (n st : Nat) : (s.ask n st).gate = s.gate := rfl
@[simp] theorem State.ask_lace (s : State) (n st : Nat) : (s.ask n st).lace = s.lace := rfl
@[simp] theorem State.ask_bkd (s : State) (n st : Nat) : (s.ask n st).bkd = s.bkd := rfl
@[simp] theorem State.ask_lcs (s : State) (n st : Nat) : (s.ask n st).lcs = s.lcs := rfl
@[simp] theorem State.ask_rcd (s : State) (n st : Nat) : (s.ask n st).rcd = s.rcd := rfl
@[simp] theorem State.ask_blk (s : State) (n st : Nat) : (s.ask n st).blk = s.blk := rfl
@[simp] theorem State.ask_rwp (s : State) (n st : Nat) : (s.ask n st).rwp = s.rwp := rfl
@[simp] theorem State.ask_fresh (s : State) (n st : Nat) : (s.ask n st).fresh = s.fresh := rfl
@[simp] theorem State.ask_pending (s : State) (n st : Nat) : (s.ask n st).pending = s.pending := rfl


@[simp] theorem State.core_setCore_self (s : State) (n : Nat) (c : ZCore) : (s.setCore n c).core n = c := by
  simp [State.core, State.setCore]

@[simp] theorem State.core_setCore_other (s : State) {n k : Nat} (h : k ≠ n) (c : ZCore) : (s.setCore n c).core k = s.core k := by
  simp [State.core, State.setCore, h]

@[simp] theorem State.worker_setWorker_self (s : State) (n : Nat) (w : WorkerCtl) : (s.setWorker n w).worker n = w := by
  simp [State.worker, State.setWorker]

@[simp] theorem State.tenant_setTenant_self (s : State) (t : Nat) (x : Tenant) : (s.setTenant t x).tenant t = x := by
  simp [State.tenant, State.setTenant]

@[simp] theorem State.tenant_setTenant_other (s : State) {t u : Nat} (h : u ≠ t) (x : Tenant) :
    (s.setTenant t x).tenant u = s.tenant u := by
  simp [State.tenant, State.setTenant, h]

@[simp] theorem State.qp_setQp_self (s : State) (t q : Nat) (x : QPair) : (s.setQp t q x).qp t q = x := by
  simp [State.qp, State.setQp]

@[simp] theorem State.port_setPort_self (s : State) (b : Bool) (p : Port) : (s.setPort b p).port b = p := by
  cases b <;> rfl

@[simp] theorem State.port_setPort_other (s : State) (b : Bool) (p : Port) : (s.setPort b p).port (!b) = s.port (!b) := by
  cases b <;> rfl

@[simp] theorem State.slot_setSlot_self (s : State) (n : Nat) (i : Inst) : (s.setSlot n i).slot n = i := by
  simp [State.slot, State.setSlot]

@[simp] theorem State.slot_setSlot_other (s : State) {n k : Nat} (h : k ≠ n) (i : Inst) : (s.setSlot n i).slot k = s.slot k := by
  simp [State.slot, State.setSlot, h]

@[simp] theorem State.link_setLink_self (s : State) (n : Nat) (l : Link) : (s.setLink n l).link n = l := by
  simp [State.link, State.setLink]

@[simp] theorem State.link_setLink_other (s : State) {n k : Nat} (h : k ≠ n) (l : Link) : (s.setLink n l).link k = s.link k := by
  simp [State.link, State.setLink, h]

@[simp] theorem State.monitor_setMonitor_self (s : State) (k : Nat) (m : Monitor) : (s.setMonitor k m).monitor k = m := by
  simp [State.monitor, State.setMonitor]

@[simp] theorem State.box_setBox_self (s : State) (n u : Nat) (m : Mailbox) : (s.setBox n u m).box n u = m := by
  simp [State.box, State.setBox]

@[simp] theorem State.engine_setEngine_self (s : State) (u : EngUnit) (e : Engine) : (s.setEngine u e).engine u = e := by
  cases u <;> rfl

@[simp] theorem State.engine_setEngine_other (s : State) {u v : EngUnit} (h : v ≠ u) (e : Engine) :
    (s.setEngine u e).engine v = s.engine v := by
  cases u <;> cases v <;> simp_all [State.setEngine, State.engine]

@[simp] theorem State.inst_setInst_self (s : State) (u : EngUnit) (n : Nat) (i : UnitInst) : (s.setInst u n i).inst u n = i := by
  simp [State.inst, State.setInst]

@[simp] theorem State.gres_setGres_self (s : State) (w : World) (g : GateRes) : (s.setGres w g).gres w = g := by
  cases w <;> rfl

@[simp] theorem ZCore.bank_setBank_self (c : ZCore) (w : World) (b : ZBank) : (c.setBank w b).bank w = b := by
  cases w <;> rfl

@[simp] theorem ZCore.bank_setBank_other (c : ZCore) {w v : World} (h : v ≠ w) (b : ZBank) : (c.setBank w b).bank v = c.bank v := by
  cases w <;> cases v <;> simp_all [ZCore.setBank, ZCore.bank]

@[simp] theorem ZCore.cur_setCur (c : ZCore) (b : ZBank) : (c.setCur b).cur = b := by
  obtain ⟨w, _⟩ := c
  cases w <;> rfl

@[simp] theorem ZCore.setCur_world (c : ZCore) (b : ZBank) : (c.setCur b).world = c.world := by
  obtain ⟨w, _⟩ := c
  cases w <;> rfl

@[simp] theorem ZBank.greg_zero (b : ZBank) : b.greg 0 = 0 := rfl

@[simp] theorem ZBank.setG_zero (b : ZBank) (v : W64) : b.setG 0 v = b := rfl

/-- A general register reads what was last written to it (R321). -/
theorem ZBank.greg_setG_self (b : ZBank) {k : Nat} (h : 0 < k) (h64 : k < 64) (v : W64) : (b.setG k v).greg k = v := by
  have : ¬ (k = 0 ∨ 64 ≤ k) := by omega
  unfold ZBank.setG
  rw [if_neg this]
  simp [ZBank.greg, Nat.pos_iff_ne_zero.1 h]

/-- A write leaves every other general register alone. -/
theorem ZBank.greg_setG_other (b : ZBank) {k j : Nat} (h : j ≠ k) (v : W64) : (b.setG k v).greg j = b.greg j := by
  unfold ZBank.setG
  split
  · rfl
  · simp [ZBank.greg, h]

@[simp] theorem ZBank.pred_zero (b : ZBank) : b.pred 0 = true := rfl

/-! ### Units, gates and lives -/

@[simp] theorem State.node_setNode_self (s : State) (n : Nat) (x : Option Node) : (s.setNode n x).node n = x := by
  simp [State.node, State.setNode]

@[simp] theorem State.channel_setChannel_self (s : State) (ch : Nat) (c : Channel) : (s.setChannel ch c).channel ch = c := by
  simp [State.channel, State.setChannel]

@[simp] theorem State.poolUse_setPoolUse_self (s : State) (p : PoolRec) (x : PoolUse) : (s.setPoolUse p x).poolUse p = x := by
  simp [State.poolUse, State.setPoolUse]

@[simp] theorem State.setCeremony_ceremony (s : State) (c : Ceremony) : (s.setCeremony c).lcs.ceremony = some c := rfl

@[simp] theorem State.setClone_clone (s : State) (c : CloneRun) : (s.setClone c).blk.clone = some c := rfl

@[simp] theorem State.beginLife_state (s : State) (t : Nat) (x : TState) (k : LifeStep) (l : List Req) :
    ((s.beginLife t x k l).tenant t).state = x := by
  simp [State.beginLife, State.tenant, State.setTenant]

/-- With no multiplier write in flight only the cycle counter moves (R325, R327). -/
@[simp] theorem ZCore.pass_flight_nil (c : ZCore) (h : c.flight = []) (k : Nat) :
    c.pass k = { c with cycle := (c.cycle + k) % 2 ^ 64 } := by
  simp [ZCore.pass, h]

@[simp] theorem Gates.mismatch_nil (g : Gates) (h : g.upset = []) (p : Nat) : g.mismatch p = none := by
  simp [Gates.mismatch, h]

end Sys2Proof.Machine
end

