-- ==== Sys2Proof/Laws/Frames.lean ====
section
/-! SUPPORT. Which areas of the state the shared operations may change: one lemma for each, for use in place of unfolding
it. -/

namespace Sys2Proof.Machine

/-! ## Composing frames -/

theorem OnlyIn.refl (l : List Area) (s : State) : OnlyIn l s s := ⟨fun a _ => by cases a <;> rfl, rfl⟩

theorem OnlyIn.mono {l k : List Area} {s t : State} (h : OnlyIn l s t) (hk : ∀ a ∈ l, a ∈ k) : OnlyIn k s t :=
  ⟨fun a ha => h.1 a fun hl => ha (hk a hl), h.2⟩

theorem Area.same_trans (a : Area) {s t u : State} (h : a.same s t) (g : a.same t u) : a.same s u := by
  cases a <;> exact Eq.trans g h

theorem OnlyIn.trans {l : List Area} {s t u : State} (h : OnlyIn l s t) (g : OnlyIn l t u) : OnlyIn l s u :=
  ⟨fun a ha => a.same_trans (h.1 a ha) (g.1 a ha), g.2.trans h.2⟩

theorem OnlyIn.foldl {α : Type} {l : List Area} (f : State → α → State) (hf : ∀ s x, OnlyIn l s (f s x)) (xs : List α) (s : State) :
    OnlyIn l s (xs.foldl f s) := by
  induction xs generalizing s with
  | nil => exact OnlyIn.refl l s
  | cons x t ih => exact (hf s x).trans (ih (f s x))

/-! ## The recorder and the tamper log -/

theorem offerRecord_frame (s : State) (code sev source : Nat) (fw summary : Bool) (p0 p1 p2 : Nat) :
    OnlyIn [.rcd] s (s.offerRecord code sev source fw summary p0 p1 p2) := by
  unfold State.offerRecord
  split
  · exact OnlyIn.refl _ s
  · split
    · exact ⟨fun a ha => by cases a <;> first | rfl | simp at ha, rfl⟩
    · split <;> exact ⟨fun a ha => by cases a <;> first | rfl | simp at ha, rfl⟩

theorem offer_frame (s : State) (code p0 p1 p2 : Nat) : OnlyIn [.rcd] s (s.offer code p0 p1 p2) := offerRecord_frame ..

theorem offerSev_frame (s : State) (code sev p0 p1 p2 : Nat) : OnlyIn [.rcd] s (s.offerSev code sev p0 p1 p2) :=
  offerRecord_frame ..

theorem offerBurst_frame (s : State) (code key p0 p1 : Nat) : OnlyIn [.rcd] s (s.offerBurst code key p0 p1) := by
  unfold State.offerBurst
  split
  · exact ⟨fun a ha => by cases a <;> first | rfl | simp at ha, rfl⟩
  · refine (offer_frame s code p0 p1 0).trans ?_
    exact ⟨fun a ha => by cases a <;> first | rfl | simp at ha, rfl⟩

theorem logEvent_frame (s : State) (code param : Nat) : OnlyIn [.bkd] s (s.logEvent code param) := by
  unfold State.logEvent
  split <;> exact ⟨fun a ha => by cases a <;> first | rfl | simp at ha, rfl⟩

/-! ## Memories, entropy, tenants and steps -/

theorem noteConflicts_frame (s : State) (m a n : Nat) : OnlyIn [.mem] s (s.noteConflicts m a n) := by
  unfold State.noteConflicts
  split <;> exact ⟨fun a ha => by cases a <;> first | rfl | simp at ha, rfl⟩

/-- Noting an uncorrectable error writes the memories' registers and offers record 0x0C02; memory itself stays (R377). -/
theorem noteUncorrectable_frame (s : State) (a source master : Nat) :
    OnlyIn [.mem, .rcd] s (s.noteUncorrectable a source master) := by
  unfold State.noteUncorrectable
  refine OnlyIn.trans ?_ ((offer_frame _ _ _ _ _).mono (by simp))
  exact ⟨fun a ha => by cases a <;> first | rfl | simp at ha, rfl⟩

theorem stallFor_frame (s : State) (c : Consumer) : OnlyIn [.ent] s (s.stallFor c) := by
  unfold State.stallFor
  split <;> exact ⟨fun a ha => by cases a <;> first | rfl | simp at ha, rfl⟩

theorem beginLife_frame (s : State) (t : Nat) (x : TState) (k : LifeStep) (l : List Req) :
    OnlyIn [.host] s (s.beginLife t x k l) :=
  ⟨fun a ha => by cases a <;> first | rfl | simp at ha, rfl⟩

theorem passTurn_frame (s : State) (t k : Nat) : OnlyIn [.host] s (s.passTurn t k) :=
  ⟨fun a ha => by cases a <;> first | rfl | simp at ha, rfl⟩

theorem credit_frame (s : State) (w t : Nat) : OnlyIn [.host] s (s.credit w t) := by
  unfold State.credit
  split <;> exact ⟨fun a ha => by cases a <;> first | rfl | simp at ha, rfl⟩

/-- Crediting the tenants at the start of a cycle changes the host side, and takes free values (R106). -/
theorem creditAll_frame (s : State) : OnlyIn [.host, .fresh] s s.creditAll := by
  have h := fun (w : Nat) (u : State) => OnlyIn.foldl (fun u t => u.credit w t) (fun u t => credit_frame u w t) (s.host.tenants.map (·.1)) u
  have e : ∀ w, OnlyIn [.host] s { s with host := { s.host with shares := [], wsum := w } } :=
    fun w => ⟨fun a ha => by cases a <;> first | rfl | simp at ha, rfl⟩
  have k := (e (((s.host.tenants.map (·.1)).filter s.hasWaiting).map fun t => (s.tenant t).weight).sum).trans
    (h (((s.host.tenants.map (·.1)).filter s.hasWaiting).map fun t => (s.tenant t).weight).sum _)
  exact ⟨fun a ha => by
    have := k.1 a (fun h => ha (by simp_all))
    cases a <;> first | exact absurd ha (by decide) | exact this, k.2⟩

/-- The output of a step reaches its instance alone (R123). -/
theorem deliverStep_frame (s : State) (n k : Nat) (o : StepOut) : OnlyIn [.twl] s (s.deliverStep n k o) := by
  unfold State.deliverStep
  dsimp only
  split
  · exact ⟨fun a ha => by cases a <;> first | rfl | simp at ha, rfl⟩
  · exact OnlyIn.refl _ s

end Sys2Proof.Machine
end

