-- ==== Sys2Proof/Laws/Memory.lean ====
section
/-! SUPPORT. Every operation on the memories keeps their canonical form, and what a byte reads after a write. -/

namespace Sys2Proof.Machine

/-- Reset memory lists nothing. -/
theorem reset_mem_wf : State.reset.mem.wf = true := rfl

theorem Memory.wf_writeByte {m : Memory} (h : m.wf = true) (a : Nat) (b : Byte) : (m.writeByte a b).wf = true := by
  simp only [Memory.wf, Bool.and_eq_true, Memory.writeByte] at h ⊢
  exact ⟨SMap.wf_set h.1 a b, SMap.wf_drop h.2 a⟩

theorem Memory.wf_write {m : Memory} (h : m.wf = true) (a : Nat) (b : Bytes) : (m.write a b).wf = true := by
  induction b generalizing m a with
  | nil => exact h
  | cons x t ih => exact ih (wf_writeByte h a x) (a + 1)

theorem Memory.wf_zeroRange {m : Memory} (h : m.wf = true) (a n : Nat) : (m.zeroRange a n).wf = true := by
  simp only [Memory.wf, Bool.and_eq_true, Memory.zeroRange] at h ⊢
  exact ⟨SMap.wf_filter h.1 _, SMap.wf_filter h.2 _⟩

theorem Memory.wf_initClass {m : Memory} (h : m.wf = true) (k : Nat) : (m.initClass k).wf = true := by
  have key : ∀ (l : List (Nat × Nat × Nat × Nat × Nat)) (m : Memory), m.wf = true →
      (l.foldl (fun m r => m.zeroRange r.2.1 r.2.2.1) m).wf = true := by
    intro l
    induction l with
    | nil => intro m h; exact h
    | cons x t ih => intro m h; exact ih _ (wf_zeroRange h _ _)
  exact key _ m h

theorem Memory.wf_setCls {m : Memory} (h : m.wf = true) (k : Nat) (f : MemClass → MemClass) : (m.setCls k f).wf = true := h

/-- A byte reads what was last written to it (R369). -/
@[simp] theorem Memory.readByte_writeByte_self (m : Memory) (a : Nat) (b : Byte) : (m.writeByte a b).readByte a = b := by
  simp [Memory.readByte, Memory.writeByte]

/-- A write leaves every other byte alone. -/
@[simp] theorem Memory.readByte_writeByte_other (m : Memory) {a c : Nat} (h : c ≠ a) (b : Byte) :
    (m.writeByte a b).readByte c = m.readByte c := by
  simp [Memory.readByte, Memory.writeByte, h]

/-- A write of several bytes leaves every byte outside them alone. -/
theorem Memory.readByte_write_outside (m : Memory) (a c : Nat) (b : Bytes) (h : c < a ∨ a + b.length ≤ c) :
    (m.write a b).readByte c = m.readByte c := by
  induction b generalizing m a with
  | nil => rfl
  | cons x t ih =>
    simp only [List.length_cons] at h
    rw [Memory.write, ih]
    · exact Memory.readByte_writeByte_other m (by omega) x
    · omega

/-- A written byte has fresh check bits: it reads as correct (R376). -/
theorem Memory.chk_writeByte_self (m : Memory) (a : Nat) (b : Byte) : SMap.get 0 (m.writeByte a b).chk a = 0 := by
  simp [Memory.writeByte, SMap.get_drop_self]

theorem State.keycWrite_mem (s : State) (off : Nat) : (s.keycWrite off).mem = s.mem := by
  unfold State.keycWrite
  split
  · rfl
  · simp only [State.drew]

theorem State.regionWrite_mem (s : State) (off : Nat) (b : Bytes) : (s.regionWrite off b).mem = s.mem := by
  unfold State.regionWrite
  dsimp only
  repeat' split
  all_goals simp only

/-- A write through an address keeps the memories canonical. -/
theorem State.wf_poke {s : State} (h : s.mem.wf = true) (a : Nat) (b : Bytes) : (s.poke a b).mem.wf = true := by
  unfold State.poke
  dsimp only
  repeat' split
  · simp only [Memory.wf, Bool.and_eq_true, State.setCtx_mem] at h ⊢
    exact ⟨h.1, SMap.wf_filter h.2 _⟩
  · rw [State.keycWrite_mem]; exact h
  · simp only; exact h
  · simp only; exact h
  · simp only; exact h
  · rw [State.regionWrite_mem]; exact h
  · exact h
  · exact Memory.wf_write h a b

end Sys2Proof.Machine
end

