-- ==== Sys2Proof/Machine/HostReads.lean ====
section
/-! DEFINITION. What the host reads of the device: the identity of a PCIe function, the doorbell pages and BAR2 (R86, R87, R91,
R96). -/

namespace Sys2Proof.Machine

/-! ## Identity (R86) -/

/-- What a function's configuration space says of it. -/
structure PcieIdentity where
  vendor : Nat
  device : Nat
  revision : Nat
  subsystem : Nat
  classCode : Nat
  bar0Size : Nat
  bar2Size : Nat
  vectors : Nat
  payloads : List Nat
  maxReadRequest : Nat
  outstanding : Nat
  translation : Bool
  processIds : Bool
  deriving DecidableEq, Repr

/-- The identity of the device's endpoint function; Plaore's vendor number is not stated (free). -/
def State.pcieIdentity (s : State) : PcieIdentity where
  vendor := Config.pciVendor % 65536
  device := 0x0640
  revision := Config.sysStep.toNat
  subsystem := s.part.code
  classCode := 0x108000
  bar0Size := 0x100000
  bar2Size := 0x10000
  vectors := 2048
  payloads := [128, 256, 512]
  maxReadRequest := 4096
  outstanding := 256
  translation := false
  processIds := false

/-! ## Doorbell pages (R91, R96) -/

/-- DB_QCTL. -/
def QPair.ctlWord (x : QPair) : Nat := flag x.en + 2 * flag x.ien + 256 * (x.icount % 256) + 65536 * (x.itime % 256)

/-- DB_QSTAT. -/
def QPair.statWord (x : QPair) : Nat :=
  x.sqHead % 8192 + 65536 * (x.fault % 8) + 2 ^ 19 * flag x.portB + 2 ^ 20 * flag x.enabled

/-- A register of queue pair `q`, at its offset of 0x00 to 0x1C. -/
def QPair.reg (x : QPair) (off : Nat) : Nat :=
  match off with
  | 0x00 => x.sqBase.toNat % 2 ^ 32 / 4096 * 4096
  | 0x04 => x.sqBase.toNat / 2 ^ 32
  | 0x08 => x.cqBase.toNat % 2 ^ 32 / 4096 * 4096
  | 0x0C => x.cqBase.toNat / 2 ^ 32
  | 0x10 => x.ctlWord
  | 0x14 => x.sqTail % 8192
  | 0x18 => x.cqHead % 8192
  | 0x1C => x.statWord
  | _ => 0

/-- The tenant's page is decoded (R96, R114, R116). -/
def State.pageOpen (s : State) (t : Nat) : Bool :=
  s.onMain && (decide ((s.tenant t).state = .active) || decide ((s.tenant t).state = .resetting))

/-- What a tenant's doorbell page reads as: zero for a tenant that does not exist and for queue pairs from QPAIRS on (R96). -/
def State.doorbellReg (s : State) (t off : Nat) : Nat :=
  let x := s.tenant t
  if s.pageOpen t = false then 0
  else if off < 0x200 then (if s.doorbell t (off / 32) then (s.qp t (off / 32)).reg (off % 32) else 0)
  else
    match off with
    | 0x400 => (s.tenWords t).headD 0 % 8 + 256 * (x.colour % 256) + 65536 * (x.qpairs % 32)
    | 0x408 => x.faultQp.toNat
    | _ => 0

/-! ## BAR2 (R87) -/

/-- Four bytes of the pending-bit array. -/
def Port.pbaWord (p : Port) (off : Nat) : Nat := (List.range 32).foldl (fun n k => n + 2 ^ k * flag (p.pba.contains (8 * off + k))) 0

/-- Four bytes of the MSI-X table. -/
def Port.msixWord (p : Port) (off : Nat) : Nat :=
  let x := SMap.get MsixEntry.reset p.msix (off / 16)
  match off % 16 with
  | 0x00 => x.addr.toNat % 2 ^ 32
  | 0x04 => x.addr.toNat / 2 ^ 32
  | 0x08 => x.data.toNat
  | _ => flag x.masked

/-- The device address behind an offset of BAR2's register windows. -/
def bar2Device (off : Nat) : Option Nat :=
  if off < 0x1000 then some (0xC0000000 + off)
  else if off < 0x2000 then some (0xC0020000 + (off - 0x1000))
  else if off < 0x5000 then some (0xC0030000 + (off - 0x2000))
  else none

/-- A read of BAR2. -/
def State.bar2Read (s : State) (portB : Bool) (off : Nat) : State × Option W32 :=
  match bar2Device off with
  | some a => s.regRead (.host portB) a
  | none =>
    (s, some (BitVec.ofNat 32 (
      if off < 0x7F00 then 0
      else if off < 0x8000 then (s.port portB).pbaWord (off - 0x7F00)
      else (s.port portB).msixWord (off - 0x8000))))

/-- A 4-byte read by the host through a function that can be reached; `none` while it stalls (R86, R87, R96). -/
def State.hostRead (s : State) (p : RegPlace) : State × Option W32 :=
  match p with
  | .dev _ => (s, none)
  | .bar0 portB off =>
    if s.functionUp portB then (s, some (BitVec.ofNat 32 (s.doorbellReg (off / 0x1000) (off % 0x1000)))) else (s, none)
  | .bar2 portB off => if s.functionUp portB then s.bar2Read portB off else (s, none)

end Sys2Proof.Machine
end

