-- ==== Sys2Proof/Machine/Package.lean ====
section
/-! DEFINITION. The package's ball map (R488–R494): where each signal leaves the device. -/

namespace Sys2Proof.Machine

/-- The row letters, row 1 first (R488). -/
def rowNames : List String :=
  ["A", "B", "C", "D", "E", "F", "G", "H", "J", "K", "L", "M", "N", "P", "T", "U", "V", "W", "Y", "AA"]
    ++ ["AB", "AC", "AD", "AE", "AF", "AG", "AH", "AJ", "AK", "AL", "AM", "AN", "AP", "AT"]

/-- A ball by its row, counted from 1, and its column (R488). -/
structure Ball where
  row : Nat
  column : Nat
  deriving DecidableEq, Repr

/-- A ball's name: its row letters and its column number. -/
def Ball.name (b : Ball) : String := rowNames.getD (b.row - 1) "" ++ toString b.column

/-- The ring of a ball (R490). -/
def Ball.ring (b : Ball) : Nat := min (min b.row b.column) (min (35 - b.row) (35 - b.column))

/-- The wires of a Bilkin link (R492). -/
inductive BilkinWire where
  | txp
  | txn
  | rxp
  | rxn
  deriving DecidableEq, Repr

/-- The wires of a USB4 port (R493), in the order of their columns: row H's, then row J's. -/
inductive UsbWire where
  | tx1p
  | tx1n
  | tx2p
  | tx2n
  | sbu1
  | sbu2
  | rx1p
  | rx1n
  | rx2p
  | rx2n
  | dp
  | dn
  deriving DecidableEq, Repr

/-- The signals of R489; the balls left over are ground. -/
inductive Signal where
  | mesh (ch : Nat)
  | bilkin (link : Nat) (w : BilkinWire)
  | usb4 (portB : Bool) (w : UsbWire)
  | sideband (line : Nat)
  | vbat (n : Nat)
  | vin (n : Nat)
  | nc (n : Nat)
  deriving DecidableEq, Repr

/-- Place `j` of ring `k`: the four sides of `33 - 2 * k` channels each, clockwise, each skipping row or column 17 (R490). -/
def ringBall (k j : Nat) : Ball :=
  let n := 33 - 2 * k
  let up := if 17 ≤ k + 1 + j % n then k + 2 + j % n else k + 1 + j % n
  let down := if 34 - k - j % n ≤ 17 then 33 - k - j % n else 34 - k - j % n
  if j / n = 0 then ⟨k, up⟩
  else if j / n = 1 then ⟨up, 35 - k⟩
  else if j / n = 2 then ⟨35 - k, down⟩
  else ⟨down, k⟩

/-- The ball of a mesh channel: rings 1 to 4 hold 124, 116, 108 and 100 (R490). -/
def meshBall (ch : Nat) : Ball :=
  if ch < 124 then ringBall 1 ch
  else if ch < 240 then ringBall 2 (ch - 124)
  else if ch < 348 then ringBall 3 (ch - 240)
  else ringBall 4 (ch - 348)

/-- A wire of a Bilkin pair as an offset: the second ball of the pair, and whether it receives. -/
def BilkinWire.second : BilkinWire → Nat
  | .txn | .rxn => 1
  | .txp | .rxp => 0

def BilkinWire.receives : BilkinWire → Bool
  | .rxp | .rxn => true
  | .txp | .txn => false

/-- The ball of a link's wire (R492): rows E to G and AJ to AL, columns 5 to 7 and 28 to 30. -/
def bilkinBall (link : Nat) (w : BilkinWire) : Ball :=
  let i := link % 8
  if link < 8 then ⟨if w.receives then 7 else 5, 6 + 3 * i + w.second⟩
  else if link < 16 then ⟨if w.receives then 28 else 30, 6 + 3 * i + w.second⟩
  else if link < 24 then ⟨10 + 2 * i + w.second, if w.receives then 7 else 5⟩
  else ⟨10 + 2 * i + w.second, if w.receives then 28 else 30⟩

/-- A USB4 wire's row, H or J, and its offset from the port's first column (R493). -/
def UsbWire.place : UsbWire → Nat × Nat
  | .tx1p => (8, 0)
  | .tx1n => (8, 1)
  | .tx2p => (8, 3)
  | .tx2n => (8, 4)
  | .sbu1 => (8, 6)
  | .sbu2 => (8, 7)
  | .rx1p => (9, 0)
  | .rx1n => (9, 1)
  | .rx2p => (9, 3)
  | .rx2n => (9, 4)
  | .dp => (9, 6)
  | .dn => (9, 7)

/-- The ball of a signal (R489–R494). -/
def Signal.ball : Signal → Ball
  | .mesh ch => meshBall ch
  | .bilkin link w => bilkinBall link w
  | .usb4 portB w => ⟨w.place.1, (if portB then 18 else 8) + w.place.2⟩
  | .sideband line => if line < 16 then ⟨10, 8 + line⟩ else ⟨11, line - 8⟩
  | .vbat n => ⟨11, 23 + n⟩
  | .vin n => ⟨23 + n / 8, 20 + n % 8⟩
  | .nc n => ⟨21 + n / 12, 8 + n % 12⟩

end Sys2Proof.Machine
end

