-- ==== Sys2Proof/Tests/Slice0.lean ====
section
/-! SUPPORT. Tests: the checks of well-formedness, the spec's worked examples, and for every statement with hypotheses a state
and operands that meet them. What a hypothesis asks of an opaque constant is assumed of it where it is needed. -/

namespace Sys2Proof.Tests

set_option Elab.async false

open Sys2Proof.Machine

/-! ## States to start from -/

/-- A slice of the first of two strings. -/
theorem slice_left (a b : Bytes) (off n : Nat) (h : off + n ≤ a.length) : slice (a ++ b) off n = slice a off n := by
  rw [slice, slice, List.drop_append_of_le_length (by omega), List.take_append_of_le_length (by rw [List.length_drop]; omega)]
theorem leAt_left (a b : Bytes) (off n : Nat) (h : off + n ≤ a.length) : leAt (a ++ b) off n = leAt a off n := by
  rw [leAt, leAt, slice_left a b off n h]
/-- A field of the second of two strings. -/
theorem leAt_right (a b : Bytes) (off n : Nat) (h : a.length ≤ off) : leAt (a ++ b) off n = leAt b (off - a.length) n := by
  rw [leAt, leAt, slice, slice, List.drop_append, List.drop_eq_nil_of_le h, List.nil_append]
/-- A queue pair that is enabled and empty. -/
def pair : QPair := { QPair.reset with en := true, enabled := true }

/-- An active tenant. -/
def ten : Tenant :=
  { Tenant.absent with state := .active, qpairs := 2, slots := 8, nodes := 16, weight := 500, bal := 1000000 }

/-- The default image with a known TWSHARE. -/
def romImage : Image := { Image.rom with pools := Image.rom.pools.map fun p => { p with twshare := 50 } }

/-- The device in SERVICE: entropy runs, port A has a tunnel, tenants 0 and 1 are active with a queue pair each. -/
def dev : State := { State.reset with
  sys := { Sys.reset with mode := .service, prev := .load, cause := 3, fwVerified := true, imgApplied := true }
  host := { HostSide.reset with
    portA := { Port.reset with link := true, tunnel := true }, qps := [(0, pair), (16, pair)], tenants := [(0, ten), (1, ten)] }
  img := { Img.reset with force := romImage }
  ent := { Entropy.reset with state := .running, ready := true, buf := List.replicate 512 4#128 } }

/-- The public key of the P-384 scalar 3, and two signatures made with it: over the SHA-384 of nothing and over D_IMG of the
copy below. -/
def cPub : Bytes :=
  [0x04, 0x07, 0x7A, 0x41, 0xD4, 0x60, 0x6F, 0xFA, 0x14, 0x64, 0x79, 0x3C, 0x7E, 0x5F, 0xDC, 0x7D, 0x98, 0xCB, 0x9D, 0x39]
    ++ [0x10, 0x20, 0x2D, 0xCD, 0x06, 0xBE, 0xA4, 0xF2, 0x40, 0xD3, 0x56, 0x6D, 0xA6, 0xB4, 0x08, 0xBB, 0xAE, 0x50, 0x26, 0x58]
    ++ [0x0D, 0x02, 0xD7, 0xE5, 0xC7, 0x05, 0x00, 0xC8, 0x31, 0xC9, 0x95, 0xF7, 0xCA, 0x0B, 0x0C, 0x42, 0x83, 0x7D, 0x0B, 0xBE]
    ++ [0x96, 0x02, 0xA9, 0xFC, 0x99, 0x85, 0x20, 0xB4, 0x1C, 0x85, 0x11, 0x5A, 0xA5, 0xF7, 0x68, 0x4C, 0x0E, 0xDC, 0x11, 0x1E]
    ++ [0xAC, 0xC2, 0x4A, 0xBD, 0x6B, 0xE4, 0xB5, 0xD2, 0x98, 0xB6, 0x5F, 0x28, 0x60, 0x0A, 0x2F, 0x1D, 0xF1]
def sigEmpty : Bytes := beBytes 96 0x1386A7FFE1B353688F123E3DB5E7E42E7F93DAE1D2C658A3A469DB5970513D8A10E679F768DDCD1451F78E24CE09CBB5DF7107A28735CB0B531319381EE9E05CAF2CA634BB7BA92B2E4B44249F31DA1CBBE983BF018F02FC9C7BF432A9C8E1EF
def sigImage : Bytes := beBytes 96 0x1386A7FFE1B353688F123E3DB5E7E42E7F93DAE1D2C658A3A469DB5970513D8A10E679F768DDCD1451F78E24CE09CBB514B6B234CC3A44687236F78E279DF02C9EEE8F36D721EBDC75D00098EDB560C635AE0A0EAB3B84D9740D5347948ED7D2

/-- The device in another mode. -/
def devIn (m : Mode) : State := { dev with sys := { dev.sys with mode := m } }

/-- A submission of a tenant's first queue pair. -/
def req (t op : Nat) : Req := { Req.none with src := .host t 0 0, desc := { Req.none.desc with opcode := op } }

/-- The same with an input. -/
def reqIn (t op : Nat) (b : Bytes) : Req :=
  { req t op with input := b, desc := { (req t op).desc with inLen := b.length } }

/-- The same with PARAM. -/
def withPar (r : Req) (p : W64) : Req := { r with desc := { r.desc with param := p } }

/-- The same with room for output. -/
def withOut (r : Req) (n : Nat) : Req := { r with desc := { r.desc with outLen := n } }

/-- The same with a context. -/
def withCtx (r : Req) (c : Nat) : Req := { r with desc := { r.desc with ctx := BitVec.ofNat 32 (2 ^ 31 + c) } }

/-- The same with its two key handles. -/
def withKeys (r : Req) (a b : W64) : Req := { r with desc := { r.desc with key0 := a, key1 := b } }

/-- A state in which a submission has been admitted. -/
def took (s : State) (r : Req) : State :=
  { s with host := { s.host with admitted := [{ req := r, sqHead := 0, urgent := false }] } }

/-- A submission's turn has come, as something to decide. -/
abbrev turn (s : State) (r : Req) (op : Nat) : Prop :=
  r.desc.opcode = op ∧ s.onMain = true ∧ s.isAdmitted r = true ∧ s.isAway r = false ∧ s.heldBack r = false
    ∧ s.ctxDenial r = 0 ∧ s.ctxError r = none ∧ (r.desc.inLen = 0 ∨ r.inOk = true)

/-- It is what the statements call a turn. -/
theorem turn_is_turn (s : State) (r : Req) (op : Nat) : turn s r op ↔ Turn s r op := Iff.rfl

/-- Its turn once it has been admitted. -/
abbrev tk (s : State) (r : Req) (op : Nat) : Prop := turn (took s r) r op

/-- A result that is there and satisfies `p`. -/
def okB {α : Type} (e : Except Rej α) (p : α → Bool) : Bool :=
  match e with
  | .ok x => p x
  | .error _ => false

/-- What `okB` says. -/
theorem okB_iff {α : Type} (e : Except Rej α) (p : α → Bool) : okB e p = true ↔ ∃ x, e = .ok x ∧ p x = true := by
  cases e with
  | ok x => exact ⟨fun h => ⟨x, rfl, h⟩, fun ⟨_, h, q⟩ => by cases h; exact q⟩
  | error _ => exact ⟨(fun h => nomatch h), (fun ⟨_, h, _⟩ => nomatch h)⟩

/-- A value that is there and satisfies `p`. -/
def someB {α : Type} (e : Option α) (p : α → Bool) : Bool :=
  match e with
  | some x => p x
  | none => false

/-- What `someB` says. -/
theorem someB_iff {α : Type} (e : Option α) (p : α → Bool) : someB e p = true ↔ ∃ x, e = some x ∧ p x = true := by
  cases e with
  | some x => exact ⟨fun h => ⟨x, rfl, h⟩, fun ⟨_, h, q⟩ => by cases h; exact q⟩
  | none => exact ⟨(fun h => nomatch h), (fun ⟨_, h, _⟩ => nomatch h)⟩

/-- In BACKUP without VIN or a cell. -/
def dark : State := { devIn .backup with pwr := { dev.pwr with vinOk := false, cellFitted := false, thermHold := true } }

/-- Obligations.SupplyEventsAndLossesOfPower. -/
theorem witness_SupplyEventsAndLossesOfPower :
    dark.sys.mode = .backup ∧ dark.pwr.vinOk = false ∧ dark.pwr.cellFitted = false
    ∧ dev.onMain = true
    ∧ dark.powered = false ∧ dev.powered = true ∧ dev.pwr.cellFitted = true
    ∧ dev.powered = true ∧ 1000 ≤ 1000 := by decide +kernel

/-- In BACKUP with VIN back. -/
def waking : State := devIn .backup
/-- Held in reset by RESET_N. -/
def heldDev : State := { dev with boot := { dev.boot with held := true } }
/-- In DRAIN to BOOT with nothing left. -/
def drained (tgt : DrainTo) : State := { devIn .drain with sys := { (devIn .drain).sys with pend := true, drainTo := tgt } }

/-- Obligations.EveryStartOfTheMainDomainEndsInBoot. -/
theorem witness_EveryStartOfTheMainDomainEndsInBoot :
    dev.bkd.intact = true ∧ dev.lcs.otp.interrupted = none
    ∧ waking.sys.mode = .backup ∧ waking.pwr.vinOk = true ∧ waking.pwr.thermHold = false ∧ waking.lcs.scanning = false
    ∧ heldDev.powered = true ∧ heldDev.boot.held = true ∧ heldDev.lcs.scanning = false
    ∧ (drained .boot).drained .boot = true := by decide +kernel

/-- In BOOT, port A presenting its USB 2.0 device. -/
def booting : State := { devIn .boot with boot := { Boot.reset with usb2A := true } }
/-- In BOOT with a download on its way. -/
def loading : State := { booting with boot := { booting.boot with download := .usb4, dmaLen := 0 } }

/-- Obligations.DownloadsRunInBootAndStartTheCores. -/
theorem witness_DownloadsRunInBootAndStartTheCores :
    booting.booting = true ∧ booting.boot.download = .none ∧ (if false then booting.boot.usb2B else booting.boot.usb2A) = true
    ∧ loading.booting = true ∧ loading.boot.download = .usb4 ∧ ([] : Bytes).length = loading.boot.dmaLen
      ∧ loading.sys.romFailed = false ∧ firmwareCode loading.part loading.lcs.otp [] = 2 := by decide +kernel

/-- In LOAD before the structure image. -/
def load0 : State := { devIn .load with sys := { (devIn .load).sys with imgApplied := false } }
/-- In LOAD with the image applied and a root due. -/
def loadRoot : State := { devIn .load with bkd := { dev.bkd with rootDue := true } }
/-- In LOAD with a kept lock. -/
def loadLock : State := { devIn .load with bkd := { dev.bkd with lockKept := true } }

/-- Obligations.StepsOfLoad. -/
theorem witness_StepsOfLoad :
    load0.loading = true ∧ load0.sys.imgApplied = false
    ∧ loadRoot.loading = true ∧ loadRoot.bkd.rootDue = true ∧ loadRoot.sys.imgApplied = true
      ∧ someB (loadRoot.takeWords 2) (fun x => decide (wordBytes x.1 ≠ zeros 32)) = true
    ∧ (devIn .load).sys.imgApplied = true ∧ (devIn .load).loading = true ∧ (devIn .load).startTestsPassed = true
      ∧ (devIn .load).bkd.rootDue = false ∧ (devIn .load).lockDue = false
    ∧ loadLock.sys.imgApplied = true ∧ loadLock.loading = true ∧ loadLock.startTestsPassed = true
      ∧ loadLock.bkd.rootDue = false ∧ loadLock.lockDue = true ∧ loadLock.lifeCycle ≠ 3 := by decide +kernel

/-- The CX642, which has no island 10. -/
def small : State := { dev with part := .cx642 }
/-- The device with Serge's island owned by no image. -/
def unowned : State := { dev with pwr := { dev.pwr with ownerImg := 0x7FDFF#19 } }
/-- The same with an accepted gate request. -/
def gating : State := { unowned with pwr := { unowned.pwr with gating := [{ world := .secure, isl := 9, act := .power }] } }

/-- Obligations.GateRequestsAndLeasesOfIslands. -/
theorem witness_GateRequestsAndLeasesOfIslands :
    small.pwr.serving .normal = none ∧ small.islandPresent 10 = false ∧ small.pwr.tripped.getLsbD 10 = false
      ∧ small.pwr.tripping.getLsbD 10 = false
    ∧ dev.pwr.serving .normal = none ∧ dev.islandPresent 9 = true ∧ dev.pwr.owner.getLsbD 9 = true
    ∧ unowned.islandPresent 9 = true ∧ gateable 9 = true ∧ unowned.pwr.owner.getLsbD 9 = false
      ∧ unowned.pwr.tripped.getLsbD 9 = false ∧ unowned.pwr.tripping.getLsbD 9 = false
    ∧ unowned.pwr.serving .normal = none ∧ (gating.pwr.serving .secure).isSome = true
    ∧ gating.pwr.gateServed 9 = some { world := .secure, isl := 9, act := .power } ∧ gating.islandBusy 9 = false
      ∧ gating.pwr.gating.filter (fun x => decide (x.world = World.secure)) = [{ world := .secure, isl := 9, act := .power }]
    ∧ dev.secureOrControl (.supervisor false) = true := by decide +kernel

/-- Island 9's trip runs and ends in a shutdown. -/
def tripping : State := { dev with pwr := { dev.pwr with tripping := 0x00200#19, shutdownDue := true } }
/-- Island 9's trip runs. -/
def tripOne : State := { dev with pwr := { dev.pwr with tripping := 0x00200#19 } }
/-- Under a thermal hold, one good check from its end. -/
def holding : State := { devIn .backup with pwr := { dev.pwr with thermHold := true, goodChecks := 79 } }
/-- Island 9 off after a trip. -/
def tripped : State := { dev with pwr := { dev.pwr with tripped := 0x00200#19 } }

/-- Obligations.ThermalTripHoldAndReturn. -/
theorem witness_ThermalTripHoldAndReturn :
    dev.onMain = true ∧ 31 < 32 ∧ 199 ≤ 199 ∧ 198 < 199 ∧ dev.pwr.tripped.getLsbD 9 = false
      ∧ (dev.senseJunction 14 199).tripIsland 14 = some 9 ∧ (dev.senseJunction 31 199).tripIsland 31 = none
    ∧ tripping.onMain = true ∧ tripping.pwr.tripping.getLsbD 9 = true ∧ tripping.pwr.shutdownDue = true
    ∧ tripOne.sys.mode = .service ∧ tripOne.onMain = true ∧ tripOne.pwr.tripping.getLsbD 9 = true
      ∧ tripOne.pwr.shutdownDue = false
    ∧ holding.sys.mode = .backup ∧ holding.pwr.thermHold = true ∧ 164 ≤ 164 ∧ 164 < 165 ∧ 79 ≤ holding.pwr.goodChecks
      ∧ holding.pwr.vinOnly = false
    ∧ tripped.inControl (.supervisor false) = true ∧ (0x00200#19).getLsbD 9 = true ∧ tripped.pwr.tripped.getLsbD 9 = true
      ∧ tripped.islandCool 9 = true := by decide +kernel

/-- An open ceremony without a step. -/
def someCer : Ceremony :=
  { unlock := false, steps := [], next := 0, suspend := false, timeoutS := 60, opened := 0, quorum := 3, statement := [], running := none }
/-- The alarm's cycle, a transition, a ceremony, and BOOT: a mode request that is not taken. -/
def notTaken : List State :=
  [{ dev with sys := { dev.sys with alarmAt := some dev.supv.cycle } }, { dev with sys := { dev.sys with pend := true } },
   { dev with lcs := { dev.lcs with ceremony := some someCer } }, devIn .boot, devIn .load]
/-- In DRAIN with a recipe of tenant 1 running. -/
def drainRun : State := { took (devIn .drain) (req 1 0x0101) with
  twl := { dev.twl with insts := [(3, { Inst.free with state := .running, req := req 1 0x0101 })] } }

/-- Obligations.DrainAndItsTargets. -/
theorem witness_DrainAndItsTargets :
    dev.sys.mode = .service ∧ dev.sys.alarmAt ≠ some dev.supv.cycle ∧ dev.sys.pend = false ∧ dev.lcs.ceremony = none
      ∧ bits (0x102#32).toNat 0 2 = 2 ∧ (0x102#32).getLsbD 8 = true ∧ dev.blk.ins = [] ∧ dev.blk.spillIns = []
    ∧ (devIn .drain).sys.mode = .drain ∧ (devIn .drain).twl.insts = []
    ∧ (took (devIn .drain) (req 1 0x0441)).host.admitted.map (·.req) = [req 1 0x0441]
      ∧ (took (devIn .drain) (req 1 0x0441)).instOf (req 1 0x0441) = none
    ∧ (drained .off).drained .off = true ∧ (drained .load).drained .load = true
    ∧ notTaken.all (fun s => s.onMain) ∧ (devIn .boot).sys.pend = false ∧ (devIn .boot).lcs.ceremony = none
      ∧ bits (0x103#32).toNat 0 2 = 3
    ∧ drainRun.sys.mode = .drain ∧ drainRun.host.admitted.map (·.req) = [req 1 0x0101]
      ∧ drainRun.instOf (req 1 0x0101) = some 3 ∧ (drainRun.slot 3).req = req 1 0x0101
      ∧ (drainRun.slot 3).state = .running := by decide +kernel

/-- Port B has a downstream adapter. -/
def downB : State := { dev with host := { dev.host with portB := { Port.reset with downstream := true } } }
/-- Its adapter's link is up. -/
def downUp : State := downB.setPort true { Port.reset with downstream := true, link := true }

/-- Obligations.PortsOfTheHostInterface. -/
theorem witness_PortsOfTheHostInterface :
    dev.onMain = true ∧ (dev.port true).link = false ∧ (dev.port false).link = true
    ∧ downB.host.portB.downstream = true ∧ downB.onMain = true ∧ (downB.port true).link = false
      ∧ (downB.port true).downstream = true := by decide +kernel

/-- Tenant 1's queue pair is disabled. -/
def unpaired : State := { dev with host := { dev.host with qps := [] } }
/-- Its interrupt timer runs. -/
def timing : State := { dev with host := { dev.host with
  qps := [(16, { pair with ien := true, itime := 5, itimeRun := true, unsignalled := 1 })] } }

/-- Obligations.DoorbellsOfAQueuePair. -/
theorem witness_DoorbellsOfAQueuePair :
    unpaired.doorbell 1 0 = true ∧ (3#32).getLsbD 0 = true ∧ unpaired.sys.mode ≠ .boot ∧ unpaired.sys.mode ≠ .load
      ∧ (unpaired.qp 1 0).enabled = false ∧ unpaired.mayBind 1 0 false = true
    ∧ dev.doorbell 1 0 = true ∧ (2#32).getLsbD 0 = false ∧ (dev.port false).tunnel = true
    ∧ 2 * dev.depth 1 0 = 512 ∧ ((511#32).extractLsb' 0 13).toNat < 512 ∧ 512 ≤ ((512#32).extractLsb' 0 13).toNat
    ∧ (((0#32).extractLsb' 0 13).toNat + 512 - (dev.qp 1 0).cqHead) % 512 ≤ ((dev.qp 1 0).cqTail + 512 - (dev.qp 1 0).cqHead) % 512
    ∧ (timing.qp 1 0).itimeRun = true ∧ (timing.qp 1 0).ien = true ∧ 0 < (timing.qp 1 0).unsignalled
      ∧ timing.doorbell 1 0 = true := by decide +kernel

/-- A write of PWR_LEASE waits for its complement. -/
def half : State := { dev with rwp := [{ who := .supervisor false, addr := 0xC0010020, value := 0x200#32 }] }

/-- Obligations.RegisterWritesCommitWaitOrReachTheirInstances. -/
theorem witness_RegisterWritesCommitWaitOrReachTheirInstances :
    dev.onMain = true ∧ 0xC0000020 % 4 = 0 ∧ blockOf 0xC0000020 = some (0, 0x20)
      ∧ dev.mayWrite (.supervisor false) 0 0x20 = true ∧ dev.registerPresent 0 0x20 = true ∧ isPaired 0 0x20 = false
      ∧ isPaired 0 0x1C = false
    ∧ blockOf 0xC0010020 = some (1, 0x20) ∧ isPaired 1 0x20 = true ∧ dev.mayWrite (.supervisor false) 1 0x20 = true
      ∧ dev.registerPresent 1 0x20 = true
    ∧ blockOf 0xC0010024 = some (1, 0x24) ∧ isPaired 1 0x24 = false ∧ half.mayWrite (.supervisor false) 1 0x24 = true
      ∧ half.rwp.find? (fun w => decide (w.who = .supervisor false) && w.addr == 0xC0010024 - 4) = some { who := .supervisor false, addr := 0xC0010020, value := 0x200#32 }
      ∧ half.rwp.find? (fun w => w.addr == 0xC0010020) = some { who := .supervisor false, addr := 0xC0010020, value := 0x200#32 }
    ∧ dev.mayWrite (.worker 0 .normal) 6 0x10 = false ∧ blockOf 0xC0060010 = some (6, 0x10)
    ∧ dev.inControl (.supervisor false) = true ∧ (1#32).getLsbD 0 = true := by decide +kernel

/-- A pair that has faulted, and one whose window is full; a tenant without credit; a request of random bytes. -/
def closed : State := { dev with host := { dev.host with qps := [(16, { pair with fault := 1 })] } }
def fullDev : State := { dev with host := { dev.host with qps := [(16, { pair with ring := List.replicate 256 (.waiting (req 1 0x0442) 0) })] } }
def noCredit : State := { dev with host := { dev.host with tenants := [(1, { ten with bal := 0 })] } }
def rndReq : Req := withOut (req 1 0x0441) 16

/-- Obligations.CommandsAreTurnedAwayOrCompleteInTheirRing. -/
theorem witness_CommandsAreTurnedAwayOrCompleteInTheirRing :
    (req 1 0x0441).src = .host 1 0 0 ∧ (took dev (req 1 0x0441)).isAdmitted (req 1 0x0441) = true
      ∧ ((took dev (req 1 0x0441)).qp 1 0).enabled = true
      ∧ ((took dev (req 1 0x0441)).port ((took dev (req 1 0x0441)).qp 1 0).portB).tunnel = true
      ∧ ([] : Bytes).length ≤ (req 1 0x0441).desc.outLen
    ∧ dev.isAdmitted (req 1 0x0501) = false ∧ (devIn .locked).isAdmitted (req 1 0x0441) = false
      ∧ (devIn .locked).sys.mode = .locked ∧ servedLocked (req 1 0x0441) = false ∧ (devIn .drain).sys.mode = .drain
    ∧ dev.serving = true ∧ (dev.tenant 1).state = .active ∧ dev.supv.noSup = false ∧ dev.srcOpen (req 1 0x0501) = true
      ∧ dev.isWaiting (req 1 0x0501) = false ∧ dev.windowFull (req 1 0x0501) = false
      ∧ (dev.arrive (req 1 0x0501)).hasTurn (req 1 0x0501) = true
      ∧ (dev.arrive (req 1 0x0501)).nextOf 1 = some (0, req 1 0x0501) ∧ 5 ≤ (req 1 0x0501).desc.cls
      ∧ (req 1 0x0501).desc.cls ≤ 8 ∧ (req 1 0x0501).tenant ≠ 0 := by decide +kernel

/-- Obligations.CommandsAreTurnedAwayOrCompleteInTheirRing. -/
theorem witness_CommandsAreTurnedAwayOrCompleteInTheirRing_2 :
    closed.srcOpen (req 1 0x0441) = false ∧ fullDev.windowFull (req 1 0x0441) = true ∧ fullDev.isWaiting (req 1 0x0441) = false
      ∧ (noCredit.arrive rndReq).hasTurn rndReq = false ∧ (dev.arrive rndReq).hasTurn rndReq = true
      ∧ (dev.arrive rndReq).nextOf 1 = some (0, rndReq) ∧ (dev.arrive rndReq).admissionRej rndReq = none := by decide +kernel

/-- A submission waits in tenant 1's ring behind SQTAIL 2. -/
def ring (l : List RingSlot) : QPair := { pair with sqTail := 300, ring := l }
/-- The device with that ring. -/
def ringDev (m : Mode) (l : List RingSlot) : State := { devIn m with host := { dev.host with qps := [(16, ring l)] } }
/-- A full window. -/
def full : List RingSlot := List.replicate 256 (.waiting (req 1 0x0441) 0)
/-- A second of overload. -/
def past (n : Nat) : State :=
  { dev with host := { dev.host with tenants := [(1, { ten with overloaded := true, retriesInSecond := n })] } }

/-- Obligations.RingEntriesWaitOrAreTurnedAway. -/
theorem witness_RingEntriesWaitOrAreTurnedAway :
    (ring []).en = true ∧ (ring []).fault = 0 ∧ dev.supv.noSup = false ∧ (ring []).slotFree 512 = true
      ∧ 2 * (ringDev .service []).depth 1 0 = 512 ∧ ((ring []).sqHead + (ring []).ring.length) % 512 ≠ (ring []).sqTail
      ∧ (ringDev .service []).serving = true ∧ ((ringDev .service []).tenant 1).state = .active ∧ (ring []).waiting < 256
    ∧ (ring full).waiting = 256 ∧ ((ring full).sqHead + (ring full).ring.length) % 512 ≠ (ring full).sqTail
      ∧ (ring full).slotFree 512 = true ∧ (ring full).ring.length + 1 < 512 ∧ (ring full).enabled = true
      ∧ ((ringDev .service full).port (ring full).portB).tunnel = true
    ∧ (ringDev .locked []).sys.mode = .locked ∧ servedLocked (req 1 0x0441) = false ∧ (ringDev .drain []).sys.mode = .drain
    ∧ ((past 0).tenant 1).overloaded = true ∧ ((past 0).tenant 1).retriesInSecond = 0
      ∧ ((past 7).tenant 1).retriesInSecond ≠ 0 := by decide +kernel

/-- No supervisor controls the device. -/
def orphan : State := { dev with supv := { dev.supv with noSup := true, stA := .selfTest, stB := .fenced } }
/-- Tenant 1 has no credit. -/
def broke : State := { dev with host := { dev.host with tenants := [(1, { ten with bal := 0 })] } }
/-- A supervisor that shadows takes control. -/
def shadowed (b : Bool) : State :=
  { orphan with supv := { orphan.supv with stA := if b then .selfTest else .shadowing, stB := if b then .shadowing else .fenced } }

/-- Obligations.SupervisorCycleAdmitsAgainstCredits. -/
theorem witness_SupervisorCycleAdmitsAgainstCredits :
    (devIn .boot).onMain = true ∧ (devIn .boot).supv.noSup = false ∧ (devIn .boot).supv.mayReclaim = false
      ∧ (devIn .boot).sys.mode = .boot ∧ dev.serving = true ∧ dev.supv.mayReclaim = false
    ∧ (shadowed false).supv.stA = .shadowing ∧ (shadowed true).supv.stA ≠ .shadowing ∧ (shadowed true).supv.stB = .shadowing
      ∧ (devIn .drain).supv.noSup = false ∧ (devIn .drain).sys.mode = .drain ∧ (devIn .locked).sys.mode = .locked
    ∧ orphan.onMain = true ∧ orphan.supv.noSup = true ∧ orphan.supv.stA ≠ .shadowing ∧ orphan.supv.stB ≠ .shadowing
    ∧ (broke.tenant 1).bal ≤ 0 ∧ 1024 ≤ ({ dev with host := { dev.host with inCycle := 1024 } } : State).host.inCycle
      ∧ dev.hasWaiting 1 = false ∧ (dev.arrive (req 1 0x0441)).hasWaiting 1 = true := by decide +kernel

/-- The image has a record for tenant 2. -/
def rec2 : TenantRec :=
  { tenant := 2, isStatic := false, colour := 3, qpairs := 1, ctxUnits := 2, weight := 100, slots := 4, nodes := 8 }
/-- The device with it, and a command of tenant 0 admitted. -/
def with2 (r : Req) : State := took { dev with img := { dev.img with force := { romImage with tenants := [rec2] } } } r
/-- Tenant 1 is being created, destroyed or reset, with the command that began it, and another command on it. -/
def lived (st : TState) (k : LifeStep) (r : Req) : State := (took dev r).beginLife 1 st k []
def on1 (op : Nat) : Req := withPar (req 0 op) 1

/-- Obligations.TenantsAreCreatedDestroyedAndReset. -/
theorem witness_TenantsAreCreatedDestroyedAndReset :
    turn (with2 (withPar (req 0 0x0501) 2)) (withPar (req 0 0x0501) 2) 0x0501 ∧ (withPar (req 0 0x0501) 2).desc.par 0 1 = 2
      ∧ (with2 (withPar (req 0 0x0501) 2)).tenantRec 2 = some rec2
      ∧ ((with2 (withPar (req 0 0x0501) 2)).tenant 2).state = .absent
    ∧ turn (took dev (withPar (req 0 0x0502) 0x101)) (withPar (req 0 0x0502) 0x101) 0x0502
      ∧ true = decide ((withPar (req 0 0x0502) 0x101).desc.par 1 1 % 2 = 1)
      ∧ ((took dev (withPar (req 0 0x0502) 0x101)).tenant 1).state = .active
      ∧ SMap.get 0 dev.bkd.epochs 1 < 2 ^ 32 - 1 := by decide +kernel

/-- Obligations.TenantsAreCreatedDestroyedAndReset. -/
theorem witness_TenantsAreCreatedDestroyedAndReset_2 :
    turn (lived .creating .create (on1 0x0501)) (on1 0x0501) 0x0501
      ∧ turn (lived .destroying (.destroy false) (on1 0x0502)) (on1 0x0502) 0x0502
      ∧ turn (lived .creating .create (on1 0x0503)) (on1 0x0503) 0x0503
      ∧ turn (lived .resetting .reset (on1 0x0501)) (on1 0x0501) 0x0501
      ∧ turn (lived .resetting .reset (on1 0x0502)) (on1 0x0502) 0x0502
      ∧ turn (lived .resetting .reset (on1 0x0503)) (on1 0x0503) 0x0503 ∧ (on1 0x0503).desc.par 0 1 = 1
      ∧ ((lived .resetting .reset (on1 0x0503)).tenant 1).state = .resetting
      ∧ ((lived .creating .create (on1 0x0501)).tenant 1).state = .creating
      ∧ ((lived .destroying (.destroy false) (on1 0x0502)).tenant 1).state = .destroying := by decide +kernel

/-- Obligations.TenantsAreCreatedDestroyedAndReset. -/
theorem witness_TenantsAreCreatedDestroyedAndReset_3 :
    turn (took dev (req 0 0x0502)) (req 0 0x0502) 0x0502 ∧ turn (took dev (req 0 0x0503)) (req 0 0x0503) 0x0503
      ∧ (took dev (on1 0x0503)).isAdmitted (on1 0x0503) = true
      ∧ ((took dev (on1 0x0503)).liveOn { tenant := 1, step := .reset, askers := [on1 0x0503] }).isAdmitted (on1 0x0503) = true := by decide +kernel

/-- Obligations.TenantsAreCreatedDestroyedAndReset. -/
theorem witness_TenantsAreCreatedDestroyedAndReset_4 :
    turn (took dev (withPar (req 0 0x0503) 1)) (withPar (req 0 0x0503) 1) 0x0503
      ∧ turn (took dev (withPar (req 0 0x0504) 1)) (withPar (req 0 0x0504) 1) 0x0504
      ∧ turn (took dev (req 0 0x0505)) (req 0 0x0505) 0x0505 ∧ turn (took dev (req 0 0x0501)) (req 0 0x0501) 0x0501
      ∧ (req 0 0x0501).desc.par 0 1 = 0 ∧ (dev.tenant 1).state = .active := by decide +kernel

/-- A session over slot A, half written. -/
def writing (r : Req) : State := took { dev with img := { dev.img with
  session := some { seq := 5, length := 4096, slotB := false, header := [], replica := false } } } r

/-- Obligations.ImageWriteSession. -/
theorem witness_ImageWriteSession :
    turn (took dev (req 0 0x0703)) (req 0 0x0703) 0x0703 ∧ (took dev (req 0 0x0703)).img.session = none
      ∧ (took dev (req 0 0x0703)).sys.imgSeq < 1 ∧ dev.bkd.seqFloor ≤ 1
    ∧ turn (writing (reqIn 0 0x0704 (zeros 64))) (reqIn 0 0x0704 (zeros 64)) 0x0704
      ∧ (writing (reqIn 0 0x0704 (zeros 64))).img.session = some { seq := 5, length := 4096, slotB := false, header := [], replica := false }
      ∧ 4032 % 64 = 0 ∧ (reqIn 0 0x0704 (zeros 64)).desc.inLen = 64 ∧ 4032 + 64 ≤ 4096 := by decide +kernel

/-- Obligations.ImageWriteSession. -/
theorem witness_ImageWriteSession_2 :
    turn (writing (req 0 0x0706)) (req 0 0x0706) 0x0706 ∧ (writing (req 0 0x0706)).img.session ≠ none
      ∧ turn (took dev (req 0 0x0705)) (req 0 0x0705) 0x0705 ∧ (took dev (req 0 0x0705)).img.session = none := by decide +kernel

/-- A challenge issued at 0, three days on. -/
def lapsed (n : Nat) : State := { dev with
  img := { dev.img with challenge := some { bytes := zeros 32, issued := 0 } }, sys := { dev.sys with optime := n } }
/-- A replica member that is busy. -/
def replicas (n : Nat) : State := { dev with
  img := { dev.img with replicas := [{ addr := 9, copy := zeros 4, off := 0, active := false, retries := n, busy := true }] } }

/-- Obligations.ImageQueriesAndReplication. -/
theorem witness_ImageQueriesAndReplication :
    turn (took dev (req 0 0x0701)) (req 0 0x0701) 0x0701 ∧ turn (took dev (req 0 0x0702)) (req 0 0x0702) 0x0702
      ∧ ((took dev (req 0 0x0702)).takeWords 2).isSome = true ∧ turn (took dev (req 0 0x0707)) (req 0 0x0707) 0x0707
      ∧ 1572863 + 1 ≤ 1572864 := by decide +kernel

/-- Obligations.ImageQueriesAndReplication. -/
theorem witness_ImageQueriesAndReplication_2 :
    (lapsed 259200000).img.challenge = some { bytes := zeros 32, issued := 0 } ∧ 0 + 259200000 ≤ (lapsed 259200000).sys.optime
      ∧ (lapsed 259199999).sys.optime < 0 + 259200000
    ∧ turn (writing (req 0 0x0708)) (req 0 0x0708) 0x0708 ∧ (writing (req 0 0x0708)).img.session ≠ none
    ∧ (replicas 60).img.replicas.find? (ReplicaWait.waitsFor 9) = some { addr := 9, copy := zeros 4, off := 0, active := false, retries := 60, busy := true }
      ∧ (replicas 59).img.replicas.find? (ReplicaWait.waitsFor 9) = some { addr := 9, copy := zeros 4, off := 0, active := false, retries := 59, busy := true }
      ∧ (replicas 59).img.replicas.any (ReplicaWait.runsTo 9) = false
      ∧ ({ dev with img := { dev.img with replicas := (replicas 5).img.replicas ++ [{ addr := 9, copy := [], off := 0, active := true, retries := 0, busy := false }] } } : State).img.replicas.any (ReplicaWait.runsTo 9) = true := by decide +kernel

/-- A derived AES key of tenant 0 for ciphering (bit 7) and for key blocks (bits 11 and 12), at most 10 uses, counted here. -/
def aesNode : Node :=
  { tenant := 0, kind := 1, parent := 1, depth := 2, alg := 3, flags := 0, colour := 0, usage := 0x1880#16, exportBits := 1,
    blimit := 0, limit := 10, block := 0, owner := 0xFFFF, gslot := 0, name := 1, runtime := true, epochPwr := 0, epochRst := 0 }
/-- Nodes 3 to 6: sealed AES leaves, a P-256 key whose public half may be read, an AES key that may leave, an internal node. -/
def leafNode : Node := { aesNode with kind := 2, usage := 0x0040#16, limit := 0, gslot := 7, name := 2, exportBits := 9 }
def ecNode : Node := { aesNode with alg := 0x10, usage := 0x2000#16, limit := 0, name := 3, exportBits := 4 }
def outNode : Node := { aesNode with usage := 0x0040#16, limit := 0, name := 4 }
def midNode : Node := { aesNode with kind := 0, alg := 0x40, usage := 0, limit := 0, name := 5, exportBits := 0 }
/-- Handles of nodes 2 to 5 of tenant 0. -/
def h2 : W64 := mkHandle 0 2 0
def h3 : W64 := mkHandle 0 3 300
def h4 : W64 := mkHandle 0 4 0
def h5 : W64 := mkHandle 0 5 0
/-- The counts of node 2's key: 3 uses, below the 5 that are reserved, and 10 blocks. -/
def kst : KState := { handle := h2, used := 3, ceil := 5, blkUsed := 10, bceil := 64, nonceCtr := 7 }
/-- Its place in the key-state table. -/
def ksAt : Nat := (ksProbe h2).headD 0
/-- Twill's one step of a graph: ECB encryption of 16 bytes under slot 0, into the result. -/
def ecb : Step :=
  { unit := 0, prim := 1, ksel := 0x80, flags := 2, pred := 0, a := ⟨0, 16⟩, b := ⟨0, 0⟩, c := ⟨0, 0⟩, d := ⟨0, 16⟩,
    imm := [0, 0, 7, 0, 0, 0, 0, 0] }
/-- Its recipe. -/
def ecbRecipe : Recipe :=
  { id := 0x200, version := 1, units := 1, graph := { Graph.empty with slots := 1, inwin := 16, outmax := 16, steps := [ecb] } }
/-- The device with a root, nodes 2 to 6, contexts 0 to 4095 of tenant 0, and the recipe. -/
def keyed : State := { dev with
  bkd := { dev.bkd with l0 := some (zeros 32) }
  img := { dev.img with force := { romImage with recipes := [ecbRecipe] } }
  host := { dev.host with tenants := [(0, { ten with units := [0] }), (1, ten)] }
  dmk := { dev.dmk with
    nodes := [(2, some aesNode), (3, some leafNode), (4, some ecNode), (5, some outNode), (6, some midNode)]
    ctx := [(100, { frozen := false, tenant := 0, body := .kstate ksAt kst })]
    ks := [(ksAt, { handle := h2, ceil := 5, bceil := 64 })]
    bound := [(ksAt, some 100)] } }
/-- RECIPE_RUN of the recipe. -/
def runReq : Req := withOut (withKeys (withPar (reqIn 0 0x0101 (zeros 16)) 0x200) h2 0) 16
/-- The instance it starts. -/
def loadInst : Inst := (took keyed runReq).newInst runReq ecbRecipe
/-- Slot 0 is loading. -/
def loadingDev : State := (took keyed runReq).setSlot 0 loadInst
/-- Its tenant has one slot, and an instance in it. -/
def crowded (r : Req) : State :=
  took ({ keyed with host := { keyed.host with tenants := [(0, { ten with slots := 1 }), (1, ten)] } }.setSlot 0 loadInst) r
/-- A second RECIPE_RUN. -/
def runReq2 : Req := { runReq with src := .host 0 0 1 }
/-- Slot 0 is loading with another tenant's handle. -/
def badLoad : State := (took keyed runReq).setSlot 0 { loadInst with handles := [mkHandle 5 2 0] }
/-- Its key has no use left, or too few blocks. -/
def fullKey (k : KState) : State := loadingDev.setKstate 0 ksAt 100 k
/-- Its key is not bound, and no context is free for it. -/
def unbound : State := { loadingDev with dmk := { keyed.dmk with ctx := [], bound := [] }, host := { loadingDev.host with tenants := [(0, ten)] } }

/-- Obligations.RecipesStartAndLoad. -/
theorem witness_RecipesStartAndLoad :
    tk keyed runReq 0x0101 ∧ (took keyed runReq).instOf runReq = none
      ∧ ((took keyed runReq).recipe (runReq.desc.par 0 2)).map Recipe.standard = some ecbRecipe
      ∧ (took keyed runReq).recipeReason runReq ecbRecipe.graph = none ∧ (took keyed runReq).freeSlot = some 0
    ∧ turn (crowded runReq2) runReq2 0x0101 ∧ (crowded runReq2).instOf runReq2 = none
      ∧ ((crowded runReq2).recipe (runReq2.desc.par 0 2)).map Recipe.standard = some ecbRecipe
      ∧ ((crowded runReq2).tenant 0).slots ≤ (crowded runReq2).activeOf 0 := by decide +kernel

/-- Obligations.RecipesStartAndLoad. -/
theorem witness_RecipesStartAndLoad_2 :
    (loadingDev.slot 0).state = .loading ∧ loadingDev.twl.reseedDue = false
      ∧ loadingDev.shadowRej (loadingDev.withShadow (loadingDev.slot 0)) = none
      ∧ loadingDev.withShadow (loadingDev.slot 0) = loadingDev.slot 0
      ∧ ((loadingDev.slot 0).graph.steps.find? fun st => decide (st.unit = 0) && decide (7 ≤ st.prim) && st.scr) = none
      ∧ okB (State.slotKeys (loadingDev.slot 0) (List.range 8) loadingDev) (fun x => decide ((distinctKeys x.2).findSome? (fun y => x.1.takeRej (loadingDev.slot 0) y) = none) && decide (x.1.awayOwner (loadingDev.slot 0) (distinctKeys x.2) = none) && decide ((State.takeAll (loadingDev.slot 0) (distinctKeys x.2) x.1 []).2.1 = none)) = true
    ∧ (let s := fullKey { kst with blkUsed := 2 ^ 32 }; okB (State.slotKeys (s.slot 0) (List.range 8) s) fun x => decide ((distinctKeys x.2).findSome? (fun y => x.1.takeRej (s.slot 0) y) = some ⟨0x203, 0, 0x65⟩)) = true
      ∧ okB (State.slotKeys (unbound.slot 0) (List.range 8) unbound) (fun x => ((distinctKeys x.2).findSome? fun y => x.1.takeRej (unbound.slot 0) y).isNone && decide (x.1.awayOwner (unbound.slot 0) (distinctKeys x.2) = none) && decide ((State.takeAll (unbound.slot 0) (distinctKeys x.2) x.1 []).2.1 = some ⟨0x301, 0, 0x57⟩)) = true
      ∧ (let s := fullKey { kst with used := 10, ceil := 10 }; match State.slotKeys (s.slot 0) (List.range 8) s with | .error x => decide (x = ⟨0x203, 0, 0⟩) | .ok _ => false) = true
    ∧ (badLoad.slot 0).state = .loading ∧ badLoad.twl.reseedDue = false
      ∧ badLoad.shadowRej (badLoad.withShadow (badLoad.slot 0)) = none ∧ badLoad.withShadow (badLoad.slot 0) = badLoad.slot 0
      ∧ (match State.slotKeys (badLoad.slot 0) (List.range 8) badLoad with | .error x => decide (x = ⟨0x801, 0, 0x50⟩) | .ok _ => false) = true := by decide +kernel

/-- Slot 0 runs a graph. -/
def running (g : Graph) (f : Inst → Inst) : State :=
  (took keyed runReq).setSlot 0 (f { loadInst with state := .running, graph := g })
/-- A graph of two ciphers. -/
def two : Graph := { ecbRecipe.graph with steps := [ecb, { ecb with pred := 1 }] }
/-- Step 0 is dispatched and its output delivered. -/
def delivered (g : Graph) (o : StepOut) : State := running g fun i => { i with dispatched := 1, outs := [(0, o)] }
/-- A CMAC recipe of the library, which makes or checks a MAC, with a key in slot 0. -/
def macInst (id : Nat) : State := running two fun i => { i with
  recipe := id, keys := [(0, some { handle := h2, alg := 3, usage := 0x1880#16, classN := false, key := zeros 16 })] }
/-- The shadow of a context bound to an initial key ID, with this high mark. -/
def bound64 (high : Nat) : Bytes := zeros 8 ++ List.replicate 10 3 ++ zeros 2 ++ leBytes 4 high ++ zeros 40

/-- Obligations.StepsRunToTheEndOfTheirRecipe. -/
theorem witness_StepsRunToTheEndOfTheirRecipe :
    ((running two id).slot 0).ready 0 = true ∧ (running two id).twl.reseedDue = false
      ∧ (running two id).jobGone (unitAt ecb.unit) (Job.new (.step 0 0) ecb.prim ((running two id).slot 0).tenant ((running two id).slot 0).urgent) = false
    ∧ (delivered two (.verdict 0xF1)).stepLive 0 0 = true
      ∧ ((delivered two (.verdict 0xF1)).slot 0).outs.find? (fun x => x.1 == 0) = some (0, .verdict 0xF1)
      ∧ StepOut.ends (.verdict 0xF1) = some 0xF1
    ∧ ((delivered two (.data (zeros 16))).slot 0).outs.find? (fun x => x.1 == 0) = some (0, .data (zeros 16))
      ∧ StepOut.ends (.data (zeros 16)) = none
      ∧ (((delivered two (.data (zeros 16))).slot 0).settle 0 (.data (zeros 16))).finished = false
      ∧ (((delivered ecbRecipe.graph (.data (zeros 16))).slot 0).settle 0 (.data (zeros 16))).finished = true
    ∧ (running two id).libEnd ((running two id).slot 0) = none
      ∧ (macInst 0x65).libEnd ((macInst 0x65).slot 0) = some (.verdict 0x04)
      ∧ someB ((macInst 0x64).libEnd ((macInst 0x64).slot 0)) (fun x => match x with | .done o _ => decide (o.take 16 = cmac 0 (zeros 16) []) | .verdict _ => false) = true := by decide +kernel

/-- Obligations.StepsRunToTheEndOfTheirRecipe. -/
theorem witness_StepsRunToTheEndOfTheirRecipe_2 :
    (1 ≠ 0 ∧ oneBits 1 ≤ (if false then 16 else 10)) ∧ ¬ (0x7FF ≠ 0 ∧ oneBits 0x7FF ≤ (if false then 16 else 10))
      ∧ (0x7FF ≠ 0 ∧ oneBits 0x7FF ≤ (if true then 16 else 10)) ∧ slice (zeros 64) 8 10 = zeros 10 ∧ leAt (zeros 64) 20 4 = 0
      ∧ (zeros 64).length = 64 ∧ leAt (bound64 5) 20 4 = 5 ∧ slice (bound64 5) 8 10 = List.replicate 10 3
      ∧ (bound64 5).length = 64 ∧ 1 < 2 ^ 32
    ∧ ((running two id).slot 0).state = .running ∧ (loadingDev.slot 0).state = .loading
    ∧ keyed.onMain = true ∧ someB (keyed.takeWords 2) (fun _ => true) = true := by decide +kernel

/-- A step of unit 5 or 4. -/
def mop (u p : Nat) : Step := { ecb with unit := u, prim := p, ksel := 0x80, flags := 0, d := ⟨32, 16⟩ }
/-- Slot 0 has dispatched one micro-op of each kind and a CHILD. -/
def micro : State :=
  running { two with steps := (List.range 8).map (fun k => mop 5 (k + 1)) ++ [mop 4 1] } fun i => { i with dispatched := 0x1FF }

/-- Obligations.MicroOpsDeliverTheirOutput. -/
theorem witness_MicroOpsDeliverTheirOutput :
    (List.range 8).all (fun k => micro.microReady (k + 1) 0 k) = true
      ∧ (micro.twl.reseedDue = false ∨ ((micro.slot 0).graph.step 2).im 0 = 0) ∧ micro.childReady 0 8 = true
      ∧ micro.stepLive 0 0 = true ∧ ((micro.slot 0).outs.any fun y => y.1 == 0) = false := by decide +kernel

/-- Obligations.PinBlocksParseToTheirPin. -/
theorem witness_PinBlocksParseToTheirPin :
    (4 = 0 ∨ 4 = 1 ∨ 4 = 3 ∨ 4 = 4) ∧ ([4, 0x12, 0x34, 0xFF, 0xFF, 0xFF, 0xFF] : Bytes).length = 7 ∧ (zeros 8).length = 8
      ∧ (List.replicate 14 11).length = 14
      ∧ pinbBuild 4 [4, 0x12, 0x34, 0xFF, 0xFF, 0xFF, 0xFF] (zeros 8) (List.replicate 14 11) (zeros 8) = .data ([0x44, 0x12, 0x34] ++ List.replicate 5 0xAA#8 ++ zeros 8) := by decide +kernel

/-- The counted key past its last use. -/
def spentKey : State := keyed.setKstate 0 ksAt 100 { kst with used := 10, ceil := 10 }

/-- Obligations.HandlesAreCheckedAndTheirUsesCounted. -/
theorem witness_HandlesAreCheckedAndTheirUsesCounted :
    dev.hasRoot 0 = false ∧ keyed.hasRoot 0 = true ∧ keyed.dmk.locked = false ∧ keyed.dmk.wiping = false
      ∧ hTenant (mkHandle 5 2 0) ≠ 0 ∧ hTenant h2 = 0 ∧ keyed.keyNode 0 (hNode (mkHandle 0 9 0)) = none
      ∧ keyed.keyNode 0 (hNode h2) = some aesNode ∧ labelOk aesNode 1 = false ∧ labelOk aesNode (hLabel h2) = true
      ∧ 5 ≠ keyed.nodeColour aesNode ∧ keyed.granted 5 (keyed.nodeColour aesNode) false = false
    ∧ okB (keyed.bindKs 0 h2) (fun x => decide (x = (keyed, ksAt, 100, kst))) = true
      ∧ okB (spentKey.bindKs 0 h2) (fun x => decide (x.2.2.2.used = 10)) = true ∧ aesNode.limit ≠ 0 ∧ aesNode.limit ≤ 10
      ∧ kst.used < aesNode.limit ∧ kst.used ≠ kst.ceil ∧ outNode.limit = 0 ∧ aesNode.tracked = true
      ∧ keyed.blocksFit h2 aesNode 1 = true ∧ kst.blkUsed + 1 ≤ 1024 * kst.bceil
      ∧ keyed.nonceRefusal h2 0 = none := by decide +kernel

/-- Obligations.NodesAndContextsKeepTheirFields. -/
theorem witness_NodesAndContextsKeepTheirFields :
    (aesNode.tenant < 256 ∧ aesNode.kind < 256 ∧ aesNode.parent < 65536 ∧ aesNode.depth < 256 ∧ aesNode.alg < 256 ∧ aesNode.colour < 256)
      ∧ (aesNode.blimit < 256 ∧ aesNode.limit < 2 ^ 32 ∧ aesNode.block < 65536 ∧ aesNode.owner < 65536 ∧ aesNode.gslot < 65536)
    ∧ ksAt < 2 ^ 32 ∧ kst.used < 2 ^ 32 ∧ kst.ceil < 2 ^ 32 ∧ kst.blkUsed < 2 ^ 64 ∧ kst.bceil < 2 ^ 32 ∧ kst.nonceCtr < 2 ^ 64
      ∧ 255 < 256 ∧ (zeros 48).length = 48 ∧ (zeros 56).length = 56 ∧ (zeros 16).length = 16 := by decide +kernel

/-- A version D block of a 16-byte AES key for decrypting, sealed under node 2's key. -/
def blockText : Bytes :=
  let head := ascii ("D0144E2AX00E0000".toList)
  let key := match keyed.resolve 0 0 h2 with
    | .ok (_, k, _) => k.key
    | .error _ => []
  head ++ toHex (Crypto.keyBlockSeal 0x44 key head ([0, 128] ++ zeros 46))
/-- Its import under node 2's key, as a leaf of node 3 in context 300. -/
def importReq : Req := withOut (withCtx (withKeys (reqIn 0 0x0220 blockText) h2 h3) 300) 8
/-- The same without a block. -/
def emptyImport : Req := { importReq with desc := { importReq.desc with inLen := 0 } }
/-- The export of node 5's key under node 2's. -/
def exportReq : Req := withOut (withKeys (req 0 0x0221) h2 h5) 400
/-- The check value of node 2's key. -/
def kcvReq : Req := withOut (withKeys (req 0 0x0222) h2 0) 8
/-- The import's hypotheses. -/
theorem witness_keyblockImport :
    tk keyed importReq 0x0220 ∧ importReq.desc.ctxv = true ∧ someB (blockHead importReq.bytes) (fun x =>
      okB ((took keyed importReq).resolve 0 ((took keyed importReq).actingColour importReq) h2) fun y =>
        (if x.versionD then isAes y.2.1.alg else isTdes y.2.1.alg)
          && decide (y.1.keyChecks y.2.1 y.2.2 (some 11) true true 0 = none)
          && okB (y.1.importBlock importReq x y.2.1) fun _ => true) = true ∧ 8 ≤ importReq.desc.outLen := by
  decide +kernel

/-- Obligations.KeyBlocksAreImportedAndExported. -/
theorem witness_KeyBlocksAreImportedAndExported :
    tk keyed emptyImport 0x0220 ∧ emptyImport.desc.ctxv = true ∧ blockHead emptyImport.bytes = none
    ∧ tk keyed exportReq 0x0221
      ∧ okB ((took keyed exportReq).resolve 0 ((took keyed exportReq).actingColour exportReq) exportReq.desc.key0) (fun x => decide (x.1.keyChecks x.2.1 x.2.2 (some 12) (isTdes x.2.1.alg || isAes x.2.1.alg) true 0 = none) && okB (x.1.resolve 0 (x.1.actingColour exportReq) exportReq.desc.key1) (fun y => decide (y.1.keyChecks y.2.1 y.2.2 none true true 1 = none) && y.1.mayExport 0 y.2.2 exportReq.desc.key1 && decide (maskUsage y.2.1.usage (Config.freshBool y.1.fresh) = some (ascii ['E', '2'], 'X')) && decide (y.2.1.alg ≤ x.2.1.alg))) = true := by decide +kernel

/-- Obligations.KeyBlocksAreImportedAndExported. -/
theorem witness_KeyBlocksAreImportedAndExported_2 :
    tk keyed kcvReq 0x0222 ∧ kcvReq.desc.par 0 1 ≤ 1
      ∧ okB ((took keyed kcvReq).resolve 0 ((took keyed kcvReq).actingColour kcvReq) kcvReq.desc.key0) (fun x => decide (x.1.keyChecks x.2.1 x.2.2 none (isTdes x.2.1.alg || isAes x.2.1.alg) true 0 = none)) = true := by decide +kernel

/-- NODE_CREATE of a sixth node below node 6. -/
def createReq : Req := reqIn 0 0x0201 { aesNode with parent := 6, depth := 3, name := 9 }.bytes
/-- NODE_DELETE, NODE_QUERY and LEAF_RETIRE of a node. -/
def nodeReq (op n : Nat) : Req := withOut (withPar (req 0 op) (BitVec.ofNat 64 n)) 48
/-- KEY_GENERATE of a leaf in context 300, and LEAF_DELETE of it. -/
def genReq (op : Nat) : Req := withCtx (withKeys (req 0 op) 0 h3) 300
/-- Context 300 holds a leaf of node 3. -/
def leafDev (r : Req) : State :=
  let w := Crypto.kwpWrap (leafNode.leafKey (keyed.parentKey 0 leafNode.parent).1 300 (keyed.leafGen leafNode)) (leafPlain 3 1 0 (zeros 16))
  (took keyed r).setCtx 300 { frozen := false, tenant := 0, body := .leaf h3 32 ((w ++ zeros 48).take 48) }
/-- PUBKEY_READ of node 4 and COUNTER_QUERY of node 2. -/
def pubReq : Req := withOut (withKeys (req 0 0x0207) h4 0) 64
def ctrReq : Req := withOut (withKeys (req 0 0x0208) h2 0) 16
/-- The hypotheses of LEAF_DELETE. -/
theorem witness_leafDelete :
    turn (leafDev (genReq 0x0205)) (genReq 0x0205) 0x0205
      ∧ okB ((leafDev (genReq 0x0205)).resolve 0 ((leafDev (genReq 0x0205)).actingColour (genReq 0x0205)) h3) (fun x =>
        decide (x.2.2.kind = 2) && decide (x.1.keyChecks x.2.1 x.2.2 none true true 1 = none)) = true := by
  decide +kernel
/-- The counted key is owned by the device at address 7. -/
def farOwner : State := { keyed with dmk := { keyed.dmk with nodes := [(2, some { aesNode with owner := 7 })] } }

/-- Obligations.NodesAndLeavesAnswer. -/
theorem witness_NodesAndLeavesAnswer :
    tk keyed createReq 0x0201 ∧ (nodeAt createReq.bytes 0).tenant = 0 ∧ leAt createReq.bytes 22 2 = 0
      ∧ (nodeAt createReq.bytes 0).ok true ((took keyed createReq).tenantNode 0 (nodeAt createReq.bytes 0).parent) (took keyed createReq).nodeList = true
      ∧ (took keyed createReq).nodesOf 0 < ((took keyed createReq).tenant 0).nodes
      ∧ (took keyed createReq).freeNode = some 7 := by decide +kernel

/-- Obligations.NodesAndLeavesAnswer. -/
theorem witness_NodesAndLeavesAnswer_2 :
    tk keyed (nodeReq 0x0202 6) 0x0202
      ∧ (took keyed (nodeReq 0x0202 6)).tenantNode 0 ((nodeReq 0x0202 6).desc.par 0 2) = some midNode ∧ midNode.runtime = true
      ∧ ((took keyed (nodeReq 0x0202 6)).nodeList.any fun y => y.tenant == 0 && y.parent == 6) = false
      ∧ (took keyed (nodeReq 0x0202 6)).leavesOf 6 = 0 ∧ tk keyed (nodeReq 0x0203 6) 0x0203 := by decide +kernel

/-- Obligations.NodesAndLeavesAnswer. -/
theorem witness_NodesAndLeavesAnswer_3 :
    tk keyed (genReq 0x0204) 0x0204 ∧ (took keyed (genReq 0x0204)).heldByUnit (.raw (genReq 0x0204)) = false
      ∧ okB ((took keyed (genReq 0x0204)).leafNode (genReq 0x0204) h3) (fun n => decide (n = leafNode)) = true
      ∧ (took keyed (genReq 0x0204)).leafRoom 0 (hLabel h3) (keyBytes leafNode.alg) = none ∧ isAsym leafNode.alg = false
      ∧ leafNode.exportBits.getLsbD 2 = false
      ∧ someB ((took keyed (genReq 0x0204)).draw (keyWords leafNode.alg)) (fun _ => true) = true := by decide +kernel

/-- Obligations.NodesAndLeavesAnswer. -/
theorem witness_NodesAndLeavesAnswer_4 :
    tk keyed (nodeReq 0x0206 3) 0x0206
      ∧ (took keyed (nodeReq 0x0206 3)).tenantNode 0 ((nodeReq 0x0206 3).desc.par 0 2) = some leafNode ∧ leafNode.gslot ≠ 0
      ∧ (took keyed (nodeReq 0x0206 3)).leafGen leafNode ≠ 2 ^ 32 - 1
    ∧ tk keyed pubReq 0x0207
      ∧ okB ((took keyed pubReq).resolve 0 ((took keyed pubReq).actingColour pubReq) h4) (fun x => decide (x.2.2 = ecNode)) = true
      ∧ (took keyed pubReq).heldByUnit (.raw pubReq) = false ∧ ecNode.exportBits.getLsbD 2 = true
      ∧ (took keyed pubReq).pubUnitRej 0 ecNode.alg = none := by decide +kernel

/-- Obligations.NodesAndLeavesAnswer. -/
theorem witness_NodesAndLeavesAnswer_5 :
    tk keyed ctrReq 0x0208
      ∧ okB ((took keyed ctrReq).resolve 0 ((took keyed ctrReq).actingColour ctrReq) h2) (fun x => decide (x.2.2 = aesNode)) = true
      ∧ (took keyed ctrReq).ownNode aesNode = true ∧ tk farOwner ctrReq 0x0208
      ∧ okB ((took farOwner ctrReq).resolve 0 ((took farOwner ctrReq).actingColour ctrReq) h2) (fun x => decide (x.2.2.owner = 7) && decide (x.2.2.limit ≠ 0) && !(took farOwner ctrReq).ownNode x.2.2) = true := by decide +kernel

/-- A command on contexts 300 and 301, with PARAM, input and room for output. -/
def ctxReq (op : Nat) (p : W64) (b : Bytes) : Req := withOut (withCtx (withPar (reqIn 0 op b) p) 300) 192
/-- Contexts 300 and 301 hold a DUKPT key and a session. -/
def ctxDev (r : Req) : State :=
  ((took keyed r).setCtx 300 { frozen := false, tenant := 0, body := .dukpt (zeros 56) }).setCtx 301
    { frozen := false, tenant := 0, body := .session (zeros 56) }
/-- An export record of a FREE context. -/
def freeRec : Bytes := [0x58, 0x43] ++ zeros 94

/-- Obligations.ContextsAreInitialisedMovedAndCleared. -/
theorem witness_ContextsAreInitialisedMovedAndCleared :
    tk keyed (ctxReq 0x0301 4 []) 0x0301 ∧ (ctxReq 0x0301 4 []).desc.par 0 1 = 4 ∧ (ctxReq 0x0301 4 []).desc.inLen = 0
      ∧ (took keyed (ctxReq 0x0301 4 [])).ctxRange (ctxReq 0x0301 4 []) 1 = none ∧ keyed.ctx 300 = Ctx.free
      ∧ tk keyed (ctxReq 0x0301 5 (zeros 56)) 0x0301 ∧ (ctxReq 0x0301 5 (zeros 56)).desc.inLen = 56 := by decide +kernel

/-- Obligations.ContextsAreInitialisedMovedAndCleared. -/
theorem witness_ContextsAreInitialisedMovedAndCleared_2 :
    turn (ctxDev (ctxReq 0x0302 2 [])) (ctxReq 0x0302 2 []) 0x0302
      ∧ (ctxDev (ctxReq 0x0302 2 [])).ctxRange (ctxReq 0x0302 2 []) 2 = none
      ∧ ((List.range 2).map (300 + ·)).any (fun k => (ctxDev (ctxReq 0x0302 2 [])).unclearable 300 2 k) = false
    ∧ turn (ctxDev (ctxReq 0x0303 2 [])) (ctxReq 0x0303 2 []) 0x0303 ∧ (ctxDev (ctxReq 0x0303 2 [])).keysServed 0 = true
      ∧ ((List.range 2).map (300 + ·)).any (ctxDev (ctxReq 0x0303 2 [])).unexportable = false
      ∧ 96 * 2 ≤ (ctxReq 0x0303 2 []).desc.outLen ∧ 4 ≤ ((ctxDev (ctxReq 0x0303 2 [])).ctx 301).ty := by decide +kernel

/-- Obligations.ContextsAreInitialisedMovedAndCleared. -/
theorem witness_ContextsAreInitialisedMovedAndCleared_3 :
    tk keyed (ctxReq 0x0304 0 freeRec) 0x0304 ∧ (ctxReq 0x0304 0 freeRec).bytes.length % 96 = 0
      ∧ (took keyed (ctxReq 0x0304 0 freeRec)).keysServed 0 = true
      ∧ (State.importAll (ctxReq 0x0304 0 freeRec) [slice (ctxReq 0x0304 0 freeRec).bytes 0 96] (took keyed (ctxReq 0x0304 0 freeRec)) 0).2 = (0, none)
      ∧ turn (ctxDev (ctxReq 0x0305 2 [])) (ctxReq 0x0305 2 []) 0x0305
      ∧ (ctxDev (ctxReq 0x0305 2 [])).ctxRange (ctxReq 0x0305 2 []) 2 = none := by decide +kernel

/-- Keys of tenants 0 and 1 are cached. -/
def caching : State := { keyed with dmk := { keyed.dmk with
  keyc := [(8, some { tag := { tenant := 0, node := 2, label := 0 }, part := 0, key := zeros 16 }),
    (9, some { tag := { tenant := 1, node := 3, label := 0 }, part := 0, key := zeros 16 })] } }

/-- Obligations.DamaskIsLockedAndFlushedByTheSupervisorInControl. -/
theorem witness_DamaskIsLockedAndFlushedByTheSupervisorInControl :
    keyed.onMain = true ∧ keyed.inControl (.supervisor false) = true ∧ keyed.sys.mode ≠ .locked ∧ keyed.lcs.sinv = false
      ∧ keyed.lcs.dmkHold = false ∧ (devIn .locked).inControl (.supervisor false) = true ∧ (devIn .locked).sys.mode = .locked
      ∧ keyed.inControl (.supervisor true) = false ∧ keyed.inControl (.worker 0 .secure) = false := by decide +kernel

/-- An instance of a unit that may take work. -/
def fit : UnitInst := { UnitInst.reset with seeded := true }
/-- The device with instance 0 of every engine seeded. -/
def fitDev (s : State) : State :=
  (((s.setInst .cal 0 fit).setInst .srg 0 fit).setInst .tul 0 fit).setInst .hsh 0 fit
/-- A SHA-256 of three bytes, and a Calico encryption under another tenant's key. -/
def hashReq : Req := withOut (withPar (reqIn 0 0x0431 [0x61, 0x62, 0x63]) 1) 32
def calReq : Req := withOut (withKeys (reqIn 0 0x0401 (zeros 16)) (mkHandle 5 2 0) 0) 16
/-- A unit runs PUBKEY_READ. -/
def pubJob : Job := Job.new (.raw pubReq) 0x0E 0 false
def pubDev : State := (fitDev (took keyed pubReq)).setInst .srg 0 { fit with running := some pubJob }
/-- The key of slot 0 of a running instance. -/
def slotKey : RKey := { handle := h2, alg := 3, usage := 0x1880#16, classN := false, key := zeros 16 }
/-- Step 0 of slot 0 waits for Calico. -/
def waitingStep (asking : Option Nat) : State :=
  (running two fun i => { i with dispatched := 1, keys := [(0, some slotKey)] }).addWaiting .cal
    { Job.new (.step 0 0) 1 0 false with asking := asking }

/-- Obligations.CommandsAndStepsReachTheirUnit. -/
theorem witness_CommandsAndStepsReachTheirUnit :
    tk keyed hashReq 0x0431 ∧ (took keyed hashReq).heldByUnit (.raw hashReq) = false
      ∧ (took keyed hashReq).poolOf 0 3 = some { pool := 3, unit := 3, twshare := 50, mask := lowMask 16 }
      ∧ (took keyed hashReq).placeFor .hsh { pool := 3, unit := 3, twshare := 50, mask := lowMask 16 } (Job.new (.raw hashReq) 0x431 0 false) = none
      ∧ (took keyed hashReq).jobGone .hsh (Job.new (.raw hashReq) 0x431 0 false) = false
      ∧ ((took keyed hashReq).engine .hsh).waiting = [] ∧ (pubDev.srg.holds (.raw pubReq)) = true
      ∧ ({ pubDev with tul := pubDev.srg }).tul.holds (.raw pubReq) = true
    ∧ (waitingStep none).stepLive 0 0 = true ∧ (((waitingStep none).slot 0).graph.step 0).unit = EngUnit.cal.code
      ∧ (((waitingStep none).slot 0).graph.step 0).prim = 1
      ∧ (((waitingStep none).engine .cal).waiting.any fun j => decide (j.src = .step 0 0)) = true := by decide +kernel

/-- The ROM's pools. -/
def romPool (n : Nat) : PoolRec := romImage.pools[n]?.getD { pool := 0, unit := 0, twshare := 0, mask := 0 }
/-- A raw command waits for a free instance. -/
def waitingRaw (u : EngUnit) (r : Req) : State := fitDev ((took keyed r).addWaiting u (Job.new (.raw r) r.desc.opcode 0 false))
/-- A pool takes the command up on its instance 0. -/
abbrev takes (s : State) (u : EngUnit) (r : Req) (p : PoolRec) : Prop :=
  let j := Job.new (.raw r) r.desc.opcode 0 false
  s.choose p ((s.poolWaiting u p).filter fun x => (s.placeFor u p x).isSome) = some j ∧ s.placeFor u p j = some 0
abbrev taken (u : EngUnit) (r : Req) (p : PoolRec) : Prop := takes (waitingRaw u r) u r p
/-- The same under a key of the device at address 7. -/
def farReq : Req := withPar (withKeys calReq h5 0) 1
def farKeyed : State := let s := waitingRaw .cal farReq
  { s with dmk := { s.dmk with nodes := s.dmk.nodes.map fun x => (x.1, x.2.map fun n => { n with limit := 9, owner := 7, usage := 0x4000#16 }) } }
/-- A P-256 key that may sign, and its signature on 32 bytes, while the entropy unit has no words. -/
def signReq : Req := withOut (withPar (withKeys (reqIn 0 0x0418 (zeros 32)) h4 0) 0x10) 64
def dry : State := { waitingRaw .srg signReq with ent := { dev.ent with buf := [], requests := 65536, pool := some 9 } }

/-- Obligations.PoolsTakeUpTheirWork. -/
theorem witness_PoolsTakeUpTheirWork :
    taken .hsh hashReq (romPool 3)
      ∧ (match (waitingRaw .hsh hashReq).evaluate .hsh 0 (.raw hashReq) with | .runs _ w => decide (w.bytes = 3) | _ => false) = true
    ∧ taken .cal calReq (romPool 0)
      ∧ (match (waitingRaw .cal calReq).evaluate .cal 0 (.raw calReq) with | .refused _ x o => decide (x = ⟨0x0801, 0, 0x50⟩ ∧ o = 0) | _ => false) = true
    ∧ takes dry .srg signReq (romPool 1) ∧ (match dry.evaluate .srg 0 (.raw signReq) with | .waits => true | _ => false) = true
    ∧ takes farKeyed .cal farReq (romPool 0)
      ∧ (match farKeyed.evaluate .cal 0 (.raw farReq) with | .forwarded _ => true | _ => false) = true := by decide +kernel

/-- An instance of the hash units runs a command that has its result, or a fault. -/
def endingJob (bad : Bool) : Job :=
  { Job.new (.raw hashReq) 0x0431 0 false with blocks := 1, cycles := 100, bytes := 3, result := { JobResult.none with out := zeros 32, fault := bad } }
def ending (bad : Bool) : State := (took keyed hashReq).setInst .hsh 0 { fit with running := some (endingJob bad) }

/-- Obligations.OperationsEndWithTheirResult. -/
theorem witness_OperationsEndWithTheirResult :
    ((ending false).inst .hsh 0).running = some (endingJob false) ∧ (ending false).isSearch (endingJob false).src = false
      ∧ (endingJob false).result.fault = false ∧ (endingJob false).result.status = 0 ∧ (endingJob false).result.ctxAfter = none
      ∧ hashReq.desc.opcode ≠ 0x0425 ∧ hashReq.desc.opcode ≠ 0x0426
      ∧ ((ending true).inst .hsh 0).running = some (endingJob true) ∧ (ending true).isSearch (endingJob true).src = false
      ∧ (endingJob true).result.fault = true := by decide +kernel

/-- A modular product of one word. -/
def mulOp (op : Nat) : SrgOp := { op := op, alg := 0, scheme := 0, w := 1, p := 0, key := [] }

/-- Obligations.ModularResultsAreExact. -/
theorem witness_ModularResultsAreExact :
    5 < 2 ^ 3 ∧ (mulOp 1).op = 1 ∧ (mulOp 2).op = 2 ∧ beNat (fieldAt [[7], [3], [5]] 2) < 2 ^ (64 * (mulOp 2).w)
      ∧ beNat (fieldAt [[8], [3], [5]] 0) % 2 = 0 := by decide +kernel

/-- A long class N message. -/
def longJob (cid : Nat) : Job :=
  let r : Req := { calReq with desc := { calReq.desc with cid := BitVec.ofNat 32 cid } }
  { Job.new (.raw r) 0x0401 0 false with classN := true, blocks := 1000 }
/-- Every core of a pool of one runs one, with `n` more suspended, while a step waits. -/
def oneCore (asking : Option Nat) (n : Nat) : State :=
  let s := waitingStep asking
  { s with img := { s.img with force := { s.img.force with pools := [{ pool := 0, unit := 0, twshare := 50, mask := 1 }] } } }.setInst
    .cal 0 { fit with running := some (longJob 9), stack := (List.range n).map longJob }
/-- Its pool. -/
def onePool : PoolRec := { pool := 0, unit := 0, twshare := 50, mask := 1 }

/-- Obligations.ClassNMessagesAreSuspended. -/
theorem witness_ClassNMessagesAreSuspended :
    (oneCore none 0).poolOf ((oneCore none 0).slot 0).tenant 0 = some onePool ∧ (oneCore none 0).stepLive 0 0 = true
      ∧ (oneCore none 0).twl.suspWait ≠ 0
      ∧ ((oneCore none 0).cal.waiting.any fun j => decide (j.src = .step 0 0) && j.asking.isNone) = true
      ∧ (((oneCore none 0).poolStanding .cal onePool).all fun c => (oneCore none 0).runsClassN c) = true
    ∧ ((oneCore (some 0) 3).inst .cal 0).running = some (longJob 9) ∧ (oneCore (some 0) 3).poolAt .cal 0 = some onePool
      ∧ (longJob 9).classN = true ∧ (oneCore (some 0) 3).firstFree .cal onePool = none
      ∧ (oneCore (some 0) 3).oldestAsking onePool 0 = some { Job.new (.step 0 0) 1 0 false with asking := some 0 }
    ∧ ((oneCore (some 0) 4).inst .cal 0).running = some (longJob 9) ∧ (oneCore (some 0) 4).poolAt .cal 0 = some onePool
      ∧ (oneCore (some 0) 4).cal.ovfWait ≠ 0
      ∧ (((oneCore (some 0) 4).poolStanding .cal onePool).all fun c => (oneCore (some 0) 4).runsClassN c && decide (((oneCore (some 0) 4).inst .cal c).stack.length = 4)) = true
      ∧ (oneCore (some 0) 4).mostLeft ((oneCore (some 0) 4).poolStanding .cal onePool) = some 0
      ∧ ((oneCore (some 0) 4).oldestAsking onePool 0).isSome = true := by decide +kernel

/-- Obligations.FaultsFenceTheirInstance. -/
theorem witness_FaultsFenceTheirInstance :
    dev.onMain = true
      ∧ [EngUnit.cal, .srg, .tul, .hsh].all (fun u => dev.present u 0 && !(dev.inst u 0).fenced && (dev.inst u 0).running.isNone && decide ((dev.inst u 0).stack = [])) = true
      ∧ dev.sys.mode = .service ∧ ((dev.fenceInst .cal 0).inst .cal 0).fenced = true := by decide +kernel

/-- Core 0 is in no pool. -/
def poolless : State := { dev with img := { dev.img with force := { romImage with pools := [] } } }
/-- The entropy unit has no words. -/
def thirsty : State := { dev with ent := { dev.ent with buf := [], requests := 65536, pool := some 9 } }
/-- A reseed of core 0 is due. -/
def dueDev : State := dev.setInst .cal 0 { UnitInst.reset with due := true }
/-- Core 0 tests on request only, and was asked. -/
def askedDev : State := let s := dev.setInst .cal 0 { UnitInst.reset with asked := true }; { s with cal := { s.cal with periodS := 0 } }

/-- Obligations.SelfTestsAndReseedsOfInstances. -/
theorem witness_SelfTestsAndReseedsOfInstances :
    poolless.testable .cal 0 = true ∧ (poolless.inst .cal 0).fenced = false ∧ (poolless.inst .cal 0).fencing = false
      ∧ poolless.poolAt .cal 0 = none ∧ dev.testable .hsh 0 = true ∧ dev.onMain = true ∧ dev.present .cal 0 = true
      ∧ (dev.engine .cal).periodS ≠ 0 ∧ poolless.cal.waiting = [] ∧ askedDev.cal.periodS = 0
      ∧ (askedDev.inst .cal 0).asked = true ∧ (dev.inst .cal 0).fenced = false ∧ dev.inControl (.supervisor false) = true
      ∧ dev.inControl (.supervisor true) = false ∧ someB (dev.takeWords 2) (fun _ => true) = true ∧ thirsty.takeWords 2 = none
      ∧ thirsty.present .cal 0 = true ∧ (dueDev.inst .cal 0).due = true := by decide +kernel

/-- Core 0 runs a message; core 1 is fenced. -/
def busyCore : State := (dev.setInst .cal 0 { fit with running := some (longJob 9) }).setInst .cal 1 { fit with fenced := true }

/-- Obligations.ControlOfInstances. -/
theorem witness_ControlOfInstances :
    busyCore.onMain = true ∧ busyCore.present .cal 0 = true ∧ busyCore.inControl (.supervisor false) = true
      ∧ (busyCore.inst .cal 0).fenced = false ∧ (busyCore.inst .cal 0).running ≠ none ∧ (dev.inst .cal 0).running = none
      ∧ (dev.inst .cal 0).stack = [] ∧ dev.inControl (.supervisor false) = true ∧ dev.inControl (.worker 0 .normal) = false
      ∧ (busyCore.inst .cal 1).fenced = true ∧ busyCore.present .cal 1 = true
      ∧ busyCore.secureOrControl (.supervisor false) = true
      ∧ busyCore.secureOrControl (.worker 3 .secure) = true := by decide +kernel

/-- An RSA-2048 node, and KEY_GENERATE under it. -/
def rsaNode : Node := { leafNode with alg := 0x20, usage := 0x2000#16, name := 7 }
def rsaReq : Req := withCtx (withKeys (req 0 0x0204) 0 (mkHandle 0 7 300)) 300
/-- The search of lane 0. -/
def searchJob (tried first : Nat) : Job := { Job.new (.raw rsaReq) 0x0F 0 false with search := some (tried, first) }
/-- Lane 0 searches, `tried` candidates on, with a first prime or without. -/
def searching (tried first : Nat) : State :=
  let s := took { keyed with dmk := { keyed.dmk with nodes := [(7, some rsaNode)] } } rsaReq
  s.setInst .srg 0 { fit with running := some (searchJob tried first) }
/-- Its contexts were taken meanwhile. -/
def roomless : State := let s := searching 0 0; s.setCtx 301 { Ctx.free with body := .cont 300 [] }
/-- A candidate that the sieve rejects, and, with other words in the buffer, one that passes it. -/
def lucky : State := let s := searching 0 0; { s with ent := { s.ent with buf := List.replicate 512 18#128 } }

/-- Obligations.PrimeSearchTriesItsCandidates. -/
theorem witness_PrimeSearchTriesItsCandidates :
    someB ((searching 0 0).draw (rsaBits rsaNode.alg / 256)) (fun x => sieved (rsaCandidate 2048 x.1)) = true
      ∧ someB (lucky.draw (rsaBits rsaNode.alg / 256)) (fun x => !sieved (rsaCandidate 2048 x.1)) = true
    ∧ ((searching 0 0).inst .srg 0).running = some (searchJob 0 0) ∧ (searchJob 0 0).search = some (0, 0)
      ∧ (searching 0 0).isSearch (.raw rsaReq) = true ∧ (searching 0 0).keyNode 0 (hNode rsaReq.desc.key1) = some rsaNode
      ∧ ((searching 1048575 11).inst .srg 0).running = some (searchJob 1048575 11)
      ∧ (searching 0 0).leafRoom 0 (hLabel rsaReq.desc.key1) (rsaLeaf 2048 11 13).length = none
      ∧ roomless.leafRoom 0 (hLabel rsaReq.desc.key1) (rsaLeaf 2048 11 13).length ≠ none ∧ 0 + 1 < 2 ^ 20
      ∧ 1048575 + 1 = 2 ^ 20 ∧ 11 ≠ 0 := by decide +kernel

/-- The device with another entropy unit. -/
def entDev (f : Entropy → Entropy) : State := { dev with ent := f dev.ent }
/-- In start-up, some attempts on. -/
def starting (k : Nat) : State := entDev fun _ => { Entropy.reset with state := .startup, attempts := k }
/-- Almost every stream is excluded. -/
def manyOut (st : EntState) : State := entDev fun e => { e with state := st, excluded := BitVec.allOnes 128 <<< 64 }

/-- Obligations.EntropyStartsFailsAndRetests. -/
theorem witness_EntropyStartsFailsAndRetests :
    (starting 2).ent.stalled = [] ∧ (starting 2).ent.state = .startup ∧ (starting 2).ent.attempts < 3
      ∧ 0#128 &&& ~~~(starting 2).ent.excluded = 0
      ∧ { (starting 2).ent with legacy := (starting 2).ent.legacy || (starting 2).ent.legacyDue }.starved = false
    ∧ ¬ (1#128 &&& ~~~(starting 2).ent.excluded = 0 ∧ true = true ∧ true = true)
      ∧ ¬ ({ (starting 2).ent with excluded := (starting 2).ent.excluded ||| 1 }.starved = true ∨ 2 ≤ (starting 2).ent.condFails + flag (!true) ∨ 2 ≤ (starting 2).ent.expFails + flag (!true))
      ∧ { (starting 2).ent with excluded := 1 }.starved = false ∧ (starting 2).ent.attempts = 2
      ∧ { (starting 0).ent with excluded := BitVec.allOnes 128 }.starved = true
      ∧ ¬ (BitVec.allOnes 128 &&& ~~~(starting 0).ent.excluded = 0 ∧ true = true ∧ true = true)
      ∧ 2 ≤ (entDev fun _ => { Entropy.reset with state := .startup, condFails := 1 }).ent.condFails + flag (!false)
    ∧ dev.ent.state = .running ∧ dev.ent.failing 127 2 2000 = true ∧ dev.ent.failing 127 2 9 = false
      ∧ (manyOut .running).ent.failing 0 1 2000 = true
      ∧ { dev.ent with excluded := dev.ent.excluded ||| (1#128 <<< 127) }.starved = false
      ∧ { (manyOut .running).ent with excluded := (manyOut .running).ent.excluded ||| (1#128 <<< 0) }.starved = true
      ∧ (manyOut .failed).ent.state = .failed ∧ (manyOut .failed).ent.stalled = [] := by decide +kernel

/-- Obligations.EntropyReseedsAndTestsItself. -/
theorem witness_EntropyReseedsAndTestsItself :
    dev.ent.state = .running ∧ dev.ent.stalled = [] ∧ (entDev fun e => { e with legacyTest := true }).ent.legacyTest = true
      ∧ dev.ent.legacyTest = false ∧ (entDev fun e => { e with pool := some 9, requests := 65536 }).ent.due = true
      ∧ (entDev fun e => { e with pool := some 9, requests := 65536 }).ent.words = 512 ∧ dev.ent.katS ≠ 0
      ∧ (entDev fun e => { e with pool := none }).ent.pool = none ∧ dev.ent.due = false
      ∧ (entDev fun e => { e with pool := none, requests := 65536 }).ent.due = true
    ∧ (entDev fun e => { e with condDue := true }).ent.katMayRun = true
      ∧ (entDev fun e => { e with condDue := true }).ent.condFails = 0
      ∧ 1 ≤ (entDev fun e => { e with condDue := true, condFails := 1 }).ent.condFails
      ∧ (entDev fun e => { e with expDue := true }).ent.words = 512
      ∧ (entDev fun e => { e with expDue := true, buf := [1, 2, 3, 4] }).ent.words < 512
    ∧ dev.ent.words ≤ 512 ∧ dev.ent.requests ≤ 2 ^ dev.ent.curLog2
      ∧ someB (dev.ent.take 512) (fun _ => true) = true := by decide +kernel

/-- RANDOM_GENERATE of some bytes. -/
def randReq (n : Nat) : Req := withOut (req 0 0x0441) n
/-- The failed unit holds a supervisor's read. -/
def failedRead : State := entDev fun e => { e with state := .failed, buf := [], stalled := [.bank (.supervisor false)] }
/-- A command waits in the failed unit. -/
def failedCmd : State := let s := took dev (randReq 16)
  { s with ent := { s.ent with state := .failed, buf := [], stalled := [.command (randReq 16)] } }

/-- Obligations.EntropyReadsAndRawCapture. -/
theorem witness_EntropyReadsAndRawCapture :
    tk dev (randReq 65536) 0x0441 ∧ 16 ≤ (randReq 65536).desc.outLen ∧ (randReq 65536).desc.outLen ≤ 65536 ∧ 65536 % 16 = 0
      ∧ someB ((took dev (randReq 65536)).takeWords 4096) (fun _ => true) = true ∧ tk thirsty (randReq 16) 0x0441
      ∧ (took thirsty (randReq 16)).takeWords 1 = none ∧ tk dev (randReq 15) 0x0441
      ∧ (randReq 15).desc.outLen < 16 := by decide +kernel

/-- Obligations.EntropyReadsAndRawCapture. -/
theorem witness_EntropyReadsAndRawCapture_2 :
    failedCmd.ent.state = .failed ∧ failedCmd.ent.stalled[0]? = some (.command (randReq 16)) ∧ thirsty.takeWords 1 = none
    ∧ secureWho (.worker 15 .secure) = true ∧ dev.onMain = true ∧ someB (dev.takeWords 1) (fun _ => true) = true
      ∧ failedRead.ent.state = .failed ∧ failedRead.ent.stalled[0]? = some (.bank (.supervisor false))
      ∧ dev.inControl (.supervisor false) = true ∧ dev.lifeCycle ≤ 1
      ∧ (entDev fun e => { e with raw := { e.raw with go := true } }).ent.raw.go = true := by decide +kernel

/-- A started worker in its secure world at the first word of IMEM: g1 = 6, g2 = 7, g3 in WORK, g4 a negative number. -/
def zbank : ZBank := { ZBank.reset with pc := 0x10000000, g := [(1, 6), (2, 7), (3, 0x20000010), (4, 0xFFFFFFFFFFFFFFF0)] }
def zcore : ZCore := { ZCore.reset with started := true, secure := zbank, sentry := 0x10000100, nepc := 0x10000200 }
/-- Worker 0 is that core, changed. -/
def zdev (f : ZCore → ZCore) : State := dev.setCore 0 (f zcore)
/-- The same in its normal world, page 0 of IMEM being normal. -/
def zdevN (f : ZCore → ZCore) : State :=
  let s := dev.setCore 0 (f { zcore with world := .normal, normal := zbank })
  { s with zyn := { s.zyn with imemNormal := [0] } }
/-- Operands. -/
def za (rd rs1 rs2 : Nat) (imm : BitVec 32) : ZArgs := { gn := false, gp := 0, rd := rd, rs1 := rs1, rs2 := rs2, imm := imm }
/-- A slot that no opcode defines, and one that adds. -/
def badSlot : ZMate := { opc := 0x24, args := za 0 0 0 0 }
def addSlot : ZMate := { opc := ZKind.shortCode .add, args := za 5 1 2 0 }
/-- A store that failed, of the secure world. -/
def failed (c : ZCore) : ZCore := { c with storeFault := some (0x20000000, .secure) }
/-- A full store buffer. -/
def fullBuffer (c : ZCore) : ZCore :=
  { c with stores := List.replicate 8 { addr := 0x20000100, data := zeros 8, world := .secure, colour := 0 } }
/-- March has the bank of an address. -/
def zmarch (a : Nat) (s : State) : State := { s with mem := { s.mem with march := some { bank := (bankOf a).getD 0, preserve := false } } }

/-- Obligations.WordsIssueAsDecoded. -/
theorem witness_WordsIssueAsDecoded :
    (zdev id).mayIssue 0 = true ∧ (zword .add .long (za 5 1 2 0)).wf = true ∧ (zdev id).fetchFault 0 = none
      ∧ (zdev fun c => c.setCur { c.cur with pc := 0x10000004 }).mayIssue 0 = true
      ∧ someB ((zdev fun c => c.setCur { c.cur with pc := 0x10000004 }).fetchFault 0) (fun _ => true) = true
      ∧ (zword .add (.slotX badSlot) (za 5 1 2 0)).wf = true
      ∧ (match decodeOps (isSupv 0) .secure (zword .add (.slotX badSlot) (za 5 1 2 0)) with | .fault c l => decide (c = 1 ∧ l = 1) | .ops _ => false) = true
    ∧ (match decodeOps (isSupv 0) .secure (zword .sub (.slotX { addSlot with args := za 6 1 2 0 }) (za 5 1 2 0)) with | .ops l => decide (l.length = 2 ∧ l.find? (fun o => o.kind.isMem) = none) | .fault .. => false) = true
      ∧ (zdev failed).mayIssue 0 = true ∧ (zdev failed).fetchFault 0 = none ∧ ((zdev failed).core 0).storeDue = some 0x20000000
    ∧ (match decodeOps (isSupv 0) .secure (zword .ld64 .long (za 5 3 0 0)) with | .ops [o] => o.kind.isMem && (match (zdev id).memOp 0 o false with | .done _ v => decide (v = some 0) | _ => false) && (match (zdev id).memOp 0 o true with | .fault _ c => decide (c = 8) | _ => false) && (match (zdev failed).memOp 0 o false with | .done _ _ => true | _ => false) | _ => false) = true
      ∧ (match decodeOps (isSupv 0) .secure (zword .st64 .long (za 5 3 1 0)) with | .ops [o] => o.kind.isMem && (match (zdev fullBuffer).memOp 0 o false with | .stall _ => true | _ => false) | _ => false) = true
    ∧ (zmarch 0x10000000 (zdev id)).marchHolds 0x10000000 = true ∧ (zmarch 0x10000000 (zdev id)).mayIssue 0 = true
      ∧ (zmarch 0x20000000 (zdev id)).marchHolds 0x20000010 = true
      ∧ (zdev id).marchHolds 0x20000010 = false := by decide +kernel

/-- Obligations.OperationsWriteTheirResults. -/
theorem witness_OperationsWriteTheirResults :
    (zword .add .long (za 5 1 2 0)).wf = true
      ∧ (match decodeOps (isSupv 0) .secure (zword .add .long (za 5 1 2 0)) with | .ops _ => true | .fault .. => false) = true
      ∧ ZKind.isSystem .add = false ∧ zbank.guard (za 5 1 2 0) = true ∧ (za 5 1 2 0).rd ≠ 0
      ∧ zbank.guard { za 5 1 2 0 with gn := true } = false ∧ (za 8 0 0 0).rd % 8 ≠ (za 8 0 0 0).rd / 8 % 8 := by decide +kernel

/-- A store waits in the buffer. -/
def storing : State := zdev fun c => { c with stores := [{ addr := 0x20000010, data := [1, 2, 3, 4], world := .secure, colour := 0 }] }

/-- Obligations.LoadsAndStoresMeetTheGate. -/
theorem witness_LoadsAndStoresMeetTheGate :
    8 ∈ [1, 2, 4, 8] ∧ (zeros 8).length = 8 ∧ 2 ^ 32 ≤ (2#64 ^ 32).toNat ∧ mapped 0x50000000 = false ∧ mapped 0x20000014 = true
      ∧ isRegister 0x20000014 = false ∧ 0x20000014 % 8 ≠ 0 ∧ 0x20000010 % 8 = 0 ∧ 8 ≤ ((zdev fullBuffer).core 0).stores.length
      ∧ ((zdev id).core 0).stores.length < 8
      ∧ (zdev id).coreDenial 0 .secure ((zdev id).coreColour 0 .secure) 0x20000010 false = 0 ∧ classOf 0x20000010 = some 1
      ∧ (zdevN id).coreDenial 0 .normal ((zdevN id).coreColour 0 .normal) 0x20000010 false ≠ 0
    ∧ (zmarch 0x20000000 storing).coreRuns 0 = true ∧ (zmarch 0x20000000 storing).marchHolds 0x20000010 = true
      ∧ (storing.marchHolds 0x20000010) = false
    ∧ storing.coreRuns 0 = true
      ∧ (storing.core 0).stores = [{ addr := 0x20000010, data := [1, 2, 3, 4], world := .secure, colour := 0 }]
      ∧ isRegister 0x20000010 = false ∧ storing.coreDenial 0 .secure 0 0x20000010 true = 0
      ∧ storing.coreDenial 0 .normal 0 0x20000010 true ≠ 0 := by decide +kernel

/-- Obligations.DeniedLoadsTellNothing. -/
theorem witness_DeniedLoadsTellNothing :
    (zdevN id).mayIssue 0 = true ∧ (zdevN id).fetchFault 0 = none ∧ (zword .ld64 .long (za 5 3 0 0)).wf = true
      ∧ ((zdevN id).core 0).cur.guard (za 5 3 0 0) = true ∧ ((zdevN id).core 0).cur.intrap = false
      ∧ ((zdevN id).core 0).world = .normal ∧ mapped 0x20000010 = true ∧ isRegister 0x20000010 = false
      ∧ (zdevN id).coreDenial 0 .normal ((zdevN id).coreColour 0 .normal) 0x20000010 false ≠ 0 := by decide +kernel

/-- Line 3 of a world is pending and enabled. -/
def lined (b : ZBank) : ZBank := { b with irqon := true, imask := 8, ipend := 8 }
/-- That the word of a system operation fits. -/
abbrev fits (s : State) (n : Nat) (k : ZKind) (a : ZArgs) : Prop :=
  k.longZeros a = true ∧ k.permitted (isSupv n) (s.core n).world a = true
/-- A mailbox of worker 0 is named by g1. -/
def mailing (f : ZCore → ZCore) : State := zdev fun c => f (c.setCur (c.cur.setG 1 0x8000F000))
/-- Its mailbox is taken. -/
def mailBusy : State := (mailing id).setBox 0 0 { Mailbox.reset with busy := true }
/-- It holds a command of its unit. -/
def mailCmd : State := let s := mailing id; { s with mem := s.mem.write 0x8000F000 (leBytes 2 0x0401) }
/-- Supervisor A runs. -/
def supvCore : State := dev.setCore 16 zcore
/-- The worker's secure world waits for its restart, or is held down. -/
def downDev (x : SwState) : State := let s := zdevN id; s.setWorker 0 { s.worker 0 with sw := x }
/-- A debugger is attached. -/
def debugged : State := let s := zdev id; { s with lcs := { s.lcs with attached := true } }

/-- Obligations.SystemOperationsActOnTheirCore. -/
theorem witness_SystemOperationsActOnTheirCore :
    (zdev id).mayIssue 0 = true ∧ (zdev id).fetchFault 0 = none ∧ ((zdev id).core 0).storeDue = none ∧ (za 5 1 0 2).wf = true
      ∧ (za 5 1 0 2).imm.toNat < 2 ^ 31 ∧ ((zdev id).core 0).cur.guard (za 5 1 0 2) = true ∧ fits (zdev id) 0 .br (za 0 0 0 2)
      ∧ fits (zdev id) 0 .brl (za 0 0 0 2) ∧ fits (zdev id) 0 .jr (za 0 1 0 0) ∧ fits (zdev id) 0 .jrl (za 0 1 0 0)
      ∧ fits (zdev id) 0 .crd (za 5 0 0 2) ∧ fits (zdev id) 0 .cwr (za 0 1 0 2) := by decide +kernel

/-- Obligations.SystemOperationsActOnTheirCore. -/
theorem witness_SystemOperationsActOnTheirCore_2 :
    fits (zdevN id) 0 .scall (za 0 0 0 5) ∧ ((zdevN id).worker 0).sw = .up ∧ fits (zdev id) 0 .sret (za 0 0 0 1)
      ∧ fits (zdev id) 0 .tret (za 0 0 0 0) ∧ fits (mailing id) 0 .msub (za 5 1 0 0) ∧ boxAt 0 0x8000F000 = some 0
      ∧ (mailBusy.box 0 0).busy = true ∧ ((mailing id).box 0 0).busy = false ∧ (mailing id).gate.upset = []
      ∧ boxTakes 0 ((mailing id).mailReq 0 0 0x8000F000).2.1.desc.opcode = false
      ∧ boxTakes 0 (mailCmd.mailReq 0 0 0x8000F000).2.1.desc.opcode = true ∧ (mailCmd.mailReq 0 0 0x8000F000).2.2 = false
      ∧ supvCore.boxAt 16 0x80000D80 = some 6 ∧ isWorker 16 = false ∧ ((mailing id).core 0).stores = [] ∧ isWorker 0 = true
      ∧ ((mailing fullBuffer).core 0).stores ≠ [] ∧ fits supvCore 16 .msub (za 5 1 0 0) ∧ boxAt 16 6 = none
      ∧ supvCore.mayIssue 16 = true := by decide +kernel

/-- Obligations.SystemOperationsActOnTheirCore. -/
theorem witness_SystemOperationsActOnTheirCore_3 :
    fits (zdev id) 0 .wfe (za 0 0 0 0)
      ∧ (let s := zdev fun c => c.setCur { lined c.cur with irqon := true }; s.pendingLines 0 .secure ≠ 0 ∧ (s.core 0).takesOwn = true)
      ∧ ((zdev fun c => c.setCur { c.cur with event := true }).core 0).cur.event = true ∧ ((zdev id).core 0).cur.event = false
      ∧ (zdev id).pendingLines 0 .secure = 0 ∧ fits (zdev id) 0 .fence (za 0 0 0 0) ∧ ((zdev fullBuffer).core 0).stores ≠ []
      ∧ ((zdevN id).worker 0).sw = .up ∧ ((downDev .pending).worker 0).sw = .pending ∧ ((downDev .held).worker 0).sw = .held
      ∧ (downDev .held).mayIssue 0 = true ∧ (downDev .held).fetchFault 0 = none ∧ fits (zdev id) 0 .brk (za 0 0 0 0)
      ∧ (zdev id).debugger 0 = false ∧ debugged.debugger 0 = true := by decide +kernel

/-- A core in its handler. -/
def trapped (c : ZCore) : ZCore := c.setCur { c.cur with intrap := true }
/-- A mailbox of worker 0 whose submission has completed. -/
def boxDone : Completion :=
  { src := .mailbox 0 0 0, cid := 0, status := 0, sqHead := 0, detail := 0, reason := 0, outLen := 0, info := 0, time := 0,
    phase := false, admitted := true, out := [] }
def boxed : State := let s := (zdev id).setBox 0 0 { Mailbox.reset with busy := true }; { s with zyn := { s.zyn with done := [boxDone] } }
/-- The same for the supervisor's privileged mailbox. -/
def supvDone : State := let s := supvCore.setBox 16 6 { Mailbox.reset with busy := true }
  { s with zyn := { s.zyn with done := [{ boxDone with src := .mailbox 16 0 6 }] } }

/-- Obligations.EventsOfACore. -/
theorem witness_EventsOfACore :
    (zdev fun c => { c with flight := [{ world := .secure, left := 2, acc := true, value := 42 }] }).coreRuns 0 = true
      ∧ ((zdev fun c => { c with flight := [{ world := .secure, left := 2, acc := true, value := 42 }] }).core 0).flight = [{ world := .secure, left := 2, acc := true, value := 42 }]
      ∧ (zdev failed).coreRuns 0 = true ∧ (zdev failed).debugHalted 0 = false
      ∧ ((zdev failed).core 0).storeDue = some 0x20000000
      ∧ (zdev fun c => { c with wfe := true }.setCur { c.cur with event := true }).coreRuns 0 = true
    ∧ (zdev fun c => c.setCur (lined c.cur)).takable 0 = some (.secure, 3)
      ∧ ((zdev fun c => c.setCur (lined c.cur)).core 0).storeDue = none
      ∧ (zdevN fun c => { c with secure := lined c.secure }).takable 0 = some (.secure, 3)
      ∧ ((zdevN fun c => { c with secure := lined c.secure }).core 0).world = .normal
      ∧ (zdevN fun c => { c with secure := lined c.secure }).coreRuns 0 = true ∧ ((zdevN id).core 0).flight = []
      ∧ ((zdev id).core 0).cur.intrap = false ∧ ((zdev trapped).core 0).cur.intrap = true
      ∧ ((zdevN trapped).core 0).cur.intrap = true ∧ ((zdevN trapped).core 0).started = true
    ∧ boxed.onMain = true ∧ (boxed.box 0 0).busy = true ∧ (boxed.core 0).started = true ∧ boxed.zyn.done = [boxDone]
      ∧ (supvDone.box 16 6).busy = true ∧ supvDone.zyn.done = [{ boxDone with src := .mailbox 16 0 6 }]
      ∧ (supvCore.core 16).started = true := by decide +kernel

/-- Obligations.ZynkelWordsKeepTheirFields. -/
theorem witness_ZynkelWordsKeepTheirFields :
    (ZWord.long { opc := 0x109, args := za 63 63 63 0x7FFFFFFF }).wf = true
      ∧ (ZWord.paired true { opc := 63, args := { za 63 63 63 7 with gn := true, gp := 7 } } addSlot).wf = true := by decide +kernel

/-- Supervisor A, in control. -/
def supA : Initiator := .supervisor false
/-- The core serves a mailbox that waits, with nothing else changed. -/
def pinsIn : State := { zdev id with supv := { (zdev id).supv with pinw := 0x7FFF#16 } }
/-- A secure world that is down. -/
def downed (two : Bool) : State :=
  let s := zdev id
  ({ s with boot := { s.boot with entry1 := 0x10000000, entry2 := if two then 0x10000400 else 0 } }).declareDown 0 3
/-- The secure watchdog's time, in 1/128 ms. -/
def watched (k : Nat) : State := let s := zdev id; s.setWorker 0 { s.worker 0 with watch := k + 128 * s.supv.swlimMs }

/-- Obligations.WorldsAndLinesOfCores. -/
theorem witness_WorldsAndLinesOfCores :
    (zdev id).onMain = true ∧ (zdev id).scanPin 15 = false ∧ ((zdev id).core 0).started = true
      ∧ (zdev id).lineWorld 0 16 = (zdev id).pinWorld 15 ∧ pinsIn.scanPin 15 = false
      ∧ pinsIn.lineWorld 0 16 ≠ pinsIn.pinWorld 15 ∧ pinsIn.zyn.cores.filter (fun x => x.2.started) = [(0, zcore)]
      ∧ pinsIn.onMain = true
    ∧ (zdev id).inControl supA = true ∧ 0 < (zdev id).part.workers ∧ (zdev id).inControl (.supervisor true) = false
      ∧ (zdev id).inControl (.worker 0 .secure) = false ∧ (zdev id).inControl (.host false) = false
      ∧ ((zdev id).core 0).started = true ∧ ((zdev id).core 0).world = .secure ∧ ((zdev id).worker 0).sw = .up
      ∧ ((zdevN id).worker 0).sw = .up ∧ ((zdevN id).core 0).world = .normal ∧ ((zdevN id).core 0).started = true
      ∧ (Initiator.worker 1 .secure) ≠ .worker 0 .secure := by decide +kernel

/-- Obligations.WorldsAndLinesOfCores. -/
theorem witness_WorldsAndLinesOfCores_2 :
    (downed true).onMain = true ∧ (downed true).hasNormal = true ∧ ((downed true).worker 0).sw = .down
      ∧ ((downed false).worker 0).sw = .down ∧ (downed false).hasNormal = false ∧ (downed false).onMain = true
    ∧ (watched 0).onMain = true ∧ ((watched 0).core 0).world = .secure ∧ (watched 0).watchExpired 0 = true
      ∧ (zdev id).watchExpired 0 = false := by decide +kernel

/-- The device in its first supervisor cycle, its supervisors changed. -/
def sups (f : Worlds → Worlds) : State := { dev with supv := f { Worlds.reset with cycle := 1 } }
/-- An empty delta of a cycle with flags (R357). -/
def deltaOf (csn fl : Nat) : Bytes :=
  let h := leBytes 8 csn ++ leBytes 2 fl ++ leBytes 2 0
  h ++ leBytes 4 (crc32c h).toNat ++ zeros 240
/-- B controls and A has shadowed without an error. -/
def reclaiming : State := sups fun w => { w with active := true, stA := .shadowing, stB := .active, clean := 1000 }

/-- Obligations.SupervisorsPassControl. -/
theorem witness_SupervisorsPassControl :
    (sups id).onMain = true ∧ (sups id).supv.st false = .active ∧ (sups id).controls false = true
      ∧ someB ((sups id).supv.firstOfCycle (deltaOf 1 0)) (fun x => decide (x.csn = 1 ∧ x.count = 0)) = true
      ∧ (sups id).supv.firstOfCycle (deltaOf 2 0) = none ∧ reclaiming.supv.st false = .shadowing
      ∧ reclaiming.supv.active = true ∧ reclaiming.supv.noSup = false
      ∧ someB (reclaiming.supv.firstOfCycle (deltaOf 1 2)) (fun x => x.flags.getLsbD 1) = true
      ∧ (sups id).supv.st true = .shadowing
      ∧ someB ((sups id).supv.firstOfCycle (deltaOf 1 1)) (fun x => x.flags.getLsbD 0) = true
    ∧ (sups id).thirdGiveup false = false ∧ (sups id).supv.st (!false) = .shadowing
      ∧ (sups fun w => { w with stB := .fenced }).supv.st (!false) = .fenced
      ∧ (sups fun w => { w with stB := .fenced }).thirdGiveup false = false
      ∧ (sups fun w => { w with stB := .fenced }).controls false = true ∧ (sups id).controls true = false
      ∧ (sups fun w => { w with stB := .selfTest }).supv.st true = .selfTest
      ∧ (sups fun w => { w with stB := .fenced }).supv.held true = false ∧ 4 ∈ [1, 2, 4]
      ∧ (sups fun w => { w with unclean := 16 }).supv.unclean = 16 ∧ (sups fun w => { w with unclean := 15 }).supv.unclean < 16
      ∧ (sups id).supv.st (!(sups id).supv.active) = .shadowing := by decide +kernel

/-- The device with its memories changed. -/
def mems (f : Memory → Memory) : State := { dev with mem := f { dev.mem with scrubEn := 0x7F#7 } }
/-- A byte of WORK whose lowest bit has been inverted. -/
def flipped (m : Memory) : Memory :=
  { m with bytes := SMap.set 0#8 m.bytes 0x20000000 1#8, chk := SMap.set 0 m.chk 0x20000000 (checkBits 0#8 ^^^ checkBits 1#8) }
/-- The alarms of memory are of a class that ends nothing, with the memories changed. -/
def quiet (f : Memory → Memory) : State := let s := mems f
  { s with lace := { s.lace with romTable := false, table := [(0x805, { cls := 0, alert := false }), (0x806, { cls := 0, alert := false })] } }
def kept (m : Memory) : Memory := { m with march := some { bank := 32, preserve := true } }
/-- A March run over the first bank of WORK. -/
def marching (m : Memory) : Memory := { m with march := some { bank := 32, preserve := false } }

/-- Obligations.MemoriesAndTheirAgents. -/
theorem witness_MemoriesAndTheirAgents :
    (mems id).gate.upset = [] ∧ (quiet id).testsRegion 0x20000100 = true ∧ ((quiet id).alarmCfg 0x805).cls < 2
      ∧ ((quiet id).alarmCfg 0x806).cls < 2 ∧ (mems (kept ∘ flipped)).mem.march = some { bank := 32, preserve := true }
    ∧ (mems id).secureOrControl supA = true ∧ (mems id).secureOrControl (.worker 0 .secure) = true
      ∧ (mems id).mem.initRun = none ∧ (0x80002800#32).getLsbD 31 = true ∧ 1 ≤ (0x80002800#32).toNat % 16384
      ∧ (0x80002800#32).toNat % 16384 ≤ 10240 ∧ bankRange 32 = some (0x20000000, 0x40000) ∧ bankClass 32 = some 1
      ∧ (mems flipped).onMain = true ∧ (mems flipped).mem.ecctEn = false
      ∧ classOf ((mems flipped).mem.scrubWord 32 0x20000000) = some 1
      ∧ eccOf (SMap.get 0 (mems flipped).mem.chk 0x20000000) = .corrected 1#8 := by decide +kernel

/-- Obligations.MemoriesAndTheirAgents. -/
theorem witness_MemoriesAndTheirAgents_2 :
    (mems fun m => { m with initRun := some { who := supA, base := 0x20000000, pages := 10240 } }).mem.initRun = some { who := supA, base := 0x20000000, pages := 10240 }
      ∧ 0x20000000 % 4096 = 0
      ∧ (mems fun m => { m with initRun := some { who := .worker 0 .normal, base := 0x20001000, pages := 1 } }).mem.initRun = some { who := .worker 0 .normal, base := 0x20001000, pages := 1 }
      ∧ classOf 0x20001000 = some 1
      ∧ (mems fun m => { m with initRun := some { who := .worker 0 .normal, base := 0x20001000, pages := 1 } }).pageDenial (.core .normal 0) ((pageOf 0x20001000).getD 0) true ≠ 0
      ∧ ((mems id).mem.cls 1).forced = false ∧ (mems id).mem.scrubEn.getLsbD 6 = true ∧ (mems id).testsRegion 0x20000100 = true
      ∧ (mems id).mem.testing = [] ∧ (mems id).mem.forcedTests.contains 0x20000100 = false
    ∧ (mems id).inControl supA = true ∧ (mems id).mem.march = none ∧ (0x820#32).getLsbD 11 = true
      ∧ (mems id).marchBarred ((0x820#32).toNat % 1024) = false ∧ (mems id).marchBarred ((0xBFF#32).toNat % 1024) = true
      ∧ (mems marching).mem.march = some { bank := 32, preserve := false }
      ∧ ecctAllowed supA (0x20000008#32 &&& 0xFFFFFFF8#32).toNat = true
      ∧ ecctAllowed supA (0x10000009#32 &&& 0xFFFFFFF8#32).toNat = false
      ∧ (mems fun m => { m with ecctEn := true, ecctAddr := 0x20000008, ecctData := 5 }).inControl supA = true
      ∧ (mems fun m => { m with ecctEn := true, ecctAddr := 0x20000008, ecctData := 5 }).mem.ecctEn = true
      ∧ ((zdev id).core 0).started = true ∧ ((zdev id).core 0).cur.halted = false
      ∧ ((zdev id).core 0).cur.intrap = false := by decide +kernel

/-- The device with its gates changed. -/
def gated (f : Gates → Gates) : State := { dev with gate := f { dev.gate with pbase := 4096, pcount := 2 } }
/-- A rule write completes, with another waiting. -/
def queuing : State := gated fun g => { g with busy := true, queued := [.pages 4096 2 ⟨0xAB, 0⟩] }
/-- Entries that differ from their inverted copies. -/
def upset : State := gated fun g => { g with upset := [.page 4096] }

/-- Obligations.RulesOfTheGates. -/
theorem witness_RulesOfTheGates :
    queuing.inControl supA = true ∧ queuing.gate.busy = true ∧ queuing.gate.queued = [.pages 4096 2 ⟨0xAB, 0⟩]
      ∧ queuing.psetRefused 4096 2 ⟨0xAB, 0⟩ = false ∧ (gated fun g => { g with busy := true }).gate.queued = []
      ∧ upset.gate.mismatch 4096 = some (.page 4096) ∧ upset.gate.mismatch 4097 = none
      ∧ ((gated fun g => { g with upset := [.grant 3] }).gate.mismatch 7).isSome = true
      ∧ (upset.monitor 0x0900).standing = none ∧ (upset.monitor 0x0900).suppressed = false := by decide +kernel

/-- Obligations.RulesOfTheGates. -/
theorem witness_RulesOfTheGates_2 :
    (gated id).inControl supA = true ∧ (0x4AB#32).getLsbD 10 = true ∧ (0x4FF#32).getLsbD 10 = true
      ∧ (gated id).gate.busy = false
      ∧ (gated id).psetRefused 4096 2 ⟨(0x4AB#32).extractLsb' 0 8, (0x4AB#32).extractLsb' 8 2⟩ = false
      ∧ (gated id).psetRefused 4096 2 ⟨(0x4FF#32).extractLsb' 0 8, (0x4FF#32).extractLsb' 8 2⟩ = true
      ∧ (gated id).psetRefused 0 2 ⟨0, 0⟩ = false ∧ (gated id).psetRefused (pageCount - 2) 2 ⟨0, 0⟩ = false
      ∧ (gated id).psetRefused (pageCount - 1) 2 ⟨0, 0⟩ = true ∧ (gated id).psetRefused 0 0 ⟨0, 0⟩ = true
      ∧ pageCount < (pageCount - 1) + 2 ∧ (0xD0201#32).getLsbD 19 = true
      ∧ (Grant.mk 1 2 true false true).from_ = (0xD0201#32).toNat % 256
      ∧ (Grant.mk 1 2 true false true).tgt = (0xD0201#32).toNat / 256 % 256
      ∧ (Grant.mk 1 2 true false true).read = (0xD0201#32).getLsbD 16
      ∧ (Grant.mk 1 2 true false true).write = (0xD0201#32).getLsbD 17
      ∧ (Grant.mk 1 2 true false true).valid = (0xD0201#32).getLsbD 18
      ∧ ((gated fun g => { g with pages := [(3, some ⟨1, 3⟩)] }).pageTag 3).tag = 3#2 := by decide +kernel

/-- A state's life cycle. -/
def lc (n : Nat) (s : State) : State :=
  let f (k : Nat) : W32 := if k < 2 * n then 0xFFFFFFFF else 0
  { s with lcs := { s.lcs with otp := { s.lcs.otp with marks := #v[f 0, f 1, f 2, f 3, f 4, f 5] } } }
/-- Alarms by an image's table: the light sectors in the four classes. -/
def laced (f : Lace → Lace) : State :=
  { dev with lace := f { dev.lace with romTable := false, table := [(0x300, ⟨0, true⟩), (0x301, ⟨1, true⟩), (0x302, ⟨2, true⟩), (0x303, ⟨3, true⟩)] } }
/-- A monitor's state in that device. -/
def monIn (k : Nat) (m : Monitor) : State := laced fun l => { l with monitors := [(k, m)] }
/-- Channel 447 is enrolled with a flat baseline. -/
def meshIn (f : Channel → Channel) : State := laced fun l => { l with channels :=
  [(447, f { Channel.rest with baseline := some { samples := List.replicate 64 512, threshold := 8, intact := true }, armed := true })] }
/-- Pin 0 alarms when low, pin 1 when high; pins 2 to 7 are dynamic pairs. -/
def pinned (prev : BitVec 8) : State := { dev with bkd := { dev.bkd with intrcfg := 0xFFF9#16, intrPrev := prev } }
/-- A tamper log of `n` entries with one event waiting. -/
def logIn (n : Nat) (s : State) : State :=
  { s with bkd := { s.bkd with log := List.replicate n { ts := 0, code := 0, param := 0, chain := 0 }, logQueue := [⟨0x0A05, 1⟩] } }

/-- Obligations.AlarmsAndTheTamperLog. -/
theorem witness_AlarmsAndTheTamperLog :
    (lc 1 dev).lifeCycle = 1 ∧ (lc 2 dev).lifeCycle = 2 ∧ (lc 3 dev).lifeCycle = 3 ∧ dev.onMain = true
      ∧ dev.islandPresent 18 = true ∧ dev.islandPresent 0 = true ∧ dev.lace.tlimLo = 14 ∧ dev.lace.tlimHi = 194
      ∧ ((laced id).monitor 0x300).standing = none ∧ ((laced id).monitor 0x300).suppressed = false
      ∧ ((laced id).alarmCfg 0x301).cls < 2 ∧ ((laced id).alarmCfg 0x302).cls = 2 ∧ ((laced id).alarmCfg 0x303).cls = 3
      ∧ (laced id).lifeCycle ≠ 3 ∧ (laced id).serving = true
      ∧ ((monIn 0x300 { Monitor.rest with standing := some 0 }).monitor 0x300).standing ≠ none := by decide +kernel

/-- Obligations.AlarmsAndTheTamperLog. -/
theorem witness_AlarmsAndTheTamperLog_2 :
    (meshIn id).onMain = true
      ∧ ((meshIn id).channel 447).baseline = some { samples := List.replicate 64 512, threshold := 8, intact := true }
      ∧ ((meshIn id).channel 447).armed = true ∧ (meshIn id).lace.stim ≠ some 447
      ∧ fingerprint (List.replicate 64 520) = some (List.replicate 64 520)
      ∧ 8 ≤ (deviation (List.replicate 64 512) (List.replicate 64 520)).1
      ∧ (deviation (List.replicate 64 512) (List.replicate 64 519)).1 < 8
      ∧ ((meshIn fun c => { c with confirm := true }).channel 447).confirm = true ∧ (pinned 0).bkd.pinMode 0 = 1
      ∧ (pinned 0).bkd.pinMode 1 = 2 ∧ (pinned 0).bkd.intrPrev.getLsbD 1 = false ∧ (pinned 0xFF).bkd.intrPrev.getLsbD 1 = true
      ∧ (pinned 0).bkd.pinMode (2 * 3) = 3 ∧ (pinned 0xFF).bkd.intrPrev.getLsbD (2 * 3 + 1) = true := by decide +kernel

/-- Obligations.AlarmsAndTheTamperLog. -/
theorem witness_AlarmsAndTheTamperLog_3 :
    ((monIn 0x300 { Monitor.rest with standing := some 1 }).monitor 0x300).standing = some 1
      ∧ ((monIn 0x300 { Monitor.rest with standing := some 1 }).monitor 0x300).condition = false
      ∧ ((monIn 0x300 { Monitor.rest with standing := some 2 }).monitor 0x300).standing = some 2
      ∧ (laced id).stimulable 0x300 = true ∧ (laced id).stimulable 0x70F = true ∧ (meshIn id).stimulable 447 = true
      ∧ (meshIn id).stimulable 446 = false ∧ (laced id).lace.periodS ≠ 0 ∧ (laced id).lace.stim = none
      ∧ (laced fun l => { l with stim := some 0x301 }).stimulable 0x300 = true
      ∧ (laced fun l => { l with stim := some 0x301 }).lace.stimDue.contains 0x300 = false ∧ (laced id).inControl supA = true
      ∧ (0x10300#32).getLsbD 16 = true ∧ (0x10300#32).toNat % 65536 = 0x300 := by decide +kernel

/-- Obligations.AlarmsAndTheTamperLog. -/
theorem witness_AlarmsAndTheTamperLog_4 :
    (laced fun l => { l with stim := some 0x300 }).lace.stim = some 0x300
      ∧ (laced fun l => { l with stim := some 0x300 }).lace.stimAsked = none
      ∧ (laced fun l => { l with stim := some 0x300 }).lace.stimDue = []
      ∧ ((laced fun l => { l with stim := some 0x300 }).monitor 0x300).condition = false ∧ (laced id).bkd.merged = 0
      ∧ (logIn 2046 dev).bkd.logQueue = [⟨0x0A05, 1⟩] ∧ (logIn 2046 dev).bkd.log.length = 2046
      ∧ (logIn 2047 dev).bkd.log.length = 2047 ∧ (logIn 2047 dev).lifeCycle ≠ 3 ∧ (logIn 2047 (lc 3 dev)).lifeCycle = 3
      ∧ (logIn 2047 (lc 3 dev)).bkd.log.length = 2047 := by decide +kernel

/-- Obligations.AlarmsAndTheTamperLog. -/
theorem witness_AlarmsAndTheTamperLog_5 :
    tk (logIn 3 dev) (withOut (withPar (req 0 0x0621) 0x20001) 4096) 0x0621
      ∧ (took (logIn 3 dev) (withOut (withPar (req 0 0x0621) 0x20001) 4096)).img.force.recorder.auditNode = 0
      ∧ (withPar (req 0 0x0621) 0x20001).desc.par 2 2 = 2
      ∧ (withPar (req 0 0x0621) 0x20001).desc.par 0 2 + 2 ≤ (logIn 3 dev).bkd.log.length
      ∧ tk (meshIn id) (withOut (withPar (req 0 0x0622) 447) 64) 0x0622 ∧ (withPar (req 0 0x0622) 447).desc.par 0 2 = 447
      ∧ ((meshIn id).channel 446).baseline = none ∧ tk (meshIn id) (withPar (req 0 0x0622) 446) 0x0622
      ∧ (devIn .ceremony).inControl supA = true ∧ (devIn .ceremony).sys.mode = .ceremony ∧ pairsOk 0xFFF9#16 = true
      ∧ pairsOk 0x0003#16 = false ∧ (0xFFF9#16) ≠ (devIn .ceremony).bkd.intrcfg := by decide +kernel

/-- A challenge issued at the operating time. -/
def challenged (s : State) : State := { s with lcs := { s.lcs with challenge := some { bytes := zeros 32, issued := 0 } } }
/-- One step of a statement: its code and arguments. -/
def stepRec (code arg0 arg1 : Nat) (len : Nat) (h : Bytes) : Bytes :=
  leBytes 1 code ++ [0] ++ leBytes 2 len ++ leBytes 4 arg0 ++ leBytes 8 arg1 ++ h
/-- A statement over zeros as its challenge, for this device, with one step. -/
def statement (code : Nat) : Bytes :=
  leBytes 4 0x45434C43 ++ leBytes 2 1 ++ [0, 1] ++ leBytes 2 60 ++ zeros 6 ++ bytes128 Config.deviceIdentity ++ zeros 32
    ++ stepRec code 2 0 0 (zeros 48)
/-- A signature entry of custodian `i` without ML-DSA. -/
def sigBytes (sg : Nat → Byte) : Bytes := (List.range 96).map sg
def sigRec (i : Byte) (sg : Nat → Byte) : Bytes := [i, 1, 0, 0] ++ cPub ++ zeros 3 ++ sigBytes sg
def sigOf (i : Nat) (sg : Nat → Byte) : CerSig := { cust := i, hasMl := false, ec := cPub, ecSig := sigBytes sg, ml := [], mlSig := [] }
/-- No signature, and the one over the hash of an empty statement. -/
def unsigned : Nat → Byte := fun _ => 0
def signedEmpty : Nat → Byte := fun k => sigEmpty[k]?.getD 0
/-- A CER_OPEN of it, signed by custodians 0 and 1. -/
def cerReq (sg : Nat → Byte) : Req := withPar (reqIn 0 0x0802 (statement 6 ++ sigRec 0 sg ++ sigRec 1 sg)) 2
/-- An open ceremony of one step, at the start of operating time. -/
def cerOf (x : CerStep) (run : Option CerRun) : Ceremony :=
  { unlock := false, steps := [x], next := 0, suspend := false, timeoutS := 60, opened := 0, quorum := 3, statement := [], running := run }
/-- A device in that ceremony. -/
def inCer (c : Ceremony) (s : State) : State := { s with sys := { s.sys with mode := .ceremony }, lcs := { s.lcs with ceremony := some c } }
def quorumStep : CerStep := { code := 6, dataLen := 0, arg0 := 2, arg1 := 0, dataHash := zeros 48 }
def dataStep : CerStep := { quorumStep with code := 7, dataLen := 4, dataHash := sha384Bytes [1, 2, 3, 4] }
/-- Custodian `i` as registered with the key of `sigOf`. -/
def custs : State :=
  let c : Custodian := { Custodian.none with active := true, keyHash := sha384Bytes cPub }
  { dev with bkd := { dev.bkd with quorum := 2, custodians := [(0, c), (1, c)] } }
/-- A token from one state to another over a challenge of zeros, for this device. -/
def tokenHead (kind from_ tgt rights : Nat) : Bytes :=
  leBytes 4 0x4B4C4C43 ++ leBytes 1 kind ++ leBytes 1 from_ ++ leBytes 1 tgt ++ leBytes 1 rights ++ zeros 8
    ++ bytes128 Config.deviceIdentity ++ zeros 32
/-- A token: its head, its signatures and three bytes of zeros. -/
def tokenOf (kind from_ tgt rights : Nat) (sigs : Bytes) : Bytes := tokenHead kind from_ tgt rights ++ (sigs ++ zeros 3)
theorem tokenOf_end (k f t r : Nat) (z : Bytes) (hz : z.length = 3405) :
    leAt (tokenOf k f t r z) 3469 3 = 0 ∧ (tokenOf k f t r z).length = 3472 := by
  have n : (tokenHead k f t r).length = 64 := by rfl
  constructor
  · rw [tokenOf, leAt_right _ _ _ _ (by omega), n, leAt_right _ _ _ _ (by omega), hz]; decide +kernel
  · simp [tokenOf, n, hz, zeros]
theorem admitted_took (s : State) (r : Req) : (took s r).isAdmitted r = true := by simp [State.isAdmitted, took]
theorem heldBack_no_ctx (s : State) (r : Req) (h : r.desc.ctxv = false) : s.heldBack r = false := by simp [State.heldBack, h]
theorem ctxError_no_ctx (s : State) (r : Req) (h : r.desc.ctxv = false) : s.ctxError r = none := by simp [State.ctxError, h]
theorem ctxDenial_no_ctx (s : State) (r : Req) (h : r.desc.ctxv = false) : s.ctxDenial r = 0 := by simp [State.ctxDenial, h]
theorem witness_turns (sg : Nat → Byte) (sigs : Bytes) :
    tk (challenged dev) (cerReq sg) 0x0802 ∧ tk (challenged dev) (reqIn 0 0x0808 (tokenOf 1 0 1 0 sigs)) 0x0808 :=
  ⟨⟨rfl, rfl, admitted_took .., rfl, heldBack_no_ctx _ _ (show Req.none.desc.ctx.getLsbD 31 = false by decide),
     ctxDenial_no_ctx _ _ (show Req.none.desc.ctx.getLsbD 31 = false by decide),
     ctxError_no_ctx _ _ (show Req.none.desc.ctx.getLsbD 31 = false by decide), .inr rfl⟩,
   ⟨rfl, rfl, admitted_took .., rfl, heldBack_no_ctx _ _ (show Req.none.desc.ctx.getLsbD 31 = false by decide),
     ctxDenial_no_ctx _ _ (show Req.none.desc.ctx.getLsbD 31 = false by decide),
     ctxError_no_ctx _ _ (show Req.none.desc.ctx.getLsbD 31 = false by decide), .inr rfl⟩⟩
set_option maxRecDepth 20000 in
/-- The two entries of the request are read as they were written. -/
theorem cerReq_sigs (sg : Nat → Byte) : cerSigs (cerReq sg).bytes 2 128 = some [sigOf 0 sg, sigOf 1 sg] := by
  have l : (cerReq sg).bytes.length = 528 := by rfl
  have a : leAt (cerReq sg).bytes 128 1 = 0 ∧ leAt (cerReq sg).bytes 129 1 = 1 ∧ leAt (cerReq sg).bytes 130 2 = 0
      ∧ leAt (cerReq sg).bytes 229 3 = 0 := ⟨by rfl, by rfl, by rfl, by rfl⟩
  have b : leAt (cerReq sg).bytes 328 1 = 1 ∧ leAt (cerReq sg).bytes 329 1 = 1 ∧ leAt (cerReq sg).bytes 330 2 = 0
      ∧ leAt (cerReq sg).bytes 429 3 = 0 := ⟨by rfl, by rfl, by rfl, by rfl⟩
  have c : slice (cerReq sg).bytes 132 97 = cPub ∧ slice (cerReq sg).bytes 232 96 = sigBytes sg
      ∧ slice (cerReq sg).bytes 332 97 = cPub ∧ slice (cerReq sg).bytes 432 96 = sigBytes sg := ⟨by rfl, by rfl, by rfl, by rfl⟩
  have k : Nat.testBit 1 1 = false := by rfl
  simp [cerSigs, cerSigAt, l, a, b, c, k, sigOf]
set_option maxRecDepth 20000 in
theorem witness_statement (sg : Nat → Byte) (h : Crypto.ecdsaVerify 0x11 cPub (sha384Bytes (statement 6)) (sigBytes sg) = true) :
    slice (cerReq sg).bytes 16 16 = bytes128 Config.deviceIdentity ∧ statementOk (cerReq sg).bytes = true
      ∧ cerSigs (cerReq sg).bytes 2 128 = some [sigOf 0 sg, sigOf 1 sg]
      ∧ (custs.counted (sha384Bytes (statement 6)) [sigOf 0 sg, sigOf 1 sg]).length = 2
      ∧ (sigOf 0 sg).signs (sha384Bytes (statement 6)) = true := by
  refine ⟨by rfl, by rfl, cerReq_sigs sg, ?_, by simp [CerSig.signs, sigOf, h]⟩
  simp [State.counted, State.sigValid, State.custodian, custs, SMap.get, sigOf, h, Custodian.none]
/-- A founding of custodians 0 and 1. -/
def foundReq : Req := withPar (reqIn 0 0x0806 (sigRec 0 unsigned ++ sigRec 1 unsigned)) 0x202
/-- The ceremony is one opened in LOCKED. -/
def unlocking : Ceremony := { cerOf quorumStep none with unlock := true }

/-- Obligations.CeremoniesOpenAndClose. -/
theorem witness_CeremoniesOpenAndClose :
    (challenged dev).cerChallenge = some (zeros 32) ∧ slice (cerReq unsigned).bytes 32 32 = zeros 32
      ∧ leAt (cerReq unsigned).bytes 6 1 = 0 ∧ leAt (cerReq unsigned).bytes 7 1 = 1 ∧ (cerReq unsigned).desc.par 0 1 = 2
      ∧ (challenged dev).sys.mode ≠ .locked ∧ (challenged dev).lcs.ceremony = none
      ∧ ((challenged dev).counted [] [sigOf 0 unsigned, sigOf 1 unsigned]).length < max 2 (challenged dev).bkd.quorum
      ∧ tk custs (withOut (req 0 0x0801) 32) 0x0801 ∧ ((took custs (withOut (req 0 0x0801) 32)).takeWords 2).isSome = true
      ∧ (challenged dev).lcs.challenge = some { bytes := zeros 32, issued := 0 }
      ∧ ({ challenged dev with sys := { (challenged dev).sys with optime := 600000 } }).lcs.challenge = some { bytes := zeros 32, issued := 0 }
      ∧ 0 + 600000 ≤ ({ challenged dev with sys := { (challenged dev).sys with optime := 600000 } }).sys.optime
      ∧ (challenged dev).sys.optime < 0 + 600000 ∧ tk dev (withPar (reqIn 0 0x0802 [1]) 2) 0x0802
      ∧ statementOk (reqIn 0 0x0802 [1]).bytes = false := by decide +kernel

/-- Obligations.CeremoniesOpenAndClose. -/
theorem witness_CeremoniesOpenAndClose_2 :
    tk (inCer (cerOf quorumStep none) dev) (req 0 0x0803) 0x0803
      ∧ (inCer (cerOf quorumStep none) dev).lcs.ceremony = some (cerOf quorumStep none)
      ∧ (cerOf quorumStep none).steps[0]? = some quorumStep ∧ (req 0 0x0803).bytes.length = quorumStep.dataLen
      ∧ tk (inCer (cerOf quorumStep none) dev) (withPar (req 0 0x0803) 1) 0x0803
      ∧ tk (inCer (cerOf dataStep none) dev) (req 0 0x0803) 0x0803 := by decide +kernel

/-- Obligations.CeremoniesOpenAndClose. -/
theorem witness_CeremoniesOpenAndClose_3 :
    tk (inCer (cerOf dataStep none) dev) (reqIn 0 0x0803 [1, 2, 3, 4]) 0x0803
      ∧ (reqIn 0 0x0803 [1, 2, 3, 4]).bytes = [1, 2, 3, 4] ∧ tk dev (req 0 0x0804) 0x0804
      ∧ tk (inCer (cerOf quorumStep none) dev) (req 0 0x0804) 0x0804 ∧ (inCer (cerOf quorumStep none) dev).sys.mode = .ceremony
      ∧ tk dev (withOut (req 0 0x0805) 16) 0x0805 := by decide +kernel

/-- Obligations.CeremoniesOpenAndClose. -/
theorem witness_CeremoniesOpenAndClose_4 :
    0 + 1000 * 60 ≤ ({ inCer (cerOf quorumStep none) dev with sys := { dev.sys with mode := .ceremony, optime := 60000 } }).sys.optime
      ∧ ({ inCer (cerOf quorumStep none) dev with sys := { dev.sys with mode := .ceremony, optime := 60000 } }).lcs.ceremony = some (cerOf quorumStep none)
      ∧ (inCer (cerOf quorumStep none) dev).sys.optime < 0 + 1000 * 60 ∧ tk (challenged dev) foundReq 0x0806
      ∧ (challenged dev).custodianCount = 0 ∧ (challenged dev).lifeCycle ≠ 3 ∧ foundReq.desc.par 0 1 = 2
      ∧ foundReq.desc.par 1 1 = 2 ∧ cerSigs foundReq.bytes 2 0 = some [sigOf 0 unsigned, sigOf 1 unsigned]
      ∧ ([sigOf 0 unsigned, sigOf 1 unsigned].map (·.cust)).Nodup ∧ tk custs foundReq 0x0806 ∧ custs.custodianCount ≠ 0
      ∧ tk custs (withOut (req 0 0x0807) 5000) 0x0807 := by decide +kernel

/-- Obligations.CeremoniesOpenAndClose. -/
theorem witness_CeremoniesOpenAndClose_5 :
    tk (inCer unlocking dev) (req 0 0x0804) 0x0804 ∧ (inCer unlocking dev).lcs.ceremony = some unlocking
      ∧ unlocking.running = none ∧ unlocking.unlock = true := by decide +kernel

/-- A step under way in a device: its code, arguments and data. -/
def stepIn (s : State) (code arg0 arg1 : Nat) (d : Bytes) : State :=
  inCer (cerOf { quorumStep with code := code, arg0 := arg0, arg1 := arg1, dataLen := d.length } (some { req := req 0 0x0803, data := d })) s
/-- The device in PRODUCTION. -/
def made : State := lc 2 dev
/-- That it runs the step with this code. -/
abbrev runs (s : State) (code : Nat) : Prop := (s.stepNow code).isSome = true
set_option maxRecDepth 20000 in
theorem witness_custAdd : ({ quorumStep with code := 4 } : CerStep).code = 4
    ∧ newCustodian { req := req 0 0x0803, data := sigRec 2 signedEmpty } = some (sigOf 2 signedEmpty)
    ∧ (sigOf 2 signedEmpty).signs (sha384Bytes (cerOf quorumStep none).statement) = true ∧ dev.freeCustodian < 16
    ∧ sha384Bytes (sigOf 2 signedEmpty).ec ≠ zeros 48 := by decide +kernel
/-- Channel 0 to enrol and channel 447 to withdraw. -/
def bitmaps : Bytes := [1] ++ zeros 55 ++ zeros 55 ++ [0x80]
/-- The enrolment under way. -/
def enrolling : State := let s := stepIn (meshIn id) 7 4 0 bitmaps; { s with lace := { s.lace with enrolling := some { enrol := [0], withdraw := [447], margin := 4 } } }
/-- A node of this device with a limit, and a key. -/
def limited : State := let s := stepIn keyed 0xB 2 7 []; { s with dmk := { s.dmk with nodes := SMap.set none s.dmk.nodes 2 ((s.node 2).map fun n => { n with limit := 5, owner := 0xFFFF }) } }

/-- Obligations.StepsOfCeremonies. -/
theorem witness_StepsOfCeremonies :
    runs (stepIn made 3 0 0 []) 3
      ∧ someB ((stepIn made 3 0 0 []).takeWords 2) (fun x => decide (wordBytes x.1 ≠ zeros 32)) = true
    ∧ runs (stepIn dev 1 0 0 []) 1 ∧ (stepIn dev 1 0 0 []).lockingCondition = false ∧ (stepIn dev 1 0 0 []).bkd.logFull = false
      ∧ (stepIn (monIn 0x302 { Monitor.rest with condition := true }) 1 0 0 []).lockingCondition = true
      ∧ runs (stepIn (monIn 0x302 { Monitor.rest with condition := true }) 1 0 0 []) 1 ∧ runs (stepIn dev 2 0 0 []) 2
      ∧ (stepIn dev 2 0 0 []).lifeCycle ≠ 2 ∧ runs (stepIn made 2 0 0 []) 2 ∧ (stepIn made 2 0 0 []).lifeCycle = 2
      ∧ (stepIn made 2 0 0 []).sys.mode = .ceremony ∧ runs (stepIn dev 3 0 0 []) 3 ∧ runs (stepIn made 3 0 0 []) 3
      ∧ (stepIn made 3 0 0 []).bkd.l0 = none ∧ ((stepIn made 3 0 0 []).takeWords 2).isSome = true := by decide +kernel

/-- Obligations.StepsOfCeremonies. -/
theorem witness_StepsOfCeremonies_2 :
    runs (stepIn dev 4 0 0 (sigRec 2 unsigned)) 4 ∧ (dev.bkd.custodians.any fun y => y.2.active) = false
      ∧ newCustodian { req := req 0 0x0803, data := [] } = none ∧ runs (stepIn custs 5 1 0 []) 5
      ∧ (stepIn custs 5 1 0 []).custodianCount - 1 < max 2 (stepIn custs 5 1 0 []).bkd.quorum
      ∧ ((stepIn custs 5 1 0 []).custodian 1).active = true
      ∧ ((stepIn { custs with bkd := { custs.bkd with custodians := (2, { Custodian.none with active := true }) :: custs.bkd.custodians } } 5 1 0 []).custodianCount - 1) = 2
      ∧ runs (stepIn custs 6 2 0 []) 6 ∧ 2 ≤ (stepIn custs 6 2 0 []).custodianCount ∧ runs (stepIn custs 6 3 0 []) 6
      ∧ (stepIn custs 6 3 0 []).custodianCount < 3 := by decide +kernel

/-- Obligations.StepsOfCeremonies. -/
theorem witness_StepsOfCeremonies_3 :
    runs (stepIn (meshIn id) 7 4 0 bitmaps) 7 ∧ (stepIn (meshIn id) 7 4 0 bitmaps).lace.enrolling = none ∧ bitmaps.length = 112
      ∧ ((bitmapChannels (bitmaps.take 56)).any ((bitmapChannels (slice bitmaps 56 56)).contains ·)) = false
      ∧ bitmapChannels (bitmaps.take 56) = [0] ∧ bitmapChannels (slice bitmaps 56 56) = [447] ∧ runs (stepIn dev 7 4 0 []) 7
      ∧ runs enrolling 7 ∧ enrolling.lace.enrolling = some { enrol := [0], withdraw := [447], margin := 4 } ∧ [0].Nodup
      ∧ (∀ ch ∈ [0], ch ∉ [447]) ∧ runs (stepIn dev 8 0xFFF9 0 []) 8 ∧ pairsOk (BitVec.ofNat 16 0xFFF9) = true
      ∧ pairsOk (BitVec.ofNat 16 3) = false
    ∧ runs limited 0xB ∧ someB (limited.node 2) (fun n => limited.ownNode n && decide (n.limit ≠ 0)) = true
      ∧ runs (stepIn made 0xD 0 0 (zeros 97)) 0xD ∧ (stepIn made 0xD 0 0 (zeros 97)).lcs.otp.ownerBit = false
      ∧ (zeros 97).length = 97
      ∧ (stepIn { made with lcs := { made.lcs with otp := { made.lcs.otp with ownerBit := true } } } 0xD 0 0 (zeros 97)).lcs.otp.ownerBit = true := by decide +kernel

theorem witness_token (x y : Bytes) (hx : x.length = 3405) (hy : y.length = 3405) (h : tokenSigned (tokenOf 1 0 1 0 x) = true)
    (m : tokenSigned (tokenOf 2 1 0 7 y) = true) :
    (challenged dev).tokenReason (tokenOf 1 0 1 0 x) 1 (challenged dev).cerChallenge = 0
      ∧ (lc 1 dev).tokenReason (tokenOf 2 1 0 7 y) 2 (some (zeros 32)) = 0 := by
  have f1 : tokenForm (tokenOf 1 0 1 0 x) 1 = true := by
    have q : leAt (tokenOf 1 0 1 0 x) 0 4 = 0x4B4C4C43 ∧ leAt (tokenOf 1 0 1 0 x) 4 1 = 1 ∧ leAt (tokenOf 1 0 1 0 x) 7 1 = 0
        ∧ leAt (tokenOf 1 0 1 0 x) 8 8 = 0 := by
      refine ⟨?_, ?_, ?_, ?_⟩ <;> rw [tokenOf, leAt_left _ _ _ _ (by decide +kernel)] <;> decide +kernel
    simp [tokenForm, tokenOf_end 1 0 1 0 x hx, q]
  have f2 : tokenForm (tokenOf 2 1 0 7 y) 2 = true := by
    have q : leAt (tokenOf 2 1 0 7 y) 0 4 = 0x4B4C4C43 ∧ leAt (tokenOf 2 1 0 7 y) 4 1 = 2 ∧ leAt (tokenOf 2 1 0 7 y) 6 1 = 0
        ∧ leAt (tokenOf 2 1 0 7 y) 7 1 = 7 ∧ leAt (tokenOf 2 1 0 7 y) 8 8 = 0 := by
      refine ⟨?_, ?_, ?_, ?_, ?_⟩ <;> rw [tokenOf, leAt_left _ _ _ _ (by decide +kernel)] <;> decide +kernel
    simp [tokenForm, tokenOf_end 2 1 0 7 y hy, q]
  have i1 : slice (tokenOf 1 0 1 0 x) 16 16 = bytes128 Config.deviceIdentity := by
    rw [tokenOf, slice_left _ _ _ _ (by decide +kernel)]; rfl
  have i2 : slice (tokenOf 2 1 0 7 y) 16 16 = bytes128 Config.deviceIdentity := by
    rw [tokenOf, slice_left _ _ _ _ (by decide +kernel)]; rfl
  have c1 : slice (tokenOf 1 0 1 0 x) 32 32 = zeros 32 := by rw [tokenOf, slice_left _ _ _ _ (by decide +kernel)]; rfl
  have c2 : slice (tokenOf 2 1 0 7 y) 32 32 = zeros 32 := by rw [tokenOf, slice_left _ _ _ _ (by decide +kernel)]; rfl
  have a1 : leAt (tokenOf 1 0 1 0 x) 5 1 = 0 ∧ leAt (tokenOf 1 0 1 0 x) 6 1 = 1 := by
    refine ⟨?_, ?_⟩ <;> rw [tokenOf, leAt_left _ _ _ _ (by decide +kernel)] <;> decide +kernel
  have a2 : leAt (tokenOf 2 1 0 7 y) 5 1 = 1 := by rw [tokenOf, leAt_left _ _ _ _ (by decide +kernel)]; decide +kernel
  have l1 : (challenged dev).lifeCycle = 0 ∧ (challenged dev).cerChallenge = some (zeros 32) := by decide +kernel
  have l2 : (lc 1 dev).lifeCycle = 1 := by decide +kernel
  constructor
  · simp [State.tokenReason, f1, i1, c1, a1, l1, h, tokenTransition]
  · simp [State.tokenReason, f2, i2, c2, a2, l2, m]
/-- A debug port with rights, in TEST. -/
def tapIn (rights : BitVec 4) (s : State) : State := let t := lc 1 s; { t with lcs := { t.lcs with rights := rights } }
/-- DEBUG_SECURE waits for a command of tenant 1, or for none. -/
def drainWait (l : List Req) : State := let s := stepIn made 0xC 2 0 []
  { s with host := { s.host with admitted := [{ req := req 1 0x0441, sqHead := 0, urgent := false }] },
           lcs := { s.lcs with sinvWait := some false, sinvBefore := l } }
/-- Scan test is over. -/
def scanned : State := { dev with lcs := { dev.lcs with scanning := true } }

/-- Obligations.LifeCycleAndDebugPort. -/
theorem witness_LifeCycleAndDebugPort :
    tk dev (reqIn 0 0x0808 [1]) 0x0808 ∧ dev.tokenReason [1] 1 dev.cerChallenge ≠ 0
      ∧ ({ (lc 0 dev) with lcs := { dev.lcs with restartPending := true, otp := dev.lcs.otp.program 0 } }).lcs.otp.interrupted = some 1
      ∧ ({ (lc 0 dev) with lcs := { dev.lcs with restartPending := true, otp := dev.lcs.otp.program 0 } }).bkd.intact = true
      ∧ ({ (lc 0 dev) with lcs := { dev.lcs with restartPending := true, otp := dev.lcs.otp.program 0 } }).onMain = true
      ∧ tk dev (withPar (req 0 0x0809) 3) 0x0809 ∧ runs (stepIn made 0xC 2 0 []) 0xC ∧ runs (stepIn made 0xC 1 0 []) 0xC
      ∧ (stepIn made 0xC 2 0 []).lcs.sinvWait = none ∧ (2 : Nat).testBit 1 = true ∧ (1 : Nat).testBit 1 = false
      ∧ dev.inControl supA = true := by decide +kernel

/-- Obligations.LifeCycleAndDebugPort. -/
theorem witness_LifeCycleAndDebugPort_2 :
    runs (drainWait []) 0xC ∧ runs (drainWait [req 1 0x0441]) 0xC ∧ (drainWait [req 1 0x0441]).lcs.sinvWait = some false
      ∧ (drainWait []).workDrained = true
      ∧ (∃ y ∈ (drainWait [req 1 0x0441]).lcs.sinvBefore, (drainWait [req 1 0x0441]).isAdmitted y = true ∧ (drainWait [req 1 0x0441]).searching y = false)
      ∧ scanned.lcs.scanning = true ∧ scanned.powered = true
    ∧ dev.tapReady = true ∧ (lc 1 dev).tapReady = true ∧ dev.lifeCycle ≠ 1 ∧ dev.scanOpen = true ∧ (lc 1 dev).scanOpen = false
      ∧ (tapIn 1 dev).scanOpen = true ∧ (lc 1 dev).ent.ready = true ∧ ((lc 1 dev).takeWords 2).isSome = true
      ∧ ({ dev with lcs := { dev.lcs with scanning := true } }).onMain = true ∧ dev.bkd.intact = true
      ∧ dev.lcs.otp.interrupted = none ∧ dev.bkd.l0 = none ∧ dev.bkd.cloned = [] ∧ dev.lace.channels = [] := by decide +kernel

/-- Obligations.LifeCycleAndDebugPort. -/
theorem witness_LifeCycleAndDebugPort_3 :
    accessOk 0x20000010 8 = true ∧ isRegister 0x20000010 = false ∧ mapped 0x20000010 = true
      ∧ (tapIn 0 dev).dapWorld .normal false = false ∧ (tapIn 2 dev).dapWorld .normal false = true
      ∧ (tapIn 2 dev).debugDenial .normal 0x20000010 false ≠ 0
      ∧ (gated fun g => { g with pages := [(((pageOf 0x20000010).getD 0), some ⟨0, 0⟩)] }).dapWorld .normal true = true
      ∧ (zdev id).debugDenial .secure 0x10000000 false = 0 ∧ classOf 0x20000010 = some 1 ∧ (zdev id).tapReady = true
      ∧ (zdev id).coreRuns 0 = true ∧ (zdev id).dapCore 0 .secure false = true ∧ (zdev id).dapCore 0 .secure true = true
      ∧ (zdev id).debugHalted 0 = false ∧ ((zdev id).haltCore 0).debugHalted 0 = true
      ∧ (((zdev id).haltCore 0).core 0).awake = true ∧ (((zdev id).haltCore 0).core 0).world = .secure
      ∧ ((zdev id).haltCore 0).coreRuns 0 = true := by decide +kernel

/-- A record with a sequence number and a severity. -/
def recOf (seq sev : Nat) : Record := { Record.empty with seq := seq, sev := sev }
/-- The recorder changed. -/
def recs (f : Recorder → Recorder) : State := { dev with rcd := f { dev.rcd with queue := [recOf 9 3] } }
/-- Records of one severity in every slot. -/
def fullSlots (n sev : Nat) (r : Recorder) : Recorder := { r with slots := (0, recOf 1 sev) :: List.replicate n (0, recOf 1 sev), seq := 8192 }
/-- What a fixed point of a fold's step is to the fold. -/
theorem foldl_fixed {α β : Type} (f : β → α → β) (b : β) (x : α) (h : f b x = b) (n : Nat) : (List.replicate n x).foldl f b = b := by
  induction n with
  | zero => rfl
  | succ n ih => rw [List.replicate_succ, List.foldl_cons, h, ih]
theorem witness_full (n sev : Nat) (h : n = 8191) : (recs (fullSlots n sev)).rcd.emptySlot = none :=
  if_neg (by simp only [recs, fullSlots, recSlots, List.length_cons, List.length_replicate, h]; decide)
theorem witness_oldest (n : Nat) : (recs (fullSlots n 3)).rcd.oldest 3 = some 0
  ∧ (recs (fullSlots n 4)).rcd.oldest 3 = none := by
  constructor <;> unfold Recorder.oldest <;> simp only [recs, fullSlots, List.foldl_cons] <;>
    rw [foldl_fixed _ _ _ (by simp [recOf, Recorder.age])] <;> rfl

/-- Obligations.RecordsAreOfferedWrittenAndRead. -/
theorem witness_RecordsAreOfferedWrittenAndRead :
    (recOf 4294967295 15).seq < 2 ^ 32 ∧ dev.onMain = true ∧ 0 < dev.minsevFor 9 ∧ dev.minsevFor 9 ≤ 1 ∧ (0 : Nat) ≠ 6
      ∧ dev.rcd.queue.length < 64 ∧ 64 ≤ (recs fun r => { r with queue := List.replicate 64 (recOf 1 1) }).rcd.queue.length
      ∧ (recs id).rcd.queue = [recOf 9 3] ∧ (recs id).rcd.emptySlot = some 0
    ∧ (recs fun r => { r with bursts := [⟨0x0B01, 0, 3, 4, 5⟩] }).rcd.bursts = [⟨0x0B01, 0, 3, 4, 5⟩]
      ∧ (∀ b ∈ (recs fun r => { r with bursts := [⟨0x0B01, 0, 3, 4, 5⟩] }).rcd.bursts, b.code ≠ 0x0B02)
      ∧ recBankOf (.worker 15 .secure) = some (15, 0x2F) ∧ recBankOf supA = some (16, 0x30)
      ∧ dev.secureOrControl (.worker 15 .secure) = true ∧ dev.secureOrControl supA = true
      ∧ ((recs fun r => { r with banks := [(16, { RecBank.reset with busy := true, target := some 5 })] }).rcd.bank 16).busy = true
      ∧ recBankOf (.worker 15 .normal) = none
      ∧ (recs fun r => { r with slots := [(3, recOf 7 1)] }).rcd.seek 6 = some 3 := by decide +kernel

/-- Obligations.RecordsAreOfferedWrittenAndRead. -/
theorem witness_RecordsAreOfferedWrittenAndRead_2 :
    tk dev (withOut (req 0 0x0601) 64) 0x0601
      ∧ tk (recs fun r => { r with slots := [(3, recOf 7 1)] }) (withOut (withPar (req 0 0x0602) 0x100000000) 4096) 0x0602
      ∧ (took dev (withOut (withPar (req 0 0x0602) 0x100000000) 4096)).img.force.recorder.auditNode = 0
      ∧ (withPar (req 0 0x0602) 0x100000000).desc.par 4 2 = 1 ∧ tk dev (req 0 0x0602) 0x0602
      ∧ (req 0 0x0602).desc.par 4 2 = 0 := by decide +kernel

/-- A device of a board that permits its links: link 0 is UP, its neighbour is device 7. -/
def fab (f : Link → Link) (b : Fabric → Fabric) : State := { dev with
  part := .cx644
  img := { dev.img with force := { dev.img.force with bilkin := { BilkinRec.none with links := 0xFFFFFFFF#32, coordEligible := true } } }
  blk := b { dev.blk with
    links := [(0, f { Link.reset with state := .up, keyRx := zeros 32, keyTx := zeros 32, rxCtr := 5, peerId := some 1 })]
    unit := 3, addr := some 3, routes := [(7, { Route.none with primary := some 0, hops := 1 })] } }
/-- The first of a chain's numbers not known. -/
def unnumbered (f : Option Nat) (b : Fabric) : Fabric := { b with unit := 0x7F, lastFrame := f }
/-- A frame of device 7 on link 0, sealed with the link's key and counter. -/
def arrives (s : State) (ftype : Nat) (b : Bytes) : Frame :=
  let l := s.link 0
  let f : Frame := { ftype := ftype, flags := 0, dst := s.ownAddr, src := 7, ttl := 4, frag := 0, ctr := BitVec.ofNat 32 l.rxCtr,
                     payload := b, tag := [] }
  { f with tag := (gcmOpen l.keyRx (frameIv (!ownLower (l.peerId.getD 0)) l.rxCtr) (frameHeader f) b).2 }
/-- It opens. -/
theorem arrives_opens (s : State) (ftype : Nat) (b : Bytes) (hk : (s.link 0).keyRx ≠ []) :
    ∃ t l, s.openFrame 0 (arrives s ftype b) = some (t, l) := by
  have hf : (arrives s ftype b).flags.getLsbD 2 = false := by simp [arrives]
  have hg : (arrives s ftype b).frag.toNat = 0 := by simp [arrives]
  unfold State.openFrame
  simp only [hf, hg, Bool.false_eq_true, ite_false, Nat.zero_mod, Nat.add_zero]
  exact ⟨_, _, if_pos ⟨hk, rfl, by simp [arrives]⟩⟩
/-- It is delivered. -/
theorem arrives_delivered (s : State) (ftype : Nat) (b : Bytes) (hm : s.onMain = true) (hu : (s.link 0).state = .up)
    (hk : (s.link 0).keyRx ≠ []) : ∃ t, Delivered s 0 (arrives s ftype b) ftype t := by
  obtain ⟨t, l, h⟩ := arrives_opens s ftype b hk
  exact ⟨_, hm, hu, rfl, by simp [arrives], .inl rfl, t, l, h, rfl⟩
/-- A peer's HELLO without a certificate. -/
def badHello : Hello := { ident := 1, cert := [], fabric := 0, unit := 4, eligible := true, nonce := zeros 32 }
/-- A handshake after this device's HELLO. -/
def begun : Handshake := Handshake.begin badHello
/-- The same after both AUTH1, and after the peer's AUTH2. -/
def answered (ok : Bool) : Handshake := { begun with peer := some badHello, sent := [1], got := if ok then [1] else [], auth2Ok := ok }
/-- A link in that handshake. -/
def shake (x : Handshake) : State := fab (fun l => { l with state := .handshake, hs := some x }) id
/-- A HELLO that names the fabric and carries a certificate of its identity. -/
def certHead : Bytes := leBytes 4 0x4B4C4243 ++ bytes128 1 ++ zeros 1288
def certOf (sigs : Bytes) : Bytes := certHead ++ (sigs ++ zeros 3)
def goodHello (sigs : Bytes) : Hello := { badHello with cert := certOf sigs }
set_option maxRecDepth 200000 in
theorem certOf_form (x : Bytes) (hx : x.length = 3405) : (certOf x).length = 4716 ∧ leAt (certOf x) 0 4 = 0x4B4C4243
    ∧ leAt (certOf x) 21 3 = 0 ∧ leAt (certOf x) 121 3 = 0 ∧ leAt (certOf x) 4713 3 = 0
      ∧ slice (certOf x) 4 16 = bytes128 1 := by
  have n : certHead.length = 1308 := by decide +kernel
  refine ⟨by simp [certOf, n, hx, zeros], ?_, ?_, ?_, ?_, ?_⟩
  · rw [certOf, leAt_left _ _ _ _ (by omega)]; decide +kernel
  · rw [certOf, leAt_left _ _ _ _ (by omega)]; decide +kernel
  · rw [certOf, leAt_left _ _ _ _ (by omega)]; decide +kernel
  · rw [certOf, leAt_right _ _ _ _ (by omega), n, leAt_right _ _ _ _ (by omega), hx]; decide +kernel
  · rw [certOf, slice_left _ _ _ _ (by omega)]; decide +kernel
theorem witness_hello (x : Bytes) (hx : x.length = 3405)
    (h : Crypto.ecdsaVerify 0x11 Config.plaoreEc (sha384Bytes ((goodHello x).cert.take 1308)) (slice (goodHello x).cert 1308 96) = true)
    (m : Crypto.mldsaVerify 0x29 Config.plaoreMl [0x43, 0x4C, 0x42, 0x4B] (sha384Bytes ((goodHello x).cert.take 1308))
      (slice (goodHello x).cert 1404 3309) = true) :
    (shake begun).helloReason (goodHello x) = 0 := by
  have f : ((goodHello x).cert.length ≠ 4716 ∨ leAt (goodHello x).cert 0 4 ≠ 0x4B4C4243 ∨ leAt (goodHello x).cert 21 3 ≠ 0
      ∨ leAt (goodHello x).cert 121 3 ≠ 0 ∨ leAt (goodHello x).cert 4713 3 ≠ 0
      ∨ slice (goodHello x).cert 4 16 ≠ bytes128 (goodHello x).ident) = False := by
    simp [goodHello, badHello, certOf_form x hx]
  have g : (goodHello x).fabric = (shake begun).img.force.bilkin.fabric := by rfl
  unfold State.helloReason
  rw [if_neg (by rw [f]; exact id), h, m]
  simp [g]
/-- A handshake with a peer whose certificate has a key, after both AUTH1. -/
def keyedPeer : Handshake := { answered true with peer := some { badHello with cert := zeros 24 ++ cPub } }
theorem witness_auth (sig : Bytes) (v : Crypto.ecdsaVerify 0x11 cPub keyedPeer.digest sig = true) :
    Crypto.pointOk 0x11 cPub = true ∧ (zeros 1088).length = 1088 ∧ keyedPeer.sent ≠ [] ∧ keyedPeer.got ≠ []
      ∧ keyedPeer.verified sig = true := by
  refine ⟨by decide +kernel, by decide +kernel, nofun, nofun, ?_⟩
  have e : slice ((keyedPeer.peer.map (·.cert)).getD []) 24 97 = cPub := by decide +kernel
  rw [Handshake.verified, e]
  exact v
theorem witness_auth_fails : (answered true).verified [] = false := by decide +kernel
/-- Frames that open on a link that is UP and at the end of a handshake, and one that does not. -/
theorem witness_frames : (∃ t, Delivered (fab id id) 0 (arrives (fab id id) 0x11 []) 0x11 t)
    ∧ (∃ t, Delivered (fab id fun b => { b with addr := none }) 0 (arrives (fab id fun b => { b with addr := none }) 0x12 []) 0x12 t)
    ∧ (∃ b l, (shake (answered true)).openFrame 0 (arrives (shake (answered true)) 0x10 [1, 0]) = some (b, l))
    ∧ (∃ b l, (fab id id).openFrame 0 (arrives (fab id id) 0x10 [1, 0]) = some (b, l))
    ∧ (fab (fun l => { l with keyRx := [] }) id).openFrame 0 (arrives (fab id id) 0x11 []) = none := by
  refine ⟨arrives_delivered _ _ _ ?_ ?_ ?_, arrives_delivered _ _ _ ?_ ?_ ?_, arrives_opens _ _ _ ?_, arrives_opens _ _ _ ?_, ?_⟩
  case refine_9 => simp [State.openFrame, arrives, fab, State.link, SMap.get]
  all_goals decide +kernel
/-- Advertisements of others, older and newer, elections of others, and a table that names this device. -/
theorem witness_lsa (x : Lsa) (h : x.ident = ~~~Config.deviceIdentity) : x.ident ≠ Config.deviceIdentity
    ∧ (fab id fun b => { b with lsdb := [x] }).blk.lsdb.find? (fun y => y.ident == x.ident) = some x
    ∧ (fab id id).elected ≠ some Config.deviceIdentity
    ∧ [(Config.deviceIdentity, 9)].find? (fun x => x.1 == Config.deviceIdentity) = some (Config.deviceIdentity, 9) := by
  refine ⟨fun e => ?_, by simp [fab], nofun, by simp⟩
  have := congrArg (·.getLsbD 0) (h ▸ e)
  simp at this

/-- Obligations.LinksOfTheFabric. -/
theorem witness_LinksOfTheFabric :
    (fab id (unnumbered none)).onMain = true ∧ (fab id (unnumbered none)).blk.unit = 0x7F
      ∧ (fab id (unnumbered (some 63))).blk.lastFrame = some 63 ∧ 63 < 64
      ∧ (fab id (unnumbered (some 63))).blk.lastFrame ≠ some 64 ∧ 64 < 128 ∧ (fab id id).blk.unit < 64
      ∧ (fab id id).linkAllowed 31 = (decide (31 < Part.links .cx644)) ∧ (fab id id).linkAllowed 0 = true
      ∧ (fab id id).linkAllowed 99 = false ∧ ((fab (fun l => { l with state := .training }) id).link 0).state = .training
      ∧ (fab id id).handshakes < 8 ∧ ((fab id id).takeWords 6).isSome = true := by decide +kernel

/-- Obligations.LinksOfTheFabric. -/
theorem witness_LinksOfTheFabric_2 :
    (shake begun).shaking 0 = true ∧ ((shake begun).link 0).hs = some begun ∧ begun.peer = none
      ∧ ((shake begun).takeWords 6).isSome = true ∧ (shake begun).helloReason badHello = 1
      ∧ ((shake begun).link 0).newkey = false ∧ (shake { answered false with got := [] }).shaking 0 = true
      ∧ (answered false).sent ≠ [] ∧ (answered false).got = [] ∧ (answered true).got ≠ []
      ∧ ({ answered true with auth2Ok := false } : Handshake).auth2Ok = false
      ∧ ((shake (answered true)).link 0).state = .handshake ∧ (shake begun).ent.stalled.contains (.link 0) = false
      ∧ (let s := shake begun; ({ s with ent := { s.ent with stalled := [.link 0] } } : State)).ent.stalled.contains (.link 0) = true := by decide +kernel

/-- Obligations.LinksOfTheFabric. -/
theorem witness_LinksOfTheFabric_3 :
    (fab id id).onMain = true ∧ ((fab id id).link 0).state = .up ∧ ((fab id id).link 0).newkey = false
      ∧ ((fab id id).link 0).keyTx ≠ [] ∧ ((fab (fun l => { l with missed := 2 }) id).link 0).missed = 2
      ∧ ((fab (fun l => { l with missed := 1 }) id).link 0).missed < 2
      ∧ (fab (fun l => { l with txCtr := 2 ^ 32 }) id).rekeyDue 0 = true
      ∧ ((fab (fun l => { l with newkey := true }) id).link 0).newkey = true
      ∧ ((fab (fun l => { l with state := .refused }) id).link 0).state = .refused ∧ (fab id id).upLinks ≠ []
      ∧ (fab id fun b => { b with electDue := true }).blk.electDue = true ∧ (fab id id).blk.assigned = none
      ∧ (fab id id).blk.addr ≠ some 9 ∧ (fab id fun b => { b with routesDue := true }).blk.routesDue = true := by decide +kernel

/-- A request of device 7 for tenant 0. -/
def theirs : Req := Req.inbound (req 0 0x0401) 7 5
/-- A forwarded request of this device at device 7, and a spilled one. -/
def outs (b : Fabric) : Fabric := { b with outs := [⟨5, 7, req 0 0x0401⟩], spillOuts := [⟨5, 7, req 0 0x0401⟩] }
/-- Those of others that wait. -/
def waits (b : Fabric) : Fabric :=
  let l := List.replicate 1024 { id := 5, src := 7, urgent := false, hash := [], req := theirs }
  { b with ins := l, spillIns := l }
/-- A session that a host command opened. -/
def inSession (s : State) : State :=
  { s with img := { s.img with session := some { seq := 1, length := 8, slotB := false, header := [], replica := false } } }
/-- A member that is sent a copy. -/
def sendingTo (s : State) : State :=
  { s with img := { s.img with replicas := [{ addr := 7, copy := zeros 8, off := 0, active := true, retries := 0, busy := false }] } }
/-- A clone under way with device 7. -/
def cloneRun (source : Bool) : CloneRun := { source := source, peer := 7, tenant := 0, peerId := 0, hs := none, kclone := some (zeros 32), check := [1] }
/-- A clone step in the fabric. -/
def cloning (code : Nat) (l0 : Option Bytes) (c : Option CloneRun) : State :=
  let s := stepIn (fab id fun b => { b with clone := c }) code 7 0 []
  { s with bkd := { s.bkd with l0 := l0 } }
/-- Frames of every kind arrive in these states. -/
theorem witness_arrivals (s : State) (h : s ∈ [fab id id, fab id outs, fab id waits, inSession (fab id id), sendingTo (fab id id),
      cloning 9 (some (zeros 32)) (some (cloneRun true)), cloning 10 none (some (cloneRun false))]) (ftype : Nat) (b : Bytes) :
    ∃ t, Delivered s 0 (arrives s ftype b) ftype t := by
  have k : ∀ s ∈ [fab id id, fab id outs, fab id waits, inSession (fab id id), sendingTo (fab id id),
      cloning 9 (some (zeros 32)) (some (cloneRun true)), cloning 10 none (some (cloneRun false))],
      s.onMain = true ∧ (s.link 0).state = .up ∧ (s.link 0).keyRx ≠ [] := by decide +kernel
  exact arrives_delivered s ftype b (k s h).1 (k s h).2.1 (k s h).2.2
theorem witness_inbound : ∀ s ∈ [fab id id, fab id waits], ∀ fwd, s.inboundRej theirs (s.rootHash 0) 0 fwd = none := by
  have k : ∀ s ∈ [fab id id, fab id waits], s.sys.mode = .service ∧ (s.tenant theirs.tenant).state = .active
      ∧ s.otherOwner theirs = false ∧ theirs.tenant = 0 ∧ theirs.desc.opcode ≠ 0x0101 := by decide +kernel
  intro s h fwd
  obtain ⟨a, b, c, d, e⟩ := k s h
  simp [State.inboundRej, a, c, d, e]
  rw [d] at b; simp [b]
theorem witness_clone_root : (cloneRun false).kclone = some (zeros 32)
    ∧ Crypto.kwpUnwrap (zeros 32) (beBytes 56 0xED22BBFD4115EBCC41CE103020A4ACC6F1CDDFE512B27F791074D8920DF3780C510EC3B7DCD3B0B6CBACE0A01F1C3E5102A46BFC4EB654AE)
      = some (zeros 44) := by decide +kernel
/-- A member that is sent a copy of more than one message. -/
def longCopy : State :=
  { fab id id with img := { dev.img with replicas := [{ addr := 7, copy := List.replicate 65537 0#8, off := 0, active := true, retries := 0, busy := false }] } }
theorem witness_longCopy : longCopy.img.replicas.find? (ReplicaWait.runsTo 7)
      = some { addr := 7, copy := List.replicate 65537 0#8, off := 0, active := true, retries := 0, busy := false }
    ∧ 0 + 65536 < (List.replicate 65537 0#8).length := by
  refine ⟨by rfl, by rw [List.length_replicate]; decide⟩

/-- Obligations.RequestsReplicasAndClones. -/
theorem witness_RequestsReplicasAndClones :
    ({ (fab id id) with sys := { dev.sys with mode := .locked } }).inboundRej theirs [] 0 true = some ⟨0x0701, 0, 0⟩
      ∧ ({ (fab id id) with sys := { dev.sys with mode := .drain } }).inboundRej theirs [] 0 true = some ⟨0x0501, 0, 0⟩
      ∧ (fab id id).inboundRej (Req.inbound (req 9 0x0401) 7 5) [] 0 true = some ⟨0x0801, 0, 0xB2⟩ ∧ (fab id id).serving = true
      ∧ ((fab id id).tenant 9).state ≠ .active ∧ ((fab id id).unadmitted (fab id id).blk.ins).length < 1024
      ∧ 1024 ≤ ((fab id waits).unadmitted (fab id waits).blk.ins).length
      ∧ 1024 ≤ ((fab id waits).unadmitted (fab id waits).blk.spillIns).length
      ∧ ((fab id outs).blk.outs.find? fun x => x.id == 5 && x.owner == 7) = some ⟨5, 7, req 0 0x0401⟩
      ∧ ((fab id id).blk.outs.find? fun x => x.id == 5 && x.owner == 7) = none
      ∧ ((fab id outs).blk.spillOuts.find? fun x => x.id == 5 && x.owner == 7) = some ⟨5, 7, req 0 0x0401⟩
      ∧ (fab id fun b => { b with unreachNow := [(7, (2, 0xB9))] }).blk.unreachNow = [(7, 2, 0xB9)]
    ∧ (fab id id).img.session = none ∧ (fab id id).sys.imgSeq < 9 ∧ (fab id id).bkd.seqFloor ≤ 9 ∧ 1572864 ≤ 1572864
      ∧ (inSession (fab id id)).img.session = some { seq := 1, length := 8, slotB := false, header := [], replica := false }
      ∧ 0 ≤ (fab id id).sys.imgSeq
      ∧ (sendingTo (fab id id)).img.replicas.find? (ReplicaWait.runsTo 7) = some { addr := 7, copy := zeros 8, off := 0, active := true, retries := 0, busy := false }
      ∧ (zeros 8).length ≤ 0 + 65536 := by decide +kernel

/-- Obligations.RequestsReplicasAndClones. -/
theorem witness_RequestsReplicasAndClones_2 :
    runs (cloning 9 (some (zeros 32)) none) 9 ∧ (cloning 9 (some (zeros 32)) none).blk.clone = none
      ∧ (cloning 9 none none).cloneable 0 = false ∧ runs (cloning 9 none none) 9
      ∧ (cloning 9 (some (zeros 32)) none).cloneable 0 = true ∧ (cloning 9 (some (zeros 32)) none).linkTo 7 = some 0
      ∧ ((cloning 9 (some (zeros 32)) none).takeWords 2).isSome = true ∧ runs (cloning 10 none none) 10
      ∧ (cloning 10 none none).bkd.l0 = none ∧ runs (cloning 10 (some (zeros 32)) none) 10
      ∧ (cloning 10 (some (zeros 32)) none).bkd.l0 ≠ none
      ∧ (cloning 9 (some (zeros 32)) (some (cloneRun true))).blk.clone = some (cloneRun true) ∧ (cloneRun true).source = true
      ∧ (cloneRun true).hs = none ∧ (cloneRun false).source = false
      ∧ (cloning 9 (some (zeros 32)) (some (cloneRun true))).cloneStep ≠ none ∧ (cloneRun true).kclone ≠ none
    ∧ (∀ y ∈ (fab id id).img.replicas, ReplicaWait.runsTo 7 y = false) := by decide +kernel

/-- Obligations.StepTakesTheFrontCommand. -/
theorem witness_StepTakesTheFrontCommand :
    ({ dev with pending := [.bypass] }).pending = [.bypass] ∧ dev.pending = [] := by decide +kernel

/-- Obligations.StepKeepsGood. -/
theorem witness_StepKeepsGood :
    SMap.wf 0 dev.mem.bytes = true ∧ dev.mem.wf = true ∧ dev.rcd.queue.length ≤ 64
      ∧ dev.bkd.logQueue.length ≤ 32 := by decide +kernel

/-- Obligations.ClassNMessagesAreSuspended: the core that may be suspended, where the free number of blocks left is above MINREM. -/
theorem witness_suspended (h : 64 < Config.freshNat 0 % 1001) :
    let s := oneCore (some 0) 3
    s.mostLeft (s.suspendable onePool) = some 0 := by
  have a : (oneCore (some 0) 3).poolStanding .cal onePool = [0] := by decide +kernel
  have b : (oneCore (some 0) 3).blocksLeft 0 = Config.freshNat 0 % 1001 := by rfl
  have c : (oneCore (some 0) 3).cal.minRem = 64 ∧ (oneCore (some 0) 3).runsClassN 0 = true
      ∧ ((oneCore (some 0) 3).inst .cal 0).stack.length < 4 := by decide +kernel
  simp [State.suspendable, State.mostLeft, a, b, c, h]

/-! ## Examples -/

/-! ### Images that are accepted -/

theorem get_writeSlot (b : Bytes) : ∀ (m : SMap Byte) (off k : Nat),
    SMap.get 0 (writeSlot m off b) k = if off ≤ k ∧ k < off + b.length then b[k - off]?.getD 0 else SMap.get 0 m k := by
  suffices h : ∀ (b : Bytes) (i : Nat) (m : SMap Byte) (off k : Nat),
      SMap.get 0 (((List.range' i b.length).zip b).foldl (fun m p => SMap.set 0 m (off + p.1) p.2) m) k
        = if off + i ≤ k ∧ k < off + i + b.length then b[k - (off + i)]?.getD 0 else SMap.get 0 m k by
    intro m off k
    simpa [writeSlot, List.range_eq_range'] using h b 0 m off k
  intro b
  induction b with
  | nil => intro i m off k; simp
  | cons x t ih =>
    intro i m off k
    rw [List.length_cons, List.range'_succ, List.zip_cons_cons, List.foldl_cons, ih]
    by_cases hk : k = off + i
    · subst hk; rw [if_neg (by omega), SMap.get_set_self]; simp
    · rw [SMap.get_set_other _ _ hk]
      by_cases h1 : off + i ≤ k ∧ k < off + i + (t.length + 1)
      · have h2 : off + (i + 1) ≤ k ∧ k < off + (i + 1) + t.length := by omega
        rw [if_pos h1, if_pos h2, show k - (off + i) = (k - (off + (i + 1))) + 1 by omega, List.getElem?_cons_succ]
      · have h2 : ¬(off + (i + 1) ≤ k ∧ k < off + (i + 1) + t.length) := by omega
        rw [if_neg h1, if_neg h2]

/-- A slot that a copy's first bytes are written over reads as those bytes and the rest. -/
theorem slotBytes_writeSlot (a b : Bytes) (n : Nat) (h : n = a.length + b.length) :
    slotBytes (writeSlot (writeSlot [] a.length b) 0 a) n = a ++ b := by
  subst h
  apply List.ext_getElem?
  intro i
  by_cases hi : i < a.length + b.length
  · simp only [slotBytes, List.getElem?_map, List.getElem?_range hi, Option.map_some, get_writeSlot]
    by_cases ha : i < a.length
    · rw [if_pos (by omega), List.getElem?_append_left ha]
      simp [ha]
    · rw [if_neg (by omega), if_pos (by omega), List.getElem?_append_right (Nat.le_of_not_lt ha)]
      simp [show i - a.length < b.length by omega]
  · simp [slotBytes, hi]

/-- An image of KIND 0 and KIND 1 segments of 64 bytes, for every part, up to its signatures. -/
def fwHead : Bytes :=
  let seg (dest kind : Nat) : Bytes := leBytes 4 dest ++ leBytes 4 64 ++ leBytes 4 (kind + 0x100) ++ leBytes 4 0
  leBytes 4 0x57464C43 ++ leBytes 2 1 ++ leBytes 2 0xF ++ leBytes 4 4312 ++ leBytes 4 2 ++ zeros 48
    ++ seg 0x10000000 0 ++ seg 0x10001000 1 ++ zeros 480 ++ zeros 128 ++ leBytes 4 0x4B474953

/-- The image with its signatures. -/
def firmware (sigs : Bytes) : Bytes := fwHead ++ sigs

/-- A field before the signatures. -/
theorem fw_field (x : Bytes) (off n : Nat) (h : off + n ≤ 708) : leAt (firmware x) off n = leAt fwHead off n := by
  have e : fwHead.length = 708 := by decide +kernel
  exact leAt_left _ _ _ _ (by omega)

theorem fw_header (x : Bytes) : leAt (firmware x) 0 4 = 0x57464C43 ∧ leAt (firmware x) 4 2 = 1 ∧ leAt (firmware x) 6 2 = 15
    ∧ leAt (firmware x) 8 4 = 4312 ∧ leAt (firmware x) 0xC 4 = 2 ∧ leAt (firmware x) 704 4 = 0x4B474953 := by
  refine ⟨?_, ?_, ?_, ?_, ?_, ?_⟩ <;> rw [fw_field _ _ _ (by omega)] <;> decide +kernel

theorem fw_segments (x : Bytes) :
    segments (firmware x) = [⟨0x10000000, 64, 0, true, 0, 0x240⟩, ⟨0x10001000, 64, 1, true, 0, 0x280⟩] := by
  have b : leAt (firmware x) 64 4 = 0x10000000 ∧ leAt (firmware x) 68 4 = 64 ∧ leAt (firmware x) 72 1 = 0 ∧ leAt (firmware x) 73 1 = 1
      ∧ leAt (firmware x) 76 4 = 0 := by
    refine ⟨?_, ?_, ?_, ?_, ?_⟩ <;> rw [fw_field _ _ _ (by omega)] <;> decide +kernel
  have d : leAt (firmware x) 80 4 = 0x10001000 ∧ leAt (firmware x) 84 4 = 64 ∧ leAt (firmware x) 88 1 = 1 ∧ leAt (firmware x) 89 1 = 1
      ∧ leAt (firmware x) 92 4 = 0 := by
    refine ⟨?_, ?_, ?_, ?_, ?_⟩ <;> rw [fw_field _ _ _ (by omega)] <;> decide +kernel
  simp [segments, segmentsFrom, fw_header, b, d, pad64, ceilDiv]

/-- Obligations.DownloadsRunInBootAndStartTheCores. -/
theorem witness_firmware (x : Bytes) (hx : x.length = 3604)
    (h : Crypto.ecdsaVerify 0x11 Config.plaoreEc (digestP (firmware x)) (slice (firmware x) (sigOff (firmware x) + 4) 96) = true)
    (m : Crypto.mldsaVerify 0x29 Config.plaoreMl [] (digestP (firmware x)) (slice (firmware x) (sigOff (firmware x) + 100) 3309) = true) :
    firmwareCode .cx640 Otp.blank (firmware x) = 0 := by
  have e : fwHead.length = 708 := by decide +kernel
  have n : (firmware x).length = 4312 := by simp [firmware, e, hx]
  have g : sigOff (firmware x) = 4312 - 3608 := congrArg (· - 3608) (fw_header x).2.2.2.1
  have c : magicOk (firmware x) = true ∧ lengthOk (firmware x) = true ∧ (leAt (firmware x) 6 2).testBit Part.cx640.code = true
      ∧ layoutOk (firmware x) = true ∧ Otp.blank.ownerBit = false := by
    refine ⟨?_, ?_, ?_, ?_, by decide⟩
    · obtain ⟨q0, q1, -, -, -, q5⟩ := fw_header x
      rw [magicOk, g, show 4312 - 3608 = 704 by decide, q0, q1, q5]; decide
    · simp [lengthOk, fw_header, fw_segments, n, pad64, ceilDiv]
    · rw [(fw_header x).2.2.1]; decide
    · simp only [layoutOk, fw_header, fw_segments]; decide
  rw [firmwareCode, c.1, c.2.1, c.2.2.1, c.2.2.2.1, h, m, ownerOk, c.2.2.2.2]
  rfl

/-- The records of a minimal body: the sections 0x01 to 0x05, 0x07 and 0x0B, tenant 0 with one queue pair. -/
def bodyData : List (Nat × Nat × Bytes) :=
  let isl (k : Nat) : Bytes := [BitVec.ofNat 8 k, 1, 0, 0] ++ leBytes 4 (if k = 0 then 0xFFFFFFFF else 0)
  [(0x01, 19, (List.range 19).flatMap isl),
   (0x02, 1, [0, 1, 0, 1] ++ leBytes 2 1 ++ leBytes 2 500 ++ leBytes 2 1 ++ leBytes 2 0 ++ leBytes 4 1),
   (0x03, 1, [2, 0, 0xFF, 0xFF, 0xFF, 0xFF] ++ zeros 10), (0x04, 1, zeros 16 ++ [0, 0, 4, 0, 0, 2, 0, 0]),
   (0x05, 0, []), (0x07, 0, []), (0x0B, 0, [])]

/-- A body laid out from its sections, each at a multiple of 16. -/
def layOut (l : List (Nat × Nat × Bytes)) : Bytes :=
  let pad (b : Bytes) : Bytes := b ++ zeros ((16 - b.length % 16) % 16)
  let dir := l.foldl (fun (x : Bytes × Nat) e =>
    (x.1 ++ [BitVec.ofNat 8 e.1, 1, 0, 0] ++ leBytes 4 x.2 ++ leBytes 4 e.2.2.length ++ leBytes 4 e.2.1, x.2 + (pad e.2.2).length))
    ([], 16 * l.length)
  dir.1 ++ l.flatMap fun e => pad e.2.2

/-- The body, spelt out. -/
def imgBody : Bytes := layOut bodyData

/-- The header of the copy: sequence number 5, challenge zeros, signed by custodians 0 and 1. -/
def imgHead : Bytes :=
  let key := (beBytes 48 (Crypto.sha384 cPub).toNat).take 8
  let sig (i : Byte) (off : Nat) : Bytes := [i, 1, 0, 0] ++ leBytes 4 off ++ key
  leBytes 4 0x434C4453 ++ leBytes 2 1 ++ leBytes 2 0xF ++ leBytes 8 5 ++ leBytes 4 (256 + 336 + 192) ++ leBytes 2 7 ++ leBytes 2 0
    ++ leBytes 4 336 ++ leBytes 4 (crc32c imgBody).toNat ++ leBytes 2 2 ++ leBytes 2 0 ++ leBytes 4 (256 + 336)
    ++ beBytes 48 (Crypto.sha384 imgBody).toNat ++ zeros 32 ++ zeros 8 ++ sig 0 0 ++ sig 1 96 ++ zeros 96

/-- The body and the signatures. -/
def imgRest : Bytes := imgBody ++ (sigImage ++ sigImage)

/-- Custodians 0 and 1 with their keys stored, and a quorum of two. -/
def custody : State := { custs with lcs := { custs.lcs with store := [(0, some (cPub, [])), (1, some (cPub, []))] } }

theorem body_length : imgBody.length = 336 := by decide +kernel

set_option maxRecDepth 200000 in
/-- Its signatures verify. -/
theorem copy_signed (off : Nat) (ho : off = 0 ∨ off = 96) :
    Crypto.ecdsaVerify 0x11 cPub (dImg (imgHead ++ imgRest)) (slice (imgHead ++ imgRest) (592 + off) 96) = true := by
  rcases ho with rfl | rfl <;> decide +kernel

set_option maxRecDepth 20000 in
/-- A copy of that image is valid. -/
theorem copy_valid (s : State) (hp : s.part = .cx640) (hf : s.bkd.seqFloor ≤ 5) (hc : s.bkd.custodians = custody.bkd.custodians)
    (hq : s.bkd.quorum = 2) (hs : s.lcs.store = custody.lcs.store) :
    (validity s (writeSlot (writeSlot [] 256 imgRest) 0 imgHead)).reason = 0 := by
  have hl : imgHead.length = 256 := by rfl
  have hr : imgRest.length = 528 := by rw [imgRest, List.length_append, body_length]; rfl
  have b256 : slotBytes (writeSlot (writeSlot [] 256 imgRest) 0 imgHead) 256 = imgHead := by
    have := slotBytes_writeSlot imgHead imgRest 784 (by rw [hl, hr])
    rw [hl] at this
    have t : slotBytes (writeSlot (writeSlot [] 256 imgRest) 0 imgHead) 256
        = (slotBytes (writeSlot (writeSlot [] 256 imgRest) 0 imgHead) 784).take 256 := by
      simp [slotBytes, ← List.map_take, List.take_range]
    rw [t, this, List.take_left' hl]
  have b784 : slotBytes (writeSlot (writeSlot [] 256 imgRest) 0 imgHead) 784 = imgHead ++ imgRest := by
    have := slotBytes_writeSlot imgHead imgRest 784 (by rw [hl, hr])
    rwa [hl] at this
  have il : imgLength imgHead = 784 := by rfl
  have bl : imgBodyLen imgHead = 336 := by rfl
  have body : slice (imgHead ++ imgRest) 256 336 = imgBody := by
    rw [slice, List.drop_left' hl, imgRest, List.take_left' body_length]
  have k1 : check1 imgHead = true := by rfl
  have k2 : check2 imgHead = true := by rfl
  have k3 : (imgVariant imgHead).testBit Part.cx640.code = true := by rfl
  have k4 : imgSeq imgHead = 5 := by rfl
  have k5 : leAt imgHead 0x1C 4 = (crc32c imgBody).toNat := by
    have e : slice imgHead 0x1C 4 = leBytes 4 (crc32c imgBody).toNat := by rfl
    have r (x : Nat) (h : x < 2 ^ 32) : leNat (leBytes 4 x) = x := by
      simp only [leBytes, leNat, BitVec.toNat_ofNat]; omega
    rw [leAt, e, r _ (crc32c imgBody).isLt]
  have k6 : slice imgHead 0x28 48 = beBytes 48 (Crypto.sha384 imgBody).toNat := by rfl
  have k8 : check8 (imgHead ++ imgRest) imgBody = true := by rfl
  have k9 : check9 .cx640 (imgHead ++ imgRest) imgBody = none := by rfl
  have k7 : quorumMet s (imgHead ++ imgRest) = true := by
    have e : sigEntries (imgHead ++ imgRest) = [⟨0, 1, 0, (sha384Bytes cPub).take 8⟩, ⟨1, 1, 96, (sha384Bytes cPub).take 8⟩] := by
      rfl
    have bl' : imgBodyLen (imgHead ++ imgRest) = 336 := by rfl
    have n (i off : Nat) (hi : i = 0 ∨ i = 1) (ho : off = 0 ∨ off = 96) :
        sigCounts s (imgHead ++ imgRest) ⟨i, 1, off, (sha384Bytes cPub).take 8⟩ = true := by
      have v := copy_signed off ho
      rcases hi with rfl | rfl <;>
        simp [sigCounts, hs, hc, custody, custs, SMap.get, bl', v, sha384Bytes, Custodian.none]
    simp [quorumMet, custodiansOf, e, n, hq]
  simp only [validity, b256, il, b784, bl, body, k1, k2, k3, k4, k5, k6, k7, k8, k9, hp]
  rw [if_neg (by simp), if_neg (by simp), if_neg (by simp), if_neg (by omega), if_neg (by simp), if_neg (by simp), if_neg (by simp), if_neg (by simp)]
  rfl

/-- The copy waits in slot B while slot A is in force. -/
def applying : State := { custody with img := { custody.img with slotB := writeSlot (writeSlot [] 256 imgRest) 0 imgHead } }

set_option maxRecDepth 20000 in
/-- IMAGE_APPLY of Obligations.ImageQueriesAndReplication. -/
theorem witness_apply :
    turn (took custody (req 0 0x0708)) (req 0 0x0708) 0x0708 ∧ custody.img.session = none ∧ custody.lcs.ceremony = none
      ∧ (validity applying (applying.mramSlot true)).reason = 0 ∧ applying.sys.imgSeq < 5 :=
  ⟨by decide +kernel, rfl, rfl, copy_valid applying rfl (by decide) rfl rfl rfl, by decide⟩

/-- A session that has written that copy to slot B, its header held back, with its challenge. -/
def copySession : Session := { seq := 5, length := 784, slotB := true, header := writeSlot [] 0 imgHead, replica := false }
def committing : State :=
  { custody with img := { custody.img with
      slotB := writeSlot [] 256 imgRest, challenge := some { bytes := zeros 32, issued := 0 }, session := some copySession } }

set_option maxRecDepth 20000 in
/-- Its header as it is held. -/
theorem held_header : slotBytes copySession.header 256 = imgHead := by
  have hl : imgHead.length = 256 := by rfl
  have := slotBytes_writeSlot imgHead [] 256 (by rw [hl, List.length_nil])
  simp only [List.append_nil] at this
  exact this

set_option maxRecDepth 20000 in
/-- IMAGE_COMMIT of Obligations.ImageWriteSession. -/
theorem witness_commit :
    committing.img.session = some copySession ∧ committing.img.challenge = some { bytes := zeros 32, issued := 0 }
      ∧ imgSeq (slotBytes copySession.header 256) = copySession.seq
      ∧ imgLength (slotBytes copySession.header 256) = copySession.length
      ∧ slice (slotBytes copySession.header 256) 0x58 32 = zeros 32
      ∧ (validity (committing.setMramSlot true (writeSlot (committing.mramSlot true) 0 (slotBytes copySession.header 256)))
          (writeSlot (committing.mramSlot true) 0 (slotBytes copySession.header 256))).reason = 0 := by
  rw [held_header]
  exact ⟨rfl, rfl, by rfl, by rfl, by rfl, copy_valid _ rfl (by decide) rfl rfl rfl⟩

/-! ### The smoke test of well-formedness: an ill-formed term for each check -/

theorem test_wf_submissions : (req 0 0x0401).wf = true ∧ ({ req 0 0x0401 with src := .host 256 0 0 } : Req).wf = false
    ∧ ({ req 0 0x0401 with src := .host 0 16 0 } : Req).wf = false ∧ ({ req 0 0x0401 with src := .host 0 0 65536 } : Req).wf = false
    ∧ ({ req 0 0x0401 with src := .mailbox 16 0 0 } : Req).wf = false ∧ ({ req 0 0x0401 with src := .mailbox 0 256 0 } : Req).wf = false
    ∧ ({ req 0 0x0401 with src := .mailbox 0 0 3 } : Req).wf = false ∧ ({ req 0 0x0401 with src := .fabric 65536 0 0 } : Req).wf = false
    ∧ (req 0 65536).wf = false ∧ (withOut (req 0 0x0401) (2 ^ 32)).wf = false
    ∧ ({ req 0 0x0401 with input := [1] } : Req).wf = false ∧ ({ req 0 0x0401 with inSgl := [⟨0, 2 ^ 32, 0⟩] } : Req).wf = false
    ∧ ({ req 0 0x0401 with outSgl := [⟨0, 0, 2 ^ 32⟩] } : Req).wf = false
    ∧ (EngSrc.step 4096 0).wf = false ∧ (EngSrc.step 0 32).wf = false ∧ (Initiator.worker 16 .secure).wf = false := by decide +kernel

theorem test_wf_words : (za 64 0 0 0).wf = false ∧ (za 0 64 0 0).wf = false ∧ (za 0 0 64 0).wf = false
    ∧ ({ za 0 0 0 0 with gp := 8 } : ZArgs).wf = false ∧ (ZWord.long { opc := 1024, args := za 0 0 0 0 }).wf = false
    ∧ (ZWord.long { opc := 0, args := za 0 0 0 0x80000000 }).wf = false
    ∧ (ZWord.paired false { opc := 64, args := za 0 0 0 0 } addSlot).wf = false
    ∧ (ZWord.paired false addSlot { addSlot with args := za 0 0 0 8 }).wf = false ∧ ZForm.wf (za 5 1 2 8) (.slotX addSlot) = false
    ∧ ZForm.wf (za 5 1 2 0) (.slotY { opc := 64, args := za 0 0 0 0 }) = false ∧ ZForm.wf (za 5 1 2 0x80000000) .long = false := by
  decide +kernel

theorem test_wf_commands : [Instr.thermalTrip 32 0, .islandRun .secure 19, .dbSqtailWrite 256 0 0, .dbSqtailWrite 0 16 0,
    .imageBegin (req 0 0x0703) (2 ^ 32) 0, .stepDispatch 0 32, .gpEdge 16, .intrusionPinSample 8 true, .railDetect 8 0 0, .railDetect 0 0 1000,
    .dynamicPairTick 4 true, .scrubForce 7, .lightDetect 2304 0, .lightDetect 0 65536, .transactionIntegrityFailure 32 0,
    .storeFault 18, .dapRegisterRead 0 .secure 69, .dapMemoryRead .secure 0 3, .wfe 18 (za 0 0 0 0),
    .lcsDbgenWrite (.worker 16 .secure) 0, .mldsaTr 0 32].all (fun c => !c.wf) = true := by decide +kernel

theorem test_wf_frames : (arrives (fab id id) 0x20 []).wf = true ∧ ({ arrives (fab id id) 0x20 [] with dst := 65536 } : Frame).wf = false
    ∧ ({ arrives (fab id id) 0x20 [] with src := 65536 } : Frame).wf = false ∧ ({ arrives (fab id id) 0x20 [] with ttl := 256 } : Frame).wf = false
    ∧ (arrives (fab id id) 256 []).wf = false ∧ (Instr.replicaAck 0 (arrives (fab id id) 0x31 []) true 256).wf = false
    ∧ (Instr.fwdRsp 0 (arrives (fab id id) 0x21 []) 0 65536 0 0 0 0 []).wf = false := ⟨rfl, rfl, rfl, rfl, rfl, rfl, rfl⟩

/-! ### The spec's worked values -/

/-- Chapter 4: a PAN of 16 digits and its sequence number. -/
def pan : Bytes := [0x10, 0x51, 0x96, 0x07, 0x12, 0x44, 0x88, 0x30, 0x17]
theorem test_pan_format_4 : panExtract 1 pan [] 0 = .data ([0x45, 0x19, 0x60, 0x71, 0x24, 0x48, 0x83, 0x01, 0x70] ++ zeros 7) := by
  decide +kernel
theorem test_pan_format_0 : panExtract 0 pan [] 0 = .data [0x00, 0x00, 0x60, 0x71, 0x24, 0x48, 0x83, 0x01] := by decide +kernel
theorem test_pan_option_a : panExtract 2 pan [0x01] 0 = .data [0x96, 0x07, 0x12, 0x44, 0x88, 0x30, 0x17, 0x01] := by decide +kernel
/-- Chapter 4: the PIN field of step 4 and the format 0 block of step 6. -/
theorem test_pin_parsed : pinbParse 4 [0x46, 0x80, 0x35, 0x27, 0xAA, 0xAA, 0xAA, 0xAA, 0x3C, 0x91, 0xE0, 0x57, 0x2B, 0xD4, 0x6F, 0x18] []
    = .data [0x06, 0x80, 0x35, 0x27, 0xFF, 0xFF, 0xFF] := by decide +kernel
theorem test_pin_built : pinbBuild 0 [0x06, 0x80, 0x35, 0x27, 0xFF, 0xFF, 0xFF] [0x00, 0x00, 0x60, 0x71, 0x24, 0x48, 0x83, 0x01]
    (List.replicate 14 0) [] = .data [0x06, 0x80, 0x55, 0x56, 0xDB, 0xB7, 0x7C, 0xFE] := by decide +kernel
/-- A raw message of one segment. -/
def calMessage (op mode text aad : Nat) (n : Bool) : CalCmd :=
  { op := op, mode := mode, seg := 0, cipher := 0, classN := n, tagLen := 16, lead := 0, aad := aad, trail := 0, text := text,
    chain := none }
/-- R244: T of class N AES CTR and GCM encryptions, and of AES-CMAC over 512 bytes. -/
theorem test_calico_cycles : (calMessage 1 5 16 0 true).cycles 16 = 101 ∧ (calMessage 1 5 1024 0 true).cycles 1024 = 873 ∧ (calMessage 1 6 1024 32 true).cycles (1024 + 32) = 900
      ∧ (calMessage 1 5 65536 0 true).cycles 65536 = 49624 ∧ (calMessage 3 7 512 0 false).cycles 512 = 489 := by decide +kernel
/-- Chapter 8: an ECDSA P-256 signature, and an RSA-2048 PSS signature with e = 65537. -/
theorem test_serge_cycles :
    ({ op := 8, alg := 0x10, scheme := 0, w := 0, p := 0, key := [] } : SrgOp).cycles [] = 57143
      ∧ ({ op := 5, alg := 0x20, scheme := 1, w := 32, p := 0, key := zeros 256 ++ [0, 1, 0, 1] } : SrgOp).cycles [] = 238608 := by
  decide +kernel
/-- Chapter 11: BSWAP of the PAN as it is loaded. -/
theorem test_bswap : bswap 0x1730884412079651 = 0x5196071244883017 := by decide +kernel
/-- Chapter 14: the entry of the LM311 alarm. -/
theorem test_log_entry : ({ ts := 0x1C2F4A10 + 0 * 2 ^ 32, code := 0x0137, param := 0xC029049B, chain := 0 } : LogEntry).bytes.take 12
    = [0x10, 0x4A, 0x2F, 0x1C, 0, 0, 0x37, 0x01, 0x9B, 0x04, 0x29, 0xC0] := by decide +kernel
/-- Chapter 16: the record of the trip of island 6. -/
def tripRecord : Record :=
  { seq := 0x117F0, code := 0x0101, sev := 5, source := 1, fw := false, summary := false, optime := 5000000000, pwrcyc := 0x241C9, p0 := 6, p1 := 11, p2 := 0xC7 }
theorem test_record_words : tripRecord.bytes
    = leBytes 4 0x000117F0 ++ leBytes 4 0x00150101 ++ leBytes 4 0x2A05F200 ++ leBytes 4 1 ++ leBytes 4 0x000241C9 ++ leBytes 4 6
      ++ leBytes 4 11 ++ leBytes 4 0xC7 := by decide +kernel

/-! ### Zynkel words, written out from the encodings of R317 to R321 -/

/-- What a word issues in a core's secure world: its operations, or the trap. -/
def issues (w : W64) : List ZKind ⊕ (Nat × Nat) :=
  match decodeOps false .secure (decodeZWord w) with
  | .ops l => .inl (l.map (·.kind))
  | .fault c l => .inr (c, l)
/-- addi g5, g3, 7; br −1 unless p3; cmplt p1, p2, g8, g9; scall 5; st32 [g2 − 4], g3; mul g1, g2; brk. -/
theorem test_long_words : (decodeZWord 0x2120286000000007 = .long { opc := 0x109, args := za 5 3 0 7 })
    ∧ longKind 0x109 = some .addi
    ∧ decodeZWord 0x021600007FFFFFFF = .long { opc := 0x010, args := { za 0 0 0 0x7FFFFFFF with gn := true, gp := 3 } }
    ∧ longKind 0x010 = some .br ∧ decodeZWord 0x2240890480000000 = .long { opc := 0x112, args := za 0x11 8 9 0 }
    ∧ longKind 0x112 = some .cmplt ∧ decodeZWord 0x0800000000000005 = .long { opc := 0x040, args := za 0 0 0 5 }
    ∧ longKind 0x040 = some .scall ∧ decodeZWord 0x05400041FFFFFFFC = .long { opc := 0x02A, args := za 0 2 3 0x7FFFFFFC }
    ∧ longKind 0x02A = some .st32 ∧ decodeZWord 0x2340002100000000 = .long { opc := 0x11A, args := za 0 1 2 0 }
    ∧ longKind 0x11A = some .mul ∧ decodeZWord 0x08C0000000000000 = .long { opc := 0x046, args := za 0 0 0 0 }
    ∧ longKind 0x046 = some .brk := by decide +kernel
/-- add g4, g1, g2 beside ld64 g6, [g7 + 8]; the undefined slot opcode 0x24; a word with bit 62 set. -/
theorem test_pairs : decodeZWord 0x8101010840030E08
      = .paired false { opc := 0x01, args := za 4 1 2 0 } { opc := 0x20, args := za 6 7 1 0 }
    ∧ shortKind 0x01 = some .add ∧ shortKind 0x20 = some .ld64 ∧ shortKind 0x24 = none
    ∧ issues 0x8101010840030E08 = .inl [.add, .ld64] ∧ issues 0xA400000000000000 = .inr (1, 0) ∧ issues 0xC000000000000000 = .inr (1, 0) := by
  decide +kernel
/-- Chapter 7: J0 of the worked nonce. -/
theorem test_nonce : let s := { dev with bkd := { dev.bkd with pwrcyc := 0x241C9 }, dmk := { dev.dmk with nonceEpoch := 0x137 } }
    (s.nonceBlock 0x1F04 0).take 12 ++ [0, 0, 0, 1] = [0x00, 0x00, 0x01, 0x37, 0x41, 0xC9, 0x00, 0x00, 0x00, 0x00, 0x1F, 0x04, 0, 0, 0, 1] := by
  decide +kernel
/-- R302: the polynomial's terms come back when bit 511 leaves, and a healthy device folds 128 raw bits into 16 a tick. -/
theorem test_conditioner : condClock (1#512 <<< 511) = 0x125#512 ∧ condClock 1#512 = 2#512 ∧ dev.ent.ticksFor 1024 = 64
    ∧ dev.ent.ticksFor 384 = 24 ∧ { dev.ent with legacy := true }.ticksFor 1024 = 128 := by
  decide +kernel
/-- R407, R413: an A3 alarm of an intrusion pin still stands after a restart, one of class A1 of the main domain does not. -/
theorem test_standing_alarms : ((monIn 0x200 { Monitor.rest with standing := some 3 }).mainReset.monitor 0x200).standing = some 3
    ∧ ((monIn 0x300 { Monitor.rest with standing := some 1 }).mainReset.monitor 0x300).standing = none := by
  decide +kernel
/-- Chapter 18: the balls it names of mesh channels, Bilkin links 5 and 20, and port B's USB 2.0 pair. -/
theorem test_balls : [Signal.mesh 0, .mesh 200, .mesh 311, .mesh 447, .bilkin 5 .txp, .bilkin 5 .rxn, .bilkin 20 .txn, .usb4 true .dn].map
      (fun x => x.ball.name) = ["A2", "AP13", "AN13", "E4", "E21", "G22", "Y5", "J25"] := by
  decide +kernel

end Sys2Proof.Tests
end

section
/-! The registers at reset (R9 and the register tables of files 01, 03, 04, 07 to 10, 12 to 14 and 17): which read reaches the
register's own function, SYS_CAP of every part, and the reset values. -/

namespace Sys2Proof.Machine

/-! ## A read that reaches its register -/

/-- A permitted read of a register that is present, other than ENT_DATA0, answers what its block holds there (R3, R15, R390). -/
theorem State.regRead_of_present {s : State} {who : Initiator} {a b off : Nat} (place : blockOf a = some (b, off))
    (permitted : mayRead who b off = true) (present : s.registerPresent b off = true) (notData : ¬(b = 0x0A ∧ off = 0x10)) :
    s.regRead who a = (s.readEffect who b off, some (BitVec.ofNat 32 (s.blockReg who b off))) := by
  simp [State.regRead, place, permitted, present, notData]

theorem mayRead_supervisor (standby : Bool) (b off : Nat) : mayRead (.supervisor standby) b off = true := by
  simp only [mayRead, secureWho]
  split_ifs <;> rfl

/-- The CX640 carries every unit, so that every block exists there; below 0x1000 lie no windows of instances (R3, R18). -/
theorem State.registerPresent_cx640 {s : State} (part : s.part = .cx640) (b : Nat) {off : Nat} (low : off < 0x1000) :
    s.registerPresent b off = true := by
  have noWindow : windowOf off = none := if_neg (Nat.not_le.mpr low)
  unfold State.registerPresent
  cases engineBlock b with
  | none => simp [part, Part.links]
  | some u => cases u <;> simp [part, Part.count, noWindow]

/-! ## SYS_CAP -/

/-- The word that R9 lists for each part. -/
def Part.capWord : Part → W32
  | .cx640 => 0x00410C20#32
  | .cx641 => 0x01010C20#32
  | .cx642 => 0x02108210#32
  | .cx644 => 0x04410420#32

/-- The unit counts of R1, packed as R9 says. -/
theorem Part.cap_eq_capWord (p : Part) : BitVec.ofNat 32 p.cap = p.capWord := by
  cases p <;> rfl

/-- SYS_CAP is readable by all, present on every part, without effect, and depends on the part alone. -/
theorem State.regRead_sysCap (s : State) (who : Initiator) : s.regRead who 0xC0000008 = (s, some s.part.capWord) := by
  have packed : s.regRead who 0xC0000008 = (s, some (BitVec.ofNat 32 s.part.cap)) :=
    State.regRead_of_present (b := 0) (off := 8) rfl rfl rfl (by decide)
  rw [packed, Part.cap_eq_capWord]

/-! ## Reset values -/

theorem State.reset_good : State.reset.Good := ⟨reset_mem_wf, Nat.zero_le 64, Nat.zero_le 32⟩

/-- The address of an offset in a unit block (R15). -/
def regAddr (b off : Nat) : Nat := 0xC0000000 + 65536 * b + off

theorem blockOf_regAddr {b off : Nat} (hb : b < 0x13) (ho : off < 65536) : blockOf (regAddr b off) = some (b, off) := by
  have inside : 0xC0000000 ≤ regAddr b off ∧ regAddr b off < 0xC0130000 := by unfold regAddr; omega
  have block : (regAddr b off - 0xC0000000) / 65536 = b := by unfold regAddr; omega
  have offset : regAddr b off % 65536 = off := by unfold regAddr; omega
  rw [blockOf, if_pos inside, block, offset]

/-- A supervisor's read at reset answers what the block holds. -/
theorem reset_regRead {b off : Nat} (hb : b < 0x13) (ho : off < 0x1000) (notData : ¬(b = 0x0A ∧ off = 0x10)) :
    (State.reset.regRead (.supervisor false) (regAddr b off)).2
      = some (BitVec.ofNat 32 (State.reset.blockReg (.supervisor false) b off)) := by
  rw [State.regRead_of_present (blockOf_regAddr hb (by omega)) (mayRead_supervisor false b off)
    (State.registerPresent_cx640 rfl b ho) notData]

/-- The registers whose tables give a reset value other than zero: block, offset and value. -/
def resetValues : List (Nat × Nat × W32) :=
  [(0x00, 0x04, 0x1), (0x00, 0x20, 0xFA),                                                         -- SYS
   (0x01, 0x18, 0x7FFFF), (0x01, 0x48, 0xBD00C7),                                                 -- PWR
   (0x03, 0x00, 0x7D0),                                                                           -- TEN
   (0x04, 0x08, 0x14),                                                                            -- TWL
   (0x06, 0x18, 0x4032), (0x06, 0x20, 0x3E803C), (0x07, 0x18, 0x80), (0x09, 0x00, 0x10),          -- CAL, SRG, HSH
   (0x0A, 0x00, 0x800000), (0x0A, 0x04, 0x4310), (0x0A, 0x08, 0x64),                              -- ENT
   (0x11, 0x00, 0x44), (0x11, 0x28, 0x19032), (0x11, 0x38, 0xFFFF),                               -- SUPV
   (0x0C, 0x08, 0x3E8E10),                                                                        -- MEM
   (0x0D, 0x08, 0x3E8), (0x0D, 0x18, 0xC2000E), (0x0D, 0x20, 0x200), (0x0D, 0x28, 0x3C),          -- LACE
   (0x10, 0x08, 0x7F), (0x10, 0x0C, 0xFFFF), (0x10, 0x10, 0xA07D0)]                               -- BLK

/-- Each lies in a unit block, below the windows, and is not ENT_DATA0. -/
theorem resetValues_places : ∀ r ∈ resetValues, r.1 < 0x13 ∧ r.2.1 < 0x1000 ∧ ¬(r.1 = 0x0A ∧ r.2.1 = 0x10) := by decide

/-- The parts of the state at reset hold the values that the tables give. -/
theorem blockReg_resetValues :
    ∀ r ∈ resetValues, BitVec.ofNat 32 (State.reset.blockReg (.supervisor false) r.1 r.2.1) = r.2.2 := by decide +kernel

/-- A supervisor reads each value at its register's address. -/
theorem regRead_resetValues : ∀ x ∈ resetValues.map fun r => (regAddr r.1 r.2.1, r.2.2),
    (State.reset.regRead (.supervisor false) x.1).2 = some x.2 := by
  rw [List.forall_mem_map]
  intro r hr
  obtain ⟨hb, ho, notData⟩ := resetValues_places r hr
  rw [reset_regRead hb ho notData, blockReg_resetValues r hr]

/-- Settles O59: SYS_CAP by the packing of each part's unit counts, the reset values by the table of their places. -/
theorem resetIsGoodAndReadsItsRegisters : Obligations.ResetIsGoodAndReadsItsRegisters :=
  ⟨State.regRead_sysCap, State.reset_good, rfl, regRead_resetValues⟩

end Sys2Proof.Machine
end

section
/-! The words of the Zynkel cores (R317–R319). A layout is a row of fields that do not overlap: a field read where it was put is
the value put there, and a field put apart from the bits read leaves them clear. Operand fields, slots and words are read back
by these two rules. -/

namespace Sys2Proof

/-! ## Reading one field of a word -/

theorem testBit_wordField (w : W64) (lo n k : Nat) : (wordField w lo n).testBit k = (decide (k < n) && w.getLsbD (lo + k)) := by
  simp [wordField, Nat.testBit_mod_two_pow, BitVec.testBit_toNat]

theorem wordField_eq_extractLsb' (w : W64) (lo n : Nat) : wordField w lo n = (w.extractLsb' lo n).toNat := by
  rw [wordField, BitVec.toNat_ushiftRight, BitVec.extractLsb'_toNat]

/-- A field read inside a wider one. -/
theorem wordField_add_eq_extractLsb' (w : W64) (lo : Nat) {i n m : Nat} (inside : i + n ≤ m) :
    wordField w (lo + i) n = ((w.extractLsb' lo m).extractLsb' i n).toNat := by
  rw [wordField_eq_extractLsb']
  congr 1
  refine BitVec.eq_of_getLsbD_eq fun k hk => ?_
  have within : i + k < m := by omega
  simp [hk, within, Nat.add_assoc]

theorem wordField_one (w : W64) (lo : Nat) : wordField w lo 1 = if w.getLsbD lo then 1 else 0 := by
  refine Nat.eq_of_testBit_eq fun k => ?_
  rw [testBit_wordField]
  cases k with
  | zero => split_ifs with h <;> simp [h]
  | succ k => split_ifs <;> simp [Nat.testBit_succ]

theorem wordField_one_beq (w : W64) (lo : Nat) : (wordField w lo 1 == 1) = w.getLsbD lo := by
  rw [wordField_one]
  cases w.getLsbD lo <;> rfl

theorem extractLsb'_eq_of_wordField_eq {v w : W64} {lo m : Nat} (agree : wordField v lo m = wordField w lo m) :
    v.extractLsb' lo m = w.extractLsb' lo m :=
  BitVec.eq_of_toNat_eq (by rw [← wordField_eq_extractLsb', ← wordField_eq_extractLsb', agree])

/-- Words that agree on a field agree on every field inside it. -/
theorem wordField_add_congr {v w : W64} {lo m : Nat} (agree : wordField v lo m = wordField w lo m) {i n : Nat} (inside : i + n ≤ m) :
    wordField v (lo + i) n = wordField w (lo + i) n := by
  rw [wordField_add_eq_extractLsb' v lo inside, wordField_add_eq_extractLsb' w lo inside, extractLsb'_eq_of_wordField_eq agree]

/-! ## Where the fields of a decoded word stand -/

theorem fieldArgs_eq (w : W64) (lo rs2 : Nat) (imm : W32) : fieldArgs w lo rs2 imm =
    { gn := w.getLsbD (lo + 15), gp := (w.extractLsb' (lo + 12) 3).toNat, rd := (w.extractLsb' (lo + 6) 6).toNat,
      rs1 := (w.extractLsb' lo 6).toNat, rs2 := rs2, imm := imm } := by
  rw [fieldArgs, wordField_one_beq]
  simp only [wordField_eq_extractLsb']

/-- A slot's operation, by the bits of R319. -/
def slotOf (x : BitVec 31) : ZMate where
  opc := (x.extractLsb' 25 6).toNat
  args := { gn := x.getLsbD 24, gp := (x.extractLsb' 21 3).toNat, rd := (x.extractLsb' 15 6).toNat,
            rs1 := (x.extractLsb' 9 6).toNat, rs2 := (x.extractLsb' 3 6).toNat, imm := (x.extractLsb' 0 3).setWidth 32 }

theorem slotAt_eq_slotOf (w : W64) (lo : Nat) : slotAt w lo = slotOf (w.extractLsb' lo 31) := by
  have field : ∀ {i n : Nat}, i + n ≤ 31 → wordField w (lo + i) n = ((w.extractLsb' lo 31).extractLsb' i n).toNat :=
    wordField_add_eq_extractLsb' w lo
  have spare : wordField w lo 3 = ((w.extractLsb' lo 31).extractLsb' 0 3).toNat := field (i := 0) (by decide)
  have negate : (w.extractLsb' lo 31).getLsbD 24 = w.getLsbD (lo + 24) := by simp
  rw [slotAt, slotOf, fieldArgs, wordField_one_beq, negate, spare]
  simp (disch := omega) only [Nat.add_assoc, Nat.reduceAdd, field, BitVec.ofNat_toNat]

theorem decodeZWord_of_long {w : W64} (long : wordField w 63 1 = 0) :
    decodeZWord w = .long { opc := wordField w 53 10, args := fieldArgs w 37 (wordField w 31 6) (BitVec.ofNat 32 (wordField w 0 31)) } :=
  if_pos long

theorem decodeZWord_of_paired {w : W64} (paired : wordField w 63 1 = 1) :
    decodeZWord w = .paired (wordField w 62 1 == 1) (slotAt w 31) (slotAt w 0) :=
  if_neg (by rw [paired]; decide)

/-! ## Fields put into a word -/

theorem wordField_or (v w : W64) (lo n : Nat) : wordField (v ||| w) lo n = wordField v lo n ||| wordField w lo n := by
  simp only [wordField_eq_extractLsb', BitVec.extractLsb'_or, BitVec.toNat_or]

theorem getLsbD_putField (x lo k : Nat) : (putField x lo).getLsbD k = (decide (k < 64) && decide (lo ≤ k) && x.testBit (k - lo)) := by
  rw [putField, BitVec.getLsbD_shiftLeft, BitVec.getLsbD_ofNat, ← Bool.and_assoc]
  congr 1
  rw [Bool.eq_iff_iff]
  simp only [Bool.and_eq_true, Bool.not_eq_true', decide_eq_true_eq, decide_eq_false_iff_not]
  omega

/-- A value that fits its field is read back. -/
theorem wordField_putField_same {x lo n : Nat} (fits : x < 2 ^ n) (inWord : lo + n ≤ 64) : wordField (putField x lo) lo n = x := by
  refine Nat.eq_of_testBit_eq fun k => ?_
  rw [testBit_wordField, getLsbD_putField]
  by_cases hk : k < n
  · have low : lo + k < 64 := by omega
    simp [hk, low]
  · have beyond : x < 2 ^ k := lt_of_lt_of_le fits (Nat.pow_le_pow_right (by decide) (Nat.not_lt.mp hk))
    simp [hk, Nat.testBit_lt_two_pow beyond]

/-- A field leaves clear what is read below and above it. -/
theorem wordField_putField_apart {x m : Nat} (fits : x < 2 ^ m) {lo l n : Nat} (apart : l + n ≤ lo ∨ lo + m ≤ l) :
    wordField (putField x lo) l n = 0 := by
  refine Nat.eq_of_testBit_eq fun k => ?_
  rw [testBit_wordField, getLsbD_putField, Nat.zero_testBit]
  obtain below | above := apart
  · by_cases hk : k < n
    · have under : ¬ lo ≤ l + k := by omega
      simp [under]
    · simp [hk]
  · have beyond : x < 2 ^ (l + k - lo) := lt_of_lt_of_le fits (Nat.pow_le_pow_right (by decide) (by omega))
    simp [Nat.testBit_lt_two_pow beyond]

theorem bit_lt_two (b : Bool) : (if b then 1 else 0) < 2 ^ 1 := by cases b <;> decide

/-! ## Well-formed operands, slots and operations -/

theorem ZArgs.wf_iff (a : ZArgs) : a.wf = true ↔ a.gp < 2 ^ 3 ∧ a.rd < 2 ^ 6 ∧ a.rs1 < 2 ^ 6 ∧ a.rs2 < 2 ^ 6 := by
  simp [ZArgs.wf, and_assoc]

theorem ZMate.wfSlot_iff (m : ZMate) : m.wfSlot = true ↔ m.opc < 2 ^ 6 ∧ m.args.wf = true ∧ m.args.imm.toNat < 2 ^ 3 := by
  simp [ZMate.wfSlot, and_assoc]

theorem ZMate.wfLong_iff (m : ZMate) : m.wfLong = true ↔ m.opc < 2 ^ 10 ∧ m.args.wf = true ∧ m.args.imm.toNat < 2 ^ 31 := by
  simp [ZMate.wfLong, and_assoc]

/-! ## The operand fields that both layouts share -/

theorem wordField_putArgs_apart {a : ZArgs} (ha : a.wf = true) {lo l n : Nat} (apart : l + n ≤ lo ∨ lo + 16 ≤ l) :
    wordField (putArgs a lo) l n = 0 := by
  obtain ⟨gp, rd, rs1, -⟩ := a.wf_iff.mp ha
  simp (disch := omega) only [putArgs, wordField_or, Nat.or_zero, wordField_putField_apart (bit_lt_two a.gn),
    wordField_putField_apart gp, wordField_putField_apart rd, wordField_putField_apart rs1]

/-- The operand fields depend on their sixteen bits alone. -/
theorem fieldArgs_congr {v w : W64} {lo : Nat} (agree : wordField v lo 16 = wordField w lo 16) (rs2 : Nat) (imm : W32) :
    fieldArgs v lo rs2 imm = fieldArgs w lo rs2 imm := by
  have rs1 : wordField v lo 6 = wordField w lo 6 := wordField_add_congr agree (i := 0) (by decide)
  simp (disch := omega) only [fieldArgs, rs1, wordField_add_congr agree]

theorem fieldArgs_putArgs {a : ZArgs} (ha : a.wf = true) {lo : Nat} (inWord : lo + 16 ≤ 64) :
    fieldArgs (putArgs a lo) lo a.rs2 a.imm = a := by
  obtain ⟨gp, rd, rs1, -⟩ := a.wf_iff.mp ha
  have gn := bit_lt_two a.gn
  have negate : ((if a.gn then 1 else 0) == 1) = a.gn := by cases a.gn <;> rfl
  simp (disch := omega) only [fieldArgs, putArgs, wordField_or, Nat.or_zero, Nat.zero_or, negate,
    wordField_putField_same, wordField_putField_apart gn, wordField_putField_apart gp, wordField_putField_apart rd,
    wordField_putField_apart rs1]

/-! ## The slots of a pair -/

theorem wordField_putSlot_apart {m : ZMate} (hm : m.wfSlot = true) {lo l n : Nat} (apart : l + n ≤ lo ∨ lo + 31 ≤ l) :
    wordField (putSlot m lo) l n = 0 := by
  obtain ⟨opc, args, spare⟩ := m.wfSlot_iff.mp hm
  obtain ⟨-, -, -, rs2⟩ := m.args.wf_iff.mp args
  simp (disch := omega) only [putSlot, wordField_or, Nat.or_zero, wordField_putArgs_apart args,
    wordField_putField_apart opc, wordField_putField_apart rs2, wordField_putField_apart spare]

/-- A slot depends on its 31 bits alone. -/
theorem slotAt_congr {v w : W64} {lo : Nat} (agree : wordField v lo 31 = wordField w lo 31) : slotAt v lo = slotAt w lo := by
  rw [slotAt_eq_slotOf, slotAt_eq_slotOf, extractLsb'_eq_of_wordField_eq agree]

theorem slotAt_putSlot {m : ZMate} (hm : m.wfSlot = true) {lo : Nat} (inWord : lo + 31 ≤ 64) : slotAt (putSlot m lo) lo = m := by
  obtain ⟨opc, args, spare⟩ := m.wfSlot_iff.mp hm
  obtain ⟨-, -, -, rs2⟩ := m.args.wf_iff.mp args
  obtain ⟨opcRead, shared, rs2Read, spareRead⟩ : wordField (putSlot m lo) (lo + 25) 6 = m.opc
      ∧ wordField (putSlot m lo) (lo + 9) 16 = wordField (putArgs m.args (lo + 9)) (lo + 9) 16
      ∧ wordField (putSlot m lo) (lo + 3) 6 = m.args.rs2 ∧ wordField (putSlot m lo) lo 3 = m.args.imm.toNat := by
    simp (disch := omega) only [putSlot, wordField_or, Nat.or_zero, Nat.zero_or, wordField_putField_same,
      wordField_putArgs_apart args, wordField_putField_apart opc, wordField_putField_apart rs2, wordField_putField_apart spare,
      and_self]
  rw [slotAt, opcRead, rs2Read, spareRead, fieldArgs_congr shared, BitVec.ofNat_toNat, BitVec.setWidth_eq,
    fieldArgs_putArgs args (by omega)]

/-! ## Words read back -/

theorem decodeZWord_encodeZWord_long {m : ZMate} (hm : m.wfLong = true) : decodeZWord (encodeZWord (.long m)) = .long m := by
  obtain ⟨opc, args, imm⟩ := m.wfLong_iff.mp hm
  obtain ⟨-, -, -, rs2⟩ := m.args.wf_iff.mp args
  obtain ⟨format, opcRead, shared, rs2Read, immRead⟩ : wordField (encodeZWord (.long m)) 63 1 = 0
      ∧ wordField (encodeZWord (.long m)) 53 10 = m.opc
      ∧ wordField (encodeZWord (.long m)) 37 16 = wordField (putArgs m.args 37) 37 16
      ∧ wordField (encodeZWord (.long m)) 31 6 = m.args.rs2 ∧ wordField (encodeZWord (.long m)) 0 31 = m.args.imm.toNat := by
    simp (disch := omega) only [encodeZWord, wordField_or, Nat.or_zero, Nat.zero_or, wordField_putField_same,
      wordField_putArgs_apart args, wordField_putField_apart opc, wordField_putField_apart rs2, wordField_putField_apart imm,
      and_self]
  rw [decodeZWord_of_long format, opcRead, rs2Read, immRead, fieldArgs_congr shared, BitVec.ofNat_toNat, BitVec.setWidth_eq,
    fieldArgs_putArgs args (by decide)]

theorem decodeZWord_encodeZWord_paired (b : Bool) {x y : ZMate} (hx : x.wfSlot = true) (hy : y.wfSlot = true) :
    decodeZWord (encodeZWord (.paired b x y)) = .paired b x y := by
  have one : 1 < 2 ^ 1 := by decide
  have bit := bit_lt_two b
  obtain ⟨format, bitRead, slotX, slotY⟩ : wordField (encodeZWord (.paired b x y)) 63 1 = 1
      ∧ wordField (encodeZWord (.paired b x y)) 62 1 = (if b then 1 else 0)
      ∧ wordField (encodeZWord (.paired b x y)) 31 31 = wordField (putSlot x 31) 31 31
      ∧ wordField (encodeZWord (.paired b x y)) 0 31 = wordField (putSlot y 0) 0 31 := by
    simp (disch := omega) only [encodeZWord, wordField_or, Nat.or_zero, Nat.zero_or, wordField_putField_same,
      wordField_putField_apart one, wordField_putField_apart bit, wordField_putSlot_apart hx, wordField_putSlot_apart hy,
      and_self]
  rw [decodeZWord_of_paired format, bitRead, slotAt_congr slotX, slotAt_congr slotY, slotAt_putSlot hx (by decide),
    slotAt_putSlot hy (by decide)]
  cases b <;> rfl

theorem decodeZWord_encodeZWord {w : ZWord} (hw : w.wf = true) : decodeZWord (encodeZWord w) = w := by
  cases w with
  | long m => exact decodeZWord_encodeZWord_long hw
  | paired b x y =>
    obtain ⟨hx, hy⟩ : x.wfSlot = true ∧ y.wfSlot = true := by simpa [ZWord.wf] using hw
    exact decodeZWord_encodeZWord_paired b hx hy

/-- Settles O46: each field is read at its bits, and fields put apart do not disturb each other. -/
theorem zynkelWordsKeepTheirFields : Obligations.ZynkelWordsKeepTheirFields := by
  unfold Obligations.ZynkelWordsKeepTheirFields
  refine ⟨fun w => ⟨fun long => ?_, fun paired => ?_⟩, fun w hw => decodeZWord_encodeZWord hw⟩
  · have format : wordField w 63 1 = 0 := by rw [wordField_one, long]; rfl
    rw [decodeZWord_of_long format, fieldArgs_eq, wordField_eq_extractLsb', wordField_eq_extractLsb', wordField_eq_extractLsb',
      BitVec.ofNat_toNat]
  · have format : wordField w 63 1 = 1 := by rw [wordField_one, paired]; rfl
    rw [decodeZWord_of_paired format, wordField_one_beq, slotAt_eq_slotOf, slotAt_eq_slotOf]
    rfl

end Sys2Proof
end

section
/-! Frames as one walks along a definition: from `OnlyIn l s t`, each function of the model applied to `t` again differs from `s` in
`l` alone, where the areas that it writes are in `l`. -/

namespace Sys2Proof.Machine

set_option Elab.async false

@[simp] theorem onlyIn_self (l : List Area) (s : State) : OnlyIn l s s := OnlyIn.refl l s

theorem OnlyIn.step {l k : List Area} {s t u : State} (h : OnlyIn l s t) (g : OnlyIn k t u) (sub : k ⊆ l) : OnlyIn l s u :=
  h.trans (g.mono fun _ ha => sub ha)

/-! What is outside a frame is as it was: one lemma for each area. -/

theorem OnlyIn.part_eq {l : List Area} {s t : State} (h : OnlyIn l s t) (out : .part ∉ l := by simp) : t.part = s.part := h.1 .part out
theorem OnlyIn.sys_eq {l : List Area} {s t : State} (h : OnlyIn l s t) (out : .sys ∉ l := by simp) : t.sys = s.sys := h.1 .sys out
theorem OnlyIn.boot_eq {l : List Area} {s t : State} (h : OnlyIn l s t) (out : .boot ∉ l := by simp) : t.boot = s.boot := h.1 .boot out
theorem OnlyIn.pwr_eq {l : List Area} {s t : State} (h : OnlyIn l s t) (out : .pwr ∉ l := by simp) : t.pwr = s.pwr := h.1 .pwr out
theorem OnlyIn.img_eq {l : List Area} {s t : State} (h : OnlyIn l s t) (out : .img ∉ l := by simp) : t.img = s.img := h.1 .img out
theorem OnlyIn.host_eq {l : List Area} {s t : State} (h : OnlyIn l s t) (out : .host ∉ l := by simp) : t.host = s.host := h.1 .host out
theorem OnlyIn.twl_eq {l : List Area} {s t : State} (h : OnlyIn l s t) (out : .twl ∉ l := by simp) : t.twl = s.twl := h.1 .twl out
theorem OnlyIn.dmk_eq {l : List Area} {s t : State} (h : OnlyIn l s t) (out : .dmk ∉ l := by simp) : t.dmk = s.dmk := h.1 .dmk out
theorem OnlyIn.cal_eq {l : List Area} {s t : State} (h : OnlyIn l s t) (out : .cal ∉ l := by simp) : t.cal = s.cal := h.1 .cal out
theorem OnlyIn.srg_eq {l : List Area} {s t : State} (h : OnlyIn l s t) (out : .srg ∉ l := by simp) : t.srg = s.srg := h.1 .srg out
theorem OnlyIn.tul_eq {l : List Area} {s t : State} (h : OnlyIn l s t) (out : .tul ∉ l := by simp) : t.tul = s.tul := h.1 .tul out
theorem OnlyIn.hsh_eq {l : List Area} {s t : State} (h : OnlyIn l s t) (out : .hsh ∉ l := by simp) : t.hsh = s.hsh := h.1 .hsh out
theorem OnlyIn.ent_eq {l : List Area} {s t : State} (h : OnlyIn l s t) (out : .ent ∉ l := by simp) : t.ent = s.ent := h.1 .ent out
theorem OnlyIn.zyn_eq {l : List Area} {s t : State} (h : OnlyIn l s t) (out : .zyn ∉ l := by simp) : t.zyn = s.zyn := h.1 .zyn out
theorem OnlyIn.supv_eq {l : List Area} {s t : State} (h : OnlyIn l s t) (out : .supv ∉ l := by simp) : t.supv = s.supv := h.1 .supv out
theorem OnlyIn.mem_eq {l : List Area} {s t : State} (h : OnlyIn l s t) (out : .mem ∉ l := by simp) : t.mem = s.mem := h.1 .mem out
theorem OnlyIn.gate_eq {l : List Area} {s t : State} (h : OnlyIn l s t) (out : .gate ∉ l := by simp) : t.gate = s.gate := h.1 .gate out
theorem OnlyIn.lace_eq {l : List Area} {s t : State} (h : OnlyIn l s t) (out : .lace ∉ l := by simp) : t.lace = s.lace := h.1 .lace out
theorem OnlyIn.bkd_eq {l : List Area} {s t : State} (h : OnlyIn l s t) (out : .bkd ∉ l := by simp) : t.bkd = s.bkd := h.1 .bkd out
theorem OnlyIn.lcs_eq {l : List Area} {s t : State} (h : OnlyIn l s t) (out : .lcs ∉ l := by simp) : t.lcs = s.lcs := h.1 .lcs out
theorem OnlyIn.rcd_eq {l : List Area} {s t : State} (h : OnlyIn l s t) (out : .rcd ∉ l := by simp) : t.rcd = s.rcd := h.1 .rcd out
theorem OnlyIn.blk_eq {l : List Area} {s t : State} (h : OnlyIn l s t) (out : .blk ∉ l := by simp) : t.blk = s.blk := h.1 .blk out
theorem OnlyIn.rwp_eq {l : List Area} {s t : State} (h : OnlyIn l s t) (out : .rwp ∉ l := by simp) : t.rwp = s.rwp := h.1 .rwp out
theorem OnlyIn.fresh_eq {l : List Area} {s t : State} (h : OnlyIn l s t) (out : .fresh ∉ l := by simp) : t.fresh = s.fresh := h.1 .fresh out

/-- Replacing parts of the state keeps the frame where the areas of the parts replaced are in it. -/
@[simp] theorem OnlyIn.replace {l : List Area} {s t : State} {sys : Sys} {boot : Boot} {pwr : Pwr} {img : Img} {host : HostSide}
    {twl : Twill} {dmk : Damask} {cal srg tul hsh : Engine} {ent : Entropy} {zyn : Zynkel} {supv : Worlds} {mem : Memory} {gate : Gates}
    {lace : Lace} {bkd : Backup} {lcs : Custody} {rcd : Recorder} {blk : Fabric} {rwp : List RwpWait} {fresh : Nat} (h : OnlyIn l s t)
    (hsys : .sys ∈ l ∨ sys = t.sys) (hboot : .boot ∈ l ∨ boot = t.boot) (hpwr : .pwr ∈ l ∨ pwr = t.pwr) (himg : .img ∈ l ∨ img = t.img)
    (hhost : .host ∈ l ∨ host = t.host) (htwl : .twl ∈ l ∨ twl = t.twl) (hdmk : .dmk ∈ l ∨ dmk = t.dmk) (hcal : .cal ∈ l ∨ cal = t.cal)
    (hsrg : .srg ∈ l ∨ srg = t.srg) (htul : .tul ∈ l ∨ tul = t.tul) (hhsh : .hsh ∈ l ∨ hsh = t.hsh) (hent : .ent ∈ l ∨ ent = t.ent)
    (hzyn : .zyn ∈ l ∨ zyn = t.zyn) (hsupv : .supv ∈ l ∨ supv = t.supv) (hmem : .mem ∈ l ∨ mem = t.mem) (hgate : .gate ∈ l ∨ gate = t.gate)
    (hlace : .lace ∈ l ∨ lace = t.lace) (hbkd : .bkd ∈ l ∨ bkd = t.bkd) (hlcs : .lcs ∈ l ∨ lcs = t.lcs) (hrcd : .rcd ∈ l ∨ rcd = t.rcd)
    (hblk : .blk ∈ l ∨ blk = t.blk) (hrwp : .rwp ∈ l ∨ rwp = t.rwp) (hfresh : .fresh ∈ l ∨ fresh = t.fresh) :
    OnlyIn l s ⟨t.part, sys, boot, pwr, img, host, twl, dmk, cal, srg, tul, hsh, ent, zyn, supv, mem, gate, lace, bkd, lcs, rcd, blk, rwp,
      fresh, t.pending⟩ := by
  refine h.trans ⟨fun a ha => ?_, rfl⟩
  cases a
  case part => rfl
  case sys => exact hsys.resolve_left ha
  case boot => exact hboot.resolve_left ha
  case pwr => exact hpwr.resolve_left ha
  case img => exact himg.resolve_left ha
  case host => exact hhost.resolve_left ha
  case twl => exact htwl.resolve_left ha
  case dmk => exact hdmk.resolve_left ha
  case cal => exact hcal.resolve_left ha
  case srg => exact hsrg.resolve_left ha
  case tul => exact htul.resolve_left ha
  case hsh => exact hhsh.resolve_left ha
  case ent => exact hent.resolve_left ha
  case zyn => exact hzyn.resolve_left ha
  case supv => exact hsupv.resolve_left ha
  case mem => exact hmem.resolve_left ha
  case gate => exact hgate.resolve_left ha
  case lace => exact hlace.resolve_left ha
  case bkd => exact hbkd.resolve_left ha
  case lcs => exact hlcs.resolve_left ha
  case rcd => exact hrcd.resolve_left ha
  case blk => exact hblk.resolve_left ha
  case rwp => exact hrwp.resolve_left ha
  case fresh => exact hfresh.resolve_left ha

@[simp] theorem OnlyIn.fold {α : Type} {l : List Area} {s t : State} (h : OnlyIn l s t) {f : State → α → State}
    (hf : ∀ u x, OnlyIn l u (f u x)) (xs : List α) : OnlyIn l s (xs.foldl f t) :=
  h.trans (OnlyIn.foldl f hf xs t)

@[simp] theorem onlyIn_ite {l : List Area} {s a b : State} {c : Prop} [Decidable c] :
    OnlyIn l s (if c then a else b) ↔ (c → OnlyIn l s a) ∧ (¬ c → OnlyIn l s b) := by split <;> simp [*]

@[simp] theorem OnlyIn.offer {l : List Area} {s t : State} (h : OnlyIn l s t) (code p0 p1 p2 : Nat) (sub : [.rcd] ⊆ l) :
    OnlyIn l s (t.offer code p0 p1 p2) := h.step (offer_frame _ _ _ _ _) sub

@[simp] theorem OnlyIn.offerSev {l : List Area} {s t : State} (h : OnlyIn l s t) (code sev p0 p1 p2 : Nat) (sub : [.rcd] ⊆ l) :
    OnlyIn l s (t.offerSev code sev p0 p1 p2) := h.step (offerSev_frame _ _ _ _ _ _) sub

@[simp] theorem OnlyIn.offerRecord {l : List Area} {s t : State} (h : OnlyIn l s t) (code sev source : Nat) (fw summary : Bool)
    (p0 p1 p2 : Nat) (sub : [.rcd] ⊆ l) : OnlyIn l s (t.offerRecord code sev source fw summary p0 p1 p2) :=
  h.step (offerRecord_frame ..) sub

@[simp] theorem OnlyIn.offerBurst {l : List Area} {s t : State} (h : OnlyIn l s t) (code key p0 p1 : Nat) (sub : [.rcd] ⊆ l) :
    OnlyIn l s (t.offerBurst code key p0 p1) := h.step (offerBurst_frame _ _ _ _ _) sub

@[simp] theorem OnlyIn.logEvent {l : List Area} {s t : State} (h : OnlyIn l s t) (code param : Nat) (sub : [.bkd] ⊆ l) :
    OnlyIn l s (t.logEvent code param) := h.step (logEvent_frame _ _ _) sub

@[simp] theorem OnlyIn.drew {fp : List Area} {s t : State} (h : OnlyIn fp s t) (n : Nat)
    (sub : [.fresh] ⊆ fp) : OnlyIn fp s (t.drew n) := by
  simp only [List.cons_subset, List.nil_subset, and_true] at sub
  unfold State.drew
  simp [h, sub]

@[simp] theorem OnlyIn.skip {fp : List Area} {s t : State} (h : OnlyIn fp s t) (k : Nat)
    (sub : [.fresh] ⊆ fp) : OnlyIn fp s (t.skip k) := by
  simp only [List.cons_subset, List.nil_subset, and_true] at sub
  unfold State.skip
  simp [h, sub]

@[simp] theorem OnlyIn.setLink {fp : List Area} {s t : State} (h : OnlyIn fp s t) (n : Nat) (l : Link)
    (sub : [.blk] ⊆ fp) : OnlyIn fp s (t.setLink n l) := by
  simp only [List.cons_subset, List.nil_subset, and_true] at sub
  unfold State.setLink
  simp [h, sub]

@[simp] theorem OnlyIn.sendAs {fp : List Area} {s t : State} (h : OnlyIn fp s t) (link ftype flags dst src ttl : Nat) (b : Bytes)
    (sub : [.blk] ⊆ fp) : OnlyIn fp s (t.sendAs link ftype flags dst src ttl b) := by
  simp only [List.cons_subset, List.nil_subset, and_true] at sub
  unfold State.sendAs
  dsimp only
  (repeat' split) <;> simp [h, sub]

@[simp] theorem OnlyIn.sendFrame {fp : List Area} {s t : State} (h : OnlyIn fp s t) (link ftype dst : Nat) (b : Bytes)
    (sub : [.blk] ⊆ fp) : OnlyIn fp s (t.sendFrame link ftype dst b) := by
  simp only [List.cons_subset, List.nil_subset, and_true] at sub
  unfold State.sendFrame
  simp [h, sub]

@[simp] theorem OnlyIn.sendTo {fp : List Area} {s t : State} (h : OnlyIn fp s t) (addr ftype : Nat) (b : Bytes)
    (sub : [.blk] ⊆ fp) : OnlyIn fp s (t.sendTo addr ftype b) := by
  simp only [List.cons_subset, List.nil_subset, and_true] at sub
  unfold State.sendTo
  (repeat' split) <;> simp [h, sub]

@[simp] theorem OnlyIn.storeLsa {fp : List Area} {s t : State} (h : OnlyIn fp s t) (l : Lsa)
    (sub : [.blk] ⊆ fp) : OnlyIn fp s (t.storeLsa l) := by
  simp only [List.cons_subset, List.nil_subset, and_true] at sub
  unfold State.storeLsa
  simp [h, sub]

@[simp] theorem OnlyIn.floodLsa {fp : List Area} {s t : State} (h : OnlyIn fp s t) (l : Lsa) (but : Option Nat)
    (sub : [.blk] ⊆ fp) : OnlyIn fp s (t.floodLsa l but) := by
  simp only [List.cons_subset, List.nil_subset, and_true] at sub
  unfold State.floodLsa
  simp [h, sub]

@[simp] theorem OnlyIn.floodOwn {fp : List Area} {s t : State} (h : OnlyIn fp s t) (sub : [.blk] ⊆ fp) : OnlyIn fp s t.floodOwn := by
  simp only [List.cons_subset, List.nil_subset, and_true] at sub
  unfold State.floodOwn
  simp (disch := simp [h, sub])

@[simp] theorem OnlyIn.linkDown {fp : List Area} {s t : State} (h : OnlyIn fp s t) (n cause : Nat)
    (sub : [.ent, .rcd, .blk] ⊆ fp) : OnlyIn fp s (t.linkDown n cause) := by
  simp only [List.cons_subset, List.nil_subset, and_true] at sub
  unfold State.linkDown
  simp (disch := simp [h, sub]) [h]

@[simp] theorem OnlyIn.refreshLink {fp : List Area} {s t : State} (h : OnlyIn fp s t) (n : Nat)
    (sub : [.ent, .rcd, .blk] ⊆ fp) : OnlyIn fp s (t.refreshLink n) := by
  simp only [List.cons_subset, List.nil_subset, and_true] at sub
  unfold State.refreshLink
  simp [h, sub]

@[simp] theorem OnlyIn.refreshLinks {fp : List Area} {s t : State} (h : OnlyIn fp s t)
    (sub : [.ent, .rcd, .blk] ⊆ fp) : OnlyIn fp s t.refreshLinks := by
  simp only [List.cons_subset, List.nil_subset, and_true] at sub
  unfold State.refreshLinks
  simp [h, sub]

@[simp] theorem OnlyIn.setMode {fp : List Area} {s t : State} (h : OnlyIn fp s t) (m : Mode) (cause : Nat)
    (sub : [.sys, .ent, .rcd, .blk] ⊆ fp) : OnlyIn fp s (t.setMode m cause) := by
  simp only [List.cons_subset, List.nil_subset, and_true] at sub
  unfold State.setMode
  simp (disch := simp [h, sub]) [h]

@[simp] theorem OnlyIn.setEngine {fp : List Area} {s t : State} (h : OnlyIn fp s t) (u : EngUnit) (e : Engine)
    (sub : [.cal, .srg, .tul, .hsh] ⊆ fp) : OnlyIn fp s (t.setEngine u e) := by
  simp only [List.cons_subset, List.nil_subset, and_true] at sub
  unfold State.setEngine
  (repeat' split) <;> simp [h, sub]

@[simp] theorem OnlyIn.setInst {fp : List Area} {s t : State} (h : OnlyIn fp s t) (u : EngUnit) (n : Nat) (i : UnitInst)
    (sub : [.cal, .srg, .tul, .hsh] ⊆ fp) : OnlyIn fp s (t.setInst u n i) := by
  simp only [List.cons_subset, List.nil_subset, and_true] at sub
  unfold State.setInst
  simp [h, sub]

@[simp] theorem OnlyIn.afterFence {fp : List Area} {s t : State} (h : OnlyIn fp s t)
    (sub : [.sys, .ent, .rcd, .blk] ⊆ fp) : OnlyIn fp s t.afterFence := by
  simp only [List.cons_subset, List.nil_subset, and_true] at sub
  unfold State.afterFence
  simp [h, sub]

@[simp] theorem OnlyIn.afterTrip {fp : List Area} {s t : State} (h : OnlyIn fp s t)
    (sub : [.sys, .ent, .rcd, .blk] ⊆ fp) : OnlyIn fp s t.afterTrip := by
  simp only [List.cons_subset, List.nil_subset, and_true] at sub
  unfold State.afterTrip
  simp [h, sub]

@[simp] theorem OnlyIn.afterLift {fp : List Area} {s t : State} (h : OnlyIn fp s t)
    (sub : [.sys, .ent, .rcd, .blk] ⊆ fp) : OnlyIn fp s t.afterLift := by
  simp only [List.cons_subset, List.nil_subset, and_true] at sub
  unfold State.afterLift
  simp [h, sub]

@[simp] theorem OnlyIn.setTenant {fp : List Area} {s t : State} (h : OnlyIn fp s t) (t' : Nat) (x : Tenant)
    (sub : [.host] ⊆ fp) : OnlyIn fp s (t.setTenant t' x) := by
  simp only [List.cons_subset, List.nil_subset, and_true] at sub
  unfold State.setTenant
  simp [h, sub]

@[simp] theorem OnlyIn.setQp {fp : List Area} {s t : State} (h : OnlyIn fp s t) (t' q : Nat) (x : QPair)
    (sub : [.host] ⊆ fp) : OnlyIn fp s (t.setQp t' q x) := by
  simp only [List.cons_subset, List.nil_subset, and_true] at sub
  unfold State.setQp
  simp [h, sub]

@[simp] theorem OnlyIn.setPort {fp : List Area} {s t : State} (h : OnlyIn fp s t) (b : Bool) (p : Port)
    (sub : [.host] ⊆ fp) : OnlyIn fp s (t.setPort b p) := by
  simp only [List.cons_subset, List.nil_subset, and_true] at sub
  unfold State.setPort
  simp [h, sub]

@[simp] theorem OnlyIn.signal {fp : List Area} {s t : State} (h : OnlyIn fp s t) (b : Bool) (t' v : Nat)
    (sub : [.host] ⊆ fp) : OnlyIn fp s (t.signal b t' v) := by
  simp only [List.cons_subset, List.nil_subset, and_true] at sub
  unfold State.signal
  simp [h, sub]

@[simp] theorem OnlyIn.countSignal {fp : List Area} {s t : State} (h : OnlyIn fp s t) (t' q : Nat) (noirq : Bool)
    (sub : [.host] ⊆ fp) : OnlyIn fp s (t.countSignal t' q noirq) := by
  simp only [List.cons_subset, List.nil_subset, and_true] at sub
  unfold State.countSignal
  simp [h, sub]

@[simp] theorem OnlyIn.settleQp {fp : List Area} {s t : State} (h : OnlyIn fp s t) (t' q : Nat)
    (sub : [.host] ⊆ fp) : OnlyIn fp s (t.settleQp t' q) := by
  simp only [List.cons_subset, List.nil_subset, and_true] at sub
  unfold State.settleQp
  simp [h, sub]

@[simp] theorem OnlyIn.faultQp {fp : List Area} {s t : State} (h : OnlyIn fp s t) (t' q code : Nat)
    (sub : [.host, .rcd] ⊆ fp) : OnlyIn fp s (t.faultQp t' q code) := by
  simp only [List.cons_subset, List.nil_subset, and_true] at sub
  unfold State.faultQp
  simp (disch := simp (disch := simp [h, sub]) [h, sub]) [h]

@[simp] theorem OnlyIn.countDmaErr {fp : List Area} {s t : State} (h : OnlyIn fp s t) (r : Src)
    (sub : [.host] ⊆ fp) : OnlyIn fp s (t.countDmaErr r) := by
  simp only [List.cons_subset, List.nil_subset, and_true] at sub
  unfold State.countDmaErr
  (repeat' split) <;> simp [h, sub]

@[simp] theorem OnlyIn.discardCompletion {fp : List Area} {s t : State} (h : OnlyIn fp s t)
    (sub : [.host] ⊆ fp) : OnlyIn fp s t.discardCompletion := by
  simp only [List.cons_subset, List.nil_subset, and_true] at sub
  unfold State.discardCompletion
  simp [h, sub]

@[simp] theorem OnlyIn.writeCompletion {fp : List Area} {s t : State} (h : OnlyIn fp s t) (t' q : Nat) (noirq ok : Bool) (c : Completion)
    (sub : [.host, .rcd] ⊆ fp) : OnlyIn fp s (t.writeCompletion t' q noirq ok c) := by
  simp only [List.cons_subset, List.nil_subset, and_true] at sub
  unfold State.writeCompletion
  simp (disch := simp [h, sub])

@[simp] theorem OnlyIn.countRetry {fp : List Area} {s t : State} (h : OnlyIn fp s t) (t' hint : Nat)
    (sub : [.host, .rcd] ⊆ fp) : OnlyIn fp s (t.countRetry t' hint) := by
  simp only [List.cons_subset, List.nil_subset, and_true] at sub
  unfold State.countRetry
  simp [h, sub]

@[simp] theorem OnlyIn.replyFabric {fp : List Area} {s t : State} (h : OnlyIn fp s t) (addr id tenant : Nat) (c : Completion)
    (sub : [.blk] ⊆ fp) : OnlyIn fp s (t.replyFabric addr id tenant c) := by
  simp only [List.cons_subset, List.nil_subset, and_true] at sub
  unfold State.replyFabric
  simp [h, sub]

@[simp] theorem OnlyIn.complete {fp : List Area} {s t : State} (h : OnlyIn fp s t) (r : Req) (status detail reason info outLen : Nat)
    (out : Bytes)
    (sub : [.host, .zyn, .rcd, .blk, .fresh] ⊆ fp) : OnlyIn fp s (t.complete r status detail reason info outLen out) := by
  simp only [List.cons_subset, List.nil_subset, and_true] at sub
  unfold State.complete
  (repeat' split) <;> simp (disch := simp (disch := simp [h, sub]) [h, sub])

@[simp] theorem OnlyIn.refuse {fp : List Area} {s t : State} (h : OnlyIn fp s t) (r : Req) (status detail reason : Nat)
    (sub : [.host, .zyn, .rcd, .blk, .fresh] ⊆ fp) : OnlyIn fp s (t.refuse r status detail reason) := by
  simp only [List.cons_subset, List.nil_subset, and_true] at sub
  unfold State.refuse
  simp [h, sub]

@[simp] theorem OnlyIn.refuseRange {fp : List Area} {s t : State} (h : OnlyIn fp s t) (r : Req) (reason : Nat)
    (sub : [.host, .zyn, .rcd, .blk, .fresh] ⊆ fp) : OnlyIn fp s (t.refuseRange r reason) := by
  simp only [List.cons_subset, List.nil_subset, and_true] at sub
  unfold State.refuseRange
  simp [h, sub]

@[simp] theorem OnlyIn.refuseBuffer {fp : List Area} {s t : State} (h : OnlyIn fp s t) (r : Req)
    (sub : [.host, .zyn, .rcd, .blk, .fresh] ⊆ fp) : OnlyIn fp s (t.refuseBuffer r) := by
  simp only [List.cons_subset, List.nil_subset, and_true] at sub
  unfold State.refuseBuffer
  (repeat' split) <;> simp [h, sub]

@[simp] theorem OnlyIn.answer {fp : List Area} {s t : State} (h : OnlyIn fp s t) (r : Req) (info : Nat) (out : Bytes)
    (sub : [.host, .zyn, .rcd, .blk, .fresh] ⊆ fp) : OnlyIn fp s (t.answer r info out) := by
  simp only [List.cons_subset, List.nil_subset, and_true] at sub
  unfold State.answer
  simp [h, sub]

@[simp] theorem OnlyIn.wipeAreas {fp : List Area} {s t : State} (h : OnlyIn fp s t) (p : EngSrc → Bool)
    (sub : [.mem] ⊆ fp) : OnlyIn fp s (t.wipeAreas p) := by
  simp only [List.cons_subset, List.nil_subset, and_true] at sub
  unfold State.wipeAreas
  simp (disch := simp (disch := simp [h, sub]) [h, sub])

@[simp] theorem OnlyIn.dropJobs {fp : List Area} {s t : State} (h : OnlyIn fp s t) (p : EngSrc → Bool)
    (sub : [.dmk, .cal, .srg, .tul, .hsh, .mem] ⊆ fp) : OnlyIn fp s (t.dropJobs p) := by
  simp only [List.cons_subset, List.nil_subset, and_true] at sub
  unfold State.dropJobs
  simp [h, sub]

@[simp] theorem OnlyIn.setSlot {fp : List Area} {s t : State} (h : OnlyIn fp s t) (n : Nat) (i : Inst)
    (sub : [.twl] ⊆ fp) : OnlyIn fp s (t.setSlot n i) := by
  simp only [List.cons_subset, List.nil_subset, and_true] at sub
  unfold State.setSlot
  simp [h, sub]

@[simp] theorem OnlyIn.abortInst {fp : List Area} {s t : State} (h : OnlyIn fp s t) (n cause : Nat) (step : Option Nat)
    (sub : [.host, .twl, .dmk, .cal, .srg, .tul, .hsh, .zyn, .mem, .rcd, .blk, .fresh] ⊆ fp) :
    OnlyIn fp s (t.abortInst n cause step) := by
  simp only [List.cons_subset, List.nil_subset, and_true] at sub
  unfold State.abortInst
  simp (disch := simp [h, sub]) [h]

@[simp] theorem OnlyIn.abortReq {fp : List Area} {s t : State} (h : OnlyIn fp s t) (r : Req) (cause : Nat)
    (sub : [.host, .dmk, .cal, .srg, .tul, .hsh, .zyn, .mem, .rcd, .blk, .fresh] ⊆ fp) : OnlyIn fp s (t.abortReq r cause) := by
  simp only [List.cons_subset, List.nil_subset, and_true] at sub
  unfold State.abortReq
  simp [h, sub]

@[simp] theorem OnlyIn.abortOne {fp : List Area} {s t : State} (h : OnlyIn fp s t) (cause : Nat) (r : Req)
    (sub : [.host, .twl, .dmk, .cal, .srg, .tul, .hsh, .ent, .zyn, .mem, .rcd, .blk, .fresh] ⊆ fp) :
    OnlyIn fp s (t.abortOne cause r) := by
  simp only [List.cons_subset, List.nil_subset, and_true] at sub
  unfold State.abortOne
  (repeat' split) <;> simp [h, sub]

@[simp] theorem OnlyIn.abortWhere {fp : List Area} {s t : State} (h : OnlyIn fp s t) (p : Req → Bool) (cause : Nat)
    (sub : [.host, .twl, .dmk, .cal, .srg, .tul, .hsh, .ent, .zyn, .mem, .rcd, .blk, .fresh] ⊆ fp) :
    OnlyIn fp s (t.abortWhere p cause) := by
  simp only [List.cons_subset, List.nil_subset, and_true] at sub
  unfold State.abortWhere
  simp [h, sub]

@[simp] theorem OnlyIn.endSession {fp : List Area} {s t : State} (h : OnlyIn fp s t) (sub : [.img] ⊆ fp) : OnlyIn fp s t.endSession := by
  simp only [List.cons_subset, List.nil_subset, and_true] at sub
  unfold State.endSession
  (repeat' split) <;> simp [h, sub]

@[simp] theorem OnlyIn.setDebug {fp : List Area} {s t : State} (h : OnlyIn fp s t) (nni ninv sni sinv : Bool)
    (sub : [.lcs, .rcd] ⊆ fp) : OnlyIn fp s (t.setDebug nni ninv sni sinv) := by
  simp only [List.cons_subset, List.nil_subset, and_true] at sub
  unfold State.setDebug
  simp [h, sub]

@[simp] theorem OnlyIn.dropCeremony {fp : List Area} {s t : State} (h : OnlyIn fp s t)
    (sub : [.lace, .lcs, .blk] ⊆ fp) : OnlyIn fp s t.dropCeremony := by
  simp only [List.cons_subset, List.nil_subset, and_true] at sub
  unfold State.dropCeremony
  simp [h, sub]

@[simp] theorem OnlyIn.lockDamask {fp : List Area} {s t : State} (h : OnlyIn fp s t) (sub : [.dmk] ⊆ fp) : OnlyIn fp s t.lockDamask := by
  simp only [List.cons_subset, List.nil_subset, and_true] at sub
  unfold State.lockDamask
  simp [h, sub]

@[simp] theorem OnlyIn.cutStimulus {fp : List Area} {s t : State} (h : OnlyIn fp s t) (sub : [.lace] ⊆ fp) : OnlyIn fp s t.cutStimulus := by
  simp only [List.cons_subset, List.nil_subset, and_true] at sub
  unfold State.cutStimulus
  (repeat' split) <;> simp [h, sub]

@[simp] theorem OnlyIn.answerWaiting {fp : List Area} {s t : State} (h : OnlyIn fp s t) (status : Nat)
    (sub : [.host, .zyn, .rcd, .blk, .fresh] ⊆ fp) : OnlyIn fp s (t.answerWaiting status) := by
  simp only [List.cons_subset, List.nil_subset, and_true] at sub
  unfold State.answerWaiting
  simp (disch := simp [h, sub])

@[simp] theorem OnlyIn.enterLocked {fp : List Area} {s t : State} (h : OnlyIn fp s t) (cause : Nat)
    (sub : [.sys, .img, .host, .twl, .dmk, .cal, .srg, .tul, .hsh, .ent, .zyn, .mem, .lace, .bkd, .lcs, .rcd, .blk, .fresh] ⊆ fp) :
    OnlyIn fp s (t.enterLocked cause) := by
  simp only [List.cons_subset, List.nil_subset, and_true] at sub
  unfold State.enterLocked
  extract_lets s1 s2
  have cleared : OnlyIn fp s s1 :=
    ((((h.abortWhere _ _ (by simp [sub])).answerWaiting _ (by simp [sub])).lockDamask (by simp [sub])).endSession
      (by simp [sub])).dropCeremony (by simp [sub])
  have entered : OnlyIn fp s s2 := (cleared.setDebug _ _ _ _ (by simp [sub])).setMode _ _ (by simp [sub])
  clear_value s2
  simp [entered, sub]

@[simp] theorem OnlyIn.discardRequest {fp : List Area} {s t : State} (h : OnlyIn fp s t) (v : Nat)
    (sub : [.rcd] ⊆ fp) : OnlyIn fp s (t.discardRequest v) := by
  simp only [List.cons_subset, List.nil_subset, and_true] at sub
  unfold State.discardRequest
  simp [h, sub]

@[simp] theorem OnlyIn.undoRequest {fp : List Area} {s t : State} (h : OnlyIn fp s t) (v : Nat)
    (sub : [.sys, .rcd] ⊆ fp) : OnlyIn fp s (t.undoRequest v) := by
  simp only [List.cons_subset, List.nil_subset, and_true] at sub
  unfold State.undoRequest
  simp [h, sub]

@[simp] theorem OnlyIn.lockSequence {fp : List Area} {s t : State} (h : OnlyIn fp s t) (cause : Nat)
    (sub : [.sys, .img, .host, .twl, .dmk, .cal, .srg, .tul, .hsh, .ent, .zyn, .mem, .lace, .bkd, .lcs, .rcd, .blk, .fresh] ⊆ fp) :
    OnlyIn fp s (t.lockSequence cause) := by
  simp only [List.cons_subset, List.nil_subset, and_true] at sub
  unfold State.lockSequence
  (repeat' split) <;> simp [h, sub]

@[simp] theorem OnlyIn.eraseKeys {fp : List Area} {s t : State} (h : OnlyIn fp s t) (cause : Nat)
    (sub : [.dmk, .bkd, .fresh] ⊆ fp) : OnlyIn fp s (t.eraseKeys cause) := by
  simp only [List.cons_subset, List.nil_subset, and_true] at sub
  unfold State.eraseKeys
  simp [h, sub]

@[simp] theorem OnlyIn.eraseLogged {fp : List Area} {s t : State} (h : OnlyIn fp s t) (cause : Nat)
    (sub : [.dmk, .bkd, .fresh] ⊆ fp) : OnlyIn fp s (t.eraseLogged cause) := by
  simp only [List.cons_subset, List.nil_subset, and_true] at sub
  unfold State.eraseLogged
  simp [h, sub]

@[simp] theorem OnlyIn.setMonitor {fp : List Area} {s t : State} (h : OnlyIn fp s t) (mon : Nat) (m : Monitor)
    (sub : [.lace] ⊆ fp) : OnlyIn fp s (t.setMonitor mon m) := by
  simp only [List.cons_subset, List.nil_subset, and_true] at sub
  unfold State.setMonitor
  simp [h, sub]

@[simp] theorem OnlyIn.noteAlarm {fp : List Area} {s t : State} (h : OnlyIn fp s t) (mon cls data : Nat) (stim : Bool)
    (sub : [.sys, .lace, .bkd, .rcd] ⊆ fp) : OnlyIn fp s (t.noteAlarm mon cls data stim) := by
  simp only [List.cons_subset, List.nil_subset, and_true] at sub
  unfold State.noteAlarm
  simp (disch := simp [h, sub])

@[simp] theorem OnlyIn.classAction {fp : List Area} {s t : State} (h : OnlyIn fp s t) (cls : Nat)
    (sub : [.sys, .img, .host, .twl, .dmk, .cal, .srg, .tul, .hsh, .ent, .zyn, .mem, .lace, .bkd, .lcs, .rcd, .blk, .fresh] ⊆ fp) :
    OnlyIn fp s (t.classAction cls) := by
  simp only [List.cons_subset, List.nil_subset, and_true] at sub
  unfold State.classAction
  simp (disch := simp [h, sub]) [h]

@[simp] theorem OnlyIn.raiseAlarm {fp : List Area} {s t : State} (h : OnlyIn fp s t) (mon data : Nat) (stim : Bool)
    (sub : [.sys, .img, .host, .twl, .dmk, .cal, .srg, .tul, .hsh, .ent, .zyn, .mem, .lace, .bkd, .lcs, .rcd, .blk, .fresh] ⊆ fp) :
    OnlyIn fp s (t.raiseAlarm mon data stim) := by
  simp only [List.cons_subset, List.nil_subset, and_true] at sub
  unfold State.raiseAlarm
  simp [h, sub]

@[simp] theorem OnlyIn.calm {fp : List Area} {s t : State} (h : OnlyIn fp s t) (mon : Nat)
    (sub : [.lace] ⊆ fp) : OnlyIn fp s (t.calm mon) := by
  simp only [List.cons_subset, List.nil_subset, and_true] at sub
  unfold State.calm
  simp [h, sub]

@[simp] theorem OnlyIn.reinitBackup {fp : List Area} {s t : State} (h : OnlyIn fp s t)
    (sub : [.sys, .lace, .bkd, .fresh] ⊆ fp) : OnlyIn fp s t.reinitBackup := by
  simp only [List.cons_subset, List.nil_subset, and_true] at sub
  unfold State.reinitBackup
  simp [h, sub]

@[simp] theorem OnlyIn.clearCustody {fp : List Area} {s t : State} (h : OnlyIn fp s t)
    (sub : [.lace, .bkd, .lcs] ⊆ fp) : OnlyIn fp s t.clearCustody := by
  simp only [List.cons_subset, List.nil_subset, and_true] at sub
  unfold State.clearCustody
  simp [h, sub]

@[simp] theorem OnlyIn.transitionStore {fp : List Area} {s t : State} (h : OnlyIn fp s t) (tgt : Nat)
    (sub : [.img, .dmk, .bkd] ⊆ fp) : OnlyIn fp s (t.transitionStore tgt) := by
  simp only [List.cons_subset, List.nil_subset, and_true] at sub
  unfold State.transitionStore
  simp [h, sub]

@[simp] theorem OnlyIn.enterLoad {fp : List Area} {s t : State} (h : OnlyIn fp s t) (cause : Nat)
    (sub : [.sys, .boot, .pwr, .ent, .rcd, .blk] ⊆ fp) : OnlyIn fp s (t.enterLoad cause) := by
  simp only [List.cons_subset, List.nil_subset, and_true] at sub
  unfold State.enterLoad
  simp [h, sub]

@[simp] theorem OnlyIn.noteUncorrectable {fp : List Area} {s t : State} (h : OnlyIn fp s t) (a source master : Nat)
    (sub : [.mem, .rcd] ⊆ fp) : OnlyIn fp s (t.noteUncorrectable a source master) := by
  simp only [List.cons_subset, List.nil_subset, and_true] at sub
  unfold State.noteUncorrectable
  simp [h, sub]

@[simp] theorem OnlyIn.reject {fp : List Area} {s t : State} (h : OnlyIn fp s t) (r : Req) (x : Rej)
    (sub : [.host, .zyn, .rcd, .blk, .fresh] ⊆ fp) : OnlyIn fp s (t.reject r x) := by
  simp only [List.cons_subset, List.nil_subset, and_true] at sub
  unfold State.reject
  simp [h, sub]

@[simp] theorem OnlyIn.setCtx {fp : List Area} {s t : State} (h : OnlyIn fp s t) (c : Nat) (x : Ctx)
    (sub : [.dmk] ⊆ fp) : OnlyIn fp s (t.setCtx c x) := by
  simp only [List.cons_subset, List.nil_subset, and_true] at sub
  unfold State.setCtx
  simp [h, sub]

@[simp] theorem OnlyIn.dropCached {fp : List Area} {s t : State} (h : OnlyIn fp s t) (p : KeyTag → Bool)
    (sub : [.dmk] ⊆ fp) : OnlyIn fp s (t.dropCached p) := by
  simp only [List.cons_subset, List.nil_subset, and_true] at sub
  unfold State.dropCached
  simp [h, sub]

@[simp] theorem OnlyIn.derived {fp : List Area} {s t : State} (h : OnlyIn fp s t) (t' parent : Nat)
    (sub : [.dmk] ⊆ fp) : OnlyIn fp s (t.derived t' parent) := by
  simp only [List.cons_subset, List.nil_subset, and_true] at sub
  unfold State.derived
  simp [h, sub]

@[simp] theorem OnlyIn.setCtxs {fp : List Area} {s t : State} (h : OnlyIn fp s t) (l : List (Nat × Ctx))
    (sub : [.dmk] ⊆ fp) : OnlyIn fp s (t.setCtxs l) := by
  simp only [List.cons_subset, List.nil_subset, and_true] at sub
  unfold State.setCtxs
  simp [h, sub]

@[simp] theorem OnlyIn.wipeLeaf {fp : List Area} {s t : State} (h : OnlyIn fp s t) (c : Nat)
    (sub : [.dmk] ⊆ fp) : OnlyIn fp s (t.wipeLeaf c) := by
  simp only [List.cons_subset, List.nil_subset, and_true] at sub
  unfold State.wipeLeaf
  (repeat' split) <;> simp [h, sub]

@[simp] theorem OnlyIn.nextNonceEpoch {fp : List Area} {s t : State} (h : OnlyIn fp s t)
    (sub : [.dmk] ⊆ fp) : OnlyIn fp s t.nextNonceEpoch := by
  simp only [List.cons_subset, List.nil_subset, and_true] at sub
  unfold State.nextNonceEpoch
  simp [h, sub]

@[simp] theorem OnlyIn.recolourUnits {fp : List Area} {s t : State} (h : OnlyIn fp s t) (us : List Nat)
    (sub : [.gate, .fresh] ⊆ fp) : OnlyIn fp s (t.recolourUnits us) := by
  simp only [List.cons_subset, List.nil_subset, and_true] at sub
  unfold State.recolourUnits
  simp [h, sub]

@[simp] theorem OnlyIn.dropWrite {fp : List Area} {s t : State} (h : OnlyIn fp s t) (who : Initiator)
    (sub : [.supv, .gate] ⊆ fp) : OnlyIn fp s (t.dropWrite who) := by
  simp only [List.cons_subset, List.nil_subset, and_true] at sub
  unfold State.dropWrite
  (repeat' split) <;> simp [h, sub]

@[simp] theorem OnlyIn.endUnserved {fp : List Area} {s t : State} (h : OnlyIn fp s t) (j : Job)
    (sub : [.host, .twl, .dmk, .cal, .srg, .tul, .hsh, .zyn, .mem, .rcd, .blk, .fresh] ⊆ fp) : OnlyIn fp s (t.endUnserved j) := by
  simp only [List.cons_subset, List.nil_subset, and_true] at sub
  unfold State.endUnserved
  (repeat' split) <;> simp (disch := simp (disch := simp [h, sub]) [h, sub]) [h]

@[simp] theorem OnlyIn.endUnservedAll {fp : List Area} {s t : State} (h : OnlyIn fp s t)
    (sub : [.host, .twl, .dmk, .cal, .srg, .tul, .hsh, .zyn, .mem, .rcd, .blk, .fresh] ⊆ fp) : OnlyIn fp s t.endUnservedAll :=
  h.fold (fun u _ => (OnlyIn.refl _ u).fold (fun v j => (OnlyIn.refl _ v).endUnserved j sub) _) _

@[simp] theorem OnlyIn.setGres {fp : List Area} {s t : State} (h : OnlyIn fp s t) (w : World) (g : GateRes)
    (sub : [.pwr] ⊆ fp) : OnlyIn fp s (t.setGres w g) := by
  simp only [List.cons_subset, List.nil_subset, and_true] at sub
  unfold State.setGres
  (repeat' split) <;> simp [h, sub]

@[simp] theorem OnlyIn.finishGate {fp : List Area} {s t : State} (h : OnlyIn fp s t) (g : GateReq) (status : Nat)
    (sub : [.pwr] ⊆ fp) : OnlyIn fp s (t.finishGate g status) := by
  simp only [List.cons_subset, List.nil_subset, and_true] at sub
  unfold State.finishGate
  simp [h, sub]

@[simp] theorem OnlyIn.runIsland {fp : List Area} {s t : State} (h : OnlyIn fp s t) (isl : Nat)
    (sub : [.pwr, .ent, .rcd, .blk] ⊆ fp) : OnlyIn fp s (t.runIsland isl) := by
  simp only [List.cons_subset, List.nil_subset, and_true] at sub
  unfold State.runIsland
  simp [h, sub]

@[simp] theorem OnlyIn.serveGate {fp : List Area} {s t : State} (h : OnlyIn fp s t) (g : GateReq)
    (sub : [.pwr, .ent, .rcd, .blk] ⊆ fp) : OnlyIn fp s (t.serveGate g) := by
  simp only [List.cons_subset, List.nil_subset, and_true] at sub
  unfold State.serveGate
  simp [h, sub]

@[simp] theorem OnlyIn.serveGates {fp : List Area} {s t : State} (h : OnlyIn fp s t) (w : World) (fuel : Nat)
    (sub : [.pwr, .ent, .rcd, .blk] ⊆ fp) : OnlyIn fp s (State.serveGates w fuel t) := by
  induction fuel generalizing t with
  | zero => exact h
  | succ fuel ih =>
    unfold State.serveGates
    split
    · exact h
    · dsimp only
      split
      · exact h.serveGate _ sub
      · exact ih (h.serveGate _ sub)

@[simp] theorem OnlyIn.gateRequest {fp : List Area} {s t : State} (h : OnlyIn fp s t) (g : GateReq)
    (sub : [.pwr, .ent, .rcd, .blk] ⊆ fp) : OnlyIn fp s (t.gateRequest g) := by
  simp only [List.cons_subset, List.nil_subset, and_true] at sub
  unfold State.gateRequest
  simp [h, sub]

@[simp] theorem OnlyIn.abortJob {fp : List Area} {s t : State} (h : OnlyIn fp s t) (cause : Nat) (j : Job)
    (sub : [.host, .twl, .dmk, .cal, .srg, .tul, .hsh, .ent, .zyn, .mem, .rcd, .blk, .fresh] ⊆ fp) :
    OnlyIn fp s (t.abortJob cause j) := by
  simp only [List.cons_subset, List.nil_subset, and_true] at sub
  unfold State.abortJob
  (repeat' split) <;> simp [h, sub]

@[simp] theorem OnlyIn.abortIsland {fp : List Area} {s t : State} (h : OnlyIn fp s t) (isl cause : Nat)
    (sub : [.host, .twl, .dmk, .cal, .srg, .tul, .hsh, .ent, .zyn, .mem, .rcd, .blk, .fresh] ⊆ fp) :
    OnlyIn fp s (t.abortIsland isl cause) := by
  simp only [List.cons_subset, List.nil_subset, and_true] at sub
  unfold State.abortIsland
  (repeat' split) <;> simp (disch := simp (disch := simp [h, sub]) [h, sub])

@[simp] theorem OnlyIn.wipeIsland {fp : List Area} {s t : State} (h : OnlyIn fp s t) (isl : Nat)
    (sub : [.zyn, .mem] ⊆ fp) : OnlyIn fp s (t.wipeIsland isl) := by
  simp only [List.cons_subset, List.nil_subset, and_true] at sub
  unfold State.wipeIsland
  simp [h, sub]

@[simp] theorem OnlyIn.clearIsland {fp : List Area} {s t : State} (h : OnlyIn fp s t) (isl : Nat)
    (sub : [.host, .twl, .dmk, .cal, .srg, .tul, .hsh, .ent, .zyn, .mem, .rcd, .blk, .fresh] ⊆ fp) :
    OnlyIn fp s (t.clearIsland isl) := by
  simp only [List.cons_subset, List.nil_subset, and_true] at sub
  unfold State.clearIsland
  simp [h, sub]

@[simp] theorem OnlyIn.consume {fp : List Area} {s t : State} (h : OnlyIn fp s t) (r : Req)
    (sub : [.host, .zyn] ⊆ fp) : OnlyIn fp s (t.consume r) := by
  simp only [List.cons_subset, List.nil_subset, and_true] at sub
  unfold State.consume
  (repeat' split) <;> simp [h, sub]

@[simp] theorem OnlyIn.disableQp {fp : List Area} {s t : State} (h : OnlyIn fp s t) (t' q : Nat)
    (sub : [.host] ⊆ fp) : OnlyIn fp s (t.disableQp t' q) := by
  simp only [List.cons_subset, List.nil_subset, and_true] at sub
  unfold State.disableQp
  simp [h, sub]

@[simp] theorem OnlyIn.blockRecord {fp : List Area} {s t : State} (h : OnlyIn fp s t)
    (sub : [.rcd, .fresh] ⊆ fp) : OnlyIn fp s t.blockRecord := by
  simp only [List.cons_subset, List.nil_subset, and_true] at sub
  unfold State.blockRecord
  simp [h, sub]

@[simp] theorem OnlyIn.admitFor {fp : List Area} {s t : State} (h : OnlyIn fp s t) (r : Req) (charge : Nat)
    (sub : [.host, .zyn] ⊆ fp) : OnlyIn fp s (t.admitFor r charge) := by
  simp only [List.cons_subset, List.nil_subset, and_true] at sub
  unfold State.admitFor
  simp [h, sub]

@[simp] theorem OnlyIn.admitCmd {fp : List Area} {s t : State} (h : OnlyIn fp s t) (r : Req)
    (sub : [.host, .zyn] ⊆ fp) : OnlyIn fp s (t.admitCmd r) := by
  simp only [List.cons_subset, List.nil_subset, and_true] at sub
  unfold State.admitCmd
  simp [h, sub]

@[simp] theorem OnlyIn.stallFor {fp : List Area} {s t : State} (h : OnlyIn fp s t) (c : Consumer)
    (sub : [.ent] ⊆ fp) : OnlyIn fp s (t.stallFor c) := by
  simp only [List.cons_subset, List.nil_subset, and_true] at sub
  unfold State.stallFor
  simp [h, sub]

@[simp] theorem OnlyIn.faultEvent {fp : List Area} {s t : State} (h : OnlyIn fp s t) (k n : Nat)
    (sub : [.sys, .img, .host, .twl, .dmk, .cal, .srg, .tul, .hsh, .ent, .zyn, .mem, .lace, .bkd, .lcs, .rcd, .blk, .fresh] ⊆ fp) :
    OnlyIn fp s (t.faultEvent k n) := by
  simp only [List.cons_subset, List.nil_subset, and_true] at sub
  unfold State.faultEvent
  simp [h, sub]

@[simp] theorem OnlyIn.noteHealth {fp : List Area} {s t : State} (h : OnlyIn fp s t) (stream test count : Nat)
    (sub : [.ent, .rcd] ⊆ fp) : OnlyIn fp s (t.noteHealth stream test count) := by
  simp only [List.cons_subset, List.nil_subset, and_true] at sub
  unfold State.noteHealth
  simp [h, sub]

@[simp] theorem OnlyIn.failEntropy {fp : List Area} {s t : State} (h : OnlyIn fp s t) (sub : [.ent] ⊆ fp) : OnlyIn fp s t.failEntropy := by
  simp only [List.cons_subset, List.nil_subset, and_true] at sub
  unfold State.failEntropy
  simp [h, sub]

@[simp] theorem OnlyIn.checkAdapter {fp : List Area} {s t : State} (h : OnlyIn fp s t)
    (sub : [.host] ⊆ fp) : OnlyIn fp s t.checkAdapter := by
  simp only [List.cons_subset, List.nil_subset, and_true] at sub
  unfold State.checkAdapter
  simp [h, sub]

@[simp] theorem OnlyIn.wipeUnits {fp : List Area} {s t : State} (h : OnlyIn fp s t) (us : List Nat)
    (sub : [.dmk, .mem] ⊆ fp) : OnlyIn fp s (t.wipeUnits us) := by
  simp only [List.cons_subset, List.nil_subset, and_true] at sub
  unfold State.wipeUnits
  simp [h, sub]

@[simp] theorem OnlyIn.cacheRoot {fp : List Area} {s t : State} (h : OnlyIn fp s t) (t' : Nat)
    (sub : [.dmk] ⊆ fp) : OnlyIn fp s (t.cacheRoot t') := by
  simp only [List.cons_subset, List.nil_subset, and_true] at sub
  unfold State.cacheRoot
  simp [h, sub]

@[simp] theorem OnlyIn.releaseKstates {fp : List Area} {s t : State} (h : OnlyIn fp s t) (us : List Nat)
    (sub : [.dmk] ⊆ fp) : OnlyIn fp s (t.releaseKstates us) := by
  simp only [List.cons_subset, List.nil_subset, and_true] at sub
  unfold State.releaseKstates
  simp [h, sub]

@[simp] theorem OnlyIn.noteStoredKeys {fp : List Area} {s t : State} (h : OnlyIn fp s t) (slot : SMap Byte) (v : Verdict)
    (sub : [.rcd] ⊆ fp) : OnlyIn fp s (t.noteStoredKeys slot v) := by
  simp only [List.cons_subset, List.nil_subset, and_true] at sub
  unfold State.noteStoredKeys
  simp [h, sub]

@[simp] theorem OnlyIn.setMramSlot {fp : List Area} {s t : State} (h : OnlyIn fp s t) (b : Bool) (m : SMap Byte)
    (sub : [.img] ⊆ fp) : OnlyIn fp s (t.setMramSlot b m) := by
  simp only [List.cons_subset, List.nil_subset, and_true] at sub
  unfold State.setMramSlot
  simp [h, sub]

@[simp] theorem OnlyIn.sessionData {fp : List Area} {s t : State} (h : OnlyIn fp s t) (x : Session) (off : Nat) (b : Bytes)
    (sub : [.img] ⊆ fp) : OnlyIn fp s (t.sessionData x off b) := by
  simp only [List.cons_subset, List.nil_subset, and_true] at sub
  unfold State.sessionData
  simp [h, sub]

@[simp] theorem OnlyIn.onReplica {fp : List Area} {s t : State} (h : OnlyIn fp s t) (p : ReplicaWait → Bool)
    (f : ReplicaWait → List ReplicaWait)
    (sub : [.img] ⊆ fp) : OnlyIn fp s (t.onReplica p f) := by
  simp only [List.cons_subset, List.nil_subset, and_true] at sub
  unfold State.onReplica
  simp [h, sub]

@[simp] theorem OnlyIn.dropWaiting {fp : List Area} {s t : State} (h : OnlyIn fp s t) (u : EngUnit) (x : EngSrc)
    (sub : [.cal, .srg, .tul, .hsh] ⊆ fp) : OnlyIn fp s (t.dropWaiting u x) := by
  simp only [List.cons_subset, List.nil_subset, and_true] at sub
  unfold State.dropWaiting
  simp [h, sub]

@[simp] theorem OnlyIn.setPoolUse {fp : List Area} {s t : State} (h : OnlyIn fp s t) (p : PoolRec) (x : PoolUse)
    (sub : [.twl] ⊆ fp) : OnlyIn fp s (t.setPoolUse p x) := by
  simp only [List.cons_subset, List.nil_subset, and_true] at sub
  unfold State.setPoolUse
  simp [h, sub]

@[simp] theorem OnlyIn.settlePeriod {fp : List Area} {s t : State} (h : OnlyIn fp s t) (u : EngUnit) (p : PoolRec)
    (sub : [.twl] ⊆ fp) : OnlyIn fp s (t.settlePeriod u p) := by
  simp only [List.cons_subset, List.nil_subset, and_true] at sub
  unfold State.settlePeriod
  simp [h, sub]

@[simp] theorem OnlyIn.noteRefusal {fp : List Area} {s t : State} (h : OnlyIn fp s t) (u : EngUnit) (x : Rej)
    (sub : [.cal, .srg, .tul, .hsh] ⊆ fp) : OnlyIn fp s (t.noteRefusal u x) := by
  simp only [List.cons_subset, List.nil_subset, and_true] at sub
  unfold State.noteRefusal
  simp [h, sub]

@[simp] theorem OnlyIn.stallJob {fp : List Area} {s t : State} (h : OnlyIn fp s t) (e : EngSrc)
    (sub : [.twl, .ent] ⊆ fp) : OnlyIn fp s (t.stallJob e) := by
  simp only [List.cons_subset, List.nil_subset, and_true] at sub
  unfold State.stallJob
  (repeat' split) <;> simp [h, sub]

@[simp] theorem OnlyIn.markCore {fp : List Area} {s t : State} (h : OnlyIn fp s t) (n : Nat) (x2 : Option Nat)
    (sub : [.dmk] ⊆ fp) : OnlyIn fp s (t.markCore n x2) := by
  simp only [List.cons_subset, List.nil_subset, and_true] at sub
  unfold State.markCore
  (repeat' split) <;> simp [h, sub]

@[simp] theorem OnlyIn.markHeld {fp : List Area} {s t : State} (h : OnlyIn fp s t) (u : EngUnit) (n : Nat) (j : Job)
    (sub : [.twl] ⊆ fp) : OnlyIn fp s (t.markHeld u n j) := by
  simp only [List.cons_subset, List.nil_subset, and_true] at sub
  unfold State.markHeld
  (repeat' split) <;> simp [h, sub]

@[simp] theorem OnlyIn.occupy {fp : List Area} {s t : State} (h : OnlyIn fp s t) (u : EngUnit) (n : Nat) (j : Job) (w : Work)
    (sub : [.twl, .dmk, .cal, .srg, .tul, .hsh, .fresh] ⊆ fp) : OnlyIn fp s (t.occupy u n j w) := by
  simp only [List.cons_subset, List.nil_subset, and_true] at sub
  exact (((((h.dropWaiting u j.src (by simp [sub])).setInst u n _ (by simp [sub])).markCore n _ (by simp [sub])).markHeld u n j
    (by simp [sub])).setEngine u _ (by simp [sub])).skip 1 (by simp [sub])

@[simp] theorem OnlyIn.stallWaiting {fp : List Area} {s t : State} (h : OnlyIn fp s t) (u : EngUnit) (sub : [.ent] ⊆ fp) :
    OnlyIn fp s (t.stallWaiting u) := by
  refine h.fold (fun v j => ?_) _
  split
  · split
    · exact (OnlyIn.refl _ v).stallFor _ sub
    · exact OnlyIn.refl _ v
  · exact OnlyIn.refl _ v

@[simp] theorem OnlyIn.deliverStep {fp : List Area} {s t : State} (h : OnlyIn fp s t) (n k : Nat) (o : StepOut)
    (sub : [.twl] ⊆ fp) : OnlyIn fp s (t.deliverStep n k o) := by
  simp only [List.cons_subset, List.nil_subset, and_true] at sub
  unfold State.deliverStep
  simp [h, sub]

@[simp] theorem OnlyIn.setChannel {fp : List Area} {s t : State} (h : OnlyIn fp s t) (ch : Nat) (c : Channel)
    (sub : [.lace] ⊆ fp) : OnlyIn fp s (t.setChannel ch c) := by
  simp only [List.cons_subset, List.nil_subset, and_true] at sub
  unfold State.setChannel
  simp [h, sub]

@[simp] theorem OnlyIn.setPins {fp : List Area} {s t : State} (h : OnlyIn fp s t) (v : BitVec 16)
    (sub : [.lace, .bkd] ⊆ fp) : OnlyIn fp s (t.setPins v) := by
  simp only [List.cons_subset, List.nil_subset, and_true] at sub
  unfold State.setPins
  simp (disch := simp [h, sub]) [h]

@[simp] theorem OnlyIn.startStimulus {fp : List Area} {s t : State} (h : OnlyIn fp s t) (mon : Nat)
    (sub : [.lace] ⊆ fp) : OnlyIn fp s (t.startStimulus mon) := by
  simp only [List.cons_subset, List.nil_subset, and_true] at sub
  unfold State.startStimulus
  simp [h, sub]

@[simp] theorem OnlyIn.setCore {fp : List Area} {s t : State} (h : OnlyIn fp s t) (n : Nat) (c : ZCore)
    (sub : [.zyn] ⊆ fp) : OnlyIn fp s (t.setCore n c) := by
  simp only [List.cons_subset, List.nil_subset, and_true] at sub
  unfold State.setCore
  simp [h, sub]

@[simp] theorem OnlyIn.raiseLine {fp : List Area} {s t : State} (h : OnlyIn fp s t) (n line : Nat)
    (sub : [.zyn] ⊆ fp) : OnlyIn fp s (t.raiseLine n line) := by
  simp only [List.cons_subset, List.nil_subset, and_true] at sub
  unfold State.raiseLine
  simp [h, sub]

@[simp] theorem OnlyIn.setWorker {fp : List Area} {s t : State} (h : OnlyIn fp s t) (n : Nat) (w : WorkerCtl)
    (sub : [.supv] ⊆ fp) : OnlyIn fp s (t.setWorker n w) := by
  simp only [List.cons_subset, List.nil_subset, and_true] at sub
  unfold State.setWorker
  simp [h, sub]

@[simp] theorem OnlyIn.dropMailWork {fp : List Area} {s t : State} (h : OnlyIn fp s t) (n : Nat)
    (sub : [.host, .twl, .dmk, .cal, .srg, .tul, .hsh, .ent, .zyn, .mem, .rcd, .blk, .fresh] ⊆ fp) :
    OnlyIn fp s (t.dropMailWork n) := by
  simp only [List.cons_subset, List.nil_subset, and_true] at sub
  unfold State.dropMailWork
  simp [h, sub]

@[simp] theorem OnlyIn.zeroMailboxes {fp : List Area} {s t : State} (h : OnlyIn fp s t) (n : Nat)
    (sub : [.mem] ⊆ fp) : OnlyIn fp s (t.zeroMailboxes n) := by
  simp only [List.cons_subset, List.nil_subset, and_true] at sub
  unfold State.zeroMailboxes
  simp [h, sub]

@[simp] theorem OnlyIn.enterRestarted {fp : List Area} {s t : State} (h : OnlyIn fp s t) (n scnum : Nat) (args : ZBank)
    (sub : [.zyn, .supv] ⊆ fp) : OnlyIn fp s (t.enterRestarted n scnum args) := by
  simp only [List.cons_subset, List.nil_subset, and_true] at sub
  unfold State.enterRestarted
  simp [h, sub]

@[simp] theorem OnlyIn.edgeTo {fp : List Area} {s t : State} (h : OnlyIn fp s t) (pin n : Nat)
    (sub : [.zyn, .supv] ⊆ fp) : OnlyIn fp s (t.edgeTo pin n) := by
  simp only [List.cons_subset, List.nil_subset, and_true] at sub
  unfold State.edgeTo
  simp [h, sub]

@[simp] theorem OnlyIn.abortLoading {fp : List Area} {s t : State} (h : OnlyIn fp s t)
    (sub : [.host, .twl, .dmk, .cal, .srg, .tul, .hsh, .zyn, .mem, .rcd, .blk, .fresh] ⊆ fp) : OnlyIn fp s t.abortLoading := by
  simp only [List.cons_subset, List.nil_subset, and_true] at sub
  unfold State.abortLoading
  simp [h, sub]

@[simp] theorem OnlyIn.dropPrivileged {fp : List Area} {s t : State} (h : OnlyIn fp s t) (b : Bool)
    (sub : [.dmk, .cal, .srg, .tul, .hsh, .ent, .zyn, .mem] ⊆ fp) : OnlyIn fp s (t.dropPrivileged b) := by
  simp only [List.cons_subset, List.nil_subset, and_true] at sub
  unfold State.dropPrivileged
  simp [h, sub]

@[simp] theorem OnlyIn.takeControl {fp : List Area} {s t : State} (h : OnlyIn fp s t) (b : Bool) (cause check : Nat)
    (sub : [.host, .twl, .dmk, .cal, .srg, .tul, .hsh, .ent, .zyn, .supv, .mem, .rcd, .blk, .fresh] ⊆ fp) :
    OnlyIn fp s (t.takeControl b cause check) := by
  simp only [List.cons_subset, List.nil_subset, and_true] at sub
  unfold State.takeControl
  simp (disch := simp (disch := simp [h, sub]) [h, sub])

@[simp] theorem OnlyIn.noteGiveup {fp : List Area} {s t : State} (h : OnlyIn fp s t) (b : Bool)
    (sub : [.supv] ⊆ fp) : OnlyIn fp s (t.noteGiveup b) := by
  simp only [List.cons_subset, List.nil_subset, and_true] at sub
  unfold State.noteGiveup
  simp [h, sub]

@[simp] theorem OnlyIn.compareShadow {fp : List Area} {s t : State} (h : OnlyIn fp s t)
    (sub : [.supv, .rcd, .fresh] ⊆ fp) : OnlyIn fp s t.compareShadow := by
  simp only [List.cons_subset, List.nil_subset, and_true] at sub
  unfold State.compareShadow
  simp [h, sub]

@[simp] theorem OnlyIn.acceptBatch {fp : List Area} {s t : State} (h : OnlyIn fp s t) (x : Delta)
    (sub : [.supv, .rcd, .fresh] ⊆ fp) : OnlyIn fp s (t.acceptBatch x) := by
  simp only [List.cons_subset, List.nil_subset, and_true] at sub
  unfold State.acceptBatch
  simp [h, sub]

@[simp] theorem OnlyIn.noteCorrected {fp : List Area} {s t : State} (h : OnlyIn fp s t) (k n word : Nat) (foreground : Bool)
    (sub : [.mem, .rcd] ⊆ fp) : OnlyIn fp s (t.noteCorrected k n word foreground) := by
  simp only [List.cons_subset, List.nil_subset, and_true] at sub
  unfold State.noteCorrected
  simp [h, sub]

@[simp] theorem OnlyIn.endBank {fp : List Area} {s t : State} (h : OnlyIn fp s t) (k bank : Nat)
    (sub : [.mem, .fresh] ⊆ fp) : OnlyIn fp s (t.endBank k bank) := by
  simp only [List.cons_subset, List.nil_subset, and_true] at sub
  unfold State.endBank
  simp [h, sub]

@[simp] theorem OnlyIn.register {fp : List Area} {s t : State} (h : OnlyIn fp s t) (i : Nat) (e : CerSig)
    (sub : [.bkd, .lcs] ⊆ fp) : OnlyIn fp s (t.register i e) := by
  simp only [List.cons_subset, List.nil_subset, and_true] at sub
  unfold State.register
  simp [h, sub]

@[simp] theorem OnlyIn.registryChanged {fp : List Area} {s t : State} (h : OnlyIn fp s t)
    (sub : [.bkd] ⊆ fp) : OnlyIn fp s t.registryChanged := by
  simp only [List.cons_subset, List.nil_subset, and_true] at sub
  unfold State.registryChanged
  simp [h, sub]

@[simp] theorem OnlyIn.endRunning {fp : List Area} {s t : State} (h : OnlyIn fp s t)
    (sub : [.host, .zyn, .rcd, .blk, .fresh] ⊆ fp) : OnlyIn fp s t.endRunning := by
  simp only [List.cons_subset, List.nil_subset, and_true] at sub
  unfold State.endRunning
  (repeat' split) <;> simp [h, sub]

@[simp] theorem OnlyIn.setCeremony {fp : List Area} {s t : State} (h : OnlyIn fp s t) (c : Ceremony)
    (sub : [.lcs] ⊆ fp) : OnlyIn fp s (t.setCeremony c) := by
  simp only [List.cons_subset, List.nil_subset, and_true] at sub
  unfold State.setCeremony
  simp [h, sub]

@[simp] theorem OnlyIn.endLockAlarms {fp : List Area} {s t : State} (h : OnlyIn fp s t)
    (sub : [.lace] ⊆ fp) : OnlyIn fp s t.endLockAlarms := by
  simp only [List.cons_subset, List.nil_subset, and_true] at sub
  unfold State.endLockAlarms
  simp [h, sub]

@[simp] theorem OnlyIn.unregister {fp : List Area} {s t : State} (h : OnlyIn fp s t) (i : Nat)
    (sub : [.bkd, .lcs] ⊆ fp) : OnlyIn fp s (t.unregister i) := by
  simp only [List.cons_subset, List.nil_subset, and_true] at sub
  unfold State.unregister
  simp [h, sub]

@[simp] theorem OnlyIn.tapSelect {fp : List Area} {s t : State} (h : OnlyIn fp s t) (i : TapInstr) (ok : Bool)
    (sub : [.lcs] ⊆ fp) : OnlyIn fp s (t.tapSelect i ok) := by
  simp only [List.cons_subset, List.nil_subset, and_true] at sub
  unfold State.tapSelect
  simp [h, sub]

@[simp] theorem OnlyIn.installKeys {fp : List Area} {s t : State} (h : OnlyIn fp s t) (n : Nat) (x : Handshake)
    (sub : [.blk] ⊆ fp) : OnlyIn fp s (t.installKeys n x) := by
  simp only [List.cons_subset, List.nil_subset, and_true] at sub
  unfold State.installKeys
  simp [h, sub]

@[simp] theorem OnlyIn.linkUp {fp : List Area} {s t : State} (h : OnlyIn fp s t) (n addr : Nat)
    (sub : [.rcd, .blk] ⊆ fp) : OnlyIn fp s (t.linkUp n addr) := by
  simp only [List.cons_subset, List.nil_subset, and_true] at sub
  unfold State.linkUp
  (repeat' split) <;> simp (disch := simp (disch := simp [h, sub]) [h, sub])

@[simp] theorem OnlyIn.notePeer {fp : List Area} {s t : State} (h : OnlyIn fp s t) (l : Lsa)
    (sub : [.blk] ⊆ fp) : OnlyIn fp s (t.notePeer l) := by
  simp only [List.cons_subset, List.nil_subset, and_true] at sub
  unfold State.notePeer
  simp [h, sub]

@[simp] theorem OnlyIn.clearCtx {fp : List Area} {s t : State} (h : OnlyIn fp s t) (c : Nat)
    (sub : [.dmk] ⊆ fp) : OnlyIn fp s (t.clearCtx c) := by
  simp only [List.cons_subset, List.nil_subset, and_true] at sub
  unfold State.clearCtx
  simp [h, sub]

@[simp] theorem OnlyIn.freezeCtx {fp : List Area} {s t : State} (h : OnlyIn fp s t) (c : Nat)
    (sub : [.dmk] ⊆ fp) : OnlyIn fp s (t.freezeCtx c) := by
  simp only [List.cons_subset, List.nil_subset, and_true] at sub
  unfold State.freezeCtx
  simp [h, sub]

@[simp] theorem OnlyIn.tickCore {fp : List Area} {s t : State} (h : OnlyIn fp s t) (n : Nat) (k : Option Nat)
    (sub : [.zyn, .fresh] ⊆ fp) : OnlyIn fp s (t.tickCore n k) := by
  simp only [List.cons_subset, List.nil_subset, and_true] at sub
  unfold State.tickCore
  simp [h, sub]

@[simp] theorem OnlyIn.runWatch {fp : List Area} {s t : State} (h : OnlyIn fp s t) (sub : [.supv] ⊆ fp) : OnlyIn fp s t.runWatch := by
  simp only [List.cons_subset, List.nil_subset, and_true] at sub
  unfold State.runWatch
  simp [h, sub]

@[simp] theorem OnlyIn.tick {fp : List Area} {s t : State} (h : OnlyIn fp s t) (sub : [.sys, .supv, .bkd] ⊆ fp) : OnlyIn fp s t.tick := by
  simp only [List.cons_subset, List.nil_subset, and_true] at sub
  unfold State.tick
  simp [h, sub]

end Sys2Proof.Machine
end

section
namespace Sys2Proof.Machine

set_option Elab.async false

/-- `t` is of the part and with the queue of `s`, and as good as `s`. -/
structure Steady (s t : State) : Prop where
  part : t.part = s.part
  pending : t.pending = s.pending
  mem : s.mem.wf = true → t.mem.wf = true
  queue : s.rcd.queue.length ≤ 64 → t.rcd.queue.length ≤ 64
  log : s.bkd.logQueue.length ≤ 32 → t.bkd.logQueue.length ≤ 32

@[simp] theorem Steady.refl (s : State) : Steady s s := ⟨rfl, rfl, id, id, id⟩

theorem Steady.trans {s t u : State} (h : Steady s t) (g : Steady t u) : Steady s u :=
  ⟨g.part.trans h.part, g.pending.trans h.pending, g.mem ∘ h.mem, g.queue ∘ h.queue, g.log ∘ h.log⟩

/-- Replacing any parts keeps a state steady where memory and the two queues stay within their bounds. -/
@[simp] theorem Steady.replace {s t : State} {sys : Sys} {boot : Boot} {pwr : Pwr} {img : Img} {host : HostSide} {twl : Twill}
    {dmk : Damask} {cal srg tul hsh : Engine} {ent : Entropy} {zyn : Zynkel} {supv : Worlds} {mem : Memory} {gate : Gates} {lace : Lace}
    {bkd : Backup} {lcs : Custody} {rcd : Recorder} {blk : Fabric} {rwp : List RwpWait} {fresh : Nat} (h : Steady s t)
    (hmem : t.mem.wf = true → mem.wf = true) (hqueue : t.rcd.queue.length ≤ 64 → rcd.queue.length ≤ 64)
    (hlog : t.bkd.logQueue.length ≤ 32 → bkd.logQueue.length ≤ 32) :
    Steady s ⟨t.part, sys, boot, pwr, img, host, twl, dmk, cal, srg, tul, hsh, ent, zyn, supv, mem, gate, lace, bkd, lcs, rcd, blk, rwp,
      fresh, t.pending⟩ :=
  ⟨h.part, h.pending, hmem ∘ h.mem, hqueue ∘ h.queue, hlog ∘ h.log⟩

@[simp] theorem Steady.foldl {α : Type} {s t : State} (h : Steady s t) {f : State → α → State} (hf : ∀ u x, Steady u (f u x)) (l : List α) :
    Steady s (l.foldl f t) := by
  induction l generalizing t with
  | nil => exact h
  | cons x l ih => exact ih (h.trans (hf t x))

@[simp] theorem steady_ite {s a b : State} {c : Prop} [Decidable c] :
    Steady s (if c then a else b) ↔ (c → Steady s a) ∧ (¬ c → Steady s b) := by split <;> simp [*]

theorem Memory.wf_congr {m n : Memory} (bytes : n.bytes = m.bytes) (chk : n.chk = m.chk) (h : m.wf = true) : n.wf = true := by
  rw [Memory.wf, bytes, chk]
  exact h

/-- The canonical form is one of the bytes and their check bits alone. -/
@[simp] theorem Memory.wf_replace (m : Memory) (init : BitVec 7) (ctxDone : BitVec 256) (initRun : Option InitRun)
    (initBase initPages : Nat)
    (scrubEn : BitVec 7) (periodS starveMs restarts fails : Nat) (testing forcedTests : List Nat) (elogAddr elogInfo : Nat)
    (march : Option MarchRun) (marchBank : Nat) (marchPreserve marchPass marchRefused : Bool) (failWord : Nat) (ecctEn : Bool)
    (ecctAddr : Nat) (ecctData : W64) (ecctChk : BitVec 40) (classes : Vector MemClass 7) (conf : SMap Nat) (queue : List Nat)
    (scrubPtr : SMap Nat) :
    Memory.wf ⟨m.bytes, m.chk, init, ctxDone, initRun, initBase, initPages, scrubEn, periodS, starveMs, restarts, fails, testing,
      forcedTests, elogAddr, elogInfo, march, marchBank, marchPreserve, marchPass, marchRefused, failWord, ecctEn, ecctAddr, ecctData,
      ecctChk, classes, conf, queue, scrubPtr⟩ = m.wf := by
  simp only [Memory.wf]

@[simp] theorem Memory.setCls_wf (m : Memory) (k : Nat) (f : MemClass → MemClass) : (m.setCls k f).wf = m.wf := by
  rw [Memory.setCls, Memory.wf_replace]
@[simp] theorem Memory.setCls_bytes (m : Memory) (k : Nat) (f : MemClass → MemClass) : (m.setCls k f).bytes = m.bytes := by
  rw [Memory.setCls]
@[simp] theorem Memory.setCls_chk (m : Memory) (k : Nat) (f : MemClass → MemClass) : (m.setCls k f).chk = m.chk := by
  rw [Memory.setCls]

@[simp] theorem Memory.wf_reset : Memory.reset.wf = true := rfl

/-- The command completes in a state as good. -/
def Ends (s : State) (o : Host.Outcome State Fault Refusal) : Prop := ∃ u, o = .next u ∧ Steady s u

@[simp] theorem ends_next {s u : State} : Ends s (.next u) ↔ Steady s u := by simp [Ends]

@[simp] theorem ends_ite {s : State} {a b : Host.Outcome State Fault Refusal} {c : Prop} [Decidable c] :
    Ends s (if c then a else b) ↔ (c → Ends s a) ∧ (¬ c → Ends s b) := by split <;> simp [*]

@[simp] theorem Steady.after {s t : State} {o : Host.Outcome State Fault Refusal} (e : Ends s o) :
    Steady s (after t o) := by
  obtain ⟨u, rfl, hu⟩ := e
  exact hu

@[simp] theorem Steady.drew {s t : State} (h : Steady s t) (n : Nat) : Steady s (t.drew n) := by
  unfold State.drew
  simp [h]

@[simp] theorem Steady.skip {s t : State} (h : Steady s t) (k : Nat) : Steady s (t.skip k) := by
  unfold State.skip
  simp [h]

@[simp] theorem Steady.offerRecord {s t : State} (h : Steady s t) (code sev source : Nat) (fw summary : Bool) (p0 p1 p2 : Nat) :
    Steady s (t.offerRecord code sev source fw summary p0 p1 p2) := by
  unfold State.offerRecord
  (repeat' split) <;> simp (disch := simp (disch := simp [*]) [*]) [*]

@[simp] theorem Steady.offerSev {s t : State} (h : Steady s t) (code sev p0 p1 p2 : Nat) : Steady s (t.offerSev code sev p0 p1 p2) := by
  unfold State.offerSev
  simp [h]

@[simp] theorem Steady.offer {s t : State} (h : Steady s t) (code p0 p1 p2 : Nat) : Steady s (t.offer code p0 p1 p2) := by
  unfold State.offer
  simp [h]

@[simp] theorem Steady.offerBurst {s t : State} (h : Steady s t) (code key p0 p1 : Nat) : Steady s (t.offerBurst code key p0 p1) := by
  unfold State.offerBurst
  split <;> simp [h]

@[simp] theorem Steady.setLink {s t : State} (h : Steady s t) (n : Nat) (l : Link) : Steady s (t.setLink n l) := by
  unfold State.setLink
  simp [h]

@[simp] theorem Steady.sendAs {s t : State} (h : Steady s t) (link ftype flags dst src ttl : Nat) (b : Bytes) :
    Steady s (t.sendAs link ftype flags dst src ttl b) := by
  unfold State.sendAs
  dsimp only
  split <;> simp [h]

@[simp] theorem Steady.sendFrame {s t : State} (h : Steady s t) (link ftype dst : Nat) (b : Bytes) :
    Steady s (t.sendFrame link ftype dst b) := by
  unfold State.sendFrame
  simp [h]

@[simp] theorem Steady.sendTo {s t : State} (h : Steady s t) (addr ftype : Nat) (b : Bytes) : Steady s (t.sendTo addr ftype b) := by
  unfold State.sendTo
  split <;> simp [h]

@[simp] theorem Steady.storeLsa {s t : State} (h : Steady s t) (l : Lsa) : Steady s (t.storeLsa l) := by
  unfold State.storeLsa
  simp [h]

@[simp] theorem Steady.floodLsa {s t : State} (h : Steady s t) (l : Lsa) (but : Option Nat) : Steady s (t.floodLsa l but) := by
  unfold State.floodLsa
  simp [h]

@[simp] theorem Steady.floodOwn {s t : State} (h : Steady s t) : Steady s t.floodOwn := by
  unfold State.floodOwn
  simp (disch := simp (disch := simp [h]) [h])

@[simp] theorem Steady.linkDown {s t : State} (h : Steady s t) (n cause : Nat) : Steady s (t.linkDown n cause) := by
  unfold State.linkDown
  dsimp only
  (repeat' split) <;> simp (disch := simp (disch := simp [h]) [h]) [h]

@[simp] theorem Steady.refreshLink {s t : State} (h : Steady s t) (n : Nat) : Steady s (t.refreshLink n) := by
  unfold State.refreshLink
  dsimp only
  (repeat' split) <;> simp [h]

@[simp] theorem Steady.refreshLinks {s t : State} (h : Steady s t) : Steady s t.refreshLinks := by
  unfold State.refreshLinks
  simp [h]

@[simp] theorem Steady.setMode {s t : State} (h : Steady s t) (m : Mode) (cause : Nat) : Steady s (t.setMode m cause) := by
  unfold State.setMode
  split <;> simp (disch := simp (disch := simp [h]) [h]) [h]

@[simp] theorem Steady.setEngine {s t : State} (h : Steady s t) (u : EngUnit) (e : Engine) : Steady s (t.setEngine u e) := by
  unfold State.setEngine
  split <;> simp [h]

@[simp] theorem Steady.setInst {s t : State} (h : Steady s t) (u : EngUnit) (n : Nat) (i : UnitInst) : Steady s (t.setInst u n i) := by
  unfold State.setInst
  simp [h]

@[simp] theorem Steady.afterFence {s t : State} (h : Steady s t) : Steady s t.afterFence := by
  unfold State.afterFence
  split <;> simp [h]

@[simp] theorem Steady.afterTrip {s t : State} (h : Steady s t) : Steady s t.afterTrip := by
  unfold State.afterTrip
  split <;> simp [h]

@[simp] theorem Steady.afterLift {s t : State} (h : Steady s t) : Steady s t.afterLift := by
  unfold State.afterLift
  split <;> simp [h]

@[simp] theorem Steady.logEvent {s t : State} (h : Steady s t) (code param : Nat) : Steady s (t.logEvent code param) := by
  unfold State.logEvent
  (repeat' split) <;> simp (disch := simp (disch := simp [*]) [*]) [*]

@[simp] theorem Steady.setTenant {s t : State} (h : Steady s t) (t' : Nat) (x : Tenant) : Steady s (t.setTenant t' x) := by
  unfold State.setTenant
  simp [h]

@[simp] theorem Steady.setQp {s t : State} (h : Steady s t) (t' q : Nat) (x : QPair) : Steady s (t.setQp t' q x) := by
  unfold State.setQp
  simp [h]

@[simp] theorem Steady.setPort {s t : State} (h : Steady s t) (b : Bool) (p : Port) : Steady s (t.setPort b p) := by
  unfold State.setPort
  split <;> simp [h]

@[simp] theorem Steady.signal {s t : State} (h : Steady s t) (b : Bool) (t' v : Nat) : Steady s (t.signal b t' v) := by
  unfold State.signal
  dsimp only
  (repeat' split) <;> simp [h]

@[simp] theorem Steady.countSignal {s t : State} (h : Steady s t) (t' q : Nat) (noirq : Bool) : Steady s (t.countSignal t' q noirq) := by
  unfold State.countSignal
  dsimp only
  (repeat' split) <;> simp [h]

@[simp] theorem Steady.settleQp {s t : State} (h : Steady s t) (t' q : Nat) : Steady s (t.settleQp t' q) := by
  unfold State.settleQp
  dsimp only
  split <;> simp [h]

@[simp] theorem Steady.faultQp {s t : State} (h : Steady s t) (t' q code : Nat) : Steady s (t.faultQp t' q code) := by
  unfold State.faultQp
  dsimp only
  (repeat' split) <;> simp (disch := simp (disch := simp [h]) [h]) [h]

@[simp] theorem Steady.countDmaErr {s t : State} (h : Steady s t) (r : Src) : Steady s (t.countDmaErr r) := by
  unfold State.countDmaErr
  split <;> simp [h]

@[simp] theorem Steady.discardCompletion {s t : State} (h : Steady s t) : Steady s t.discardCompletion := by
  unfold State.discardCompletion
  simp [h]

@[simp] theorem Steady.writeCompletion {s t : State} (h : Steady s t) (t' q : Nat) (noirq ok : Bool) (c : Completion) :
    Steady s (t.writeCompletion t' q noirq ok c) := by
  unfold State.writeCompletion
  dsimp only
  (repeat' split) <;> simp (disch := simp (disch := simp [h]) [h])

@[simp] theorem Steady.countRetry {s t : State} (h : Steady s t) (t' hint : Nat) : Steady s (t.countRetry t' hint) := by
  unfold State.countRetry
  dsimp only
  split <;> simp [h]

@[simp] theorem Steady.replyFabric {s t : State} (h : Steady s t) (addr id tenant : Nat) (c : Completion) :
    Steady s (t.replyFabric addr id tenant c) := by
  unfold State.replyFabric
  simp [h]

@[simp] theorem Steady.complete {s t : State} (h : Steady s t) (r : Req) (status detail reason info outLen : Nat) (out : Bytes) :
    Steady s (t.complete r status detail reason info outLen out) := by
  unfold State.complete
  (repeat' split) <;> simp (disch := simp (disch := simp [h]) [h])

@[simp] theorem Steady.refuse {s t : State} (h : Steady s t) (r : Req) (status detail reason : Nat) :
    Steady s (t.refuse r status detail reason) := by
  unfold State.refuse
  simp [h]

@[simp] theorem Steady.refuseRange {s t : State} (h : Steady s t) (r : Req) (reason : Nat) : Steady s (t.refuseRange r reason) := by
  unfold State.refuseRange
  simp [h]

@[simp] theorem Steady.refuseBuffer {s t : State} (h : Steady s t) (r : Req) : Steady s (t.refuseBuffer r) := by
  unfold State.refuseBuffer
  split <;> simp [h]

@[simp] theorem Steady.answer {s t : State} (h : Steady s t) (r : Req) (info : Nat) (out : Bytes) : Steady s (t.answer r info out) := by
  unfold State.answer
  (repeat' split) <;> simp [h]

theorem Memory.wf_foldl {α : Type} {m : Memory} (h : m.wf = true) {f : Memory → α → Memory}
    (hf : ∀ (m : Memory) x, m.wf = true → (f m x).wf = true) (l : List α) : (l.foldl f m).wf = true := by
  induction l generalizing m with
  | nil => exact h
  | cons x l ih => exact ih (hf m x h)

theorem Memory.wf_wipeAreas {m : Memory} (h : m.wf = true) (u : EngUnit) (n : Nat) : (m.wipeAreas u n).wf = true :=
  Memory.wf_foldl h (fun _ _ hm => Memory.wf_zeroRange hm _ _) _

@[simp] theorem Steady.wipeAreas {s t : State} (h : Steady s t) (p : EngSrc → Bool) : Steady s (t.wipeAreas p) :=
  h.foldl (fun u _ => (Steady.refl u).foldl (fun v _ => (Steady.refl v).replace (fun hm => Memory.wf_wipeAreas hm _ _) id id) _) _

@[simp] theorem Steady.dropJobs {s t : State} (h : Steady s t) (p : EngSrc → Bool) : Steady s (t.dropJobs p) := by
  unfold State.dropJobs
  simp [h]

@[simp] theorem Steady.setSlot {s t : State} (h : Steady s t) (n : Nat) (i : Inst) : Steady s (t.setSlot n i) := by
  unfold State.setSlot
  simp [h]

@[simp] theorem Steady.abortInst {s t : State} (h : Steady s t) (n cause : Nat) (step : Option Nat) :
    Steady s (t.abortInst n cause step) := by
  unfold State.abortInst
  dsimp only
  split <;> simp (disch := simp (disch := simp [h]) [h]) [h]

@[simp] theorem Steady.abortReq {s t : State} (h : Steady s t) (r : Req) (cause : Nat) : Steady s (t.abortReq r cause) := by
  unfold State.abortReq
  simp [h]

@[simp] theorem Steady.abortOne {s t : State} (h : Steady s t) (cause : Nat) (r : Req) : Steady s (t.abortOne cause r) := by
  unfold State.abortOne
  split <;> simp [h]

@[simp] theorem Steady.abortWhere {s t : State} (h : Steady s t) (p : Req → Bool) (cause : Nat) : Steady s (t.abortWhere p cause) := by
  unfold State.abortWhere
  simp [h]

@[simp] theorem Steady.endSession {s t : State} (h : Steady s t) : Steady s t.endSession := by
  unfold State.endSession
  (repeat' split) <;> simp [h]

@[simp] theorem Steady.setDebug {s t : State} (h : Steady s t) (nni ninv sni sinv : Bool) : Steady s (t.setDebug nni ninv sni sinv) := by
  unfold State.setDebug
  dsimp only
  split <;> simp [h]

@[simp] theorem Steady.dropCeremony {s t : State} (h : Steady s t) : Steady s t.dropCeremony := by
  unfold State.dropCeremony
  simp [h]

@[simp] theorem Steady.wipeKeyc {s t : State} (h : Steady s t) : Steady s t.wipeKeyc := by
  unfold State.wipeKeyc
  simp [h]

@[simp] theorem Steady.lockDamask {s t : State} (h : Steady s t) : Steady s t.lockDamask := by
  unfold State.lockDamask
  simp [h]

@[simp] theorem Steady.cutStimulus {s t : State} (h : Steady s t) : Steady s t.cutStimulus := by
  unfold State.cutStimulus
  split <;> simp [h]

@[simp] theorem Steady.answerWaiting {s t : State} (h : Steady s t) (status : Nat) : Steady s (t.answerWaiting status) := by
  unfold State.answerWaiting
  simp (disch := simp (disch := simp [h]) [h])

@[simp] theorem Steady.enterLocked {s t : State} (h : Steady s t) (cause : Nat) : Steady s (t.enterLocked cause) :=
  ((h.abortWhere _ _).answerWaiting _ |>.lockDamask.endSession.dropCeremony.setDebug _ _ _ _ |>.setMode _ _).replace id id id

@[simp] theorem Steady.discardRequest {s t : State} (h : Steady s t) (v : Nat) : Steady s (t.discardRequest v) := by
  unfold State.discardRequest
  simp [h]

@[simp] theorem Steady.undoRequest {s t : State} (h : Steady s t) (v : Nat) : Steady s (t.undoRequest v) := by
  unfold State.undoRequest
  simp [h]

@[simp] theorem Steady.lockSequence {s t : State} (h : Steady s t) (cause : Nat) : Steady s (t.lockSequence cause) := by
  unfold State.lockSequence
  (repeat' split) <;> simp [h]

@[simp] theorem Steady.eraseKeys {s t : State} (h : Steady s t) (cause : Nat) : Steady s (t.eraseKeys cause) := by
  unfold State.eraseKeys
  simp [h]

@[simp] theorem Steady.eraseLogged {s t : State} (h : Steady s t) (cause : Nat) : Steady s (t.eraseLogged cause) := by
  unfold State.eraseLogged
  simp [h]

@[simp] theorem Steady.setMonitor {s t : State} (h : Steady s t) (mon : Nat) (m : Monitor) : Steady s (t.setMonitor mon m) := by
  unfold State.setMonitor
  simp [h]

@[simp] theorem Steady.noteAlarm {s t : State} (h : Steady s t) (mon cls data : Nat) (stim : Bool) :
    Steady s (t.noteAlarm mon cls data stim) := by
  unfold State.noteAlarm
  simp (disch := simp (disch := simp [h]) [h])

@[simp] theorem Steady.classAction {s t : State} (h : Steady s t) (cls : Nat) : Steady s (t.classAction cls) := by
  unfold State.classAction
  (repeat' split) <;> simp (disch := simp (disch := simp [h]) [h]) [h]

@[simp] theorem Steady.raiseAlarm {s t : State} (h : Steady s t) (mon data : Nat) (stim : Bool) :
    Steady s (t.raiseAlarm mon data stim) := by
  unfold State.raiseAlarm
  dsimp only
  (repeat' split) <;> simp [h]

@[simp] theorem Steady.setPendLock {s t : State} (h : Steady s t) : Steady s t.setPendLock := by
  unfold State.setPendLock
  split <;> simp [h]

@[simp] theorem Steady.cellAlarm {s t : State} (h : Steady s t) (mon data : Nat) : Steady s (t.cellAlarm mon data) := by
  unfold State.cellAlarm
  dsimp only
  (repeat' split) <;> simp (disch := simp (disch := simp [h]) [h])

@[simp] theorem Steady.alarm {s t : State} (h : Steady s t) (mon data : Nat) : Steady s (t.alarm mon data) := by
  unfold State.alarm
  split <;> simp [h]

@[simp] theorem Steady.calm {s t : State} (h : Steady s t) (mon : Nat) : Steady s (t.calm mon) := by
  unfold State.calm
  simp [h]

@[simp] theorem Steady.shadowMismatch {s t : State} (h : Steady s t) (unit off : Nat) : Steady s (t.shadowMismatch unit off) := by
  unfold State.shadowMismatch
  simp [h]

@[simp] theorem Steady.mainReset {s t : State} (h : Steady s t) : Steady s t.mainReset :=
  ⟨h.part, h.pending, fun _ => rfl, fun _ => Nat.zero_le _, h.log⟩

@[simp] theorem Steady.mainOff {s t : State} (h : Steady s t) : Steady s t.mainOff := by
  unfold State.mainOff
  simp [h]

@[simp] theorem Steady.reinitBackup {s t : State} (h : Steady s t) : Steady s t.reinitBackup :=
  (h.replace id id fun _ => Nat.zero_le _).logEvent _ _

@[simp] theorem Steady.clearCustody {s t : State} (h : Steady s t) : Steady s t.clearCustody := by
  unfold State.clearCustody
  simp [h]

@[simp] theorem Steady.transitionStore {s t : State} (h : Steady s t) (tgt : Nat) : Steady s (t.transitionStore tgt) := by
  unfold State.transitionStore
  (repeat' split) <;> simp [h]

@[simp] theorem Steady.finishTransition {s t : State} (h : Steady s t) (tgt : Nat) : Steady s (t.finishTransition tgt) :=
  ((h.eraseLogged _).clearCustody.transitionStore _ |>.logEvent _ _).replace id id id

@[simp] theorem Steady.resumeTransition {s t : State} (h : Steady s t) : Steady s t.resumeTransition := by
  unfold State.resumeTransition
  split <;> simp [h]

@[simp] theorem Steady.checkRoots {s t : State} (h : Steady s t) : Steady s t.checkRoots := by
  unfold State.checkRoots
  split <;> simp [h]

@[simp] theorem Steady.checkBaselines {s t : State} (h : Steady s t) : Steady s t.checkBaselines := by
  unfold State.checkBaselines
  simp [h]

@[simp] theorem Steady.romRuns {s t : State} (h : Steady s t) (romOk : Bool) : Steady s (t.romRuns romOk) := by
  have start : Steady s (if t.bkd.intact then t else t.reinitBackup) := by split <;> simp [h]
  have wiped := start.resumeTransition.checkRoots.checkBaselines
  unfold State.romRuns
  dsimp only
  split
  · exact wiped.replace (fun hm => Memory.wf_initClass (Memory.wf_initClass hm _) _) id id
  · exact wiped.replace (fun hm => Memory.wf_initClass (Memory.wf_initClass hm _) _) id id

@[simp] theorem Steady.mainStart {s t : State} (h : Steady s t) (cause : Nat) (romOk : Bool) : Steady s (t.mainStart cause romOk) := by
  unfold State.mainStart
  simp (disch := simp (disch := simp [h]) [h])

@[simp] theorem Steady.enterLoad {s t : State} (h : Steady s t) (cause : Nat) : Steady s (t.enterLoad cause) := by
  unfold State.enterLoad
  simp [h]

@[simp] theorem Steady.enterDrain {s t : State} (h : Steady s t) (tgt : DrainTo) : Steady s (t.enterDrain tgt) := by
  unfold State.enterDrain
  simp (disch := simp (disch := simp [h]) [h])

@[simp] theorem Steady.requestDrain {s t : State} (h : Steady s t) (tgt : DrainTo) (v : Nat) : Steady s (t.requestDrain tgt v) := by
  unfold State.requestDrain
  simp [h]

@[simp] theorem Steady.modeRequest {s t : State} (h : Steady s t) (v : W32) : Steady s (t.modeRequest v) := by
  unfold State.modeRequest
  dsimp only
  (repeat' split) <;> simp [h]

@[simp] theorem Steady.keepLock {s t : State} (h : Steady s t) : Steady s t.keepLock := by
  unfold State.keepLock
  simp [h]

@[simp] theorem Steady.vinValid {s t : State} (h : Steady s t) : Steady s t.vinValid := by
  unfold State.vinValid
  split <;> simp [h]

@[simp] theorem Ends.vinValid {s t : State} (h : Steady s t) : Ends s (execVinValid t) := by
  unfold execVinValid
  simp [h]

@[simp] theorem Ends.mainDomainStart {s t : State} (h : Steady s t) (romOk : Bool) : Ends s (execMainDomainStart romOk t) := by
  unfold execMainDomainStart
  split <;> simp [h]

@[simp] theorem Ends.vinLoss {s t : State} (h : Steady s t) : Ends s (execVinLoss t) := by
  unfold execVinLoss
  split <;> simp [h]

@[simp] theorem Ends.resetN {s t : State} (h : Steady s t) (lowNs : Nat) : Ends s (execResetN lowNs t) := by
  unfold execResetN
  split <;> simp [h]

@[simp] theorem Ends.resetNRelease {s t : State} (h : Steady s t) (romOk : Bool) : Ends s (execResetNRelease romOk t) := by
  unfold execResetNRelease
  split <;> simp [h]

@[simp] theorem Ends.oscillatorCalibration {s t : State} (h : Steady s t) : Ends s (execOscillatorCalibration t) := by
  unfold execOscillatorCalibration
  split <;> simp [h]

@[simp] theorem Ends.cellInserted {s t : State} (h : Steady s t) : Ends s (execCellInserted t) := by
  unfold execCellInserted
  simp [h]

@[simp] theorem Ends.cellRemoved {s t : State} (h : Steady s t) : Ends s (execCellRemoved t) := by
  unfold execCellRemoved
  simp [h]

@[simp] theorem Ends.backupDomainPowerLoss {s t : State} (h : Steady s t) : Ends s (execBackupDomainPowerLoss t) := by
  unfold execBackupDomainPowerLoss
  split <;> simp [h]

@[simp] theorem Ends.holdupCharged {s t : State} (h : Steady s t) : Ends s (execHoldupCharged t) := by
  unfold execHoldupCharged
  split <;> simp [h]

@[simp] theorem Ends.usb2Attach {s t : State} (h : Steady s t) (portB : Bool) : Ends s (execUsb2Attach portB t) := by
  unfold execUsb2Attach
  (repeat' split) <;> simp [h]

@[simp] theorem Steady.startDownload {s t : State} (h : Steady s t) (d : Download) (path : Nat) : Steady s (t.startDownload d path) := by
  unfold State.startDownload
  split <;> simp [h]

@[simp] theorem Ends.fwDownloadGo {s t : State} (h : Steady s t) : Ends s (execFwDownloadGo t) := by
  unfold execFwDownloadGo
  split <;> simp [h]

@[simp] theorem Ends.usb2FwTransfer {s t : State} (h : Steady s t) (portB : Bool) : Ends s (execUsb2FwTransfer portB t) := by
  unfold execUsb2FwTransfer
  (repeat' split) <;> simp [h]

@[simp] theorem Steady.endDownload {s t : State} (h : Steady s t) : Steady s t.endDownload :=
  h.replace (fun hm => Memory.wf_zeroRange hm _ _) id id

@[simp] theorem Ends.fwDownloadFailure {s t : State} (h : Steady s t) : Ends s (execFwDownloadFailure t) := by
  unfold execFwDownloadFailure
  split <;> simp (disch := simp (disch := simp [h]) [h]) [h]

@[simp] theorem Steady.rejectFirmware {s t : State} (h : Steady s t) (code : Nat) : Steady s (t.rejectFirmware code) := by
  unfold State.rejectFirmware
  simp (disch := simp (disch := simp [h]) [h])

@[simp] theorem Steady.acceptFirmware {s t : State} (h : Steady s t) (img : Bytes) : Steady s (t.acceptFirmware img) :=
  (h.replace (fun hm => Memory.wf_zeroRange (Memory.wf_foldl (Memory.wf_initClass hm 0) (fun _ _ hm => Memory.wf_write hm _ _) _) _ _)
    id id).enterLoad _

@[simp] theorem Ends.fwImageReceived {s t : State} (h : Steady s t) (image : Bytes) : Ends s (execFwImageReceived image t) := by
  unfold execFwImageReceived
  (repeat' split) <;> simp [h]

@[simp] theorem Steady.noteUncorrectable {s t : State} (h : Steady s t) (a source master : Nat) :
    Steady s (t.noteUncorrectable a source master) := by
  unfold State.noteUncorrectable
  extract_lets k syn m u
  have h1 : Steady s u := h.replace (by exact id) id id
  exact h1.offer _ _ _ _

@[simp] theorem Steady.noteConflicts {s t : State} (h : Steady s t) (master a n : Nat) : Steady s (t.noteConflicts master a n) := by
  unfold State.noteConflicts
  split
  · exact h.replace id id id
  · exact h

@[simp] theorem Steady.reject {s t : State} (h : Steady s t) (r : Req) (x : Rej) : Steady s (t.reject r x) := by
  unfold State.reject
  simp [h]

@[simp] theorem Steady.setCtx {s t : State} (h : Steady s t) (c : Nat) (x : Ctx) : Steady s (t.setCtx c x) := by
  unfold State.setCtx
  simp [h]

@[simp] theorem Steady.dropCached {s t : State} (h : Steady s t) (p : KeyTag → Bool) : Steady s (t.dropCached p) := by
  unfold State.dropCached
  simp [h]

@[simp] theorem Steady.derived {s t : State} (h : Steady s t) (t' parent : Nat) : Steady s (t.derived t' parent) := by
  unfold State.derived
  simp [h]

@[simp] theorem Steady.setCtxs {s t : State} (h : Steady s t) (l : List (Nat × Ctx)) : Steady s (t.setCtxs l) := by
  unfold State.setCtxs
  simp [h]

@[simp] theorem Steady.wipeLeaf {s t : State} (h : Steady s t) (c : Nat) : Steady s (t.wipeLeaf c) := by
  unfold State.wipeLeaf
  split <;> simp [h]

theorem Memory.wf_iff (m : Memory) : m.wf = true ↔ SMap.wf 0 m.bytes = true ∧ SMap.wf 0 m.chk = true := by simp [Memory.wf]

theorem Memory.wf_filterChk {m : Memory} (h : m.wf = true) (p : Nat × BitVec 5 → Bool) :
    Memory.wf { m with chk := m.chk.filter p } = true := by
  obtain ⟨bytes, chk⟩ := m.wf_iff.mp h
  exact (Memory.wf_iff _).mpr ⟨bytes, SMap.wf_filter chk p⟩

@[simp] theorem Steady.soundKey {s t : State} (h : Steady s t) (g : KeyTag) : Steady s (t.soundKey g) := by
  unfold State.soundKey
  split
  · exact h
  · exact ((h.noteUncorrectable _ _ _).dropCached _).replace (fun hm => Memory.wf_filterChk hm _) id id

@[simp] theorem Steady.soundKeys {s t : State} (h : Steady s t) (l : List KeyTag) : Steady s (State.soundKeys l t) := by
  induction l generalizing t with
  | nil => exact h
  | cons g l ih =>
    unfold State.soundKeys
    split
    · exact h.soundKey g
    · exact ih (h.soundKey g)

@[simp] theorem Steady.setKstate {s t : State} (h : Steady s t) (t' e c : Nat) (k : KState) : Steady s (t.setKstate t' e c k) := by
  unfold State.setKstate
  simp [h]

@[simp] theorem Steady.reserveFailed {s t : State} (h : Steady s t) (a : W64) : Steady s (t.reserveFailed a) := (h.skip _).offer _ _ _ _

/-- `t` is as good as `s`, and of the cores and their mailboxes only the records of completions differ: what an evaluation leaves. -/
structure Evaluates (s t : State) : Prop where
  steady : Steady s t
  cores : t.zyn = { s.zyn with done := t.zyn.done }

theorem Evaluates.refl (s : State) : Evaluates s s := ⟨Steady.refl s, rfl⟩

theorem Evaluates.step {s t u : State} (h : Evaluates s t) (g : Steady t u) (cores : u.zyn = { t.zyn with done := u.zyn.done }) :
    Evaluates s u :=
  ⟨h.steady.trans g, by rw [cores, h.cores]⟩

/-- Replacing other parts than memory, the cores and the two queues. -/
@[simp] theorem Evaluates.same {s t : State} {sys : Sys} {boot : Boot} {pwr : Pwr} {img : Img} {host : HostSide} {twl : Twill}
    {dmk : Damask} {cal srg tul hsh : Engine} {ent : Entropy} {supv : Worlds} {gate : Gates} {lace : Lace}
    {bkd : Backup} {lcs : Custody} {blk : Fabric} {rwp : List RwpWait} {fresh : Nat} (h : Evaluates s t) (hbkd : bkd = t.bkd) :
    Evaluates s ⟨t.part, sys, boot, pwr, img, host, twl, dmk, cal, srg, tul, hsh, ent, t.zyn, supv, t.mem, gate, lace, bkd, lcs, t.rcd, blk, rwp,
      fresh, t.pending⟩ :=
  h.step (((Steady.refl t).replace id id (by rw [hbkd]; exact id))) rfl

theorem Evaluates.skip {s t : State} (h : Evaluates s t) (k : Nat) : Evaluates s (t.skip k) := h.same rfl

theorem offer_zyn (s : State) (code p0 p1 p2 : Nat) : (s.offer code p0 p1 p2).zyn = s.zyn := (offer_frame s code p0 p1 p2).zyn_eq

theorem Evaluates.offer {s t : State} (h : Evaluates s t) (code p0 p1 p2 : Nat) : Evaluates s (t.offer code p0 p1 p2) :=
  h.step ((Steady.refl t).offer code p0 p1 p2) (by rw [offer_zyn])

theorem Evaluates.soundKeys {s t : State} (h : Evaluates s t) (l : List KeyTag) : Evaluates s (State.soundKeys l t) := by
  induction l generalizing t with
  | nil => exact h
  | cons g l ih =>
    have kept : (t.soundKey g).zyn = t.zyn := by
      unfold State.soundKey
      split
      · rfl
      · exact offer_zyn _ _ _ _ _
    have checked : Evaluates s (t.soundKey g) := h.step ((Steady.refl t).soundKey g) (by rw [kept])
    unfold State.soundKeys
    split
    · exact checked
    · exact ih checked

@[simp] theorem Evaluates.setKstate {s t : State} (h : Evaluates s t) (t' e c : Nat) (k : KState) : Evaluates s (t.setKstate t' e c k) :=
  h.step ((Steady.refl t).setKstate t' e c k) (by simp [State.setKstate])

theorem Evaluates.reserveFailed {s t : State} (h : Evaluates s t) (a : W64) : Evaluates s (t.reserveFailed a) :=
  (h.skip 1).offer _ _ _ _

@[simp] theorem Evaluates.setCtx {s t : State} (h : Evaluates s t) (c : Nat) (x : Ctx) : Evaluates s (t.setCtx c x) :=
  h.step ((Steady.refl t).setCtx c x) (by simp)

/-- What a resolution leaves: the keys above were checked, and the cache counted. -/
theorem Evaluates.resolve {s t u : State} {c n : Nat} {k : RKey} {d : Node} {a : W64} (h : Evaluates s t)
    (e : t.resolve n c a = .ok (u, k, d)) : Evaluates s u := by
  unfold State.resolve at e
  split at e
  · cases e
  dsimp only at e
  split at e
  · split at e <;> (cases e; exact (h.soundKeys _).same rfl)
  · split at e
    · cases e
    · split at e
      · cases e
      · cases e; exact (h.soundKeys _).same rfl

theorem Steady.resolve {s t u : State} {c n : Nat} {k : RKey} {d : Node} {a : W64} (h : Steady s t)
    (e : t.resolve n c a = .ok (u, k, d)) : Steady s u :=
  h.trans ((Evaluates.refl t).resolve e).steady

theorem Evaluates.bindKs {s t u : State} {n e c : Nat} {k : KState} {a : W64} (h : Evaluates s t)
    (eq : t.bindKs n a = .ok (u, e, c, k)) : Evaluates s u := by
  unfold State.bindKs at eq
  dsimp only at eq
  split at eq
  · cases eq
  split at eq
  · cases eq; exact h
  split at eq
  · cases eq
  · cases eq; exact (h.same rfl).setKstate _ _ _ _

theorem Steady.bindKs {s t u : State} {n e c : Nat} {k : KState} {a : W64} (h : Steady s t)
    (eq : t.bindKs n a = .ok (u, e, c, k)) : Steady s u :=
  h.trans ((Evaluates.refl t).bindKs eq).steady

theorem Evaluates.countUse {s t : State} (h : Evaluates s t) (n : Nat) (a : W64) (d : Node) (operand : Nat) :
    Evaluates s (t.countUse n a d operand).1 := by
  unfold State.countUse
  split
  · exact h
  split
  · exact h
  have bound := h.bindKs ‹_›
  dsimp only
  split
  · exact bound
  split
  · split
    · exact bound.reserveFailed _
    · exact ((bound.same rfl).skip _).setKstate _ _ _ _
  · exact bound.setKstate _ _ _ _

theorem Steady.countUse {s t : State} (h : Steady s t) (n : Nat) (a : W64) (d : Node) (operand : Nat) :
    Steady s (t.countUse n a d operand).1 :=
  h.trans ((Evaluates.refl t).countUse n a d operand).steady

theorem Evaluates.chargeBlocks {s t : State} (h : Evaluates s t) (n : Nat) (a : W64) (d : Node) (blocks operand : Nat) :
    Evaluates s (t.chargeBlocks n a d blocks operand).1 := by
  unfold State.chargeBlocks
  split
  · exact h
  split
  · exact h
  split
  · exact h
  have bound := h.bindKs ‹_›
  dsimp only
  split
  · exact bound.setKstate _ _ _ _
  split
  · exact bound.reserveFailed _
  · exact ((bound.same rfl).skip _).setKstate _ _ _ _

theorem Steady.chargeBlocks {s t : State} (h : Steady s t) (n : Nat) (a : W64) (d : Node) (blocks operand : Nat) :
    Steady s (t.chargeBlocks n a d blocks operand).1 :=
  h.trans ((Evaluates.refl t).chargeBlocks n a d blocks operand).steady

theorem Evaluates.issueNonce {s t u : State} {n operand v : Nat} {a : W64} (h : Evaluates s t) (e : t.issueNonce n a operand = .ok (u, v)) :
    Evaluates s u := by
  unfold State.issueNonce at e
  split at e
  · cases e
  split at e
  · cases e
  · cases e; exact (h.bindKs ‹_›).setKstate _ _ _ _

theorem Steady.issueNonce {s t u : State} {n operand v : Nat} {a : W64} (h : Steady s t) (e : t.issueNonce n a operand = .ok (u, v)) :
    Steady s u :=
  h.trans ((Evaluates.refl t).issueNonce e).steady

@[simp] theorem Steady.formatRegion {s t : State} (h : Steady s t) : Steady s t.formatRegion := by
  unfold State.formatRegion
  simp [h]

@[simp] theorem Steady.nextNonceEpoch {s t : State} (h : Steady s t) : Steady s t.nextNonceEpoch := by
  unfold State.nextNonceEpoch
  simp [h]

@[simp] theorem Steady.recolourUnits {s t : State} (h : Steady s t) (us : List Nat) : Steady s (t.recolourUnits us) := by
  unfold State.recolourUnits
  split <;> simp [h]

@[simp] theorem Steady.gateMismatch {s t : State} (h : Steady s t) (a : Nat) : Steady s (t.gateMismatch a) := by
  unfold State.gateMismatch
  simp [h]

@[simp] theorem Steady.noteDenial {s t : State} (h : Steady s t) (master : Nat) (w : World) (write debug : Bool) (a reason : Nat) :
    Steady s (t.noteDenial master w write debug a reason) := by
  unfold State.noteDenial
  (repeat' split) <;> simp (disch := simp (disch := simp [h]) [h])

@[simp] theorem Steady.dropWrite {s t : State} (h : Steady s t) (who : Initiator) : Steady s (t.dropWrite who) := by
  unfold State.dropWrite
  (repeat' split) <;> simp [h]

@[simp] theorem Steady.byControl {s t : State} (h : Steady s t) (who : Initiator) {f : State → State} (hf : ∀ u, Steady u (f u)) :
    Steady s (t.byControl who f) := by
  unfold State.byControl
  split
  · exact h.trans (hf t)
  · exact h.dropWrite who

@[simp] theorem Steady.bySecure {s t : State} (h : Steady s t) (who : Initiator) {f : State → State} (hf : ∀ u, Steady u (f u)) :
    Steady s (t.bySecure who f) := by
  unfold State.bySecure
  split
  · exact h.trans (hf t)
  · exact h.dropWrite who

@[simp] theorem Steady.byAny {s t : State} (h : Steady s t) (who : Initiator) {f : State → State} (hf : ∀ u, Steady u (f u)) :
    Steady s (t.byAny who f) := by
  unfold State.byAny
  split
  · exact h.byControl _ hf
  · split
    · exact h.trans (hf t)
    · exact h

@[simp] theorem Steady.endUnserved {s t : State} (h : Steady s t) (j : Job) : Steady s (t.endUnserved j) := by
  unfold State.endUnserved
  dsimp only
  (repeat' split) <;> simp (disch := simp (disch := simp [h]) [h]) [h]

@[simp] theorem Steady.endUnservedAll {s t : State} (h : Steady s t) : Steady s t.endUnservedAll :=
  h.foldl (fun u _ => (Steady.refl u).foldl (fun v j => (Steady.refl v).endUnserved j) _) _

@[simp] theorem Ends.pwrLeaseWrite {s t : State} (h : Steady s t) (who : Initiator) (held : BitVec 19) :
    Ends s (execPwrLeaseWrite who held t) := by
  unfold execPwrLeaseWrite
  simp [h]

@[simp] theorem Steady.setGres {s t : State} (h : Steady s t) (w : World) (g : GateRes) : Steady s (t.setGres w g) := by
  unfold State.setGres
  split <;> simp [h]

@[simp] theorem Steady.finishGate {s t : State} (h : Steady s t) (g : GateReq) (status : Nat) : Steady s (t.finishGate g status) := by
  unfold State.finishGate
  dsimp only
  split <;> simp [h]

@[simp] theorem Steady.runIsland {s t : State} (h : Steady s t) (isl : Nat) : Steady s (t.runIsland isl) := by
  unfold State.runIsland
  simp [h]

@[simp] theorem Steady.serveGate {s t : State} (h : Steady s t) (g : GateReq) : Steady s (t.serveGate g) := by
  unfold State.serveGate
  (repeat' split) <;> simp [h]

@[simp] theorem Steady.serveGates {s t : State} (h : Steady s t) (w : World) (fuel : Nat) : Steady s (State.serveGates w fuel t) := by
  induction fuel generalizing t with
  | zero => exact h
  | succ fuel ih =>
    unfold State.serveGates
    split
    · exact h
    · dsimp only
      split
      · exact h.serveGate _
      · exact ih (h.serveGate _)

@[simp] theorem Steady.gateRequest {s t : State} (h : Steady s t) (g : GateReq) : Steady s (t.gateRequest g) := by
  unfold State.gateRequest
  split <;> simp [h]

@[simp] theorem Steady.gateOrDrop {s t : State} (h : Steady s t) (w : World) (isl : Nat) (a : GateAct) :
    Steady s (t.gateOrDrop w isl a) := by
  unfold State.gateOrDrop
  split <;> simp [h]

@[simp] theorem Ends.islandClockGate {s t : State} (h : Steady s t) (w : World) (isl : Nat) : Ends s (execIslandClockGate w isl t) := by
  unfold execIslandClockGate
  simp [h]

@[simp] theorem Ends.islandPowerGate {s t : State} (h : Steady s t) (w : World) (isl : Nat) : Ends s (execIslandPowerGate w isl t) := by
  unfold execIslandPowerGate
  simp [h]

@[simp] theorem Ends.islandRun {s t : State} (h : Steady s t) (w : World) (isl : Nat) : Ends s (execIslandRun w isl t) := by
  unfold execIslandRun
  split <;> simp [h]

@[simp] theorem Steady.stopIsland {s t : State} (h : Steady s t) (g : GateReq) : Steady s (t.stopIsland g) := by
  unfold State.stopIsland
  simp [h]

@[simp] theorem Ends.islandGateDone {s t : State} (h : Steady s t) (isl : Nat) : Ends s (execIslandGateDone isl t) := by
  unfold execIslandGateDone
  split
  · exact ⟨_, rfl, h⟩
  split
  · exact ⟨_, rfl, h⟩
  · exact ⟨_, rfl, (((h.stopIsland _).finishGate _ _).serveGates _ _).refreshLinks.endUnservedAll⟩

@[simp] theorem Steady.senseJunction {s t : State} (h : Steady s t) (n reading : Nat) : Steady s (t.senseJunction n reading) := by
  unfold State.senseJunction
  simp [h]

@[simp] theorem Ends.thermalTrip {s t : State} (h : Steady s t) (sensor reading : Nat) : Ends s (execThermalTrip sensor reading t) := by
  unfold execThermalTrip
  dsimp only
  (repeat' split) <;> simp [h]

@[simp] theorem Steady.abortJob {s t : State} (h : Steady s t) (cause : Nat) (j : Job) : Steady s (t.abortJob cause j) := by
  unfold State.abortJob
  split <;> simp [h]

@[simp] theorem Steady.abortIsland {s t : State} (h : Steady s t) (isl cause : Nat) : Steady s (t.abortIsland isl cause) := by
  unfold State.abortIsland
  (repeat' split) <;> simp (disch := simp (disch := simp [h]) [h])

@[simp] theorem Steady.wipeIsland {s t : State} (h : Steady s t) (isl : Nat) : Steady s (t.wipeIsland isl) := by
  unfold State.wipeIsland
  dsimp only
  split <;> exact h.replace (fun hm => Memory.wf_zeroRange hm _ _) id id

@[simp] theorem Steady.clearIsland {s t : State} (h : Steady s t) (isl : Nat) : Steady s (t.clearIsland isl) := by
  unfold State.clearIsland
  simp [h]

@[simp] theorem Steady.thermalShutdown {s t : State} (h : Steady s t) : Steady s t.thermalShutdown := by
  unfold State.thermalShutdown
  simp (disch := simp (disch := simp [h]) [h])

@[simp] theorem Ends.thermalTripAbort {s t : State} (h : Steady s t) (isl : Nat) : Ends s (execThermalTripAbort isl t) := by
  unfold execThermalTripAbort
  split
  · exact ⟨_, rfl, h⟩
  split
  · exact ⟨_, rfl, h.thermalShutdown⟩
  · exact ⟨_, rfl, (((h.clearIsland isl).replace id id id).offer _ _ _ _).refreshLinks.afterTrip.endUnservedAll⟩

@[simp] theorem Ends.thermalHoldCheck {s t : State} (h : Steady s t) (reading : Nat) : Ends s (execThermalHoldCheck reading t) := by
  unfold execThermalHoldCheck
  dsimp only
  (repeat' split) <;> simp [h]

@[simp] theorem Ends.pwrTrippedClear {s t : State} (h : Steady s t) (who : Initiator) (mask : BitVec 19) :
    Ends s (execPwrTrippedClear who mask t) := by
  unfold execPwrTrippedClear
  simp (disch := simp (disch := simp [h]) [h])

@[simp] theorem Ends.modereqDrain {s t : State} (h : Steady s t) (value : W32) : Ends s (execModereqDrain value t) := by
  unfold execModereqDrain
  split <;> simp [h]

@[simp] theorem Ends.drainLimitExpiry {s t : State} (h : Steady s t) : Ends s (execDrainLimitExpiry t) := by
  unfold execDrainLimitExpiry
  split <;> simp [h]

@[simp] theorem Ends.drainToOff {s t : State} (h : Steady s t) : Ends s (execDrainToOff t) := by
  unfold execDrainToOff
  split <;> simp [h]

@[simp] theorem Ends.drainToLoad {s t : State} (h : Steady s t) : Ends s (execDrainToLoad t) := by
  unfold execDrainToLoad
  split <;> simp [h]

@[simp] theorem Ends.drainToBoot {s t : State} (h : Steady s t) (romOk : Bool) : Ends s (execDrainToBoot romOk t) := by
  unfold execDrainToBoot
  split <;> simp [h]

@[simp] theorem Steady.consume {s t : State} (h : Steady s t) (r : Req) : Steady s (t.consume r) := by
  unfold State.consume
  split <;> simp [h]

@[simp] theorem Steady.disableQp {s t : State} (h : Steady s t) (t' q : Nat) : Steady s (t.disableQp t' q) := by
  unfold State.disableQp
  simp [h]

@[simp] theorem Steady.blockRecord {s t : State} (h : Steady s t) : Steady s t.blockRecord := by
  unfold State.blockRecord
  simp [h]

@[simp] theorem Steady.refuseUntaken {s t : State} (h : Steady s t) (r : Req) (x : Rej) : Steady s (t.refuseUntaken r x) := by
  unfold State.refuseUntaken
  split <;> simp [h]

@[simp] theorem Steady.turnDown {s t : State} (h : Steady s t) (r : Req) (x : Rej) : Steady s (t.turnDown r x) := by
  unfold State.turnDown
  simp [h]

@[simp] theorem Steady.admitFor {s t : State} (h : Steady s t) (r : Req) (charge : Nat) : Steady s (t.admitFor r charge) := by
  unfold State.admitFor
  simp [h]

@[simp] theorem Steady.admitCmd {s t : State} (h : Steady s t) (r : Req) : Steady s (t.admitCmd r) := by
  unfold State.admitCmd
  simp [h]

@[simp] theorem Steady.passTurn {s t : State} (h : Steady s t) (t' k : Nat) : Steady s (t.passTurn t' k) := by
  unfold State.passTurn
  simp [h]

@[simp] theorem Steady.denyWork {s t : State} (h : Steady s t) (r : Req) : Steady s (t.denyWork r) := by
  unfold State.denyWork
  simp (disch := simp (disch := simp [h]) [h])

@[simp] theorem Steady.runBody {s t : State} (h : Steady s t) (r : Req) {body : State → State} (hb : ∀ u, Steady u (body u)) :
    Steady s (t.runBody r body) := by
  unfold State.runBody
  split
  · exact h
  split
  · exact h.denyWork r
  split
  · exact (h.noteUncorrectable _ _ _).abortOne _ _
  split
  · exact h.refuseBuffer r
  · exact h.trans (hb t)

@[simp] theorem Steady.arrive {s t : State} (h : Steady s t) (r : Req) : Steady s (t.arrive r) := by
  unfold State.arrive
  (repeat' split) <;> simp [h]

@[simp] theorem Steady.admitTurn {s t : State} (h : Steady s t) (r : Req) {body : State → State} (hb : ∀ u, Steady u (body u)) :
    Steady s (t.admitTurn r body) := by
  unfold State.admitTurn
  split
  · exact (h.turnDown _ _).passTurn _ _
  · exact ((h.admitCmd _).passTurn _ _).runBody _ hb
  · exact h

@[simp] theorem Steady.hostCommand {s t : State} (h : Steady s t) (r : Req) (op : Nat) {body : State → State}
    (hb : ∀ u, Steady u (body u)) : Steady s (t.hostCommand r op body) := by
  have body' := h.runBody r hb
  have turn := (h.arrive r).admitTurn r hb
  have answered := fun status detail reason => ((h.arrive r).consume r).refuse r status detail reason
  unfold State.hostCommand
  simp [h, h.arrive, body', turn, answered]

theorem Steady.takeWords {s t u : State} {n : Nat} {w : List W128} (h : Steady s t) (e : t.takeWords n = some (w, u)) : Steady s u := by
  unfold State.takeWords at e
  split at e
  · cases e; exact h.replace id id id
  · cases e

@[simp] theorem Steady.stallFor {s t : State} (h : Steady s t) (c : Consumer) : Steady s (t.stallFor c) := by
  unfold State.stallFor
  split <;> simp [h]

@[simp] theorem Steady.drawFor {s t : State} (h : Steady s t) (c : Consumer) (n : Nat) {k : Bytes → State → State}
    (hk : ∀ b u, Steady u (k b u)) : Steady s (t.drawFor c n k) := by
  unfold State.drawFor
  split
  · exact ((h.takeWords ‹_›).replace id id id).trans (hk _ _)
  · exact h.stallFor c

@[simp] theorem Steady.reseedInst {s t : State} (h : Steady s t) (u : EngUnit) (n : Nat) : Steady s (t.reseedInst u n) := by
  unfold State.reseedInst
  simp [h]

@[simp] theorem Steady.latchWord {s t : State} (h : Steady s t) (who : Initiator) (b : EntBank) : Steady s (t.latchWord who b) := by
  unfold State.latchWord
  simp [h]

@[simp] theorem Steady.serveOne {s t : State} (h : Steady s t) (c : Consumer) : Steady s (t.serveOne c) := by
  unfold State.serveOne
  dsimp only
  split
  · split
    · exact ((h.takeWords ‹_›).latchWord _ _).replace id id id
    · exact h
  · split
    · exact ((h.takeWords ‹_›).setInst _ _ _).replace id id id
    · exact h
  · split
    · exact ((h.takeWords ‹_›).replace id id id).replace id id id
    · exact h
  all_goals split <;> simp [h]

@[simp] theorem Steady.serveStalled {s t : State} (h : Steady s t) : Steady s t.serveStalled := by
  unfold State.serveStalled
  simp (disch := simp (disch := simp [h]) [h])

@[simp] theorem Steady.faultEvent {s t : State} (h : Steady s t) (k n : Nat) : Steady s (t.faultEvent k n) := by
  unfold State.faultEvent
  simp [h]

@[simp] theorem Steady.fenceEntropy {s t : State} (h : Steady s t) : Steady s t.fenceEntropy := by
  unfold State.fenceEntropy
  split <;> simp (disch := simp (disch := simp [h]) [h]) [h]

@[simp] theorem Steady.fenceStarved {s t : State} (h : Steady s t) : Steady s t.fenceStarved := by
  unfold State.fenceStarved
  split <;> simp [h]

@[simp] theorem Ends.entStartupAttemptEnd {s t : State} (h : Steady s t) (failed : BitVec 128) (katOk : KatResult) :
    Ends s (execEntStartupAttemptEnd failed katOk t) := by
  unfold execEntStartupAttemptEnd
  dsimp only
  split
  · exact ⟨_, rfl, h⟩
  split
  · exact ⟨_, rfl, (h.replace id id id).fenceStarved.serveStalled⟩
  · refine ⟨_, rfl, ?_⟩
    simp (disch := simp (disch := simp [h]) [h])

@[simp] theorem Ends.legacyStartupComplete {s t : State} (h : Steady s t) : Ends s (execLegacyStartupComplete t) := by
  unfold execLegacyStartupComplete
  split <;> simp [h]

@[simp] theorem Steady.noteHealth {s t : State} (h : Steady s t) (stream test count : Nat) : Steady s (t.noteHealth stream test count) := by
  unfold State.noteHealth
  simp [h]

@[simp] theorem Steady.failEntropy {s t : State} (h : Steady s t) : Steady s t.failEntropy := by
  unfold State.failEntropy
  simp [h]

@[simp] theorem Ends.healthTestFailure {s t : State} (h : Steady s t) (stream test count : Nat) :
    Ends s (execHealthTestFailure stream test count t) := by
  unfold execHealthTestFailure
  dsimp only
  (repeat' split) <;> simp (disch := simp (disch := simp [h]) [h]) [h]

@[simp] theorem Ends.retestComplete {s t : State} (h : Steady s t) : Ends s (execRetestComplete t) := by
  unfold execRetestComplete
  split <;> simp (disch := simp (disch := simp [h]) [h]) [h]

@[simp] theorem Ends.expanderReseed {s t : State} (h : Steady s t) : Ends s (execExpanderReseed t) := by
  unfold execExpanderReseed
  (repeat' split) <;> simp [h]

@[simp] theorem Ends.seedPoolFull {s t : State} (h : Steady s t) : Ends s (execSeedPoolFull t) := by
  unfold execSeedPoolFull
  dsimp only
  (repeat' split) <;> simp [h]

@[simp] theorem Ends.entReadRelease {s t : State} (h : Steady s t) (k : Nat) : Ends s (execEntReadRelease k t) := by
  unfold execEntReadRelease
  (repeat' split) <;> simp (disch := simp (disch := simp [h]) [h]) [h]

@[simp] theorem Ends.entDataRead {s t : State} (h : Steady s t) (who : Initiator) : Ends s (execEntDataRead who t) := by
  unfold execEntDataRead
  split <;> simp [h]

@[simp] theorem Ends.katPeriodic {s t : State} (h : Steady s t) : Ends s (execKatPeriodic t) := by
  unfold execKatPeriodic
  split <;> simp [h]

@[simp] theorem Steady.katFailed {s t : State} (h : Steady s t) (fails : Nat) : Steady s (t.katFailed fails) := by
  unfold State.katFailed
  split <;> simp (disch := simp (disch := simp [h]) [h])

@[simp] theorem Ends.conditionerKat {s t : State} (h : Steady s t) (pass : Bool) : Ends s (execConditionerKat pass t) := by
  unfold execConditionerKat
  (repeat' split) <;> simp [h]

@[simp] theorem Steady.expanderKat {s t : State} (h : Steady s t) (pass : Bool) : Steady s (t.expanderKat pass) := by
  unfold State.expanderKat
  split <;> simp [h]

@[simp] theorem Ends.expanderKat {s t : State} (h : Steady s t) (pass : Bool) : Ends s (execExpanderKat pass t) := by
  unfold execExpanderKat
  split <;> simp [h]

@[simp] theorem Ends.expanderKatForce {s t : State} (h : Steady s t) (pass : Bool) : Ends s (execExpanderKatForce pass t) := by
  unfold execExpanderKatForce
  split <;> simp [h]

@[simp] theorem Ends.rawCapture {s t : State} (h : Steady s t) (who : Initiator) (v : W32) : Ends s (execRawCapture who v t) := by
  unfold execRawCapture
  simp [h]

@[simp] theorem Ends.rawCaptureDone {s t : State} (h : Steady s t) (samples : Bytes) : Ends s (execRawCaptureDone samples t) := by
  unfold execRawCaptureDone
  split
  · exact ⟨_, rfl, h⟩
  · exact ⟨_, rfl, h.replace (fun hm => Memory.wf_foldl hm (fun _ _ hm => Memory.wf_writeByte hm _ _) _) id id⟩

@[simp] theorem Ends.randomGenerate {s t : State} (h : Steady s t) (r : Req) : Ends s (execRandomGenerate r t) := by
  unfold execRandomGenerate
  simp (disch := simp (disch := simp [h]) [h])

@[simp] theorem Steady.checkAdapter {s t : State} (h : Steady s t) : Steady s t.checkAdapter := by
  unfold State.checkAdapter
  simp [h]

@[simp] theorem Ends.usb4LinkUp {s t : State} (h : Steady s t) (portB : Bool) (gen : Nat) (x2 : Bool) (depth : Nat) :
    Ends s (execUsb4LinkUp portB gen x2 depth t) := by
  unfold execUsb4LinkUp
  dsimp only
  split <;> simp [h]

@[simp] theorem Ends.usb4LinkLoss {s t : State} (h : Steady s t) (portB : Bool) : Ends s (execUsb4LinkLoss portB t) := by
  unfold execUsb4LinkLoss
  dsimp only
  split <;> simp (disch := simp (disch := simp [h]) [h]) [h]

@[simp] theorem Ends.pcieFunctionReset {s t : State} (h : Steady s t) (portB : Bool) : Ends s (execPcieFunctionReset portB t) := by
  unfold execPcieFunctionReset
  split <;> simp (disch := simp (disch := simp [h]) [h]) [h]

@[simp] theorem Ends.downstreamRouterAttach {s t : State} (h : Steady s t) (colrid : Bool) :
    Ends s (execDownstreamRouterAttach colrid t) := by
  unfold execDownstreamRouterAttach
  split <;> simp [h]

@[simp] theorem Ends.dbQctlEnable {s t : State} (h : Steady s t) (portB : Bool) (t' q : Nat) (v : W32) :
    Ends s (execDbQctlEnable portB t' q v t) := by
  unfold execDbQctlEnable
  dsimp only
  (repeat' split) <;> simp [h]

@[simp] theorem Ends.dbQctlDisable {s t : State} (h : Steady s t) (portB : Bool) (t' q : Nat) (v : W32) :
    Ends s (execDbQctlDisable portB t' q v t) := by
  unfold execDbQctlDisable
  split <;> simp [h]

@[simp] theorem Ends.dbSqtailWrite {s t : State} (h : Steady s t) (t' q : Nat) (v : W32) : Ends s (execDbSqtailWrite t' q v t) := by
  unfold execDbSqtailWrite
  dsimp only
  (repeat' split) <;> simp [h]

@[simp] theorem Ends.dbCqheadWrite {s t : State} (h : Steady s t) (t' q : Nat) (v : W32) : Ends s (execDbCqheadWrite t' q v t) := by
  unfold execDbCqheadWrite
  dsimp only
  (repeat' split) <;> simp [h]

@[simp] theorem Ends.completionItimeExpiry {s t : State} (h : Steady s t) (t' q : Nat) : Ends s (execCompletionItimeExpiry t' q t) := by
  unfold execCompletionItimeExpiry
  dsimp only
  split <;> simp [h]

@[simp] theorem Steady.takeEntry {s t : State} (h : Steady s t) (t' q : Nat) (entry : Option Req) : Steady s (t.takeEntry t' q entry) := by
  unfold State.takeEntry
  dsimp only
  (repeat' split) <;> simp (disch := simp (disch := simp [h]) [h]) [h]

@[simp] theorem Ends.sqEntryConsume {s t : State} (h : Steady s t) (t' q : Nat) (entry : Option Req) :
    Ends s (execSqEntryConsume t' q entry t) := by
  unfold execSqEntryConsume
  dsimp only
  split <;> simp [h]

@[simp] theorem Ends.overloadRecord {s t : State} (h : Steady s t) (t' : Nat) : Ends s (execOverloadRecord t' t) := by
  unfold execOverloadRecord
  dsimp only
  (repeat' split) <;> simp [h]

theorem Memory.wf_markUnits {m : Memory} (h : m.wf = true) (us : List Nat) : (m.markUnits us).wf = true := by
  unfold Memory.markUnits
  dsimp only
  split <;> exact h

@[simp] theorem Steady.wipeUnits {s t : State} (h : Steady s t) (us : List Nat) : Steady s (t.wipeUnits us) :=
  h.replace (fun hm => Memory.wf_markUnits (Memory.wf_foldl hm (fun _ _ hm => Memory.wf_zeroRange hm _ _) us) us) id id

@[simp] theorem Steady.cacheRoot {s t : State} (h : Steady s t) (t' : Nat) : Steady s (t.cacheRoot t') := by
  unfold State.cacheRoot
  split <;> simp [h]

@[simp] theorem Steady.openTenant {s t : State} (h : Steady s t) (x : TenantRec) : Steady s (t.openTenant x) := by
  unfold State.openTenant
  simp [h]

@[simp] theorem Steady.fillTenant {s t : State} (h : Steady s t) (t' : Nat) : Steady s (t.fillTenant t') := by
  unfold State.fillTenant
  simp (disch := simp (disch := simp [h]) [h])

@[simp] theorem Steady.createTenant {s t : State} (h : Steady s t) (x : TenantRec) : Steady s (t.createTenant x) := by
  unfold State.createTenant
  simp [h]

@[simp] theorem Steady.releaseKstates {s t : State} (h : Steady s t) (us : List Nat) : Steady s (t.releaseKstates us) := by
  unfold State.releaseKstates
  dsimp only
  split <;> simp [h]

@[simp] theorem Steady.destroyTenant {s t : State} (h : Steady s t) (n : Nat) (erase : Bool) : Steady s (t.destroyTenant n erase) := by
  unfold State.destroyTenant
  extract_lets us _ s1 _ s2 s3 nodes _ s4 ks epochs cloned _ _ s5 s6
  have h1 : Steady s s1 := (h.setTenant _ _).abortWhere _ _
  have h2 : Steady s s2 := h1.replace id id id
  have h3 : Steady s s3 := ((h2.releaseKstates _).wipeUnits _).dropCached _
  have h4 : Steady s s4 := h3.replace id id id
  have h5 : Steady s s5 := steady_ite.mpr ⟨fun _ => h4.replace id id id, fun _ => h4⟩
  exact ((h5.recolourUnits _).setTenant _ _).offer _ _ _ _

@[simp] theorem Steady.signalAll {s t : State} (h : Steady s t) (n v : Nat) : Steady s (t.signalAll n v) :=
  h.foldl (fun u b => by split <;> simp) _

@[simp] theorem Steady.resetTenant {s t : State} (h : Steady s t) (n : Nat) : Steady s (t.resetTenant n) := by
  unfold State.resetTenant
  extract_lets _ s1 s2 x s3
  have h1 : Steady s s1 := (h.setTenant _ _).abortWhere _ _
  have h2 : Steady s s2 := h1.foldl (fun u q => (Steady.refl u).disableQp n q) _
  have h3 : Steady s s3 := (h2.setTenant _ _).dropCached _
  exact (h3.signalAll _ _).offerBurst _ _ _ _

@[simp] theorem Steady.beginLife {s t : State} (h : Steady s t) (t' : Nat) (x : TState) (k : LifeStep) (askers : List Req) :
    Steady s (t.beginLife t' x k askers) := by
  unfold State.beginLife
  simp [h]

@[simp] theorem Steady.joinReset {s t : State} (h : Steady s t) (t' : Nat) (r : Req) : Steady s (t.joinReset t' r) := by
  unfold State.joinReset
  simp [h]

@[simp] theorem Steady.liveOn {s t : State} (h : Steady s t) (w : LifeWork) : Steady s (t.liveOn w) := by
  unfold State.liveOn
  split <;> simp [h]

@[simp] theorem Steady.endLife {s t : State} (h : Steady s t) (w : LifeWork) : Steady s (t.endLife w) :=
  (h.liveOn w).foldl (fun u r => by split <;> simp) _

@[simp] theorem Steady.endLives {s t : State} (h : Steady s t) : Steady s t.endLives := by
  unfold State.endLives
  simp [h]

@[simp] theorem Ends.dbTresetWrite {s t : State} (h : Steady s t) (t' : Nat) (v : W32) : Ends s (execDbTresetWrite t' v t) := by
  unfold execDbTresetWrite
  split <;> simp [h]

@[simp] theorem Steady.refuseBusy {s t : State} (h : Steady s t) (r : Req) : Steady s (t.refuseBusy r) := by
  unfold State.refuseBusy
  simp [h]

@[simp] theorem Ends.tenantCreate {s t : State} (h : Steady s t) (r : Req) : Ends s (execTenantCreate r t) := by
  refine ⟨_, rfl, h.hostCommand r _ fun u => ?_⟩
  dsimp only
  (repeat' split) <;> simp

@[simp] theorem Ends.tenantDestroy {s t : State} (h : Steady s t) (r : Req) : Ends s (execTenantDestroy r t) := by
  unfold execTenantDestroy
  simp [h]

@[simp] theorem Ends.tenantReset {s t : State} (h : Steady s t) (r : Req) : Ends s (execTenantReset r t) := by
  unfold execTenantReset
  simp [h]

@[simp] theorem Ends.tenantQuery {s t : State} (h : Steady s t) (r : Req) : Ends s (execTenantQuery r t) := by
  unfold execTenantQuery
  simp [h]

@[simp] theorem Ends.tenantList {s t : State} (h : Steady s t) (r : Req) : Ends s (execTenantList r t) := by
  unfold execTenantList
  simp [h]

@[simp] theorem Steady.noteInvalid {s t : State} (h : Steady s t) (slot : Nat) (v : Verdict) : Steady s (t.noteInvalid slot v) := by
  unfold State.noteInvalid
  split <;> simp [h]

@[simp] theorem Steady.noteStoredKeys {s t : State} (h : Steady s t) (slot : SMap Byte) (v : Verdict) :
    Steady s (t.noteStoredKeys slot v) := by
  unfold State.noteStoredKeys
  split <;> simp [h]

@[simp] theorem Steady.chooseCopy {s t : State} (h : Steady s t) : Steady s t.chooseCopy.1 := by
  have noted := fun a b => (((h.noteStoredKeys t.img.slotA a).noteInvalid 0 a).noteStoredKeys t.img.slotB b).noteInvalid 1 b
  unfold State.chooseCopy
  generalize validity t t.img.slotA = a
  generalize validity t t.img.slotB = b
  have both := noted a b
  split
  · exact h
  dsimp only
  split
  · split
    · exact both.offer _ _ _ _
    · exact both
  · split
    · exact both
    · split <;> exact both

@[simp] theorem Steady.discardStructure {s t : State} (h : Steady s t) : Steady s t.discardStructure :=
  h.replace (fun hm => Memory.wf_initClass (Memory.wf_initClass hm _) _) id id

@[simp] theorem Steady.applyIslands {s t : State} (h : Steady s t) (i : Image) : Steady s (t.applyIslands i) := by
  unfold State.applyIslands
  simp [h]

@[simp] theorem Steady.applyTables {s t : State} (h : Steady s t) (i : Image) : Steady s (t.applyTables i) := by
  unfold State.applyTables
  simp [h]

@[simp] theorem Steady.applyAlarms {s t : State} (h : Steady s t) (i : Image) (rom : Bool) : Steady s (t.applyAlarms i rom) := by
  unfold State.applyAlarms
  simp [h]

@[simp] theorem Steady.applyPolicies {s t : State} (h : Steady s t) (i : Image) : Steady s (t.applyPolicies i) := by
  unfold State.applyPolicies
  simp (disch := simp (disch := simp [h]) [h])

@[simp] theorem Steady.applyRegion {s t : State} (h : Steady s t) : Steady s t.applyRegion := by
  unfold State.applyRegion
  (repeat' split) <;> simp [h]

@[simp] theorem Steady.applyImage {s t : State} (h : Steady s t) (i : Image) (rom slotB : Bool) : Steady s (t.applyImage i rom slotB) :=
  (((((h.discardStructure.applyIslands i).applyTables i).applyAlarms i rom).replace id id id |>.applyPolicies i).applyRegion.foldl
    (fun u x => (Steady.refl u).createTenant x) _).replace id id id

@[simp] theorem Ends.structureImageApplied {s t : State} (h : Steady s t) : Ends s (execStructureImageApplied t) := by
  have chosen := h.chooseCopy
  unfold execStructureImageApplied
  split
  · exact ⟨_, rfl, h⟩
  split
  · rename_i e; rw [e] at chosen; exact ⟨_, rfl, chosen.applyImage _ _ _⟩
  · rename_i e; rw [e] at chosen; exact ⟨_, rfl, chosen.applyImage _ _ _⟩

@[simp] theorem Steady.generateRoot {s t : State} (h : Steady s t) (b : Bytes) : Steady s (t.generateRoot b) := by
  unfold State.generateRoot
  simp [h]

@[simp] theorem Ends.loadRootGenerate {s t : State} (h : Steady s t) : Ends s (execLoadRootGenerate t) := by
  unfold execLoadRootGenerate
  split
  · split
    · exact ⟨_, rfl, h⟩
    · have drawn := h.takeWords ‹_›
      dsimp only
      split
      · exact ⟨_, rfl, drawn⟩
      · exact ⟨_, rfl, (drawn.generateRoot _).formatRegion.replace id id id⟩
  · exact ⟨_, rfl, h⟩

@[simp] theorem Steady.placePortB {s t : State} (h : Steady s t) : Steady s t.placePortB := by
  unfold State.placePortB
  split <;> simp (disch := simp (disch := simp [h]) [h])

@[simp] theorem Ends.loadEnd {s t : State} (h : Steady s t) : Ends s (execLoadEnd t) := by
  unfold execLoadEnd
  dsimp only
  (repeat' split) <;> simp (disch := simp (disch := simp [h]) [h]) [h]

@[simp] theorem Steady.setMramSlot {s t : State} (h : Steady s t) (b : Bool) (m : SMap Byte) : Steady s (t.setMramSlot b m) := by
  unfold State.setMramSlot
  split <;> simp [h]

@[simp] theorem Ends.imageQuery {s t : State} (h : Steady s t) (r : Req) : Ends s (execImageQuery r t) := by
  unfold execImageQuery
  simp [h]

@[simp] theorem Ends.imageChallenge {s t : State} (h : Steady s t) (r : Req) : Ends s (execImageChallenge r t) := by
  unfold execImageChallenge
  simp (disch := simp (disch := simp [h]) [h])

@[simp] theorem Ends.imageChallengeLapse {s t : State} (h : Steady s t) : Ends s (execImageChallengeLapse t) := by
  unfold execImageChallengeLapse
  (repeat' split) <;> simp [h]

@[simp] theorem Ends.imageBegin {s t : State} (h : Steady s t) (r : Req) (seq len : Nat) : Ends s (execImageBegin r seq len t) := by
  unfold execImageBegin
  simp (disch := simp (disch := simp [h]) [h])

@[simp] theorem Steady.sessionData {s t : State} (h : Steady s t) (x : Session) (off : Nat) (b : Bytes) :
    Steady s (t.sessionData x off b) := by
  unfold State.sessionData
  simp [h]

@[simp] theorem Ends.imageData {s t : State} (h : Steady s t) (r : Req) (off : Nat) : Ends s (execImageData r off t) := by
  refine ⟨_, rfl, h.hostCommand r _ fun u => ?_⟩
  dsimp only
  (repeat' split) <;> simp

@[simp] theorem Steady.onReplica {s t : State} (h : Steady s t) (p : ReplicaWait → Bool) (f : ReplicaWait → List ReplicaWait) :
    Steady s (t.onReplica p f) := by
  unfold State.onReplica
  simp [h]

@[simp] theorem Steady.pumpReplicas {s t : State} (h : Steady s t) (fuel : Nat) : Steady s (State.pumpReplicas fuel t) := by
  induction fuel generalizing t with
  | zero => exact h
  | succ fuel ih =>
    unfold State.pumpReplicas
    split
    · exact h
    split
    · exact h
    · exact ih ((h.onReplica _ _).sendTo _ _ _)

@[simp] theorem Steady.replicaFailed {s t : State} (h : Steady s t) (p : ReplicaWait → Bool) (addr reason : Nat) :
    Steady s (t.replicaFailed p addr reason) := by
  unfold State.replicaFailed
  simp [h]

@[simp] theorem Steady.replicate {s t : State} (h : Steady s t) (copy : Bytes) : Steady s (t.replicate copy) := by
  unfold State.replicate
  dsimp only
  split <;> simp (disch := simp (disch := simp [h]) [h]) [h]

@[simp] theorem Steady.commitSession {s t : State} (h : Steady s t) (x : Session) : Steady s (t.commitSession x).1 := by
  unfold State.commitSession
  dsimp only
  split
  · exact ((h.setMramSlot _ _).replace id id id).noteStoredKeys _ _
  · exact ((((h.setMramSlot _ _).replace id id id).noteStoredKeys _ _).setMramSlot _ _).noteInvalid _ _

@[simp] theorem Ends.imageCommit {s t : State} (h : Steady s t) (r : Req) : Ends s (execImageCommit r t) := by
  refine ⟨_, rfl, h.hostCommand r _ fun u => ?_⟩
  have kept := Steady.refl u
  split
  · exact kept.refuseRange _ _
  dsimp only
  split
  · exact kept.refuseRange _ _
  split
  · exact kept.refuseRange _ _
  split
  · exact kept.refuseRange _ _
  split
  · exact kept.refuseRange _ _
  have written := kept.commitSession ‹Session›
  split
  · exact ((written.replace id id id).answer _ _ _).replicate _
  split
  · exact written.refuse _ _ _ _
  · exact written.refuseRange _ _

@[simp] theorem Ends.replicaRetry {s t : State} (h : Steady s t) (addr : Nat) : Ends s (execReplicaRetry addr t) := by
  unfold execReplicaRetry
  (repeat' split) <;> simp [h]

@[simp] theorem Ends.imageAbort {s t : State} (h : Steady s t) (r : Req) : Ends s (execImageAbort r t) := by
  unfold execImageAbort
  simp (disch := simp (disch := simp [h]) [h])

@[simp] theorem Ends.imageSessionTimeout {s t : State} (h : Steady s t) : Ends s (execImageSessionTimeout t) := by
  unfold execImageSessionTimeout
  simp [h]

@[simp] theorem Ends.imageRead {s t : State} (h : Steady s t) (r : Req) (slot off len : Nat) : Ends s (execImageRead r slot off len t) := by
  unfold execImageRead
  simp [h]

@[simp] theorem Ends.imageApply {s t : State} (h : Steady s t) (r : Req) : Ends s (execImageApply r t) := by
  unfold execImageApply
  simp (disch := simp (disch := simp [h]) [h])

@[simp] theorem Steady.unreachable {s t : State} (h : Steady s t) (r : Req) (owner reason : Nat) :
    Steady s (t.unreachable r owner reason) := by
  unfold State.unreachable
  simp [h]

@[simp] theorem Steady.forward {s t : State} (h : Steady s t) (r : Req) (owner : Nat) : Steady s (t.forward r owner) := by
  unfold State.forward
  (repeat' split) <;> simp [h]

/-- Of the cores and their mailboxes, a completion adds its record alone. -/
theorem complete_zyn (s : State) (r : Req) (status detail reason info outLen : Nat) (out : Bytes) :
    (s.complete r status detail reason info outLen out).zyn =
      { s.zyn with done := (s.complete r status detail reason info outLen out).zyn.done } := by
  have retried (u : State) (t d : Nat) : (u.countRetry t d).zyn = u.zyn := ((OnlyIn.refl _ u).countRetry t d (List.Subset.refl _)).zyn_eq
  unfold State.complete
  extract_lets adm time _ s1 head c _ s2
  have kept : s2.zyn = { s.zyn with done := s2.zyn.done } := by
    unfold s2
    split
    · next t q _ _ =>
      rw [((OnlyIn.refl _ _).settleQp t q (List.Subset.refl _)).zyn_eq, ((OnlyIn.refl _ s1).writeCompletion t q _ _ c (List.Subset.refl _)).zyn_eq]
    · rfl
    · next a id n _ => rw [((OnlyIn.refl _ s1).replyFabric a id n c (List.Subset.refl _)).zyn_eq]
  split
  · rw [retried]
    exact kept
  · exact kept

theorem Evaluates.forward {s t : State} (h : Evaluates s t) (r : Req) (owner : Nat) : Evaluates s (t.forward r owner) := by
  have refused (u : State) (h : Evaluates s u) (status detail reason : Nat) : Evaluates s (u.refuse r status detail reason) :=
    h.step ((Steady.refl u).refuse r status detail reason) (complete_zyn u r status detail reason 0 0 [])
  have lost (reason : Nat) : Evaluates s (t.unreachable r owner reason) := refused _ (h.same rfl) _ _ _
  have sent (n : Nat) (b : Bytes) : Evaluates s (t.sendFrame n 0x20 owner b) :=
    h.step ((Steady.refl t).sendFrame n 0x20 owner b) (by rw [((OnlyIn.refl _ t).sendFrame n 0x20 owner b (List.Subset.refl _)).zyn_eq])
  unfold State.forward
  split
  · exact refused _ h _ _ _
  split
  · exact refused _ h _ _ _
  split
  · exact refused _ h _ _ _
  split
  · exact lost _
  dsimp only
  split
  · exact lost _
  · exact (sent _ _).same rfl

theorem Evaluates.takeWords {s t u : State} {n : Nat} {w : List W128} (h : Evaluates s t) (e : t.takeWords n = some (w, u)) :
    Evaluates s u := by
  refine h.step ((Steady.refl t).takeWords e) ?_
  unfold State.takeWords at e
  split at e
  · cases e
    rfl
  · cases e

theorem Evaluates.useKey {s t u : State} {r : Req} {a : W64} {usage operand : Nat} {algOk : Nat → Bool} {k : RKey} {d : Node}
    (h : Evaluates s t) (e : t.useKey r a usage algOk operand = .ok (u, k, d)) : Evaluates s u := by
  unfold State.useKey at e
  split at e
  · cases e
  split at e
  · cases e
  · cases e; exact h.resolve ‹_›

theorem Evaluates.bindFor {s t : State} (h : Evaluates s t) (n : Nat) (a : W64) (d : Node) : Evaluates s (t.bindFor n a d).1 := by
  unfold State.bindFor
  split
  · split
    · exact h
    · exact h.bindKs ‹_›
  · exact h

theorem Evaluates.spend {s t u : State} {n blocks operand : Nat} {a : W64} {d : Node} {x : Option Rej} (h : Evaluates s t)
    (e : t.spend n a d blocks operand = (u, x)) : Evaluates s u := by
  have bound := h.bindFor n a d
  unfold State.spend at e
  split at e
  · rename_i eb; cases e; rw [eb] at bound; exact bound
  rename_i eb
  rw [eb] at bound
  have charged := bound.chargeBlocks n a d blocks operand
  split at e
  · rename_i ec; cases e; rw [ec] at charged; exact charged
  · rename_i ec
    rw [ec] at charged
    have used := charged.countUse n a d operand
    rw [e] at used
    exact used

/-- The state that an evaluation hands on is as good. -/
def Found.Evaluates (s : State) : Found → Prop
  | .refused t _ _ => Machine.Evaluates s t
  | .forwarded t => Machine.Evaluates s t
  | .waits => True
  | .runs t _ => Machine.Evaluates s t

@[simp] theorem found_refused {s t : State} (x : Rej) (n : Nat) : (Found.refused t x n).Evaluates s ↔ Evaluates s t := Iff.rfl
@[simp] theorem found_forwarded {s t : State} : (Found.forwarded t).Evaluates s ↔ Evaluates s t := Iff.rfl
@[simp] theorem found_waits {s : State} : Found.waits.Evaluates s := trivial
@[simp] theorem found_runs {s t : State} (w : Work) : (Found.runs t w).Evaluates s ↔ Evaluates s t := Iff.rfl

theorem Evaluates.onKey {s t : State} (h : Evaluates s t) (r : Req) (k : RKey) (n : Node) (sealing : Bool) (blocks operand : Nat)
    {w : State → Found} (hw : ∀ u, Evaluates s u → (w u).Evaluates s) : (t.onKey r k n sealing blocks operand w).Evaluates s := by
  unfold State.onKey
  split
  · exact h
  · exact h.forward _ _
  · split
    · exact h.spend ‹_›
    · exact hw _ (h.spend ‹_›)

theorem Found.Evaluates.fits {s t : State} {f : Found} (h : Machine.Evaluates s t) (hf : f.Evaluates s) (r : Req) (n : Nat) :
    (Machine.fits t r n f).Evaluates s := by
  unfold Machine.fits
  split
  · exact h
  · exact hf

theorem Evaluates.draw {s t u : State} {n : Nat} {b : Bytes} (h : Evaluates s t) (e : t.draw n = some (b, u)) : Evaluates s u := by
  unfold State.draw at e
  split at e
  · cases e; exact h
  · obtain ⟨⟨w, v⟩, taken, same⟩ := Option.map_eq_some_iff.mp e
    cases same
    exact h.takeWords taken

theorem Evaluates.drawing {s t : State} (h : Evaluates s t) (n : Nat) {f : State → Bytes → Found} (hf : ∀ u b, Evaluates s u → (f u b).Evaluates s) :
    (t.drawing n f).Evaluates s := by
  unfold State.drawing
  split
  · trivial
  · exact hf _ _ (h.draw ‹_›)

theorem Evaluates.takeNonce {s t u : State} {n operand v : Nat} {a : W64} {wanted : Bool} (h : Evaluates s t)
    (e : t.takeNonce n a wanted operand = .ok (u, v)) : Evaluates s u := by
  unfold State.takeNonce at e
  split at e
  · cases e; exact h
  split at e
  · cases e
  · cases e; exact (h.issueNonce ‹_›).same rfl

@[simp] theorem Evaluates.takeCtx {s t : State} (h : Evaluates s t) (x : CalCmd) (r : Req) : Evaluates s (t.takeCtx x r) := by
  unfold State.takeCtx
  split <;> simp [h]

theorem Found.Evaluates.giveBack {s : State} {f : Found} (hf : f.Evaluates s) (x : CalCmd) (r : Req) : (f.giveBack x r).Evaluates s := by
  unfold Found.giveBack
  split
  · exact hf
  · cases f with
    | refused t e n => exact Machine.Evaluates.setCtx hf _ _
    | forwarded t => exact Machine.Evaluates.setCtx hf _ _
    | waits => trivial
    | runs t w => exact hf

@[simp] theorem Evaluates.startCtx {s t : State} (h : Evaluates s t) (r : Req) (x : CalRun) : Evaluates s (t.startCtx r x) := by
  unfold State.startCtx
  (repeat' split) <;> simp [h]

theorem Evaluates.calRaw {s t : State} (h : Evaluates s t) (r : Req) : (t.calRaw r).Evaluates s := by
  unfold State.calRaw
  split
  · exact h
  have used := h.useKey ‹_›
  split
  · exact used
  refine Found.Evaluates.fits used ?_ r _
  split
  · exact used
  · refine Found.Evaluates.giveBack ((used.takeCtx _ _).onKey _ _ _ _ _ _ fun u hu => ?_) _ _
    split
    · exact hu
    · exact ((hu.takeNonce ‹_›).startCtx _ _).skip _

theorem Evaluates.srgWork {s t : State} (h : Evaluates s t) (x : SrgOp) (f : List Bytes) : (t.srgWork x f).Evaluates s :=
  h.drawing _ fun _ _ hu => hu

theorem Found.Evaluates.ready {s t : State} {f : Found} (hf : f.Evaluates s) (n : Nat) : (t.ready n f).Evaluates s := by
  unfold State.ready
  split
  · exact hf
  · trivial

theorem Evaluates.srgRaw {s t : State} (h : Evaluates s t) (r : Req) {f : Found} (e : t.srgRaw r = f) : f.Evaluates s := by
  have work : ∀ u x f, Machine.Evaluates s u → (u.srgWork x f).Evaluates s := fun u x f hu => hu.srgWork x f
  rw [← e]
  clear e
  unfold State.srgRaw
  unfold srgRawOp
  generalize r.desc.opcode - 0x0410 = op
  dsimp only
  split
  · split
    · exact h
    · refine Found.Evaluates.fits h ?_ r _
      exact work _ _ _ h
  split
  · exact h
  have used := h.useKey ‹_›
  split
  · exact used
  · refine Found.Evaluates.fits used (Found.Evaluates.ready ?_ _) r _
    exact used.onKey _ _ _ _ _ _ fun _ hu => work _ _ _ hu

theorem Evaluates.srgPubkey {s t : State} (h : Evaluates s t) (r : Req) (a : W64) (info : Nat) : (t.srgPubkey r a info).Evaluates s := by
  unfold State.srgPubkey
  split
  · exact h
  · exact h.resolve ‹_›

theorem Evaluates.srgStep {s t : State} (h : Evaluates s t) (n k : Nat) : (t.srgStep n k).Evaluates s := by
  unfold State.srgStep
  dsimp only
  split
  · exact h.same rfl
  · exact h.drawing _ fun _ _ hu => hu

theorem Evaluates.dsaBudgets {s t u : State} {alg unit m : Nat} {seed mu : Bytes} {sig : Option Bytes} (h : Evaluates s t) {fuel n : Nat}
    (e : State.dsaBudgets alg unit seed mu fuel t n = some (sig, m, u)) : Evaluates s u := by
  induction fuel generalizing t n with
  | zero => cases e; exact h
  | succ fuel ih =>
    unfold State.dsaBudgets at e
    split at e
    · cases e
    have drawn := h.draw ‹_›
    split at e
    · cases e; exact drawn
    · refine ih ?_ e
      split
      · exact drawn.same rfl
      · exact Evaluates.offer (drawn.same rfl) _ _ _ _

theorem Evaluates.dsaSign {s t : State} (h : Evaluates s t) (alg unit : Nat) (seed mu : Bytes) (extra : Nat) (f : Bytes → JobResult) :
    (t.dsaSign alg unit seed mu extra f).Evaluates s := by
  unfold State.dsaSign
  split
  · trivial
  · exact h.dsaBudgets ‹_›

theorem Evaluates.tulPubkey {s t : State} (h : Evaluates s t) (r : Req) (a : W64) (info : Nat) : (t.tulPubkey r a info).Evaluates s := by
  unfold State.tulPubkey
  split
  · exact h
  · exact h.resolve ‹_›

theorem Evaluates.compSerge {s t : State} (h : Evaluates s t) (r : Req) : (t.compSerge r).Evaluates s := by
  unfold State.compSerge
  dsimp only
  split
  · split
    · exact h
    · exact (h.resolve ‹_›).srgWork _ _
  · exact h.srgWork _ _

theorem Evaluates.kemEncapsRaw {s t : State} (h : Evaluates s t) (r : Req) (alg : Nat) : (t.kemEncapsRaw r alg).Evaluates s := by
  unfold State.kemEncapsRaw
  split
  · exact h
  split
  · exact h
  split
  · exact h
  · exact Found.Evaluates.fits h (h.drawing _ fun _ _ hu => by exact hu) r _

theorem Evaluates.kemDecapsRaw {s t : State} (h : Evaluates s t) (r : Req) (alg : Nat) : (t.kemDecapsRaw r alg).Evaluates s := by
  unfold State.kemDecapsRaw
  split
  · exact h
  have used := h.useKey ‹_›
  split
  · exact used
  split
  · exact used
  · exact Found.Evaluates.fits used (used.onKey _ _ _ _ _ _ fun _ hu => by exact hu) r _

theorem Evaluates.dsaSignRaw {s t : State} (h : Evaluates s t) (r : Req) (alg unit : Nat) : (t.dsaSignRaw r alg unit).Evaluates s := by
  unfold State.dsaSignRaw
  split
  · exact h
  have used := h.useKey ‹_›
  dsimp only
  split
  · exact used
  split
  · exact used
  · exact Found.Evaluates.fits used (Found.Evaluates.ready (used.onKey _ _ _ _ _ _ fun _ hu => hu.dsaSign _ _ _ _ _ _) _) r _

theorem Evaluates.dsaVerifyRaw {s t : State} (h : Evaluates s t) (r : Req) (alg : Nat) : (t.dsaVerifyRaw r alg).Evaluates s := by
  unfold State.dsaVerifyRaw
  dsimp only
  split
  · exact h
  split
  · exact h
  · exact h

theorem Evaluates.compLattice {s t : State} (h : Evaluates s t) (r : Req) (unit : Nat) : (t.compLattice r unit).Evaluates s := by
  unfold State.compLattice
  dsimp only
  split
  · split
    · exact h
    · exact (h.resolve ‹_›).dsaSign _ _ _ _ _ _
  · exact h

theorem Evaluates.tulRaw {s t : State} (h : Evaluates s t) (r : Req) (unit : Nat) : (t.tulRaw r unit).Evaluates s := by
  unfold State.tulRaw
  dsimp only
  split
  · exact h.kemEncapsRaw _ _
  split
  · exact h.kemDecapsRaw _ _
  split
  · exact h.dsaSignRaw _ _ _
  split
  · exact h.dsaVerifyRaw _ _
  · exact h.compLattice _ _

theorem Evaluates.tulStep {s t : State} (h : Evaluates s t) (n k unit : Nat) : (t.tulStep n k unit).Evaluates s := by
  unfold State.tulStep
  dsimp only
  split
  · exact h.dsaSign _ _ _ _ _ _
  split
  · exact h
  split
  · exact h
  · exact h.dsaSign _ _ _ _ _ _

theorem Evaluates.compSignStart {s t : State} (h : Evaluates s t) (r : Req) : (t.compSignStart r).Evaluates s := by
  unfold State.compSignStart
  dsimp only
  split
  · exact h
  have first := h.useKey ‹_›
  split
  · exact first
  have second := first.useKey ‹_›
  split
  · exact second
  split
  · exact second
  split
  · exact second
  refine Found.Evaluates.fits second ?_ r _
  split
  · exact second
  · exact second.forward _ _
  · refine second.onKey _ _ _ _ _ _ fun u hu => ?_
    split
    · exact hu.spend ‹_›
    · exact hu.spend ‹_›

theorem Evaluates.compVerifyStart {s t : State} (h : Evaluates s t) (r : Req) : (t.compVerifyStart r).Evaluates s := by
  unfold State.compVerifyStart
  dsimp only
  split
  · exact h
  split
  · exact h
  split
  · exact h
  · exact h

theorem Evaluates.hshRaw {s t : State} (h : Evaluates s t) (r : Req) : (t.hshRaw r).Evaluates s := by
  unfold State.hshRaw
  dsimp only
  split
  · exact h.compSignStart r
  split
  · exact h.compVerifyStart r
  split
  · split
    · exact h
    · exact Found.Evaluates.fits h (by exact h) r _
  split
  · exact h
  have used := h.useKey ‹_›
  split
  · exact used
  · exact Found.Evaluates.fits used (used.onKey _ _ _ _ _ _ fun _ hu => by exact hu) r _

theorem Evaluates.pubkeyWork {s t : State} (h : Evaluates s t) (r : Req) (u : EngUnit) : (t.pubkeyWork r u).Evaluates s := by
  unfold State.pubkeyWork
  extract_lets compute
  have computed : ∀ v a info, Machine.Evaluates s v → (compute v a info).Evaluates s := by
    intro v a info hv
    cases u
    · exact hv.srgPubkey _ _ _
    · exact hv.srgPubkey _ _ _
    · exact hv.tulPubkey _ _ _
    · exact hv.srgPubkey _ _ _
  split
  · split
    · split
      · exact h
      · exact computed _ _ _ h
    · exact h
  split
  · exact h
  have known := h.resolve ‹_›
  split
  · exact known
  split
  · exact known
  · exact Found.Evaluates.fits known (known.onKey _ _ _ _ _ _ fun v hv => computed v _ _ hv) r _

theorem Evaluates.evaluate {s t : State} (h : Evaluates s t) (u : EngUnit) (n : Nat) (src : EngSrc) : (t.evaluate u n src).Evaluates s := by
  cases src with
  | raw r =>
    dsimp only [State.evaluate]
    split
    · exact h.skip 1
    split
    · exact h.pubkeyWork r u
    split
    · exact h.calRaw r
    · split
      · exact h.compSerge r
      · generalize e : t.srgRaw r = f
        exact h.srgRaw r e
    · exact h.tulRaw r n
    · exact h.hshRaw r
  | step i k =>
    cases u
    · exact h.skip 1
    · exact h.srgStep i k
    · exact h.tulStep i k n
    · dsimp only [State.evaluate, State.hshStep]
      split <;> exact h

theorem Steady.draw {s t u : State} {n : Nat} {b : Bytes} (h : Steady s t) (e : t.draw n = some (b, u)) : Steady s u :=
  h.trans ((Evaluates.refl t).draw e).steady

theorem Steady.takeNonce {s t u : State} {n operand v : Nat} {a : W64} {wanted : Bool} (h : Steady s t)
    (e : t.takeNonce n a wanted operand = .ok (u, v)) : Steady s u :=
  h.trans ((Evaluates.refl t).takeNonce e).steady

theorem Steady.spend {s t u : State} {n blocks operand : Nat} {a : W64} {d : Node} {x : Option Rej} (h : Steady s t)
    (e : t.spend n a d blocks operand = (u, x)) : Steady s u :=
  h.trans ((Evaluates.refl t).spend e).steady

@[simp] theorem Steady.storeLeaf {s t : State} (h : Steady s t) (t' : Nat) (h' : W64) (n : Node) (key : Bytes) (exportable : Bool) :
    Steady s (t.storeLeaf t' h' n key exportable) := by
  unfold State.storeLeaf
  simp [h]

@[simp] theorem Steady.dropWaiting {s t : State} (h : Steady s t) (u : EngUnit) (x : EngSrc) : Steady s (t.dropWaiting u x) := by
  unfold State.dropWaiting
  simp [h]

@[simp] theorem Steady.setPoolUse {s t : State} (h : Steady s t) (p : PoolRec) (x : PoolUse) : Steady s (t.setPoolUse p x) := by
  unfold State.setPoolUse
  simp [h]

@[simp] theorem Steady.settlePeriod {s t : State} (h : Steady s t) (u : EngUnit) (p : PoolRec) : Steady s (t.settlePeriod u p) := by
  unfold State.settlePeriod
  dsimp only
  (repeat' split) <;> simp [h]

@[simp] theorem Steady.countUsePool {s t : State} (h : Steady s t) (u : EngUnit) (p : PoolRec) (j : Job) :
    Steady s (t.countUsePool u p j) := by
  unfold State.countUsePool
  split <;> simp [h]

@[simp] theorem Steady.addWaiting {s t : State} (h : Steady s t) (u : EngUnit) (j : Job) : Steady s (t.addWaiting u j) := by
  unfold State.addWaiting
  dsimp only
  (repeat' split) <;> simp (disch := simp (disch := simp [h]) [h])

@[simp] theorem Steady.noteRefusal {s t : State} (h : Steady s t) (u : EngUnit) (x : Rej) : Steady s (t.noteRefusal u x) := by
  unfold State.noteRefusal
  simp [h]

@[simp] theorem Steady.refuseJob {s t : State} (h : Steady s t) (u : EngUnit) (e : EngSrc) (x : Rej) (outLen : Nat) :
    Steady s (t.refuseJob u e x outLen) := by
  unfold State.refuseJob
  split <;> simp (disch := simp (disch := simp [h]) [h])

@[simp] theorem Steady.stallJob {s t : State} (h : Steady s t) (e : EngSrc) : Steady s (t.stallJob e) := by
  unfold State.stallJob
  split <;> simp [h]

@[simp] theorem Steady.markCore {s t : State} (h : Steady s t) (n : Nat) (x2 : Option Nat) : Steady s (t.markCore n x2) := by
  unfold State.markCore
  (repeat' split) <;> simp [h]

@[simp] theorem Steady.markHeld {s t : State} (h : Steady s t) (u : EngUnit) (n : Nat) (j : Job) : Steady s (t.markHeld u n j) := by
  unfold State.markHeld
  (repeat' split) <;> simp [h]

@[simp] theorem Steady.occupy {s t : State} (h : Steady s t) (u : EngUnit) (n : Nat) (j : Job) (w : Work) : Steady s (t.occupy u n j w) :=
  (((((h.dropWaiting _ _).setInst _ _ _).markCore _ _).markHeld _ _ _).setEngine _ _).skip _

@[simp] theorem Steady.begin {s t : State} (h : Steady s t) (u : EngUnit) (n : Nat) (j : Job) : Steady s (t.begin u n j) := by
  have found := (Evaluates.refl t).evaluate u n j.src
  unfold State.begin
  split <;> rename_i e <;> rw [e] at found
  · exact (h.trans found.steady).refuseJob _ _ _ _
  · exact (h.trans found.steady).dropWaiting _ _
  · exact h.stallJob _
  · exact (h.trans found.steady).occupy _ _ _ _

@[simp] theorem Steady.pump {s t : State} (h : Steady s t) (u : EngUnit) (p : PoolRec) (fuel : Nat) : Steady s (State.pump u p fuel t) := by
  induction fuel generalizing t with
  | zero => exact h
  | succ fuel ih =>
    unfold State.pump
    split
    · exact h
    split
    · exact ih (h.begin _ _ _)
    · exact h

@[simp] theorem Steady.pumpFor {s t : State} (h : Steady s t) (u : EngUnit) (t' : Nat) : Steady s (t.pumpFor u t') := by
  unfold State.pumpFor
  split <;> simp [h]

@[simp] theorem Steady.pumpAt {s t : State} (h : Steady s t) (u : EngUnit) (n : Nat) : Steady s (t.pumpAt u n) := by
  unfold State.pumpAt
  (repeat' split) <;> simp [h]

@[simp] theorem Steady.unstall {s t : State} (h : Steady s t) (e : EngSrc) : Steady s (t.unstall e) := by
  unfold State.unstall
  split <;> simp [h]

@[simp] theorem Steady.stallWaiting {s t : State} (h : Steady s t) (u : EngUnit) : Steady s (t.stallWaiting u) :=
  h.foldl (fun v j => by split <;> simp) _

@[simp] theorem Steady.offerRaw {s t : State} (h : Steady s t) (u : EngUnit) (r : Req) (code : Nat) : Steady s (t.offerRaw u r code) := by
  unfold State.offerRaw
  (repeat' split) <;> simp (disch := simp (disch := simp [h]) [h])

@[simp] theorem Steady.engineCommand {s t : State} (h : Steady s t) (u : EngUnit) (r : Req) (op : Nat) :
    Steady s (t.engineCommand u r op) := by
  unfold State.engineCommand
  simp [h]

@[simp] theorem Steady.engineStep {s t : State} (h : Steady s t) (u : EngUnit) (prim n k : Nat) : Steady s (t.engineStep u prim n k) := by
  unfold State.engineStep
  dsimp only
  split <;> simp [h]

@[simp] theorem Steady.engineOp {s t : State} (h : Steady s t) (u : EngUnit) (op prim : Nat) (x4 : EngSrc) :
    Steady s (t.engineOp u op prim x4) := by
  unfold State.engineOp
  split <;> simp [h]

@[simp] theorem Steady.leaveCtx {s t : State} (h : Steady s t) (n : Nat) (x2 : Option (Nat × Ctx)) : Steady s (t.leaveCtx n x2) := by
  unfold State.leaveCtx
  (repeat' split) <;> simp [h]

@[simp] theorem Steady.completeWith {s t : State} (h : Steady s t) (r : Req) (o : JobResult) : Steady s (t.completeWith r o) := by
  unfold State.completeWith
  split <;> simp [h]

@[simp] theorem Steady.deliverStep {s t : State} (h : Steady s t) (n k : Nat) (o : StepOut) : Steady s (t.deliverStep n k o) := by
  unfold State.deliverStep
  dsimp only
  split <;> simp [h]

@[simp] theorem Steady.endComposite {s t : State} (h : Steady s t) (u : EngUnit) (r : Req) (j : Job) : Steady s (t.endComposite u r j) := by
  unfold State.endComposite
  split
  · exact ((((h.addWaiting _ _).addWaiting _ _).pumpFor _ _).pumpFor _ _ |>.stallWaiting _).stallWaiting _
  dsimp only
  split
  · exact h.setEngine _ _
  split
  · exact (h.dropJobs _).answer _ _ _
  · exact (h.dropJobs _).answer _ _ _

@[simp] theorem Steady.deliver {s t : State} (h : Steady s t) (u : EngUnit) (n : Nat) (j : Job) : Steady s (t.deliver u n j) := by
  unfold State.deliver
  (repeat' split) <;> simp [h]

@[simp] theorem Steady.countEnd {s t : State} (h : Steady s t) (u : EngUnit) (n : Nat) (j : Job) : Steady s (t.countEnd u n j) := by
  unfold State.countEnd
  dsimp only
  split <;> simp (disch := simp (disch := simp [h]) [h])

@[simp] theorem Steady.fenceInst {s t : State} (h : Steady s t) (u : EngUnit) (n : Nat) : Steady s (t.fenceInst u n) := by
  unfold State.fenceInst
  simp (disch := simp (disch := simp [h]) [h])

@[simp] theorem Steady.abortOp {s t : State} (h : Steady s t) (cause : Nat) (j : Job) : Steady s (t.abortOp cause j) := by
  unfold State.abortOp
  split <;> simp [h]

theorem Steady.abortOps {s t : State} (h : Steady s t) (cause : Nat) (l : List Job) : Steady s (l.foldl (fun u j => u.abortOp cause j) t) :=
  h.foldl (fun u _ => (Steady.refl u).abortOp _ _) _

@[simp] theorem Steady.unitFault {s t : State} (h : Steady s t) (u : EngUnit) (n check : Nat) : Steady s (t.unitFault u n check) :=
  (((h.abortOps _ _).setInst _ _ _).offer _ _ _ _ |>.fenceInst _ _).faultEvent _ _

@[simp] theorem Steady.settleFence {s t : State} (h : Steady s t) (u : EngUnit) (n : Nat) : Steady s (t.settleFence u n) := by
  unfold State.settleFence
  dsimp only
  split <;> simp [h]

@[simp] theorem Steady.askFence {s t : State} (h : Steady s t) (u : EngUnit) (n : Nat) : Steady s (t.askFence u n) := by
  unfold State.askFence
  (repeat' split) <;> simp [h]

@[simp] theorem Steady.askLift {s t : State} (h : Steady s t) (u : EngUnit) (n : Nat) : Steady s (t.askLift u n) := by
  unfold State.askLift
  (repeat' split) <;> simp [h]

@[simp] theorem Steady.resume {s t : State} (h : Steady s t) (u : EngUnit) (n : Nat) : Steady s (t.resume u n) := by
  unfold State.resume
  dsimp only
  (repeat' split) <;> simp [h]

@[simp] theorem Steady.next {s t : State} (h : Steady s t) (u : EngUnit) (n : Nat) : Steady s (t.next u n) := by
  unfold State.next
  dsimp only
  (repeat' split) <;> simp [h]

@[simp] theorem Steady.settleUnit {s t : State} (h : Steady s t) (u : EngUnit) : Steady s (t.settleUnit u) :=
  (h.foldl (fun v n => by simp) _).foldl (fun v p => by simp) _

@[simp] theorem Steady.settleUnits {s t : State} (h : Steady s t) : Steady s t.settleUnits := by
  unfold State.settleUnits
  simp (disch := simp (disch := simp [h]) [h])

@[simp] theorem Steady.faultCommand {s t : State} (h : Steady s t) (u : EngUnit) (n check : Nat) : Steady s (t.faultCommand u n check) := by
  unfold State.faultCommand
  split <;> simp [h]

@[simp] theorem Steady.endOp {s t : State} (h : Steady s t) (u : EngUnit) (n : Nat) : Steady s (t.endOp u n) := by
  unfold State.endOp
  dsimp only
  (repeat' split) <;> simp (disch := simp (disch := simp [h]) [h]) [h]

@[simp] theorem Steady.selfTest {s t : State} (h : Steady s t) (u : EngUnit) (n : Nat) (pass : Bool) (vector : Nat) :
    Steady s (t.selfTest u n pass vector) := by
  unfold State.selfTest
  dsimp only
  split
  · exact h
  split
  · split
    · exact (((h.setInst _ _ _).setEngine _ _).afterLift.settleFence _ _).pumpAt _ _
    · exact (((h.setInst _ _ _).setEngine _ _).settleFence _ _).pumpAt _ _
  · exact ((((((h.setInst _ _ _).setEngine _ _).abortOps _ _).offer _ _ _ _).fenceInst _ _).faultEvent _ _).settleUnits

@[simp] theorem Steady.starveTest {s t : State} (h : Steady s t) (u : EngUnit) (n : Nat) : Steady s (t.starveTest u n) := by
  unfold State.starveTest
  split <;> simp [h]

@[simp] theorem Steady.askTest {s t : State} (h : Steady s t) (u : EngUnit) (n : Nat) : Steady s (t.askTest u n) := by
  unfold State.askTest
  split <;> simp [h]

@[simp] theorem Steady.retryWaiting {s t : State} (h : Steady s t) (u : EngUnit) : Steady s (t.retryWaiting u) :=
  h.foldl (fun v j => by split <;> simp) _

@[simp] theorem Steady.reseedCommand {s t : State} (h : Steady s t) (u : EngUnit) (n : Nat) : Steady s (t.reseedCommand u n) := by
  unfold State.reseedCommand
  split <;> simp (disch := simp (disch := simp [h]) [h]) [h]

@[simp] theorem Steady.stallInst {s t : State} (h : Steady s t) (u : EngUnit) (n : Nat) : Steady s (t.stallInst u n) := by
  unfold State.stallInst
  split <;> simp [h]

@[simp] theorem Steady.clearInst {s t : State} (h : Steady s t) (u : EngUnit) (n : Nat) (f : UnitInst → UnitInst) :
    Steady s (t.clearInst u n f) := by
  unfold State.clearInst
  split <;> simp [h]

@[simp] theorem Steady.engineWrite {s t : State} (h : Steady s t) (who : Initiator) (controlOnly : Bool) {f : State → State}
    (hf : ∀ u, Steady u (f u)) : Steady s (t.engineWrite who controlOnly f) := by
  unfold State.engineWrite
  simp [h, hf]

@[simp] theorem Ends.calEncrypt {s t : State} (h : Steady s t) (r : Req) : Ends s (execCalEncrypt r t) := by
  unfold execCalEncrypt
  simp [h]

@[simp] theorem Ends.calDecrypt {s t : State} (h : Steady s t) (r : Req) : Ends s (execCalDecrypt r t) := by
  unfold execCalDecrypt
  simp [h]

@[simp] theorem Ends.calMacGen {s t : State} (h : Steady s t) (r : Req) : Ends s (execCalMacGen r t) := by
  unfold execCalMacGen
  simp [h]

@[simp] theorem Ends.calMacVer {s t : State} (h : Steady s t) (r : Req) : Ends s (execCalMacVer r t) := by
  unfold execCalMacVer
  simp [h]

@[simp] theorem Ends.ecbEnc {s t : State} (h : Steady s t) (n st : Nat) : Ends s (execEcbEnc n st t) := by
  unfold execEcbEnc
  simp [h]

@[simp] theorem Ends.ecbDec {s t : State} (h : Steady s t) (n st : Nat) : Ends s (execEcbDec n st t) := by
  unfold execEcbDec
  simp [h]

@[simp] theorem Ends.cbcEnc {s t : State} (h : Steady s t) (n st : Nat) : Ends s (execCbcEnc n st t) := by
  unfold execCbcEnc
  simp [h]

@[simp] theorem Ends.cbcDec {s t : State} (h : Steady s t) (n st : Nat) : Ends s (execCbcDec n st t) := by
  unfold execCbcDec
  simp [h]

@[simp] theorem Ends.cbcMac {s t : State} (h : Steady s t) (n st : Nat) : Ends s (execCbcMac n st t) := by
  unfold execCbcMac
  simp [h]

@[simp] theorem Ends.cmac {s t : State} (h : Steady s t) (n st : Nat) : Ends s (execCmac n st t) := by
  unfold execCmac
  simp [h]

@[simp] theorem Ends.gcmSeal {s t : State} (h : Steady s t) (n st : Nat) : Ends s (execGcmSeal n st t) := by
  unfold execGcmSeal
  simp [h]

@[simp] theorem Ends.gcmOpen {s t : State} (h : Steady s t) (n st : Nat) : Ends s (execGcmOpen n st t) := by
  unfold execGcmOpen
  simp [h]

@[simp] theorem Ends.calMessageEnd {s t : State} (h : Steady s t) (n : Nat) : Ends s (execCalMessageEnd n t) := by
  unfold execCalMessageEnd
  simp [h]

@[simp] theorem Steady.ask {s t : State} (h : Steady s t) (n st : Nat) : Steady s (t.ask n st) := by
  unfold State.ask
  simp [h]

@[simp] theorem Ends.twillSuspensionRequest {s t : State} (h : Steady s t) (n st : Nat) : Ends s (execTwillSuspensionRequest n st t) := by
  unfold execTwillSuspensionRequest
  dsimp only
  (repeat' split) <;> simp [h]

@[simp] theorem Steady.saveState {s t : State} (h : Steady s t) (n d : Nat) (j : Job) : Steady s (t.saveState n d j) := by
  unfold State.saveState
  (repeat' split) <;> simp [h]

@[simp] theorem Steady.suspend {s t : State} (h : Steady s t) (n left : Nat) (j q : Job) : Steady s (t.suspend n left j q) := by
  unfold State.suspend
  dsimp only
  split
  · exact (h.setInst _ _ _).saveState _ _ _
  · exact ((h.setInst _ _ _).saveState _ _ _).replace (fun hm => Memory.wf_zeroRange hm _ _) id id

@[simp] theorem Steady.serveAsking {s t : State} (h : Steady s t) (n : Nat) (q : Job) : Steady s (t.serveAsking n q) := by
  unfold State.serveAsking
  dsimp only
  split <;> simp [h]

@[simp] theorem Ends.calSuspend {s t : State} (h : Steady s t) (n : Nat) : Ends s (execCalSuspend n t) := by
  unfold execCalSuspend
  (repeat' split) <;> simp (disch := simp (disch := simp [h]) [h]) [h]

@[simp] theorem Steady.countOverflow {s t : State} (h : Steady s t) (p : PoolRec) (j : Job) : Steady s (t.countOverflow p j) := by
  unfold State.countOverflow
  split <;> simp [h]

@[simp] theorem Ends.calSuspensionOverflow {s t : State} (h : Steady s t) (n : Nat) : Ends s (execCalSuspensionOverflow n t) := by
  unfold execCalSuspensionOverflow
  split
  · dsimp only
    split
    · split
      · exact ⟨_, rfl, h⟩
      · exact ⟨_, rfl, (((((h.skip _).abortOp _ _).setInst _ _ _).countOverflow _ _).serveAsking _ _).settleUnits⟩
    · exact ⟨_, rfl, h⟩
  · exact ⟨_, rfl, h⟩

@[simp] theorem Ends.calFault {s t : State} (h : Steady s t) (n check : Nat) : Ends s (execCalFault n check t) := by
  unfold execCalFault
  simp [h]

@[simp] theorem Ends.calSelftest {s t : State} (h : Steady s t) (n : Nat) (pass : Bool) (vector : Nat) :
    Ends s (execCalSelftest n pass vector t) := by
  unfold execCalSelftest
  simp [h]

@[simp] theorem Ends.calSelftestStarve {s t : State} (h : Steady s t) (n : Nat) : Ends s (execCalSelftestStarve n t) := by
  unfold execCalSelftestStarve
  simp [h]

@[simp] theorem Ends.calSelftestRequest {s t : State} (h : Steady s t) (who : Initiator) (n : Nat) :
    Ends s (execCalSelftestRequest who n t) := by
  unfold execCalSelftestRequest
  simp [h]

@[simp] theorem Ends.calReseed {s t : State} (h : Steady s t) (n : Nat) : Ends s (execCalReseed n t) := by
  unfold execCalReseed
  simp [h]

@[simp] theorem Ends.calReseedStall {s t : State} (h : Steady s t) (n : Nat) : Ends s (execCalReseedStall n t) := by
  unfold execCalReseedStall
  simp [h]

@[simp] theorem Ends.calFence {s t : State} (h : Steady s t) (who : Initiator) (n : Nat) : Ends s (execCalFence who n t) := by
  unfold execCalFence
  simp [h]

@[simp] theorem Ends.calFenceLift {s t : State} (h : Steady s t) (who : Initiator) (n : Nat) : Ends s (execCalFenceLift who n t) := by
  unfold execCalFenceLift
  simp [h]

@[simp] theorem Ends.calClearBlk {s t : State} (h : Steady s t) (who : Initiator) (n : Nat) : Ends s (execCalClearBlk who n t) := by
  unfold execCalClearBlk
  simp [h]

@[simp] theorem Ends.calClearSusp {s t : State} (h : Steady s t) (who : Initiator) (n : Nat) : Ends s (execCalClearSusp who n t) := by
  unfold execCalClearSusp
  simp [h]

@[simp] theorem Ends.calClearFault {s t : State} (h : Steady s t) (who : Initiator) (n : Nat) : Ends s (execCalClearFault who n t) := by
  unfold execCalClearFault
  simp [h]

@[simp] theorem Steady.setChannel {s t : State} (h : Steady s t) (ch : Nat) (c : Channel) : Steady s (t.setChannel ch c) := by
  unfold State.setChannel
  simp [h]

@[simp] theorem Steady.scan {s t : State} (h : Steady s t) (ch : Nat) (samples : List Nat)
    {onHit : Channel → Baseline → List Nat → Nat × Nat → State} (hit : ∀ m b l x, Steady s (onHit m b l x)) :
    Steady s (t.scan ch samples onHit) := by
  unfold State.scan
  dsimp only
  split
  · split
    · exact h
    split
    · exact hit _ _ _ _
    · exact (h.setChannel _ _).calm _
  · exact h

@[simp] theorem Ends.meshScan {s t : State} (h : Steady s t) (ch : Nat) (samples : List Nat) : Ends s (execMeshScan ch samples t) := by
  unfold execMeshScan
  simp [h]

@[simp] theorem Ends.meshConfirmScan {s t : State} (h : Steady s t) (ch : Nat) (samples : List Nat) :
    Ends s (execMeshConfirmScan ch samples t) := by
  unfold execMeshConfirmScan
  simp (disch := simp (disch := simp [h]) [h]) [h]

@[simp] theorem Steady.detect {s t : State} (h : Steady s t) (mon : Nat) (present : Bool) (data : Nat) :
    Steady s (t.detect mon present data) := by
  unfold State.detect
  (repeat' split) <;> simp [h]

@[simp] theorem Steady.setLit {s t : State} (h : Steady s t) (cell : Nat) (above : Bool) : Steady s (t.setLit cell above) := by
  unfold State.setLit
  simp [h]

@[simp] theorem Ends.lightDetect {s t : State} (h : Steady s t) (cell level : Nat) : Ends s (execLightDetect cell level t) := by
  unfold execLightDetect
  dsimp only
  (repeat' split) <;> simp [h]

@[simp] theorem Ends.junctionTempDetect {s t : State} (h : Steady s t) (sensor reading : Nat) :
    Ends s (execJunctionTempDetect sensor reading t) := by
  unfold execJunctionTempDetect
  split <;> simp [h]

@[simp] theorem Ends.vinOvervoltage {s t : State} (h : Steady s t) (mv : Nat) : Ends s (execVinOvervoltage mv t) := by
  unfold execVinOvervoltage
  split <;> simp [h]

@[simp] theorem Ends.railDetect {s t : State} (h : Steady s t) (rail mv uv : Nat) : Ends s (execRailDetect rail mv uv t) := by
  unfold execRailDetect
  split <;> simp [h]

@[simp] theorem Ends.frequencyDetect {s t : State} (h : Steady s t) (isl period : Nat) (short : Bool) :
    Ends s (execFrequencyDetect isl period short t) := by
  unfold execFrequencyDetect
  split <;> simp [h]

@[simp] theorem Ends.glitchDetect {s t : State} (h : Steady s t) (n : Nat) : Ends s (execGlitchDetect n t) := by
  unfold execGlitchDetect
  split <;> simp [h]

@[simp] theorem Steady.pinSample {s t : State} (h : Steady s t) (pin : Nat) (hit : Bool) : Steady s (t.pinSample pin hit) := by
  unfold State.pinSample
  dsimp only
  (repeat' split) <;> simp [h]

@[simp] theorem Ends.intrusionPinSample {s t : State} (h : Steady s t) (pin : Nat) (level : Bool) :
    Ends s (execIntrusionPinSample pin level t) := by
  unfold execIntrusionPinSample
  dsimp only
  (repeat' split) <;> simp [h]

@[simp] theorem Ends.dynamicPairTick {s t : State} (h : Steady s t) (pair : Nat) (same : Bool) :
    Ends s (execDynamicPairTick pair same t) := by
  unfold execDynamicPairTick
  split <;> simp [h]

@[simp] theorem Ends.backupMonitorCheck {s t : State} (h : Steady s t) (vbatMv temp : Nat) :
    Ends s (execBackupMonitorCheck vbatMv temp t) := by
  unfold execBackupMonitorCheck
  (repeat' split) <;> simp (disch := simp (disch := simp [h]) [h])

@[simp] theorem Steady.setPins {s t : State} (h : Steady s t) (v : BitVec 16) : Steady s (t.setPins v) := by
  unfold State.setPins
  split <;> simp (disch := simp (disch := simp [h]) [h]) [h]

@[simp] theorem Ends.bkdIntrcfgWrite {s t : State} (h : Steady s t) (who : Initiator) (v : BitVec 16) :
    Ends s (execBkdIntrcfgWrite who v t) := by
  unfold execBkdIntrcfgWrite
  simp [h]

@[simp] theorem Ends.alarmHoldExpiry {s t : State} (h : Steady s t) (mon : Nat) : Ends s (execAlarmHoldExpiry mon t) := by
  unfold execAlarmHoldExpiry
  dsimp only
  (repeat' split) <;> simp [h]

@[simp] theorem Steady.startStimulus {s t : State} (h : Steady s t) (mon : Nat) : Steady s (t.startStimulus mon) := by
  unfold State.startStimulus
  simp [h]

@[simp] theorem Ends.stimulusDue {s t : State} (h : Steady s t) (mon : Nat) : Ends s (execStimulusDue mon t) := by
  unfold execStimulusDue
  (repeat' split) <;> simp [h]

@[simp] theorem Ends.stimulusRequest {s t : State} (h : Steady s t) (who : Initiator) (v : W32) : Ends s (execStimulusRequest who v t) := by
  refine ⟨_, rfl, h.byControl who fun u => ?_⟩
  dsimp only
  split
  · split <;> simp
  · simp

@[simp] theorem Steady.nextStimulus {s t : State} (h : Steady s t) : Steady s t.nextStimulus := by
  unfold State.nextStimulus
  (repeat' split) <;> simp [h]

@[simp] theorem Ends.stimulusEnd {s t : State} (h : Steady s t) (pass : Bool) : Ends s (execStimulusEnd pass t) := by
  unfold execStimulusEnd
  dsimp only
  (repeat' split) <;> simp (disch := simp (disch := simp [h]) [h]) [h]

@[simp] theorem Steady.logFullLock {s t : State} (h : Steady s t) : Steady s t.logFullLock := by
  unfold State.logFullLock
  (repeat' split) <;> simp [h]

@[simp] theorem Steady.appendLog {s t : State} (h : Steady s t) (e : LogEvent) : Steady s (t.appendLog e) := by
  unfold State.appendLog
  dsimp only
  (repeat' split) <;> simp [h]

@[simp] theorem Ends.tamperLogWrite {s t : State} (h : Steady s t) : Ends s (execTamperLogWrite t) := by
  refine ⟨_, rfl, ?_⟩
  split
  · exact h
  next e rest eq =>
    have shorter : t.bkd.logQueue.length ≤ 32 → rest.length ≤ 32 := by rw [eq]; exact (Nat.le_succ _).trans
    dsimp only
    split
    · exact ((h.replace id id shorter).appendLog e).replace id id fun _ => by simp
    · exact (h.replace id id shorter).appendLog e

theorem Steady.auditKey {s t u : State} {k : RKey} (h : Steady s t) (e : t.auditKey = some (u, k)) : Steady s u := by
  unfold State.auditKey at e
  dsimp only at e
  split at e
  · cases e
  split at e
  · cases e
  split at e
  · cases e; exact h.resolve ‹_›
  · cases e

@[simp] theorem Steady.answerAudit {s t : State} (h : Steady s t) (r : Req) (info : Nat) (header : Bool → Bytes) (body : Bytes) :
    Steady s (t.answerAudit r info header body) := by
  unfold State.answerAudit
  split
  · exact h.answer _ _ _
  dsimp only
  split
  · exact h.complete _ _ _ _ _ _ _
  split
  · exact h.stallFor _
  · exact ((h.auditKey ‹_›).draw ‹_›).answer _ _ _

@[simp] theorem Ends.tamperExport {s t : State} (h : Steady s t) (r : Req) : Ends s (execTamperExport r t) := by
  unfold execTamperExport
  simp [h]

@[simp] theorem Ends.meshQuery {s t : State} (h : Steady s t) (r : Req) : Ends s (execMeshQuery r t) := by
  unfold execMeshQuery
  simp [h]

@[simp] theorem Steady.setCore {s t : State} (h : Steady s t) (n : Nat) (c : ZCore) : Steady s (t.setCore n c) := by
  unfold State.setCore
  simp [h]

@[simp] theorem Steady.raiseLine {s t : State} (h : Steady s t) (n line : Nat) : Steady s (t.raiseLine n line) := by
  unfold State.raiseLine
  dsimp only
  split <;> simp [h]

@[simp] theorem Steady.setWorker {s t : State} (h : Steady s t) (n : Nat) (w : WorkerCtl) : Steady s (t.setWorker n w) := by
  unfold State.setWorker
  simp [h]

@[simp] theorem Steady.clearWatch {s t : State} (h : Steady s t) (n : Nat) : Steady s (t.clearWatch n) := by
  unfold State.clearWatch
  simp [h]

@[simp] theorem Steady.dropMailWork {s t : State} (h : Steady s t) (n : Nat) : Steady s (t.dropMailWork n) := by
  unfold State.dropMailWork
  simp [h]

@[simp] theorem Steady.zeroMailboxes {s t : State} (h : Steady s t) (n : Nat) : Steady s (t.zeroMailboxes n) :=
  h.replace (fun hm => Memory.wf_foldl hm (fun _ _ hm => Memory.wf_zeroRange hm _ _) _) id id

@[simp] theorem Steady.declareDown {s t : State} (h : Steady s t) (n cause : Nat) : Steady s (t.declareDown n cause) := by
  unfold State.declareDown
  dsimp only
  split
  · exact h
  split
  · exact (((((h.setWorker _ _).setCore _ _).dropMailWork _).zeroMailboxes _).offer _ _ _ _ |>.offer _ _ _ _).afterFence
  · exact ((((h.setWorker _ _).setCore _ _).dropMailWork _).zeroMailboxes _).offer _ _ _ _

@[simp] theorem Steady.enterRestarted {s t : State} (h : Steady s t) (n scnum : Nat) (args : ZBank) :
    Steady s (t.enterRestarted n scnum args) := by
  unfold State.enterRestarted
  simp [h]

@[simp] theorem Steady.doubleFault {s t : State} (h : Steady s t) (n cause slot : Nat) : Steady s (t.doubleFault n cause slot) := by
  unfold State.doubleFault
  dsimp only
  (repeat' split) <;> simp [h]

@[simp] theorem Steady.exception {s t : State} (h : Steady s t) (n cls cause slot : Nat) (taddr : W32) :
    Steady s (t.exception n cls cause slot taddr) := by
  unfold State.exception
  dsimp only
  split <;> simp [h]

@[simp] theorem Steady.edgeTo {s t : State} (h : Steady s t) (pin n : Nat) : Steady s (t.edgeTo pin n) := by
  unfold State.edgeTo
  split <;> simp [h]

@[simp] theorem Ends.gpEdge {s t : State} (h : Steady s t) (pin : Nat) : Ends s (execGpEdge pin t) := by
  unfold execGpEdge
  split <;> simp [h]

@[simp] theorem Ends.supvPinwWrite {s t : State} (h : Steady s t) (who : Initiator) (v : BitVec 16) :
    Ends s (execSupvPinwWrite who v t) := by
  unfold execSupvPinwWrite
  simp [h]

@[simp] theorem Ends.supvIrqwWrite {s t : State} (h : Steady s t) (who : Initiator) (n : Nat) (v : W32) :
    Ends s (execSupvIrqwWrite who n v t) := by
  unfold execSupvIrqwWrite
  simp (disch := simp (disch := simp [h]) [h])

@[simp] theorem Ends.supvSwi {s t : State} (h : Steady s t) (who : Initiator) (core line : Nat) : Ends s (execSupvSwi who core line t) := by
  unfold execSupvSwi
  simp [h]

@[simp] theorem Ends.supvWcolWrite {s t : State} (h : Steady s t) (who : Initiator) (n : Nat) (v : W32) :
    Ends s (execSupvWcolWrite who n v t) := by
  unfold execSupvWcolWrite
  simp [h]

@[simp] theorem Ends.secureWatchdogExpiry {s t : State} (h : Steady s t) (n : Nat) : Ends s (execSecureWatchdogExpiry n t) := by
  unfold execSecureWatchdogExpiry
  split <;> simp [h]

@[simp] theorem Ends.supvSwctlDown {s t : State} (h : Steady s t) (who : Initiator) (n : Nat) : Ends s (execSupvSwctlDown who n t) := by
  unfold execSupvSwctlDown
  split <;> simp [h]

@[simp] theorem Ends.secureRestartPending {s t : State} (h : Steady s t) (n : Nat) : Ends s (execSecureRestartPending n t) := by
  unfold execSecureRestartPending
  dsimp only
  (repeat' split) <;> simp [h]

@[simp] theorem Ends.supvSwbeat {s t : State} (h : Steady s t) (who : Initiator) (n : Nat) : Ends s (execSupvSwbeat who n t) := by
  unfold execSupvSwbeat
  split <;> simp [h]

@[simp] theorem Steady.abortLoading {s t : State} (h : Steady s t) : Steady s t.abortLoading := by
  unfold State.abortLoading
  simp [h]

@[simp] theorem Steady.dropPrivileged {s t : State} (h : Steady s t) (b : Bool) : Steady s (t.dropPrivileged b) := by
  unfold State.dropPrivileged
  simp [h]

@[simp] theorem Steady.takeControl {s t : State} (h : Steady s t) (b : Bool) (cause check : Nat) :
    Steady s (t.takeControl b cause check) := by
  unfold State.takeControl
  simp (disch := simp (disch := simp [h]) [h])

@[simp] theorem Steady.loseControl {s t : State} (h : Steady s t) : Steady s t.loseControl := by
  unfold State.loseControl
  simp (disch := simp (disch := simp [h]) [h])

@[simp] theorem Steady.noteGiveup {s t : State} (h : Steady s t) (b : Bool) : Steady s (t.noteGiveup b) := by
  unfold State.noteGiveup
  split <;> simp [h]

@[simp] theorem Steady.giveUp {s t : State} (h : Steady s t) (b : Bool) (check : Nat) (fence : Bool) :
    Steady s (t.giveUp b check fence) := by
  unfold State.giveUp
  dsimp only
  (repeat' split) <;> simp (disch := simp (disch := simp [h]) [h])

@[simp] theorem Ends.supervisorCheckFailure {s t : State} (h : Steady s t) (b : Bool) (check : Nat) :
    Ends s (execSupervisorCheckFailure b check t) := by
  unfold execSupervisorCheckFailure
  (repeat' split) <;> simp [h]

@[simp] theorem Ends.supvCtlGiveup {s t : State} (h : Steady s t) (b : Bool) : Ends s (execSupvCtlGiveup b t) := by
  unfold execSupvCtlGiveup
  split <;> simp [h]

@[simp] theorem Ends.supervisorSelftestDone {s t : State} (h : Steady s t) (b pass : Bool) :
    Ends s (execSupervisorSelftestDone b pass t) := by
  unfold execSupervisorSelftestDone
  (repeat' split) <;> simp [h]

@[simp] theorem Steady.fenceSup {s t : State} (h : Steady s t) (who : Initiator) (b on : Bool) : Steady s (t.fenceSup who b on) := by
  unfold State.fenceSup
  dsimp only
  (repeat' split) <;> simp [h]

@[simp] theorem Ends.supvCtlFenceA {s t : State} (h : Steady s t) (who : Initiator) (on : Bool) : Ends s (execSupvCtlFenceA who on t) := by
  unfold execSupvCtlFenceA
  split <;> simp [h]

@[simp] theorem Ends.supvCtlFenceB {s t : State} (h : Steady s t) (who : Initiator) (on : Bool) : Ends s (execSupvCtlFenceB who on t) := by
  unfold execSupvCtlFenceB
  split <;> simp [h]

@[simp] theorem Steady.rejectBatch {s t : State} (h : Steady s t) : Steady s t.rejectBatch := by
  unfold State.rejectBatch
  simp [h]

@[simp] theorem Steady.compareShadow {s t : State} (h : Steady s t) : Steady s t.compareShadow := by
  unfold State.compareShadow
  dsimp only
  (repeat' split) <;> simp [h]

@[simp] theorem Steady.acceptBatch {s t : State} (h : Steady s t) (x : Delta) : Steady s (t.acceptBatch x) := by
  unfold State.acceptBatch
  simp [h]

@[simp] theorem Steady.reclaim {s t : State} (h : Steady s t) : Steady s t.reclaim := by
  unfold State.reclaim
  simp [h]

@[simp] theorem Steady.standDown {s t : State} (h : Steady s t) (b : Bool) : Steady s (t.standDown b) := by
  unfold State.standDown
  simp [h]

@[simp] theorem Ends.batchPresent {s t : State} (h : Steady s t) (b : Bool) (delta : Bytes) : Ends s (execBatchPresent b delta t) := by
  unfold execBatchPresent
  (repeat' split) <;> simp [h]

@[simp] theorem Ends.missedBatchTakeover {s t : State} (h : Steady s t) (delta : Bytes) : Ends s (execMissedBatchTakeover delta t) := by
  unfold execMissedBatchTakeover
  (repeat' split) <;> simp [h]

@[simp] theorem Steady.regionWrite {s t : State} (h : Steady s t) (off : Nat) (b : Bytes) : Steady s (t.regionWrite off b) := by
  unfold State.regionWrite
  (repeat' split) <;> simp [h]

@[simp] theorem Steady.keycWrite {s t : State} (h : Steady s t) (off : Nat) : Steady s (t.keycWrite off) := by
  unfold State.keycWrite
  split <;> simp [h]

theorem State.keycWrite_keeps (t : State) (off : Nat) : (t.keycWrite off).part = t.part ∧ (t.keycWrite off).pending = t.pending
    ∧ (t.keycWrite off).rcd = t.rcd ∧ (t.keycWrite off).bkd = t.bkd := by
  unfold State.keycWrite State.drew
  split <;> simp

theorem State.regionWrite_keeps (t : State) (off : Nat) (b : Bytes) : (t.regionWrite off b).part = t.part
    ∧ (t.regionWrite off b).pending = t.pending ∧ (t.regionWrite off b).rcd = t.rcd ∧ (t.regionWrite off b).bkd = t.bkd := by
  unfold State.regionWrite
  dsimp only
  repeat' split
  all_goals simp only [and_self]

theorem State.poke_keeps (t : State) (a : Nat) (b : Bytes) : (t.poke a b).part = t.part ∧ (t.poke a b).pending = t.pending
    ∧ (t.poke a b).rcd.queue = t.rcd.queue ∧ (t.poke a b).bkd = t.bkd := by
  obtain ⟨p, q, r, k⟩ := t.keycWrite_keeps (a - 0x90000000)
  obtain ⟨p', q', r', k'⟩ := t.regionWrite_keeps (a - 0xA0300000) b
  unfold State.poke
  dsimp only
  split
  · simp
  split
  · simp [p, q, r, k]
  split
  · simp
  split
  · simp
  split
  · simp
  split
  · simp [p', q', r', k']
  split <;> simp

@[simp] theorem Steady.poke {s t : State} (h : Steady s t) (a : Nat) (b : Bytes) : Steady s (t.poke a b) := by
  obtain ⟨part, pending, queue, bkd⟩ := t.poke_keeps a b
  exact ⟨part.trans h.part, pending.trans h.pending, fun hm => State.wf_poke (h.mem hm) a b, queue ▸ h.queue, bkd ▸ h.log⟩

@[simp] theorem Steady.noteCorrected {s t : State} (h : Steady s t) (k n word : Nat) (foreground : Bool) :
    Steady s (t.noteCorrected k n word foreground) := by
  unfold State.noteCorrected
  split
  · exact h
  · extract_lets m q u
    have h1 : Steady s u := h.replace (by exact id) id id
    exact h1.foldl (fun v _ => (Steady.refl v).offerBurst _ _ _ _) _

@[simp] theorem Steady.readWord {s t : State} (h : Steady s t) (a n master : Nat) : Steady s (t.readWord a n master).1 := by
  unfold State.readWord
  split
  · exact h.noteUncorrectable _ _ _
  dsimp only
  split
  · exact (h.noteCorrected _ _ _ _).drew _
  · exact h.noteCorrected _ _ _ _

@[simp] theorem Steady.failSupervisor {s t : State} (h : Steady s t) (b : Bool) (check : Nat) : Steady s (t.failSupervisor b check) := by
  unfold State.failSupervisor
  (repeat' split) <;> simp [h]

@[simp] theorem Steady.fenceBank {s t : State} (h : Steady s t) (a : Nat) : Steady s (t.fenceBank a) := by
  unfold State.fenceBank
  (repeat' split) <;> simp [h]

@[simp] theorem Steady.failSupPart {s t : State} (h : Steady s t) (a : Nat) : Steady s (t.failSupPart a) := by
  unfold State.failSupPart
  split <;> simp [h]

@[simp] theorem Steady.initPage {s t : State} (h : Steady s t) (who : Initiator) (a : Nat) : Steady s (t.initPage who a) := by
  unfold State.initPage
  dsimp only
  split
  · exact h
  split
  · exact h
  split
  · exact h.replace (fun hm => Memory.wf_zeroRange hm _ _) id id
  · exact h.noteDenial _ _ _ _ _ _

@[simp] theorem Ends.memInit {s t : State} (h : Steady s t) (who : Initiator) (v : W32) : Ends s (execMemInit who v t) := by
  unfold execMemInit
  simp [h]

@[simp] theorem Ends.memInitDone {s t : State} (h : Steady s t) : Ends s (execMemInitDone t) := by
  unfold execMemInitDone
  split <;> simp (disch := simp (disch := simp [h]) [h]) [h]

@[simp] theorem Steady.endBank {s t : State} (h : Steady s t) (k bank : Nat) : Steady s (t.endBank k bank) := by
  unfold State.endBank
  simp [h]

@[simp] theorem Steady.scrubNext {s t : State} (h : Steady s t) (k bank base size w : Nat) : Steady s (t.scrubNext k bank base size w) := by
  unfold State.scrubNext
  simp [h]

@[simp] theorem Steady.scrub {s t : State} (h : Steady s t) (k w : Nat) : Steady s (t.scrub k w) := by
  unfold State.scrub
  split
  · exact h
  extract_lets s1 n s2 u
  have h1 : Steady s s1 := by
    unfold s1
    split
    · exact h.noteUncorrectable _ _ _
    · exact h
  have h2 : Steady s s2 := h1.noteCorrected _ _ _ _
  have hu : Steady s u := h2.foldl (fun v i => by split <;> simp) _
  exact hu.replace (fun hm => Memory.wf_setCls hm _ _) id id

@[simp] theorem Ends.scrubVisit {s t : State} (h : Steady s t) (bank : Nat) : Ends s (execScrubVisit bank t) := by
  unfold execScrubVisit
  (repeat' split) <;> simp [h]

@[simp] theorem Ends.scrubForce {s t : State} (h : Steady s t) (cls : Nat) : Ends s (execScrubForce cls t) := by
  unfold execScrubForce
  simp [h]

@[simp] theorem Steady.regionFails {s t : State} (h : Steady s t) (a : Nat) : Steady s (t.regionFails a) := by
  have counted : Steady s { t.noteUncorrectable a 2 30 with
      mem := { (t.noteUncorrectable a 2 30).mem with fails := satAdd 8 (t.noteUncorrectable a 2 30).mem.fails 1 } } :=
    (h.noteUncorrectable a 2 30).replace (by simp) id id
  exact (((counted.offer _ _ _ _).faultEvent _ _).fenceBank _).failSupPart _

@[simp] theorem Ends.regionTest {s t : State} (h : Steady s t) (addr : Nat) (done pass : Bool) :
    Ends s (execRegionTest addr done pass t) := by
  unfold execRegionTest
  simp [h]

@[simp] theorem Ends.regionTestForce {s t : State} (h : Steady s t) (addr : Nat) : Ends s (execRegionTestForce addr t) := by
  unfold execRegionTestForce
  simp [h]

@[simp] theorem Ends.marchStart {s t : State} (h : Steady s t) (who : Initiator) (v : W32) : Ends s (execMarchStart who v t) := by
  unfold execMarchStart
  simp [h]

@[simp] theorem Steady.marchFails {s t : State} (h : Steady s t) (bank word : Nat) : Steady s (t.marchFails bank word) := by
  unfold State.marchFails
  split <;> simp [h]

@[simp] theorem Ends.marchDone {s t : State} (h : Steady s t) (pass : Bool) (failWord : Nat) : Ends s (execMarchDone pass failWord t) := by
  refine ⟨_, rfl, ?_⟩
  split
  · exact h
  next r eq =>
  extract_lets m rec' u
  have zeroed : t.mem.wf = true → m.wf = true := by
    intro hm
    unfold m
    split
    · exact hm
    · split
      · exact Memory.wf_zeroRange hm _ _
      · exact hm
  have cleared : t.rcd.queue.length ≤ 64 → rec'.queue.length ≤ 64 := by
    unfold rec'
    split
    · exact id
    · exact id
  have hu : Steady s u := h.replace zeroed cleared id
  split
  · exact hu
  · exact (hu.replace (fun hm => by exact Memory.wf_congr rfl rfl hm) id id).marchFails _ _

@[simp] theorem Ends.eccTestCtl {s t : State} (h : Steady s t) (who : Initiator) (v : W32) : Ends s (execEccTestCtl who v t) := by
  unfold execEccTestCtl
  simp [h]

@[simp] theorem Ends.eccTestRead {s t : State} (h : Steady s t) (who : Initiator) : Ends s (execEccTestRead who t) := by
  unfold execEccTestRead
  simp [h]

theorem Memory.wf_rawByte {m : Memory} (h : m.wf = true) (a : Nat) (b : Byte) (chk : BitVec 5) : (m.rawByte a b chk).wf = true := by
  have written := Memory.wf_writeByte h a b
  simp only [Memory.wf, Bool.and_eq_true] at written ⊢
  exact ⟨written.1, SMap.wf_set written.2 _ _⟩

@[simp] theorem Ends.eccTestWrite {s t : State} (h : Steady s t) (who : Initiator) : Ends s (execEccTestWrite who t) := by
  refine ⟨_, rfl, h.byControl who fun u => ?_⟩
  split
  · exact (Steady.refl u).replace (fun hm => Memory.wf_foldl hm (fun _ _ hm => Memory.wf_rawByte hm _ _ _) _) id id
  · exact Steady.refl u

@[simp] theorem Ends.conflictClear {s t : State} (h : Steady s t) (who : Initiator) (v : W32) : Ends s (execConflictClear who v t) := by
  unfold execConflictClear
  simp [h]

@[simp] theorem Steady.ruleWrite {s t : State} (h : Steady s t) (x1 : RuleWrite) : Steady s (t.ruleWrite x1) := by
  unfold State.ruleWrite
  (repeat' split) <;> simp [h]

@[simp] theorem Steady.issueRule {s t : State} (h : Steady s t) (w : RuleWrite) : Steady s (t.issueRule w) := by
  unfold State.issueRule
  split <;> simp [h]

@[simp] theorem Ends.gatePset {s t : State} (h : Steady s t) (who : Initiator) (v : W32) : Ends s (execGatePset who v t) := by
  unfold execGatePset
  split <;> simp (disch := simp (disch := simp [h]) [h])

@[simp] theorem Ends.gateGset {s t : State} (h : Steady s t) (who : Initiator) (v : W32) : Ends s (execGateGset who v t) := by
  unfold execGateGset
  split <;> simp (disch := simp (disch := simp [h]) [h])

@[simp] theorem Steady.issueQueued {s t : State} (h : Steady s t) (l : List RuleWrite) : Steady s (State.issueQueued l t) := by
  induction l generalizing t with
  | nil => exact h.replace id id id
  | cons w l ih =>
    unfold State.issueQueued
    split
    · exact (h.ruleWrite w).replace id id id
    · exact ih (h.ruleWrite w)

@[simp] theorem Ends.ruleWriteComplete {s t : State} (h : Steady s t) : Ends s (execRuleWriteComplete t) := by
  unfold execRuleWriteComplete
  split <;> simp [h]

@[simp] theorem Steady.failUnit {s t : State} (h : Steady s t) (u : EngUnit) : Steady s (t.failUnit u) := by
  unfold State.failUnit
  dsimp only
  split <;> simp (disch := simp (disch := simp [h]) [h]) [h]

@[simp] theorem Steady.failAt {s t : State} (h : Steady s t) (master a : Nat) : Steady s (t.failAt master a) := by
  unfold State.failAt
  dsimp only
  (repeat' split) <;> simp [h]

@[simp] theorem Ends.transactionIntegrityFailure {s t : State} (h : Steady s t) (master addr : Nat) :
    Ends s (execTransactionIntegrityFailure master addr t) := by
  unfold execTransactionIntegrityFailure
  simp (disch := simp (disch := simp [h]) [h]) [h]

@[simp] theorem Ends.cerChallenge {s t : State} (h : Steady s t) (r : Req) : Ends s (execCerChallenge r t) := by
  unfold execCerChallenge
  simp (disch := simp (disch := simp [h]) [h])

@[simp] theorem Ends.ceremonyChallengeLapse {s t : State} (h : Steady s t) : Ends s (execCeremonyChallengeLapse t) := by
  unfold execCeremonyChallengeLapse
  (repeat' split) <;> simp [h]

@[simp] theorem Steady.beginTransition {s t : State} (h : Steady s t) (tgt : Nat) : Steady s (t.beginTransition tgt) := by
  unfold State.beginTransition
  simp [h]

@[simp] theorem Steady.awaitRestart {s t : State} (h : Steady s t) : Steady s t.awaitRestart := by
  unfold State.awaitRestart
  split <;> simp [h]

@[simp] theorem Ends.lcAdvance {s t : State} (h : Steady s t) (r : Req) : Ends s (execLcAdvance r t) := by
  refine ⟨_, rfl, h.hostCommand r _ fun u => ?_⟩
  dsimp only
  split
  · simp
  · exact (((Steady.refl u).replace id id id).beginTransition _ |>.answer _ _ _).awaitRestart

@[simp] theorem Ends.lifecycleRestart {s t : State} (h : Steady s t) (romOk : Bool) : Ends s (execLifecycleRestart romOk t) := by
  unfold execLifecycleRestart
  split <;> simp [h]

@[simp] theorem Steady.register {s t : State} (h : Steady s t) (i : Nat) (e : CerSig) : Steady s (t.register i e) := by
  unfold State.register
  simp [h]

@[simp] theorem Steady.registryChanged {s t : State} (h : Steady s t) : Steady s t.registryChanged := by
  unfold State.registryChanged
  simp [h]

@[simp] theorem Ends.custFound {s t : State} (h : Steady s t) (r : Req) : Ends s (execCustFound r t) := by
  refine ⟨_, rfl, h.hostCommand r _ fun u => ?_⟩
  have kept := Steady.refl u
  extract_lets m n
  split
  · exact kept.refuseRange _ _
  split
  · exact kept.refuseRange _ _
  · exact kept.refuseRange _ _
  extract_lets d good v _ _ w
  split
  · exact kept.refuseRange _ _
  split
  · exact kept.refuse _ _ _ _
  have registered : Steady u v := kept.foldl (fun x e => (Steady.refl x).register _ _) _
  have founded : Steady u w := registered.replace id id id
  exact founded.registryChanged.answer _ _ _

@[simp] theorem Ends.registryRead {s t : State} (h : Steady s t) (r : Req) : Ends s (execRegistryRead r t) := by
  unfold execRegistryRead
  simp [h]

@[simp] theorem Steady.openCeremony {s t : State} (h : Steady s t) (r : Req) : Steady s (t.openCeremony r) := by
  unfold State.openCeremony
  dsimp only
  (repeat' split) <;> simp (disch := simp (disch := simp [h]) [h])

@[simp] theorem Ends.cerOpen {s t : State} (h : Steady s t) (r : Req) : Ends s (execCerOpen r t) := by
  unfold execCerOpen
  simp [h]

@[simp] theorem Steady.endRunning {s t : State} (h : Steady s t) : Steady s t.endRunning := by
  unfold State.endRunning
  (repeat' split) <;> simp [h]

@[simp] theorem Steady.closeCeremony {s t : State} (h : Steady s t) : Steady s t.closeCeremony := by
  unfold State.closeCeremony
  (repeat' split) <;> simp (disch := simp (disch := simp [h]) [h]) [h]

@[simp] theorem Ends.cerClose {s t : State} (h : Steady s t) (r : Req) : Ends s (execCerClose r t) := by
  unfold execCerClose
  simp (disch := simp (disch := simp [h]) [h])

@[simp] theorem Ends.ceremonyTimeout {s t : State} (h : Steady s t) : Ends s (execCeremonyTimeout t) := by
  unfold execCeremonyTimeout
  (repeat' split) <;> simp [h]

@[simp] theorem Ends.cerQuery {s t : State} (h : Steady s t) (r : Req) : Ends s (execCerQuery r t) := by
  unfold execCerQuery
  simp [h]

@[simp] theorem Steady.setCeremony {s t : State} (h : Steady s t) (c : Ceremony) : Steady s (t.setCeremony c) := by
  unfold State.setCeremony
  simp [h]

@[simp] theorem Ends.cerStep {s t : State} (h : Steady s t) (r : Req) : Ends s (execCerStep r t) := by
  refine ⟨_, rfl, h.hostCommand r _ fun u => ?_⟩
  (repeat' split) <;> simp

@[simp] theorem Steady.failStep {s t : State} (h : Steady s t) (c : Ceremony) (x : CerRun) (reason : Nat) :
    Steady s (t.failStep c x reason) := by
  unfold State.failStep
  simp [h]

@[simp] theorem Steady.finishStep {s t : State} (h : Steady s t) (c : Ceremony) (st : CerStep) (x : CerRun) (info : Nat) :
    Steady s (t.finishStep c st x info) := by
  unfold State.finishStep
  split <;> simp (disch := simp (disch := simp [h]) [h])

@[simp] theorem Steady.runStep {s t : State} (h : Steady s t) (code reason : Nat) (ok : Ceremony → CerStep → CerRun → Bool)
    {f : CerStep → CerRun → State → State × Nat} (hf : ∀ st x u, Steady u (f st x u).1) : Steady s (t.runStep code reason ok f) := by
  unfold State.runStep
  split
  · exact h
  split
  · exact (h.trans (hf _ _ _)).finishStep _ _ _ _
  · exact h.failStep _ _ _

@[simp] theorem Steady.endLockAlarms {s t : State} (h : Steady s t) : Steady s t.endLockAlarms := by
  unfold State.endLockAlarms
  simp [h]

@[simp] theorem Ends.unlock {s t : State} (h : Steady s t) : Ends s (execUnlock t) := by
  unfold execUnlock
  (repeat' split) <;> simp (disch := simp (disch := simp [h]) [h]) [h]

@[simp] theorem Ends.endOfLife {s t : State} (h : Steady s t) : Ends s (execEndOfLife t) := by
  refine ⟨_, rfl, ?_⟩
  split
  · exact h
  split
  · exact h.failStep _ _ _
  · exact (((h.beginTransition _).setCeremony _).offer _ _ _ _ |>.answer _ _ _).awaitRestart

@[simp] theorem Ends.rootGen {s t : State} (h : Steady s t) : Ends s (execRootGen t) := by
  refine ⟨_, rfl, ?_⟩
  split
  · exact h
  split
  · exact h.failStep _ _ _
  split
  · exact h
  · have drawn := h.takeWords ‹_›
    dsimp only
    split
    · exact drawn
    · exact (drawn.generateRoot _).finishStep _ _ _ _

@[simp] theorem Ends.custAdd {s t : State} (h : Steady s t) : Ends s (execCustAdd t) := by
  unfold execCustAdd
  dsimp only
  (repeat' split) <;> simp (disch := simp (disch := simp [h]) [h]) [h]

@[simp] theorem Steady.unregister {s t : State} (h : Steady s t) (i : Nat) : Steady s (t.unregister i) := by
  unfold State.unregister
  simp [h]

@[simp] theorem Ends.custRemove {s t : State} (h : Steady s t) : Ends s (execCustRemove t) := by
  unfold execCustRemove
  simp (disch := simp (disch := simp [h]) [h])

@[simp] theorem Ends.quorumSet {s t : State} (h : Steady s t) : Ends s (execQuorumSet t) := by
  unfold execQuorumSet
  simp (disch := simp (disch := simp [h]) [h])

@[simp] theorem Ends.intrConfig {s t : State} (h : Steady s t) : Ends s (execIntrConfig t) := by
  unfold execIntrConfig
  simp [h]

@[simp] theorem Ends.ownerSet {s t : State} (h : Steady s t) : Ends s (execOwnerSet t) := by
  unfold execOwnerSet
  simp [h]

@[simp] theorem Ends.ownerMove {s t : State} (h : Steady s t) : Ends s (execOwnerMove t) := by
  refine ⟨_, rfl, h.runStep _ _ _ fun st x u => ?_⟩
  dsimp only
  split
  · exact (Steady.refl u).replace id id id
  · exact Steady.refl u

@[simp] theorem Ends.meshEnrol {s t : State} (h : Steady s t) : Ends s (execMeshEnrol t) := by
  unfold execMeshEnrol
  dsimp only
  (repeat' split) <;> simp (disch := simp (disch := simp [h]) [h]) [h]

@[simp] theorem Ends.meshEnrolmentDone {s t : State} (h : Steady s t) (prints : List (Nat × List (List Nat))) :
    Ends s (execMeshEnrolmentDone prints t) := by
  refine ⟨_, rfl, ?_⟩
  split
  · extract_lets s1 s2 n _ s3
    have h1 : Steady s s1 := h.foldl (fun u ch => ((Steady.refl u).setChannel _ _).setMonitor _ _) _
    have h2 : Steady s s2 := h1.foldl (fun u ch => ((Steady.refl u).setChannel _ _).calm _) _
    have h3 : Steady s s3 := h2.replace id id id
    exact (h3.logEvent _ _).finishStep _ _ _ _
  · exact h

@[simp] theorem Ends.debugNormal {s t : State} (h : Steady s t) (r : Req) : Ends s (execDebugNormal r t) := by
  unfold execDebugNormal
  simp (disch := simp (disch := simp [h]) [h])

@[simp] theorem Ends.debugSecure {s t : State} (h : Steady s t) : Ends s (execDebugSecure t) := by
  unfold execDebugSecure
  (repeat' split) <;> simp [h]

@[simp] theorem Ends.debugSecureDrained {s t : State} (h : Steady s t) : Ends s (execDebugSecureDrained t) := by
  unfold execDebugSecureDrained
  (repeat' split) <;> simp (disch := simp (disch := simp [h]) [h]) [h]

@[simp] theorem Ends.lcsDbgenWrite {s t : State} (h : Steady s t) (who : Initiator) (v : W32) : Ends s (execLcsDbgenWrite who v t) := by
  unfold execLcsDbgenWrite
  simp (disch := simp (disch := simp [h]) [h])

@[simp] theorem Steady.tapSelect {s t : State} (h : Steady s t) (i : TapInstr) (ok : Bool) : Steady s (t.tapSelect i ok) := by
  unfold State.tapSelect
  simp [h]

@[simp] theorem Ends.idcode {s t : State} (h : Steady s t) : Ends s (execIdcode t) := by
  refine ⟨_, rfl, ?_⟩
  split
  · exact (h.tapSelect _ _).replace id id id
  · exact h

@[simp] theorem Ends.bypass {s t : State} (h : Steady s t) : Ends s (execBypass t) := by
  unfold execBypass
  split <;> simp [h]

@[simp] theorem Steady.boundaryScan {s t : State} (h : Steady s t) (i : TapInstr) (v : BitVec 4) : Steady s (t.boundaryScan i v) := by
  unfold State.boundaryScan
  (repeat' split) <;> simp [h]

@[simp] theorem Ends.samplePreload {s t : State} (h : Steady s t) (v : BitVec 4) : Ends s (execSamplePreload v t) := by
  unfold execSamplePreload
  simp [h]

@[simp] theorem Ends.extest {s t : State} (h : Steady s t) (v : BitVec 4) : Ends s (execExtest v t) := by
  unfold execExtest
  simp [h]

@[simp] theorem Ends.scan {s t : State} (h : Steady s t) : Ends s (execScan t) := by
  unfold execScan
  (repeat' split) <;> simp [h]

@[simp] theorem Ends.scanExit {s t : State} (h : Steady s t) (romOk : Bool) : Ends s (execScanExit romOk t) := by
  unfold execScanExit
  split <;> simp [h]

@[simp] theorem Ends.tapChallenge {s t : State} (h : Steady s t) : Ends s (execTapChallenge t) := by
  have selected := h.tapSelect .challenge true
  refine ⟨_, rfl, ?_⟩
  split
  · exact h
  split
  · exact h.tapSelect _ _
  dsimp only
  split
  · exact selected.replace id id id
  split
  · exact selected
  · exact (selected.takeWords ‹_›).replace id id id

@[simp] theorem Ends.tapToken {s t : State} (h : Steady s t) (tok : Bytes) : Ends s (execTapToken tok t) := by
  unfold execTapToken
  dsimp only
  (repeat' split) <;> simp [h]

@[simp] theorem Steady.tagFailure {s t : State} (h : Steady s t) (n : Nat) : Steady s (t.tagFailure n) := by
  unfold State.tagFailure
  dsimp only
  (repeat' split) <;> simp (disch := simp (disch := simp [h]) [h])

@[simp] theorem Steady.receive {s t : State} (h : Steady s t) (n : Nat) (f : Frame) (ftype : Nat) {k : Bytes → State → State}
    (hk : ∀ b u, Steady u (k b u)) : Steady s (t.receive n f ftype k) := by
  unfold State.receive
  split
  · exact h
  split
  · exact h.tagFailure n
  split
  · exact h
  split
  · exact h.tagFailure n
  · exact (h.setLink n _).trans (hk _ _)

@[simp] theorem Steady.pass {s t : State} (h : Steady s t) (out : Nat) (f : Frame) (b : Bytes) : Steady s (t.pass out f b) := by
  unfold State.pass
  split <;> simp [h]

@[simp] theorem Steady.route {s t : State} (h : Steady s t) (n : Nat) (f : Frame) (b : Bytes) {k : State → State}
    (hk : ∀ u, Steady u (k u)) : Steady s (t.route n f b k) := by
  have passed := h.foldl (fun u m => (Steady.refl u).pass m f b) (t.upLinks.filter (· ≠ n))
  unfold State.route
  split
  · split
    · exact h
    · dsimp only
      split
      · exact passed.trans (hk _)
      · exact passed
  split
  · exact h.trans (hk _)
  split
  · exact h.pass _ _ _
  · exact h

@[simp] theorem Steady.receiveRouted {s t : State} (h : Steady s t) (n : Nat) (f : Frame) (ftype : Nat) {k : State → State}
    (hk : ∀ u, Steady u (k u)) : Steady s (t.receiveRouted n f ftype k) :=
  h.receive n f ftype fun b u => (Steady.refl u).route n f b hk

@[simp] theorem Steady.refuseLink {s t : State} (h : Steady s t) (n reason : Nat) : Steady s (t.refuseLink n reason) := by
  unfold State.refuseLink
  dsimp only
  split <;> simp [h]

@[simp] theorem Steady.sayHello {s t : State} (h : Steady s t) (n : Nat) : Steady s (t.sayHello n) := by
  unfold State.sayHello
  simp (disch := simp (disch := simp [h]) [h])

@[simp] theorem Steady.installKeys {s t : State} (h : Steady s t) (n : Nat) (x : Handshake) : Steady s (t.installKeys n x) := by
  unfold State.installKeys
  dsimp only
  split <;> simp [h]

@[simp] theorem Steady.adopt {s t : State} (h : Steady s t) (t' : List (W128 × Nat)) : Steady s (t.adopt t') := by
  unfold State.adopt
  (repeat' split) <;> simp (disch := simp (disch := simp [h]) [h]) [h]

@[simp] theorem Steady.coordinate {s t : State} (h : Steady s t) : Steady s t.coordinate := by
  unfold State.coordinate
  extract_lets a s1 s2 _ s3
  have h1 : Steady s s1 := h.foldl (fun u x => (Steady.refl u).offer _ _ _ _) _
  have h3 : Steady s s3 := (h1.adopt a).replace id id id
  exact h3.foldl (fun u n => (Steady.refl u).sendFrame _ _ _ _) _

@[simp] theorem Ends.chainHeadDetect {s t : State} (h : Steady s t) : Ends s (execChainHeadDetect t) := by
  unfold execChainHeadDetect
  split <;> simp [h]

@[simp] theorem Ends.chainFrameReceive {s t : State} (h : Steady s t) (v : Nat) (parityOk : Bool) :
    Ends s (execChainFrameReceive v parityOk t) := by
  unfold execChainFrameReceive
  (repeat' split) <;> simp [h]

@[simp] theorem Ends.chainFrameSend {s t : State} (h : Steady s t) : Ends s (execChainFrameSend t) := by
  unfold execChainFrameSend
  split <;> simp [h]

@[simp] theorem Ends.bilkinLinkTrained {s t : State} (h : Steady s t) (n : Nat) : Ends s (execBilkinLinkTrained n t) := by
  unfold execBilkinLinkTrained
  dsimp only
  (repeat' split) <;> simp [h]

@[simp] theorem Steady.sendAuth1 {s t : State} (h : Steady s t) (n : Nat) (x : Handshake) (h' : Hello) : Steady s (t.sendAuth1 n x h') := by
  unfold State.sendAuth1
  simp (disch := simp (disch := simp [h]) [h])

@[simp] theorem Ends.hello {s t : State} (h : Steady s t) (n : Nat) (h' : Hello) : Ends s (execHello n h' t) := by
  unfold execHello
  dsimp only
  (repeat' split) <;> simp [h]

@[simp] theorem Ends.auth1 {s t : State} (h : Steady s t) (n : Nat) (eph kem : Bytes) : Ends s (execAuth1 n eph kem t) := by
  unfold execAuth1
  (repeat' split) <;> simp (disch := simp (disch := simp [h]) [h]) [h]

@[simp] theorem Ends.auth2 {s t : State} (h : Steady s t) (n : Nat) (sig : Bytes) : Ends s (execAuth2 n sig t) := by
  unfold execAuth2
  (repeat' split) <;> simp [h]

@[simp] theorem Steady.linkUp {s t : State} (h : Steady s t) (n addr : Nat) : Steady s (t.linkUp n addr) := by
  unfold State.linkUp
  simp (disch := simp (disch := simp [h]) [h])

@[simp] theorem Ends.keepalive {s t : State} (h : Steady s t) (n : Nat) (f : Frame) : Ends s (execKeepalive n f t) := by
  unfold execKeepalive
  (repeat' split) <;> simp [h]

@[simp] theorem Ends.keepaliveSend {s t : State} (h : Steady s t) (n : Nat) : Ends s (execKeepaliveSend n t) := by
  unfold execKeepaliveSend
  dsimp only
  split <;> simp [h]

@[simp] theorem Ends.keepaliveMissed {s t : State} (h : Steady s t) (n : Nat) : Ends s (execKeepaliveMissed n t) := by
  unfold execKeepaliveMissed
  dsimp only
  (repeat' split) <;> simp [h]

@[simp] theorem Ends.linkSignalLoss {s t : State} (h : Steady s t) (n : Nat) : Ends s (execLinkSignalLoss n t) := by
  unfold execLinkSignalLoss
  split <;> simp [h]

@[simp] theorem Ends.handshakeTimeout {s t : State} (h : Steady s t) (n : Nat) : Ends s (execHandshakeTimeout n t) := by
  unfold execHandshakeTimeout
  split <;> simp [h]

@[simp] theorem Ends.linkRetrain {s t : State} (h : Steady s t) (n : Nat) : Ends s (execLinkRetrain n t) := by
  unfold execLinkRetrain
  dsimp only
  split <;> simp [h]

@[simp] theorem Ends.rekey {s t : State} (h : Steady s t) (n : Nat) (ok : Bool) : Ends s (execRekey n ok t) := by
  unfold execRekey
  dsimp only
  (repeat' split) <;> simp [h]

@[simp] theorem Steady.notePeer {s t : State} (h : Steady s t) (l : Lsa) : Steady s (t.notePeer l) := by
  unfold State.notePeer
  simp [h]

@[simp] theorem Ends.lsa {s t : State} (h : Steady s t) (n : Nat) (f : Frame) (l : Lsa) : Ends s (execLsa n f l t) := by
  unfold execLsa
  simp (disch := simp (disch := simp [h]) [h])

@[simp] theorem Ends.lsaPeriodic {s t : State} (h : Steady s t) : Ends s (execLsaPeriodic t) := by
  unfold execLsaPeriodic
  split <;> simp [h]

@[simp] theorem Ends.coordinatorElection {s t : State} (h : Steady s t) : Ends s (execCoordinatorElection t) := by
  unfold execCoordinatorElection
  dsimp only
  (repeat' split) <;> simp (disch := simp (disch := simp [h]) [h]) [h]

@[simp] theorem Ends.assign {s t : State} (h : Steady s t) (n : Nat) (f : Frame) (table : List (W128 × Nat)) :
    Ends s (execAssign n f table t) := by
  unfold execAssign
  simp (disch := simp (disch := simp [h]) [h])

@[simp] theorem Ends.routeRecompute {s t : State} (h : Steady s t) : Ends s (execRouteRecompute t) := by
  unfold execRouteRecompute
  split <;> simp [h]

@[simp] theorem Steady.micro {s t : State} (h : Steady s t) (prim n k : Nat) (f : Inst → Step → StepOut) :
    Steady s (t.micro prim n k f) := by
  unfold State.micro
  split <;> simp [h]

@[simp] theorem Ends.panExtract {s t : State} (h : Steady s t) (n st : Nat) : Ends s (execPanExtract n st t) := by
  unfold execPanExtract
  simp [h]

@[simp] theorem Ends.pinbParse {s t : State} (h : Steady s t) (n st : Nat) : Ends s (execPinbParse n st t) := by
  unfold execPinbParse
  simp [h]

@[simp] theorem Ends.pinbBuild {s t : State} (h : Steady s t) (n st : Nat) : Ends s (execPinbBuild n st t) := by
  unfold execPinbBuild
  split <;> simp [h]

@[simp] theorem Ends.decimalise {s t : State} (h : Steady s t) (n st : Nat) : Ends s (execDecimalise n st t) := by
  unfold execDecimalise
  simp [h]

@[simp] theorem Ends.digitSelect {s t : State} (h : Steady s t) (n st : Nat) : Ends s (execDigitSelect n st t) := by
  unfold execDigitSelect
  simp [h]

@[simp] theorem Ends.pad {s t : State} (h : Steady s t) (n st : Nat) : Ends s (execPad n st t) := by
  unfold execPad
  simp [h]

@[simp] theorem Ends.compare {s t : State} (h : Steady s t) (n st : Nat) : Ends s (execCompare n st t) := by
  unfold execCompare
  simp [h]

@[simp] theorem Ends.branch {s t : State} (h : Steady s t) (n st : Nat) : Ends s (execBranch n st t) := by
  unfold execBranch
  simp [h]

@[simp] theorem Steady.startRecipe {s t : State} (h : Steady s t) (r : Req) : Steady s (t.startRecipe r) := by
  unfold State.startRecipe
  (repeat' split) <;> simp [h]

@[simp] theorem Ends.recipeRun {s t : State} (h : Steady s t) (r : Req) : Ends s (execRecipeRun r t) := by
  unfold execRecipeRun
  simp [h]

theorem Steady.slotKey {s t u : State} {i : Inst} {slot : Nat} {x : SlotKey} (h : Steady s t) (e : t.slotKey i slot = .ok (u, x)) :
    Steady s u := by
  unfold State.slotKey at e
  dsimp only at e
  split at e
  · cases e
  have known := h.resolve ‹_›
  split at e
  · cases e
  split at e
  · cases e
  split at e
  · cases e
  · obtain ⟨rfl, -⟩ := Prod.mk.inj (Except.ok.inj e)
    exact known

theorem Steady.slotKeys {s u : State} {i : Inst} {l : List Nat} : ∀ {t : State} {ks : List SlotKey}, Steady s t →
    State.slotKeys i l t = .ok (u, ks) → Steady s u := by
  induction l with
  | nil =>
    intro t ks h e
    obtain ⟨rfl, -⟩ := Prod.mk.inj (Except.ok.inj e)
    exact h
  | cons k rest ih =>
    intro t ks h e
    unfold State.slotKeys at e
    split at e
    · exact ih h e
    split at e
    · cases e
    have found := h.slotKey ‹_›
    split at e
    · cases e
    · obtain ⟨rfl, -⟩ := Prod.mk.inj (Except.ok.inj e)
      exact ih found ‹_›

theorem Steady.sealNonces {s u : State} {n slot : Nat} {a : W64} {l : List Nat} : ∀ {t : State} {m : SMap (Option Nat)}, Steady s t →
    State.sealNonces n slot a l t = .ok (u, m) → Steady s u := by
  induction l with
  | nil =>
    intro t m h e
    obtain ⟨rfl, -⟩ := Prod.mk.inj (Except.ok.inj e)
    exact h
  | cons k rest ih =>
    intro t m h e
    unfold State.sealNonces at e
    split at e
    · cases e
    have taken := h.takeNonce ‹_›
    split at e
    · cases e
    · obtain ⟨rfl, -⟩ := Prod.mk.inj (Except.ok.inj e)
      exact ih taken ‹_›

theorem Steady.takeAll {s u : State} {i : Inst} {x : Option Rej} {n : SMap (Option Nat)} {l : List SlotKey} :
    ∀ {t : State} {m : SMap (Option Nat)}, Steady s t → State.takeAll i l t m = (u, x, n) → Steady s u := by
  induction l with
  | nil =>
    intro t m h e
    obtain ⟨rfl, -⟩ := Prod.mk.inj e
    exact h
  | cons k rest ih =>
    intro t m h e
    unfold State.takeAll at e
    split at e
    · obtain ⟨rfl, -⟩ := Prod.mk.inj e
      exact h.spend ‹_›
    have spent := h.spend ‹_›
    split at e
    · obtain ⟨rfl, -⟩ := Prod.mk.inj e
      exact spent
    · exact ih (spent.sealNonces ‹_›) e

@[simp] theorem Steady.refuseInst {s t : State} (h : Steady s t) (n : Nat) (x : Rej) : Steady s (t.refuseInst n x) := by
  unfold State.refuseInst
  simp (disch := simp (disch := simp [h]) [h])

@[simp] theorem Steady.endLoading {s t : State} (h : Steady s t) (n : Nat) : Steady s (t.endLoading n) := by
  unfold State.endLoading
  dsimp only
  split
  · exact h.refuseInst _ _
  split
  · exact h.refuseInst _ _
  have known := h.slotKeys ‹_›
  split
  · exact known.refuseInst _ _
  split
  · exact known.refuseInst _ _
  split
  · exact (known.setSlot _ _).forward _ _
  split
  · have taken := (Steady.refl _).takeAll ‹_›
    exact (known.replace id taken.queue id).refuseInst _ _
  · exact (known.takeAll ‹_›).setSlot _ _

@[simp] theorem Ends.recipeLoadingDone {s t : State} (h : Steady s t) (n : Nat) : Ends s (execRecipeLoadingDone n t) := by
  unfold execRecipeLoadingDone
  split <;> simp [h]

@[simp] theorem Steady.dispatch {s t : State} (h : Steady s t) (n k : Nat) : Steady s (t.dispatch n k) := by
  unfold State.dispatch
  dsimp only
  split <;> simp [h]

@[simp] theorem Ends.stepDispatch {s t : State} (h : Steady s t) (n st : Nat) : Ends s (execStepDispatch n st t) := by
  unfold execStepDispatch
  dsimp only
  (repeat' split) <;> simp [h]

@[simp] theorem Ends.child {s t : State} (h : Steady s t) (n st : Nat) : Ends s (execChild n st t) := by
  unfold execChild
  split <;> simp (disch := simp (disch := simp [h]) [h]) [h]

@[simp] theorem Steady.freeInstance {s t : State} (h : Steady s t) (n : Nat) : Steady s (t.freeInstance n) := by
  unfold State.freeInstance
  simp [h]

@[simp] theorem Steady.endVerdict {s t : State} (h : Steady s t) (n v : Nat) : Steady s (t.endVerdict n v) := by
  unfold State.endVerdict
  simp (disch := simp (disch := simp [h]) [h])

@[simp] theorem Steady.endAll {s t : State} (h : Steady s t) (n : Nat) (out shadow : Bytes) : Steady s (t.endAll n out shadow) := by
  unfold State.endAll
  dsimp only
  (repeat' split) <;> simp (disch := simp (disch := simp [h]) [h])

@[simp] theorem Steady.endInst {s t : State} (h : Steady s t) (n : Nat) (verdict : Option Nat) : Steady s (t.endInst n verdict) := by
  unfold State.endInst
  dsimp only
  (repeat' split) <;> simp [h]

@[simp] theorem Ends.stepResolve {s t : State} (h : Steady s t) (n st : Nat) : Ends s (execStepResolve n st t) := by
  unfold execStepResolve
  dsimp only
  (repeat' split) <;> simp (disch := simp (disch := simp [h]) [h]) [h]

@[simp] theorem Ends.recipeTimeout {s t : State} (h : Steady s t) (n : Nat) : Ends s (execRecipeTimeout n t) := by
  unfold execRecipeTimeout
  simp [h]

@[simp] theorem Ends.twillMaskReseed {s t : State} (h : Steady s t) : Ends s (execTwillMaskReseed t) := by
  unfold execTwillMaskReseed
  split <;> simp [h]

@[simp] theorem Ends.fwdReq {s t : State} (h : Steady s t) (n : Nat) (f : Frame) (id : Nat) (urgent : Bool) (rootHash : Bytes)
    (version : Nat)
    (r : Req) : Ends s (execFwdReq n f id urgent rootHash version r t) := by
  refine ⟨_, rfl, h.receiveRouted n f _ fun u => ?_⟩
  dsimp only
  (repeat' split) <;> simp

@[simp] theorem Steady.lateResponse {s t : State} (h : Steady s t) (owner id : Nat) : Steady s (t.lateResponse owner id) := by
  unfold State.lateResponse
  simp [h]

@[simp] theorem Ends.fwdRsp {s t : State} (h : Steady s t) (n : Nat) (f : Frame) (id status detail reason outLen info : Nat) (out : Bytes) :
    Ends s (execFwdRsp n f id status detail reason outLen info out t) := by
  refine ⟨_, rfl, h.receiveRouted n f _ fun u => ?_⟩
  dsimp only
  split <;> simp

@[simp] theorem Ends.forwardTimeout {s t : State} (h : Steady s t) (id : Nat) : Ends s (execForwardTimeout id t) := by
  unfold execForwardTimeout
  split <;> simp [h]

@[simp] theorem Ends.ownerUnreachableRecord {s t : State} (h : Steady s t) : Ends s (execOwnerUnreachableRecord t) := by
  unfold execOwnerUnreachableRecord
  simp (disch := simp (disch := simp [h]) [h])

@[simp] theorem Ends.spillReq {s t : State} (h : Steady s t) (n : Nat) (f : Frame) (id : Nat) (rootHash : Bytes) (version : Nat) (r : Req) :
    Ends s (execSpillReq n f id rootHash version r t) := by
  refine ⟨_, rfl, h.receiveRouted n f _ fun u => ?_⟩
  dsimp only
  (repeat' split) <;> simp

@[simp] theorem Steady.unspill {s t : State} (h : Steady s t) (id : Nat) : Steady s (t.unspill id) := by
  unfold State.unspill
  simp [h]

@[simp] theorem Ends.spillRsp {s t : State} (h : Steady s t) (n : Nat) (f : Frame) (id : Nat) (busy : Bool)
    (status detail reason outLen info : Nat) (out : Bytes) :
    Ends s (execSpillRsp n f id busy status detail reason outLen info out t) := by
  refine ⟨_, rfl, h.receiveRouted n f _ fun u => ?_⟩
  dsimp only
  (repeat' split) <;> simp

@[simp] theorem Ends.spillTimeout {s t : State} (h : Steady s t) (id : Nat) : Ends s (execSpillTimeout id t) := by
  unfold execSpillTimeout
  simp [h]

@[simp] theorem Steady.ackReplica {s t : State} (h : Steady s t) (tgt : Nat) (busy : Bool) (reason : Nat) :
    Steady s (t.ackReplica tgt busy reason) := by
  unfold State.ackReplica
  simp [h]

@[simp] theorem Steady.takeReplica {s t : State} (h : Steady s t) (x : Session) (src off : Nat) (data : Bytes) (last : Bool) :
    Steady s (t.takeReplica x src off data last) := by
  unfold State.takeReplica
  split
  · exact h.ackReplica _ _ _
  have taken := h.sessionData x off data
  dsimp only
  split
  · exact taken.ackReplica _ _ _
  split
  · exact taken
  split
  · exact taken.ackReplica _ _ _
  exact (taken.commitSession _).ackReplica _ _ _

@[simp] theorem Ends.replica {s t : State} (h : Steady s t) (n : Nat) (f : Frame) (seq len off : Nat) (data : Bytes) (last : Bool) :
    Ends s (execReplica n f seq len off data last t) := by
  refine ⟨_, rfl, h.receiveRouted n f _ fun u => ?_⟩
  dsimp only
  (repeat' split) <;> simp

@[simp] theorem Ends.replicaAck {s t : State} (h : Steady s t) (n : Nat) (f : Frame) (busy : Bool) (reason : Nat) :
    Ends s (execReplicaAck n f busy reason t) := by
  refine ⟨_, rfl, h.receiveRouted n f _ fun u => ?_⟩
  dsimp only
  (repeat' split) <;> simp

@[simp] theorem Steady.dropClone {s t : State} (h : Steady s t) : Steady s t.dropClone := by
  unfold State.dropClone
  simp [h]

@[simp] theorem Steady.failClone {s t : State} (h : Steady s t) (reason : Nat) : Steady s (t.failClone reason) := by
  unfold State.failClone
  split <;> simp [h]

@[simp] theorem Steady.finishClone {s t : State} (h : Steady s t) (c : CloneRun) : Steady s (t.finishClone c) := by
  unfold State.finishClone
  split <;> simp (disch := simp (disch := simp [h]) [h]) [h]

@[simp] theorem Steady.setClone {s t : State} (h : Steady s t) (c : CloneRun) : Steady s (t.setClone c) := by
  unfold State.setClone
  simp [h]

@[simp] theorem Steady.cloneSend {s t : State} (h : Steady s t) (c : CloneRun) (stage : Nat) (b : Bytes) :
    Steady s (t.cloneSend c stage b) := by
  unfold State.cloneSend
  simp [h]

@[simp] theorem Steady.cloneHello {s t : State} (h : Steady s t) (c : CloneRun) {k : CloneRun → State → State}
    (hk : ∀ d u, Steady u (k d u)) : Steady s (t.cloneHello c k) := by
  unfold State.cloneHello
  split
  · exact h.trans (hk _ _)
  · exact h.drawFor _ _ fun b u => (((Steady.refl u).setClone _).cloneSend _ _ _).trans (hk _ _)

@[simp] theorem Ends.cloneSend {s t : State} (h : Steady s t) : Ends s (execCloneSend t) := by
  unfold execCloneSend
  dsimp only
  (repeat' split) <;> simp [h]

@[simp] theorem Ends.cloneReceive {s t : State} (h : Steady s t) : Ends s (execCloneReceive t) := by
  unfold execCloneReceive
  dsimp only
  (repeat' split) <;> simp [h]

@[simp] theorem Ends.cloneWaitTimeout {s t : State} (h : Steady s t) : Ends s (execCloneWaitTimeout t) := by
  unfold execCloneWaitTimeout
  (repeat' split) <;> simp [h]

@[simp] theorem Steady.cloneHeardHello {s t : State} (h : Steady s t) (c : CloneRun) (x : Hello) : Steady s (t.cloneHeardHello c x) := by
  unfold State.cloneHeardHello
  split
  · exact h.failClone _
  split
  · exact (h.skip _).failClone _
  refine h.cloneHello c fun d u => ?_
  split
  · split
    · exact Steady.refl u
    · exact (Steady.refl u).drawFor _ _ fun b v => ((Steady.refl v).setClone _).cloneSend _ _ _
  · exact Steady.refl u

@[simp] theorem Steady.cloneHeardAuth1 {s t : State} (h : Steady s t) (c : CloneRun) (x : Handshake) (body : Bytes) :
    Steady s (t.cloneHeardAuth1 c x body) := by
  unfold State.cloneHeardAuth1
  (repeat' split) <;> simp (disch := simp (disch := simp [h]) [h]) [h]

@[simp] theorem Steady.cloneHeardAuth2 {s t : State} (h : Steady s t) (c : CloneRun) (x : Handshake) (sig : Bytes) :
    Steady s (t.cloneHeardAuth2 c x sig) := by
  unfold State.cloneHeardAuth2
  (repeat' split) <;> simp [h]

@[simp] theorem Steady.storeClone {s t : State} (h : Steady s t) (tenant : Nat) (b : Bytes) : Steady s (t.storeClone tenant b) := by
  unfold State.storeClone
  split <;> simp [h]

@[simp] theorem Steady.cloneHeardRoot {s t : State} (h : Steady s t) (c : CloneRun) (body : Bytes) :
    Steady s (t.cloneHeardRoot c body) := by
  unfold State.cloneHeardRoot
  (repeat' split) <;> simp (disch := simp (disch := simp [h]) [h]) [h]

@[simp] theorem Ends.clone {s t : State} (h : Steady s t) (n : Nat) (f : Frame) (stage : Nat) (body : Bytes) :
    Ends s (execClone n f stage body t) := by
  refine ⟨_, rfl, h.receiveRouted n f _ fun u => ?_⟩
  (repeat' split) <;> simp

@[simp] theorem Steady.turnAway {s t : State} (h : Steady s t) (r : Req) : Steady s (t.turnAway r) := by
  unfold State.turnAway
  (repeat' split) <;> simp (disch := simp (disch := simp [h]) [h]) [h]

@[simp] theorem Steady.credit {s t : State} (h : Steady s t) (wsum t' : Nat) : Steady s (t.credit wsum t') := by
  unfold State.credit
  split <;> simp [h]

@[simp] theorem Steady.creditAll {s t : State} (h : Steady s t) : Steady s t.creditAll := by
  unfold State.creditAll
  simp (disch := simp (disch := simp [h]) [h])

theorem Steady.foldl_fst {α β : Type} {s : State} {p : State × β} (h : Steady s p.1) {f : State × β → α → State × β}
    (hf : ∀ q x, Steady q.1 (f q x).1) (l : List α) : Steady s (l.foldl f p).1 := by
  induction l generalizing p with
  | nil => exact h
  | cons x l ih => exact ih (h.trans (hf p x))

theorem Steady.admitTenant {s : State} (fuel n : Nat) : ∀ {p : State × Budget}, Steady s p.1 → Steady s
    (Machine.admitTenant fuel n p).1 := by
  induction fuel with
  | zero => exact fun h => h
  | succ fuel ih =>
    intro p h
    unfold Machine.admitTenant
    split
    · exact h
    split
    · exact h
    split
    · exact h
    split
    · exact ih ((h.turnDown _ _).passTurn _ _)
    · exact ih ((h.admitCmd _).passTurn _ _)

@[simp] theorem Steady.walkTenants {s t : State} (h : Steady s t) : Steady s t.walkTenants.1 :=
  Steady.foldl_fst (p := (_, _)) (h.replace id id id) (fun q k => Steady.admitTenant _ k (Steady.refl q.1)) _

@[simp] theorem Steady.spillOne {s t : State} (h : Steady s t) (n : Nat) (r : Req) : Steady s (t.spillOne n r) := by
  unfold State.spillOne
  simp (disch := simp (disch := simp [h]) [h])

theorem Steady.spillTenant {s : State} (fuel n k : Nat) : ∀ {p : State × Nat}, Steady s p.1 → Steady s
    (Machine.spillTenant fuel n k p).1 := by
  induction fuel with
  | zero => exact fun h => h
  | succ fuel ih =>
    intro p h
    unfold Machine.spillTenant
    dsimp only
    split
    · exact h
    split
    · exact h
    · exact ih ((h.spillOne _ _).passTurn _ _)

@[simp] theorem Steady.spillOut {s t : State} (h : Steady s t) (order : List Nat) : Steady s (t.spillOut order) := by
  unfold State.spillOut
  split
  · exact h
  · exact Steady.foldl_fst (p := (_, _)) h (fun q k => Steady.spillTenant _ _ _ (Steady.refl q.1)) _

@[simp] theorem Steady.spillIn {s t : State} (h : Steady s t) (unspent : Nat) : Steady s (t.spillIn unspent) := by
  unfold State.spillIn
  refine Steady.foldl_fst (p := (_, _)) h (fun q f => ?_) _
  dsimp only
  split
  · exact Steady.refl _
  split
  · exact (Steady.refl _).refuseUntaken _ _
  · exact (Steady.refl _).admitFor _ _

@[simp] theorem Steady.tickControl {s t : State} (h : Steady s t) : Steady s t.tickControl := by
  unfold State.tickControl
  dsimp only
  (repeat' split) <;> simp [h]

@[simp] theorem Steady.cycleAdmissions {s t : State} (h : Steady s t) : Steady s t.cycleAdmissions :=
  (h.creditAll.walkTenants.spillOut _).spillIn _

@[simp] theorem Ends.supervisorCycle {s t : State} (h : Steady s t) : Ends s (execSupervisorCycle t) := by
  refine ⟨_, rfl, ?_⟩
  split
  · exact h
  have controlled := h.tickControl
  dsimp only
  split
  · exact controlled
  have settled := (controlled.endLives.foldl (fun u r => (Steady.refl u).turnAway r) (t.tickControl.endLives).allWaiting).settleUnits
  split
  · exact settled.cycleAdmissions
  split
  · exact settled.creditAll
  · exact settled

@[simp] theorem Steady.setNode {s t : State} (h : Steady s t) (n : Nat) (x : Option Node) : Steady s (t.setNode n x) := by
  unfold State.setNode
  simp [h]

@[simp] theorem Steady.nodeCreate {s t : State} (h : Steady s t) (r : Req) : Steady s (t.nodeCreate r) := by
  unfold State.nodeCreate
  dsimp only
  (repeat' split) <;> simp [h]

@[simp] theorem Ends.nodeCreate {s t : State} (h : Steady s t) (r : Req) : Ends s (execNodeCreate r t) := by
  unfold execNodeCreate
  simp [h]

@[simp] theorem Steady.nodeDelete {s t : State} (h : Steady s t) (r : Req) : Steady s (t.nodeDelete r) := by
  unfold State.nodeDelete
  dsimp only
  (repeat' split) <;> simp (disch := simp (disch := simp [h]) [h])

@[simp] theorem Ends.nodeDelete {s t : State} (h : Steady s t) (r : Req) : Ends s (execNodeDelete r t) := by
  unfold execNodeDelete
  simp [h]

@[simp] theorem Ends.nodeQuery {s t : State} (h : Steady s t) (r : Req) : Ends s (execNodeQuery r t) := by
  refine ⟨_, rfl, h.hostCommand r _ fun u => ?_⟩
  split <;> simp

@[simp] theorem Steady.makeLeaf {s t : State} (h : Steady s t) (r : Req) (n : Node) : Steady s (t.makeLeaf r n) := by
  unfold State.makeLeaf
  dsimp only
  split
  · exact h.offerRaw _ _ _
  split
  · exact h.stallFor _
  have stored := (h.draw ‹_›).storeLeaf r.tenant r.desc.key1 n
  split
  · exact (stored _ _).offerRaw _ _ _
  · exact (stored _ _).answer _ _ _

@[simp] theorem Steady.keyGenerate {s t : State} (h : Steady s t) (r : Req) : Steady s (t.keyGenerate r) := by
  unfold State.keyGenerate
  dsimp only
  (repeat' split) <;> simp [h]

@[simp] theorem Ends.keyGenerate {s t : State} (h : Steady s t) (r : Req) : Ends s (execKeyGenerate r t) := by
  unfold execKeyGenerate
  simp [h]

@[simp] theorem Steady.leafDelete {s t : State} (h : Steady s t) (r : Req) : Steady s (t.leafDelete r) := by
  unfold State.leafDelete
  split
  · exact h.reject _ _
  have known := h.resolve ‹_›
  split
  · exact known.refuseRange _ _
  split
  · exact known.reject _ _
  · exact (known.wipeLeaf _).answer _ _ _

@[simp] theorem Ends.leafDelete {s t : State} (h : Steady s t) (r : Req) : Ends s (execLeafDelete r t) := by
  unfold execLeafDelete
  simp [h]

@[simp] theorem Ends.leafRetire {s t : State} (h : Steady s t) (r : Req) : Ends s (execLeafRetire r t) := by
  refine ⟨_, rfl, h.hostCommand r _ fun u => ?_⟩
  have kept := Steady.refl u
  dsimp only
  split
  · exact kept.refuseRange _ _
  split
  · exact kept.refuseRange _ _
  · exact ((kept.replace id id id).dropCached _).answer _ _ _

@[simp] theorem Steady.pubkeyRead {s t : State} (h : Steady s t) (r : Req) : Steady s (t.pubkeyRead r) := by
  unfold State.pubkeyRead
  split
  · exact h.reject _ _
  have known := h.resolve ‹_›
  split
  · exact (h.unstall _).pumpFor _ _
  split
  · exact known.refuse _ _ _ _
  split
  · exact known.reject _ _
  · exact h.offerRaw _ _ _

@[simp] theorem Ends.pubkeyRead {s t : State} (h : Steady s t) (r : Req) : Ends s (execPubkeyRead r t) := by
  unfold execPubkeyRead
  simp [h]

@[simp] theorem Steady.counterQuery {s t : State} (h : Steady s t) (r : Req) : Steady s (t.counterQuery r) := by
  unfold State.counterQuery
  split
  · exact h.reject _ _
  have known := h.resolve ‹_›
  split
  · exact known.forward _ _
  · exact known.answer _ _ _

@[simp] theorem Ends.counterQuery {s t : State} (h : Steady s t) (r : Req) : Ends s (execCounterQuery r t) := by
  unfold execCounterQuery
  simp [h]

@[simp] theorem Steady.ctxInit {s t : State} (h : Steady s t) (r : Req) : Steady s (t.ctxInit r) := by
  unfold State.ctxInit
  dsimp only
  (repeat' split) <;> simp [h]

@[simp] theorem Ends.ctxInit {s t : State} (h : Steady s t) (r : Req) : Ends s (execCtxInit r t) := by
  unfold execCtxInit
  simp [h]

@[simp] theorem Steady.clearCtx {s t : State} (h : Steady s t) (c : Nat) : Steady s (t.clearCtx c) := by
  unfold State.clearCtx
  simp [h]

@[simp] theorem Steady.ctxClear {s t : State} (h : Steady s t) (r : Req) : Steady s (t.ctxClear r) := by
  unfold State.ctxClear
  dsimp only
  (repeat' split) <;> simp (disch := simp (disch := simp [h]) [h])

@[simp] theorem Ends.ctxClear {s t : State} (h : Steady s t) (r : Req) : Ends s (execCtxClear r t) := by
  unfold execCtxClear
  simp [h]

@[simp] theorem Steady.freezeCtx {s t : State} (h : Steady s t) (c : Nat) : Steady s (t.freezeCtx c) := by
  unfold State.freezeCtx
  split <;> simp [h]

@[simp] theorem Steady.ctxExport {s t : State} (h : Steady s t) (r : Req) : Steady s (t.ctxExport r) := by
  unfold State.ctxExport
  dsimp only
  (repeat' split) <;> simp (disch := simp (disch := simp [h]) [h])

@[simp] theorem Ends.ctxExport {s t : State} (h : Steady s t) (r : Req) : Ends s (execCtxExport r t) := by
  unfold execCtxExport
  simp [h]

@[simp] theorem Steady.importKeys {s t : State} (h : Steady s t) (r : Req) (x : Option (Nat × Ctx)) : Steady s (t.importKeys r x) := by
  unfold State.importKeys
  dsimp only
  (repeat' split) <;> simp [h]

theorem Steady.importAll {s u : State} {r : Req} {m : Nat} {x : Option Rej} {l : List Bytes} :
    ∀ {t : State} {n : Nat}, Steady s t → State.importAll r l t n = (u, m, x) → Steady s u := by
  induction l with
  | nil =>
    intro t n h e
    obtain ⟨rfl, -⟩ := Prod.mk.inj e
    exact h
  | cons b rest ih =>
    intro t n h e
    unfold State.importAll at e
    split at e
    · obtain ⟨rfl, -⟩ := Prod.mk.inj e
      exact h
    · exact ih h e
    · exact ih (((h.importKeys _ _).setCtx _ _).replace id id id) e

@[simp] theorem Steady.ctxImport {s t : State} (h : Steady s t) (r : Req) : Steady s (t.ctxImport r) := by
  unfold State.ctxImport
  dsimp only
  split
  · exact h.refuseRange _ _
  split
  · exact h.refuse _ _ _ _
  split
  · exact (h.importAll ‹_›).answer _ _ _
  · exact (h.importAll ‹_›).complete _ _ _ _ _ _ _

@[simp] theorem Ends.ctxImport {s t : State} (h : Steady s t) (r : Req) : Ends s (execCtxImport r t) := by
  unfold execCtxImport
  simp [h]

@[simp] theorem Ends.ctxQuery {s t : State} (h : Steady s t) (r : Req) : Ends s (execCtxQuery r t) := by
  refine ⟨_, rfl, h.hostCommand r _ fun u => ?_⟩
  split <;> simp

@[simp] theorem Ends.dmkLockWrite {s t : State} (h : Steady s t) (who : Initiator) (lock : Bool) :
    Ends s (execDmkLockWrite who lock t) := by
  unfold execDmkLockWrite
  simp [h]

@[simp] theorem Ends.dmkFlushTenant {s t : State} (h : Steady s t) (who : Initiator) (t' : Nat) : Ends s (execDmkFlushTenant who t' t) := by
  unfold execDmkFlushTenant
  split <;> simp [h]

@[simp] theorem Ends.dmkFlushAll {s t : State} (h : Steady s t) (who : Initiator) : Ends s (execDmkFlushAll who t) := by
  unfold execDmkFlushAll
  split <;> simp [h]

/-- The record written leaves the queue, so the queue only gets shorter. -/
@[simp] theorem Ends.recordWrite {s t : State} (h : Steady s t) : Ends s (execRecordWrite t) := by
  refine ⟨_, rfl, ?_⟩
  split
  · exact h
  · rename_i x rest e
    have shorter : t.rcd.queue.length ≤ 64 → rest.length ≤ 64 := by
      rw [e, List.length_cons]
      omega
    dsimp only
    split
    · exact h.replace id shorter id
    split
    · exact h.replace id shorter id
    · exact h.replace id shorter id

@[simp] theorem Ends.summaryInterval {s t : State} (h : Steady s t) (code : Nat) : Ends s (execSummaryInterval code t) := by
  unfold execSummaryInterval
  simp [h]

@[simp] theorem Steady.setRecBank {s t : State} (h : Steady s t) (k : Nat) (b : RecBank) : Steady s (t.setRecBank k b) := by
  unfold State.setRecBank
  simp [h]

@[simp] theorem Steady.recWrite {s t : State} (h : Steady s t) (who : Initiator) {f : Nat → Nat → State → State}
    (hf : ∀ k src u, Steady u (f k src u)) : Steady s (t.recWrite who f) := by
  unfold State.recWrite
  split
  · exact h.bySecure who (hf _ _)
  · exact h.dropWrite who

@[simp] theorem Ends.recSeek {s t : State} (h : Steady s t) (who : Initiator) (q : W32) : Ends s (execRecSeek who q t) := by
  unfold execRecSeek
  simp [h]

@[simp] theorem Ends.seekDone {s t : State} (h : Steady s t) (who : Initiator) : Ends s (execSeekDone who t) := by
  unfold execSeekDone
  dsimp only
  (repeat' split) <;> simp [h]

@[simp] theorem Ends.recPost {s t : State} (h : Steady s t) (who : Initiator) (v : W32) : Ends s (execRecPost who v t) := by
  unfold execRecPost
  simp [h]

@[simp] theorem Ends.recQuery {s t : State} (h : Steady s t) (r : Req) : Ends s (execRecQuery r t) := by
  unfold execRecQuery
  simp [h]

@[simp] theorem Ends.recExport {s t : State} (h : Steady s t) (r : Req) : Ends s (execRecExport r t) := by
  unfold execRecExport
  simp [h]

@[simp] theorem Steady.readEffect {s t : State} (h : Steady s t) (who : Initiator) (b off : Nat) : Steady s (t.readEffect who b off) := by
  unfold State.readEffect
  (repeat' split) <;> simp [h]

@[simp] theorem Steady.deniedRead {s t : State} (h : Steady s t) : Steady s t.deniedRead := by
  unfold State.deniedRead
  simp [h]

@[simp] theorem Steady.writeSys {s t : State} (h : Steady s t) (off : Nat) (v : W32) : Steady s (t.writeSys off v) := by
  unfold State.writeSys
  split <;> simp [h]

@[simp] theorem Steady.writePwr {s t : State} (h : Steady s t) (who : Initiator) (off : Nat) (v : W32) :
    Steady s (t.writePwr who off v) := by
  unfold State.writePwr
  split <;> simp [h]

@[simp] theorem Steady.writeTwl {s t : State} (h : Steady s t) (off : Nat) (v : W32) : Steady s (t.writeTwl off v) := by
  unfold State.writeTwl
  split <;> simp [h]

@[simp] theorem Steady.writeDmk {s t : State} (h : Steady s t) (who : Initiator) (off : Nat) (v : W32) :
    Steady s (t.writeDmk who off v) := by
  unfold State.writeDmk
  split <;> simp [h]

@[simp] theorem Steady.writeEngine {s t : State} (h : Steady s t) (u : EngUnit) (off : Nat) (v : W32) :
    Steady s (t.writeEngine u off v) := by
  unfold State.writeEngine
  (repeat' split) <;> simp [h]

@[simp] theorem Steady.writeEnt {s t : State} (h : Steady s t) (who : Initiator) (off : Nat) (v : W32) :
    Steady s (t.writeEnt who off v) := by
  unfold State.writeEnt
  split <;> simp [h]

@[simp] theorem Steady.writeGate {s t : State} (h : Steady s t) (who : Initiator) (off : Nat) (v : W32) :
    Steady s (t.writeGate who off v) := by
  unfold State.writeGate
  split <;> simp [h]

@[simp] theorem Steady.ecctOp {s t : State} (h : Steady s t) (who : Initiator) (v : W32) : Steady s (t.ecctOp who v) := by
  unfold State.ecctOp
  simp (disch := simp (disch := simp [h]) [h]) [h]

@[simp] theorem Steady.writeMem {s t : State} (h : Steady s t) (who : Initiator) (off : Nat) (v : W32) :
    Steady s (t.writeMem who off v) := by
  unfold State.writeMem
  (repeat' split) <;> simp [h]

@[simp] theorem Steady.writeLace {s t : State} (h : Steady s t) (who : Initiator) (off : Nat) (v : W32) :
    Steady s (t.writeLace who off v) := by
  unfold State.writeLace
  split <;> simp [h]

@[simp] theorem Steady.writeLcs {s t : State} (h : Steady s t) (who : Initiator) (off : Nat) (v : W32) :
    Steady s (t.writeLcs who off v) := by
  unfold State.writeLcs
  split <;> simp [h]

@[simp] theorem Steady.writeRec {s t : State} (h : Steady s t) (who : Initiator) (off : Nat) (v : W32) :
    Steady s (t.writeRec who off v) := by
  unfold State.writeRec
  split <;> simp [h]

@[simp] theorem Steady.writeBlk {s t : State} (h : Steady s t) (off : Nat) (v : W32) : Steady s (t.writeBlk off v) := by
  unfold State.writeBlk
  split <;> simp [h]

@[simp] theorem Steady.writeSupvCtl {s t : State} (h : Steady s t) (who : Initiator) (v : W32) : Steady s (t.writeSupvCtl who v) := by
  unfold State.writeSupvCtl
  split
  · extract_lets u1 u2
    have h1 : Steady s u1 := by
      show Steady s (ite _ _ _)
      split
      · exact Steady.after (Ends.supvCtlGiveup h _)
      · exact h
    have h2 : Steady s u2 := Steady.after (Ends.supvCtlFenceA h1 _ _)
    exact Steady.after (Ends.supvCtlFenceB h2 _ _)
  · exact h

@[simp] theorem Steady.clearFresh {s t : State} (h : Steady s t) (n : Nat) (v : W32) : Steady s (t.clearFresh n v) := by
  unfold State.clearFresh
  split <;> simp [h]

@[simp] theorem Steady.writeSupv {s t : State} (h : Steady s t) (who : Initiator) (off : Nat) (v : W32) :
    Steady s (t.writeSupv who off v) := by
  unfold State.writeSupv
  (repeat' split) <;> simp [h]

@[simp] theorem Steady.writeBkd {s t : State} (h : Steady s t) (who : Initiator) (off : Nat) (v : W32) :
    Steady s (t.writeBkd who off v) := by
  unfold State.writeBkd
  split <;> simp [h]

@[simp] theorem Steady.commit {s t : State} (h : Steady s t) (who : Initiator) (b off : Nat) (v : W32) :
    Steady s (t.commit who b off v) := by
  unfold State.commit
  (repeat' split) <;> simp [h]

@[simp] theorem Steady.pairValue {s t : State} (h : Steady s t) (who : Initiator) (a : Nat) (v : W32) : Steady s (t.pairValue who a v) := by
  unfold State.pairValue
  simp [h]

@[simp] theorem Steady.pairInverse {s t : State} (h : Steady s t) (who : Initiator) (a b off : Nat) (v : W32) :
    Steady s (t.pairInverse who a b off v) := by
  unfold State.pairInverse
  (repeat' split) <;> simp [h]

@[simp] theorem Steady.regWrite {s t : State} (h : Steady s t) (who : Initiator) (a : Nat) (v : W32) : Steady s (t.regWrite who a v) := by
  unfold State.regWrite
  (repeat' split) <;> simp [h]

@[simp] theorem Steady.broadcast {s t : State} (h : Steady s t) (who : Initiator) (a : Nat) (v : W32) : Steady s (t.broadcast who a v) := by
  unfold State.broadcast
  split <;> simp [h]

@[simp] theorem Steady.deviceWrite {s t : State} (h : Steady s t) (who : Initiator) (a : Nat) (v : W32) :
    Steady s (t.deviceWrite who a v) := by
  unfold State.deviceWrite
  split <;> simp [h]

@[simp] theorem Steady.setBase {s t : State} (h : Steady s t) (t' q : Nat) (f : QPair → QPair) : Steady s (t.setBase t' q f) := by
  unfold State.setBase
  split <;> simp [h]

@[simp] theorem Steady.writeDoorbell {s t : State} (h : Steady s t) (portB : Bool) (t' off : Nat) (v : W32) :
    Steady s (t.writeDoorbell portB t' off v) := by
  unfold State.writeDoorbell
  (repeat' split) <;> simp [h]

@[simp] theorem Steady.writeMsix {s t : State} (h : Steady s t) (portB : Bool) (off : Nat) (v : W32) :
    Steady s (t.writeMsix portB off v) := by
  unfold State.writeMsix
  dsimp only
  (repeat' split) <;> simp (disch := simp (disch := simp [h]) [h])

@[simp] theorem Steady.writeBar2 {s t : State} (h : Steady s t) (portB : Bool) (off : Nat) (v : W32) (hi : Option W32) :
    Steady s (t.writeBar2 portB off v hi) := by
  unfold State.writeBar2
  dsimp only
  (repeat' split) <;> simp [h]

@[simp] theorem Ends.registerWrite {s t : State} (h : Steady s t) (who : Initiator) (p : RegPlace) (v : W32) (hi : Option W32) :
    Ends s (execRegisterWrite who p v hi t) := by
  unfold execRegisterWrite
  (repeat' split) <;> simp [h]

@[simp] theorem Ends.rwpComplementTimeout {s t : State} (h : Steady s t) (addr : Nat) : Ends s (execRwpComplementTimeout addr t) := by
  unfold execRwpComplementTimeout
  split <;> simp [h]

@[simp] theorem Ends.broadcastWrite {s t : State} (h : Steady s t) (who : Initiator) (addr : Nat) (v : W32) :
    Ends s (execBroadcastWrite who addr v t) := by
  unfold execBroadcastWrite
  split <;> simp [h]

@[simp] theorem Steady.tickCore {s t : State} (h : Steady s t) (n : Nat) (k : Option Nat) : Steady s (t.tickCore n k) := by
  unfold State.tickCore
  simp [h]

@[simp] theorem Steady.setPc {s t : State} (h : Steady s t) (n : Nat) (pc : W64) : Steady s (t.setPc n pc) := by
  unfold State.setPc
  simp [h]

@[simp] theorem Steady.retireWord {s t : State} (h : Steady s t) (n : Nat) (k : Option Nat) : Steady s (t.retireWord n k) := by
  unfold State.retireWord
  simp [h]

theorem Steady.fetchFault {s t u : State} {n : Nat} (h : Steady s t) (e : t.fetchFault n = some u) : Steady s u := by
  unfold State.fetchFault at e
  dsimp only at e
  split at e
  · cases e; exact h.exception _ _ _ _ _
  split at e
  · cases e; exact (h.noteUncorrectable _ _ _).exception _ _ _ _ _
  · cases e

@[simp] theorem Steady.takeStore {s t : State} (h : Steady s t) (n a : Nat) : Steady s (t.takeStore n a) := by
  unfold State.takeStore
  simp [h]

@[simp] theorem Steady.failStore {s t : State} (h : Steady s t) (n : Nat) (e : StoreEntry) : Steady s (t.failStore n e) := by
  unfold State.failStore
  simp [h]

theorem Steady.readEntropy {s t : State} (h : Steady s t) (who : Initiator) : Steady s (t.readEntropy who).1 := by
  unfold State.readEntropy
  dsimp only
  split
  · exact h.latchWord _ _
  split
  · exact h
  split
  · exact ((h.latchWord _ _).takeWords ‹_›).latchWord _ _
  · exact (h.latchWord _ _).stallFor _

theorem Steady.regRead {s t u : State} {who : Initiator} {a : Nat} {v : Option W32} (h : Steady s t) (e : t.regRead who a = (u, v)) :
    Steady s u := by
  have after : Steady s (t.regRead who a).1 := by
    unfold State.regRead
    split
    · exact h
    split
    · exact h.deniedRead
    split
    · exact h
    split
    · exact h.readEntropy who
    · exact h.readEffect _ _ _
  rw [e] at after
  exact after

theorem Steady.loadRegister {s t u : State} {who : Initiator} {a n : Nat} {v : Option Bytes} (h : Steady s t)
    (e : t.loadRegister who a n = (u, v)) : Steady s u := by
  unfold State.loadRegister at e
  split at e
  · obtain ⟨rfl, -⟩ := Prod.mk.inj e
    exact h.regRead ‹_›
  have low := h.regRead ‹_›
  split at e
  · obtain ⟨rfl, -⟩ := Prod.mk.inj e
    exact low
  split at e <;> obtain ⟨rfl, -⟩ := Prod.mk.inj e <;> exact low.regRead ‹_›

/-- What a load or a store answers leaves the state steady. -/
def MemResult.Steady (s : State) : MemResult → Prop
  | .done t _ => Machine.Steady s t
  | .stall t => Machine.Steady s t
  | .fault t _ => Machine.Steady s t

theorem Steady.loadAt {s t : State} (h : Steady s t) (n : Nat) (a : W64) (size : Nat) (signed busy : Bool) :
    (t.loadAt n a size signed busy).Steady s := by
  unfold State.loadAt
  dsimp only
  split
  · exact h
  split
  · split
    · exact h
    split <;> exact h.loadRegister ‹_›
  split
  · exact h.noteDenial _ _ _ _ _ _
  split
  · exact h
  split
  · exact h.noteConflicts _ _ _
  split
  · exact h.noteConflicts _ _ _
  have read := h.readWord a.toNat size n
  split <;> rename_i e <;> rw [e] at read
  · exact read.failSupPart _
  · exact read

theorem Steady.storeAt {s t : State} (h : Steady s t) (n : Nat) (a : W64) (b : Bytes) : (t.storeAt n a b).Steady s := by
  unfold State.storeAt
  dsimp only
  split
  · exact h
  split
  · exact h
  · exact h.setCore _ _

theorem Steady.memOp {s t : State} (h : Steady s t) (n : Nat) (o : ZOp) (busy : Bool) : (t.memOp n o busy).Steady s := by
  unfold State.memOp
  dsimp only
  split
  · exact h
  split
  · exact h.loadAt _ _ _ _ _
  · exact h.storeAt _ _ _
  · exact h

@[simp] theorem Steady.retireStore {s t : State} (h : Steady s t) (n : Nat) (busy : Bool) : Steady s (t.retireStore n busy) := by
  unfold State.retireStore
  dsimp only
  (repeat' split) <;> simp (disch := simp (disch := simp [h]) [h]) [h]

@[simp] theorem Steady.scall {s t : State} (h : Steady s t) (n num : Nat) : Steady s (t.scall n num) := by
  unfold State.scall
  split <;> simp [h]

@[simp] theorem Steady.sret {s t : State} (h : Steady s t) (n : Nat) (copy : Bool) : Steady s (t.sret n copy) := by
  unfold State.sret
  simp [h]

@[simp] theorem Steady.setBox {s t : State} (h : Steady s t) (n u : Nat) (m : Mailbox) : Steady s (t.setBox n u m) := by
  unfold State.setBox
  simp [h]

@[simp] theorem Steady.writePart {s t : State} (h : Steady s t) (n u a : Nat) (b : Bytes) : Steady s (t.writePart n u a b) := by
  unfold State.writePart
  dsimp only
  split <;> simp [h]

@[simp] theorem Steady.writeParts {s : State} (n u : Nat) (l : List (Nat × Nat)) :
    ∀ {t : State} (b : Bytes), Steady s t → Steady s (t.writeParts n u l b) := by
  induction l with
  | nil => exact fun _ h => h
  | cons x l ih =>
    intro t b h
    unfold State.writeParts
    split
    · exact h
    · exact ih _ (h.writePart _ _ _ _)

@[simp] theorem Steady.haltCore {s t : State} (h : Steady s t) (n : Nat) : Steady s (t.haltCore n) := by
  unfold State.haltCore
  simp [h]

@[simp] theorem Steady.submitStep {s t : State} (h : Steady s t) (n u : Nat) (copy : Bytes) : Steady s (t.submitStep n u copy) := by
  unfold State.submitStep
  split <;> simp (disch := simp (disch := simp [h]) [h]) [h]

theorem Steady.readWork {s t : State} (h : Steady s t) (u a n : Nat) : Steady s (t.readWork u a n).1 := by
  unfold State.readWork
  split
  · exact h.noteUncorrectable _ _ _
  · exact h.foldl (fun v w => (Steady.refl v).noteCorrected _ _ _ _) _

theorem Steady.readParts {s : State} (n u : Nat) (l : List (Nat × Nat)) : ∀ {t : State}, Steady s t → Steady s (t.readParts n u l).1 := by
  induction l with
  | nil => exact fun h => h
  | cons x l ih =>
    intro t h
    unfold State.readParts
    refine ih ?_
    split
    · exact h.readWork _ _ _
    · dsimp only
      exact h.noteDenial _ _ _ _ _ _

theorem Steady.submitBox {s t : State} (h : Steady s t) (n u a : Nat) : Steady s (t.submitBox n u a).1 := by
  unfold State.submitBox
  extract_lets m x y who
  split
  · exact h
  split
  · have read : Steady s x.1 := h.readParts n u _
    have set : Steady s y := read.setBox _ _ _
    split
    · dsimp only
      exact set.refuseRange _ _
    split
    · dsimp only
      exact set.abortOne _ _
    · exact set.replace id id id
  split
  · dsimp only
    exact (h.setBox _ _ _).submitStep _ _ _
  · dsimp only
    exact h.dropWrite _

theorem Steady.systemFault {s t u : State} {n : Nat} {o : ZOp} (h : Steady s t) (e : t.systemFault n o = some u) : Steady s u := by
  unfold State.systemFault at e
  dsimp only at e
  split at e
  · cases e
  split at e
  · split at e
    · cases e
    · cases e; exact (h.noteDenial _ _ _ _ _ _).exception _ _ _ _ _
  · split at e
    · cases e
    · cases e; exact h.exception _ _ _ _ _
  · cases e

@[simp] theorem Steady.jump {s t : State} (h : Steady s t) (n : Nat) (pc : W64) (k : Nat) : Steady s (t.jump n pc k) := by
  unfold State.jump
  simp [h]

@[simp] theorem Steady.linkPc {s t : State} (h : Steady s t) (n : Nat) : Steady s (t.linkPc n) := by
  unfold State.linkPc
  simp [h]

@[simp] theorem Steady.setRd {s t : State} (h : Steady s t) (n rd : Nat) (v : W64) : Steady s (t.setRd n rd v) := by
  unfold State.setRd
  simp [h]

@[simp] theorem Steady.waitEvent {s t : State} (h : Steady s t) (n : Nat) : Steady s (t.waitEvent n) := by
  unfold State.waitEvent
  dsimp only
  split <;> simp [h]

@[simp] theorem Steady.system {s t : State} (h : Steady s t) (n : Nat) (o : ZOp) : Steady s (t.system n o) := by
  unfold State.system
  dsimp only
  split
  · exact h.jump _ _ _
  · exact (h.linkPc _).jump _ _ _
  · exact h.jump _ _ _
  · exact (h.linkPc _).jump _ _ _
  · exact ((h.setCore _ _).setRd _ _ _).retireWord _ _
  · exact (h.setCore _ _).retireWord _ _
  · exact (h.scall _ _).tickCore _ _
  · exact (h.sret _ _).tickCore _ _
  · exact (h.setCore _ _).tickCore _ _
  · split
    · exact h
    · exact ((h.submitBox _ _ _).setRd _ _ _).retireWord _ _
  · exact h.waitEvent _
  · split
    · exact h
    · exact h.retireWord _ _
  · exact h.haltCore _
  · exact h

@[simp] theorem Steady.runSystem {s t : State} (h : Steady s t) (n : Nat) (o : ZOp) : Steady s (t.runSystem n o) := by
  unfold State.runSystem
  split
  · exact h.systemFault ‹_›
  split
  · exact h.takeStore _ _
  split
  · exact h.system _ _
  · exact h.retireWord _ _

@[simp] theorem Steady.commitWord {s t : State} (h : Steady s t) (n : Nat) (l : List ZOp) (v : Option W64) :
    Steady s (t.commitWord n l v) := by
  unfold State.commitWord
  simp [h]

@[simp] theorem Steady.runOps {s t : State} (h : Steady s t) (n : Nat) (l : List ZOp) (busy : Bool) : Steady s (t.runOps n l busy) := by
  unfold State.runOps
  split
  · split
    · exact h.takeStore _ _
    · exact h.commitWord _ _ _
  · rename_i o _
    have ran := h.memOp n o busy
    split
    · rename_i e
      rw [e] at ran
      exact Steady.exception ran _ _ _ _ _
    · exact h.takeStore _ _
    · rename_i e _
      rw [e] at ran
      exact ran
    · rename_i e _
      rw [e] at ran
      exact Steady.commitWord ran _ _ _

@[simp] theorem Steady.runWord {s t : State} (h : Steady s t) (n : Nat) (w : ZWord) (busy : Bool) : Steady s (t.runWord n w busy) := by
  unfold State.runWord
  split
  · exact h.noteConflicts _ _ _
  split
  · exact h.fetchFault ‹_›
  split
  · exact h.exception _ _ _ _ _
  · split
    · exact h.runSystem _ _
    · exact h.runOps _ _ _
  · exact h.runOps _ _ _

@[simp] theorem Steady.issueWord {s t : State} (h : Steady s t) (n : Nat) (w : ZWord) (busy : Bool) : Steady s (t.issueWord n w busy) := by
  unfold State.issueWord
  split <;> simp [h]

@[simp] theorem Ends.nop {s t : State} (h : Steady s t) (n : Nat) (f : ZForm) (a : ZArgs) : Ends s (execNop n f a t) := by
  unfold execNop
  simp [h]

@[simp] theorem Ends.add {s t : State} (h : Steady s t) (n : Nat) (f : ZForm) (a : ZArgs) : Ends s (execAdd n f a t) := by
  unfold execAdd
  simp [h]

@[simp] theorem Ends.sub {s t : State} (h : Steady s t) (n : Nat) (f : ZForm) (a : ZArgs) : Ends s (execSub n f a t) := by
  unfold execSub
  simp [h]

@[simp] theorem Ends.and {s t : State} (h : Steady s t) (n : Nat) (f : ZForm) (a : ZArgs) : Ends s (execAnd n f a t) := by
  unfold execAnd
  simp [h]

@[simp] theorem Ends.or {s t : State} (h : Steady s t) (n : Nat) (f : ZForm) (a : ZArgs) : Ends s (execOr n f a t) := by
  unfold execOr
  simp [h]

@[simp] theorem Ends.xor {s t : State} (h : Steady s t) (n : Nat) (f : ZForm) (a : ZArgs) : Ends s (execXor n f a t) := by
  unfold execXor
  simp [h]

@[simp] theorem Ends.shl {s t : State} (h : Steady s t) (n : Nat) (f : ZForm) (a : ZArgs) : Ends s (execShl n f a t) := by
  unfold execShl
  simp [h]

@[simp] theorem Ends.shr {s t : State} (h : Steady s t) (n : Nat) (f : ZForm) (a : ZArgs) : Ends s (execShr n f a t) := by
  unfold execShr
  simp [h]

@[simp] theorem Ends.sar {s t : State} (h : Steady s t) (n : Nat) (f : ZForm) (a : ZArgs) : Ends s (execSar n f a t) := by
  unfold execSar
  simp [h]

@[simp] theorem Ends.addi {s t : State} (h : Steady s t) (n : Nat) (f : ZForm) (a : ZArgs) : Ends s (execAddi n f a t) := by
  unfold execAddi
  simp [h]

@[simp] theorem Ends.andi {s t : State} (h : Steady s t) (n : Nat) (f : ZForm) (a : ZArgs) : Ends s (execAndi n f a t) := by
  unfold execAndi
  simp [h]

@[simp] theorem Ends.shli {s t : State} (h : Steady s t) (n : Nat) (f : ZForm) (a : ZArgs) : Ends s (execShli n f a t) := by
  unfold execShli
  simp [h]

@[simp] theorem Ends.shri {s t : State} (h : Steady s t) (n : Nat) (f : ZForm) (a : ZArgs) : Ends s (execShri n f a t) := by
  unfold execShri
  simp [h]

@[simp] theorem Ends.sari {s t : State} (h : Steady s t) (n : Nat) (f : ZForm) (a : ZArgs) : Ends s (execSari n f a t) := by
  unfold execSari
  simp [h]

@[simp] theorem Ends.rotri {s t : State} (h : Steady s t) (n : Nat) (f : ZForm) (a : ZArgs) : Ends s (execRotri n f a t) := by
  unfold execRotri
  simp [h]

@[simp] theorem Ends.movi {s t : State} (h : Steady s t) (n : Nat) (f : ZForm) (a : ZArgs) : Ends s (execMovi n f a t) := by
  unfold execMovi
  simp [h]

@[simp] theorem Ends.cmpeq {s t : State} (h : Steady s t) (n : Nat) (f : ZForm) (a : ZArgs) : Ends s (execCmpeq n f a t) := by
  unfold execCmpeq
  simp [h]

@[simp] theorem Ends.cmpne {s t : State} (h : Steady s t) (n : Nat) (f : ZForm) (a : ZArgs) : Ends s (execCmpne n f a t) := by
  unfold execCmpne
  simp [h]

@[simp] theorem Ends.cmplt {s t : State} (h : Steady s t) (n : Nat) (f : ZForm) (a : ZArgs) : Ends s (execCmplt n f a t) := by
  unfold execCmplt
  simp [h]

@[simp] theorem Ends.cmpltu {s t : State} (h : Steady s t) (n : Nat) (f : ZForm) (a : ZArgs) : Ends s (execCmpltu n f a t) := by
  unfold execCmpltu
  simp [h]

@[simp] theorem Ends.cmpeqi {s t : State} (h : Steady s t) (n : Nat) (f : ZForm) (a : ZArgs) : Ends s (execCmpeqi n f a t) := by
  unfold execCmpeqi
  simp [h]

@[simp] theorem Ends.cmplti {s t : State} (h : Steady s t) (n : Nat) (f : ZForm) (a : ZArgs) : Ends s (execCmplti n f a t) := by
  unfold execCmplti
  simp [h]

@[simp] theorem Ends.cmpltui {s t : State} (h : Steady s t) (n : Nat) (f : ZForm) (a : ZArgs) : Ends s (execCmpltui n f a t) := by
  unfold execCmpltui
  simp [h]

@[simp] theorem Ends.pand {s t : State} (h : Steady s t) (n : Nat) (f : ZForm) (a : ZArgs) : Ends s (execPand n f a t) := by
  unfold execPand
  simp [h]

@[simp] theorem Ends.por {s t : State} (h : Steady s t) (n : Nat) (f : ZForm) (a : ZArgs) : Ends s (execPor n f a t) := by
  unfold execPor
  simp [h]

@[simp] theorem Ends.pxor {s t : State} (h : Steady s t) (n : Nat) (f : ZForm) (a : ZArgs) : Ends s (execPxor n f a t) := by
  unfold execPxor
  simp [h]

@[simp] theorem Ends.mul {s t : State} (h : Steady s t) (n : Nat) (f : ZForm) (a : ZArgs) : Ends s (execMul n f a t) := by
  unfold execMul
  simp [h]

@[simp] theorem Ends.mulh {s t : State} (h : Steady s t) (n : Nat) (f : ZForm) (a : ZArgs) : Ends s (execMulh n f a t) := by
  unfold execMulh
  simp [h]

@[simp] theorem Ends.mac {s t : State} (h : Steady s t) (n : Nat) (f : ZForm) (a : ZArgs) : Ends s (execMac n f a t) := by
  unfold execMac
  simp [h]

@[simp] theorem Ends.mgetl {s t : State} (h : Steady s t) (n : Nat) (f : ZForm) (a : ZArgs) : Ends s (execMgetl n f a t) := by
  unfold execMgetl
  simp [h]

@[simp] theorem Ends.mgeth {s t : State} (h : Steady s t) (n : Nat) (f : ZForm) (a : ZArgs) : Ends s (execMgeth n f a t) := by
  unfold execMgeth
  simp [h]

@[simp] theorem Ends.bswap {s t : State} (h : Steady s t) (n : Nat) (f : ZForm) (a : ZArgs) : Ends s (execBswap n f a t) := by
  unfold execBswap
  simp [h]

@[simp] theorem Ends.shori {s t : State} (h : Steady s t) (n : Nat) (a : ZArgs) : Ends s (execShori n a t) := by
  unfold execShori
  simp [h]

@[simp] theorem Ends.ld8 {s t : State} (h : Steady s t) (n : Nat) (a : ZArgs) (busy : Bool) : Ends s (execLd8 n a busy t) := by
  unfold execLd8
  simp [h]

@[simp] theorem Ends.ld16 {s t : State} (h : Steady s t) (n : Nat) (a : ZArgs) (busy : Bool) : Ends s (execLd16 n a busy t) := by
  unfold execLd16
  simp [h]

@[simp] theorem Ends.ld32 {s t : State} (h : Steady s t) (n : Nat) (f : ZForm) (a : ZArgs) (busy : Bool) :
    Ends s (execLd32 n f a busy t) := by
  unfold execLd32
  simp [h]

@[simp] theorem Ends.ld64 {s t : State} (h : Steady s t) (n : Nat) (f : ZForm) (a : ZArgs) (busy : Bool) :
    Ends s (execLd64 n f a busy t) := by
  unfold execLd64
  simp [h]

@[simp] theorem Ends.lds8 {s t : State} (h : Steady s t) (n : Nat) (a : ZArgs) (busy : Bool) : Ends s (execLds8 n a busy t) := by
  unfold execLds8
  simp [h]

@[simp] theorem Ends.lds16 {s t : State} (h : Steady s t) (n : Nat) (a : ZArgs) (busy : Bool) : Ends s (execLds16 n a busy t) := by
  unfold execLds16
  simp [h]

@[simp] theorem Ends.lds32 {s t : State} (h : Steady s t) (n : Nat) (a : ZArgs) (busy : Bool) : Ends s (execLds32 n a busy t) := by
  unfold execLds32
  simp [h]

@[simp] theorem Ends.st8 {s t : State} (h : Steady s t) (n : Nat) (a : ZArgs) : Ends s (execSt8 n a t) := by
  unfold execSt8
  simp [h]

@[simp] theorem Ends.st16 {s t : State} (h : Steady s t) (n : Nat) (a : ZArgs) : Ends s (execSt16 n a t) := by
  unfold execSt16
  simp [h]

@[simp] theorem Ends.st32 {s t : State} (h : Steady s t) (n : Nat) (f : ZForm) (a : ZArgs) : Ends s (execSt32 n f a t) := by
  unfold execSt32
  simp [h]

@[simp] theorem Ends.st64 {s t : State} (h : Steady s t) (n : Nat) (f : ZForm) (a : ZArgs) : Ends s (execSt64 n f a t) := by
  unfold execSt64
  simp [h]

@[simp] theorem Ends.br {s t : State} (h : Steady s t) (n : Nat) (a : ZArgs) : Ends s (execBr n a t) := by
  unfold execBr
  simp [h]

@[simp] theorem Ends.brl {s t : State} (h : Steady s t) (n : Nat) (a : ZArgs) : Ends s (execBrl n a t) := by
  unfold execBrl
  simp [h]

@[simp] theorem Ends.jr {s t : State} (h : Steady s t) (n : Nat) (a : ZArgs) : Ends s (execJr n a t) := by
  unfold execJr
  simp [h]

@[simp] theorem Ends.jrl {s t : State} (h : Steady s t) (n : Nat) (a : ZArgs) : Ends s (execJrl n a t) := by
  unfold execJrl
  simp [h]

@[simp] theorem Ends.crd {s t : State} (h : Steady s t) (n : Nat) (a : ZArgs) : Ends s (execCrd n a t) := by
  unfold execCrd
  simp [h]

@[simp] theorem Ends.cwr {s t : State} (h : Steady s t) (n : Nat) (a : ZArgs) : Ends s (execCwr n a t) := by
  unfold execCwr
  simp [h]

@[simp] theorem Ends.scall {s t : State} (h : Steady s t) (n : Nat) (a : ZArgs) : Ends s (execScall n a t) := by
  unfold execScall
  simp [h]

@[simp] theorem Ends.sret {s t : State} (h : Steady s t) (n : Nat) (a : ZArgs) : Ends s (execSret n a t) := by
  unfold execSret
  simp [h]

@[simp] theorem Ends.tret {s t : State} (h : Steady s t) (n : Nat) (a : ZArgs) : Ends s (execTret n a t) := by
  unfold execTret
  simp [h]

@[simp] theorem Ends.msub {s t : State} (h : Steady s t) (n : Nat) (a : ZArgs) : Ends s (execMsub n a t) := by
  unfold execMsub
  simp [h]

@[simp] theorem Ends.wfe {s t : State} (h : Steady s t) (n : Nat) (a : ZArgs) : Ends s (execWfe n a t) := by
  unfold execWfe
  simp [h]

@[simp] theorem Ends.fence {s t : State} (h : Steady s t) (n : Nat) (a : ZArgs) : Ends s (execFence n a t) := by
  unfold execFence
  simp [h]

@[simp] theorem Ends.brk {s t : State} (h : Steady s t) (n : Nat) (a : ZArgs) : Ends s (execBrk n a t) := by
  unfold execBrk
  simp [h]

@[simp] theorem Ends.multiplierWrite {s t : State} (h : Steady s t) (n : Nat) : Ends s (execMultiplierWrite n t) := by
  unfold execMultiplierWrite
  split <;> simp [h]

@[simp] theorem Ends.storeRetire {s t : State} (h : Steady s t) (n : Nat) (busy : Bool) : Ends s (execStoreRetire n busy t) := by
  unfold execStoreRetire
  split <;> simp [h]

@[simp] theorem Ends.storeFault {s t : State} (h : Steady s t) (n : Nat) : Ends s (execStoreFault n t) := by
  unfold execStoreFault
  (repeat' split) <;> simp [h]

@[simp] theorem Ends.wfeWake {s t : State} (h : Steady s t) (n : Nat) : Ends s (execWfeWake n t) := by
  unfold execWfeWake
  dsimp only
  split <;> simp [h]

@[simp] theorem Ends.interruptEntry {s t : State} (h : Steady s t) (n : Nat) : Ends s (execInterruptEntry n t) := by
  unfold execInterruptEntry
  dsimp only
  (repeat' split) <;> simp [h]

@[simp] theorem Steady.finishBox {s t : State} (h : Steady s t) (n u : Nat) (rcd : Bytes) : Steady s (t.finishBox n u rcd) := by
  unfold State.finishBox
  simp (disch := simp (disch := simp [h]) [h])

theorem Steady.deliverMail {s t : State} (h : Steady s t) (n u : Nat) (m : Mailbox) (c : Completion) : Steady s (t.deliverMail n u m c).1 :=
  Steady.writeParts _ _ _ _ h

@[simp] theorem Ends.mailboxCompletion {s t : State} (h : Steady s t) (n u : Nat) : Ends s (execMailboxCompletion n u t) := by
  refine ⟨_, rfl, ?_⟩
  dsimp only
  split
  · exact h
  split
  · split
    · exact h
    · exact (Steady.deliverMail (h.replace id id id) _ _ _ _).finishBox _ _ _
  split
  · exact h
  · exact ((h.replace id id id).drew _).finishBox _ _ _

@[simp] theorem Steady.dapRequest {s t : State} (h : Steady s t) (ok : Bool) {f : State → State} (hf : ∀ u, Steady u (f u)) :
    Steady s (t.dapRequest ok f) := by
  unfold State.dapRequest
  split
  · exact h
  split
  · exact ((h.tapSelect _ _).replace id id id).trans (hf _)
  · exact h.tapSelect _ _

@[simp] theorem Steady.dapAnswer {s t : State} (h : Steady s t) (b : Bytes) : Steady s (t.dapAnswer b) := by
  unfold State.dapAnswer
  simp [h]

@[simp] theorem Steady.debugRead {s t : State} (h : Steady s t) (w : World) (a size : Nat) : Steady s (t.debugRead w a size) := by
  unfold State.debugRead
  dsimp only
  split
  · split
    · exact h.dapAnswer _
    split
    · exact (h.loadRegister ‹_›).dapAnswer _
    · exact h.loadRegister ‹_›
  split
  · exact h.dapAnswer _
  split
  · exact (h.noteDenial _ _ _ _ _ _).dapAnswer _
  have read := h.readWord a size 31
  split <;> rename_i e <;> rw [e] at read <;> exact read.dapAnswer _

@[simp] theorem Steady.debugWrite {s t : State} (h : Steady s t) (w : World) (a : Nat) (b : Bytes) : Steady s (t.debugWrite w a b) := by
  unfold State.debugWrite
  dsimp only
  (repeat' split) <;> simp [h]

@[simp] theorem Ends.dapMemoryRead {s t : State} (h : Steady s t) (w : World) (a size : Nat) : Ends s (execDapMemoryRead w a size t) := by
  unfold execDapMemoryRead
  split <;> simp [h]

@[simp] theorem Ends.dapMemoryWrite {s t : State} (h : Steady s t) (w : World) (a : Nat) (b : Bytes) :
    Ends s (execDapMemoryWrite w a b t) := by
  unfold execDapMemoryWrite
  split <;> simp [h]

@[simp] theorem Ends.dapRegisterRead {s t : State} (h : Steady s t) (n : Nat) (w : World) (r : Nat) :
    Ends s (execDapRegisterRead n w r t) := by
  unfold execDapRegisterRead
  split <;> simp [h]

@[simp] theorem Ends.dapRegisterWrite {s t : State} (h : Steady s t) (n : Nat) (w : World) (r : Nat) (v : W64) :
    Ends s (execDapRegisterWrite n w r v t) := by
  unfold execDapRegisterWrite
  split <;> simp [h]

@[simp] theorem Ends.dapHalt {s t : State} (h : Steady s t) (n : Nat) (w : World) : Ends s (execDapHalt n w t) := by
  unfold execDapHalt
  split <;> simp [h]

@[simp] theorem Ends.dapSingleStep {s t : State} (h : Steady s t) (n : Nat) (w : World) : Ends s (execDapSingleStep n w t) := by
  unfold execDapSingleStep
  dsimp only
  split <;> simp [h]

@[simp] theorem Ends.hash {s t : State} (h : Steady s t) (r : Req) : Ends s (execHash r t) := by
  unfold execHash
  simp [h]

@[simp] theorem Ends.hmacGen {s t : State} (h : Steady s t) (r : Req) : Ends s (execHmacGen r t) := by
  unfold execHmacGen
  simp [h]

@[simp] theorem Ends.hmacVer {s t : State} (h : Steady s t) (r : Req) : Ends s (execHmacVer r t) := by
  unfold execHmacVer
  simp [h]

@[simp] theorem Ends.hashStep {s t : State} (h : Steady s t) (n st : Nat) : Ends s (execHashStep n st t) := by
  unfold execHashStep
  simp [h]

@[simp] theorem Ends.hmacStep {s t : State} (h : Steady s t) (n st : Nat) : Ends s (execHmacStep n st t) := by
  unfold execHmacStep
  simp [h]

@[simp] theorem Ends.hashOperationEnd {s t : State} (h : Steady s t) (n : Nat) : Ends s (execHashOperationEnd n t) := by
  unfold execHashOperationEnd
  simp [h]

@[simp] theorem Ends.hashFault {s t : State} (h : Steady s t) (n check : Nat) : Ends s (execHashFault n check t) := by
  unfold execHashFault
  simp [h]

@[simp] theorem Ends.hashSelftest {s t : State} (h : Steady s t) (n : Nat) (pass : Bool) (vector : Nat) :
    Ends s (execHashSelftest n pass vector t) := by
  unfold execHashSelftest
  simp [h]

@[simp] theorem Ends.hashSelftestStarve {s t : State} (h : Steady s t) (n : Nat) : Ends s (execHashSelftestStarve n t) := by
  unfold execHashSelftestStarve
  simp [h]

@[simp] theorem Ends.hashSelftestRequest {s t : State} (h : Steady s t) (who : Initiator) (n : Nat) :
    Ends s (execHashSelftestRequest who n t) := by
  unfold execHashSelftestRequest
  simp [h]

@[simp] theorem Ends.hashReseed {s t : State} (h : Steady s t) (n : Nat) : Ends s (execHashReseed n t) := by
  unfold execHashReseed
  simp [h]

@[simp] theorem Ends.hashReseedStall {s t : State} (h : Steady s t) (n : Nat) : Ends s (execHashReseedStall n t) := by
  unfold execHashReseedStall
  simp [h]

@[simp] theorem Ends.hashFence {s t : State} (h : Steady s t) (who : Initiator) (n : Nat) : Ends s (execHashFence who n t) := by
  unfold execHashFence
  simp [h]

@[simp] theorem Ends.hashFenceLift {s t : State} (h : Steady s t) (who : Initiator) (n : Nat) : Ends s (execHashFenceLift who n t) := by
  unfold execHashFenceLift
  simp [h]

@[simp] theorem Ends.hashClearBlk {s t : State} (h : Steady s t) (who : Initiator) (n : Nat) : Ends s (execHashClearBlk who n t) := by
  unfold execHashClearBlk
  simp [h]

@[simp] theorem Ends.hashClearOps {s t : State} (h : Steady s t) (who : Initiator) (n : Nat) : Ends s (execHashClearOps who n t) := by
  unfold execHashClearOps
  simp [h]

@[simp] theorem Ends.hashClearFault {s t : State} (h : Steady s t) (who : Initiator) (n : Nat) : Ends s (execHashClearFault who n t) := by
  unfold execHashClearFault
  simp [h]

@[simp] theorem Steady.keyCheckValue {s t : State} (h : Steady s t) (r : Req) : Steady s (t.keyCheckValue r) := by
  unfold State.keyCheckValue
  dsimp only
  split
  · exact h.refuseRange _ _
  split
  · exact h.reject _ _
  have known := h.resolve ‹_›
  split
  · exact known.reject _ _
  · exact known.answer _ _ _

@[simp] theorem Ends.keyCheckValue {s t : State} (h : Steady s t) (r : Req) : Ends s (execKeyCheckValue r t) := by
  unfold execKeyCheckValue
  simp [h]

@[simp] theorem Steady.importFailed {s t : State} (h : Steady s t) (r : Req) (x : Rej) : Steady s (t.importFailed r x) := by
  unfold State.importFailed
  simp [h]

@[simp] theorem Steady.keyblockImport {s t : State} (h : Steady s t) (r : Req) : Steady s (t.keyblockImport r) := by
  unfold State.keyblockImport
  split
  · exact h.importFailed _ _
  split
  · exact h.importFailed _ _
  split
  · exact h.importFailed _ _
  have known := h.resolve ‹_›
  refine steady_ite.mpr ⟨fun _ => known.importFailed _ _, fun _ => ?_⟩
  split
  · exact known.importFailed _ _
  split
  · exact known.importFailed _ _
  split
  · exact known.complete _ _ _ _ _ _ _
  · exact (known.storeLeaf _ _ _ _ _).answer _ _ _

@[simp] theorem Ends.keyblockImport {s t : State} (h : Steady s t) (r : Req) : Ends s (execKeyblockImport r t) := by
  unfold execKeyblockImport
  simp [h]

@[simp] theorem Steady.keyblockExport {s t : State} (h : Steady s t) (r : Req) : Steady s (t.keyblockExport r) := by
  unfold State.keyblockExport
  dsimp only
  split
  · exact h.reject _ _
  have protector := h.resolve ‹_›
  split
  · exact protector.reject _ _
  split
  · exact protector.reject _ _
  have known := protector.resolve ‹_›
  split
  · exact known.reject _ _
  split
  · exact known.refuse _ _ _ _
  split
  · exact known.refuseRange _ _
  split
  · exact known.refuse _ _ _ _
  · exact (known.skip _).answer _ _ _

@[simp] theorem Ends.keyblockExport {s t : State} (h : Steady s t) (r : Req) : Ends s (execKeyblockExport r t) := by
  unfold execKeyblockExport
  simp [h]

@[simp] theorem Ends.modMul {s t : State} (h : Steady s t) (e : EngSrc) : Ends s (execModMul e t) := by
  unfold execModMul
  simp [h]

@[simp] theorem Ends.modExp {s t : State} (h : Steady s t) (e : EngSrc) : Ends s (execModExp e t) := by
  unfold execModExp
  simp [h]

@[simp] theorem Ends.modExpPub {s t : State} (h : Steady s t) (e : EngSrc) : Ends s (execModExpPub e t) := by
  unfold execModExpPub
  simp [h]

@[simp] theorem Ends.modInv {s t : State} (h : Steady s t) (e : EngSrc) : Ends s (execModInv e t) := by
  unfold execModInv
  simp [h]

@[simp] theorem Ends.rsaSign {s t : State} (h : Steady s t) (e : EngSrc) : Ends s (execRsaSign e t) := by
  unfold execRsaSign
  simp [h]

@[simp] theorem Ends.rsaVerify {s t : State} (h : Steady s t) (e : EngSrc) : Ends s (execRsaVerify e t) := by
  unfold execRsaVerify
  simp [h]

@[simp] theorem Ends.rsaDecrypt {s t : State} (h : Steady s t) (e : EngSrc) : Ends s (execRsaDecrypt e t) := by
  unfold execRsaDecrypt
  simp [h]

@[simp] theorem Ends.ecdsaSign {s t : State} (h : Steady s t) (e : EngSrc) : Ends s (execEcdsaSign e t) := by
  unfold execEcdsaSign
  simp [h]

@[simp] theorem Ends.ecdsaVerify {s t : State} (h : Steady s t) (e : EngSrc) : Ends s (execEcdsaVerify e t) := by
  unfold execEcdsaVerify
  simp [h]

@[simp] theorem Ends.ecdh {s t : State} (h : Steady s t) (e : EngSrc) : Ends s (execEcdh e t) := by
  unfold execEcdh
  simp [h]

@[simp] theorem Ends.eddsaSign {s t : State} (h : Steady s t) (e : EngSrc) : Ends s (execEddsaSign e t) := by
  unfold execEddsaSign
  simp [h]

@[simp] theorem Ends.eddsaVerify {s t : State} (h : Steady s t) (e : EngSrc) : Ends s (execEddsaVerify e t) := by
  unfold execEddsaVerify
  simp [h]

@[simp] theorem Ends.xdh {s t : State} (h : Steady s t) (e : EngSrc) : Ends s (execXdh e t) := by
  unfold execXdh
  simp [h]

@[simp] theorem Ends.sergePubkey {s t : State} (h : Steady s t) (e : EngSrc) : Ends s (execSergePubkey e t) := by
  unfold execSergePubkey
  (repeat' split) <;> simp [h]

@[simp] theorem Ends.edPrefix {s t : State} (h : Steady s t) (n st : Nat) : Ends s (execEdPrefix n st t) := by
  unfold execEdPrefix
  simp [h]

@[simp] theorem Ends.edCommit {s t : State} (h : Steady s t) (n st : Nat) : Ends s (execEdCommit n st t) := by
  unfold execEdCommit
  simp [h]

@[simp] theorem Ends.edFinish {s t : State} (h : Steady s t) (n st : Nat) : Ends s (execEdFinish n st t) := by
  unfold execEdFinish
  simp [h]

@[simp] theorem Ends.sergeOperationEnd {s t : State} (h : Steady s t) (n : Nat) : Ends s (execSergeOperationEnd n t) := by
  unfold execSergeOperationEnd
  simp [h]

@[simp] theorem Steady.endSearch {s t : State} (h : Steady s t) (n : Nat) {f : State → State} (hf : ∀ u, Steady u (f u)) :
    Steady s (t.endSearch n f) :=
  ((((h.setInst _ _ _).replace id id id).trans (hf _)).next _ _)

@[simp] theorem Steady.foundKey {s t : State} (h : Steady s t) (r : Req) (node : Node) (p q : Nat) : Steady s (t.foundKey r node p q) := by
  unfold State.foundKey
  dsimp only
  split <;> simp [h]

@[simp] theorem Steady.searchFailed {s t : State} (h : Steady s t) (r : Req) (bits : Nat) : Steady s (t.searchFailed r bits) := by
  unfold State.searchFailed
  simp [h]

@[simp] theorem Steady.yieldSearch {s t : State} (h : Steady s t) (n : Nat) : Steady s (t.yieldSearch n) := by
  unfold State.yieldSearch
  dsimp only
  (repeat' split) <;> simp (disch := simp (disch := simp [h]) [h]) [h]

@[simp] theorem Steady.candidate {s t : State} (h : Steady s t) (n : Nat) (r : Req) (node : Node) (tried first : Nat) :
    Steady s (t.candidate n r node tried first) := by
  unfold State.candidate
  extract_lets bits
  split
  · exact h.stallFor _
  have drawn := h.draw ‹_›
  extract_lets x i keep
  have kept : ∀ z, Steady s (keep z) := fun z => drawn.setInst _ _ _
  split
  · split
    · exact (kept _).yieldSearch _
    · exact (kept _).endSearch _ fun u => (Steady.refl u).foundKey _ _ _ _
  split
  · exact (kept _).endSearch _ fun u => (Steady.refl u).searchFailed _ _
  · exact (kept _).yieldSearch _

@[simp] theorem Ends.primeTest {s t : State} (h : Steady s t) (n : Nat) : Ends s (execPrimeTest n t) := by
  unfold execPrimeTest
  dsimp only
  (repeat' split) <;> simp [h]

@[simp] theorem Ends.sergeFault {s t : State} (h : Steady s t) (n check : Nat) : Ends s (execSergeFault n check t) := by
  unfold execSergeFault
  simp [h]

@[simp] theorem Ends.sergeSelftest {s t : State} (h : Steady s t) (n : Nat) (pass : Bool) (vector : Nat) :
    Ends s (execSergeSelftest n pass vector t) := by
  unfold execSergeSelftest
  simp [h]

@[simp] theorem Ends.sergeSelftestStarve {s t : State} (h : Steady s t) (n : Nat) : Ends s (execSergeSelftestStarve n t) := by
  unfold execSergeSelftestStarve
  simp [h]

@[simp] theorem Ends.sergeSelftestRequest {s t : State} (h : Steady s t) (who : Initiator) (n : Nat) :
    Ends s (execSergeSelftestRequest who n t) := by
  unfold execSergeSelftestRequest
  simp [h]

@[simp] theorem Ends.sergeReseed {s t : State} (h : Steady s t) (n : Nat) : Ends s (execSergeReseed n t) := by
  unfold execSergeReseed
  simp [h]

@[simp] theorem Ends.sergeReseedStall {s t : State} (h : Steady s t) (n : Nat) : Ends s (execSergeReseedStall n t) := by
  unfold execSergeReseedStall
  simp [h]

@[simp] theorem Ends.sergeFence {s t : State} (h : Steady s t) (who : Initiator) (n : Nat) : Ends s (execSergeFence who n t) := by
  unfold execSergeFence
  simp [h]

@[simp] theorem Ends.sergeFenceLift {s t : State} (h : Steady s t) (who : Initiator) (n : Nat) : Ends s (execSergeFenceLift who n t) := by
  unfold execSergeFenceLift
  simp [h]

@[simp] theorem Ends.sergeClearCyc {s t : State} (h : Steady s t) (who : Initiator) (n : Nat) : Ends s (execSergeClearCyc who n t) := by
  unfold execSergeClearCyc
  simp [h]

@[simp] theorem Ends.sergeClearOps {s t : State} (h : Steady s t) (who : Initiator) (n : Nat) : Ends s (execSergeClearOps who n t) := by
  unfold execSergeClearOps
  simp [h]

@[simp] theorem Ends.sergeClearFault {s t : State} (h : Steady s t) (who : Initiator) (n : Nat) : Ends s (execSergeClearFault who n t) := by
  unfold execSergeClearFault
  simp [h]

@[simp] theorem Ends.mlkemEncaps {s t : State} (h : Steady s t) (e : EngSrc) : Ends s (execMlkemEncaps e t) := by
  unfold execMlkemEncaps
  simp [h]

@[simp] theorem Ends.mlkemDecaps {s t : State} (h : Steady s t) (e : EngSrc) : Ends s (execMlkemDecaps e t) := by
  unfold execMlkemDecaps
  simp [h]

@[simp] theorem Ends.mldsaSign {s t : State} (h : Steady s t) (e : EngSrc) : Ends s (execMldsaSign e t) := by
  unfold execMldsaSign
  simp [h]

@[simp] theorem Ends.mldsaVerify {s t : State} (h : Steady s t) (e : EngSrc) : Ends s (execMldsaVerify e t) := by
  unfold execMldsaVerify
  simp [h]

@[simp] theorem Steady.compositeCommand {s t : State} (h : Steady s t) (op : Nat) (src : EngSrc) :
    Steady s (t.compositeCommand op src) := by
  cases src with
  | raw r =>
    refine h.hostCommand r op fun u => ?_
    split
    · exact (((((Steady.refl u).unstall _).pumpFor _ _).pumpFor _ _).pumpFor _ _ |>.stallWaiting _).stallWaiting _ |>.stallWaiting _
    · exact (Steady.refl u).offerRaw _ _ _
  | step i k => exact h

@[simp] theorem Ends.compSign {s t : State} (h : Steady s t) (e : EngSrc) : Ends s (execCompSign e t) := by
  unfold execCompSign
  simp [h]

@[simp] theorem Ends.compVerify {s t : State} (h : Steady s t) (e : EngSrc) : Ends s (execCompVerify e t) := by
  unfold execCompVerify
  simp [h]

@[simp] theorem Ends.tullePubkey {s t : State} (h : Steady s t) (e : EngSrc) : Ends s (execTullePubkey e t) := by
  unfold execTullePubkey
  (repeat' split) <;> simp [h]

@[simp] theorem Ends.mldsaTr {s t : State} (h : Steady s t) (n st : Nat) : Ends s (execMldsaTr n st t) := by
  unfold execMldsaTr
  simp [h]

@[simp] theorem Ends.mldsaSignMu {s t : State} (h : Steady s t) (n st : Nat) : Ends s (execMldsaSignMu n st t) := by
  unfold execMldsaSignMu
  simp [h]

@[simp] theorem Ends.tulleOperationEnd {s t : State} (h : Steady s t) (n : Nat) : Ends s (execTulleOperationEnd n t) := by
  unfold execTulleOperationEnd
  simp [h]

@[simp] theorem Ends.tulleFault {s t : State} (h : Steady s t) (n check : Nat) : Ends s (execTulleFault n check t) := by
  unfold execTulleFault
  simp [h]

@[simp] theorem Ends.tulleSelftest {s t : State} (h : Steady s t) (n : Nat) (pass : Bool) (vector : Nat) :
    Ends s (execTulleSelftest n pass vector t) := by
  unfold execTulleSelftest
  simp [h]

@[simp] theorem Ends.tulleSelftestStarve {s t : State} (h : Steady s t) (n : Nat) : Ends s (execTulleSelftestStarve n t) := by
  unfold execTulleSelftestStarve
  simp [h]

@[simp] theorem Ends.tulleSelftestRequest {s t : State} (h : Steady s t) (who : Initiator) (n : Nat) :
    Ends s (execTulleSelftestRequest who n t) := by
  unfold execTulleSelftestRequest
  simp [h]

@[simp] theorem Ends.tulleReseed {s t : State} (h : Steady s t) (n : Nat) : Ends s (execTulleReseed n t) := by
  unfold execTulleReseed
  simp [h]

@[simp] theorem Ends.tulleReseedStall {s t : State} (h : Steady s t) (n : Nat) : Ends s (execTulleReseedStall n t) := by
  unfold execTulleReseedStall
  simp [h]

@[simp] theorem Ends.tulleFence {s t : State} (h : Steady s t) (who : Initiator) (n : Nat) : Ends s (execTulleFence who n t) := by
  unfold execTulleFence
  simp [h]

@[simp] theorem Ends.tulleFenceLift {s t : State} (h : Steady s t) (who : Initiator) (n : Nat) : Ends s (execTulleFenceLift who n t) := by
  unfold execTulleFenceLift
  simp [h]

@[simp] theorem Ends.tulleClearCyc {s t : State} (h : Steady s t) (who : Initiator) (n : Nat) : Ends s (execTulleClearCyc who n t) := by
  unfold execTulleClearCyc
  simp [h]

@[simp] theorem Ends.tulleClearOps {s t : State} (h : Steady s t) (who : Initiator) (n : Nat) : Ends s (execTulleClearOps who n t) := by
  unfold execTulleClearOps
  simp [h]

@[simp] theorem Ends.tulleClearFault {s t : State} (h : Steady s t) (who : Initiator) (n : Nat) : Ends s (execTulleClearFault who n t) := by
  unfold execTulleClearFault
  simp [h]

@[simp] theorem Steady.runWatch {s t : State} (h : Steady s t) : Steady s t.runWatch := by
  unfold State.runWatch
  simp [h]

@[simp] theorem Steady.tick {s t : State} (h : Steady s t) : Steady s t.tick := by
  unfold State.tick
  split <;> simp [h]

/-- Every command completes in a state as good as the one that it was issued in. -/
theorem exec_ends (c : Instr) (s : State) : Ends s (exec c s) := by
  cases c <;> simp [exec]

/-- A step completes in a state as good as the one it leaves, with the front command taken from the queue. -/
theorem step_ends (s : State) : Ends { s with pending := s.pending.tail } (step s) := by
  unfold step
  split
  · rename_i empty
    have kept : Steady { s with pending := s.pending.tail } s := ⟨rfl, by simp [empty], id, id, id⟩
    exact ends_next.mpr kept.tick
  · rename_i c rest front
    rw [front]
    exact exec_ends c _

theorem Steady.good {s t : State} (h : Steady s t) (g : s.Good) : t.Good := by
  obtain ⟨mem, queue, log⟩ := g
  exact ⟨h.mem mem, h.queue queue, h.log log⟩

/-- Settles O60: each command and each step leaves its state `Steady`, so as good, and of the same part and queue. -/
theorem stepKeepsGood : Obligations.StepKeepsGood := by
  refine ⟨fun c s => ?_, fun s t good stepped => ?_⟩
  · obtain ⟨t, completes, -⟩ := exec_ends c s
    exact ⟨t, completes⟩
  · obtain ⟨u, completes, kept⟩ := step_ends s
    obtain rfl := Host.Outcome.next.inj (stepped.symm.trans completes)
    exact ⟨kept.good good, kept.part, kept.pending⟩

end Sys2Proof.Machine
end

section
/-! PROOFS. Lemmas and obligations: the model and its steps. -/

namespace Sys2Proof.Machine

set_option Elab.async false

/-- A tick counts BBRAM's time-stamp on, whichever domain is powered (R17, R417). -/
theorem State.tick_ts (s : State) : s.tick.bkd.ts = wrapAdd 48 s.bkd.ts 1 := by
  have watch (t : State) : t.runWatch.bkd = t.bkd := (OnlyIn.runWatch (fp := [.supv]) (OnlyIn.refl _ t) (by simp)).1 .bkd (by simp)
  unfold State.tick
  dsimp only
  split
  · rw [watch]
  · rfl

/-- Settles O58: by the two cases of the queue; a tick's frame is that of its two clocks and the watch. -/
theorem stepTakesTheFrontCommand : Obligations.StepTakesTheFrontCommand := by
  refine ⟨fun c rest s front => ?_, fun s empty => ⟨?_, s.tick_ts, (OnlyIn.refl _ s).tick (by simp)⟩⟩
  · simp only [step, front]
  · simp only [step, empty]

end Sys2Proof.Machine
end

section
/-! PROOFS. Lemmas and obligations: bring-up and modes. -/

namespace Sys2Proof.Machine

set_option Elab.async false

/-! ## Power, starts of the main domain (file 01) -/

/-- A loss of power of the main domain keeps what survives it (R19, R20, R24). -/
theorem mainReset_kept (s : State) : Kept s s.mainReset := ⟨rfl, rfl, rfl, rfl, rfl, rfl, rfl, rfl, rfl, rfl, rfl⟩

theorem mainReset_volatile (s : State) : Volatile s.mainReset :=
  ⟨rfl, rfl, rfl, rfl, rfl, rfl, rfl, rfl, rfl, rfl, rfl, rfl, rfl⟩

theorem mode_ne_backup_of_powered {s : State} (on : s.powered = true) : s.sys.mode ≠ .backup := of_decide_eq_true on

/-- Settles O1: both losses of power pass through `State.mainReset`. -/
theorem supplyEventsAndLossesOfPower : Obligations.SupplyEventsAndLossesOfPower := by
  refine ⟨fun s => ⟨fun backup noVin => ?_, fun backup noVin noCell => ?_, fun on => ?_, fun fed => ?_, rfl, rfl⟩,
    fun s on => ⟨?_, fun ns long => ?_⟩⟩
  · simp [exec, execVinValid, State.vinValid, backup, noVin]
  · simp [exec, execBackupDomainPowerLoss, backup, noVin, noCell]
  · simp [exec, execOscillatorCalibration, on]
  · simp [exec, execHoldupCharged, fed]
  · refine ⟨_, rfl, ?_⟩
    rw [if_neg (mode_ne_backup_of_powered on)]
    exact ⟨rfl, rfl, rfl, rfl, mainReset_kept s, mainReset_volatile s⟩
  · refine ⟨_, if_pos ⟨on, long⟩, rfl, rfl, ?_, ?_, ?_, ?_, mainReset_kept s, mainReset_volatile s⟩
    · simp [State.onMain]
    · simp [State.serving]
    · simp [State.readyHigh, State.serving]
    · rfl

/-- What a class of alarms without a response changes: the monitors, when the last alarm was, the recorder's and the tamper log's
queues (R405, R417). -/
structure OnlyNoted (s t : State) : Prop where
  sys : t.sys = { s.sys with alarmAt := t.sys.alarmAt }
  bkd : t.bkd = { s.bkd with logQueue := t.bkd.logQueue, merged := t.bkd.merged }
  table : t.lace.romTable = s.lace.romTable
  frame : OnlyIn [.sys, .bkd, .lace, .rcd] s t

theorem OnlyNoted.refl (s : State) : OnlyNoted s s := ⟨rfl, rfl, rfl, OnlyIn.refl _ s⟩

theorem OnlyNoted.trans {s t u : State} (h : OnlyNoted s t) (g : OnlyNoted t u) : OnlyNoted s u :=
  ⟨by rw [g.sys, h.sys], by rw [g.bkd, h.bkd], g.table.trans h.table, h.frame.trans g.frame⟩

theorem OnlyNoted.offer (s : State) (code p0 p1 p2 : Nat) : OnlyNoted s (s.offer code p0 p1 p2) := by
  have offered : OnlyIn [.rcd] s (s.offer code p0 p1 p2) := by simp
  exact ⟨by rw [offered.sys_eq], by rw [offered.bkd_eq], by rw [offered.lace_eq], by simp⟩

theorem OnlyNoted.logEvent (s : State) (code param : Nat) : OnlyNoted s (s.logEvent code param) := by
  have logged : OnlyIn [.bkd] s (s.logEvent code param) := by simp
  refine ⟨by rw [logged.sys_eq], ?_, by rw [logged.lace_eq], logged.mono (by simp)⟩
  unfold State.logEvent
  split <;> rfl

/-- An inverted-shadow mismatch while the ROM's table is in force only notes its alarm, whose class is A1 there (R40, R406). -/
theorem OnlyNoted.shadowMismatch {s : State} (rom : s.lace.romTable = true) (unit off : Nat) :
    OnlyNoted s (s.shadowMismatch unit off) := by
  have cls : (s.alarmCfg 0x0900).cls = 1 := by
    rw [State.alarmCfg, if_pos rom]
    decide
  unfold State.shadowMismatch State.raiseAlarm
  dsimp only
  split
  · exact ⟨rfl, rfl, rfl, by simp⟩
  · rw [cls, State.classAction, if_neg (by decide), if_neg (by decide)]
    refine .trans ?_ ((OnlyNoted.offer _ _ _ _ _).trans (OnlyNoted.logEvent _ _ _))
    exact ⟨rfl, rfl, rfl, by simp⟩

theorem OnlyNoted.mismatches {α : Type} (unit off : α → Nat) {s t : State} (rom : s.lace.romTable = true) (h : OnlyNoted s t) (l : List α) :
    OnlyNoted s (l.foldl (fun u x => u.shadowMismatch (unit x) (off x)) t) := by
  induction l generalizing t with
  | nil => exact h
  | cons x l ih => exact ih (h.trans (OnlyNoted.shadowMismatch (h.table.trans rom) _ _))

theorem OnlyNoted.checkRoots {s : State} (rom : s.lace.romTable = true) : OnlyNoted s s.checkRoots := by
  unfold State.checkRoots
  refine OnlyNoted.mismatches (fun _ => 0xFF) (fun x : Nat × Option ClonedRoot => 0x40 * x.1) rom ?_ _
  split
  · exact OnlyNoted.shadowMismatch rom _ _
  · exact OnlyNoted.refl s

theorem OnlyNoted.checkBaselines {s : State} (rom : s.lace.romTable = true) : OnlyNoted s s.checkBaselines := by
  unfold State.checkBaselines
  refine OnlyNoted.mismatches (fun _ => 0xFE) (fun x : Nat × Channel => x.1) rom ?_ _
  exact ⟨rfl, rfl, rfl, by simp⟩


/-! ### An event that is logged joins the queue or is merged; every other field of BBRAM stays (R417) -/

@[simp] theorem State.logEvent_intact (s : State) (code param : Nat) : (s.logEvent code param).bkd.intact = s.bkd.intact := by
  unfold State.logEvent
  split <;> rfl

@[simp] theorem State.logEvent_pwrcyc (s : State) (code param : Nat) : (s.logEvent code param).bkd.pwrcyc = s.bkd.pwrcyc := by
  unfold State.logEvent
  split <;> rfl

@[simp] theorem State.logEvent_pendLock (s : State) (code param : Nat) : (s.logEvent code param).bkd.pendLock = s.bkd.pendLock := by
  unfold State.logEvent
  split <;> rfl

@[simp] theorem State.logEvent_lockKept (s : State) (code param : Nat) : (s.logEvent code param).bkd.lockKept = s.bkd.lockKept := by
  unfold State.logEvent
  split <;> rfl

@[simp] theorem State.logEvent_erased (s : State) (code param : Nat) : (s.logEvent code param).bkd.erased = s.bkd.erased := by
  unfold State.logEvent
  split <;> rfl

@[simp] theorem State.logEvent_log (s : State) (code param : Nat) : (s.logEvent code param).bkd.log = s.bkd.log := by
  unfold State.logEvent
  split <;> rfl

@[simp] theorem State.logEvent_l0 (s : State) (code param : Nat) : (s.logEvent code param).bkd.l0 = s.bkd.l0 := by
  unfold State.logEvent
  split <;> rfl

@[simp] theorem State.logEvent_l0CheckOk (s : State) (code param : Nat) : (s.logEvent code param).bkd.l0CheckOk = s.bkd.l0CheckOk := by
  unfold State.logEvent
  split <;> rfl

@[simp] theorem State.logEvent_cloned (s : State) (code param : Nat) : (s.logEvent code param).bkd.cloned = s.bkd.cloned := by
  unfold State.logEvent
  split <;> rfl

@[simp] theorem State.logEvent_eraseCause (s : State) (code param : Nat) : (s.logEvent code param).bkd.eraseCause = s.bkd.eraseCause := by
  unfold State.logEvent
  split <;> rfl

@[simp] theorem State.logEvent_eraseUs (s : State) (code param : Nat) : (s.logEvent code param).bkd.eraseUs = s.bkd.eraseUs := by
  unfold State.logEvent
  split <;> rfl

@[simp] theorem State.logEvent_rootDue (s : State) (code param : Nat) : (s.logEvent code param).bkd.rootDue = s.bkd.rootDue := by
  unfold State.logEvent
  split <;> rfl

@[simp] theorem State.logEvent_seqFloor (s : State) (code param : Nat) : (s.logEvent code param).bkd.seqFloor = s.bkd.seqFloor := by
  unfold State.logEvent
  split <;> rfl

@[simp] theorem State.logEvent_sys (s : State) (code param : Nat) : (s.logEvent code param).sys = s.sys :=
  (logEvent_frame s code param).1 .sys (by simp)

@[simp] theorem State.logEvent_boot (s : State) (code param : Nat) : (s.logEvent code param).boot = s.boot :=
  (logEvent_frame s code param).1 .boot (by simp)

@[simp] theorem State.logEvent_zyn (s : State) (code param : Nat) : (s.logEvent code param).zyn = s.zyn :=
  (logEvent_frame s code param).1 .zyn (by simp)

@[simp] theorem State.logEvent_lace (s : State) (code param : Nat) : (s.logEvent code param).lace = s.lace :=
  (logEvent_frame s code param).1 .lace (by simp)

@[simp] theorem State.logEvent_lcs (s : State) (code param : Nat) : (s.logEvent code param).lcs = s.lcs :=
  (logEvent_frame s code param).1 .lcs (by simp)

/-- What the completion of an interrupted transition keeps (R433): all but the stores that it clears. -/
structure Resumed (s t : State) : Prop where
  sys : t.sys = { s.sys with lcResumed := t.sys.lcResumed }
  pwrcyc : t.bkd.pwrcyc = s.bkd.pwrcyc
  erased : s.bkd.erased = true ∧ s.bkd.l0 = none → t.bkd.erased = true ∧ t.bkd.l0 = none
  table : t.lace.romTable = s.lace.romTable
  boot : t.boot = s.boot
  zyn : t.zyn = s.zyn

theorem Resumed.finishTransition (s : State) (tgt : Nat) : Resumed s (s.finishTransition tgt) := by
  unfold State.finishTransition State.transitionStore
  dsimp only
  (repeat' split) <;> constructor <;> simp [State.eraseLogged, State.clearCustody, State.eraseKeys]

theorem resumeTransition_eq_self {s : State} (done : s.lcs.otp.interrupted = none) : s.resumeTransition = s := by
  rw [State.resumeTransition, done]

theorem Resumed.resumeTransition (s : State) : Resumed s s.resumeTransition := by
  unfold State.resumeTransition
  split
  · exact ⟨rfl, rfl, id, rfl, rfl, rfl⟩
  · rename_i tgt _
    obtain ⟨sys, pwrcyc, erased, table, boot, zyn⟩ := Resumed.finishTransition s tgt
    dsimp only
    exact ⟨by rw [sys], pwrcyc, erased, table, boot, zyn⟩

/-- What the ROM leaves once it has run (R23, R26, R47): mode, cause and boot path as they were, and BBRAM's record of the start. -/
structure RomRan (s t : State) (ok : Bool) : Prop where
  mode : t.sys.mode = s.sys.mode
  cause : t.sys.cause = s.sys.cause
  fwVerified : t.sys.fwVerified = s.sys.fwVerified
  romFailed : s.sys.romFailed = false → t.sys.romFailed = !ok
  bootErr : s.sys.bootErr = 0 → t.sys.bootErr = if ok then 0 else 1
  boot : t.boot = s.boot
  zyn : t.zyn = s.zyn
  intact : s.bkd.intact = true → t.bkd.pwrcyc = s.bkd.pwrcyc ∧ t.sys.bkdLost = s.sys.bkdLost
  lost : s.bkd.intact = false → t.sys.bkdLost = true ∧ t.bkd.erased = true ∧ t.bkd.l0 = none
    ∧ (s.lcs.otp.interrupted = none → t.bkd.lockKept = true ∧ t.bkd.eraseCause = 3)

theorem State.romRuns_ran {s : State} (rom : s.lace.romTable = true) (ok : Bool) : RomRan s (s.romRuns ok) ok := by
  obtain ⟨v, hv⟩ : ∃ v, v = if s.bkd.intact then s else s.reinitBackup := ⟨_, rfl⟩
  have kept : v.sys = { s.sys with bkdLost := v.sys.bkdLost } ∧ v.boot = s.boot ∧ v.zyn = s.zyn ∧ v.lace.romTable = s.lace.romTable := by
    rw [hv]
    split
    · exact ⟨rfl, rfl, rfl, rfl⟩
    · simp [State.reinitBackup]
  obtain ⟨sysv, bootv, zynv, tablev⟩ := kept
  obtain ⟨sysr, pwrcyc, erased, table, bootr, zynr⟩ := Resumed.resumeTransition v
  have roots := OnlyNoted.checkRoots (table.trans (tablev.trans rom))
  obtain ⟨sysw, bkdw, -, frame⟩ := roots.trans (OnlyNoted.checkBaselines (roots.table.trans (table.trans (tablev.trans rom))))
  have ran : s.romRuns ok = (let w := v.resumeTransition.checkRoots.checkBaselines
      let u := { w with mem := (w.mem.initClass 6).initClass 5, img := { w.img with challenge := none } }
      if ok then u else { u with sys := { u.sys with romFailed := true, bootErr := 1 } }) := by rw [hv]; rfl
  rw [ran]
  generalize v.resumeTransition.checkRoots.checkBaselines = w at *
  have sys : w.sys = { v.sys with lcResumed := w.sys.lcResumed, alarmAt := w.sys.alarmAt } := by rw [sysw, sysr]
  have lost : s.bkd.intact = false → w.sys.bkdLost = true ∧ w.bkd.erased = true ∧ w.bkd.l0 = none
      ∧ (s.lcs.otp.interrupted = none → w.bkd.lockKept = true ∧ w.bkd.eraseCause = 3) := by
    intro broken
    have again : v = s.reinitBackup := by rw [hv, broken]; rfl
    have gone := erased (by rw [again]; simp [State.reinitBackup, Backup.reset])
    rw [sys, bkdw]
    refine ⟨by rw [again]; simp [State.reinitBackup], gone.1, gone.2, fun none => ?_⟩
    rw [resumeTransition_eq_self (by rw [again]; simpa [State.reinitBackup] using none), again]
    simp [State.reinitBackup]
  have intact : s.bkd.intact = true → w.bkd.pwrcyc = s.bkd.pwrcyc ∧ w.sys.bkdLost = s.sys.bkdLost := by
    intro whole
    have same : v = s := by rw [hv, if_pos whole]
    rw [bkdw, sys]
    exact ⟨by rw [pwrcyc, same], by rw [same]⟩
  have mode : w.sys.mode = s.sys.mode := by rw [sys, sysv]
  have cause : w.sys.cause = s.sys.cause := by rw [sys, sysv]
  have fwVerified : w.sys.fwVerified = s.sys.fwVerified := by rw [sys, sysv]
  have romFailed : w.sys.romFailed = s.sys.romFailed := by rw [sys, sysv]
  have bootErr : w.sys.bootErr = s.sys.bootErr := by rw [sys, sysv]
  have boot : w.boot = s.boot := by rw [frame.boot_eq, bootr, bootv]
  have zyn : w.zyn = s.zyn := by rw [frame.zyn_eq, zynr, zynv]
  cases ok
  · exact ⟨mode, cause, fwVerified, fun _ => rfl, fun _ => rfl, boot, zyn, intact, lost⟩
  · exact ⟨mode, cause, fwVerified, fun h => romFailed.trans h, fun h => bootErr.trans h, boot, zyn, intact, lost⟩

/-- Settles O2: each way to start is `State.mainStart`, a reset of the main domain after which the ROM runs. -/
theorem everyStartOfTheMainDomainEndsInBoot : Obligations.EveryStartOfTheMainDomainEndsInBoot := by
  intro s ok started
  have starts : ∀ cause, started cause (s.mainStart cause ok) := by
    intro cause
    unfold State.mainStart
    extract_lets was t _ _ _ t1
    have offered := (offer_frame t1 0x0001 was.code Mode.boot.code cause).1
    have sys := offered .sys (by simp)
    have boot := offered .boot (by simp)
    have zyn := offered .zyn (by simp)
    have bkd := offered .bkd (by simp)
    have lcs := offered .lcs (by simp)
    have lace := offered .lace (by simp)
    simp only [Area.same] at sys boot zyn bkd lcs lace
    have rom : (t1.offer 0x0001 was.code Mode.boot.code cause).lace.romTable = true := by rw [lace]; rfl
    obtain ⟨mode, cause', fwVerified, romFailed, bootErr, boot', zyn', intact, lost⟩ := State.romRuns_ran rom ok
    rw [sys] at mode cause' fwVerified romFailed bootErr
    rw [bkd, sys] at intact
    rw [bkd, lcs] at lost
    refine ⟨mode, cause', fwVerified, romFailed rfl, bootErr rfl, zyn'.trans zyn, ?_, intact, lost⟩
    simp only [State.onMain, State.powered, mode, boot', boot]
    rfl
  refine ⟨fun backup vin cool idle => ⟨_, ?_, starts 0⟩, fun on held idle => ⟨_, ?_, starts 1⟩, fun drained => ⟨_, ?_, starts 9⟩⟩
  · exact if_pos ⟨backup, vin, cool, idle⟩
  · exact if_pos ⟨on, held, idle⟩
  · exact if_pos drained

/-- A change of mode to another is to that mode, for its cause (R47). -/
theorem State.setMode_sys {s : State} {m : Mode} (other : s.sys.mode ≠ m) (cause : Nat) :
    (s.setMode m cause).sys = { s.sys with mode := m, prev := s.sys.mode, cause := cause, pend := decide (m = Mode.drain) } := by
  rw [State.setMode, if_neg other]
  dsimp only
  have noted (t : State) (k p0 p1 p2 : Nat) : OnlyIn [.ent, .rcd, .blk] t (t.offer k p0 p1 p2).refreshLinks := by simp
  exact (noted _ _ _ _ _).sys_eq

theorem SMap.get_map_append {α : Type} (d : α) (f : Nat → α) (xs : List Nat) (l : SMap α) (k : Nat) :
    SMap.get d (xs.map (fun i => (i, f i)) ++ l) k = if k ∈ xs then f k else SMap.get d l k := by
  induction xs with
  | nil => simp
  | cons x xs ih =>
    simp only [List.map_cons, List.cons_append, SMap.get, ih, List.mem_cons]
    by_cases hx : x = k
    · simp [hx]
    · simp [hx, Ne.symm hx]

/-- The start of the cores: the workers begin at the KIND 1 entry, with the KIND 2 entry in ZCR_NEPC (R39, R333). -/
theorem startCores_worker {w n : Nat} (e0 e1 e2 : Nat) (worker : n < w) :
    SMap.get ZCore.reset (startCores w e0 e1 e2) n = ZCore.startAt e1 e2 := by
  rw [startCores, SMap.get_map_append, if_pos (List.mem_range.mpr worker)]

/-- The start of the cores: both supervisors begin at the KIND 0 entry (R39). -/
theorem startCores_supervisor {w n : Nat} (e0 e1 e2 : Nat) (few : w ≤ 16) (sup : n = 16 ∨ n = 17) :
    SMap.get ZCore.reset (startCores w e0 e1 e2) n = ZCore.startAt e0 0 := by
  rw [startCores, SMap.get_map_append, if_neg (by rw [List.mem_range]; omega)]
  rcases sup with rfl | rfl <;> rfl

theorem Part.workers_le (p : Part) : p.workers ≤ 16 := by cases p <;> decide

/-- The entry to LOAD is a change of mode that empties what waits for it (R47). -/
theorem State.enterLoad_sys {s : State} (other : s.sys.mode ≠ .load) (cause : Nat) :
    (s.enterLoad cause).sys = { s.sys with
      mode := .load, prev := s.sys.mode, cause := cause, pend := false, imgApplied := false, entReady := false } := by
  unfold State.enterLoad
  simp only [State.setMode_sys other]

theorem State.enterLoad_zyn (s : State) (cause : Nat) : (s.enterLoad cause).zyn = s.zyn :=
  (OnlyIn.enterLoad (OnlyIn.refl _ s) cause (List.Subset.refl _)).zyn_eq

/-- Settles O3: by the paths of a download, the first failing check of an image, and the state that an accepted one leaves. -/
theorem downloadsRunInBootAndStartTheCores : Obligations.DownloadsRunInBootAndStartTheCores := by
  have brings : ∀ {s : State} {img : Bytes}, (s.boot.download = .usb2 ∨ s.boot.download = .usb4 ∧ img.length = s.boot.dmaLen) →
      s.brings img = true := by
    rintro s img (usb2 | ⟨usb4, length⟩)
    · simp [State.brings, usb2]
    · simp [State.brings, usb4, length]
  refine ⟨fun s boot => ⟨fun b => ?_, fun idle => ?_, fun busy => ?_, fun b attached => ⟨fun idle => ?_, fun busy => ?_⟩, fun busy => ?_,
    fun img brought => ⟨fun failed => ?_, fun passed bad => ?_⟩⟩, fun s img boot brought passed good => ?_⟩
  · cases b
    · refine ⟨_, if_pos boot, ?_⟩
      have still : State.booting { s with boot := { s.boot with usb2A := true } } = true := boot
      simp [State.usb2Device, still]
    · refine ⟨_, if_pos boot, ?_⟩
      have still : State.booting { s with boot := { s.boot with usb2B := true } } = true := boot
      simp [State.usb2Device, still]
  · simp [exec, execFwDownloadGo, State.startDownload, boot, idle]
  · simp [exec, execFwDownloadGo, State.startDownload, boot, busy]
  · simp [exec, execUsb2FwTransfer, State.startDownload, boot, idle, attached]
  · simp [exec, execUsb2FwTransfer, State.startDownload, boot, busy, attached]
  · refine ⟨_, if_pos ⟨boot, busy⟩, ?_⟩
    have noted := fun t : State => offer_frame t 0x0003 0x0009 s.endDownload.sys.rejects 0
    refine ⟨congrArg Sys.bootErr (noted _).sys_eq, congrArg Boot.download (noted _).boot_eq, (noted _).mem_eq, ?_⟩
    simp [State.endDownload]
  · refine ⟨s.endDownload, by simp [exec, execFwImageReceived, boot, brings brought, failed], rfl, rfl, ?_⟩
    simp [State.endDownload]
  · refine ⟨s.rejectFirmware (firmwareCode s.part s.lcs.otp img), by simp [exec, execFwImageReceived, boot, brings brought, passed, bad], ?_⟩
    have noted := fun (t : State) c n => offer_frame t 0x0003 c n 0
    refine ⟨congrArg Sys.bootErr (noted _ _ _).sys_eq, congrArg Sys.rejects (noted _ _ _).sys_eq,
      congrArg Boot.download (noted _ _ _).boot_eq, (noted _ _ _).mem_eq, ?_⟩
    simp [State.rejectFirmware, State.endDownload]
  · refine ⟨s.acceptFirmware img, by simp [exec, execFwImageReceived, boot, brings brought, passed, good], ?_⟩
    have mode : s.sys.mode ≠ .load := by
      simp only [State.booting, Bool.and_eq_true, decide_eq_true_eq] at boot
      simp [boot.1]
    have cores : (s.acceptFirmware img).zyn.cores = startCores s.part.workers (entryPoint (segments img) 0) (entryPoint (segments img) 1)
        (entryPoint (segments img) 2) := congrArg Zynkel.cores (State.enterLoad_zyn _ 2)
    have sys : (s.acceptFirmware img).sys = _ := State.enterLoad_sys (by exact mode) 2
    refine ⟨by rw [sys], by rw [sys], by rw [sys], rfl, congrArg Zynkel.imemNormal (State.enterLoad_zyn _ 2), fun n worker => ?_,
      fun n sup => ?_⟩
    · rw [State.core, cores, startCores_worker _ _ _ worker]
      exact ⟨rfl, rfl, rfl, rfl⟩
    · rw [State.core, cores, startCores_supervisor _ _ _ s.part.workers_le sup]
      exact ⟨rfl, rfl⟩

/-! ## Gate requests and leases of islands (file 01) -/

/-- A gate request joins its world's queue, with its result not yet done (R52). -/
def State.queueGate (s : State) (g : GateReq) : State :=
  let t := s.setGres g.world { status := 0, isl := g.isl, done := false }
  { t with pwr := { t.pwr with gating := t.pwr.gating ++ [g] } }

@[simp] theorem State.setGres_gating (s : State) (w : World) (g : GateRes) : (s.setGres w g).pwr.gating = s.pwr.gating := by
  cases w <;> rfl

@[simp] theorem State.setGres_clkOn (s : State) (w : World) (g : GateRes) : (s.setGres w g).pwr.clkOn = s.pwr.clkOn := by
  cases w <;> rfl

@[simp] theorem State.setGres_pwrOn (s : State) (w : World) (g : GateRes) : (s.setGres w g).pwr.pwrOn = s.pwr.pwrOn := by
  cases w <;> rfl

@[simp] theorem State.setGres_owner (s : State) (w : World) (g : GateRes) : (s.setGres w g).pwr.owner = s.pwr.owner := by
  cases w <;> rfl

@[simp] theorem State.setGres_islandPresent (s : State) (w : World) (g : GateRes) (isl : Nat) :
    (s.setGres w g).islandPresent isl = s.islandPresent isl := by
  cases w <;> rfl

@[simp] theorem State.queueGate_gating (s : State) (g : GateReq) : (s.queueGate g).pwr.gating = s.pwr.gating ++ [g] := by
  simp [State.queueGate]

@[simp] theorem State.queueGate_clkOn (s : State) (g : GateReq) : (s.queueGate g).pwr.clkOn = s.pwr.clkOn := by
  simp [State.queueGate]

theorem State.queueGate_gres (s : State) (g : GateReq) :
    (s.queueGate g).gres g.world = { status := 0, isl := g.isl, done := false } := by
  simp only [State.queueGate]
  cases g.world <;> rfl

theorem State.queueGate_frame (s : State) (g : GateReq) : OnlyIn [.pwr] s (s.queueGate g) := by
  simp [State.queueGate]

theorem not_mem_gating_of_serving_none {s : State} {g : GateReq} (free : s.pwr.serving g.world = none) : g ∉ s.pwr.gating := by
  intro mem
  simpa using List.find?_eq_none.mp free g mem

theorem serving_queueGate {s : State} {g : GateReq} (free : s.pwr.serving g.world = none) :
    (s.queueGate g).pwr.serving g.world = some g := by
  rw [Pwr.serving, State.queueGate_gating, List.find?_append, ← Pwr.serving, free]
  simp

theorem State.serveGates_one {s : State} {w : World} {g : GateReq} (serving : s.pwr.serving w = some g) :
    State.serveGates w 1 s = s.serveGate g := by
  simp [State.serveGates, serving]

theorem State.gateRequest_of_free {s : State} {g : GateReq} (free : s.pwr.serving g.world = none) :
    s.gateRequest g = (s.queueGate g).serveGate g := by
  rw [State.gateRequest, free]
  exact State.serveGates_one (serving_queueGate free)

theorem State.gateRequest_of_busy {s : State} {g : GateReq} (busy : (s.pwr.serving g.world).isSome = true) :
    s.gateRequest g = s.queueGate g := if_pos busy

/-- A request refused at once leaves no trace but its result (R52). -/
theorem State.finishGate_queueGate {s : State} {g : GateReq} (free : s.pwr.serving g.world = none) (status : Nat) :
    (s.queueGate g).finishGate g status = s.setGres g.world { status := status, isl := g.isl, done := true } := by
  have erased : (s.pwr.gating ++ [g]).erase g = s.pwr.gating := by
    rw [List.erase_append_right _ (not_mem_gating_of_serving_none free)]
    simp
  have still : ∀ p : Pwr, p.gating = s.pwr.gating → p.serving g.world = none := by
    intro p same
    rw [Pwr.serving, same, ← Pwr.serving, free]
  unfold State.finishGate
  simp only [State.queueGate_gating, erased]
  refine (if_neg ?_).trans ?_
  · rw [still]
    · simp
    · rfl
  obtain ⟨w, isl, act⟩ := g
  cases w <;> rfl

theorem State.gateRequest_refused {s : State} {g : GateReq} (free : s.pwr.serving g.world = none) {status : Nat}
    (refused : (s.queueGate g).serveGate g = (s.queueGate g).finishGate g status) :
    s.gateRequest g = s.setGres g.world { status := status, isl := g.isl, done := true } := by
  rw [State.gateRequest_of_free free, refused, State.finishGate_queueGate free]

theorem State.serveGate_absent {s : State} {g : GateReq} (absent : s.islandPresent g.isl = false) :
    s.serveGate g = s.finishGate g 0x0103 := if_pos absent

@[simp] theorem State.queueGate_islandPresent (s : State) (g : GateReq) (isl : Nat) :
    (s.queueGate g).islandPresent isl = s.islandPresent isl :=
  State.setGres_islandPresent s _ _ isl

@[simp] theorem State.queueGate_owner (s : State) (g : GateReq) : (s.queueGate g).pwr.owner = s.pwr.owner := by
  obtain ⟨w, isl, act⟩ := g
  cases w <;> rfl

theorem refreshLinks_pwr (s : State) : s.refreshLinks.pwr = s.pwr :=
  (OnlyIn.refreshLinks (OnlyIn.refl _ s) (List.Subset.refl _)).pwr_eq

/-- The island that RUN brings back has clock and power (R53). -/
theorem State.runIsland_on (s : State) {isl : Nat} (small : isl < 19) :
    (s.runIsland isl).pwr.clkOn.getLsbD isl = true ∧ (s.runIsland isl).pwr.pwrOn.getLsbD isl = true := by
  simp [State.runIsland, refreshLinks_pwr, islandBit, small]

theorem finishGate_clkOn (s : State) (g : GateReq) (status : Nat) : (s.finishGate g status).pwr.clkOn = s.pwr.clkOn := by
  unfold State.finishGate
  dsimp only
  split <;> simp

theorem finishGate_pwrOn (s : State) (g : GateReq) (status : Nat) : (s.finishGate g status).pwr.pwrOn = s.pwr.pwrOn := by
  unfold State.finishGate
  dsimp only
  split <;> simp

theorem finishGate_gating (s : State) (g : GateReq) (status : Nat) : (s.finishGate g status).pwr.gating = s.pwr.gating.erase g := by
  unfold State.finishGate
  dsimp only
  split <;> simp

theorem finishGate_gres {s : State} {g : GateReq} (last : (s.pwr.gating.erase g).find? (fun x => x.world == g.world) = none) (status : Nat) :
    (s.finishGate g status).gres g.world = { status := status, isl := g.isl, done := true } := by
  unfold State.finishGate
  simp [Pwr.serving, last]

theorem runIsland_gating (s : State) (isl : Nat) : (s.runIsland isl).pwr.gating = s.pwr.gating := by
  rw [State.runIsland, refreshLinks_pwr]

theorem serveGate_gating_le (s : State) (g : GateReq) : (s.serveGate g).pwr.gating.length ≤ s.pwr.gating.length := by
  have erased (t : State) (status : Nat) : (t.finishGate g status).pwr.gating.length ≤ t.pwr.gating.length := by
    rw [finishGate_gating]
    exact List.length_erase_le
  unfold State.serveGate
  split
  · exact erased s _
  split
  · exact (erased _ _).trans (by rw [runIsland_gating])
  split
  · exact erased s _
  · exact le_rfl

theorem serveGates_gating_le (w : World) (fuel : Nat) (s : State) :
    (State.serveGates w fuel s).pwr.gating.length ≤ s.pwr.gating.length := by
  induction fuel generalizing s with
  | zero => exact le_rfl
  | succ fuel ih =>
    unfold State.serveGates
    split
    · exact le_rfl
    dsimp only
    split
    · exact serveGate_gating_le _ _
    · exact (ih _).trans (serveGate_gating_le _ _)

theorem gateServed_mem {p : Pwr} {isl : Nat} {g : GateReq} (served : p.gateServed isl = some g) : g ∈ p.gating ∧ g.isl = isl := by
  have found := List.find?_some served
  simp only [Bool.and_eq_true, beq_iff_eq] at found
  exact ⟨List.mem_of_find?_eq_some served, found.1.1⟩

/-- The last request of a world leaves none of it behind. -/
theorem serving_none_of_filter {l : List GateReq} {g : GateReq} (last : l.filter (fun x => decide (x.world = g.world)) = [g]) :
    (l.erase g).find? (fun x => x.world == g.world) = none := by
  rw [List.find?_eq_none]
  intro x mem same
  have same : x.world = g.world := by simpa using same
  have xg : x = g := by simpa [last] using (List.mem_filter.mpr ⟨List.mem_of_mem_erase mem, by simpa using same⟩ :
    x ∈ l.filter fun x => decide (x.world = g.world))
  subst xg
  have count : List.count x l = 1 := by
    rw [← List.count_filter (p := fun y => decide (y.world = x.world)) (by simp), last]
    simp
  have erased := List.count_erase_self (a := x) (l := l)
  have left := List.count_pos_iff.mpr mem
  omega

theorem gateRequest_of_waiting {s : State} {g : GateReq} (waits : (s.queueGate g).serveGate g = s.queueGate g) :
    s.gateRequest g = s.queueGate g := by
  cases busy : s.pwr.serving g.world with
  | none => rw [State.gateRequest_of_free busy, waits]
  | some x => exact State.gateRequest_of_busy (by simp [busy])

theorem exec_islandRun {s : State} {isl : Nat} (w : World) (untripped : s.pwr.tripped.getLsbD isl = false)
    (calm : s.pwr.tripping.getLsbD isl = false) :
    exec (.islandRun w isl) s = .next (s.gateRequest { world := w, isl := isl, act := .run }) := by
  simp [exec, execIslandRun, untripped, calm]

/-- Settles O5: a request joins its world's queue and is served there; what it is refused for leaves its result alone. -/
theorem gateRequestsAndLeasesOfIslands : Obligations.GateRequestsAndLeasesOfIslands := by
  refine ⟨fun s w isl => ⟨fun free => ⟨?absent, ?absentRun, ?owned, ?runs⟩, ?waits, ?behind, ?ends⟩, ?lease⟩
  case absent =>
    intro absent c hc
    have refused (a : GateAct) : s.gateOrDrop w isl a = s.setGres w { status := 0x0103, isl := isl, done := true } := by
      rw [State.gateOrDrop, if_neg (by simp [absent])]
      exact State.gateRequest_refused (g := ⟨w, isl, a⟩) free (State.serveGate_absent (by simpa using absent))
    simp only [List.mem_cons, List.not_mem_nil, or_false] at hc
    rcases hc with rfl | rfl <;> exact congrArg _ (refused _)
  case absentRun =>
    intro absent untripped calm
    rw [exec_islandRun w untripped calm]
    exact congrArg _ (State.gateRequest_refused (g := ⟨w, isl, .run⟩) free (State.serveGate_absent (by simpa using absent)))
  case owned =>
    rintro present rfl owned c hc
    have refused (a : GateAct) (stops : a ≠ .run) :
        s.gateOrDrop .normal isl a = s.setGres .normal { status := 0x0802, isl := isl, done := true } := by
      rw [State.gateOrDrop, if_neg (by simp)]
      refine State.gateRequest_refused (g := ⟨.normal, isl, a⟩) free ?_
      simp [State.serveGate, present, stops, owned]
    simp only [List.mem_cons, List.not_mem_nil, or_false] at hc
    rcases hc with rfl | rfl <;> exact congrArg _ (refused _ (by decide))
  case runs =>
    intro present untripped calm
    have served : s.gateRequest ⟨w, isl, .run⟩ = ((s.queueGate ⟨w, isl, .run⟩).runIsland isl).finishGate ⟨w, isl, .run⟩ 0 := by
      rw [State.gateRequest_of_free (g := ⟨w, isl, .run⟩) free]
      simp [State.serveGate, present]
    have small : isl < 19 := by simp only [State.islandPresent, Bool.and_eq_true, decide_eq_true_eq] at present; exact present.1
    have on := (s.queueGate ⟨w, isl, .run⟩).runIsland_on small
    refine ⟨_, exec_islandRun w untripped calm, ?_, ?_, ?_, ?_⟩
    · rw [served, finishGate_clkOn, on.1]
    · rw [served, finishGate_pwrOn, on.2]
    · rw [served]
      refine finishGate_gres (g := ⟨w, isl, .run⟩) ?_ 0
      rw [runIsland_gating, State.queueGate_gating,
        List.erase_append_right _ (not_mem_gating_of_serving_none (g := ⟨w, isl, .run⟩) free)]
      simpa [Pwr.serving] using free
    · simp
  case waits =>
    intro present gateable' free x hx
    have waits (a : GateAct) (stops : a ≠ .run) : s.gateOrDrop w isl a = s.queueGate ⟨w, isl, a⟩ := by
      rw [State.gateOrDrop, if_neg (by simp [gateable'])]
      refine gateRequest_of_waiting (g := ⟨w, isl, a⟩) ?_
      have unowned : ¬ (w = .normal ∧ s.pwr.owner.getLsbD isl = true) := by
        rintro ⟨normal, owned⟩
        simp [free normal] at owned
      simp only [State.serveGate, State.queueGate_islandPresent, present, stops, State.queueGate_owner, unowned]
      simp
    have joined (a : GateAct) := And.intro (s.queueGate_gres ⟨w, isl, a⟩)
      (And.intro (s.queueGate_gating ⟨w, isl, a⟩) (And.intro (s.queueGate_clkOn ⟨w, isl, a⟩) (s.queueGate_frame ⟨w, isl, a⟩)))
    simp only [List.mem_cons, List.not_mem_nil, or_false] at hx
    rcases hx with rfl | rfl
    · exact ⟨_, congrArg Host.Outcome.next (waits .clock (by decide)), joined .clock⟩
    · exact ⟨_, congrArg Host.Outcome.next (waits .power (by decide)), joined .power⟩
  case behind =>
    intro busy untripped calm
    refine ⟨_, (exec_islandRun w untripped calm).trans (congrArg _ (State.gateRequest_of_busy (g := ⟨w, isl, .run⟩) busy)), ?_⟩
    exact ⟨s.queueGate_gres _, s.queueGate_gating _, s.queueGate_clkOn _, s.queueGate_frame _⟩
  case ends =>
    intro g small served idle
    obtain ⟨mem, same⟩ := gateServed_mem served
    have ran : exec (.islandGateDone isl) s = .next (State.serveGates g.world ((s.stopIsland g).finishGate g 0).pwr.gating.length
        ((s.stopIsland g).finishGate g 0)).refreshLinks.endUnservedAll := by
      simp [exec, execIslandGateDone, served, idle]
    have erased : ((s.stopIsland g).finishGate g 0).pwr.gating = s.pwr.gating.erase g := by rw [finishGate_gating]; rfl
    have kept (t : State) : t.refreshLinks.endUnservedAll.pwr = t.pwr :=
      (OnlyIn.endUnservedAll (OnlyIn.refl _ _) (List.Subset.refl _)).pwr_eq.trans (refreshLinks_pwr t)
    refine ⟨⟨_, ran, ?_⟩, fun last => ?_⟩
    · simp only [kept]
      refine (serveGates_gating_le _ _ _).trans_lt ?_
      rw [erased, List.length_erase_of_mem mem]
      have := List.length_pos_of_mem mem
      omega
    · have none := serving_none_of_filter last
      have served' : State.serveGates g.world ((s.stopIsland g).finishGate g 0).pwr.gating.length ((s.stopIsland g).finishGate g 0)
          = (s.stopIsland g).finishGate g 0 := by
        cases ((s.stopIsland g).finishGate g 0).pwr.gating.length with
        | zero => rfl
        | succ n => rw [State.serveGates, Pwr.serving, erased, none]
      rw [served'] at ran
      refine ⟨_, ran, ?_⟩
      simp only [State.gres, kept, finishGate_clkOn, finishGate_pwrOn, erased]
      refine ⟨?_, ?_, trivial, ?_⟩
      · simp [State.stopIsland, islandBit, same, small]
      · intro power
        simp [State.stopIsland, power, islandBit, same, small]
      · rw [← same]
        exact finishGate_gres (s := s.stopIsland g) none 0
  case lease =>
    intro s who held control
    simp [exec, execPwrLeaseWrite, State.bySecure, control]

/-! ## The thermal trip (file 01) -/

theorem islandBit_getLsbD {isl k : Nat} (small : k < 19) : (islandBit isl).getLsbD k = decide (k = isl) := by
  simp only [islandBit, BitVec.getLsbD_shiftLeft, BitVec.getLsbD_one]
  rcases Nat.lt_trichotomy k isl with h | rfl | h
  · simp [small, h, h.ne]
  · simp [small]
  · have : k - isl ≠ 0 := by omega
    simp [small, h.ne', this]

theorem getLsbD_islandFold (p : Nat → Bool) {isl : Nat} (small : isl < 19) (n : Nat) :
    ((List.range n).foldl (fun m k => if p k then m ||| islandBit k else m) 0#19).getLsbD isl = (decide (isl < n) && p isl) := by
  induction n with
  | zero => simp
  | succ n ih =>
    rw [List.range_succ, List.foldl_append, List.foldl_cons, List.foldl_nil]
    have bit := islandBit_getLsbD (isl := n) small
    by_cases same : isl = n
    · subst same
      cases p isl <;> simp_all
    · have less : decide (isl < n + 1) = decide (isl < n) := by simp only [decide_eq_decide]; omega
      rw [less, ← ih]
      split
      · rw [BitVec.getLsbD_or, bit]
        simp [same]
      · rfl

theorem byAny_supervisor {s : State} {b : Bool} (control : s.inControl (.supervisor b) = true) (f : State → State) :
    s.byAny (.supervisor b) f = f s := by
  simp [State.byAny, State.byControl, control]

/-- A trip that stands degrades SERVICE (R47, R54). -/
theorem afterTrip_sys {s : State} (service : s.sys.mode = .service) (stands : s.fenceStands = true) :
    s.afterTrip.sys.mode = .degraded ∧ s.afterTrip.sys.cause = 10 := by
  rw [State.afterTrip, if_pos ⟨service, stands⟩, State.setMode_sys (by simp [service])]
  exact ⟨rfl, rfl⟩

theorem fenceStands_of_tripped {s : State} {isl : Nat} (tripped : s.pwr.tripped.getLsbD isl = true) : s.fenceStands = true := by
  have some : decide (s.pwr.tripped ≠ 0) = true := by
    rw [decide_eq_true_eq]
    intro none
    simp [none] at tripped
  simp only [State.fenceStands, some, Bool.or_true, Bool.true_or]

/-- PWR once an island has been tripped: off, and marked (R54). -/
def Pwr.tripOff (p : Pwr) (isl : Nat) : Pwr :=
  { p with clkOn := p.clkOn &&& ~~~islandBit isl, pwrOn := p.pwrOn &&& ~~~islandBit isl, tripping := p.tripping &&& ~~~islandBit isl,
           tripped := p.tripped ||| islandBit isl }

theorem Pwr.tripOff_bits (p : Pwr) {isl : Nat} (small : isl < 19) :
    (p.tripOff isl).tripped.getLsbD isl = true ∧ (p.tripOff isl).tripping.getLsbD isl = false
      ∧ (p.tripOff isl).clkOn.getLsbD isl = false ∧ (p.tripOff isl).pwrOn.getLsbD isl = false := by
  simp only [Pwr.tripOff, BitVec.getLsbD_or, BitVec.getLsbD_and, BitVec.getLsbD_not, islandBit_getLsbD small]
  simp

theorem exec_thermalTripAbort {s : State} {isl : Nat} (on : s.onMain = true) (tripping : s.pwr.tripping.getLsbD isl = true)
    (notDue : s.pwr.shutdownDue = false) : ∃ t : State, t.pwr = (s.clearIsland isl).pwr.tripOff isl ∧ t.sys = (s.clearIsland isl).sys
      ∧ ∃ p0 p1 p2, exec (.thermalTripAbort isl) s = .next (t.offer 0x0101 p0 p1 p2).refreshLinks.afterTrip.endUnservedAll := by
  show ∃ t : State, _ ∧ _ ∧ ∃ p0 p1 p2, execThermalTripAbort isl s = _
  rw [execThermalTripAbort, if_neg (by simp [on, tripping]), if_neg (by simp [notDue])]
  exact ⟨{ s.clearIsland isl with pwr := (s.clearIsland isl).pwr.tripOff isl }, rfl, rfl, _, _, _, rfl⟩

/-- Settles O6: by what each rule of the trip writes to PWR; the calls that follow it leave PWR alone. -/
theorem thermalTripHoldAndReturn : Obligations.ThermalTripHoldAndReturn := by
  intro s
  refine ⟨fun k x on sensor hot => ?trips, fun k x on sensor cool => ?cool, fun isl small on tripping due => ?shutdown,
    fun isl small on tripping notDue => ?abort, fun x backup hold => ?hold, fun b mask isl control small asked tripped cold => ?returns⟩
  case trips =>
    have here : ¬ (s.onMain = false ∨ 32 ≤ k) := by simp [on]; omega
    have hot' : ¬ x < 199 := by omega
    have sensed : (s.senseJunction k x).pwr.tripped = s.pwr.tripped := rfl
    have frame : OnlyIn [.pwr] s (s.senseJunction k x) := by simp [State.senseJunction]
    simp only [Completes, exec, execThermalTrip, here, hot', if_false]
    cases island : (s.senseJunction k x).tripIsland k with
    | none => exact ⟨_, rfl, by simp, fun _ => rfl, by simp [frame]⟩
    | some i =>
      simp only [sensed]
      split
      · refine ⟨_, rfl, ?_, by simp, frame⟩
        intro isl _ same untripped
        simp_all
      · refine ⟨_, rfl, ?_, by simp, by simp [frame]⟩
        intro isl small same _
        obtain rfl : i = isl := by simpa using same
        rw [BitVec.getLsbD_or, islandBit_getLsbD small]
        simp
  case cool =>
    have here : ¬ (s.onMain = false ∨ 32 ≤ k) := by simp [on]; omega
    simp only [exec, execThermalTrip, here, cool, if_false, if_true]
  case shutdown =>
    refine ⟨s.thermalShutdown, by simp [exec, execThermalTripAbort, on, tripping, due], rfl, rfl, rfl, ?_⟩
    exact ⟨rfl, rfl, rfl, rfl, rfl, rfl, rfl, rfl, rfl, rfl, rfl, rfl, rfl⟩
  case abort =>
    obtain ⟨t, pwr, sys, p0, p1, p2, ran⟩ := exec_thermalTripAbort on tripping notDue
    refine ⟨_, ran, ?_⟩
    have cleared : OnlyIn [.host, .twl, .dmk, .cal, .srg, .tul, .hsh, .ent, .zyn, .mem, .rcd, .blk, .fresh] s (s.clearIsland isl) :=
      (OnlyIn.refl _ s).clearIsland isl (List.Subset.refl _)
    have noted : OnlyIn [.ent, .rcd, .blk] t (t.offer 0x0101 p0 p1 p2).refreshLinks := by simp
    generalize (t.offer 0x0101 p0 p1 p2).refreshLinks = u at noted
    have ended (v : State) : OnlyIn [.host, .twl, .dmk, .cal, .srg, .tul, .hsh, .zyn, .mem, .rcd, .blk, .fresh] v v.endUnservedAll :=
      (OnlyIn.refl _ v).endUnservedAll (List.Subset.refl _)
    have after : OnlyIn [.sys, .ent, .rcd, .blk] u u.afterTrip := (OnlyIn.refl _ u).afterTrip (List.Subset.refl _)
    obtain ⟨tripped, calm, clk, power⟩ := (s.clearIsland isl).pwr.tripOff_bits small
    dsimp only
    rw [(ended _).pwr_eq, (ended _).sys_eq, after.pwr_eq, noted.pwr_eq, pwr]
    refine ⟨tripped, calm, clk, power, fun service => afterTrip_sys ?_ (fenceStands_of_tripped (isl := isl) ?_)⟩
    · rw [noted.sys_eq, sys, cleared.sys_eq, service]
    · rw [noted.pwr_eq, pwr, tripped]
  case hold =>
    simp only [Completes, exec, execThermalHoldCheck, backup, hold, and_self, if_true]
    by_cases cool : x ≤ 164
    · have notWarm : ¬ 164 < x := by omega
      simp only [cool, if_true]
      split
      · exact ⟨_, rfl, rfl, fun _ _ _ => rfl, fun warm => absurd warm notWarm, by simp⟩
      · rename_i short
        refine ⟨_, rfl, rfl, fun _ many free => absurd ⟨by omega, free⟩ short, fun warm => absurd warm notWarm, by simp⟩
    · simp only [cool, if_false]
      rw [if_neg (by omega)]
      exact ⟨_, rfl, rfl, by simp, fun _ => ⟨rfl, rfl⟩, by simp⟩
  case returns =>
    refine ⟨_, congrArg Host.Outcome.next (byAny_supervisor control _), ?_⟩
    extract_lets back
    have bit : back.getLsbD isl = true := by
      rw [getLsbD_islandFold _ small]
      simp [small, asked, tripped, cold]
    have kept (t : State) : t.refreshLinks.afterLift.pwr = t.pwr :=
      ((OnlyIn.refl _ _).afterLift (List.Subset.refl _)).pwr_eq.trans (refreshLinks_pwr t)
    dsimp only
    rw [kept]
    simp [bit, small]

/-! ## What a completion does to the admitted commands (file 03) -/

/-- Only ports, queue pairs, tenants and what has left the device change of the host side. -/
def SameWork (s t : State) : Prop :=
  t.host = { s.host with portA := t.host.portA, portB := t.host.portB, discard := t.host.discard, qps := t.host.qps,
                         tenants := t.host.tenants, outbox := t.host.outbox, signals := t.host.signals }

theorem SameWork.refl (s : State) : SameWork s s := rfl

theorem SameWork.trans {s t u : State} (h : SameWork s t) (g : SameWork t u) : SameWork s u := by
  unfold SameWork at *
  rw [g, h]

theorem SameWork.ite {s a b : State} {c : Prop} [Decidable c] (ha : SameWork s a) (hb : SameWork s b) :
    SameWork s (if c then a else b) := by
  split
  · exact ha
  · exact hb

theorem SameWork.admitted {s t : State} (h : SameWork s t) : t.host.admitted = s.host.admitted := by rw [h]

theorem SameWork.of_host {s t : State} (h : t.host = s.host) : SameWork s t := by
  unfold SameWork
  rw [h]

theorem SameWork.of_frame {l : List Area} {s t : State} (h : OnlyIn l s t) (out : .host ∉ l := by simp) : SameWork s t :=
  .of_host (h.host_eq out)

theorem SameWork.setPort (s : State) (b : Bool) (p : Port) : SameWork s (s.setPort b p) := by
  unfold State.setPort
  split <;> rfl

theorem SameWork.signal (s : State) (b : Bool) (t v : Nat) : SameWork s (s.signal b t v) := by
  unfold State.signal
  dsimp only
  split
  · exact SameWork.refl s
  split
  · exact SameWork.setPort ..
  · rfl

theorem SameWork.countDmaErr (s : State) (r : Src) : SameWork s (s.countDmaErr r) := by
  unfold State.countDmaErr
  split
  · exact SameWork.setPort ..
  · exact SameWork.refl s

theorem SameWork.faultQp (s : State) (t q code : Nat) : SameWork s (s.faultQp t q code) := by
  unfold State.faultQp
  dsimp only
  split
  · exact SameWork.refl s
  refine SameWork.trans ?_ (.of_frame (offer_frame _ _ _ _ _))
  split
  · exact SameWork.trans (by rfl) (SameWork.signal ..)
  · rfl

theorem SameWork.countSignal (s : State) (t q : Nat) (noirq : Bool) : SameWork s (s.countSignal t q noirq) := by
  unfold State.countSignal
  exact SameWork.ite (SameWork.trans (t := s.setQp t q _) rfl (SameWork.signal ..)) rfl

theorem SameWork.writeCompletion (s : State) (t q : Nat) (noirq ok : Bool) (c : Completion) :
    SameWork s (s.writeCompletion t q noirq ok c) := by
  unfold State.writeCompletion
  dsimp only
  split
  · rfl
  split
  · exact ((SameWork.countDmaErr s c.src).trans (by rfl)).trans (SameWork.faultQp ..)
  · exact SameWork.trans (by rfl) (SameWork.countSignal ..)

theorem SameWork.settleQp (s : State) (t q : Nat) : SameWork s (s.settleQp t q) := by
  unfold State.settleQp
  dsimp only
  split <;> rfl

theorem SameWork.countRetry (s : State) (t hint : Nat) : SameWork s (s.countRetry t hint) := by
  unfold State.countRetry
  dsimp only
  split
  · rfl
  · exact SameWork.trans (by rfl) (.of_frame (offer_frame _ _ _ _ _))

/-- A completion takes the command from the admitted ones, and leaves the rest of the host side but what it reports (R107). -/
theorem State.complete_work (s : State) (r : Req) (status detail reason info outLen : Nat) (out : Bytes) :
    SameWork { s with fresh := s.fresh + 1, host := { s.host with admitted := dropAdmitted r s.host.admitted } }
      (s.complete r status detail reason info outLen out) := by
  unfold State.complete
  extract_lets adm time _ s1 head c _ s2
  have h2 : SameWork s1 s2 := by
    simp only [s2]
    split
    · exact (SameWork.writeCompletion ..).trans (SameWork.settleQp ..)
    · rfl
    · exact .of_frame (l := [.blk]) ((OnlyIn.refl _ s1).replyFabric _ _ _ _ (List.Subset.refl _))
  split
  · exact h2.trans (SameWork.countRetry ..)
  · exact h2

/-- A completed command is admitted no longer; every other one is as before (R107). -/
theorem State.complete_admitted (s : State) (r : Req) (status detail reason info outLen : Nat) (out : Bytes) :
    (s.complete r status detail reason info outLen out).host.admitted = dropAdmitted r s.host.admitted :=
  (s.complete_work r status detail reason info outLen out).admitted

/-! ## DRAIN (file 01) -/

theorem State.enterDrain_sys {s : State} (other : s.sys.mode ≠ .drain) (tgt : DrainTo) :
    (s.enterDrain tgt).sys = { s.sys with
      mode := .drain, prev := s.sys.mode, cause := 8, pend := true, drainTo := tgt, modeReqGo := false } := by
  have answered (t : State) : (t.answerWaiting 0x0501).sys = t.sys :=
    ((OnlyIn.refl _ t).answerWaiting 0x0501 (List.Subset.refl _)).sys_eq
  have ended : s.endSession.sys = s.sys := ((OnlyIn.refl _ s).endSession (List.Subset.refl _)).sys_eq
  have mode : s.endSession.sys.mode ≠ .drain := by rwa [ended]
  unfold State.enterDrain
  simp [answered, State.setMode_sys mode, ended]

theorem State.abortReq_admitted (s : State) (r : Req) (cause : Nat) :
    (s.abortReq r cause).host.admitted = dropAdmitted r s.host.admitted := by
  have dropped : (s.dropJobs fun e => decide (e = .raw r)).host = s.host := ((OnlyIn.refl _ s).dropJobs _ (List.Subset.refl _)).host_eq
  rw [State.abortReq, State.complete_admitted, dropped]

theorem State.abortReq_twl (s : State) (r : Req) (cause : Nat) : (s.abortReq r cause).twl = s.twl :=
  ((OnlyIn.refl _ s).abortReq r cause (List.Subset.refl _)).twl_eq

/-- The abort of a command that no slot runs ends it alone (R48). -/
theorem State.abortOne_of_none {s : State} {r : Req} (none : s.instOf r = none) (cause : Nat) :
    (s.abortOne cause r).host.admitted = dropAdmitted r s.host.admitted ∧ (s.abortOne cause r).twl = s.twl := by
  simp only [State.abortOne, none]
  exact ⟨s.abortReq_admitted r cause, s.abortReq_twl r cause⟩

theorem abortAll_admitted (cause : Nat) (l : List Admitted) : ∀ s : State, (∀ r, s.instOf r = none) → s.host.admitted = l →
    ((l.map (·.req)).foldl (fun t r => t.abortOne cause r) s).host.admitted = [] := by
  induction l with
  | nil => exact fun s _ empty => empty
  | cons a l ih =>
    intro s none front
    obtain ⟨admitted, twl⟩ := State.abortOne_of_none (none a.req) cause
    refine ih _ (fun r => ?_) ?_
    · rw [State.instOf, twl]
      exact none r
    · rw [admitted, front]
      simp [dropAdmitted]

/-- The abort of a recipe's command frees its slot and completes the command (R48, R142). -/
theorem State.abortOne_of_inst {s : State} {r : Req} {n cause : Nat} (inst : s.instOf r = some n) (req : (s.slot n).req = r)
    (live : (s.slot n).state = .running ∨ (s.slot n).state = .loading) :
    (s.abortOne cause r).host.admitted = dropAdmitted r s.host.admitted ∧ (s.abortOne cause r).slot n = Inst.free
      ∧ (s.abortOne cause r).twl.lastCause = cause := by
  have busy : ¬ ((s.slot n).state = .free ∨ (s.slot n).state = .completing) := by
    rcases live with live | live <;> simp [live]
  have twl (t : State) (d : Nat) : (t.complete r 0x0601 d 0 0 0 []).twl = t.twl :=
    ((OnlyIn.refl _ t).complete r _ _ _ _ _ _ (List.Subset.refl _)).twl_eq
  have dropped (p : EngSrc → Bool) : (s.dropJobs p).host = s.host := ((OnlyIn.refl _ s).dropJobs p (List.Subset.refl _)).host_eq
  simp only [State.abortOne, inst, State.abortInst, busy, if_false, req, State.complete_admitted]
  simp [State.slot, twl, dropped, State.setSlot]

/-- Settles O7: a request is accepted by `State.requestDrain`, discarded, or dropped; the limit aborts every admitted command. -/
theorem drainAndItsTargets : Obligations.DrainAndItsTargets := by
  intro s discarded
  refine ⟨fun v on => ?request, fun drain none => ?limit, fun r n drain one inst req live => ?recipe, fun drained => ?off,
    fun drained => ?load⟩
  case request =>
    intro free
    refine ⟨fun ⟨pend, noCeremony⟩ target go => ⟨fun quiet modes => ?_, fun not => ?_⟩, fun ⟨pend, noCeremony⟩ three => ?_, fun busy => ?_⟩
    · have other : s.sys.mode ≠ .drain := by
        rcases modes with m | m | m <;> simp [m]
      refine ⟨s.requestDrain (if bits v.toNat 0 2 = 0 then .off else if bits v.toNat 0 2 = 1 then .load else .boot) v.toNat, ?_, ?_⟩
      · rcases modes with m | m | m <;> simp [exec, execModereqDrain, on, State.modeRequest, pend, noCeremony, target, go, quiet, m]
      · simp [State.requestDrain, State.enterDrain_sys other]
    · simp only [discarded, exec, execModereqDrain, on, if_true, State.modeRequest, pend, noCeremony, target, go]
      rcases not with alarm | m | m <;> simp [State.discardRequest, *]
    · simp [exec, execModereqDrain, on, State.modeRequest, pend, noCeremony, three]
    · have busy' : s.sys.pend = true ∨ s.lcs.ceremony.isSome = true := by simpa [Option.isSome_iff_ne_none] using busy
      simp [discarded, exec, execModereqDrain, on, State.modeRequest, busy', State.discardRequest]
  case limit =>
    refine ⟨_, if_pos drain, ?_⟩
    have all : s.abortWhere (fun _ => true) 8 = (s.host.admitted.map (·.req)).foldl (fun t r => t.abortOne 8 r) s := by
      simp [State.abortWhere]
    rw [all]
    exact abortAll_admitted 8 _ s none rfl
  case recipe =>
    refine ⟨_, if_pos drain, ?_⟩
    have all : s.abortWhere (fun _ => true) 8 = s.abortOne 8 r := by simp [State.abortWhere, one]
    obtain ⟨admitted, free, cause⟩ := State.abortOne_of_inst inst req live
    rw [all]
    refine ⟨?_, free, cause⟩
    rw [admitted]
    obtain ⟨a, alone⟩ : ∃ a, s.host.admitted = [a] := List.length_eq_one_iff.mp (by simpa using congrArg List.length one)
    simp_all [dropAdmitted]
  case off => exact if_pos drained
  case load =>
    refine ⟨_, if_pos drained, ?_⟩
    have other : s.sys.mode ≠ .load := by
      simp only [State.drained, Bool.and_eq_true, decide_eq_true_eq] at drained
      simp [drained.1.1.1]
    dsimp only
    rw [State.enterLoad_sys other]
    exact ⟨rfl, rfl, rfl, rfl, State.enterLoad_zyn s 9⟩

/-! ## Ports of the host interface (files 01 and 03) -/

/-- A port is as it was but for its pending bits, and so is the downstream adapter. -/
def SamePorts (s t : State) : Prop :=
  (∀ b, t.port b = { s.port b with pba := (t.port b).pba }) ∧ t.host.dsen = s.host.dsen

theorem SamePorts.refl (s : State) : SamePorts s s := ⟨fun _ => rfl, rfl⟩

theorem SamePorts.trans {s t u : State} (h : SamePorts s t) (g : SamePorts t u) : SamePorts s u :=
  ⟨fun b => by rw [g.1 b, h.1 b], g.2.trans h.2⟩

theorem SamePorts.signal (s : State) (b : Bool) (t v : Nat) : SamePorts s (s.signal b t v) := by
  unfold State.signal
  dsimp only
  split
  · exact SamePorts.refl s
  split
  · refine ⟨fun c => ?_, ?_⟩
    · cases b <;> cases c <;> rfl
    · cases b <;> rfl
  · exact ⟨fun _ => rfl, rfl⟩

theorem SamePorts.faultQp (s : State) (t q code : Nat) : SamePorts s (s.faultQp t q code) := by
  have noted (u : State) (c p0 p1 p2 : Nat) : SamePorts u (u.offer c p0 p1 p2) := by
    have host := (offer_frame u c p0 p1 p2).host_eq
    exact ⟨fun b => by simp only [State.port, host], by rw [host]⟩
  unfold State.faultQp
  dsimp only
  split
  · exact SamePorts.refl s
  refine SamePorts.trans ?_ (noted _ _ _ _ _)
  split
  · exact SamePorts.trans (t := (s.setQp t q _).setTenant t _) ⟨fun _ => rfl, rfl⟩ (SamePorts.signal ..)
  · exact ⟨fun _ => rfl, rfl⟩

theorem SamePorts.faults (code : Nat) (l : List (Nat × Nat)) (s : State) :
    SamePorts s (l.foldl (fun t x => t.faultQp x.1 x.2 code) s) := by
  induction l generalizing s with
  | nil => exact SamePorts.refl s
  | cons x l ih => exact (SamePorts.faultQp s _ _ _).trans (ih _)

/-- Settles O8: `State.checkAdapter` closes the adapter, and with it a downstream tunnel, where its conditions do not hold. -/
theorem portsOfTheHostInterface : Obligations.PortsOfTheHostInterface := by
  intro s b
  refine ⟨fun gen x2 depth on down => ?up, fun on up => ?loss, fun on => ?reset, fun c downstream => ?attach⟩
  case up =>
    refine ⟨_, if_pos ⟨on, Or.inl down⟩, ?_⟩
    cases b
    · simp [State.checkAdapter, State.setPort, State.port]
      intro upstream
      simp [upstream]
    · simp [State.checkAdapter, State.setPort, State.port]
      constructor
      · intro upstream
        simp [upstream]
      · intro downstream
        simp [downstream]
  case loss =>
    obtain ⟨t, ht⟩ : ∃ t, t = s.setPort b { s.port b with link := false, gen := 0, x2 := false, tunnel := false, depth := 0,
                                                                 linkdowns := satAdd 8 (s.port b).linkdowns 1 } := ⟨_, rfl⟩
    refine ⟨((t.boundTo b).foldl (fun t x => t.faultQp x.1 x.2 4) t).checkAdapter, by rw [ht]; exact if_pos ⟨on, up⟩, ?_⟩
    obtain ⟨ports, -⟩ := SamePorts.faults 4 (t.boundTo b) t
    have faulted : OnlyIn [.host, .rcd] s ((t.boundTo b).foldl (fun t x => t.faultQp x.1 x.2 4) t) := by
      rw [ht]
      exact ((OnlyIn.refl _ s).setPort b _ (by simp)).fold (fun u x => (OnlyIn.refl _ u).faultQp _ _ _ (List.Subset.refl _)) _
    generalize (t.boundTo b).foldl (fun t x => t.faultQp x.1 x.2 4) t = u at ports faulted
    have port := ports b
    rw [ht, State.port_setPort_self] at port
    have link : (u.port b).link = false := by rw [port]
    have tunnel : (u.port b).tunnel = false := by rw [port]
    have downs : (u.port b).linkdowns = satAdd 8 (s.port b).linkdowns 1 := by rw [port]
    clear ports port
    refine ⟨?_, ?_, ?_, ?_, faulted.checkAdapter (by simp)⟩ <;> cases b <;> simp_all [State.port, State.checkAdapter]
  case reset =>
    have on' : ¬ s.onMain = false := by simp [on]
    have disabled : OnlyIn [.host] s ((s.boundTo b).foldl (fun t x => t.disableQp x.1 x.2) s) :=
      (OnlyIn.refl _ s).fold (fun u x => (OnlyIn.refl _ u).disableQp _ _ (List.Subset.refl _)) _
    refine ⟨_, if_neg on', ?_⟩
    simpa using disabled.setPort b _ (List.Subset.refl _)
  case attach =>
    refine ⟨_, if_pos downstream, ?_⟩
    simp only [State.checkAdapter, downstream]
    cases c <;> cases s.host.portB.link <;> simp

/-! ## Register writes (files 00, 07 and 13) -/

theorem exec_registerWrite_dev {s : State} {who : Initiator} {a : Nat} (v : W32) (on : s.onMain = true) (aligned : a % 4 = 0)
    (low : a < 0xE0000000) : exec (.registerWrite who (.dev a) v none) s = .next (s.regWrite who a v) := by
  have single : ¬ 0xE0000000 ≤ a := by omega
  simp [exec, execRegisterWrite, on, aligned, State.deviceWrite, single]

theorem OnlyIn.inControl_eq {l : List Area} {s t : State} (h : OnlyIn l s t) (who : Initiator) (sys : .sys ∉ l := by simp)
    (boot : .boot ∉ l := by simp) (supv : .supv ∉ l := by simp) : t.inControl who = s.inControl who := by
  cases who <;> simp [State.inControl, State.onMain, State.powered, h.sys_eq sys, h.boot_eq boot, h.supv_eq supv]

/-- A write of CAL_CCLR reaches its core (R135). -/
theorem regWrite_calCclr {s : State} {who : Initiator} {n : Nat} (v : W32) (control : s.inControl who = true) (core : n < s.part.count .cal) :
    s.regWrite who (0xC0061020 + 0x400 * n) v = s.clearInst .cal n (UnitInst.cleared .cal v) := by
  have few : s.part.count .cal ≤ 32 := by cases s.part <;> decide
  have place : blockOf (0xC0061020 + 0x400 * n) = some (6, 0x1020 + 0x400 * n) := by
    have block : (0xC0061020 + 0x400 * n - 0xC0000000) / 65536 = 6 := by omega
    have off : (0xC0061020 + 0x400 * n) % 65536 = 0x1020 + 0x400 * n := by omega
    rw [blockOf, if_pos (by omega), block, off]
  have window : windowOf (0x1020 + 0x400 * n) = some (n, 0x20) := by
    have core' : (0x1020 + 0x400 * n - 0x1000) / 0x400 = n := by omega
    have off : (0x1020 + 0x400 * n - 0x1000) % 0x400 = 0x20 := by omega
    rw [windowOf, if_pos (by omega), core', off]
  have before : windowOf (0x1020 + 0x400 * n - 4) = some (n, 0x1C) := by
    have core' : (0x1020 + 0x400 * n - 4 - 0x1000) / 0x400 = n := by omega
    have off : (0x1020 + 0x400 * n - 4 - 0x1000) % 0x400 = 0x1C := by omega
    rw [windowOf, if_pos (by omega), core', off]
  have block : engineBlock 6 = some .cal := rfl
  have may : s.mayWrite who 6 (0x1020 + 0x400 * n) = true := by
    cases who <;> simp_all [State.inControl, State.mayWrite]
  have present : s.registerPresent 6 (0x1020 + 0x400 * n) = true := by
    simp only [State.registerPresent, block, window, State.present]
    simp [core]
    omega
  simp only [State.regWrite, place, may, present, isPaired, block, window, before]
  simp [State.commit, block, State.writeEngine, window]

theorem clearInst_cal {s : State} {n : Nat} {v : W32} (clear : v.getLsbD 0 = true) (core : n < s.part.count .cal) (k : Nat) :
    ((s.clearInst .cal n (UnitInst.cleared .cal v)).inst .cal k).count = if k = n then 0 else (s.inst .cal k).count := by
  rw [State.clearInst, if_pos (by simpa [State.present] using core)]
  by_cases same : k = n
  · subst same
    rw [State.inst_setInst_self, if_pos rfl]
    simp only [UnitInst.cleared, clear, if_true]
    (repeat' split) <;> rfl
  · rw [if_neg same]
    simp [State.inst, State.setInst, State.engine, State.setEngine, same]

/-- A broadcast that clears counts reaches its cores one after another (R3, R135). -/
theorem broadcast_cclr {who : Initiator} {v : W32} (clear : v.getLsbD 0 = true) (l : List Nat) : ∀ s : State,
    s.inControl who = true → (∀ n ∈ l, n < s.part.count .cal) →
    let t := l.foldl (fun t n => t.regWrite who (0xC0061020 + 0x400 * n) v) s
    (∀ k, (t.inst .cal k).count = if k ∈ l then 0 else (s.inst .cal k).count) ∧ OnlyIn [.cal] s t := by
  induction l with
  | nil => simp
  | cons n l ih =>
    intro s control cores
    have core : n < s.part.count .cal := cores n (by simp)
    have frame : OnlyIn [.cal] s (s.clearInst .cal n (UnitInst.cleared .cal v)) := by
      unfold State.clearInst
      split
      · simp [State.setInst, State.setEngine]
      · exact OnlyIn.refl _ s
    rw [List.foldl_cons, regWrite_calCclr v control core]
    obtain ⟨counts, rest⟩ := ih (s.clearInst .cal n (UnitInst.cleared .cal v)) (by rw [frame.inControl_eq, control])
      (fun m hm => by rw [frame.part_eq]; exact cores m (by simp [hm]))
    refine ⟨fun k => ?_, frame.trans rest⟩
    rw [counts k, clearInst_cal clear core k]
    by_cases same : k = n <;> simp [same]

/-- Settles O10: by the branches of a write to one register, and by induction on the instances that a broadcast reaches. -/
theorem registerWritesCommitWaitOrReachTheirInstances : Obligations.RegisterWritesCommitWaitOrReachTheirInstances := by
  refine ⟨fun s who a b off v on aligned low place => ⟨fun barred => ?_, fun may present => ⟨fun plain low' => ?_, fun paired => ?_,
    fun w plain low' paired found => ?_⟩, fun w found => ?_⟩, fun s who v on control clear => ?_⟩
  · rw [exec_registerWrite_dev v on aligned low]
    simp [State.regWrite, place, barred]
  · rw [exec_registerWrite_dev v on aligned low]
    simp only [State.regWrite, place, may, present, plain]
    by_cases four : 4 ≤ off
    · simp [four, low' four]
    · simp [four]
  · refine ⟨s.pairValue who a v, ?_, by simp [State.pairValue]⟩
    rw [exec_registerWrite_dev v on aligned low]
    simp [State.regWrite, place, may, present, paired]
  · intro t
    rw [exec_registerWrite_dev v on aligned low]
    simp only [State.regWrite, place, may, present, plain, low', paired, State.pairInverse, found]
    exact ⟨fun same => by simp [same, t], fun differs => by simp [differs, t]⟩
  · simp [exec, execRwpComplementTimeout, found, place]
  · have reached : broadcastOf 0xE0061020 = some (.cal, 0xC0061020) := by decide
    obtain ⟨counts, frame⟩ := broadcast_cclr clear ((List.range (s.part.count .cal)).filter fun n => s.cal.bgrp.getLsbD n) s control
      (fun n hn => List.mem_range.mp (List.mem_filter.mp hn).1)
    refine ⟨_, ?_, fun n core => ?_, frame⟩
    · simp only [exec, execBroadcastWrite, on, if_true, State.broadcast, reached]
      rfl
    · rw [counts n]
      simp [core]

end Sys2Proof.Machine
end

section
/-! PROOFS. Lemmas and obligations: the host interface and its tenants. -/

namespace Sys2Proof.Machine

set_option Elab.async false

/-! ## The completion of a host command in its ring (file 03) -/

/-- What a signalled completion leaves: the queue pair's counters of completions, ports' pending bits and signals aside, the host side
as it was (R120). -/
structure Signalled (s t : State) (ten q : Nat) : Prop where
  outbox : t.host.outbox = s.host.outbox
  tenants : t.host.tenants = s.host.tenants
  cqTail : (t.qp ten q).cqTail = (s.qp ten q).cqTail
  phase : (t.qp ten q).phase = (s.qp ten q).phase
  fault : (t.qp ten q).fault = (s.qp ten q).fault
  frame : OnlyIn [.host] s t

theorem Signalled.refl (s : State) (t q : Nat) : Signalled s s t q := ⟨rfl, rfl, rfl, rfl, rfl, OnlyIn.refl _ s⟩

theorem Signalled.trans {s u v : State} {t q : Nat} (h : Signalled s u t q) (g : Signalled u v t q) : Signalled s v t q :=
  ⟨g.outbox.trans h.outbox, g.tenants.trans h.tenants, g.cqTail.trans h.cqTail, g.phase.trans h.phase, g.fault.trans h.fault,
    h.frame.trans g.frame⟩

theorem Signalled.setPort (s : State) (b : Bool) (p : Port) (t q : Nat) : Signalled s (s.setPort b p) t q := by
  have frame : OnlyIn [.host] s (s.setPort b p) := (OnlyIn.refl _ s).setPort b p (List.Subset.refl _)
  cases b <;> exact ⟨rfl, rfl, rfl, rfl, rfl, frame⟩

theorem Signalled.signal (s : State) (b : Bool) (n v t q : Nat) : Signalled s (s.signal b n v) t q := by
  unfold State.signal
  dsimp only
  split
  · exact Signalled.refl s t q
  split
  · exact Signalled.setPort ..
  · exact ⟨rfl, rfl, rfl, rfl, rfl, by simp⟩

theorem Signalled.setQp {s : State} {t q : Nat} {x : QPair} (cqTail : x.cqTail = (s.qp t q).cqTail) (phase : x.phase = (s.qp t q).phase)
    (fault : x.fault = (s.qp t q).fault) : Signalled s (s.setQp t q x) t q :=
  ⟨rfl, rfl, by rw [State.qp_setQp_self, cqTail], by rw [State.qp_setQp_self, phase], by rw [State.qp_setQp_self, fault],
    by simp [State.setQp]⟩

theorem Signalled.countSignal (s : State) (t q : Nat) (noirq : Bool) : Signalled s (s.countSignal t q noirq) t q := by
  unfold State.countSignal
  extract_lets x u
  split
  · exact Signalled.trans (u := s.setQp t q { x with unsignalled := 0, itimeRun := false }) (Signalled.setQp rfl rfl rfl)
      (Signalled.signal ..)
  · exact Signalled.setQp rfl rfl rfl

theorem Signalled.settleQp (s : State) (t q : Nat) : Signalled s (s.settleQp t q) t q := by
  unfold State.settleQp
  dsimp only
  split
  · exact Signalled.setQp rfl rfl rfl
  · exact Signalled.refl s t q

/-- The record of a completion as it stands in the ring of a queue pair (R99). -/
def State.record (s : State) (r : Req) (t q status detail reason info outLen : Nat) (out : Bytes) : Completion :=
  let adm := s.host.admitted.find? fun a => decide (a.req = r)
  { src := r.src, cid := r.desc.cid, status := status
    sqHead := match adm with
      | some a => a.sqHead
      | none => (s.qp t q).sqHead
    detail := detail, reason := reason, outLen := outLen, info := info, time := if adm.isSome then s.freeNat 32 else 0
    phase := (s.qp t q).phase, admitted := adm.isSome, out := out }

/-- A command is admitted no longer, and a free value is used for the time in its record (R99, R107). -/
def State.retire (s : State) (r : Req) : State :=
  { s with fresh := s.fresh + 1, host := { s.host with admitted := dropAdmitted r s.host.admitted } }

/-- The completion of a host command: its record goes to its queue pair, which may then come to rest (R99, R120). -/
def State.report (s : State) (r : Req) (t q : Nat) (c : Completion) : State :=
  ((s.retire r).writeCompletion t q (r.desc.flags.getLsbD 3) r.cqOk { c with phase := false }).settleQp t q

theorem State.complete_host {s : State} {r : Req} {t q i : Nat} (src : r.src = .host t q i) (status detail reason info outLen : Nat)
    (out : Bytes) : s.complete r status detail reason info outLen out =
      let u := s.report r t q (s.record r t q status detail reason info outLen out)
      if status = 0x0101 then u.countRetry r.tenant detail else u := by
  unfold State.complete State.report State.record
  simp only [src]
  cases s.host.admitted.find? fun a => decide (a.req = r) <;> rfl

/-- What a record that reaches its ring changes (R99). -/
structure Reported (s t : State) (r : Req) (ten q : Nat) (c : Completion) : Prop where
  outbox : t.host.outbox = c :: s.host.outbox
  admitted : t.host.admitted = dropAdmitted r s.host.admitted
  tenants : t.host.tenants = s.host.tenants
  cqTail : (t.qp ten q).cqTail = ((s.qp ten q).cqTail + 1) % (2 * s.depth ten q)
  phase : (t.qp ten q).phase = if ((s.qp ten q).cqTail + 1) % (2 * s.depth ten q) = 0 then !(s.qp ten q).phase else (s.qp ten q).phase
  frame : OnlyIn [.host, .fresh] s t

theorem State.reported {s : State} {r : Req} {t q : Nat} {c : Completion} (enabled : (s.qp t q).enabled = true)
    (tunnel : (s.port (s.qp t q).portB).tunnel = true) (ok : r.cqOk = true) (phase : c.phase = (s.qp t q).phase) :
    Reported s (s.report r t q c) r t q c := by
  have same : (s.retire r).qp t q = s.qp t q := rfl
  have port : (s.retire r).port (s.qp t q).portB = s.port (s.qp t q).portB := rfl
  have size : (s.retire r).depth t q = s.depth t q := rfl
  obtain ⟨y, hy⟩ : ∃ y, y = (let next := ((s.qp t q).cqTail + 1) % (2 * s.depth t q)
      { s.qp t q with cqTail := next, phase := if next = 0 then !(s.qp t q).phase else (s.qp t q).phase,
                      reserved := (s.qp t q).reserved - 1 }) := ⟨_, rfl⟩
  obtain ⟨u, hu⟩ : ∃ u, u = (let v := (s.retire r).setQp t q y
      { v with host := { v.host with outbox := c :: v.host.outbox } }) := ⟨_, rfl⟩
  have written : s.report r t q c = (u.countSignal t q (r.desc.flags.getLsbD 3)).settleQp t q := by
    rw [hu, hy, State.report, State.writeCompletion]
    simp only [same, port, size, enabled, tunnel, ok, ← phase]
    simp
  have signalled := (Signalled.countSignal u t q (r.desc.flags.getLsbD 3)).trans (Signalled.settleQp _ t q)
  have work := (SameWork.countSignal u t q (r.desc.flags.getLsbD 3)).trans (SameWork.settleQp _ t q)
  rw [← written] at signalled work
  have pair : u.qp t q = y := by rw [hu]; exact State.qp_setQp_self _ _ _ _
  refine ⟨?_, ?_, ?_, ?_, ?_, ?_⟩
  · rw [signalled.outbox, hu]
    rfl
  · rw [work.admitted, hu]
    rfl
  · rw [signalled.tenants, hu]
    rfl
  · rw [signalled.cqTail, pair, hy]
  · rw [signalled.phase, pair, hy]
  · have first : OnlyIn [.host, .fresh] s u := by
      rw [hu]
      simp [State.retire, State.setQp]
    exact first.step signalled.frame (by simp)

/-- A fault of a queue pair is held in it, and leaves its ring and what was written to it alone (R118). -/
theorem State.faultQp_sets {s : State} {t q : Nat} (clean : (s.qp t q).fault = 0) (code : Nat) :
    (s.faultQp t q code).host.outbox = s.host.outbox ∧ ((s.faultQp t q code).qp t q).fault = code
      ∧ ((s.faultQp t q code).qp t q).cqTail = (s.qp t q).cqTail := by
  have clean' : ¬ (s.qp t q).fault ≠ 0 := by simp [clean]
  unfold State.faultQp
  simp only [clean', if_false]
  have noted (u : State) : (u.offer 0x0201 t q code).host = u.host := (offer_frame ..).host_eq
  have read (u : State) : (u.offer 0x0201 t q code).qp t q = u.qp t q := by rw [State.qp, noted]; rfl
  have held (x : QPair) (y : Tenant) : ((s.setQp t q x).setTenant t y).qp t q = x := State.qp_setQp_self s t q x
  rw [noted, read]
  split
  · obtain ⟨outbox, -, cqTail, -, fault, -⟩ := Signalled.signal ((s.setQp t q { s.qp t q with fault := code }).setTenant t
      { s.tenant t with faultQp := (s.tenant t).faultQp ||| 1#16 <<< q }) (s.qp t q).portB t (s.queueRec t q).vector t q
    rw [held] at cqTail fault
    exact ⟨outbox, fault, cqTail⟩
  · rw [held]
    exact ⟨rfl, rfl, rfl⟩

/-- A record that cannot be written faults its queue pair (R118). -/
theorem State.report_unwritable {s : State} {r : Req} {t q i : Nat} {c : Completion} (enabled : (s.qp t q).enabled = true)
    (tunnel : (s.port (s.qp t q).portB).tunnel = true) (bad : r.cqOk = false) (clean : (s.qp t q).fault = 0)
    (src : c.src = .host t q i) : (s.report r t q c).host.outbox = s.host.outbox ∧ ((s.report r t q c).qp t q).fault = 3
      ∧ ((s.report r t q c).qp t q).cqTail = (s.qp t q).cqTail := by
  have same : (s.retire r).qp t q = s.qp t q := rfl
  have port : (s.retire r).port (s.qp t q).portB = s.port (s.qp t q).portB := rfl
  obtain ⟨u, hu⟩ : ∃ u, u = ((s.retire r).countDmaErr (.host t q i)).discardCompletion := ⟨_, rfl⟩
  have counted : u.host.outbox = s.host.outbox ∧ (u.qp t q).fault = (s.qp t q).fault ∧ (u.qp t q).cqTail = (s.qp t q).cqTail := by
    obtain ⟨outbox, -, cqTail, -, fault, -⟩ := Signalled.setPort (s.retire r) (s.qp t q).portB
      { s.port (s.qp t q).portB with dmaErr := satAdd 16 (s.port (s.qp t q).portB).dmaErr 1 } t q
    rw [hu]
    exact ⟨outbox, fault, cqTail⟩
  have written : s.report r t q c = (u.faultQp t q 3).settleQp t q := by
    rw [hu, State.report, State.writeCompletion]
    simp [same, port, enabled, tunnel, bad, src]
  obtain ⟨outbox, fault, cqTail⟩ := State.faultQp_sets (counted.2.1.trans clean) 3
  have settled := Signalled.settleQp (u.faultQp t q 3) t q
  rw [written]
  exact ⟨settled.outbox.trans (outbox.trans counted.1), settled.fault.trans fault,
    settled.cqTail.trans (cqTail.trans counted.2.2)⟩

theorem State.answer_ok {s : State} {r : Req} {out : Bytes} (fits : out.length ≤ r.desc.outLen) (room : out = [] ∨ r.outOk = true)
    (info : Nat) : s.answer r info out = s.complete r 0 0 0 info out.length out := by
  have short : ¬ r.desc.outLen < out.length := by omega
  have writes : ¬ (out ≠ [] ∧ r.outOk = false) := by rcases room with h | h <;> simp [h]
  rw [State.answer, if_neg short, if_neg writes]

theorem State.serving_mode {s : State} (serving : s.serving = true) : s.sys.mode ≠ .locked ∧ s.sys.mode ≠ .drain := by
  constructor <;> intro mode <;> simp [State.serving, mode, Mode.serves] at serving

/-- The command of a tenant other than 0 in a class of its own administrator is refused at admission (R97). -/
theorem State.turnDown_class {s : State} {r : Req} (cls : 5 ≤ r.desc.cls) (cls' : r.desc.cls ≤ 8) (foreign : r.tenant ≠ 0) :
    s.admissionRej r = some ⟨0x0801, 0, 0x28⟩
      ∧ s.turnDown r ⟨0x0801, 0, 0x28⟩ = (s.consume r).refuse r 0x0801 0 0x28 := by
  refine ⟨if_pos ⟨by omega, cls', cls, foreign⟩, ?_⟩
  simp [State.turnDown, State.refuseUntaken, State.reject, State.refuse]

/-- Settles O11: a completion is `State.report`, and `State.hostCommand` is read branch by branch. -/
theorem commandsAreTurnedAwayOrCompleteInTheirRing : Obligations.CommandsAreTurnedAwayOrCompleteInTheirRing := by
  refine ⟨fun s r t q i info out src admitted enabled tunnel fits room => ?ring, fun s r op body opcode on => ?command⟩
  case ring =>
    intro u
    have completed : u = s.report r t q (s.record r t q 0 0 0 info out.length out) := by
      simp only [u, State.answer_ok fits room, State.complete_host src]
      simp
    refine ⟨?_, fun ok => ?_, fun bad clean => ?_⟩
    · simp only [u, State.answer_ok fits room, State.complete_admitted]
    · obtain ⟨outbox, -, -, cqTail, phase, frame⟩ := State.reported (c := s.record r t q 0 0 0 info out.length out) enabled tunnel ok rfl
      rw [completed]
      refine ⟨⟨_, outbox, rfl, rfl, rfl, rfl, rfl, rfl, ?_, rfl⟩, cqTail, phase, frame⟩
      simpa [State.record, State.isAdmitted] using admitted
    · rw [completed]
      exact State.report_unwritable enabled tunnel bad clean src
  case command =>
    have here : ¬ (r.desc.opcode ≠ op ∨ s.onMain = false) := by simp [opcode, on]
    refine ⟨fun admitted away => ?_, fun turn => ?_, fun waits => ⟨fun shut => ?_, fun control opened => ⟨fun locked refused => ?_, fun drain => ?_,
      fun modes active => ?_⟩⟩⟩
    · simp [State.hostCommand, here, admitted, away]
    · obtain ⟨-, -, admitted, here', turn, allowed, readable, input⟩ := turn
      have input' : ¬ (r.desc.inLen ≠ 0 ∧ r.inOk = false) := by rcases input with h | h <;> simp [h]
      simp [State.hostCommand, here, admitted, here', State.runBody, turn, allowed, readable, input']
    · simp only [State.hostCommand, here, waits, shut]
      simp
    · simp [State.hostCommand, here, waits, control, opened, locked, refused]
    · simp [State.hostCommand, here, waits, control, opened, drain]
    · have passed : ¬ (s.sys.mode = .locked ∧ servedLocked r = false) ∧ s.sys.mode ≠ .drain
          ∧ ¬ ((s.serving = false ∧ s.sys.mode ≠ .locked) ∨ (s.tenant r.tenant).state ≠ .active) := by
        rcases modes with serving | ⟨locked, served⟩
        · simp [State.serving_mode serving, serving, active]
        · simp [locked, served, active]
      have taken : s.hostCommand r op body = if s.isWaiting r = false ∧ s.windowFull r then
            ((s.arrive r).consume r).refuse r 0x0101 (s.hint r) 0x20
          else if (s.arrive r).hasTurn r then (s.arrive r).admitTurn r body
          else s.arrive r := by
        simp only [State.hostCommand, here, waits, control, opened, passed, if_false]
        simp
      refine ⟨fun new full => by simp [taken, new, full], fun joins => ?_⟩
      have joins' : ¬ (s.isWaiting r = false ∧ s.windowFull r = true) := by rcases joins with h | h <;> simp [h]
      intro u
      refine ⟨fun later => ?_, fun k turn next => ⟨fun cls cls' foreign => ?_, fun passes => ?_⟩⟩
      · rw [taken, if_neg joins', if_neg (by simpa [u] using later)]
      · obtain ⟨refused, down⟩ := State.turnDown_class (s := u) cls cls' foreign
        rw [taken, if_neg joins', if_pos turn]
        simp only [State.admitTurn, u, next, refused, down]
      · rw [taken, if_neg joins', if_pos turn]
        simp only [State.admitTurn, u, next, passes]

/-! ## Entries of a submission ring (file 03) -/

/-- A BUSY_RETRY is counted in its tenant, with its hint (R111). -/
theorem State.countRetry_sets (s : State) (t hint : Nat) : (s.countRetry t hint).host.outbox = s.host.outbox
    ∧ ((s.countRetry t hint).tenant t).hint = hint ∧ ((s.countRetry t hint).tenant t).retry = satAdd 32 (s.tenant t).retry 1
    ∧ ((s.countRetry t hint).tenant t).overloaded = true := by
  have noted (u : State) : (u.offer 0x0303 t 1 0).host = u.host := (offer_frame ..).host_eq
  have read (u : State) : (u.offer 0x0303 t 1 0).tenant t = u.tenant t := by rw [State.tenant, noted]; rfl
  unfold State.countRetry
  dsimp only
  split
  · rw [State.tenant_setTenant_self]
    exact ⟨rfl, rfl, rfl, rfl⟩
  · rw [noted, read, State.tenant_setTenant_self]
    exact ⟨rfl, rfl, rfl, rfl⟩

/-- An entry that is answered without being taken has left its ring, and nothing else has changed (R104). -/
theorem State.consumeNew (s : State) {r : Req} {t q i : Nat} (src : r.src = .host t q i) (ring : List RingSlot) :
    ∃ y : QPair, ((s.setQp t q { s.qp t q with ring := ring }).consume r) = (s.setQp t q { s.qp t q with ring := ring }).setQp t q y
      ∧ y.enabled = (s.qp t q).enabled ∧ y.portB = (s.qp t q).portB := by
  refine ⟨_, by simp only [State.consume, src]; rfl, ?_, ?_⟩ <;> simp [QPair.settle]

/-- An entry that is refused at its arrival leaves one record in its ring (R99, R104). -/
theorem State.refuse_new {s : State} {r : Req} {t q i : Nat} (src : r.src = .host t q i) (ring : List RingSlot)
    (enabled : (s.qp t q).enabled = true) (tunnel : (s.port (s.qp t q).portB).tunnel = true) (ok : r.cqOk = true)
    (status detail reason : Nat) :
    ∃ (u : State) (c : Completion), u.host.outbox = c :: s.host.outbox ∧ u.host.tenants = s.host.tenants ∧ c.cid = r.desc.cid
      ∧ c.status = status ∧ c.reason = reason
      ∧ ((s.setQp t q { s.qp t q with ring := ring }).consume r).refuse r status detail reason
        = if status = 0x0101 then u.countRetry r.tenant detail else u := by
  obtain ⟨y, consumed, enabled', port⟩ := s.consumeNew src ring
  obtain ⟨v, hv⟩ : ∃ v, v = (s.setQp t q { s.qp t q with ring := ring }).setQp t q y := ⟨_, rfl⟩
  have pair : v.qp t q = y := by rw [hv, State.qp_setQp_self]
  have ports : ∀ b, v.port b = s.port b := by rw [hv]; exact fun _ => rfl
  have open' : (v.port (v.qp t q).portB).tunnel = true := by rw [ports, pair, port, tunnel]
  obtain ⟨outbox, -, tenants, -, -, -⟩ :=
    State.reported (r := r) (c := v.record r t q status detail reason 0 0 []) (by rw [pair, enabled', enabled]) open' ok rfl
  refine ⟨v.report r t q (v.record r t q status detail reason 0 0 []), _, outbox.trans (by rw [hv]; rfl), tenants.trans (by rw [hv]; rfl),
    rfl, rfl, rfl, ?_⟩
  rw [consumed, ← hv]
  exact State.complete_host src status detail reason 0 0 []

/-- Settles O12: an entry joins its ring, or is answered at once with one record. -/
theorem ringEntriesWaitOrAreTurnedAway : Obligations.RingEntriesWaitOrAreTurnedAway := by
  refine ⟨fun s t q e => ?entry, fun s t late => ?overload⟩
  case entry =>
    intro x size r turnedAway en clean control free room short
    have taken (entry : Option Req) (modes : s.serving = true ∨ s.sys.mode = .locked ∨ s.sys.mode = .drain) :
        exec (.sqEntryConsume t q entry) s = .next (s.takeEntry t q entry) := by
      refine if_neg ?_
      rw [not_or, not_or, not_or, not_or, not_or, not_or]
      refine ⟨by simpa using en, by simpa using clean, by simpa using control, by simpa using free, ?_, room, Nat.not_le.mpr short⟩
      rintro ⟨idle, unlocked, undrained⟩
      simp_all
    have refused (status detail reason : Nat) (ok : e.cqOk = true) (enabled : x.enabled = true) (tunnel : (s.port x.portB).tunnel = true) :=
      State.refuse_new (s := s) (r := r) rfl (x.ring ++ [.waiting r s.supv.cycle]) enabled tunnel ok status detail reason
    refine ⟨fun modes => taken none modes, fun modes active window => ?_, fun enabled tunnel ok =>
      ⟨fun serving active full => ?_, fun locked unserved => ?_, fun drain => ?_⟩⟩
    · have served : ¬ (s.sys.mode = .locked ∧ servedLocked r = false) ∧ s.sys.mode ≠ .drain := by
        rcases modes with serving | ⟨locked, served⟩
        · simp [State.serving_mode serving]
        · simp [locked, served]
      rw [taken (some e) (by tauto)]
      have window' : ¬ s.depth t q ≤ (s.qp t q).waiting := by simp only [x] at window; omega
      simp only [State.takeEntry]
      rw [if_neg served.1, if_neg served.2, if_neg (by simp [active]), if_neg window']
    · obtain ⟨unlocked, undrained⟩ := State.serving_mode serving
      obtain ⟨u, c, outbox, tenants, cid, status, reason, ends⟩ := refused 0x0101 (s.hint r) 0x20 ok enabled tunnel
      obtain ⟨outbox', hint, retry, busy⟩ := u.countRetry_sets t (s.hint r)
      have same : u.tenant t = s.tenant t := by rw [State.tenant, tenants]; rfl
      refine ⟨u.countRetry t (s.hint r), ?_, ⟨c, outbox'.trans outbox, cid, status, reason⟩, hint, by rw [retry, same], busy⟩
      rw [taken (some e) (Or.inl serving)]
      simp only [State.takeEntry]
      rw [if_neg (fun h => unlocked h.1), if_neg undrained, if_neg (by simp [active]), if_pos full]
      exact congrArg _ ends
    · obtain ⟨u, c, outbox, tenants, cid, status, reason, ends⟩ := refused 0x0701 0 0 ok enabled tunnel
      refine ⟨u, ?_, c, outbox, cid, status, reason⟩
      rw [taken (some e) (Or.inr (Or.inl locked))]
      simp only [State.takeEntry]
      rw [if_pos ⟨locked, unserved⟩]
      exact congrArg _ ends
    · obtain ⟨u, c, outbox, tenants, cid, status, reason, ends⟩ := refused 0x0501 0 0 ok enabled tunnel
      refine ⟨u, ?_, c, outbox, cid, status, reason⟩
      rw [taken (some e) (Or.inr (Or.inr drain))]
      simp only [State.takeEntry]
      rw [if_neg (by simp [drain]), if_pos drain]
      exact congrArg _ ends
  case overload =>
    exact ⟨fun none => by simp [exec, execOverloadRecord, late, none], fun some => by simp [exec, execOverloadRecord, late, some]⟩

/-! ## The supervisor cycle (file 03) -/

@[simp] theorem State.consume_tenant (s : State) (r : Req) (t : Nat) : (s.consume r).tenant t = s.tenant t := by
  unfold State.consume
  split <;> rfl

@[simp] theorem State.consume_admitted (s : State) (r : Req) : (s.consume r).host.admitted = s.host.admitted := by
  unfold State.consume
  split <;> rfl

@[simp] theorem State.consume_inCycle (s : State) (r : Req) : (s.consume r).host.inCycle = s.host.inCycle := by
  unfold State.consume
  split <;> rfl

/-- The supervisor that takes control is the active one, for its cause (R360). -/
theorem State.takeControl_supv (s : State) (b : Bool) (cause check : Nat) :
    (s.takeControl b cause check).supv.noSup = false ∧ (s.takeControl b cause check).supv.active = b
      ∧ (s.takeControl b cause check).supv.lastCause = cause := by
  have kept (t : State) (b : Bool) (c p0 p1 p2 : Nat) : (((t.dropPrivileged b).abortLoading).offer c p0 p1 p2).supv = t.supv := by
    have frame : OnlyIn [.host, .twl, .dmk, .cal, .srg, .tul, .hsh, .ent, .zyn, .mem, .rcd, .blk, .fresh] t
        (((t.dropPrivileged b).abortLoading).offer c p0 p1 p2) :=
      (((OnlyIn.refl _ t).dropPrivileged b (by simp)).abortLoading (by simp)).offer c p0 p1 p2 (by simp)
    exact frame.supv_eq
  unfold State.takeControl
  simp only [kept]
  exact ⟨trivial, trivial, trivial⟩

/-- A tenant that is in debt, or a cycle that has admitted all it may, admits nothing (R106). -/
theorem admitTenant_shut {s : State} {x : Nat} (shut : (s.tenant x).bal ≤ 0 ∨ 1024 ≤ s.host.inCycle) (fuel : Nat) (b : Budget) :
    admitTenant fuel x (s, b) = (s, b) := by
  cases fuel with
  | zero => rfl
  | succ fuel =>
    rw [admitTenant, if_pos]
    simpa [State.cycleOpen] using shut

/-- Settles O13: by the branches of a cycle, of who takes control in it, and of what a credit and an admission write. -/
theorem supervisorCycleAdmitsAgainstCredits : Obligations.SupervisorCycleAdmitsAgainstCredits := by
  intro s c t u
  have cycle (control : t.supv.noSup = false) (on : s.onMain = true) : exec .supervisorCycle s = .next (
      if u.serving ∨ u.sys.mode = .locked then u.cycleAdmissions else if u.sys.mode = .drain then u.creditAll else u) := by
    simp only [exec, execSupervisorCycle, on]
    rw [if_neg (by simp), if_neg (by simp [show s.tickControl.supv.noSup = false from control])]
  refine ⟨fun on => ⟨fun none => ?_, fun control => ⟨fun modes => ?_, fun drain => ?_, fun modes => ?_⟩⟩, fun control stays => ?_,
    fun none => ⟨fun a b => ?_, fun a => ?_, fun a b => ?_⟩, fun w x => ?_, fun r => ?_, fun fuel x b shut => admitTenant_shut shut fuel b⟩
  · simp only [exec, execSupervisorCycle, on, t] at none ⊢
    simp [none]
  · rw [cycle control on, if_pos modes]
  · have idle : ¬ (u.serving = true ∨ u.sys.mode = .locked) := by simp [State.serving, drain, Mode.serves]
    rw [cycle control on, if_neg idle, if_pos drain]
  · have idle : ¬ (u.serving = true ∨ u.sys.mode = .locked) ∧ u.sys.mode ≠ .drain := by
      rcases modes with m | m <;> simp [State.serving, m, Mode.serves]
    rw [cycle control on, if_neg idle.1, if_neg idle.2]
  · have stays' : c.supv.mayReclaim = false := stays
    simp only [t, State.tickControl]
    rw [if_neg (by simp [control]), if_neg (by rw [stays']; simp)]
  · simp [t, c, State.tickControl, none, a, b]
  · have taken : t = c.takeControl false 4 0 := by simp [t, c, State.tickControl, none, a]
    rw [taken]
    exact c.takeControl_supv false 4 0
  · have taken : t = c.takeControl true 4 0 := by simp [t, c, State.tickControl, none, a, b]
    rw [taken]
    exact c.takeControl_supv true 4 0
  · intro v
    refine ⟨fun waits => ?_, fun idle => ?_, credit_frame s w x⟩
    · simp only [v, State.credit, waits, if_true]
      exact congrArg Tenant.bal (State.tenant_setTenant_self s x _)
    · simp only [v, State.credit, idle]
      exact congrArg Tenant.bal (State.tenant_setTenant_self s x _)
  · intro u
    refine ⟨?_, ?_, ?_, ?_, (OnlyIn.refl _ s).admitCmd r (List.Subset.refl _)⟩
    · simp [u, State.admitCmd, State.admitFor, State.isAdmitted]
    · have bal : (u.tenant r.tenant).bal = ((s.consume r).tenant r.tenant).bal - s.nominal r.desc :=
        congrArg Tenant.bal (State.tenant_setTenant_self (s.consume r) r.tenant _)
      rw [bal, State.consume_tenant]
    · have count : (u.tenant r.tenant).admitted = wrapAdd 32 ((s.consume r).tenant r.tenant).admitted 1 :=
        congrArg Tenant.admitted (State.tenant_setTenant_self (s.consume r) r.tenant _)
      rw [count, State.consume_tenant]
    · exact congrArg (· + 1) (s.consume_inCycle r)

/-! ## The walk of a cycle (file 03) -/

theorem dropAdmitted_length (r : Req) (l : List Admitted) : (dropAdmitted r l).length ≤ l.length := by
  induction l with
  | nil => exact Nat.le_refl _
  | cons a l ih =>
    rw [dropAdmitted]
    split
    · exact Nat.le_succ _
    · exact Nat.succ_le_succ ih

/-- A command turned down before it is taken is not admitted, and the cycle has admitted no more (R106). -/
theorem State.turnDown_work (s : State) (r : Req) (x : Rej) :
    (s.turnDown r x).host.admitted.length ≤ s.host.admitted.length ∧ (s.turnDown r x).host.inCycle = s.host.inCycle := by
  have refused (t : State) (admitted : t.host.admitted = s.host.admitted) (cycle : t.host.inCycle = s.host.inCycle) :
      (t.reject r x).host.admitted.length ≤ s.host.admitted.length ∧ (t.reject r x).host.inCycle = s.host.inCycle := by
    rw [← admitted, ← cycle]
    refine ⟨?_, ?_⟩
    · rw [State.reject, State.refuse, State.complete_admitted]
      exact dropAdmitted_length r _
    · rw [State.reject, State.refuse, State.complete_work]
  have recorded : ((s.consume r).blockRecord).host = (s.consume r).host :=
    ((OnlyIn.refl _ (s.consume r)).blockRecord (List.Subset.refl _)).host_eq
  unfold State.turnDown State.refuseUntaken
  split
  · exact refused _ (by rw [recorded, State.consume_admitted]) (by rw [recorded, State.consume_inCycle])
  · exact refused _ (s.consume_admitted r) (s.consume_inCycle r)

/-- A walk that began with `n` commands admitted is within what a cycle may admit (R106), from as many rings and lanes as a delta
names (R357). -/
structure WithinDelta (n : Nat) (p : State × Budget) : Prop where
  admitted : p.1.host.admitted.length ≤ n + p.1.host.inCycle
  cycle : p.1.host.inCycle ≤ 1024
  entries : p.2.entries.length ≤ 60
  distinct : p.2.entries.Nodup

theorem WithinDelta.turnDown {n : Nat} {s : State} {b : Budget} (h : WithinDelta n (s, b)) (r : Req) (x : Rej) (t k : Nat) :
    WithinDelta n ((s.turnDown r x).passTurn t k, b) := by
  obtain ⟨fewer, same⟩ := s.turnDown_work r x
  refine ⟨?_, ?_, h.entries, h.distinct⟩
  · exact fewer.trans (h.admitted.trans_eq (congrArg (n + ·) same.symm))
  · exact same.trans_le h.cycle

/-- An entry of a delta stands in it once, and a delta that is full takes no other (R357). -/
theorem Budget.take_entries {b : Budget} {t k : Nat} (fits : b.fits t k = true) (cost : Nat) (few : b.entries.length ≤ 60)
    (distinct : b.entries.Nodup) : (b.take t k cost).entries.length ≤ 60 ∧ (b.take t k cost).entries.Nodup := by
  unfold Budget.take
  dsimp only
  split
  · exact ⟨few, distinct⟩
  rename_i new
  have absent : (t, k) ∉ b.entries := fun old => new (List.contains_iff_mem.mpr old)
  have room : b.entries.length < 60 := by simpa [Budget.fits, absent] using fits
  refine ⟨by rwa [List.length_append, List.length_singleton, Nat.succ_le_iff], ?_⟩
  rw [List.nodup_append_comm, List.singleton_append, List.nodup_cons]
  exact ⟨absent, distinct⟩

theorem WithinDelta.takeUp {n : Nat} {s : State} {b : Budget} (h : WithinDelta n (s, b)) (room : s.host.inCycle < 1024) (r : Req)
    {t k : Nat} (fits : b.fits t k = true) (cost : Nat) : WithinDelta n ((s.admitCmd r).passTurn t k, b.take t k cost) := by
  have cycle : ((s.admitCmd r).passTurn t k).host.inCycle = s.host.inCycle + 1 := congrArg (· + 1) (s.consume_inCycle r)
  have admitted : ((s.admitCmd r).passTurn t k).host.admitted.length = s.host.admitted.length + 1 := by
    refine (List.length_append ..).trans (congrArg (· + 1) ?_)
    exact congrArg List.length (s.consume_admitted r)
  obtain ⟨entries, distinct⟩ := b.take_entries fits cost h.entries h.distinct
  refine ⟨?_, cycle.trans_le room, entries, distinct⟩
  have before : s.host.admitted.length ≤ n + s.host.inCycle := h.admitted
  show ((s.admitCmd r).passTurn t k).host.admitted.length ≤ n + ((s.admitCmd r).passTurn t k).host.inCycle
  omega

theorem WithinDelta.admitTenant {n : Nat} (fuel t : Nat) : ∀ {p : State × Budget}, WithinDelta n p →
    WithinDelta n (Machine.admitTenant fuel t p) := by
  induction fuel with
  | zero => exact fun h => h
  | succ fuel ih =>
    rintro ⟨s, b⟩ h
    unfold Machine.admitTenant
    split
    · exact h
    rename_i goesOn
    have room : s.host.inCycle < 1024 := by
      by_contra full
      exact goesOn (.inr (by simpa [State.cycleOpen] using full))
    split
    · exact h
    split
    · exact h
    rename_i fits
    split
    · exact ih (h.turnDown ..)
    · exact ih (h.takeUp room _ (by simpa using fits) _)

/-- Settles O14: each tenant's turn keeps a walk within one delta. -/
theorem walkStaysWithinOneDelta : Obligations.WalkStaysWithinOneDelta := by
  intro s
  have walked (order : List Nat) : ∀ {p : State × Budget}, WithinDelta s.host.admitted.length p →
      WithinDelta s.host.admitted.length (order.foldl (fun p k => admitTenant 66560 k p) p) := by
    induction order with
    | nil => exact fun h => h
    | cons k order ih => exact fun h => ih (h.admitTenant 66560 k)
  have done : WithinDelta s.host.admitted.length s.walkTenants :=
    walked s.walkOrder ⟨Nat.le_refl _, Nat.zero_le _, Nat.zero_le _, List.nodup_nil⟩
  have cycle := done.cycle
  exact ⟨done.admitted.trans (Nat.add_le_add_left cycle _), done.entries, done.distinct⟩

/-! ## A command whose turn has come -/

/-- A command of its instruction that is admitted, readable and waits for nothing is carried out (R107). -/
theorem Turn.runs {s : State} {r : Req} {op : Nat} (turn : Turn s r op) (body : State → State) : s.hostCommand r op body = body s := by
  obtain ⟨opcode, on, admitted, here, held, allowed, readable, input⟩ := turn
  have input' : ¬ (r.desc.inLen ≠ 0 ∧ r.inOk = false) := by rcases input with h | h <;> simp [h]
  simp [State.hostCommand, State.runBody, opcode, on, admitted, here, held, allowed, readable, input']

/-! ## The lives of tenants (file 03) -/

/-- Of the tenants, only what completions and faults count of them changes. -/
structure SameTenants (s t : State) : Prop where
  tenant (k : Nat) : t.tenant k = { s.tenant k with
    faultQp := (t.tenant k).faultQp, retry := (t.tenant k).retry, hint := (t.tenant k).hint
    overloaded := (t.tenant k).overloaded, retriesInSecond := (t.tenant k).retriesInSecond }

theorem SameTenants.refl (s : State) : SameTenants s s := ⟨fun _ => rfl⟩

theorem SameTenants.trans {s t u : State} (h : SameTenants s t) (g : SameTenants t u) : SameTenants s u := by
  refine ⟨fun k => ?_⟩
  rw [g.tenant k, h.tenant k]

theorem SameTenants.of_tenants {s t : State} (h : t.host.tenants = s.host.tenants) : SameTenants s t := by
  refine ⟨fun k => ?_⟩
  rw [State.tenant, h]
  rfl

theorem SameTenants.of_frame {l : List Area} {s t : State} (h : OnlyIn l s t) (out : .host ∉ l := by simp) : SameTenants s t :=
  .of_tenants (congrArg HostSide.tenants (h.host_eq out))

theorem SameTenants.foldl {α : Type} {f : State → α → State} (hf : ∀ u x, SameTenants u (f u x)) (l : List α) :
    ∀ s : State, SameTenants s (l.foldl f s) := by
  induction l with
  | nil => exact SameTenants.refl
  | cons x l ih => exact fun s => (hf s x).trans (ih (f s x))

theorem SameTenants.setTenant (s : State) (t : Nat) (x : Tenant)
    (same : x = { s.tenant t with faultQp := x.faultQp, retry := x.retry, hint := x.hint, overloaded := x.overloaded,
                                  retriesInSecond := x.retriesInSecond }) : SameTenants s (s.setTenant t x) := by
  refine ⟨fun k => ?_⟩
  by_cases here : k = t
  · rw [here, State.tenant_setTenant_self]
    exact same
  · rw [State.tenant_setTenant_other _ here]

theorem SameTenants.countDmaErr (s : State) (r : Src) : SameTenants s (s.countDmaErr r) := by
  unfold State.countDmaErr
  split
  · exact .of_tenants (Signalled.setPort s _ _ 0 0).tenants
  · exact SameTenants.refl s

theorem SameTenants.faultQp (s : State) (t q code : Nat) : SameTenants s (s.faultQp t q code) := by
  unfold State.faultQp
  extract_lets x y s1 s2
  split
  · exact SameTenants.refl s
  have marked : SameTenants s s1 := by
    refine SameTenants.trans (t := s.setQp t q { x with fault := code }) (.of_tenants rfl) (.setTenant _ t _ ?_)
    rfl
  have signalled : SameTenants s1 s2 := by
    simp only [s2]
    split
    · exact .of_tenants (Signalled.signal s1 _ _ _ 0 0).tenants
    · exact SameTenants.refl s1
  exact (marked.trans signalled).trans (.of_frame (offer_frame s2 _ _ _ _))

theorem SameTenants.writeCompletion (s : State) (t q : Nat) (noirq ok : Bool) (c : Completion) :
    SameTenants s (s.writeCompletion t q noirq ok c) := by
  unfold State.writeCompletion
  extract_lets x size next y s1 _ s2
  split
  · exact .of_tenants rfl
  split
  · have discarded (u : State) : SameTenants u u.discardCompletion := .of_tenants rfl
    exact ((SameTenants.countDmaErr s c.src).trans (discarded _)).trans (SameTenants.faultQp ..)
  · have written : SameTenants s s2 := .of_tenants rfl
    exact written.trans (.of_tenants (Signalled.countSignal s2 t q noirq).tenants)

theorem SameTenants.countRetry (s : State) (t hint : Nat) : SameTenants s (s.countRetry t hint) := by
  unfold State.countRetry
  dsimp only
  split
  · exact .setTenant s t _ rfl
  · exact (SameTenants.setTenant s t _ rfl).trans (.of_frame (offer_frame ..))

/-- A completion changes of its tenant what it counts alone. -/
theorem SameTenants.complete (s : State) (r : Req) (status detail reason info outLen : Nat) (out : Bytes) :
    SameTenants s (s.complete r status detail reason info outLen out) := by
  unfold State.complete
  extract_lets adm time _ s1 head c _ s2
  have reported : SameTenants s s2 := by
    refine SameTenants.trans (t := s1) (.of_tenants rfl) ?_
    simp only [s2]
    split
    · exact (SameTenants.writeCompletion ..).trans (.of_tenants (Signalled.settleQp ..).tenants)
    · exact .of_tenants rfl
    · exact .of_frame (l := [.blk]) ((OnlyIn.refl _ s1).replyFabric _ _ _ _ (List.Subset.refl _))
  split
  · exact reported.trans (SameTenants.countRetry ..)
  · exact reported

theorem SameTenants.dropJobs (s : State) (p : EngSrc → Bool) : SameTenants s (s.dropJobs p) :=
  .of_frame ((OnlyIn.refl _ s).dropJobs p (List.Subset.refl _))

theorem SameTenants.abortInst (s : State) (n cause : Nat) (step : Option Nat) : SameTenants s (s.abortInst n cause step) := by
  unfold State.abortInst
  extract_lets i k s1 s2 _ s3
  split
  · exact SameTenants.refl s
  · exact ((SameTenants.dropJobs s _).trans (.of_tenants (t := s3) rfl)).trans (SameTenants.complete ..)

theorem SameTenants.abortOne (s : State) (cause : Nat) (r : Req) : SameTenants s (s.abortOne cause r) := by
  unfold State.abortOne
  extract_lets s1
  have aborted : SameTenants s s1 := by
    simp only [s1]
    split
    · exact SameTenants.abortInst ..
    · exact (SameTenants.dropJobs s _).trans (SameTenants.complete ..)
  exact aborted.trans (.of_tenants rfl)

theorem SameTenants.abortWhere (s : State) (p : Req → Bool) (cause : Nat) : SameTenants s (s.abortWhere p cause) :=
  SameTenants.foldl (fun u r => SameTenants.abortOne u cause r) _ s

theorem SameTenants.disableQp (s : State) (t q : Nat) : SameTenants s (s.disableQp t q) :=
  .of_tenants ((Signalled.settleQp (s.setQp t q _) t q).tenants.trans rfl)

theorem State.signalAll_tenants (s : State) (t v : Nat) : (s.signalAll t v).host.tenants = s.host.tenants := by
  have one (u : State) (b : Bool) : (if (u.port b).tunnel ∧ (u.port b).downstream = false then u.signal b t v else u).host.tenants
      = u.host.tenants := by
    split
    · exact (Signalled.signal u b t v 0 0).tenants
    · rfl
  exact (one _ true).trans (one s false)

/-- A created tenant is active once its units are wiped, and keeps them (R114). -/
theorem State.fillTenant_tenant (s : State) (t : Nat) : (s.fillTenant t).tenant t = { s.tenant t with state := .active } := by
  have filled : OnlyIn [.dmk, .mem, .gate, .fresh] (s.setTenant t { s.tenant t with state := .active }) (s.fillTenant t) :=
    (((OnlyIn.refl _ _).wipeUnits _ (by simp)).recolourUnits _ (by simp)).cacheRoot _ (by simp)
  rw [State.tenant, filled.host_eq]
  exact State.tenant_setTenant_self ..

theorem State.dropCached_tenant (s : State) (p : KeyTag → Bool) (t : Nat) : (s.dropCached p).tenant t = s.tenant t := rfl

/-- A reset tenant is active again, with no fault and one more reset (R116). -/
theorem State.resetTenant_tenant (s : State) (t : Nat) : ((s.resetTenant t).tenant t).state = .active
    ∧ ((s.resetTenant t).tenant t).faultQp = 0 ∧ ((s.resetTenant t).tenant t).resets = satAdd 32 (s.tenant t).resets 1 := by
  unfold State.resetTenant
  extract_lets _ s1 s2 x s3
  have ended : SameTenants (s.setTenant t { s.tenant t with state := .resetting }) s2 :=
    (SameTenants.abortWhere ..).trans (SameTenants.foldl (fun u q => SameTenants.disableQp u t q) _ _)
  have signals : (s3.signalAll t 0).host.tenants = s3.host.tenants := State.signalAll_tenants ..
  have kept : ((s3.signalAll t 0).offerBurst 0x0302 0 t (s3.tenant t).resets).tenant t = s3.tenant t := by
    rw [State.tenant, (offerBurst_frame ..).host_eq, signals]
    rfl
  have now : s3.tenant t = { x with state := .active, faultQp := 0, resets := satAdd 32 x.resets 1 } := by
    rw [show s3 = _ from rfl, State.dropCached_tenant, State.tenant_setTenant_self]
  have before : x.resets = (s.tenant t).resets := by
    simp only [x]
    rw [ended.tenant t, State.tenant_setTenant_self]
  rw [kept, now]
  exact ⟨rfl, rfl, by rw [before]⟩

/-- A destroyed tenant is gone, with its erase epoch advanced where its keys are erased (R115). -/
theorem State.destroyTenant_gone (s : State) (t : Nat) (erase : Bool) : ((s.destroyTenant t erase).tenant t).state = .absent
    ∧ SMap.get 0 (s.destroyTenant t erase).bkd.epochs t = SMap.get 0 s.bkd.epochs t + if erase then 1 else 0 := by
  unfold State.destroyTenant
  extract_lets us _ s1 _ s2 s3 nodes _ s4 ks epochs cloned _ _ s5 s6
  have wiped : OnlyIn [.host, .twl, .dmk, .cal, .srg, .tul, .hsh, .ent, .zyn, .mem, .rcd, .blk, .fresh] s s3 := by
    have begun : OnlyIn [.host, .twl, .dmk, .cal, .srg, .tul, .hsh, .ent, .zyn, .mem, .rcd, .blk, .fresh] s s2 :=
      OnlyIn.trans (t := s1) (((OnlyIn.refl _ s).setTenant t _ (by simp)).abortWhere _ 9 (by simp)) (by simp [s2])
    exact ((begun.releaseKstates _ (by simp)).wipeUnits _ (by simp)).dropCached _ (by simp)
  have epoch : s4.bkd = s.bkd := wiped.bkd_eq
  have kept : OnlyIn [.host, .gate, .fresh] s5 s6 := ((OnlyIn.refl _ s5).recolourUnits us (by simp)).setTenant t _ (by simp)
  refine ⟨?_, ?_⟩
  · rw [State.tenant, (offer_frame ..).host_eq]
    exact congrArg Tenant.state (State.tenant_setTenant_self ..)
  · rw [(offer_frame ..).bkd_eq, kept.bkd_eq]
    cases erase
    · exact congrArg (SMap.get 0 ·.epochs t) epoch
    · have advanced : s5.bkd.epochs = SMap.set 0 s4.bkd.epochs t (SMap.get 0 s4.bkd.epochs t + 1) := rfl
      rw [advanced, SMap.get_set_self, epoch]
      rfl

/-- A refusal for a tenant that is on its way gives a hint of 16 bits (R109). -/
theorem State.refuseBusy_eq (s : State) (r : Req) :
    ∃ hint, hint ≤ 65535 ∧ s.refuseBusy r = { s with fresh := s.fresh + 1 }.refuse r 0x0101 hint 0x2C := by
  refine ⟨_, ?_, rfl⟩
  refine Nat.le_of_lt_succ ((Nat.mod_lt _ (Nat.succ_pos _)).trans_le ?_)
  exact Nat.succ_le_succ (Nat.min_le_left ..)

/-- Settles O15: each command on tenants is read branch by branch, and the close of a life by what its steps leave. -/
theorem tenantsAreCreatedDestroyedAndReset : Obligations.TenantsAreCreatedDestroyedAndReset := by
  refine ⟨fun s r => ?commands, fun s k on => ?doorbell, fun s k st d l => ?begins, fun s w => ?ends, fun s x => ?opens⟩
  case commands =>
    intro t busy
    refine ⟨fun x turn other rec' absent => ?_, fun e erase turn other active room => ?_, fun turn other => ⟨fun active => ?_, fun resetting => ?_⟩,
      fun other state => ?_, fun other state => ?_, fun zero => ?_, fun turn => ?_, fun turn => ?_⟩
    · simp only [exec, execTenantCreate, turn.runs]
      simp [show r.desc.par 0 1 = t from rfl, other, rec', absent, TState.busy]
    · have room' : ¬ (e = true ∧ SMap.get 0 s.bkd.epochs t = 2 ^ 32 - 1) := fun ⟨h, full⟩ => (Nat.ne_of_lt (room h)) full
      simp only [exec, execTenantDestroy, turn.runs]
      rw [show r.desc.par 0 1 = t from rfl, ← erase, if_neg other, active, if_neg (by simp [TState.busy]), if_neg (by simp), if_neg room']
    · simp only [exec, execTenantReset, turn.runs]
      simp [show r.desc.par 0 1 = t from rfl, other, active, TState.busy]
    · simp only [exec, execTenantReset, turn.runs]
      simp [show r.desc.par 0 1 = t from rfl, other, resetting, TState.busy]
    · obtain ⟨hint, fits, refused⟩ := s.refuseBusy_eq r
      refine ⟨fun turn => ⟨hint, fits, ?_⟩, fun turn => ⟨hint, fits, ?_⟩, fun turn => ⟨hint, fits, ?_⟩⟩
      · simp only [exec, execTenantCreate, turn.runs]
        rw [if_neg other, if_pos (by rcases state with h | h <;> simp [TState.busy, show (s.tenant (r.desc.par 0 1)).state = _ from h]), refused]
      · simp only [exec, execTenantDestroy, turn.runs]
        rw [if_neg other, if_pos (by rcases state with h | h <;> simp [TState.busy, show (s.tenant (r.desc.par 0 1)).state = _ from h]), refused]
      · simp only [exec, execTenantReset, turn.runs]
        rw [if_neg other, if_pos (by rcases state with h | h <;> simp [TState.busy, show (s.tenant (r.desc.par 0 1)).state = _ from h]), refused]
    · obtain ⟨hint, fits, refused⟩ := s.refuseBusy_eq r
      refine ⟨fun turn => ⟨hint, fits, ?_⟩, fun turn => ⟨hint, fits, ?_⟩⟩
      · simp only [exec, execTenantCreate, turn.runs]
        rw [if_neg other, if_pos (by simp [TState.busy, show (s.tenant (r.desc.par 0 1)).state = _ from state]), refused]
      · simp only [exec, execTenantDestroy, turn.runs]
        rw [if_neg other, if_pos (by simp [TState.busy, show (s.tenant (r.desc.par 0 1)).state = _ from state]), refused]
    · refine ⟨fun turn => ?_, fun turn => ?_, fun turn => ?_⟩
      · simp only [Refuses, exec, execTenantCreate, turn.runs]
        rw [if_pos zero, State.refuseRange]
      · simp only [Refuses, exec, execTenantDestroy, turn.runs]
        rw [if_pos zero, State.refuseRange]
      · simp only [Refuses, exec, execTenantReset, turn.runs]
        rw [if_pos zero, State.refuseRange]
    · simp only [exec, execTenantQuery, Answers, turn.runs, t]
    · simp only [exec, execTenantList, Answers, turn.runs]
  case doorbell =>
    refine ⟨fun active => if_pos ⟨on, active, rfl⟩, fun other => if_neg fun h => other h.2.1⟩
  case begins =>
    refine ⟨?_, rfl, by simp [State.beginLife, State.setTenant]⟩
    exact congrArg Tenant.state (State.tenant_setTenant_self s k _)
  case ends =>
    refine ⟨fun none => ?_, fun r one before after => ?_, fun create => ?_, fun e destroy => ?_, fun reset => ?_⟩
    · simp [State.endLife, none]
    · simp [State.endLife, one, before, after]
    · rw [State.liveOn, create]
      simp [State.fillTenant_tenant]
    · rw [State.liveOn, destroy]
      exact s.destroyTenant_gone w.tenant e
    · rw [State.liveOn, reset]
      exact s.resetTenant_tenant w.tenant
  case opens =>
    intro u
    have opened : u.tenant x.tenant = _ := State.tenant_setTenant_self s x.tenant _
    rw [opened]
    exact ⟨rfl, rfl, rfl, rfl, rfl, rfl, rfl, by simp [u, State.openTenant, State.setTenant]⟩

end Sys2Proof.Machine
end

section
/-! PROOFS. Lemmas and obligations: the structure image. -/

namespace Sys2Proof.Machine

set_option Elab.async false

/-! ## The slots of the structure image (file 02) -/

/-- Keys that are not kept read as the default. -/
theorem SMap.get_filter_out {α : Type} (d : α) (p : Nat × α → Bool) {k : Nat} (m : SMap α) (out : ∀ v, p (k, v) = false) :
    SMap.get d (m.filter p) k = d := by
  induction m with
  | nil => rfl
  | cons e m ih =>
    obtain ⟨j, v⟩ := e
    rw [List.filter_cons]
    split
    · rename_i kept
      have other : j ≠ k := fun same => by rw [same, out] at kept; exact Bool.noConfusion kept
      rw [SMap.get, if_neg other, ih]
    · exact ih

theorem zeroHeader_header (m : SMap Byte) {k : Nat} (header : k < 256) : SMap.get 0 (zeroHeader m) k = 0 :=
  SMap.get_filter_out 0 _ m fun _ => by simpa using header

/-- Bytes written from a place on read back there, and the rest of the slot is as before. -/
theorem writtenFrom_get (b : Bytes) : ∀ (i : Nat) (m : SMap Byte) (off k : Nat),
    SMap.get 0 (((List.range' i b.length).zip b).foldl (fun m p => SMap.set 0 m (off + p.1) p.2) m) k
      = if off + i ≤ k ∧ k < off + i + b.length then b[k - (off + i)]?.getD 0 else SMap.get 0 m k := by
  induction b with
  | nil =>
    intro i m off k
    rw [if_neg (by simp only [List.length_nil]; omega)]
    rfl
  | cons x b ih =>
    intro i m off k
    rw [List.length_cons, List.range'_succ, List.zip_cons_cons, List.foldl_cons, ih]
    rcases Nat.lt_trichotomy k (off + i) with before | here | after
    · rw [if_neg (by omega), if_neg (by omega), SMap.get_set_other 0 _ (Nat.ne_of_lt before)]
    · rw [if_neg (by omega), if_pos (by omega), here, SMap.get_set_self, Nat.sub_self]
      rfl
    · have next : k - (off + i) = (k - (off + (i + 1))) + 1 := by omega
      rw [SMap.get_set_other 0 _ (Nat.ne_of_gt after), next, List.getElem?_cons_succ]
      exact if_congr (by omega) rfl rfl

theorem writeSlot_get (m : SMap Byte) (off : Nat) (b : Bytes) {k : Nat} (inside : k < b.length) :
    SMap.get 0 (writeSlot m off b) (off + k) = b[k]?.getD 0 := by
  rw [writeSlot, List.range_eq_range', writtenFrom_get, if_pos (by omega)]
  congr 2
  omega

@[simp] theorem State.mramSlot_setMramSlot_self (s : State) (b : Bool) (m : SMap Byte) : (s.setMramSlot b m).mramSlot b = m := by
  cases b <;> rfl

@[simp] theorem State.mramSlot_setMramSlot_other (s : State) (b : Bool) (m : SMap Byte) :
    (s.setMramSlot b m).mramSlot (!b) = s.mramSlot (!b) := by
  cases b <;> rfl

theorem request_bytes_length (r : Req) : r.bytes.length = r.desc.inLen := by
  simp [Req.bytes, Machine.zeros]

/-- The bytes of a session beyond the header stand in its slot (R79). -/
theorem State.sessionData_get (s : State) (x : Session) (off : Nat) (b : Bytes) {k : Nat} (inside : k < b.length) (beyond : 256 ≤ off + k) :
    SMap.get 0 ((s.sessionData x off b).mramSlot x.slotB) (off + k) = b[k]?.getD 0 := by
  have head : (b.take (256 - off)).length = 256 - off := by
    rw [List.length_take]
    omega
  have rest : k = (256 - off) + (k - (256 - off)) := by omega
  unfold State.sessionData
  dsimp only
  rw [State.mramSlot_setMramSlot_self, head, rest, ← Nat.add_assoc, writeSlot_get _ _ _ (by rw [List.length_drop]; omega),
    List.getElem?_drop]

/-- The close of a session leaves its slot without a header (R82). -/
theorem State.endSession_sets {s : State} {x : Session} (open' : s.img.session = some x) :
    s.endSession.img.session = none ∧ ∀ k, k < 256 → SMap.get 0 (s.endSession.mramSlot x.slotB) k = 0 := by
  simp only [State.endSession, open']
  cases x.slotB
  · exact ⟨rfl, fun k header => zeroHeader_header s.img.slotA header⟩
  · exact ⟨rfl, fun k header => zeroHeader_header s.img.slotB header⟩

/-- Settles O16: each command of a session is read branch by branch, and slots by what is written to them. -/
theorem imageWriteSession : Obligations.ImageWriteSession := by
  refine fun s r => ⟨fun seq len turn closed newer floor fits => ?begin, fun x off turn opened aligned whole least most room => ?data,
    fun x c turn opened challenge fresh seq length quoted => ?commit, fun turn opened => ?abort, fun x opened => ?timeout,
    fun turn closed => ?none⟩
  case begin =>
    have range : ¬ (seq ≤ s.sys.imgSeq ∨ seq < s.bkd.seqFloor) := by omega
    let t := s.setMramSlot s.targetSlotB (zeroHeader (s.mramSlot s.targetSlotB))
    let x : Session := { seq := seq, length := len, slotB := s.targetSlotB, header := [], replica := false }
    refine ⟨{ t with img := { t.img with session := some x } }, ?_, rfl, fun k header => ?_, ?_, ?_⟩
    · simp only [Answers, exec, execImageBegin, turn.runs]
      rw [if_neg (by simp [closed]), if_neg range, if_neg (by omega)]
    · exact (congrArg (SMap.get 0 · k) (s.mramSlot_setMramSlot_self _ _)).trans (zeroHeader_header _ header)
    · exact s.mramSlot_setMramSlot_other _ _
    · exact OnlyIn.trans (t := t) ((OnlyIn.refl _ s).setMramSlot _ _ (by simp)) (by simp)
  case data =>
    refine ⟨s.sessionData x off r.bytes, ?_, ?_, fun k inside beyond => ?_⟩
    · simp only [Answers, exec, execImageData, turn.runs, opened]
      rw [if_neg (by omega)]
    · exact (OnlyIn.refl _ s).sessionData x off r.bytes (List.Subset.refl _)
    · exact s.sessionData_get x off r.bytes (by rwa [request_bytes_length]) beyond
  case commit =>
    intro slot sound
    let t := s.setMramSlot x.slotB slot
    obtain ⟨noted, hnoted⟩ : ∃ u, u = ({ t with img := { t.img with session := none } }).noteStoredKeys slot (validity t slot) := ⟨_, rfl⟩
    have kept : noted.img = { t.img with session := none } := by
      rw [hnoted]
      exact ((OnlyIn.refl _ _).noteStoredKeys _ _ (List.Subset.refl _)).img_eq
    have committed : s.commitSession x = (noted, validity t slot, 0) := by
      simp only [State.commitSession, State.mramSlot_setMramSlot_self]
      rw [if_pos sound, hnoted]
    have same : (noted.mramSlot x.slotB) = slot := by
      simp only [State.mramSlot, kept]
      exact s.mramSlot_setMramSlot_self x.slotB slot
    refine ⟨{ noted with img := { noted.img with challenge := none } }, ?_, congrArg Img.session kept, rfl, same, ?_⟩
    · simp only [exec, execImageCommit, turn.runs, opened, challenge, fresh, committed]
      rw [if_neg (by simp [seq, length]), if_neg (by simp), if_neg (by simp [quoted]), if_pos sound, same]
    · have begun : OnlyIn [.img, .rcd] s { t with img := { t.img with session := none } } :=
        OnlyIn.trans (t := t) ((OnlyIn.refl _ s).setMramSlot _ _ (by simp)) (by simp)
      exact OnlyIn.trans (t := noted) (by rw [hnoted]; exact begun.noteStoredKeys slot _ (by simp)) (by simp)
  case abort =>
    obtain ⟨x, opened⟩ := Option.ne_none_iff_exists'.mp opened
    refine ⟨s.endSession, ?_, (State.endSession_sets opened).1, (OnlyIn.refl _ s).endSession (List.Subset.refl _)⟩
    simp [Answers, exec, execImageAbort, turn.runs, opened]
  case timeout =>
    obtain ⟨closed, header⟩ := State.endSession_sets opened
    exact ⟨s.endSession, rfl, closed, header, (OnlyIn.refl _ s).endSession (List.Subset.refl _)⟩
  case none =>
    simp [Refuses, exec, execImageCommit, turn.runs, closed, State.refuseRange]

/-! ## Words of the entropy unit (file 10) -/

/-- Words taken come out of the entropy unit, and nothing else changes (R305). -/
theorem State.takeWords_some {s u : State} {n : Nat} {w : List W128} (taken : s.takeWords n = some (w, u)) :
    s.ent.take n = some (w, u.ent) ∧ u = { s with ent := u.ent } := by
  unfold State.takeWords at taken
  split at taken
  · next e =>
    obtain ⟨rfl, rfl⟩ := Prod.mk.inj (Option.some.inj taken)
    exact ⟨e, rfl⟩
  · cases taken

theorem OnlyIn.takeWords {s u : State} {n : Nat} {w : List W128} (taken : s.takeWords n = some (w, u)) : OnlyIn [.ent] s u := by
  rw [(State.takeWords_some taken).2]
  simp

/-! ## Copies sent to the members of a group (file 02) -/

theorem onFirst_of_find {α : Type} {p : α → Bool} {x : α} (f : α → List α) {l : List α} (found : l.find? p = some x) :
    ∃ a b, l = a ++ x :: b ∧ onFirst p f l = a ++ f x ++ b := by
  induction l with
  | nil => cases found
  | cons y l ih =>
    rw [List.find?_cons] at found
    split at found
    · next here =>
      obtain rfl := Option.some.inj found
      exact ⟨[], l, rfl, by simp [onFirst, here]⟩
    · next other =>
      obtain ⟨a, b, parts, changed⟩ := ih found
      exact ⟨y :: a, b, by rw [parts]; rfl, by simp [onFirst, other, changed]⟩

theorem State.sendTo_img (s : State) (addr ftype : Nat) (b : Bytes) : (s.sendTo addr ftype b).img = s.img :=
  ((OnlyIn.refl _ s).sendTo addr ftype b (List.Subset.refl _)).img_eq

/-- At most four transfers run at once (R481). -/
theorem State.pumpReplicas_few (fuel : Nat) : ∀ {s : State}, (s.img.replicas.filter (·.active)).length ≤ 4 →
    ((s.pumpReplicas fuel).img.replicas.filter (·.active)).length ≤ 4 := by
  induction fuel with
  | zero => exact fun few => few
  | succ fuel ih =>
    intro s few
    unfold State.pumpReplicas
    split
    · exact few
    next x found =>
      split
      · exact few
      next room =>
        refine ih ?_
        obtain ⟨a, b, parts, changed⟩ := onFirst_of_find (fun y => [{ y with active := true, off := 0 }]) found
        rw [State.sendTo_img]
        show ((onFirst _ _ s.img.replicas).filter (·.active)).length ≤ 4
        rw [changed]
        rw [parts] at room
        simp only [List.filter_append, List.length_append, List.filter_cons] at room ⊢
        split at room <;> simp at room ⊢ <;> omega

/-- Settles O17: each command is read branch by branch, and the transfers by what `onFirst` changes. -/
theorem imageQueriesAndReplication : Obligations.ImageQueriesAndReplication := by
  refine fun s r => ⟨fun turn => ?query, fun w u turn taken => ?challenge, fun c issued => ⟨fun late => ?_, fun early => ?_⟩,
    fun slot off len turn which some' room => ?read, fun turn closed idle sound newer => ?apply, fun turn opened => ?busy,
    fun addr x waits => ⟨fun spent => ?_, fun left runs => ?_, fun left idle => ?again⟩, fun fuel few => State.pumpReplicas_few fuel few⟩
  case query =>
    exact ⟨_, congrArg Host.Outcome.next (turn.runs _)⟩
  case challenge =>
    obtain ⟨words, -⟩ := State.takeWords_some taken
    let unstalled := { u.ent with stalled := u.ent.stalled.filter (· ≠ Consumer.command r) }
    refine ⟨{ s with ent := unstalled, img := { s.img with challenge := some { bytes := wordBytes w, issued := s.sys.optime } } }, ?_,
      rfl, by simp⟩
    simp only [Answers, exec, execImageChallenge, turn.runs, State.drawFor, State.takeWords, words]
    rfl
  · have lapsed : s.challengeLapsed c = true := by simpa [State.challengeLapsed] using late
    simp [exec, execImageChallengeLapse, issued, lapsed]
  · have fresh : s.challengeLapsed c = false := by simpa [State.challengeLapsed] using early
    simp [exec, execImageChallengeLapse, issued, fresh]
  case read =>
    simp only [Answers, exec, execImageRead, turn.runs]
    rw [if_neg (by omega)]
  case apply =>
    simp [exec, execImageApply, turn.runs, closed, idle, sound, newer]
  case busy =>
    obtain ⟨x, opened⟩ := Option.ne_none_iff_exists'.mp opened
    simp [Refuses, exec, execImageApply, turn.runs, opened]
  · simp only [exec, execReplicaRetry, waits]
    rw [if_pos spent]
  · simp only [exec, execReplicaRetry, waits]
    rw [if_neg (by omega), if_pos runs]
  case again =>
    refine ⟨(s.onReplica (ReplicaWait.waitsFor addr) fun y =>
      [{ y with busy := false, active := true, off := 0, retries := y.retries + 1 }]).sendTo addr 0x30 (replicaBody x.copy 0), ?_, ?_⟩
    · simp only [exec, execReplicaRetry, waits]
      rw [if_neg (by omega), if_neg (by simp [idle])]
    · obtain ⟨a, b, parts, changed⟩ := onFirst_of_find
        (fun y => [{ y with busy := false, active := true, off := 0, retries := y.retries + 1 }]) waits
      have mine : x.addr = addr := by
        have := List.find?_some waits
        simp only [ReplicaWait.waitsFor, Bool.and_eq_true, beq_iff_eq] at this
        exact this.1
      refine ⟨?_, ?_, OnlyIn.sendTo (by simp [State.onReplica]) _ _ _ (by simp)⟩
      · rw [State.sendTo_img]
        show ∀ y ∈ onFirst _ _ s.img.replicas, _
        rw [changed, parts]
        simp
        tauto
      · rw [State.sendTo_img]
        show (onFirst _ _ s.img.replicas).any _ = true
        rw [changed]
        simp [ReplicaWait.runsTo, mine]

end Sys2Proof.Machine
end

section
/-! PROOFS. Lemmas and obligations: recipes. -/

namespace Sys2Proof.Machine

set_option Elab.async false

/-! ## Recipes from RECIPE_RUN to the first dispatch (file 04) -/

/-- A refused recipe leaves its slot free, and no key or context has been used (R140). -/
theorem State.refuseInst_frees (s : State) (n : Nat) (x : Rej) :
    (s.refuseInst n x).slot n = Inst.free ∧ (s.refuseInst n x).dmk = s.dmk := by
  have refused : OnlyIn [.host, .cal, .srg, .tul, .hsh, .zyn, .rcd, .blk, .fresh] (s.setSlot n Inst.free) (s.refuseInst n x) :=
    ((OnlyIn.refl _ _).noteRefusal _ _ (by simp)).reject _ _ (by simp)
  refine ⟨?_, refused.dmk_eq⟩
  rw [State.slot, refused.twl_eq]
  exact State.slot_setSlot_self ..

/-- The values written at the places up to `n` read back there. -/
theorem SMap.get_fill {α : Type} [DecidableEq α] (d : α) (f : Nat → α) {n k : Nat} (inside : k < n) :
    SMap.get d ((List.range n).foldl (fun m k => SMap.set d m k (f k)) []) k = f k := by
  induction n with
  | zero => exact absurd inside (Nat.not_lt_zero k)
  | succ n ih =>
    rw [List.range_succ, List.foldl_append]
    show SMap.get d (SMap.set d _ n (f n)) k = f k
    rcases Nat.lt_succ_iff_lt_or_eq.mp inside with before | here
    · rw [SMap.get_set_other d _ (Nat.ne_of_lt before), ih before]
    · rw [here, SMap.get_set_self]

/-- Settles O18: RECIPE_RUN and what closes LOADING are read branch by branch. -/
theorem recipesStartAndLoad : Obligations.RecipesStartAndLoad := by
  refine fun s r => ⟨fun e n turn new recipe clean free => ?starts, fun e turn new recipe taken => ?full, fun n => ?loading⟩
  case starts =>
    have started : exec (.recipeRun r) s = .next { s.setSlot n (s.newInst r e) with
        twl := { (s.setSlot n (s.newInst r e)).twl with starts := wrapAdd 32 s.twl.starts 1 } } := by
      simp only [exec, execRecipeRun, turn.runs, State.startRecipe, new, recipe, clean, free]
      rfl
    have slot := State.slot_setSlot_self s n (s.newInst r e)
    exact ⟨_, started, slot, congrArg Inst.state slot, rfl, by simp [State.setSlot]⟩
  case full =>
    have reason : s.recipeReason r e.graph = some 0x31 := if_pos taken
    simp only [Refuses, exec, execRecipeRun, turn.runs, State.startRecipe, new, recipe, reason]
    rfl
  case loading =>
    intro i loading seeded shadow
    have ends : exec (.recipeLoadingDone n) s = .next (s.endLoading n) := if_pos ⟨loading, seeded⟩
    simp only [State.endLoading, show s.withShadow (s.slot n) = i from rfl, shadow] at ends
    refine ⟨fun x failed => ?_, fun u l keys program => ⟨fun x refused => ?_, fun takes here => ⟨fun t x m failed => ?_,
      fun t m taken => ?_⟩⟩, fun x => s.refuseInst_frees n x⟩
    · simp only [ends, failed]
    · simp only [ends, keys, program, refused]
    · simp only [ends, keys, program, takes, here, failed]
    · refine ⟨?_, rfl, rfl, fun k inside => SMap.get_fill 0 _ inside⟩
      simp only [ends, keys, program, takes, here, taken]

/-! ## Work that joins its unit (files 04 and 07) -/

theorem OnlyIn.engine_eq {l : List Area} {s t : State} (h : OnlyIn l s t)
    (out : .cal ∉ l ∧ .srg ∉ l ∧ .tul ∉ l ∧ .hsh ∉ l := by simp) (u : EngUnit) : t.engine u = s.engine u := by
  obtain ⟨cal, srg, tul, hsh⟩ := out
  cases u
  · exact h.cal_eq cal
  · exact h.srg_eq srg
  · exact h.tul_eq tul
  · exact h.hsh_eq hsh

/-- A job loses its instances only with the power, the pools or the fences of its unit (R137, R241). -/
theorem State.jobGone_congr {s t : State} {u : EngUnit} (pwr : t.pwr = s.pwr) (img : t.img = s.img) (part : t.part = s.part)
    (insts : (t.engine u).insts = (s.engine u).insts) (j : Job) : t.jobGone u j = s.jobGone u j := by
  have gone (n : Nat) : t.instGone u n = s.instGone u n := by simp only [State.instGone, State.inst, pwr, insts]
  have pool : t.poolInsts j.tenant u = s.poolInsts j.tenant u := by simp only [State.poolInsts, State.poolOf, img, part]
  simp only [State.jobGone, gone, pool]

/-- A period of shared use that ends leaves the instances of recipes alone. -/
theorem State.settlePeriod_twl (s : State) (u : EngUnit) (p : PoolRec) :
    (s.settlePeriod u p).twl.insts = s.twl.insts ∧ (s.settlePeriod u p).twl.steps = s.twl.steps := by
  unfold State.settlePeriod
  dsimp only
  split
  · exact ⟨rfl, rfl⟩
  split <;> exact ⟨rfl, rfl⟩

/-- A job whose unit serves it waits in it, last, and nothing else changes but the time that its pool's use is counted from (R137). -/
structure Joined (s : State) (u : EngUnit) (j : Job) (t : State) : Prop where
  frame : OnlyIn [.twl, .cal, .srg, .tul, .hsh] s t
  engine : t.engine u = { s.engine u with waiting := (s.engine u).waiting ++ [j] }
  others : ∀ v, v ≠ u → t.engine v = s.engine v
  insts : t.twl.insts = s.twl.insts
  steps : t.twl.steps = s.twl.steps

theorem State.addWaiting_joins {s : State} {u : EngUnit} {j : Job} (here : s.jobGone u j = false) : Joined s u j (s.addWaiting u j) := by
  unfold State.addWaiting
  extract_lets s1 _ t
  have settled : OnlyIn [.twl] s s1 ∧ s1.twl.insts = s.twl.insts ∧ s1.twl.steps = s.twl.steps := by
    simp only [s1]
    split
    · next p _ => exact ⟨(OnlyIn.refl _ s).settlePeriod u p (List.Subset.refl _), s.settlePeriod_twl u p⟩
    · exact ⟨OnlyIn.refl _ s, rfl, rfl⟩
  obtain ⟨frame, insts, steps⟩ := settled
  have same (v : EngUnit) : s1.engine v = s.engine v := frame.engine_eq (by simp) v
  have engine : t.engine u = { s.engine u with waiting := (s.engine u).waiting ++ [j] } := by
    rw [← same u]
    exact State.engine_setEngine_self ..
  have joined : OnlyIn [.cal, .srg, .tul, .hsh] s1 t := (OnlyIn.refl _ s1).setEngine u _ (List.Subset.refl _)
  have stays : t.jobGone u j = false := by
    rw [State.jobGone_congr (joined.pwr_eq.trans frame.pwr_eq) (joined.img_eq.trans frame.img_eq) (joined.part_eq.trans frame.part_eq)
      (by rw [engine]), here]
  rw [if_neg (by simp [stays])]
  refine ⟨((OnlyIn.refl _ s).step frame (by simp)).step joined (by simp), engine, fun v other => ?_, ?_, ?_⟩
  · rw [← same v]
    exact State.engine_setEngine_other s1 other _
  · rw [joined.twl_eq, insts]
  · rw [joined.twl_eq, steps]

/-- What holds of each unit with its command holds of one that is among the four. -/
theorem ofFourUnits {P : EngUnit → Instr → Prop} {u : EngUnit} {c cal srg tul hsh : Instr}
    (mem : (u, c) ∈ [(EngUnit.cal, cal), (.srg, srg), (.tul, tul), (.hsh, hsh)]) (hcal : P .cal cal) (hsrg : P .srg srg)
    (htul : P .tul tul) (hhsh : P .hsh hsh) : P u c := by
  simp only [List.mem_cons, Prod.mk.injEq, List.not_mem_nil, or_false] at mem
  rcases mem with ⟨rfl, rfl⟩ | ⟨rfl, rfl⟩ | ⟨rfl, rfl⟩ | ⟨rfl, rfl⟩
  · exact hcal
  · exact hsrg
  · exact htul
  · exact hhsh

/-! ## Fields of byte strings -/

theorem splice_fits {b src : Bytes} {off : Nat} (fits : off + src.length ≤ b.length) :
    splice b off src = b.take off ++ src ++ b.drop (off + src.length) := by
  rw [splice, List.take_of_length_le]
  simp only [List.length_append, List.length_take, List.length_drop]
  omega

theorem splice_length {b src : Bytes} {off : Nat} (fits : off + src.length ≤ b.length) : (splice b off src).length = b.length := by
  rw [splice_fits fits]
  simp only [List.length_append, List.length_take, List.length_drop]
  omega

/-- A field reads as the bytes that were put there. -/
theorem slice_splice_same {b src : Bytes} {off : Nat} (fits : off + src.length ≤ b.length) :
    slice (splice b off src) off src.length = src := by
  have front : (b.take off).length = off := by
    rw [List.length_take]
    omega
  rw [slice, splice_fits fits, List.append_assoc, List.drop_left' front, List.take_left]

/-- A field that ends before the bytes that were put is as before. -/
theorem slice_splice_before {b src : Bytes} {off o n : Nat} (fits : off + src.length ≤ b.length) (before : o + n ≤ off) :
    slice (splice b off src) o n = slice b o n := by
  have front : o + n ≤ (b.take off).length := by
    rw [List.length_take]
    omega
  have inside : n ≤ off - o := by omega
  rw [slice, splice_fits fits, List.append_assoc, List.drop_append_of_le_length (by omega),
    List.take_append_of_le_length (by rw [List.length_drop]; omega), List.drop_take, List.take_take, Nat.min_eq_left inside]
  rfl

/-- A field that begins after the bytes that were put is as before. -/
theorem slice_splice_after {b src : Bytes} {off o n : Nat} (fits : off + src.length ≤ b.length) (after : off + src.length ≤ o) :
    slice (splice b off src) o n = slice b o n := by
  have front : (b.take off ++ src).length = off + src.length := by
    rw [List.length_append, List.length_take]
    omega
  obtain ⟨k, rfl⟩ := Nat.exists_eq_add_of_le after
  rw [slice, splice_fits fits, ← front, List.drop_length_add_append, front, List.drop_drop]
  rfl

theorem leBytes_length (n x : Nat) : (leBytes n x).length = n := by
  induction n generalizing x with
  | zero => rfl
  | succ n ih => rw [leBytes, List.length_cons, ih]

/-- A number of `n` bytes reads back from them. -/
theorem leNat_leBytes {n x : Nat} (fits : x < 256 ^ n) : leNat (leBytes n x) = x := by
  induction n generalizing x with
  | zero =>
    rw [Nat.pow_zero] at fits
    rw [Nat.lt_one_iff.mp fits]
    rfl
  | succ n ih =>
    have rest : x / 256 < 256 ^ n := by
      rw [Nat.div_lt_iff_lt_mul (by decide), ← Nat.pow_succ]
      exact fits
    rw [leBytes, leNat, ih rest, BitVec.toNat_ofNat]
    exact Nat.mod_add_div x 256

/-! ## Steps of recipes and how recipes finish (files 04 and 05) -/

theorem State.freeInstance_twl (s : State) (n : Nat) :
    (s.freeInstance n).twl = { s.twl with insts := SMap.set Inst.free s.twl.insts n Inst.free } := by
  have dropped (p : EngSrc → Bool) : (s.dropJobs p).twl = s.twl := ((OnlyIn.refl _ s).dropJobs p (List.Subset.refl _)).twl_eq
  unfold State.freeInstance State.setSlot
  rw [dropped]

theorem State.freeInstance_slot (s : State) (n : Nat) : (s.freeInstance n).slot n = Inst.free := State.slot_setSlot_self _ n _

theorem State.complete_twl (s : State) (r : Req) (status detail reason info outLen : Nat) (out : Bytes) :
    (s.complete r status detail reason info outLen out).twl = s.twl :=
  ((OnlyIn.refl _ s).complete r status detail reason info outLen out (List.Subset.refl _)).twl_eq

theorem State.refuseBuffer_twl (s : State) (r : Req) : (s.refuseBuffer r).twl = s.twl :=
  ((OnlyIn.refl _ s).refuseBuffer r (List.Subset.refl _)).twl_eq

theorem State.answer_twl (s : State) (r : Req) (info : Nat) (out : Bytes) : (s.answer r info out).twl = s.twl :=
  ((OnlyIn.refl _ s).answer r info out (List.Subset.refl _)).twl_eq

/-- A slot whose recipe ends with a verdict is free again and counted (R144). -/
theorem State.endVerdict_frees (s : State) (n v : Nat) :
    (s.endVerdict n v).slot n = Inst.free ∧ (s.endVerdict n v).twl.done = wrapAdd 32 s.twl.done 1 := by
  simp only [State.endVerdict, State.slot, State.complete_twl]
  exact ⟨s.freeInstance_slot n, by rw [State.freeInstance_twl]⟩

/-- A slot whose recipe ends with its result is free again, and counted where the result can be written (R144). -/
theorem State.endAll_frees (s : State) (n : Nat) (out sh : Bytes) : (s.endAll n out sh).slot n = Inst.free
    ∧ (out = [] ∨ (s.slot n).req.outOk = true → (s.endAll n out sh).twl.done = wrapAdd 32 s.twl.done 1) := by
  unfold State.endAll
  extract_lets i t t1
  have written : t1.twl = t.twl := by
    simp only [t1]
    split <;> rfl
  split
  · next unwritable =>
    refine ⟨?_, fun room => absurd room ?_⟩
    · rw [State.slot, State.refuseBuffer_twl]
      exact s.freeInstance_slot n
    · obtain ⟨some', no⟩ := unwritable
      simp [some', show (s.slot n).req.outOk = false from no]
  · have done : t.twl.done = s.twl.done := by rw [show t = s.freeInstance n from rfl, State.freeInstance_twl]
    rw [State.slot, State.answer_twl]
    exact ⟨(congrArg (fun w : Twill => SMap.get Inst.free w.insts n) written).trans (s.freeInstance_slot n),
      fun _ => congrArg (wrapAdd 32 · 1) ((congrArg Twill.done written).trans done)⟩

/-- A slot whose recipe is aborted is free again, with its cause (R142). -/
theorem State.abortInst_frees {s : State} {n : Nat} (live : (s.slot n).state = .running ∨ (s.slot n).state = .loading) (cause : Nat) :
    (s.abortInst n cause none).slot n = Inst.free ∧ (s.abortInst n cause none).twl.lastCause = cause
      ∧ (s.abortInst n cause none).twl.aborts = satAdd 32 s.twl.aborts 1 := by
  have busy : ¬ ((s.slot n).state = .free ∨ (s.slot n).state = .completing) := by rcases live with h | h <;> simp [h]
  have dropped (p : EngSrc → Bool) : (s.dropJobs p).twl = s.twl := ((OnlyIn.refl _ s).dropJobs p (List.Subset.refl _)).twl_eq
  unfold State.abortInst
  extract_lets i k s1 s2
  rw [if_neg busy, State.slot, State.complete_twl]
  exact ⟨State.slot_setSlot_self s1 n Inst.free, rfl, congrArg (fun t => satAdd 32 t.aborts 1) (dropped _)⟩

/-- A KSN whose counter passes is bound to the context, at the counter and the initial key ID (R156). -/
theorem ksnBound {sh ikid : Bytes} {cnt : Nat} {aes : Bool} (length : sh.length = 64) (ikidLength : ikid.length = 10) (fits : cnt < 2 ^ 32)
    {first : Bool} (same : first = false → slice sh 8 10 = ikid) :
    let t := splice (if first then splice (splice sh 8 ikid) 24 [if aes then 0 else 1] else sh) 20 (leBytes 4 cnt)
    leAt t 20 4 = cnt ∧ slice t 8 10 = ikid ∧ t.length = 64 := by
  have four := leBytes_length 4 cnt
  obtain ⟨bound, hb⟩ : ∃ b, b = if first then splice (splice sh 8 ikid) 24 [if aes then 0 else 1] else sh := ⟨_, rfl⟩
  have whole : bound.length = 64 ∧ slice bound 8 10 = ikid := by
    cases first with
    | false => exact ⟨by simpa [hb] using length, by simpa [hb] using same rfl⟩
    | true =>
      have once : (splice sh 8 ikid).length = 64 := (splice_length (by omega)).trans length
      have bound' : bound = splice (splice sh 8 ikid) 24 [if aes then 0 else 1] := hb
      rw [bound']
      refine ⟨(splice_length (by rw [once]; simp)).trans once, ?_⟩
      rw [slice_splice_before (by rw [once]; simp) (by omega), ← ikidLength, slice_splice_same (by omega)]
  obtain ⟨boundLength, boundIkid⟩ := whole
  rw [← hb]
  refine ⟨?_, ?_, (splice_length (by omega)).trans boundLength⟩
  · have read := slice_splice_same (b := bound) (src := leBytes 4 cnt) (off := 20) (by omega)
    rw [four] at read
    rw [leAt, read, leNat_leBytes fits]
  · rw [slice_splice_before (by omega) (by omega), boundIkid]

/-- Settles O19: the dispatch joins the unit's work, and a recipe that finishes frees its slot. -/
theorem stepsRunToTheEndOfTheirRecipe : Obligations.StepsRunToTheEndOfTheirRecipe := by
  refine ⟨fun s n k => ⟨?dispatch, fun o live out => ?resolve, ?ends, fun v => s.endVerdict_frees n v, fun out sh => s.endAll_frees n out sh,
    rfl, fun live => State.abortInst_frees live 3, fun u on taken => ?reseed⟩, fun aes ctx ikid sh cnt => ?ksn⟩
  case dispatch =>
    intro i st ready small seeded here
    have marked : (i.dispatched ||| (1#32 <<< k)).getLsbD k = true := by simp [small]
    have dispatched : exec (.stepDispatch n k) s = .next (s.dispatch n k) := by
      simp only [exec, execStepDispatch]
      rw [if_neg (by simp [show (s.slot n).ready k = true from ready]), if_neg (by simp [seeded])]
    let j : Inst := { i with dispatched := i.dispatched ||| (1#32 <<< k), lastStep := k, maskWait := false }
    let u : State := { s.setSlot n j with twl := { (s.setSlot n j).twl with steps := wrapAdd 32 s.twl.steps 1 } }
    have slot : u.slot n = j := s.slot_setSlot_self n j
    have begun : OnlyIn [.twl] s u := by simp [u, State.setSlot]
    have dispatch : s.dispatch n k = if st.unit < 4 then u.addWaiting (unitAt st.unit) (Job.new (.step n k) st.prim i.tenant i.urgent) else u :=
      rfl
    refine ⟨_, dispatched, ?_⟩
    rw [dispatch]
    split
    · next engine =>
      have stays : u.jobGone (unitAt st.unit) (Job.new (.step n k) st.prim i.tenant i.urgent) = false :=
        here.resolve_left (by omega)
      have joined := State.addWaiting_joins stays
      have slot' : (u.addWaiting (unitAt st.unit) (Job.new (.step n k) st.prim i.tenant i.urgent)).slot n = j := by
        rw [State.slot, joined.insts]
        exact slot
      rw [slot', joined.steps]
      exact ⟨marked, rfl, rfl,
        ((OnlyIn.refl _ s).step begun (by simp)).step joined.frame (by simp)⟩
    · rw [slot]
      exact ⟨marked, rfl, rfl, (OnlyIn.refl _ s).step begun (by simp)⟩
  case resolve =>
    intro j
    have resolved : exec (.stepResolve n k) s =
        .next (if o.ends.isSome ∨ j.finished then ((s.setSlot n j).endInst n o.ends).settleUnits else s.setSlot n j) := by
      simp only [exec, execStepResolve, out]
      rw [if_neg (by simp [live])]
    refine ⟨fun ends => ?_, fun noEnd unfinished => ?_⟩
    · rw [resolved, if_pos ends]
    · rw [resolved, if_neg (by simp [noEnd, unfinished])]
  case ends =>
    refine ⟨fun none => ⟨fun v => ?_, ?_⟩, fun v x ends => ?_, fun out sh x ends => ?_⟩
    · simp only [State.endInst, none]
    · simp only [State.endInst, none]
    · simp only [State.endInst, ends]
    · simp only [State.endInst, ends]
  case reseed =>
    obtain ⟨words, v⟩ := u
    obtain ⟨drawn, -⟩ := State.takeWords_some taken
    let t : State := { s with ent := { v.ent with stalled := v.ent.stalled.filter (· ≠ Consumer.twillMask) },
                              twl := { s.twl with reseedDue := true }.reseeded }
    refine ⟨t, ?_, rfl, rfl, by simp [t]⟩
    simp only [exec, execTwillMaskReseed, on, State.drawFor, State.takeWords, drawn]
    rfl
  case ksn =>
    intro valid first
    have passes : valid ↔ ¬ (cnt = 0 ∨ (if aes then 16 else 10) < oneBits cnt) := by
      simp only [valid, not_or, Nat.not_lt, ne_eq]
    have firstB : (decide (slice sh 8 10 = zeros 10) && decide (leAt sh 20 4 = 0)) = decide first := by simp [first]
    refine ⟨fun bad => ?_, fun good free => ?_, fun good bound => ⟨fun old other => ?_, fun mine => ⟨fun low => ?_, fun high fits length ikidLength => ?_⟩⟩⟩
    · exact if_pos (not_not.mp (passes.not.mp bad))
    · simp only [ksnCheck]
      rw [if_neg (passes.mp good), if_pos free]
    all_goals
      simp only [ksnCheck, firstB]
      rw [if_neg (passes.mp good), if_neg (by simp [bound])]
    · rw [if_pos ⟨by simpa using old, other⟩]
    all_goals
      rw [if_neg (by rcases mine with h | h <;> simp [h])]
    · rw [if_pos low]
    · rw [if_neg (by omega)]
      have same : decide first = false → slice sh 8 10 = ikid := fun old => mine.resolve_left (by simpa using old)
      exact ⟨_, rfl, ksnBound length ikidLength fits same⟩

/-! ## Format micro-ops and CHILD (files 04 and 05) -/

theorem State.deliverStep_slot {s : State} {n k : Nat} (live : s.stepLive n k = true)
    (new : ((s.slot n).outs.any fun x => x.1 == k) = false) (o : StepOut) :
    (s.deliverStep n k o).slot n = { s.slot n with outs := (s.slot n).outs ++ [(k, o)] } := by
  have delivered : s.deliverStep n k o = s.setSlot n { s.slot n with outs := (s.slot n).outs ++ [(k, o)] } := if_pos ⟨live, new⟩
  rw [delivered, State.slot_setSlot_self]

/-- Settles O20: a micro-op that is ready is `State.deliverStep` of what its function makes of the operands. -/
theorem microOpsDeliverTheirOutput : Obligations.MicroOpsDeliverTheirOutput := by
  intro s n k i x a b c delivers
  have one {prim : Nat} (ready : s.microReady prim n k = true) (f : Inst → Step → StepOut) :
      s.micro prim n k f = (s.deliverStep n k (f i x)).skip 2 := if_pos ready
  refine ⟨fun ready => ?_, fun ready => ?_, fun ready masks => ?_, fun ready => ?_, fun ready => ?_, fun ready => ?_, fun ready => ?_,
    fun ready => ?_, fun ready => ?child, fun o live new => ⟨State.deliverStep_slot live new o, ?_⟩⟩
  · exact congrArg Host.Outcome.next (one ready _)
  · exact congrArg Host.Outcome.next (one ready _)
  · have masked : ¬ (s.twl.reseedDue = true ∧ x.im 0 ≠ 0) := by rcases masks with h | h <;> simp [h]
    exact (if_neg masked).trans (congrArg Host.Outcome.next (one ready _))
  · exact congrArg Host.Outcome.next (one ready _)
  · exact congrArg Host.Outcome.next (one ready _)
  · exact congrArg Host.Outcome.next (one ready _)
  · exact congrArg Host.Outcome.next (one ready _)
  · exact congrArg Host.Outcome.next (one ready _)
  case child =>
    have ready' := ready
    simp only [State.childReady, Bool.and_eq_true, Bool.not_eq_true'] at ready'
    obtain ⟨⟨live, -⟩, new⟩ := ready'
    obtain ⟨d, completes⟩ : ∃ d, exec (.child n k) s = .next (({ s with dmk := d }.deliverStep n k (.data (s.childKey i x))).skip 2) := by
      simp only [exec, execChild, ready, if_true]
      exact ⟨_, rfl⟩
    refine ⟨_, completes, ?_, ?_⟩
    · have slot : ({ s with dmk := d }.deliverStep n k (.data (s.childKey i x))).slot n = { i with outs := i.outs ++ [(k, .data (s.childKey i x))] } :=
        State.deliverStep_slot (s := { s with dmk := d }) live new _
      have old : i.outs.find? (fun y => y.1 == k) = none := List.find?_eq_none.mpr (by simpa using new)
      show ((({ s with dmk := d }.deliverStep n k (.data (s.childKey i x))).slot n).outs.find? fun y : Nat × StepOut => y.1 == k) = _
      rw [slot, List.find?_append, old]
      simp
    · exact OnlyIn.skip (OnlyIn.deliverStep (by simp) n k _ (by simp)) 2 (by simp)
  · exact (OnlyIn.refl _ s).deliverStep n k o (List.Subset.refl _)

/-! ## PIN blocks (file 05) -/

theorem nibbles_cons (x : Byte) (b : Bytes) : nibbles (x :: b) = x.toNat / 16 :: x.toNat % 16 :: nibbles b := rfl

theorem nibbles_length (b : Bytes) : (nibbles b).length = 2 * b.length := by
  induction b with
  | nil => rfl
  | cons x b ih =>
    rw [nibbles_cons, List.length_cons, List.length_cons, List.length_cons, ih]
    omega

theorem nibbles_lt {b : Bytes} {n : Nat} (mem : n ∈ nibbles b) : n < 16 := by
  simp only [nibbles, List.mem_flatMap, List.mem_cons, List.not_mem_nil, or_false] at mem
  obtain ⟨x, -, rfl | rfl⟩ := mem
  · have := x.isLt
    omega
  · exact Nat.mod_lt _ (by decide)

/-- Nibbles of whole bytes read back from the bytes they pack into. -/
theorem nibbles_packNibbles : ∀ l : List Nat, l.length % 2 = 0 → (∀ n ∈ l, n < 16) → nibbles (packNibbles l) = l
  | [], _, _ => rfl
  | [_], odd, _ => absurd odd (by decide : ¬ 1 % 2 = 0)
  | x :: y :: l, even, small => by
    have hx : x < 16 := small x (by simp)
    have hy : y < 16 := small y (by simp)
    have rest := nibbles_packNibbles l (by rw [List.length_cons, List.length_cons] at even; omega) fun n mem => small n (by simp [mem])
    have byte : (BitVec.ofNat 8 (16 * x + y)).toNat = 16 * x + y := by
      rw [BitVec.toNat_ofNat, Nat.mod_eq_of_lt (by omega)]
    rw [packNibbles, nibbles_cons, rest, byte]
    congr 1
    · omega
    · congr 1
      omega

theorem packNibbles_nibbles (b : Bytes) : packNibbles (nibbles b) = b := by
  induction b with
  | nil => rfl
  | cons x b ih =>
    rw [nibbles_cons, packNibbles, ih, Nat.div_add_mod, BitVec.ofNat_toNat, BitVec.setWidth_eq]

theorem packNibbles_length : ∀ l : List Nat, (packNibbles l).length = (l.length + 1) / 2
  | [] => rfl
  | [_] => by simp [packNibbles]
  | x :: y :: l => by
    rw [packNibbles, List.length_cons, packNibbles_length l, List.length_cons, List.length_cons]
    omega

theorem xorBytes_xorBytes : ∀ {a b : Bytes}, a.length = b.length → xorBytes (xorBytes a b) b = a
  | [], [], _ => rfl
  | x :: a, y :: b, same => by
    have rest := xorBytes_xorBytes (Nat.succ.inj same)
    unfold xorBytes at rest ⊢
    rw [List.zipWith_cons_cons, List.zipWith_cons_cons, rest, BitVec.xor_assoc, BitVec.xor_self, BitVec.xor_zero]

/-- The fill of a PIN block is as long as asked for, of nibbles, and passes the check of its format (R149). -/
theorem pinFill_fills {fmt : Nat} (known : fmt = 0 ∨ fmt = 1 ∨ fmt = 3 ∨ fmt = 4) (l : List Nat) :
    (pinFill fmt l).length = l.length ∧ (∀ n ∈ pinFill fmt l, n < 16) ∧ fillOk fmt (pinFill fmt l) = true := by
  rcases known with rfl | rfl | rfl | rfl
  · simp [pinFill, fillOk]
  · refine ⟨by simp [pinFill], fun n mem => ?_, rfl⟩
    obtain ⟨x, -, rfl⟩ := List.mem_map.mp (show n ∈ l.map (· % 16) from mem)
    exact Nat.mod_lt _ (by decide)
  · refine ⟨by simp [pinFill], fun n mem => ?_, by simp [pinFill, fillOk]⟩
    obtain ⟨x, -, rfl⟩ := List.mem_map.mp (show n ∈ l.map (fun x => 0xA + x % 6) from mem)
    omega
  · simp [pinFill, fillOk]

/-- The nibbles of a block are those that it was packed from, in every format (R149). -/
theorem pinNibbles_block {fmt : Nat} {b blk tail : Bytes} (length : b.length = 8) (whole : blk.length = 8) :
    pinNibbles fmt (if fmt = 0 ∨ fmt = 3 then xorBytes blk b else if fmt = 4 then blk ++ tail else blk) b = nibbles blk := by
  unfold pinNibbles
  split
  · have eight : (xorBytes blk b).take 8 = xorBytes blk b := List.take_of_length_le (by simp [xorBytes, whole, length])
    rw [eight, xorBytes_xorBytes (whole.trans length.symm)]
  · split
    · rw [← whole, List.take_left]
    · rw [List.take_of_length_le (Nat.le_of_eq whole)]

/-- A PIN and what follows it are the nibbles that the PIN came with. -/
theorem digits_filled {n : List Nat} {len : Nat} (twelve : n.length = 12) (rest : (n.drop len).all (fun x => decide (x = 0xF)) = true) :
    n.take len ++ List.replicate (12 - len) 0xF = n := by
  have fill : n.drop len = List.replicate (12 - len) 0xF := by
    rw [List.eq_replicate_iff, List.length_drop, twelve]
    exact ⟨rfl, by simpa using rest⟩
  rw [← fill, List.take_append_drop]

/-- Settles O21: a block's nibbles are packed and unpacked unchanged, and what follows the PIN is its fill. -/
theorem pinBlocksParseToTheirPin : Obligations.PinBlocksParseToTheirPin := by
  intro fmt a b tail blk nib known seven eight fourteen built
  have small : fmt < 16 := by omega
  obtain ⟨first, digits, rfl⟩ : ∃ x l, a = x :: l := by
    cases a with
    | nil => cases seven
    | cons x l => exact ⟨x, l, rfl⟩
  have six : digits.length = 6 := by simpa using seven
  have head : leAt (first :: digits) 0 1 = first.toNat := by simp [leAt, slice, leNat]
  have body : slice (first :: digits) 1 6 = digits := by simp [slice, List.take_of_length_le (Nat.le_of_eq six)]
  have twelve : (nibbles digits).length = 12 := by rw [nibbles_length, six]
  unfold pinbBuild at built
  rw [head, body] at built
  dsimp only at built
  split at built
  case isFalse => cases built
  next valid =>
    obtain ⟨low, high, pin, rest⟩ := valid
    obtain ⟨filled, fillSmall, fillGood⟩ := pinFill_fills known (nib.take (14 - first.toNat))
    have fillLength : (pinFill fmt (nib.take (14 - first.toNat))).length = 14 - first.toNat := by
      rw [filled, List.length_take, fourteen]
      omega
    have pinLength : ((nibbles digits).take first.toNat).length = first.toNat := by
      rw [List.length_take, twelve]
      omega
    generalize pinFill fmt (nib.take (14 - first.toNat)) = fill at *
    have sixteen : ([fmt, first.toNat] ++ (nibbles digits).take first.toNat ++ fill).length = 16 := by
      rw [List.length_append, List.length_append, pinLength, fillLength, List.length_cons, List.length_singleton]
      omega
    have read : nibbles (packNibbles ([fmt, first.toNat] ++ (nibbles digits).take first.toNat ++ fill))
        = [fmt, first.toNat] ++ (nibbles digits).take first.toNat ++ fill := by
      refine nibbles_packNibbles _ (by rw [sixteen]) fun n mem => ?_
      rcases List.mem_append.mp mem with mem | mem
      · rcases List.mem_append.mp mem with mem | mem
        · rcases List.mem_cons.mp mem with rfl | mem
          · exact small
          · rw [List.mem_singleton.mp mem]
            omega
        · exact nibbles_lt (List.mem_of_mem_take mem)
      · exact fillSmall n mem
    rw [← StepOut.data.inj built]
    unfold pinbParse
    rw [pinNibbles_block eight (by rw [packNibbles_length, sixteen]), read]
    have parts : ([fmt, first.toNat] ++ (nibbles digits).take first.toNat ++ fill).drop 2 = (nibbles digits).take first.toNat ++ fill := rfl
    have after : ([fmt, first.toNat] ++ (nibbles digits).take first.toNat ++ fill).drop (2 + first.toNat) = fill := by
      rw [← List.drop_drop, parts, List.drop_left' pinLength]
    have front : ((nibbles digits).take first.toNat ++ fill).take first.toNat = (nibbles digits).take first.toNat :=
      List.take_left' pinLength
    have second : ([fmt, first.toNat] ++ (nibbles digits).take first.toNat ++ fill)[1]?.getD 0 = first.toNat := rfl
    have zeroth : ([fmt, first.toNat] ++ (nibbles digits).take first.toNat ++ fill)[0]?.getD 15 = fmt := rfl
    simp only [second, zeroth, parts, after, front]
    rw [if_pos ⟨trivial, low, high, pin, fillGood⟩, digits_filled twelve rest, packNibbles_nibbles, BitVec.ofNat_toNat, BitVec.setWidth_eq]

end Sys2Proof.Machine
end

section
/-! PROOFS. Lemmas and obligations: Damask. -/

namespace Sys2Proof.Machine

set_option Elab.async false

/-! ## Node records and contexts through their bytes (file 06) -/

theorem slice_append_left {a b : Bytes} {off n : Nat} (inside : off + n ≤ a.length) : slice (a ++ b) off n = slice a off n := by
  rw [slice, List.drop_append_of_le_length (by omega), List.take_append_of_le_length (by rw [List.length_drop]; omega), slice]

theorem slice_append_end {a b : Bytes} {off n : Nat} (from' : a.length = off) (length : b.length = n) : slice (a ++ b) off n = b := by
  rw [slice, List.drop_left' from', List.take_of_length_le (Nat.le_of_eq length)]

theorem slice_all {b : Bytes} {n : Nat} (length : b.length = n) : slice b 0 n = b := by
  rw [slice, List.drop_zero, List.take_of_length_le (Nat.le_of_eq length)]

theorem zeros_length (n : Nat) : (zeros n).length = n := List.length_replicate

theorem take_padded {p : Bytes} {n : Nat} (length : p.length = n) : (p ++ zeros n).take n = p := List.take_left' length

theorem nodeAt_bytes {n : Node} (tenant : n.tenant < 256) (kind : n.kind < 256) (parent : n.parent < 65536) (depth : n.depth < 256)
    (alg : n.alg < 256) (colour : n.colour < 256) (blimit : n.blimit < 256) (limit : n.limit < 2 ^ 32) (block : n.block < 65536)
    (owner : n.owner < 65536) (gslot : n.gslot < 65536) : nodeAt n.bytes 0 = { n with runtime := false, epochPwr := 0, epochRst := 0 } := by
  have flags := n.flags.isLt
  have usage := n.usage.isLt
  have exportBits := n.exportBits.isLt
  have name := n.name.isLt
  simp (disch := simp [leBytes_length, zeros_length]) only [nodeAt, Node.bytes, leAt, Nat.zero_add, slice_append_left, slice_append_end,
    slice_all]
  simp (disch := omega) only [leNat_leBytes, BitVec.ofNat_toNat, BitVec.setWidth_eq]

theorem slice_append_right {a b : Bytes} {k : Nat} (length : a.length = k) (off n : Nat) : slice (a ++ b) (off + k) n = slice b off n := by
  rw [slice, slice, ← length, Nat.add_comm, List.drop_length_add_append]

/-- The first four bytes of a context and the word after them, and what follows these eight (R191). -/
theorem head_fields {f : Bool} {ty t aux : Nat} (tenant : t < 256) (kind : ty < 256) (word : aux < 2 ^ 32) (rest : Bytes) :
    let b := leBytes 1 ty ++ leBytes 1 (flag f) ++ leBytes 1 t ++ [0] ++ leBytes 4 aux ++ rest
    leAt b 0 1 = ty ∧ decide (leAt b 1 1 % 2 = 1) = f ∧ leAt b 2 1 = t ∧ leAt b 4 4 = aux
      ∧ ∀ off n, slice b (off + 8) n = slice rest off n := by
  have frozen : flag f < 256 := by cases f <;> decide
  have odd : decide (flag f % 2 = 1) = f := by cases f <;> rfl
  refine ⟨?_, ?_, ?_, ?_, fun off n => slice_append_right (by simp [leBytes_length]) off n⟩
  all_goals simp (disch := simp [leBytes_length]) only [leAt, slice_append_left, slice_append_end, slice_all]
  · exact leNat_leBytes kind
  · rw [leNat_leBytes frozen, odd]
  · exact leNat_leBytes tenant
  · exact leNat_leBytes word

/-- A number that stands in a field of what follows the head is read there. -/
theorem leAt_tail {b rest : Bytes} {off n x : Nat} (tail : ∀ off n, slice b (off + 8) n = slice rest off n)
    (field : slice rest off n = leBytes n x) (fits : x < 256 ^ n) : leAt b (off + 8) n = x := by
  rw [leAt, tail, field, leNat_leBytes fits]

theorem ctxAt_kstate {f : Bool} {t e : Nat} {k : KState} (tenant : t < 256) (entry : e < 2 ^ 32) (used : k.used < 2 ^ 32)
    (ceil : k.ceil < 2 ^ 32) (blkUsed : k.blkUsed < 2 ^ 64) (bceil : k.bceil < 2 ^ 32) (nonce : k.nonceCtr < 2 ^ 64) :
    ctxAt (Ctx.bytes { frozen := f, tenant := t, body := .kstate e k }) = { frozen := f, tenant := t, body := .kstate e k } := by
  obtain ⟨rest, hrest⟩ : ∃ r, r = leBytes 8 k.handle.toNat ++ leBytes 4 k.used ++ leBytes 4 k.ceil ++ leBytes 8 k.blkUsed
      ++ leBytes 4 k.bceil ++ zeros 4 ++ leBytes 8 k.nonceCtr ++ zeros 16 := ⟨_, rfl⟩
  have bytes : Ctx.bytes { frozen := f, tenant := t, body := .kstate e k }
      = leBytes 1 1 ++ leBytes 1 (flag f) ++ leBytes 1 t ++ [0] ++ leBytes 4 e ++ rest := by
    simp only [hrest, Ctx.bytes, List.append_assoc]
  obtain ⟨type, frozen, owner, aux, tail⟩ := head_fields (f := f) (ty := 1) tenant (by decide) entry rest
  rw [← bytes] at type frozen owner aux tail
  obtain ⟨r0, r1, r2, r3, r4, r5⟩ : slice rest 0 8 = leBytes 8 k.handle.toNat ∧ slice rest 8 4 = leBytes 4 k.used
      ∧ slice rest 12 4 = leBytes 4 k.ceil ∧ slice rest 16 8 = leBytes 8 k.blkUsed ∧ slice rest 24 4 = leBytes 4 k.bceil
      ∧ slice rest 32 8 = leBytes 8 k.nonceCtr := by
    simp (disch := simp [leBytes_length, zeros_length]) only [hrest, slice_append_left, slice_append_end, slice_all, and_self]
  simp only [ctxAt, type, frozen, owner, aux, leAt_tail tail r0 k.handle.isLt, leAt_tail tail r1 used, leAt_tail tail r2 ceil,
    leAt_tail tail r3 blkUsed, leAt_tail tail r4 bceil, leAt_tail tail r5 nonce]
  simp

theorem ctxAt_leaf {f : Bool} {t w : Nat} {h : W64} {p : Bytes} (tenant : t < 256) (word : w < 2 ^ 32) (length : p.length = 48) :
    ctxAt (Ctx.bytes { frozen := f, tenant := t, body := .leaf h w p }) = { frozen := f, tenant := t, body := .leaf h w p } := by
  have bytes : Ctx.bytes { frozen := f, tenant := t, body := .leaf h w p }
      = leBytes 1 2 ++ leBytes 1 (flag f) ++ leBytes 1 t ++ [0] ++ leBytes 4 w ++ (leBytes 8 h.toNat ++ p) := by
    simp only [Ctx.bytes, take_padded length, List.append_assoc]
  obtain ⟨type, frozen, owner, aux, tail⟩ := head_fields (f := f) (ty := 2) tenant (by decide) word (leBytes 8 h.toNat ++ p)
  rw [← bytes] at type frozen owner aux tail
  have r0 : slice (leBytes 8 h.toNat ++ p) 0 8 = leBytes 8 h.toNat := by
    rw [slice_append_left (by rw [leBytes_length]), slice_all (leBytes_length 8 _)]
  have r1 : slice (Ctx.bytes { frozen := f, tenant := t, body := .leaf h w p }) 16 48 = p :=
    (tail 8 48).trans (slice_append_end (leBytes_length 8 _) length)
  simp only [ctxAt, type, frozen, owner, aux, leAt_tail tail r0 h.isLt, r1]
  simp

/-- A context whose bytes after the head are as they stand. -/
theorem ctxAt_plain {f : Bool} {t ty aux : Nat} {p : Bytes} {body : CtxBody} (tenant : t < 256) (kind : ty < 256) (word : aux < 2 ^ 32)
    (length : p.length = 56) (bytes : Ctx.bytes { frozen := f, tenant := t, body := body }
      = leBytes 1 ty ++ leBytes 1 (flag f) ++ leBytes 1 t ++ [0] ++ leBytes 4 aux ++ (p ++ zeros 56).take 56)
    (same : ty = 3 ∧ body = .cont aux p ∨ ty = 4 ∧ body = .dukpt p ∨ ty = 5 ∧ body = .session p) :
    ctxAt (Ctx.bytes { frozen := f, tenant := t, body := body }) = { frozen := f, tenant := t, body := body } := by
  rw [take_padded length] at bytes
  obtain ⟨type, frozen, owner, aux', tail⟩ := head_fields (f := f) (ty := ty) tenant kind word p
  rw [← bytes] at type frozen owner aux' tail
  have whole : slice (Ctx.bytes { frozen := f, tenant := t, body := body }) 8 56 = p := (tail 0 56).trans (slice_all length)
  simp only [ctxAt, type, frozen, owner, aux', whole]
  rcases same with ⟨rfl, rfl⟩ | ⟨rfl, rfl⟩ | ⟨rfl, rfl⟩ <;> rfl

theorem ctxAt_chain {f : Bool} {t : Nat} {k : Chain} (tenant : t < 256) (mode : k.mode < 256) (dir : k.dir < 256) (depth : k.depth < 256)
    (blocks : k.blocks < 2 ^ 32) (chaining : k.chaining.length = 16) (ghash : k.ghash.length = 16) (aad : k.aad < 2 ^ 24)
    (text : k.text < 2 ^ 24) (core : k.core < 2 ^ 32) : ctxAt (Ctx.bytes { frozen := f, tenant := t, body := .chain k })
      = { frozen := f, tenant := t, body := .chain { k with mac := none } } := by
  obtain ⟨rest, hrest⟩ : ∃ r, r = leBytes 8 k.handle.toNat ++ leBytes 1 k.mode ++ leBytes 1 k.dir ++ leBytes 1 k.depth ++ [0]
      ++ leBytes 4 k.blocks ++ k.chaining ++ k.ghash ++ leBytes 3 k.aad ++ leBytes 3 k.text ++ zeros 2 := ⟨_, rfl⟩
  have bytes : Ctx.bytes { frozen := f, tenant := t, body := .chain k }
      = leBytes 1 6 ++ leBytes 1 (flag f) ++ leBytes 1 t ++ [0] ++ leBytes 4 k.core ++ rest := by
    simp only [hrest, Ctx.bytes, take_padded chaining, take_padded ghash, List.append_assoc]
  obtain ⟨type, frozen, owner, aux, tail⟩ := head_fields (f := f) (ty := 6) tenant (by decide) core rest
  rw [← bytes] at type frozen owner aux tail
  obtain ⟨r0, r1, r2, r3, r4, r5, r6, r7, r8⟩ : slice rest 0 8 = leBytes 8 k.handle.toNat ∧ slice rest 8 1 = leBytes 1 k.mode
      ∧ slice rest 9 1 = leBytes 1 k.dir ∧ slice rest 10 1 = leBytes 1 k.depth ∧ slice rest 12 4 = leBytes 4 k.blocks
      ∧ slice rest 16 16 = k.chaining ∧ slice rest 32 16 = k.ghash ∧ slice rest 48 3 = leBytes 3 k.aad
      ∧ slice rest 51 3 = leBytes 3 k.text := by
    simp (disch := simp [leBytes_length, zeros_length, chaining, ghash]) only [hrest, slice_append_left, slice_append_end, slice_all,
      and_self]
  have chainingRead : slice (Ctx.bytes { frozen := f, tenant := t, body := .chain k }) 24 16 = k.chaining := (tail 16 16).trans r5
  have ghashRead : slice (Ctx.bytes { frozen := f, tenant := t, body := .chain k }) 40 16 = k.ghash := (tail 32 16).trans r6
  simp only [ctxAt, type, frozen, owner, aux, leAt_tail tail r0 k.handle.isLt, leAt_tail tail r1 mode, leAt_tail tail r2 dir,
    leAt_tail tail r3 depth, leAt_tail tail r4 blocks, chainingRead, ghashRead, leAt_tail tail r7 aad, leAt_tail tail r8 text]
  simp

/-- Settles O23: each field stands at its place in the bytes, and reads back from there. -/
theorem nodesAndContextsKeepTheirFields : Obligations.NodesAndContextsKeepTheirFields := by
  refine ⟨fun n tenant kind parent depth alg colour blimit limit block owner gslot =>
      nodeAt_bytes tenant kind parent depth alg colour blimit limit block owner gslot,
    fun f t e k tenant entry used ceil blkUsed bceil nonce => ctxAt_kstate tenant entry used ceil blkUsed bceil nonce,
    fun f t w h p tenant wlen length => ctxAt_leaf tenant wlen length,
    fun f t c p tenant head length => ⟨?_, ?_, ?_⟩,
    fun f t k tenant mode dir depth blocks chaining ghash aad text core =>
      ctxAt_chain tenant mode dir depth blocks chaining ghash aad text core, rfl⟩
  · exact ctxAt_plain tenant (by decide : 3 < 256) head length rfl (.inl ⟨rfl, rfl⟩)
  · exact ctxAt_plain tenant (by decide : 4 < 256) (by decide : 0 < 2 ^ 32) length rfl (.inr (.inl ⟨rfl, rfl⟩))
  · exact ctxAt_plain tenant (by decide : 5 < 256) (by decide : 0 < 2 ^ 32) length rfl (.inr (.inr ⟨rfl, rfl⟩))

/-! ## Handles and the counts of keys (file 06) -/

theorem State.resolve_error {s : State} {t colour : Nat} {h : W64} {x : Rej} (refused : s.handleChecks t colour h = .error x) :
    s.resolve t colour h = .error x := by
  simp only [State.resolve, refused]

/-- Settles O22: the checks of a handle in their order, and each count by the branch that its key takes. -/
theorem handlesAreCheckedAndTheirUsesCounted : Obligations.HandlesAreCheckedAndTheirUsesCounted := by
  refine ⟨fun s t colour h => ⟨fun shut => ?_, fun root unlocked steady => ⟨fun foreign => ?_, fun own none => ?_,
      fun n own node => ⟨fun form => ?_, fun form other denied => ?_⟩⟩⟩,
    fun s u t e c op h k n bound => ⟨fun limit spent => ?_, fun limit left reserved => ?_, fun free => ?_,
      fun b tracked fits reserved => ?_, fun issues => ?_⟩⟩
  · exact State.resolve_error (if_pos shut)
  · exact State.resolve_error (by simp [State.handleChecks, root, unlocked, steady, foreign])
  · exact State.resolve_error (by simp [State.handleChecks, root, unlocked, steady, own, none])
  · exact State.resolve_error (by simp [State.handleChecks, root, unlocked, steady, own, node, form])
  · exact State.resolve_error (by simp [State.handleChecks, root, unlocked, steady, own, node, form, other, denied])
  · simp [State.countUse, bound, limit, spent]
  · simp [State.countUse, bound, limit, left, reserved]
  · simp [State.countUse, free]
  · simp [State.chargeBlocks, bound, tracked, fits, reserved]
  · simp [State.issueNonce, bound, issues]

/-! ## Key blocks (file 05) -/

/-- Settles O24: each command is read along its checks. -/
theorem keyBlocksAreImportedAndExported : Obligations.KeyBlocksAreImportedAndExported := by
  refine fun s r => ⟨fun x t k n y turn ctx head key alg checks imported room => ?_, fun turn ctx head => ?_,
    fun s1 k0 n0 s2 k1 n1 m turn wrap wrapChecks key keyChecks may mask order => ?_, fun t k n turn method key checks => ?_⟩
  · simp only [Answers, exec, execKeyblockImport, turn.runs, State.keyblockImport, ctx, head, key, alg, checks, imported]
    rw [if_neg (by simp), if_neg (by simp), if_neg (by omega)]
  · simp only [exec, execKeyblockImport, turn.runs, State.keyblockImport, ctx, head]
    rw [if_neg (by simp)]
  · simp only [Answers, exec, execKeyblockExport, turn.runs, State.keyblockExport, wrap, wrapChecks, key, keyChecks, may, mask]
    rw [if_neg (by simp), if_neg (by omega)]
  · simp only [Answers, exec, execKeyCheckValue, turn.runs, State.keyCheckValue, key, checks]
    rw [if_neg (by omega)]

/-! ## Nodes and leaves (file 06) -/

/-- Settles O25: each command is read along its checks. -/
theorem nodesAndLeavesAnswer : Obligations.NodesAndLeavesAnswer := by
  refine fun s r => ⟨fun n => ?create, fun x => ?delete, fun x turn node => ?query, fun n b t turn new node room sym noPub drawn => ?generate,
    fun t k n turn key leaf checks => ?wipe, fun x turn node slot room => ?retire, fun t k n turn key new pub unit => ?pubkey,
    fun t k n turn key => ?counter⟩
  case create =>
    intro x turn mine zero sound quota free t
    simp only [Answers, exec, execNodeCreate, turn.runs, State.nodeCreate]
    rw [if_neg (by simp [show (nodeAt r.bytes 0).tenant = r.tenant from mine, zero,
      show (nodeAt r.bytes 0).ok true (s.tenantNode r.tenant (nodeAt r.bytes 0).parent) s.nodeList = true from sound]),
      if_neg (by omega), free]
  case delete =>
    intro n turn node runtime childless leafless
    refine ⟨(s.setNode n none).dropCached fun g => g.tenant == x.tenant && g.node == n, ?_, SMap.get_set_self none s.dmk.nodes n none, ?_⟩
    · simp only [Answers, exec, execNodeDelete, turn.runs, State.nodeDelete, show s.tenantNode r.tenant (r.desc.par 0 2) = some x from node]
      rw [if_neg (not_or.mpr ⟨by simp [runtime], not_or.mpr ⟨Bool.not_eq_true _ ▸ childless, not_not.mpr leafless⟩⟩)]
    · exact OnlyIn.dropCached (by simp [State.setNode]) _ (by simp)
  case query =>
    simp only [Answers, exec, execNodeQuery, turn.runs, node]
  case generate =>
    have kinds : isRsa n.alg = false ∧ isMldsa n.alg = false ∧ isMlkem n.alg = false := by
      simp only [isAsym, Bool.or_eq_false_iff] at sym
      obtain ⟨⟨⟨-, rsa⟩, mldsa⟩, mlkem⟩ := sym
      exact ⟨rsa, mldsa, mlkem⟩
    obtain ⟨rsa, mldsa, mlkem⟩ := kinds
    simp only [Answers, exec, execKeyGenerate, turn.runs, State.keyGenerate, new, node, room, noPub, rsa, mldsa, mlkem, State.makeLeaf,
      drawn]
    simp
  case wipe =>
    simp [Answers, exec, execLeafDelete, turn.runs, State.leafDelete, key, leaf, checks]
  case retire =>
    let n := r.desc.par 0 2
    let t := { s with dmk := { s.dmk with gens := SMap.set 0 s.dmk.gens x.gslot (s.leafGen x + 1) } }
    refine ⟨t.dropCached fun y => y.tenant == x.tenant && y.node == n, ?_, ?_, OnlyIn.dropCached (by simp [t]) _ (by simp)⟩
    · simp only [Answers, exec, execLeafRetire, turn.runs, node]
      rw [if_neg (not_or.mpr ⟨slot, room⟩)]
    · rw [State.leafGen, if_neg slot]
      exact SMap.get_set_self 0 s.dmk.gens x.gslot (s.leafGen x + 1)
  case pubkey =>
    simp [exec, execPubkeyRead, turn.runs, State.pubkeyRead, key, new, pub, unit]
  case counter =>
    refine ⟨fun here => ?_, fun limit away => ?_⟩
    · simp only [Answers, exec, execCounterQuery, turn.runs, State.counterQuery, key]
      rw [if_neg (by rcases here with h | h <;> simp [h])]
    · simp only [exec, execCounterQuery, turn.runs, State.counterQuery, key]
      rw [if_pos ⟨limit, away⟩]

/-! ## Contexts (file 06) -/

@[simp] theorem State.ctx_setCtx_self (s : State) (c : Nat) (x : Ctx) : (s.setCtx c x).ctx c = x := SMap.get_set_self Ctx.free s.dmk.ctx c x

theorem State.ctx_setCtx_other (s : State) {c k : Nat} (other : k ≠ c) (x : Ctx) : (s.setCtx c x).ctx k = s.ctx k :=
  SMap.get_set_other Ctx.free s.dmk.ctx other x

theorem State.setCtxs_free (k : Nat) (cs : List Nat) : ∀ s : State, s.ctx k = Ctx.free →
    (s.setCtxs (cs.map fun c => (c, Ctx.free))).ctx k = Ctx.free := by
  induction cs with
  | nil => exact fun s free => free
  | cons c cs ih =>
    refine fun s free => ih (s.setCtx c Ctx.free) ?_
    by_cases here : k = c
    · rw [here, State.ctx_setCtx_self]
    · rw [State.ctx_setCtx_other s here, free]

/-- A context that is cleared is free, and one that is free stays free while others are cleared (R203). -/
theorem State.clearCtx_free {s : State} {c k : Nat} (free : k = c ∨ s.ctx k = Ctx.free) : (s.clearCtx c).ctx k = Ctx.free := by
  by_cases here : k = c
  · rw [here]
    exact State.ctx_setCtx_self ..
  · refine (State.ctx_setCtx_other _ here _).trans ?_
    have free' := free.resolve_left here
    unfold State.wipeLeaf
    split
    · next w _ _ =>
      have parts : ((List.range (leafCount w)).map fun j => (c + j, Ctx.free))
          = ((List.range (leafCount w)).map (c + ·)).map fun c => (c, Ctx.free) := by simp
      rw [parts]
      exact State.setCtxs_free k _ s free'
    · exact free'

theorem State.clearAll_free {k : Nat} (l : List Nat) : ∀ s : State, k ∈ l ∨ s.ctx k = Ctx.free →
    (l.foldl State.clearCtx s).ctx k = Ctx.free := by
  induction l with
  | nil => exact fun s free => free.resolve_left List.not_mem_nil
  | cons c l ih =>
    refine fun s free => ih (s.clearCtx c) ?_
    rw [List.mem_cons] at free
    rcases free with (here | later) | free
    · exact .inr (State.clearCtx_free (.inl here))
    · exact .inl later
    · exact .inr (State.clearCtx_free (.inr free))

/-- The keys of nodes are derived through the key cache alone (R195). -/
theorem State.chainKey_ctx (s : State) (t : Nat) (l : List (Nat × Node)) : (s.chainKey t l).2.2.ctx = s.dmk.ctx := by
  induction l with
  | nil =>
    unfold State.chainKey
    dsimp only
    split <;> rfl
  | cons x l ih =>
    unfold State.chainKey
    dsimp only
    split
    · rfl
    · exact ih

theorem State.freezeCtx_ctx (s : State) (c k : Nat) :
    (s.freezeCtx c).ctx k = if k = c ∧ 4 ≤ (s.ctx k).ty then { s.ctx k with frozen := true } else s.ctx k := by
  unfold State.freezeCtx
  by_cases here : k = c
  · subst here
    split <;> simp [*]
  · split
    · simp [here, State.ctx_setCtx_other]
    · simp [here]

/-- The contexts of types 4 to 6 among those exported are frozen, and the others as they were (R203). -/
theorem State.freezeAll_ctx (l : List Nat) (k : Nat) : ∀ s : State,
    (l.foldl State.freezeCtx s).ctx k = if k ∈ l ∧ 4 ≤ (s.ctx k).ty then { s.ctx k with frozen := true } else s.ctx k := by
  induction l with
  | nil => exact fun s => by simp
  | cons c l ih =>
    intro s
    rw [List.foldl_cons, ih, s.freezeCtx_ctx]
    by_cases own : k = c ∧ 4 ≤ (s.ctx k).ty
    · rw [if_pos own]
      have mine : k ∈ c :: l ∧ 4 ≤ (s.ctx k).ty := ⟨List.mem_cons.mpr (.inl own.1), own.2⟩
      rw [if_pos mine]
      split <;> rfl
    · rw [if_neg own]
      by_cases later : k ∈ l <;> simp_all

/-- Settles O26: each command is read along its checks, and a range of contexts by what each of its steps leaves. -/
theorem contextsAreInitialisedMovedAndCleared : Obligations.ContextsAreInitialisedMovedAndCleared := by
  intro s r c n
  refine ⟨fun turn mine free => ⟨fun type none => ?_, fun type length => ?_⟩, fun turn mine clear => ?clear, fun turn mine keys free room => ?exported,
    fun t m turn whole keys taken => ?imported, fun turn mine => ?query⟩
  · simp only [Answers, exec, execCtxInit, turn.runs, State.ctxInit, mine]
    rw [if_neg (by simp [type, show s.ctx r.desc.ctxNo = Ctx.free from free]), if_pos type]
  · have body : (r.bytes ++ zeros 56).take 56 = r.bytes := take_padded ((request_bytes_length r).trans length)
    simp only [Answers, exec, execCtxInit, turn.runs, State.ctxInit, mine]
    rw [if_neg (by simp [type, show s.ctx r.desc.ctxNo = Ctx.free from free]), if_neg (by omega), body]
  case clear =>
    refine ⟨((List.range n).map (c + ·)).foldl State.clearCtx s, ?_, fun k inside => ?_, ?_⟩
    · simp only [Answers, exec, execCtxClear, turn.runs, State.ctxClear, show s.ctxRange r (r.desc.par 0 2) = none from mine]
      rw [if_neg (Bool.not_eq_true _ ▸ clear)]
    · exact State.clearAll_free _ s (.inl (List.mem_map_of_mem (List.mem_range.mpr inside)))
    · exact (OnlyIn.refl _ s).fold (fun u k => (OnlyIn.refl _ u).clearCtx k (List.Subset.refl _)) _
  case exported =>
    refine ⟨((List.range n).map (c + ·)).foldl State.freezeCtx (s.derived r.tenant 1), ?_, fun k inside type => ?_, ?_⟩
    · simp only [Answers, exec, execCtxExport, turn.runs, State.ctxExport, show s.ctxRange r (r.desc.par 0 2) = none from mine, keys]
      rw [if_neg (by simp), if_neg (Bool.not_eq_true _ ▸ free), if_neg (Nat.not_lt.mpr room)]
    · have same : (s.derived r.tenant 1).ctx (c + k) = s.ctx (c + k) := by
        rw [State.ctx, State.derived, State.parentKey, State.chainKey_ctx]
        rfl
      rw [State.freezeAll_ctx, same, if_pos ⟨List.mem_map_of_mem (List.mem_range.mpr inside), type⟩]
    · exact OnlyIn.fold ((OnlyIn.refl _ s).derived _ _ (by simp)) (fun u k => (OnlyIn.refl _ u).freezeCtx k (List.Subset.refl _)) _
  case imported =>
    simp only [Answers, exec, execCtxImport, turn.runs, State.ctxImport, keys, taken]
    rw [if_neg (by simp [whole]), if_neg (by simp)]
  case query =>
    simp only [Answers, exec, execCtxQuery, turn.runs, show s.ctxRange r (r.desc.par 0 2) = none from mine, n, c]

/-! ## DMK_LOCK and DMK_FLUSH (file 06) -/

theorem State.byControl_of_inControl {s : State} {who : Initiator} (control : s.inControl who = true) (f : State → State) :
    s.byControl who f = f s := if_pos control

theorem State.byControl_of_other {s : State} {who : Initiator} (other : s.inControl who = false) (f : State → State) :
    s.byControl who f = s.dropWrite who := if_neg (by simp [other])

/-- Settles O27: the writes of the supervisor in control are carried out, and those of others dropped. -/
theorem damaskIsLockedAndFlushedByTheSupervisorInControl : Obligations.DamaskIsLockedAndFlushedByTheSupervisorInControl := by
  refine fun s who on => ⟨fun control => ⟨?lock, fun mode sinv held => ?unlock, fun shut => ?refuse, fun t => ?tenant, ?all⟩, fun other t => ?other⟩
  all_goals simp only [Completes, exec, execDmkLockWrite, execDmkFlushTenant, execDmkFlushAll, on]
  case other =>
    simp [State.byControl_of_other other]
  all_goals simp only [State.byControl_of_inControl control]
  case lock => rfl
  case unlock => simp [mode, sinv, held]
  case refuse => simp [shut]
  case tenant =>
    refine ⟨_, rfl, fun x mem y cached => ?_, (OnlyIn.refl _ s).dropCached _ (List.Subset.refl _)⟩
    obtain ⟨-, kept⟩ := List.mem_filter.mp mem
    simpa [cached] using kept
  case all =>
    refine ⟨_, rfl, ?_, (OnlyIn.refl _ s).dropCached _ (List.Subset.refl _)⟩
    refine List.filter_eq_nil_iff.mpr fun x _ => ?_
    cases x.2 <;> simp

end Sys2Proof.Machine
end

section
/-! PROOFS. Lemmas and obligations: the engines. -/

namespace Sys2Proof.Machine

set_option Elab.async false

/-! ## Raw commands and steps join their unit (files 07 to 09) -/

/-- The place of a job is a matter of the power, the instances of its unit and the results held (R137). -/
theorem State.placeFor_congr {s t : State} {u : EngUnit} (pwr : t.pwr = s.pwr) (part : t.part = s.part)
    (insts : (t.engine u).insts = (s.engine u).insts) (twl : t.twl.insts = s.twl.insts) (p : PoolRec) (j : Job) :
    t.placeFor u p j = s.placeFor u p j := by
  have inst (n : Nat) : t.inst u n = s.inst u n := by rw [State.inst, insts, State.inst]
  have need : t.heldNeed j = s.heldNeed j := by
    unfold State.heldNeed State.slot
    rw [twl]
  have fits (n : Nat) : t.heldFits u n j = s.heldFits u n j := by
    have bytes : t.heldBytes u n = s.heldBytes u n := by rw [State.heldBytes, twl, State.heldBytes]
    rw [State.heldFits, State.heldFits, need, bytes]
  have takes (n : Nat) : t.takesJob u n j = s.takesJob u n j := by
    simp only [State.takesJob, State.takesSeeded, State.inPool, State.islandServes, inst, fits, pwr]
  simp only [State.placeFor, State.poolMembers, part, inst, takes]

/-- A pool that has no place for any work that waits begins none. -/
theorem State.pump_of_noPlace {s : State} {u : EngUnit} {p : PoolRec} (fuel : Nat)
    (full : ∀ j ∈ (s.engine u).waiting, s.placeFor u p j = none) : State.pump u p fuel s = s := by
  cases fuel with
  | zero => rfl
  | succ fuel =>
    have nobody : ((s.poolWaiting u p).filter fun j => (s.placeFor u p j).isSome) = [] := by
      refine List.filter_eq_nil_iff.mpr fun j mem => ?_
      have waits : j ∈ (s.engine u).waiting := List.mem_of_mem_filter (List.mem_of_mem_filter mem)
      simp [full j waits]
    rw [State.pump, nobody]
    rfl

/-- A job that waits alone in its unit, where its pool has no place for it, goes on waiting. -/
theorem State.offered_waits {s t : State} {u : EngUnit} {j : Job} {ten : Nat} (joined : Joined s u j t) (alone : (s.engine u).waiting = [])
    (full : ∀ p, s.poolOf ten u.code = some p → s.placeFor u p j = none) :
    (((t.pumpFor u ten).stallWaiting u).engine u).waiting = [j] := by
  have one : (t.engine u).waiting = [j] := by rw [joined.engine, alone, List.nil_append]
  have stays : t.pumpFor u ten = t := by
    unfold State.pumpFor
    split
    · next p pool =>
      refine State.pump_of_noPlace _ fun k mem => ?_
      rw [one, List.mem_singleton] at mem
      rw [mem, State.placeFor_congr joined.frame.pwr_eq joined.frame.part_eq (by rw [joined.engine]) joined.insts]
      refine full p ?_
      rw [← pool, State.poolOf, State.poolOf, joined.frame.img_eq]
    · rfl
  have stalled : OnlyIn [.ent] t (t.stallWaiting u) := (OnlyIn.refl _ t).stallWaiting u (List.Subset.refl _)
  rw [stays, stalled.engine_eq (by simp), one]

/-- Settles O28: each command is `State.offerRaw` of its unit and each step `State.pumpFor`, and a job that joins waits last. -/
theorem commandsAndStepsReachTheirUnit : Obligations.CommandsAndStepsReachTheirUnit := by
  refine ⟨fun s r => ⟨fun free u op c mem turn => ?raw, fun held => ?srg, fun held => ?tul, fun n k => ⟨rfl, rfl⟩, fun u op => ?joins⟩,
    fun s n k u prim c mem live unit prim' waits => ?step⟩
  case raw =>
    simp only [List.mem_cons, Prod.mk.injEq, List.not_mem_nil] at mem
    repeat' rcases mem with ⟨rfl, rfl, rfl⟩ | mem
    all_goals
      refine congrArg Host.Outcome.next ((turn.runs _).trans ?_)
      simp [free]
  case srg => exact congrArg Host.Outcome.next (if_pos held)
  case tul => exact congrArg Host.Outcome.next (if_pos held)
  case joins =>
    intro j free here alone full
    have idle : ¬ s.heldByUnit (.raw r) = true := by simp [free]
    by_cases asks : u = .cal ∧ s.urgent r = true
    · have asking : j = { Job.new (.raw r) op r.tenant (s.urgent r) with asking := some s.cal.asks } := by simp only [j, if_pos asks]
      rw [State.offerRaw, if_neg idle, if_pos asks, ← asking]
      obtain ⟨rfl, -⟩ := asks
      have stays := (State.jobGone_congr (s := s) (t := { s with cal := { s.cal with asks := s.cal.asks + 1 } }) (u := .cal)
        rfl rfl rfl rfl j).trans here
      refine State.offered_waits (State.addWaiting_joins stays) alone fun p pool => ?_
      exact (State.placeFor_congr (s := s) rfl rfl rfl rfl p j).trans (full p pool)
    · have plain : j = Job.new (.raw r) op r.tenant (s.urgent r) := by
        simp only [j, if_neg asks]
        rfl
      rw [State.offerRaw, if_neg idle, if_neg asks, ← plain]
      exact State.offered_waits (State.addWaiting_joins here) alone full
  case step =>
    simp only [List.mem_cons, Prod.mk.injEq, List.not_mem_nil] at mem
    repeat' rcases mem with ⟨rfl, rfl, rfl⟩ | mem
    all_goals exact congrArg Host.Outcome.next (if_pos ⟨live, unit, prim', waits⟩)

/-! ## Work that a pool takes up (files 04, 07 and 08) -/

theorem State.dropWaiting_gone (s : State) (u : EngUnit) (e : EngSrc) : ∀ y ∈ ((s.dropWaiting u e).engine u).waiting, y.src ≠ e := by
  intro y mem
  rw [State.dropWaiting, State.engine_setEngine_self] at mem
  simpa using List.of_mem_filter mem

/-- An operation that is taken up runs with what its evaluation gave, and waits no longer (R137). -/
theorem State.occupy_runs (s : State) (u : EngUnit) (n : Nat) (j : Job) (w : Work) : ∃ x,
    ((s.occupy u n j w).inst u n).running = some x ∧ x.src = j.src ∧ x.result = w.result ∧ x.cycles = w.cycles
      ∧ x.blocks = w.blocks ∧ x.classN = w.classN ∧ ∀ y ∈ ((s.occupy u n j w).engine u).waiting, y.src ≠ j.src := by
  unfold State.occupy
  extract_lets s1 i job s2 e width
  have marked : OnlyIn [.dmk, .twl] (s1.setInst u n { i with running := some job, lastCode := j.code }) s2 :=
    ((OnlyIn.refl _ _).markCore n w.ctx (by simp)).markHeld u n j (by simp)
  have now : e = { s1.engine u with insts := SMap.set UnitInst.reset (s1.engine u).insts n { i with running := some job, lastCode := j.code } } :=
    (marked.engine_eq (by simp) u).trans (State.engine_setEngine_self s1 u _)
  have last (m : Nat) : ((s2.setEngine u { e with urgMax := m }).skip 1).engine u = { e with urgMax := m } :=
    State.engine_setEngine_self s2 u _
  refine ⟨job, ?_, rfl, rfl, rfl, rfl, rfl, ?_⟩
  · rw [State.inst, last, now]
    exact congrArg UnitInst.running
      (SMap.get_set_self UnitInst.reset (s1.engine u).insts n { i with running := some job, lastCode := j.code })
  · rw [last, now]
    exact s.dropWaiting_gone u j.src

/-- Settles O29: a pool's choice is `State.begin`, and that is read by what evaluation finds. -/
theorem poolsTakeUpTheirWork : Obligations.PoolsTakeUpTheirWork := by
  refine fun s u p n fuel j chosen place => ⟨?_, fun t w runs => ?_, fun t r x ol raw sign verify refused => ?_, fun t away => ?_, fun waits => ?_⟩
  · simp only [State.pump, chosen, place]
  · have begun : s.begin u n j = t.occupy u n j w := by simp only [State.begin, runs]
    rw [begun]
    exact t.occupy_runs u n j w
  · have plain : ¬ (r.desc.opcode = 0x0425 ∨ r.desc.opcode = 0x0426) := by simp [sign, verify]
    simp only [State.begin, refused]
    simp only [State.refuseJob, raw, plain, if_false]
  · simp only [State.begin, away]
  · simp only [State.begin, waits]

/-! ## Operations that finish (files 04, 07 and 08) -/

/-- An operation that ends on a unit is delivered, or faults what ran it (R242, R264). -/
theorem State.endOp_of_running {s : State} {u : EngUnit} {n : Nat} {j : Job} (runs : (s.inst u n).running = some j)
    (final : s.isSearch j.src = false) : s.endOp u n = if j.result.fault then (s.unitFault u n 0).settleUnits
      else ((((s.setInst u n { s.inst u n with running := none }).countEnd u n j).deliver u n j)).next u n := by
  simp only [State.endOp, runs]
  rw [if_neg (by simp [final])]

theorem State.countEnd_ops (s : State) (u : EngUnit) (n : Nat) (j : Job) :
    ((s.countEnd u n j).inst u n).ops = wrapAdd 32 (s.inst u n).ops 1 := by
  unfold State.countEnd
  extract_lets i add s0 s1
  have counted : s1.inst u n = { i with count := wrapAdd 64 i.count add, ops := wrapAdd 32 i.ops 1 } := State.inst_setInst_self s0 u n _
  rw [State.inst, State.engine_setEngine_self]
  exact congrArg UnitInst.ops counted

/-- Settles O30: what finishes on each unit is `State.endOp`, read by the fault of the result and by where it came from. -/
theorem operationsEndWithTheirResult : Obligations.OperationsEndWithTheirResult := by
  intro s n j u c mem runs final
  have ends : exec c s = .next (s.endOp u n) := ofFourUnits (P := fun u c => exec c s = .next (s.endOp u n)) mem rfl rfl rfl rfl
  rw [ends, State.endOp_of_running runs final]
  refine ⟨fun good => ?_, fun fault => ?_, fun r raw sign verify ok unchained => ?_, fun i k step => ?_, s.countEnd_ops u n j⟩
  · rw [if_neg (by simp [good])]
  · rw [if_pos fault]
  · have plain : ¬ (r.desc.opcode = 0x0425 ∨ r.desc.opcode = 0x0426) := by simp [sign, verify]
    simp only [State.deliver, raw, plain, if_false, unchained, State.leaveCtx, State.completeWith, ok, if_true]
  · simp only [State.deliver, step]

/-! ## Modular arithmetic (file 08) -/

theorem powMod_eq (m : Nat) : ∀ fuel b e, e < 2 ^ fuel → powMod m fuel b e = b ^ e % m := by
  intro fuel
  induction fuel with
  | zero =>
    intro b e small
    have zero : e = 0 := by omega
    rw [zero]
    rfl
  | succ fuel ih =>
    intro b e small
    have half : powMod m fuel (b * b % m) (e / 2) = b ^ (2 * (e / 2)) % m := by
      rw [ih _ _ (by rw [Nat.pow_succ] at small; omega), ← Nat.pow_mod, ← Nat.pow_two, ← Nat.pow_mul]
    rw [powMod, half]
    split
    · next odd =>
      have whole : b ^ e = b ^ (2 * (e / 2)) * b := by
        rw [← Nat.pow_succ]
        congr 1
        omega
      rw [whole, Nat.mod_mul_mod]
    · next even =>
      congr 2
      omega

/-- Settles O31: repeated squaring is the power, and the operands are checked before any work. -/
theorem modularResultsAreExact : Obligations.ModularResultsAreExact := by
  refine ⟨fun m b e fuel small => powMod_eq m fuel b e small, fun x f rnd op => ?_, fun x f rnd op small => ?_, fun x f op even => ?_⟩
  · simp [SrgOp.result, op]
  · simp only [SrgOp.result, op, powMod_eq _ _ _ _ small]
    rfl
  · have bad : x.moduliOk f = some 0 := by
      unfold SrgOp.moduliOk
      rw [if_pos (by omega), if_pos (by simp [even])]
    simp only [SrgOp.valueCheck, bad]

/-! ## Faults and fences (files 07 to 09) -/

/-- What holds of a value holds of its image, where the map keeps it and it does not hold of the default. -/
theorem SMap.get_mapV {α : Type} [DecidableEq α] {d : α} {f : Nat → α → α} {P : α → Prop} (no : ¬ P d) {k : Nat}
    (keeps : ∀ v, P v → P (f k v)) : ∀ {m : SMap α}, P (SMap.get d m k) → P (SMap.get d (SMap.mapV d f m) k)
  | [], holds => absurd holds no
  | (j, v) :: m, holds => by
    have rest : SMap.mapV d f ((j, v) :: m) = if f j v = d then SMap.mapV d f m else (j, f j v) :: SMap.mapV d f m := by
      by_cases gone : f j v = d <;> simp [SMap.mapV, gone]
    rw [rest]
    by_cases here : j = k
    · subst here
      rw [SMap.get, if_pos rfl] at holds
      have image := keeps v holds
      have kept : f j v ≠ d := fun gone => no (gone ▸ image)
      rw [if_neg kept, SMap.get, if_pos rfl]
      exact image
    · rw [SMap.get, if_neg here] at holds
      have later := SMap.get_mapV no keeps holds
      split
      · exact later
      · rw [SMap.get, if_neg here]
        exact later

/-- A value that is not the default stands in the map. -/
theorem SMap.mem_of_get {α : Type} {d : α} {k : Nat} : ∀ {m : SMap α}, SMap.get d m k ≠ d → (k, SMap.get d m k) ∈ m
  | [], other => absurd rfl other
  | (j, v) :: m, other => by
    by_cases here : j = k
    · subst here
      simp [SMap.get]
    · rw [SMap.get, if_neg here] at other ⊢
      exact List.mem_cons_of_mem _ (SMap.mem_of_get other)

/-- What is fenced stays fenced. -/
structure KeepsFences (s t : State) : Prop where
  fenced (u : EngUnit) (n : Nat) : (s.inst u n).fenced = true → (t.inst u n).fenced = true

theorem KeepsFences.refl (s : State) : KeepsFences s s := ⟨fun _ _ h => h⟩

theorem KeepsFences.trans {s t u : State} (h : KeepsFences s t) (g : KeepsFences t u) : KeepsFences s u :=
  ⟨fun v n f => g.fenced v n (h.fenced v n f)⟩

theorem KeepsFences.of_frame {l : List Area} {s t : State} (h : OnlyIn l s t)
    (out : .cal ∉ l ∧ .srg ∉ l ∧ .tul ∉ l ∧ .hsh ∉ l := by simp) : KeepsFences s t :=
  ⟨fun u n f => by rwa [State.inst, h.engine_eq out u]⟩

theorem KeepsFences.foldl {α : Type} {f : State → α → State} (hf : ∀ u x, KeepsFences u (f u x)) (l : List α) :
    ∀ s : State, KeepsFences s (l.foldl f s) := by
  induction l with
  | nil => exact KeepsFences.refl
  | cons x l ih => exact fun s => (hf s x).trans (ih (f s x))

/-- The jobs that are dropped leave the fences of their unit as they stand. -/
theorem KeepsFences.dropJobs (s : State) (p : EngSrc → Bool) : KeepsFences s (s.dropJobs p) := by
  have wiped : OnlyIn [.mem] s (s.wipeAreas p) := (OnlyIn.refl _ s).wipeAreas p (List.Subset.refl _)
  have engine (u : EngUnit) : (s.dropJobs p).engine u = ((s.wipeAreas p).engine u).dropJobs p := by cases u <;> rfl
  refine ⟨fun u n fenced => ?_⟩
  rw [State.inst, engine, wiped.engine_eq (by simp)]
  exact SMap.get_mapV (P := fun i : UnitInst => i.fenced = true) (f := fun _ i => i.dropJobs p) (by decide) (fun _ h => h) fenced

theorem KeepsFences.endUnserved (s : State) (j : Job) : KeepsFences s (s.endUnserved j) := by
  have refused (t : State) (r : Req) : KeepsFences t (t.refuse r 0x0501 0 0) :=
    .of_frame ((OnlyIn.refl _ t).refuse r 0x0501 0 0 (List.Subset.refl _))
  unfold State.endUnserved
  dsimp only
  split
  · exact (KeepsFences.dropJobs s _).trans (refused _ _)
  · split
    · exact KeepsFences.refl s
    · have freed (t : State) (n : Nat) : KeepsFences t (t.setSlot n Inst.free) := .of_frame (l := [.twl]) (by simp [State.setSlot])
      exact ((KeepsFences.dropJobs s _).trans (freed _ _)).trans (refused _ _)

theorem KeepsFences.endUnservedAll (s : State) : KeepsFences s s.endUnservedAll :=
  KeepsFences.foldl (fun t _ => KeepsFences.foldl (fun v j => KeepsFences.endUnserved v j) _ t) _ s

/-- A fenced member of a unit stays so through what its fence ends (R242). -/
theorem State.fenceInst_fenced (s : State) (u : EngUnit) (n : Nat) : ((s.fenceInst u n).inst u n).fenced = true := by
  have mode (t : State) : KeepsFences t t.afterFence := .of_frame ((OnlyIn.refl _ t).afterFence (List.Subset.refl _))
  have stalled (t : State) : KeepsFences t (t.stallWaiting u) := .of_frame ((OnlyIn.refl _ t).stallWaiting u (List.Subset.refl _))
  refine (((mode _).trans (KeepsFences.endUnservedAll _)).trans (stalled _)).fenced u n ?_
  rw [State.inst_setInst_self]

theorem fenceStands_of_fenced {s : State} {u : EngUnit} {n : Nat} (present : s.present u n = true) (fenced : (s.inst u n).fenced = true) :
    s.fenceStands = true := by
  have entry : (n, s.inst u n) ∈ (s.engine u).insts := SMap.mem_of_get fun reset => by
    rw [State.inst, reset] at fenced
    exact Bool.noConfusion fenced
  have any : (s.engine u).anyFenced (s.part.count u) = true := List.any_eq_true.mpr ⟨_, entry, by
    rw [Bool.and_eq_true]
    exact ⟨present, fenced⟩⟩
  cases u <;> (rw [State.engine] at any; simp [State.fenceStands, any])

/-- A fence degrades SERVICE (R47). -/
theorem State.fenceInst_degrades {s : State} {u : EngUnit} {n : Nat} (present : s.present u n = true) (service : s.sys.mode = .service) :
    (s.fenceInst u n).sys.mode = .degraded ∧ (s.fenceInst u n).sys.cause = 4 := by
  obtain ⟨t, ht⟩ : ∃ t, t = s.setInst u n { s.inst u n with fenced := true, fencing := false, lifting := false } := ⟨_, rfl⟩
  have set : OnlyIn [.cal, .srg, .tul, .hsh] s t := by
    rw [ht]
    exact (OnlyIn.refl _ s).setInst u n _ (List.Subset.refl _)
  have fenced : (t.inst u n).fenced = true := by rw [ht, State.inst_setInst_self]
  have stands : t.fenceStands = true := fenceStands_of_fenced (by rw [State.present, set.part_eq]; exact present) fenced
  have service' : t.sys.mode = .service := by rw [set.sys_eq, service]
  have ended : OnlyIn [.host, .twl, .dmk, .cal, .srg, .tul, .hsh, .ent, .zyn, .mem, .rcd, .blk, .fresh] t.afterFence (s.fenceInst u n) := by
    rw [State.fenceInst, ← ht]
    exact ((OnlyIn.refl _ _).endUnservedAll (by simp)).stallWaiting u (by simp)
  rw [ended.sys_eq, State.afterFence, if_pos ⟨service', stands⟩, State.setMode_sys (by simp [service'])]
  exact ⟨rfl, rfl⟩

/-- Settles O33: the command of each unit is `State.unitFault`, whose fence outlasts what it ends and degrades SERVICE. -/
theorem faultsFenceTheirInstance : Obligations.FaultsFenceTheirInstance := by
  intro s n check u c mem
  have faults : exec c s = .next (s.faultCommand u n check) :=
    ofFourUnits (P := fun u c => exec c s = .next (s.faultCommand u n check)) mem rfl rfl rfl rfl
  refine ⟨fun on present fenced => ?_, fun present fenced => ?_, s.fenceInst_fenced u n, fun present service =>
    State.fenceInst_degrades present service⟩
  · exact faults.trans (congrArg Host.Outcome.next (if_pos ⟨on, present, fenced⟩))
  · exact faults.trans (congrArg Host.Outcome.next (if_neg (by simp [fenced])))

/-! ## Suspension on Calico (file 07) -/

theorem OnlyIn.setInst_cal (s : State) (n : Nat) (i : UnitInst) : OnlyIn [.cal] s (s.setInst .cal n i) := by
  simp [State.setInst, State.setEngine]

/-- The state of a suspended message is saved beside its core, which is otherwise as it was (R233). -/
theorem State.saveState_keeps (s : State) (n d : Nat) (j : Job) : OnlyIn [.cal, .dmk, .twl, .fresh] s (s.saveState n d j)
    ∧ ∃ r, (s.saveState n d j).inst .cal n = { s.inst .cal n with records := r } := by
  unfold State.saveState
  dsimp only
  split
  · split
    · split
      · exact ⟨OnlyIn.refl _ s, _, rfl⟩
      · exact ⟨by simp [State.setCtx], _, rfl⟩
    · exact ⟨OnlyIn.refl _ s, _, rfl⟩
  · exact ⟨by simp [State.setSlot, State.drew], _, rfl⟩
  · split
    · next k _ =>
      refine ⟨OnlyIn.drew ((OnlyIn.refl _ s).step (OnlyIn.setInst_cal s n _) (by simp)) 64 (by simp),
        SMap.set [] (s.inst .cal n).records k (s.randomBytes 64), ?_⟩
      exact State.inst_setInst_self s .cal n _
    · exact ⟨OnlyIn.refl _ s, _, rfl⟩

/-- A message that is suspended goes under its core, above those that already are there (R233, R234). -/
theorem State.suspend_stacks (s : State) (n left : Nat) (j q : Job) : let t := s.suspend n left j q
    (∃ x l, (t.inst .cal n).stack = x :: l ∧ x.src = j.src ∧ x.done = j.blocks - left
      ∧ l.length = (s.inst .cal n).stack.length ∧ (q.src.isStep = true → l = (s.inst .cal n).stack))
    ∧ (t.inst .cal n).suspensions = satAdd 16 (s.inst .cal n).suspensions 1
    ∧ (t.inst .cal n).running = none ∧ OnlyIn [.cal, .dmk, .twl, .mem, .fresh] s t := by
  intro t
  let i := s.inst .cal n
  let d := j.blocks - left
  let x := j.suspended d i.freeRecord q.src.isStep
  let under := if q.src.isStep then i.stack else i.stack.map Job.unstaged
  let s1 := s.setInst .cal n { i with running := none, stack := x :: under, suspensions := satAdd 16 i.suspensions 1 }
  let s2 := s1.saveState n d x
  have suspended : t = if q.src.isStep then s2 else { s2 with mem := s2.mem.zeroRange (operandBase .cal n + 0x1000) 0xC000 } := rfl
  have set : s1.inst .cal n = { i with running := none, stack := x :: under, suspensions := satAdd 16 i.suspensions 1 } :=
    State.inst_setInst_self s .cal n _
  obtain ⟨frame, r, saved⟩ := s1.saveState_keeps n d x
  have wiped : OnlyIn [.mem] s2 t ∧ t.inst .cal n = s2.inst .cal n := by
    rw [suspended]
    split
    · exact ⟨OnlyIn.refl _ _, rfl⟩
    · exact ⟨by simp, rfl⟩
  have inst : t.inst .cal n
      = { i with running := none, stack := x :: under, suspensions := satAdd 16 i.suspensions 1, records := r } := by
    rw [wiped.2, show s2 = _ from rfl, saved, set]
  rw [inst]
  refine ⟨⟨x, under, rfl, rfl, rfl, ?_, fun step => if_pos step⟩, rfl, rfl, ?_⟩
  · simp only [under]
    split
    · rfl
    · exact List.length_map ..
  · exact (((OnlyIn.refl _ s).step (OnlyIn.setInst_cal s n _) (by simp)).step frame (by simp)).step wiped.1 (by simp)

/-- Settles O32: each command is read along its conditions. -/
theorem classNMessagesAreSuspended : Obligations.ClassNMessagesAreSuspended := by
  refine fun s => ⟨fun n k p pool live urgent waits busy => ?asks, fun n j p q runs pool asks busy most => ?suspends,
    fun n left j q => s.suspend_stacks n left j q, fun n j p q runs pool limit full most asks => ?overflows⟩
  case asks =>
    have asked : exec (.twillSuspensionRequest n k) s
        = .next ((s.ask n k).setPoolUse p { s.poolUse p with suspReq := satAdd 16 (s.poolUse p).suspReq 1 }) := by
      simp only [exec, execTwillSuspensionRequest, pool]
      rw [if_pos ⟨live, urgent, waits, busy⟩]
    refine ⟨_, asked, fun j mem mine => ?_, rfl, ?_, by simp [State.ask, State.setPoolUse]⟩
    · obtain ⟨y, -, rfl⟩ := List.mem_map.mp mem
      split at mine
      · next here => rw [if_pos here]
      · next other => exact absurd mine other
    · exact congrArg PoolUse.suspReq (SMap.get_set_self PoolUse.reset (s.ask n k).twl.pools p.pool _)
  case suspends =>
    intro t
    refine ⟨?_, fun runs => if_pos runs⟩
    simp only [exec, execCalSuspend, runs, pool, asks]
    rw [if_pos ⟨busy, most⟩]
  case overflows =>
    intro t u
    simp only [exec, execCalSuspensionOverflow, runs, pool, asks]
    rw [if_pos ⟨limit, full, most⟩]

/-! ## Self-tests and reseeds (files 07 to 09) -/

/-- A write of an engine's registers that its initiator may make is carried out, and others are dropped (R247, R273, R299). -/
theorem State.engineWrite_control {s : State} (on : s.onMain = true) (who : Initiator) (f : State → State) :
    (s.inControl who = true → s.engineWrite who true f = f s) ∧ (s.inControl who = false → s.engineWrite who true f = s.dropWrite who) := by
  have write : s.engineWrite who true f = s.byControl who f := by simp [State.engineWrite, on]
  rw [write]
  exact ⟨fun control => if_pos control, fun other => if_neg (by simp [other])⟩

theorem State.engine_setInst_self (s : State) (u : EngUnit) (n : Nat) (i : UnitInst) :
    (s.setInst u n i).engine u = { s.engine u with insts := SMap.set UnitInst.reset (s.engine u).insts n i } :=
  State.engine_setEngine_self s u _

/-- The registers of a self-test, once it has ended (R243). -/
def State.tested (s : State) (u : EngUnit) (n : Nat) (pass : Bool) (vector : Nat) : State :=
  let i := s.inst u n
  let t := s.setInst u n { i with asked := false, starved := false, lifting := false, fenced := i.fenced && !(pass && i.fenced && i.lifting)
                                  stFails := if pass then i.stFails else satAdd 8 i.stFails 1 }
  t.setEngine u { t.engine u with stInst := n, stPass := pass, stVector := if pass then 0 else vector % 256
                                  stRuns := satAdd 16 (t.engine u).stRuns 1 }

theorem State.tested_sets (s : State) (u : EngUnit) (n : Nat) (pass : Bool) (vector : Nat) :
    (s.tested u n pass vector).inst u n = { s.inst u n with
        asked := false, starved := false, lifting := false
        fenced := (s.inst u n).fenced && !(pass && (s.inst u n).fenced && (s.inst u n).lifting)
        stFails := if pass then (s.inst u n).stFails else satAdd 8 (s.inst u n).stFails 1 }
      ∧ ((s.tested u n pass vector).engine u).stInst = n ∧ ((s.tested u n pass vector).engine u).stPass = pass
      ∧ ((s.tested u n pass vector).engine u).stVector = (if pass then 0 else vector % 256)
      ∧ ((s.tested u n pass vector).engine u).stRuns = satAdd 16 (s.engine u).stRuns 1
      ∧ ((s.tested u n pass vector).engine u).waiting = (s.engine u).waiting ∧ OnlyIn [.cal, .srg, .tul, .hsh] s (s.tested u n pass vector) := by
  have frame : OnlyIn [.cal, .srg, .tul, .hsh] s (s.tested u n pass vector) :=
    ((OnlyIn.refl _ s).setInst u n _ (by simp)).setEngine u _ (by simp)
  refine ⟨?_, ?_, ?_, ?_, ?_, ?_, frame⟩
  all_goals
    unfold State.tested
    extract_lets i t
  · rw [State.inst, State.engine_setEngine_self]
    exact State.inst_setInst_self s u n _
  · rw [State.engine_setEngine_self]
  · rw [State.engine_setEngine_self]
  · rw [State.engine_setEngine_self]
  · rw [State.engine_setEngine_self, show t.engine u = _ from State.engine_setInst_self s u n _]
  · rw [State.engine_setEngine_self]
    show (t.engine u).waiting = _
    rw [show t.engine u = _ from State.engine_setInst_self s u n _]

theorem State.selfTest_passes {s : State} {u : EngUnit} {n : Nat} (testable : s.testable u n = true) (open' : (s.inst u n).fenced = false)
    (stays : (s.inst u n).fencing = false) (alone : s.poolAt u n = none) (nobody : ∀ j ∈ (s.engine u).waiting, j.only ≠ some n)
    (v : Nat) : s.selfTest u n true v = s.tested u n true v := by
  obtain ⟨inst, -, -, -, -, waiting, frame⟩ := s.tested_sets u n true v
  have tested : s.selfTest u n true v = ((s.tested u n true v).settleFence u n).pumpAt u n := by
    rw [State.selfTest, if_neg (by simp [testable])]
    simp [open', State.tested]
  have settled : (s.tested u n true v).settleFence u n = s.tested u n true v := by
    rw [State.settleFence, inst]
    exact if_neg (by simp [stays])
  have pool : (s.tested u n true v).poolAt u n = none := by rw [State.poolAt, frame.img_eq, ← alone, State.poolAt]
  have none' : (s.engine u).waiting.find? (fun j => j.only == some n && !(s.tested u n true v).stalledJob j) = none :=
    List.find?_eq_none.mpr fun j mem => by simp [nobody j mem]
  rw [tested, settled, State.pumpAt, pool, waiting, none']

/-- A reseed that finds its words seeds its member of the unit, and one that does not leaves it due (R228). -/
theorem State.reseedInst_sets (s : State) (u : EngUnit) (n : Nat) :
    (∀ w t, s.takeWords 2 = some (w, t) → ((s.reseedInst u n).inst u n).seeded = true ∧ ((s.reseedInst u n).inst u n).due = false
        ∧ ((s.reseedInst u n).inst u n).stalled = false
        ∧ ((s.reseedInst u n).inst u n).reseeds = satAdd 24 (s.inst u n).reseeds 1 ∧ (s.reseedInst u n).ent.stalled =
          t.ent.stalled.filter (· ≠ Consumer.mask u n))
    ∧ (s.takeWords 2 = none → ((s.reseedInst u n).inst u n).due = true ∧ Consumer.mask u n ∈ (s.reseedInst u n).ent.stalled) := by
  obtain ⟨a, ha⟩ : ∃ a, a = s.setInst u n { s.inst u n with due := true } := ⟨_, rfl⟩
  have due : a.inst u n = { s.inst u n with due := true } := by rw [ha, State.inst_setInst_self]
  have ent : a.ent = s.ent := by
    rw [ha]
    exact ((OnlyIn.refl _ s).setInst u n _ (List.Subset.refl _)).ent_eq
  have drawn : s.reseedInst u n = a.drawFor (.mask u n) 2 fun _ t => t.setInst u n (t.inst u n).reseeded := by rw [ha, State.reseedInst]
  refine ⟨fun w t taken => ?_, fun short => ?_⟩
  · obtain ⟨words, -⟩ := State.takeWords_some taken
    obtain ⟨b, hb⟩ : ∃ b : State, b = { a with ent := { t.ent with stalled := t.ent.stalled.filter (· ≠ Consumer.mask u n) } } := ⟨_, rfl⟩
    have reseeded : s.reseedInst u n = b.setInst u n (b.inst u n).reseeded := by
      simp only [drawn, State.drawFor, State.takeWords, ent, words, hb]
    have inst : b.inst u n = { s.inst u n with due := true } := by
      rw [hb, ← due]
      cases u <;> rfl
    have kept : (s.reseedInst u n).ent = b.ent := by
      rw [reseeded]
      exact ((OnlyIn.refl _ b).setInst u n _ (List.Subset.refl _)).ent_eq
    rw [kept, reseeded, State.inst_setInst_self, inst, hb]
    exact ⟨rfl, rfl, rfl, rfl, rfl⟩
  · have none' : s.ent.take 2 = none := by
      unfold State.takeWords at short
      split at short
      · cases short
      · assumption
    have stalled : s.reseedInst u n = a.stallFor (.mask u n) := by simp only [drawn, State.drawFor, State.takeWords, ent, none']
    have frame : OnlyIn [.ent] a (a.stallFor (.mask u n)) := (OnlyIn.refl _ a).stallFor _ (List.Subset.refl _)
    rw [stalled, State.inst, frame.engine_eq (by simp)]
    refine ⟨congrArg UnitInst.due due, ?_⟩
    unfold State.stallFor
    split
    · next already => exact List.contains_iff_mem.mp already
    · exact List.mem_append_right _ (List.mem_singleton.mpr rfl)

/-- Settles O34: each command is read along its conditions, and the test by the registers that it leaves. -/
theorem selfTestsAndReseedsOfInstances : Obligations.SelfTestsAndReseedsOfInstances := by
  refine ⟨fun s n u => ?tests, fun s n u on present => ?reseeds⟩
  case tests =>
    intro i
    refine ⟨fun v c mem testable open' stays alone nobody => ?_, fun v c mem testable => ?_, fun c mem on present period open' => ?_,
      fun who c mem on present => ?_⟩
    · have runs : exec c s = .next (s.selfTest u n true v) :=
        ofFourUnits (P := fun u c => exec c s = .next (s.selfTest u n true v)) mem rfl rfl rfl rfl
      obtain ⟨inst, at', passed, vector, runs', -, frame⟩ := s.tested_sets u n true v
      refine ⟨_, runs.trans (congrArg Host.Outcome.next (State.selfTest_passes testable open' stays alone nobody v)), ?_, at', passed,
        vector, runs', frame⟩
      rw [inst]
      simp [open', i]
    · have runs : exec c s = .next (s.selfTest u n false v) :=
        ofFourUnits (P := fun u c => exec c s = .next (s.selfTest u n false v)) mem rfl rfl rfl rfl
      obtain ⟨inst, -, failed, vector, -, -, frame⟩ := s.tested_sets u n false v
      refine ⟨s.tested u n false v, ?_, failed, vector, ?_, frame⟩
      · rw [runs, State.selfTest, if_neg (by simp [testable])]
        rfl
      · rw [inst]
        rfl
    · have starves : exec c s = .next (s.starveTest u n) :=
        ofFourUnits (P := fun u c => exec c s = .next (s.starveTest u n)) mem rfl rfl rfl rfl
      exact starves.trans (congrArg Host.Outcome.next (if_pos ⟨on, present, period, open'⟩))
    · have asks : exec c s = .next (s.engineWrite who true fun s => s.askTest u n) :=
        ofFourUnits (P := fun u c => exec c s = .next (s.engineWrite who true fun s => s.askTest u n)) mem rfl rfl rfl rfl
      obtain ⟨allowed, dropped⟩ := State.engineWrite_control on who fun s => s.askTest u n
      refine ⟨fun control => ?_, fun other => ?_⟩
      · rw [asks, allowed control, State.askTest, if_pos present]
      · rw [asks, dropped other]
  case reseeds =>
    obtain ⟨seeded, unseeded⟩ := s.reseedInst_sets u n
    refine ⟨fun c mem => ?_, seeded, unseeded, fun c mem due => ?_⟩
    · have reseeds : exec c s = .next (s.reseedCommand u n) :=
        ofFourUnits (P := fun u c => exec c s = .next (s.reseedCommand u n)) mem rfl rfl rfl rfl
      exact reseeds.trans (congrArg Host.Outcome.next (if_pos ⟨on, present⟩))
    · have stalls : exec c s = .next (s.stallInst u n) :=
        ofFourUnits (P := fun u c => exec c s = .next (s.stallInst u n)) mem rfl rfl rfl rfl
      exact stalls.trans (congrArg Host.Outcome.next (if_pos ⟨present, due⟩))

/-! ## The control register of a unit's member (files 07 to 09) -/

/-- A write that secure-world firmware may make clears what it names (R247, R273, R299). -/
theorem State.clearInst_write {s : State} {who : Initiator} {u : EngUnit} {n : Nat} (on : s.onMain = true) (present : s.present u n = true)
    (may : s.secureOrControl who = true) (f : UnitInst → UnitInst) :
    s.engineWrite who false (fun s => s.clearInst u n f) = s.setInst u n (f (s.inst u n)) := by
  simp [State.engineWrite, on, State.bySecure, may, State.clearInst, present]

/-- A fence that is asked for stands at once where no work is on its member, and waits until that work is done otherwise (R247). -/
theorem State.askFence_open {s : State} {u : EngUnit} {n : Nat} (present : s.present u n = true) (open' : (s.inst u n).fenced = false) :
    ((s.inst u n).running = none → (s.inst u n).stack = [] →
        s.askFence u n = (s.setInst u n { s.inst u n with fencing := true }).fenceInst u n)
      ∧ ((s.inst u n).running ≠ none ∨ (s.inst u n).stack ≠ [] → s.askFence u n = s.setInst u n { s.inst u n with fencing := true }) := by
  have asks : s.askFence u n = (s.setInst u n { s.inst u n with fencing := true }).settleFence u n := by
    simp [State.askFence, present, open']
  have inst := State.inst_setInst_self s u n { s.inst u n with fencing := true }
  rw [asks, State.settleFence, inst]
  refine ⟨fun idle empty => if_pos ⟨rfl, Option.isNone_iff_eq_none.mpr idle, empty⟩, fun busy => if_neg ?_⟩
  rintro ⟨-, idle, empty⟩
  exact busy.elim (fun running => running (Option.isNone_iff_eq_none.mp idle)) (fun stack => stack empty)

theorem State.askFence_fenced {s : State} {u : EngUnit} {n : Nat} (present : s.present u n = true) (fenced : (s.inst u n).fenced = true) :
    s.askFence u n = s.setInst u n { s.inst u n with lifting := false } := by
  simp [State.askFence, present, fenced]

theorem State.askLift_present {s : State} {u : EngUnit} {n : Nat} (present : s.present u n = true) :
    ((s.inst u n).fenced = true → s.askLift u n = s.setInst u n { s.inst u n with lifting := true })
      ∧ ((s.inst u n).fenced = false → s.askLift u n = s.setInst u n { s.inst u n with fencing := false }) := by
  constructor <;> intro h <;> simp [State.askLift, present, h]

/-- Settles O35: each write is read by who makes it and by what it finds. -/
theorem controlOfInstances : Obligations.ControlOfInstances := by
  intro s who n u on present i
  refine ⟨fun c mem => ?fence, fun c mem control => ?lift, fun may => ⟨fun c mem => ?count, fun c mem => ?ops, fun c mem => ?faults, ?susp⟩⟩
  case fence =>
    have write : exec c s = .next (s.engineWrite who true fun s => s.askFence u n) :=
      ofFourUnits (P := fun u c => exec c s = .next (s.engineWrite who true fun s => s.askFence u n)) mem rfl rfl rfl rfl
    obtain ⟨allowed, dropped⟩ := State.engineWrite_control on who fun s => s.askFence u n
    refine ⟨fun control open' => ?_, fun control fenced => ?_, fun other => ?_⟩
    · rw [write, allowed control]
      obtain ⟨atOnce, waits⟩ := State.askFence_open present open'
      exact ⟨fun idle empty => congrArg Host.Outcome.next (atOnce idle empty), fun busy => congrArg Host.Outcome.next (waits busy)⟩
    · rw [write, allowed control, State.askFence_fenced present fenced]
    · rw [write, dropped other]
  case lift =>
    have write : exec c s = .next (s.engineWrite who true fun s => s.askLift u n) :=
      ofFourUnits (P := fun u c => exec c s = .next (s.engineWrite who true fun s => s.askLift u n)) mem rfl rfl rfl rfl
    obtain ⟨asked, taken⟩ := State.askLift_present present
    rw [write, (State.engineWrite_control on who _).1 control]
    exact ⟨fun fenced => congrArg Host.Outcome.next (asked fenced), fun open' => congrArg Host.Outcome.next (taken open')⟩
  case count =>
    have write : exec c s = .next (s.engineWrite who false fun s => s.clearInst u n ({ · with count := 0 })) :=
      ofFourUnits (P := fun u c => exec c s = .next (s.engineWrite who false fun s => s.clearInst u n ({ · with count := 0 })))
        mem rfl rfl rfl rfl
    rw [write, State.clearInst_write on present may]
  case ops =>
    have write : exec c s = .next (s.engineWrite who false fun s => s.clearInst u n ({ · with ops := 0 })) := by
      simp only [List.mem_cons, Prod.mk.injEq, List.not_mem_nil, or_false] at mem
      rcases mem with ⟨rfl, rfl⟩ | ⟨rfl, rfl⟩ | ⟨rfl, rfl⟩ <;> rfl
    rw [write, State.clearInst_write on present may]
  case faults =>
    have write : exec c s = .next (s.engineWrite who false fun s => s.clearInst u n ({ · with faults := 0, stFails := 0 })) :=
      ofFourUnits (P := fun u c => exec c s = .next (s.engineWrite who false fun s => s.clearInst u n ({ · with faults := 0, stFails := 0 })))
        mem rfl rfl rfl rfl
    rw [write, State.clearInst_write on present may]
  case susp =>
    rintro rfl
    exact congrArg Host.Outcome.next (State.clearInst_write on present may ({ · with suspensions := 0, overflows := 0 }))

/-! ## The RSA prime search (file 08, Keys for Damask) -/

theorem OnlyIn.draw {s u : State} {n : Nat} {b : Bytes} (drawn : s.draw n = some (b, u)) : OnlyIn [.ent] s u := by
  unfold State.draw at drawn
  split at drawn
  · cases drawn
    exact .refl _ s
  · obtain ⟨⟨w, v⟩, taken, same⟩ := Option.map_eq_some_iff.mp drawn
    cases same
    exact .takeWords taken

/-- The search's next candidate, where its random bits are there. -/
theorem State.primeTest_candidate {s t : State} {n tried first : Nat} {j : Job} {r : Req} {node : Node} {b : Bytes}
    (running : (s.inst .srg n).running = some j) (search : j.search = some (tried, first)) (raw : j.src = .raw r)
    (isSearch : s.isSearch j.src = true) (named : s.keyNode r.tenant (hNode r.desc.key1) = some node)
    (drawn : s.draw (rsaBits node.alg / 256) = some (b, t)) :
    let x := rsaCandidate (rsaBits node.alg) b
    let kept (z : Nat × Nat) : State := t.setInst .srg n { t.inst .srg n with
      running := some { j with search := some z }
      count := wrapAdd 64 (t.inst .srg n).count (candidateCycles (rsaBits node.alg) x) }
    exec (.primeTest n) s = .next (
      if sieved x = false ∧ Crypto.probablePrime x then
        if first = 0 then (kept (0, x)).yieldSearch n
        else (kept (0, 0)).endSearch n fun t => t.foundKey r node first x
      else if tried + 1 = 2 ^ 20 then (kept (0, 0)).endSearch n fun t => t.searchFailed r (rsaBits node.alg)
      else (kept (tried + 1, first)).yieldSearch n) := by
  intro x kept
  have still : (t.inst .srg n).running = some j := by
    rw [State.inst, (OnlyIn.draw drawn).engine_eq (by simp)]
    exact running
  have tests : exec (.primeTest n) s = .next (s.candidate n r node tried first) := by
    show execPrimeTest n s = _
    simp only [execPrimeTest, running, raw, search, named]
    rw [← raw, if_pos isSearch]
  rw [tests, State.candidate]
  simp only [drawn, still, Option.map_some]
  rfl

/-- Settles O36: each outcome of the test is the branch that its candidate takes. -/
theorem primeSearchTriesItsCandidates : Obligations.PrimeSearchTriesItsCandidates := by
  intro s t n tried first j r node b running search raw isSearch named drawn x prime kept
  have tests := State.primeTest_candidate running search raw isSearch named drawn
  refine ⟨fun composite more => ?_, fun composite last => ?_, fun found second => ?_, fun found initial => ?_, fun p q room => ?_,
    fun p q e full => ?_⟩
  · exact tests.trans (congrArg _ ((if_neg composite).trans (if_neg more.ne)))
  · exact tests.trans (congrArg _ ((if_neg composite).trans (if_pos last)))
  · exact tests.trans (congrArg _ ((if_pos found).trans (if_neg second)))
  · exact tests.trans (congrArg _ ((if_pos found).trans (if_pos initial)))
  · simp only [State.foundKey, room]
  · simp only [State.foundKey, full]

end Sys2Proof.Machine
end

section
/-! PROOFS. Lemmas and obligations: what alarms and locks leave. -/

namespace Sys2Proof.Machine

set_option Elab.async false

/-! ## What alarms and locks leave as it stands (files 13 to 15) -/

/-- Of the cores and their mailboxes, records of completions alone differ. -/
structure KeepsCores (s t : State) : Prop where
  zyn : t.zyn = { s.zyn with done := t.zyn.done }

theorem KeepsCores.trans {s t u : State} (h : KeepsCores s t) (g : KeepsCores t u) : KeepsCores s u := ⟨by rw [g.zyn, h.zyn]⟩

theorem KeepsCores.of_frame {l : List Area} {s t : State} (h : OnlyIn l s t) (out : .zyn ∉ l := by simp) : KeepsCores s t :=
  ⟨by rw [h.zyn_eq out]⟩

theorem KeepsCores.refl (s : State) : KeepsCores s s := ⟨rfl⟩

theorem KeepsCores.complete (s : State) (r : Req) (status detail reason info outLen : Nat) (out : Bytes) :
    KeepsCores s (s.complete r status detail reason info outLen out) :=
  ⟨complete_zyn s r status detail reason info outLen out⟩

theorem KeepsCores.dropJobs (s : State) (p : EngSrc → Bool) : KeepsCores s (s.dropJobs p) :=
  .of_frame ((OnlyIn.refl _ s).dropJobs p (List.Subset.refl _))

theorem KeepsCores.setSlot (s : State) (n : Nat) (i : Inst) : KeepsCores s (s.setSlot n i) := ⟨rfl⟩

theorem KeepsCores.endUnserved (s : State) (j : Job) : KeepsCores s (s.endUnserved j) := by
  unfold State.endUnserved
  dsimp only
  split
  · exact (KeepsCores.dropJobs s _).trans (KeepsCores.complete _ _ _ _ _ _ _ _)
  · split
    · exact .refl s
    · exact ((KeepsCores.dropJobs s _).trans (KeepsCores.setSlot _ _ _)).trans (KeepsCores.complete _ _ _ _ _ _ _ _)

theorem KeepsCores.abortInst (s : State) (n cause : Nat) (step : Option Nat) : KeepsCores s (s.abortInst n cause step) := by
  unfold State.abortInst
  extract_lets i k t1 t2 _ t3
  split
  · exact .refl s
  · have dropped : KeepsCores s t1 := KeepsCores.dropJobs s _
    have freed : KeepsCores t1 t3 := ⟨rfl⟩
    exact (dropped.trans freed).trans (KeepsCores.complete _ _ _ _ _ _ _ _)

theorem KeepsCores.abortOne (s : State) (cause : Nat) (r : Req) : KeepsCores s (s.abortOne cause r) := by
  unfold State.abortOne
  extract_lets s1
  have aborted : KeepsCores s s1 := by
    unfold s1
    split
    · exact .abortInst s _ cause none
    · exact (KeepsCores.dropJobs s _).trans (KeepsCores.complete _ _ _ _ _ _ _ _)
  exact aborted.trans ⟨rfl⟩

/-- Work that ends wipes its areas and frees its contexts; it leaves the rest of the memories and of Damask. -/
structure DropsWork (s t : State) : Prop where
  mem : t.mem = { s.mem with bytes := t.mem.bytes, chk := t.mem.chk }
  dmk : t.dmk = { s.dmk with ctx := t.dmk.ctx }

theorem DropsWork.refl (s : State) : DropsWork s s := ⟨rfl, rfl⟩

theorem DropsWork.trans {s t u : State} (h : DropsWork s t) (g : DropsWork t u) : DropsWork s u :=
  ⟨by rw [g.mem, h.mem], by rw [g.dmk, h.dmk]⟩

theorem DropsWork.of_frame {l : List Area} {s t : State} (h : OnlyIn l s t) (out : .mem ∉ l ∧ .dmk ∉ l := by simp) : DropsWork s t :=
  ⟨by rw [h.mem_eq out.1], by rw [h.dmk_eq out.2]⟩

theorem DropsWork.foldl {α : Type} {f : State → α → State} (hf : ∀ u x, DropsWork u (f u x)) (l : List α) :
    ∀ s : State, DropsWork s (l.foldl f s) := by
  induction l with
  | nil => exact DropsWork.refl
  | cons x l ih => exact fun s => (hf s x).trans (ih (f s x))

theorem Memory.wipeAreas_registers (m : Memory) (u : EngUnit) (n : Nat) :
    m.wipeAreas u n = { m with bytes := (m.wipeAreas u n).bytes, chk := (m.wipeAreas u n).chk } := by
  have wipes (l : List (Nat × Nat)) : ∀ m : Memory, l.foldl (fun m x => m.zeroRange (operandBase u n + x.1) x.2) m = { m with
      bytes := (l.foldl (fun m x => m.zeroRange (operandBase u n + x.1) x.2) m).bytes
      chk := (l.foldl (fun m x => m.zeroRange (operandBase u n + x.1) x.2) m).chk } := by
    induction l with
    | nil => exact fun _ => rfl
    | cons x l ih => exact fun m => ih (m.zeroRange (operandBase u n + x.1) x.2)
  exact wipes _ m

theorem DropsWork.wipeAreas (s : State) (p : EngSrc → Bool) : DropsWork s (s.wipeAreas p) := by
  have wipes (u : EngUnit) (t : State) (n : Nat) : DropsWork t { t with mem := t.mem.wipeAreas u n } :=
    ⟨t.mem.wipeAreas_registers u n, rfl⟩
  exact DropsWork.foldl (fun t u => DropsWork.foldl (wipes u) _ t) _ s

theorem DropsWork.dropJobs (s : State) (p : EngSrc → Bool) : DropsWork s (s.dropJobs p) := by
  obtain ⟨mem, dmk⟩ := DropsWork.wipeAreas s p
  exact ⟨mem, by rw [State.dropJobs, dmk]⟩

theorem DropsWork.complete (s : State) (r : Req) (status detail reason info outLen : Nat) (out : Bytes) :
    DropsWork s (s.complete r status detail reason info outLen out) :=
  .of_frame ((OnlyIn.refl _ s).complete r status detail reason info outLen out (List.Subset.refl _))

theorem DropsWork.abortInst (s : State) (n cause : Nat) (step : Option Nat) : DropsWork s (s.abortInst n cause step) := by
  unfold State.abortInst
  extract_lets i k t1 t2 _ t3
  split
  · exact .refl s
  · have dropped : DropsWork s t1 := DropsWork.dropJobs s _
    have freed : DropsWork t1 t3 := ⟨rfl, rfl⟩
    exact (dropped.trans freed).trans (DropsWork.complete _ _ _ _ _ _ _ _)

theorem DropsWork.abortReq (s : State) (r : Req) (cause : Nat) : DropsWork s (s.abortReq r cause) :=
  (DropsWork.dropJobs s _).trans (DropsWork.complete _ _ _ _ _ _ _ _)

theorem KeepsCores.abortReq (s : State) (r : Req) (cause : Nat) : KeepsCores s (s.abortReq r cause) :=
  (KeepsCores.dropJobs s _).trans (KeepsCores.complete _ _ _ _ _ _ _ _)

/-- What an alarm leaves as it stands: what the entropy unit serves from, the code of the last failed start, the cores, and the
registers of the memories. -/
structure KeepsUnits (s t : State) : Prop where
  state : t.ent.state = s.ent.state
  buf : t.ent.buf = s.ent.buf
  bootErr : t.sys.bootErr = s.sys.bootErr
  cores : t.zyn.cores = s.zyn.cores
  mem : t.mem = { s.mem with bytes := t.mem.bytes, chk := t.mem.chk }

theorem KeepsUnits.refl (s : State) : KeepsUnits s s := ⟨rfl, rfl, rfl, rfl, rfl⟩

theorem KeepsUnits.trans {s t u : State} (h : KeepsUnits s t) (g : KeepsUnits t u) : KeepsUnits s u :=
  ⟨g.state.trans h.state, g.buf.trans h.buf, g.bootErr.trans h.bootErr, g.cores.trans h.cores, by rw [g.mem, h.mem]⟩

theorem KeepsUnits.of_frame {l : List Area} {s t : State} (h : OnlyIn l s t)
    (out : .ent ∉ l ∧ .sys ∉ l ∧ .zyn ∉ l ∧ .mem ∉ l := by simp) : KeepsUnits s t := by
  obtain ⟨ent, sys, zyn, mem⟩ := out
  exact ⟨by rw [h.ent_eq ent], by rw [h.ent_eq ent], by rw [h.sys_eq sys], by rw [h.zyn_eq zyn], by rw [h.mem_eq mem]⟩

/-- What a lock leaves as it stands: the alarms too, and the backup domain but for the lock it keeps. -/
structure KeepsAlarms (s t : State) : Prop extends KeepsUnits s t where
  alarms : t.lace.last = s.lace.last ∧ t.lace.alarms = s.lace.alarms
  monitors (mon : Nat) : (t.monitor mon).standing = (s.monitor mon).standing ∧ (t.monitor mon).raised = (s.monitor mon).raised
  bkd : t.bkd = { s.bkd with lockKept := t.bkd.lockKept }
  keyc : s.dmk.keyc = [] → t.dmk.keyc = []

theorem KeepsAlarms.refl (s : State) : KeepsAlarms s s := ⟨.refl s, ⟨rfl, rfl⟩, fun _ => ⟨rfl, rfl⟩, rfl, id⟩

theorem KeepsAlarms.trans {s t u : State} (h : KeepsAlarms s t) (g : KeepsAlarms t u) : KeepsAlarms s u :=
  ⟨h.toKeepsUnits.trans g.toKeepsUnits, ⟨g.alarms.1.trans h.alarms.1, g.alarms.2.trans h.alarms.2⟩,
    fun k => ⟨(g.monitors k).1.trans (h.monitors k).1, (g.monitors k).2.trans (h.monitors k).2⟩,
    by rw [g.bkd, h.bkd], fun none' => g.keyc (h.keyc none')⟩

/-- Work that ends touches no alarm. -/
theorem KeepsAlarms.of_work {l : List Area} {s t : State} (h : OnlyIn l s t) (work : DropsWork s t) (cores : KeepsCores s t)
    (out : .ent ∉ l ∧ .sys ∉ l ∧ .lace ∉ l ∧ .bkd ∉ l := by simp) : KeepsAlarms s t := by
  obtain ⟨ent, sys, lace, bkd⟩ := out
  refine ⟨⟨by rw [h.ent_eq ent], by rw [h.ent_eq ent], by rw [h.sys_eq sys], by rw [cores.zyn], work.mem⟩, ?_, fun k => ?_, ?_, fun none' => ?_⟩
  · rw [h.lace_eq lace]
    exact ⟨rfl, rfl⟩
  · rw [State.monitor, h.lace_eq lace]
    exact ⟨rfl, rfl⟩
  · rw [h.bkd_eq bkd]
  · rw [work.dmk]
    exact none'

theorem KeepsAlarms.of_frame {l : List Area} {s t : State} (h : OnlyIn l s t)
    (out : .ent ∉ l ∧ .sys ∉ l ∧ .lace ∉ l ∧ .bkd ∉ l := by simp) (work : .zyn ∉ l ∧ .mem ∉ l ∧ .dmk ∉ l := by simp) : KeepsAlarms s t :=
  .of_work h (.of_frame h work.2) (.of_frame h work.1) out

/-- A change of the links, the mode or the lock, which none of what stands depends on. -/
theorem KeepsAlarms.of_same {s t : State} (ent : t.ent.state = s.ent.state ∧ t.ent.buf = s.ent.buf)
    (bootErr : t.sys.bootErr = s.sys.bootErr)
    (units : t.zyn = s.zyn ∧ t.mem = s.mem) (lace : t.lace.last = s.lace.last ∧ t.lace.alarms = s.lace.alarms ∧ t.lace.monitors = s.lace.monitors)
    (bkd : t.bkd = { s.bkd with lockKept := t.bkd.lockKept }) (keyc : s.dmk.keyc = [] → t.dmk.keyc = []) : KeepsAlarms s t := by
  obtain ⟨zyn, mem⟩ := units
  obtain ⟨last, alarms, monitors⟩ := lace
  refine ⟨⟨ent.1, ent.2, bootErr, by rw [zyn], by rw [mem]⟩, ⟨last, alarms⟩, fun k => ?_, bkd, keyc⟩
  rw [State.monitor, monitors]
  exact ⟨rfl, rfl⟩

theorem KeepsAlarms.foldl {α : Type} {f : State → α → State} (hf : ∀ u x, KeepsAlarms u (f u x)) (l : List α) :
    ∀ s : State, KeepsAlarms s (l.foldl f s) := by
  induction l with
  | nil => exact KeepsAlarms.refl
  | cons x l ih => exact fun s => (hf s x).trans (ih (f s x))

theorem KeepsAlarms.linkDown (s : State) (n cause : Nat) : KeepsAlarms s (s.linkDown n cause) := by
  unfold State.linkDown
  extract_lets l l' t lost _ _ u v
  have cut : KeepsAlarms s u := .of_same ⟨rfl, rfl⟩ rfl ⟨rfl, rfl⟩ ⟨rfl, rfl, rfl⟩ rfl id
  have told : KeepsAlarms s v := cut.trans (.of_frame ((OnlyIn.refl _ u).offer _ _ _ _ (List.Subset.refl _)))
  split
  · exact .refl s
  · split
    · exact told.trans (.of_frame ((OnlyIn.refl _ v).floodOwn (List.Subset.refl _)))
    · exact told

theorem KeepsAlarms.refreshLink (s : State) (n : Nat) : KeepsAlarms s (s.refreshLink n) := by
  have set (t : State) (l : Link) : KeepsAlarms t (t.setLink n l) := .of_same ⟨rfl, rfl⟩ rfl ⟨rfl, rfl⟩ ⟨rfl, rfl, rfl⟩ rfl id
  unfold State.refreshLink
  dsimp only
  split
  · split
    · exact set _ _
    · exact .refl s
  · exact (KeepsAlarms.linkDown s n 5).trans (set _ _)

theorem KeepsAlarms.setMode (s : State) (m : Mode) (cause : Nat) : KeepsAlarms s (s.setMode m cause) := by
  unfold State.setMode
  extract_lets _ t
  have entered : KeepsAlarms s t := .of_same ⟨rfl, rfl⟩ rfl ⟨rfl, rfl⟩ ⟨rfl, rfl, rfl⟩ rfl id
  split
  · exact .refl s
  · exact (entered.trans (.of_frame ((OnlyIn.refl _ t).offer _ _ _ _ (List.Subset.refl _)))).trans
      (KeepsAlarms.foldl (fun t n => KeepsAlarms.refreshLink t n) _ _)

theorem KeepsAlarms.afterFence (s : State) : KeepsAlarms s s.afterFence := by
  unfold State.afterFence
  split
  · exact KeepsAlarms.setMode s _ _
  · exact .refl s

theorem KeepsAlarms.abortOne (s : State) (cause : Nat) (r : Req) : KeepsAlarms s (s.abortOne cause r) := by
  unfold State.abortOne
  extract_lets s1
  have aborted : KeepsAlarms s s1 := by
    unfold s1
    split
    · exact .of_work ((OnlyIn.refl _ s).abortInst _ _ _ (List.Subset.refl _)) (.abortInst s _ cause none) (.abortInst s _ cause none)
    · exact .of_work ((OnlyIn.refl _ s).abortReq _ _ (List.Subset.refl _)) (.abortReq s r cause) (.abortReq s r cause)
  exact aborted.trans (.of_same ⟨rfl, rfl⟩ rfl ⟨rfl, rfl⟩ ⟨rfl, rfl, rfl⟩ rfl id)

theorem KeepsAlarms.abortWhere (s : State) (p : Req → Bool) (cause : Nat) : KeepsAlarms s (s.abortWhere p cause) :=
  KeepsAlarms.foldl (fun t r => KeepsAlarms.abortOne t cause r) _ s

theorem KeepsAlarms.lockDamask (s : State) : KeepsAlarms s s.lockDamask :=
  .of_same ⟨rfl, rfl⟩ rfl ⟨rfl, rfl⟩ ⟨rfl, rfl, rfl⟩ rfl fun _ => rfl

theorem KeepsAlarms.answerWaiting (s : State) (status : Nat) : KeepsAlarms s (s.answerWaiting status) :=
  KeepsAlarms.foldl (fun t r => .of_work ((OnlyIn.refl _ t).refuse r status 0 0 (List.Subset.refl _))
    (.complete t r status 0 0 0 0 []) (.complete t r status 0 0 0 0 [])) _ s

theorem KeepsAlarms.enterLocked (s : State) (cause : Nat) : KeepsAlarms s (s.enterLocked cause) := by
  unfold State.enterLocked
  extract_lets s1 s2
  have aborted := KeepsAlarms.abortWhere s (fun _ => true) 6
  obtain ⟨a, ha⟩ : ∃ a, a = s.abortWhere (fun _ => true) 6 := ⟨_, rfl⟩
  have answered : KeepsAlarms a (a.answerWaiting 0x0701) := KeepsAlarms.answerWaiting a 0x0701
  have ended (t : State) : KeepsAlarms t t.endSession := .of_frame ((OnlyIn.refl _ t).endSession (List.Subset.refl _))
  have dropped (t : State) : KeepsAlarms t t.dropCeremony :=
    .of_same ⟨rfl, rfl⟩ rfl ⟨rfl, rfl⟩ ⟨rfl, rfl, rfl⟩ rfl id
  have closed (t : State) : KeepsAlarms t (t.setDebug false false false false) :=
    .of_frame ((OnlyIn.refl _ t).setDebug _ _ _ _ (List.Subset.refl _))
  have ready : KeepsAlarms a (s1.setDebug false false false false) := by
    unfold s1
    rw [← ha]
    exact (((answered.trans (KeepsAlarms.lockDamask _)).trans (ended _)).trans (dropped _)).trans (closed _)
  rw [← ha] at aborted
  have entered : KeepsAlarms s s2 := (aborted.trans ready).trans (KeepsAlarms.setMode _ .locked cause)
  clear_value s2
  exact entered.trans (.of_same ⟨rfl, rfl⟩ rfl ⟨rfl, rfl⟩ ⟨rfl, rfl, rfl⟩ rfl id)

theorem KeepsAlarms.undoRequest (s : State) (v : Nat) : KeepsAlarms s (s.undoRequest v) := by
  unfold State.undoRequest
  extract_lets _ t
  have undone : KeepsAlarms s t := .of_same ⟨rfl, rfl⟩ rfl ⟨rfl, rfl⟩ ⟨rfl, rfl, rfl⟩ rfl id
  exact undone.trans (.of_frame ((OnlyIn.refl _ t).discardRequest v (List.Subset.refl _)))

theorem KeepsAlarms.lockSequence (s : State) (cause : Nat) : KeepsAlarms s (s.lockSequence cause) := by
  unfold State.lockSequence
  extract_lets _ _ t
  have drained : KeepsAlarms s t :=
    (KeepsAlarms.abortWhere s (fun _ => true) 6).trans (KeepsAlarms.lockDamask _)
  split
  · exact .lockDamask s
  · split
    · exact .refl s
    · exact .refl s
    · exact (KeepsAlarms.lockDamask s).trans (.of_same ⟨rfl, rfl⟩ rfl ⟨rfl, rfl⟩ ⟨rfl, rfl, rfl⟩ rfl id)
    · exact (KeepsAlarms.lockDamask s).trans (.of_same ⟨rfl, rfl⟩ rfl ⟨rfl, rfl⟩ ⟨rfl, rfl, rfl⟩ rfl id)
    · split
      · split
        · exact KeepsAlarms.undoRequest s _
        · exact (KeepsAlarms.undoRequest s _).trans (KeepsAlarms.enterLocked _ _)
      · exact drained.trans (.of_same ⟨rfl, rfl⟩ rfl ⟨rfl, rfl⟩ ⟨rfl, rfl, rfl⟩ rfl id)
    · exact KeepsAlarms.enterLocked s _


theorem KeepsAlarms.cutStimulus (s : State) : KeepsAlarms s s.cutStimulus := by
  unfold State.cutStimulus
  split
  · exact .refl s
  next m _ =>
    refine ⟨⟨rfl, rfl, rfl, rfl, rfl⟩, ⟨rfl, rfl⟩, fun k => ?_, rfl, id⟩
    by_cases here : k = m
    · subst here
      simp [State.monitor]
    · simp [State.monitor, here]

theorem KeepsUnits.eraseLogged (s : State) (cause : Nat) : KeepsUnits s (s.eraseLogged cause) :=
  .of_frame ((OnlyIn.refl _ s).eraseLogged cause (List.Subset.refl _))

theorem KeepsUnits.classAction (s : State) (cls : Nat) : KeepsUnits s (s.classAction cls) := by
  have cut := (KeepsAlarms.cutStimulus s).toKeepsUnits
  unfold State.classAction
  split
  · exact (cut.trans (KeepsUnits.eraseLogged _ 1)).trans (KeepsAlarms.lockSequence _ _).toKeepsUnits
  · split
    · exact cut.trans (KeepsAlarms.lockSequence _ _).toKeepsUnits
    · exact .refl s

theorem KeepsUnits.noteAlarm (s : State) (mon cls data : Nat) (stim : Bool) : KeepsUnits s (s.noteAlarm mon cls data stim) := by
  unfold State.noteAlarm
  extract_lets m now s1 param _ _ s2
  have set : KeepsUnits s s2 := ⟨rfl, rfl, rfl, rfl, rfl⟩
  exact set.trans (.of_frame (l := [.bkd, .rcd]) (by simp))

theorem KeepsUnits.raiseAlarm (s : State) (mon data : Nat) (stim : Bool) : KeepsUnits s (s.raiseAlarm mon data stim) := by
  unfold State.raiseAlarm
  extract_lets m
  split
  · split
    · exact .refl s
    · exact ⟨rfl, rfl, rfl, rfl, rfl⟩
  · exact (KeepsUnits.noteAlarm s mon _ data stim).trans (KeepsUnits.classAction _ _)

end Sys2Proof.Machine
end

section
/-! PROOFS. Lemmas and obligations: the entropy unit. -/

namespace Sys2Proof.Machine

set_option Elab.async false

/-! ## Start-up, failure and retest of the entropy unit (file 10, Start-up and continuous health tests) -/

/-- A fence of the entropy unit empties it for good; the code of a failed start stands (R308). -/
theorem State.fenceEntropy_fenced {s : State} (open' : s.ent.state ≠ .fenced) :
    s.fenceEntropy.ent.state = .fenced ∧ s.fenceEntropy.ent.words = 0 ∧ s.fenceEntropy.sys.bootErr = s.sys.bootErr := by
  unfold State.fenceEntropy
  extract_lets _ t
  rw [if_neg open']
  have offered : KeepsUnits t (t.offer 0x0A03 t.ent.fails 0 0) := .of_frame ((OnlyIn.refl _ t).offer _ _ _ _ (List.Subset.refl _))
  obtain ⟨state, buf, bootErr, -, -⟩ :=
    (offered.trans (KeepsUnits.raiseAlarm _ (0x800 + 4) (0 % 256) false)).trans (KeepsAlarms.afterFence _).toKeepsUnits
  exact ⟨state, congrArg List.length buf, bootErr⟩

theorem State.serveStalled_of_none {s : State} (nobody : s.ent.stalled = []) : s.serveStalled = s := by
  simp [State.serveStalled, nobody]

theorem Drbg.lines_length (n : Nat) : ∀ d : Drbg, (Drbg.lines n d).length = 4 * n := by
  induction n with
  | zero => intro d; rfl
  | succ n ih =>
    intro d
    rw [Drbg.lines, List.length_append, ih]
    simp [Drbg.line]
    omega

theorem getLsbD_count_eq_zero (x : BitVec 128) : ((List.range 128).countP fun k => x.getLsbD k) = 0 ↔ x = 0 := by
  rw [List.countP_eq_zero]
  refine ⟨fun clear => BitVec.eq_of_getLsbD_eq fun k lt => ?_, fun zero => by simp [zero]⟩
  simpa using clear k (List.mem_range.mpr lt)

/-- Streams that were excluded already exclude nothing (R306). -/
theorem or_eq_of_and_not {x f : BitVec 128} (known : f &&& ~~~x = 0) : x ||| f = x := by
  refine BitVec.eq_of_getLsbD_eq fun k lt => ?_
  have bit := congrArg (BitVec.getLsbD · k) known
  simp only [BitVec.getLsbD_and, BitVec.getLsbD_not, lt, decide_true, Bool.true_and, BitVec.getLsbD_or] at bit ⊢
  cases h : x.getLsbD k <;> cases g : f.getLsbD k <;> simp_all

theorem Entropy.firstSeed_noted {e : Entropy} {failed : BitVec 128} (known : failed &&& ~~~e.excluded = 0) (rct apt last k : Nat)
    (cond exp : Bool) : ((e.noteStreams failed rct apt last).noteKats cond exp).firstSeed k = e.firstSeed k := by
  unfold Entropy.noteStreams Entropy.noteKats
  rw [or_eq_of_and_not known]
  rfl

/-- The unit after an attempt without failures (R41, R301). -/
def Entropy.started (e : Entropy) (k : Nat) (pers : BitVec 384) : Entropy :=
  let e1 := { e.instantiate k pers with ready := true }
  if e1.legacyDue then e1.beginLegacy else e1

theorem Entropy.started_runs (e : Entropy) (k : Nat) (pers : BitVec 384) :
    (e.started k pers).state = .running ∧ (e.started k pers).buf = Drbg.lines 128 (Drbg.instantiate (e.firstSeed k) pers)
      ∧ (e.started k pers).requests = 128 ∧ (e.started k pers).legacyTest = (e.legacyTest || e.legacyDue)
      ∧ (e.started k pers).legacy = (e.legacy || e.legacyDue) ∧ (e.started k pers).excluded = e.excluded
      ∧ (e.started k pers).stalled = e.stalled ∧ (e.started k pers).condPass = e.condPass ∧ (e.started k pers).expPass = e.expPass := by
  unfold Entropy.started
  extract_lets _ e1
  have due : e1.legacyDue = e.legacyDue := rfl
  cases h : e.legacyDue
  · rw [if_neg (by simp [due, h])]
    refine ⟨rfl, rfl, rfl, ?_, ?_, rfl, rfl, rfl, rfl⟩
    · exact (Bool.or_false _).symm
    · exact (Bool.or_false _).symm
  · rw [if_pos (by simp [due, h])]
    refine ⟨rfl, rfl, rfl, ?_, ?_, rfl, rfl, rfl, rfl⟩
    · exact (Bool.or_true _).symm
    · exact (Bool.or_true _).symm

/-- Whether too few streams are healthy depends on the mode and on the streams that are excluded (R307). -/
theorem Entropy.starved_congr {e f : Entropy} (legacy : f.legacy = e.legacy) (excluded : f.excluded = e.excluded) :
    f.starved = e.starved := by
  unfold Entropy.starved Entropy.healthy Entropy.streams
  rw [legacy, excluded]

/-- An attempt without failures puts the unit into service (R41, R306). -/
theorem entStartupAttemptEnd_passes {s : State} (nobody : s.ent.stalled = []) {failed : BitVec 128} (starting : s.ent.state = .startup)
    (attempts : s.ent.attempts < 3) (known : failed &&& ~~~s.ent.excluded = 0)
    (enough : { s.ent with legacy := s.ent.legacy || s.ent.legacyDue }.starved = false) :
    Completes (.entStartupAttemptEnd failed ⟨true, true⟩) s fun t =>
      let d := Drbg.instantiate (s.ent.firstSeed (s.fresh + 2)) (personalisation s.bkd.pwrcyc)
      t.ent.state = .running ∧ t.ent.buf = Drbg.lines 128 d ∧ t.ent.words = 512 ∧ t.ent.requests = 128 ∧ t.ent.excluded = s.ent.excluded ||| failed
        ∧ t.ent.legacyTest = (s.ent.legacyTest || s.ent.legacyDue) ∧ t.sys.entReady = true
        ∧ t.ent.condPass = true ∧ t.ent.expPass = true ∧ OnlyIn [.sys, .ent, .fresh] s t := by
  obtain ⟨e, he⟩ : ∃ e, e = (s.ent.noteStreams failed 0 0 s.ent.lastStream).noteKats true true := ⟨_, rfl⟩
  have seed : e.firstSeed (s.fresh + 2) = s.ent.firstSeed (s.fresh + 2) := by rw [he, Entropy.firstSeed_noted known]
  obtain ⟨state, buf, requests, test, legacy, excluded, stalled, condPass, expPass⟩ :=
    e.started_runs (s.fresh + 2) (personalisation s.bkd.pwrcyc)
  obtain ⟨u, hu⟩ : ∃ u : State, u = { s with ent := e.started (s.fresh + 2) (personalisation s.bkd.pwrcyc), fresh := s.fresh + 2 + e.firstTicks,
                                             sys := { s.sys with entReady := true } } := ⟨_, rfl⟩
  have ent : u.ent = e.started (s.fresh + 2) (personalisation s.bkd.pwrcyc) := by rw [hu]
  have healthy : u.ent.starved = false := by
    rw [ent, ← enough]
    refine Entropy.starved_congr (legacy.trans ?_) (excluded.trans ?_)
    · rw [he]
      rfl
    · rw [he]
      exact or_eq_of_and_not known
  have unfenced : u.fenceStarved = u := if_neg (by simp [healthy])
  have served : u.serveStalled = u := State.serveStalled_of_none (by rw [ent, stalled, he]; exact nobody)
  have ends : exec (.entStartupAttemptEnd failed ⟨true, true⟩) s = .next u.fenceStarved.serveStalled := by
    show execEntStartupAttemptEnd failed ⟨true, true⟩ s = _
    have none' : ((List.range 128).countP fun k => (failed &&& ~~~s.ent.excluded).getLsbD k) = 0 := (getLsbD_count_eq_zero _).mpr known
    unfold execEntStartupAttemptEnd
    rw [if_neg (by simp [starting]; omega)]
    simp only [none', zero_add, Nat.mod_one, Nat.sub_self, ← he, if_true, and_self, hu]
    rfl
  rw [unfenced, served] at ends
  refine ⟨u, ends, ?_⟩
  have words : u.ent.words = 512 := by rw [Entropy.words, ent, buf, Drbg.lines_length]
  dsimp only
  rw [words, ent, buf, seed, excluded, test, condPass, expPass]
  refine ⟨state, rfl, rfl, requests, ?_, ?_, ?_, ?_, ?_, ?_⟩
  · rw [he]
    rfl
  · rw [he]
    rfl
  · rw [hu]
  · rw [he]
    rfl
  · rw [he]
    rfl
  · rw [hu]
    simp

/-- The unit after a failed attempt, before a fence (R41, R307). -/
def State.attemptFailed (s : State) (failed : BitVec 128) (cond exp : Bool) : State :=
  let n := (List.range 128).countP fun k => (failed &&& ~~~s.ent.excluded).getLsbD k
  let split := Config.freshNat s.fresh % (n + 1)
  let e := (s.ent.noteStreams failed split (n - split)
    (if n = 0 then s.ent.lastStream else Config.freshNat (s.fresh + 1) % 128)).noteKats cond exp
  let t := { s with ent := { e with attempts := e.attempts + 1 }, fresh := s.fresh + 2 }
  if t.ent.attempts = 3 then { t with sys := { t.sys with bootErr := 0x11 } }.offer 0x0A02 3 0 0 else t

theorem State.attemptFailed_counts (s : State) (failed : BitVec 128) (cond exp : Bool) :
    (s.attemptFailed failed cond exp).ent.state = s.ent.state ∧ (s.attemptFailed failed cond exp).ent.attempts = s.ent.attempts + 1
      ∧ (s.attemptFailed failed cond exp).ent.excluded = s.ent.excluded ||| failed
      ∧ (s.attemptFailed failed cond exp).sys.bootErr = (if s.ent.attempts = 2 then 0x11 else s.sys.bootErr)
      ∧ OnlyIn [.sys, .ent, .rcd, .fresh] s (s.attemptFailed failed cond exp) := by
  unfold State.attemptFailed
  extract_lets n split e t
  have attempts : t.ent.attempts = s.ent.attempts + 1 := rfl
  split
  · next third =>
    obtain ⟨v, hv⟩ : ∃ v, v = { t with sys := { t.sys with bootErr := 0x11 } } := ⟨_, rfl⟩
    have offered : OnlyIn [.rcd] v (v.offer 0x0A02 3 0 0) := (OnlyIn.refl _ v).offer _ _ _ _ (List.Subset.refl _)
    have frame : OnlyIn [.sys, .ent, .fresh] s v := by rw [hv]; simp [t]
    rw [← hv, offered.ent_eq (by simp), offered.sys_eq (by simp), hv]
    refine ⟨rfl, rfl, rfl, (if_pos (by omega)).symm, ?_⟩
    rw [← hv]
    exact (frame.mono (by simp)).offer _ _ _ _ (by simp)
  · next early => exact ⟨rfl, rfl, rfl, (if_neg (by omega)).symm, by simp [t]⟩

theorem entStartupAttemptEnd_fails {s : State} {failed : BitVec 128} {cond exp : Bool} (starting : s.ent.state = .startup)
    (attempts : s.ent.attempts < 3) (fails : ¬ (failed &&& ~~~s.ent.excluded = 0 ∧ cond = true ∧ exp = true)) :
    let fences := { s.ent with excluded := s.ent.excluded ||| failed }.starved = true ∨ 2 ≤ s.ent.condFails + flag (!cond)
      ∨ 2 ≤ s.ent.expFails + flag (!exp)
    (fences → exec (.entStartupAttemptEnd failed ⟨cond, exp⟩) s = .next (s.attemptFailed failed cond exp).fenceEntropy)
      ∧ (¬ fences → exec (.entStartupAttemptEnd failed ⟨cond, exp⟩) s = .next (s.attemptFailed failed cond exp)) := by
  intro fences
  have ends : exec (.entStartupAttemptEnd failed ⟨cond, exp⟩) s =
      .next (if fences then (s.attemptFailed failed cond exp).fenceEntropy else s.attemptFailed failed cond exp) := by
    show execEntStartupAttemptEnd failed ⟨cond, exp⟩ s = _
    unfold execEntStartupAttemptEnd
    rw [if_neg (by simp [starting]; omega)]
    extract_lets new n split last e t
    rw [if_neg (by rwa [getLsbD_count_eq_zero])]
    rfl
  rw [ends]
  exact ⟨fun h => congrArg _ (if_pos h), fun h => congrArg _ (if_neg h)⟩

theorem State.noteHealth_ent (s : State) {stream test : Nat} (count : Nat) (health : test ≠ 3) : (s.noteHealth stream test count).ent =
    { s.ent with rct := if test = 1 then satAdd 8 s.ent.rct 1 else s.ent.rct
                 apt := if test = 2 then satAdd 8 s.ent.apt 1 else s.ent.apt
                 lastStream := stream % 128, excluded := s.ent.excluded ||| (1#128 <<< stream) } := by
  unfold State.noteHealth
  rw [((OnlyIn.refl _ _).offer _ _ _ _ (List.Subset.refl _)).ent_eq (by simp)]
  simp only [if_neg health]

/-- A health failure of a unit that serves stops it and excludes the stream (R308). -/
theorem State.failEntropy_notes (s : State) {stream test : Nat} (lt : stream < 128) (count : Nat) (health : test ≠ 3) :
    let t := s.failEntropy.noteHealth stream test count
    t.ent.state = .failed ∧ t.ent.buf = [] ∧ t.ent.pool = none ∧ t.ent.drbg = Drbg.zero ∧ t.ent.excluded.getLsbD stream = true
      ∧ t.ent.starved = { s.ent with excluded := s.ent.excluded ||| (1#128 <<< stream) }.starved ∧ OnlyIn [.ent, .rcd] s t := by
  intro t
  have ent := s.failEntropy.noteHealth_ent (stream := stream) count health
  have frame : OnlyIn [.ent, .rcd] s t := by simp [t]
  have starved : t.ent.starved = { s.ent with excluded := s.ent.excluded ||| (1#128 <<< stream) }.starved :=
    Entropy.starved_congr (by rw [ent]; rfl) (by rw [ent]; rfl)
  have excluded : t.ent.excluded = s.ent.excluded ||| (1#128 <<< stream) := by
    rw [ent]
    rfl
  refine ⟨?_, ?_, ?_, ?_, ?_, starved, frame⟩
  · rw [ent]
    rfl
  · rw [ent]
    rfl
  · rw [ent]
    rfl
  · rw [ent]
    rfl
  · rw [excluded]
    simp [lt]

/-- Settles O37: each outcome of a test is read off the unit that it leaves, and a fence leaves it empty. -/
theorem entropyStartsFailsAndRetests : Obligations.EntropyStartsFailsAndRetests := by
  intro s nobody
  refine ⟨fun failed starting attempts known enough => entStartupAttemptEnd_passes nobody starting attempts known enough,
    fun failed cond exp starting attempts fails => ?_, fun stream test count serving failing => ?_, fun stream test count within => ?_,
    fun failed => ?_⟩
  · intro e fences
    obtain ⟨fenced, unfenced⟩ := entStartupAttemptEnd_fails starting attempts fails
    obtain ⟨state, counted, excluded, bootErr, frame⟩ := s.attemptFailed_counts failed cond exp
    refine ⟨fun fence => ?_, fun none' => ⟨_, unfenced none', state.trans starting, counted, excluded, bootErr, frame⟩⟩
    obtain ⟨stopped, empty, kept⟩ := State.fenceEntropy_fenced (s := s.attemptFailed failed cond exp) (by rw [state, starting]; decide)
    exact ⟨_, fenced fence, stopped, empty, fun third => kept.trans (bootErr.trans (if_pos third))⟩
  · intro e
    have known := failing
    simp only [Entropy.failing, Entropy.streams, Bool.and_eq_true, Bool.or_eq_true, decide_eq_true_eq, List.contains_iff_mem,
      List.mem_filter, List.mem_range] at known
    obtain ⟨⟨kind, lt, -⟩, -⟩ := known
    have lt : stream < 128 := lt.trans_le (by split <;> decide)
    obtain ⟨state, buf, pool, drbg, excluded, starved, frame⟩ := s.failEntropy_notes lt count (by omega : test ≠ 3)
    have stops : exec (.healthTestFailure stream test count) s = .next (
        if (s.failEntropy.noteHealth stream test count).ent.starved then (s.failEntropy.noteHealth stream test count).fenceEntropy
        else s.failEntropy.noteHealth stream test count) := by
      show execHealthTestFailure stream test count s = _
      rw [execHealthTestFailure, if_neg (by simp [failing])]
      simp only [serving]
    have fenced := State.fenceEntropy_fenced (s := s.failEntropy.noteHealth stream test count) (by rw [state]; decide)
    refine ⟨fun enough => ⟨_, ?_, state, buf, pool, drbg, excluded, frame⟩, fun few => ⟨_, ?_, fenced.1⟩⟩
    · rw [stops, if_neg (by rw [starved, enough]; decide)]
    · rw [stops, if_pos (by rw [starved, few])]
  · show execHealthTestFailure stream test count s = _
    exact if_pos within
  · obtain ⟨u, hu⟩ : ∃ u : State, u = { s with ent := s.ent.instantiate s.fresh (personalisation s.bkd.pwrcyc) }.skip s.ent.firstTicks :=
      ⟨_, rfl⟩
    have served : u.serveStalled = u := State.serveStalled_of_none (by rw [hu]; exact nobody)
    refine ⟨u, ?_, ?_⟩
    · show execRetestComplete s = _
      rw [execRetestComplete, if_pos failed, ← hu, served]
    · rw [hu]
      exact ⟨rfl, rfl, Drbg.lines_length _ _, rfl, by simp [State.skip]⟩

/-! ## The expander's interval, and the reseeds and tests of a unit that serves (file 10, Expander; Known-answer tests) -/

theorem Entropy.atDue_of_early {e : Entropy} (early : e.due = false) : e.atDue = e := if_pos early

theorem Entropy.atDue_of_pool {e : Entropy} {x : BitVec 384} (due : e.due = true) (native : e.legacyTest = false) (pool : e.pool = some x) :
    e.atDue = e.reseedFrom x := by
  unfold Entropy.atDue
  rw [if_neg (by simp [due])]
  simp only [pool, native]

theorem Entropy.atDue_of_none {e : Entropy} (due : e.due = true) (none' : e.legacyTest = true ∨ e.pool = none) :
    e.atDue = if e.stretchLog2 ≤ e.curLog2 then e else { e with curLog2 := e.curLog2 + 1, stretched := true } := by
  unfold Entropy.atDue
  rw [if_neg (by simp [due])]
  split
  · next pool native => rcases none' with h | h <;> simp_all
  · rfl

theorem Drbg.lines_add (m k : Nat) : ∀ d : Drbg, Drbg.lines (m + k) d = Drbg.lines m d ++ Drbg.lines k (Drbg.after m d) := by
  induction m with
  | zero => intro d; rw [Nat.zero_add]; rfl
  | succ m ih => intro d; rw [Nat.succ_add, Drbg.lines, ih, Drbg.lines, List.append_assoc, Drbg.after]

theorem Drbg.after_add (m k : Nat) : ∀ d : Drbg, Drbg.after (m + k) d = Drbg.after k (Drbg.after m d) := by
  induction m with
  | zero => intro d; rw [Nat.zero_add]; rfl
  | succ m ih => intro d; rw [Nat.succ_add, Drbg.after, ih, Drbg.after]

/-- How the expander's interval moves from one unit to another: it stays between its settings, and requests stay within it (R309). -/
structure KeepsInterval (e f : Entropy) : Prop where
  settings : f.reseedLog2 = e.reseedLog2 ∧ f.stretchLog2 = e.stretchLog2 ∧ f.state = e.state
  within : e.requests ≤ 2 ^ e.curLog2 → f.requests ≤ 2 ^ f.curLog2
  le : f.curLog2 ≤ max (max e.curLog2 e.reseedLog2) e.stretchLog2
  ge : min e.curLog2 e.reseedLog2 ≤ f.curLog2
  grows : e.pool = none → f.pool = none ∧ e.curLog2 ≤ f.curLog2

theorem KeepsInterval.refl (e : Entropy) : KeepsInterval e e :=
  ⟨⟨rfl, rfl, rfl⟩, id, by omega, by omega, fun h => ⟨h, le_rfl⟩⟩

theorem KeepsInterval.trans {e f g : Entropy} (h : KeepsInterval e f) (k : KeepsInterval f g) : KeepsInterval e g := by
  obtain ⟨⟨reseed, stretch, state⟩, within, le, ge, grows⟩ := h
  obtain ⟨⟨reseed', stretch', state'⟩, within', le', ge', grows'⟩ := k
  refine ⟨⟨reseed'.trans reseed, stretch'.trans stretch, state'.trans state⟩, fun h => within' (within h), by omega, by omega, fun none' => ?_⟩
  obtain ⟨pool, up⟩ := grows none'
  exact ⟨(grows' pool).1, up.trans (grows' pool).2⟩

theorem KeepsInterval.atDue (e : Entropy) : KeepsInterval e e.atDue := by
  have stretched (h : ¬ e.stretchLog2 ≤ e.curLog2) : KeepsInterval e { e with curLog2 := e.curLog2 + 1, stretched := true } :=
    ⟨⟨rfl, rfl, rfl⟩, fun h => h.trans (Nat.pow_le_pow_right (by decide) (Nat.le_succ _)), by dsimp only; omega, by dsimp only; omega,
      fun none' => ⟨none', Nat.le_succ _⟩⟩
  unfold Entropy.atDue
  split
  · exact .refl e
  · split
    · next pool _ =>
      exact ⟨⟨rfl, rfl, rfl⟩, fun _ => Nat.zero_le _, by simp only [Entropy.reseedFrom]; omega, by simp only [Entropy.reseedFrom]; omega,
        fun none' => by simp [none'] at pool⟩
    · split
      · exact .refl e
      · next h => exact stretched h

theorem Entropy.atDue_drbg {e : Entropy} (empty : e.pool = none) : e.atDue.drbg = e.drbg := by
  unfold Entropy.atDue
  split
  · rfl
  · split
    · next pool _ => simp [empty] at pool
    · split <;> rfl

/-- What is produced keeps the interval, is four words a request, and follows the expander's output while no seed waits (R309). -/
theorem Entropy.produce_keeps (fuel : Nat) : ∀ (e : Entropy) (n : Nat),
    KeepsInterval e (e.produce fuel n).1 ∧ (e.produce fuel n).2.length ≤ 4 * n
      ∧ (e.pool = none → ∃ k, (e.produce fuel n).2 = Drbg.lines k e.drbg ∧ (e.produce fuel n).1.drbg = Drbg.after k e.drbg) := by
  induction fuel with
  | zero => exact fun e n => ⟨.refl e, Nat.zero_le _, fun _ => ⟨0, rfl, rfl⟩⟩
  | succ fuel ih =>
    intro e n
    unfold Entropy.produce
    extract_lets m r
    split
    · exact ⟨.refl e, Nat.zero_le _, fun _ => ⟨0, rfl, rfl⟩⟩
    · obtain ⟨a, ha⟩ : ∃ a, a = { e with requests := e.requests + m, drbg := Drbg.after m e.drbg } := ⟨_, rfl⟩
      have served : KeepsInterval e a := by
        rw [ha]
        exact ⟨⟨rfl, rfl, rfl⟩, fun h => by dsimp only; omega, by dsimp only; omega, by dsimp only; omega, fun none' => ⟨none', le_rfl⟩⟩
      have made : r = a.atDue.produce fuel (n - m) := by rw [ha]
      obtain ⟨keeps, length, follows⟩ := ih a.atDue (n - m)
      rw [← made] at keeps length follows
      refine ⟨(served.trans (.atDue a)).trans keeps, ?_, fun empty => ?_⟩
      · rw [List.length_append, Drbg.lines_length]
        omega
      · have none' : a.pool = none := (served.grows empty).1
        obtain ⟨k, lines, after⟩ := follows ((KeepsInterval.atDue a).grows none').1
        have drbg : a.atDue.drbg = Drbg.after m e.drbg := by rw [Entropy.atDue_drbg none', ha]
        exact ⟨m + k, by rw [lines, drbg, Drbg.lines_add], by rw [after, drbg, Drbg.after_add]⟩

/-- Words are taken in order, and the buffer stays within its 512 words (R305, R309). -/
theorem Entropy.take_keeps {e f : Entropy} {n : Nat} {w : List W128} (words : e.words ≤ 512) (taken : e.take n = some (w, f)) :
    e.state = .running ∧ w.length = n ∧ f.words ≤ 512 ∧ KeepsInterval e f
      ∧ (e.pool = none → ∃ k, w ++ f.buf = e.buf ++ Drbg.lines k e.drbg ∧ f.drbg = Drbg.after k e.drbg) := by
  unfold Entropy.take at taken
  split at taken
  · cases taken
  · next serving =>
    obtain ⟨keeps, length, follows⟩ := Entropy.produce_keeps 32 e ((512 + n - e.words) / 4)
    obtain ⟨r, hr⟩ : ∃ r, r = e.produce 32 ((512 + n - e.words) / 4) := ⟨_, rfl⟩
    rw [← hr] at keeps length follows
    simp only [← hr] at taken
    split at taken
    · next enough =>
      cases taken
      obtain ⟨settings, within, le, ge, grows⟩ := keeps
      refine ⟨Decidable.not_not.mp serving, List.length_take_of_le enough, ?_, ⟨settings, within, le, ge, grows⟩, fun empty => ?_⟩
      · rw [Entropy.words] at words length ⊢
        rw [List.length_drop, List.length_append]
        omega
      · obtain ⟨k, lines, after⟩ := follows empty
        exact ⟨k, by rw [List.take_append_drop, lines], after⟩
    · cases taken

/-- A failed known-answer test stops the unit, and a second one fences it (R313). -/
theorem State.katFailed_stops (s : State) (fails : Nat) :
    (fails < 2 → (s.katFailed fails).ent.state = .failed ∧ (s.katFailed fails).ent.kat = satAdd 8 s.ent.kat 1
        ∧ (s.katFailed fails).ent.condPass = s.ent.condPass ∧ OnlyIn [.ent, .rcd] s (s.katFailed fails))
      ∧ (2 ≤ fails → (s.katFailed fails).ent.state = .fenced) := by
  obtain ⟨t, ht⟩ : ∃ t, t = s.failEntropy.noteHealth 0 3 fails := ⟨_, rfl⟩
  have stops : s.katFailed fails = if 2 ≤ fails then t.fenceEntropy else t := by rw [ht, State.katFailed]
  have frame : OnlyIn [.ent, .rcd] s t := by simp [ht]
  have ent : t.ent = { s.failEntropy.ent with kat := satAdd 8 s.ent.kat 1 } := by
    rw [ht, State.noteHealth, ((OnlyIn.refl _ _).offer _ _ _ _ (List.Subset.refl _)).ent_eq (by simp)]
    rfl
  refine ⟨fun first => ?_, fun second => ?_⟩
  · rw [stops, if_neg (by omega), ent]
    exact ⟨rfl, rfl, rfl, frame⟩
  · rw [stops, if_pos second]
    have state : t.ent.state = .failed := by
      rw [ent]
      rfl
    exact (State.fenceEntropy_fenced (by rw [state]; decide)).1

theorem State.expanderKat_passes (s : State) : s.expanderKat true = { s with ent := { s.ent with
    expDue := false, expPass := true, katRuns := satAdd 16 s.ent.katRuns 1, expFails := s.ent.expFails + 0 } } := rfl

/-- The unit once its conditioner has been tested (R313). -/
def State.condTested (s : State) (pass : Bool) : State :=
  { s with ent := { s.ent with condDue := false, condPass := pass, katRuns := satAdd 16 s.ent.katRuns 1,
                               condFails := s.ent.condFails + flag (!pass) } }

theorem conditionerKat_runs {s : State} (due : s.ent.condDue = true) (may : s.ent.katMayRun = true) (pass : Bool) :
    exec (.conditionerKat pass) s = .next (if pass then
      { s.condTested pass with ent := (s.condTested pass).ent.settle s.fresh, fresh := s.fresh + s.ent.ticksFor 1024 }
      else (s.condTested pass).katFailed (s.condTested pass).ent.condFails) := by
  have runs : ¬ (s.ent.condDue = false ∨ s.ent.katMayRun = false) := by simp [due, may]
  exact if_neg runs

/-- A full buffer takes nothing from the expander (R305). -/
theorem Entropy.refill_full {e : Entropy} (full : e.words = 512) : e.refill = e := by
  have none' : e.produce 32 ((512 - e.words) / 4) = (e, []) := by simp [full, Entropy.produce]
  rw [Entropy.refill, none']
  simp

/-- Settles O38: the commands are read at their conditions, and what is taken by what the expander produces for it. -/
theorem entropyReseedsAndTestsItself : Obligations.EntropyReseedsAndTestsItself := by
  refine ⟨fun s serving nobody => ⟨fun test => ?_, fun native empty => ?_, fun x pool due native full => ?_, fun period => ?_, fun may => ?kats⟩,
    fun e f n w words requests taken => ?taken,
    fun e => ⟨Entropy.atDue_of_early, fun due native x pool => Entropy.atDue_of_pool due native pool, Entropy.atDue_of_none⟩⟩
  case taken =>
    obtain ⟨running, length, bound, ⟨⟨-, -, state⟩, within, le, ge, grows⟩, follows⟩ := Entropy.take_keeps words taken
    exact ⟨length, bound, within requests, state.trans running, le, ge, fun empty => ⟨(grows empty).2, follows empty⟩⟩
  case kats =>
    refine ⟨fun due => ⟨_, conditionerKat_runs due may true, rfl, rfl, serving, rfl, rfl, by simp [State.condTested]⟩, fun due first => ?_,
      fun due second => ?_, fun due full => ?_, fun due short => ?_⟩
    · have fails : (s.condTested false).ent.condFails = 1 := by simp [State.condTested, first, flag]
      obtain ⟨state, kat, pass, frame⟩ := ((s.condTested false).katFailed_stops (s.condTested false).ent.condFails).1 (by omega)
      have set : OnlyIn [.ent, .rcd] s (s.condTested false) := by simp [State.condTested]
      exact ⟨_, conditionerKat_runs due may false, pass, state, kat, set.trans frame⟩
    · have fails : 2 ≤ (s.condTested false).ent.condFails := by
        simp [State.condTested, flag]
        omega
      exact ⟨_, conditionerKat_runs due may false,
        ((s.condTested false).katFailed_stops (s.condTested false).ent.condFails).2 fails⟩
    · have runs : execExpanderKat true s = .next (s.expanderKat true) := if_pos ⟨due, may, full⟩
      refine ⟨s.expanderKat true, runs, ?_⟩
      rw [State.expanderKat_passes]
      exact ⟨rfl, rfl, full, by simp⟩
    · have runs : execExpanderKatForce true s = .next (s.expanderKat true) := if_pos ⟨due, may, short⟩
      refine ⟨s.expanderKat true, runs, ?_⟩
      rw [State.expanderKat_passes]
      exact ⟨rfl, rfl, rfl, by simp⟩
  · show execLegacyStartupComplete s = _
    exact if_pos ⟨test, serving⟩
  · obtain ⟨t, ht⟩ : ∃ t : State, t = { s with ent := { s.ent.poured s.fresh with pool := some (s.ent.poolBits s.fresh) },
                                               fresh := s.fresh + s.ent.poolTicks } := ⟨_, rfl⟩
    have served : t.serveStalled = t := State.serveStalled_of_none (by rw [ht]; exact nobody)
    have fills : execSeedPoolFull s = .next (if t.ent.due then t else t.serveStalled) := by
      rw [execSeedPoolFull, if_pos ⟨serving, native, by simp [Entropy.poolFull, empty]⟩, ht]
    show execSeedPoolFull s = _
    rw [fills, served, ite_self, ht]
  · obtain ⟨t, ht⟩ : ∃ t : State, t = { s with ent := (s.ent.reseedFrom x).refill } := ⟨_, rfl⟩
    have ent : (s.ent.reseedFrom x).refill = s.ent.reseedFrom x := Entropy.refill_full full
    rw [ent] at ht
    have served : t.serveStalled = t := State.serveStalled_of_none (by rw [ht]; exact nobody)
    refine ⟨t, ?_, ?_⟩
    · show execExpanderReseed s = _
      unfold execExpanderReseed
      simp only [pool]
      rw [if_pos ⟨serving, due, native⟩, ent, ← ht, served]
    · rw [ht]
      exact ⟨rfl, rfl, rfl, rfl, rfl, rfl, by simp⟩
  · show execKatPeriodic s = _
    exact if_pos ⟨serving, period⟩

end Sys2Proof.Machine
end

section
/-! PROOFS. Lemmas and obligations: the Zynkel cores. -/

namespace Sys2Proof.Machine

set_option Elab.async false

/-! ## Issue of a Zynkel word (file 11, The instruction word; Loads and stores; Exceptions and interrupts) -/

theorem longKind_longCode (k : ZKind) : longKind k.longCode = some k := by cases k <;> rfl

theorem longOp_kind {supv : Bool} {w : World} {k : ZKind} {a : ZArgs} {o : ZOp} (named : longOp supv w { opc := k.longCode, args := a } = some o) :
    o = { kind := k, a := a, slot := false, immZ := (a.imm.setWidth 31).setWidth 64, immS := (a.imm.setWidth 31).signExtend 64 } := by
  simp only [longOp, longKind_longCode] at named
  split at named
  · exact (Option.some.inj named).symm
  · cases named

/-- A word that decodes to one operation alone is a long one (R318). -/
theorem decodeOps_single {supv : Bool} {w : World} {k : ZKind} {f : ZForm} {a : ZArgs} {o : ZOp}
    (decoded : decodeOps supv w (zword k f a) = .ops [o]) : f = .long ∧
      o = { kind := k, a := a, slot := false, immZ := (a.imm.setWidth 31).setWidth 64, immS := (a.imm.setWidth 31).signExtend 64 } := by
  have slots (x y : ZMate) : decodeOps supv w (.paired false x y) ≠ .ops [o] := by
    simp only [decodeOps]
    (repeat' split) <;> simp
  cases f with
  | long =>
    simp only [zword, decodeOps] at decoded
    split at decoded
    · next p named =>
      cases decoded
      exact ⟨rfl, longOp_kind named⟩
    · cases decoded
  | slotX m => exact absurd decoded (slots _ _)
  | slotY m => exact absurd decoded (slots _ _)

theorem State.runWord_free {s : State} {n : Nat} (free : s.marchHolds (s.core n).cur.pc.toNat = false) (w : ZWord) (busy : Bool) :
    (∀ t, s.fetchFault n = some t → s.runWord n w busy = t)
      ∧ (∀ cause slot, s.fetchFault n = none → decodeOps (isSupv n) (s.core n).world w = .fault cause slot →
          s.runWord n w busy = s.exception n 0 cause slot 0)
      ∧ (∀ l, s.fetchFault n = none → decodeOps (isSupv n) (s.core n).world w = .ops l → (∀ o, l = [o] → o.kind.isSystem = false) →
          s.runWord n w busy = s.runOps n l busy) := by
  unfold State.runWord
  rw [if_neg (by simp [free])]
  refine ⟨fun t fault => by simp only [fault], fun cause slot fetched fault => by simp only [fetched, fault], fun l fetched ops user => ?_⟩
  simp only [fetched, ops]
  split
  · next h => cases h
  · next o h =>
    cases h
    rw [user o rfl, if_neg (by decide)]
  · next h =>
    cases h
    rfl

/-- What the operations of a word do, by its memory operation (R324, R332, R340). -/
theorem State.runOps_none {s : State} {n : Nat} {l : List ZOp} (none' : l.find? (fun o => o.kind.isMem) = none) (busy : Bool) :
    ((s.core n).storeDue = none → s.runOps n l busy = s.commitWord n l none)
      ∧ (∀ y, (s.core n).storeDue = some y → s.runOps n l busy = s.takeStore n y) := by
  constructor
  · intro due
    simp only [State.runOps, none', due]
  · intro y due
    simp only [State.runOps, none', due]

theorem State.runOps_some {s : State} {n : Nat} {l : List ZOp} {o : ZOp} (mem : l.find? (fun o => o.kind.isMem) = some o) (busy : Bool) :
    (∀ t cause, s.memOp n o busy = .fault t cause → s.runOps n l busy = t.exception n 0 cause (slotOf l o) (o.taddr (s.core n).cur))
      ∧ (∀ t v, s.memOp n o busy = .done t v → (s.core n).storeDue = none → s.runOps n l busy = t.commitWord n l v)
      ∧ (∀ t, s.memOp n o busy = .stall t → (s.core n).storeDue = none → s.runOps n l busy = t)
      ∧ (∀ t v y, s.memOp n o busy = .done t v ∨ s.memOp n o busy = .stall t → (s.core n).storeDue = some y →
          s.runOps n l busy = s.takeStore n y) := by
  refine ⟨fun t cause fault => ?_, fun t v done due => ?_, fun t stall due => ?_, fun t v y ends due => ?_⟩
  · simp only [State.runOps, mem, fault]
  · simp only [State.runOps, mem, done, due]
  · simp only [State.runOps, mem, stall, due]
  · rcases ends with done | stall
    · simp only [State.runOps, mem, done, due]
    · simp only [State.runOps, mem, stall, due]

/-- Settles O40: each command issues its word, which runs along what its fetch, its decode and its memory operation find. -/
theorem wordsIssueAsDecoded : Obligations.WordsIssueAsDecoded := by
  intro s n f a busy may x mem
  have issues : exec x.2.2.2 s = .next (s.issueWord n (zword x.1 x.2.1 a) x.2.2.1) ∧ x.1.isSystem = false := by
    revert x
    repeat (refine List.forall_mem_cons.mpr ⟨⟨rfl, rfl⟩, ?_⟩)
    exact List.forall_mem_nil _
  obtain ⟨issues, user⟩ := issues
  clear mem
  intro w i c wf
  have runs : exec i s = .next (s.runWord n w x.2.2.1) := issues.trans (congrArg _ (if_pos (by simp [w, wf, may])))
  refine ⟨fun held => ?_, fun free => ?_⟩
  · rw [runs, State.runWord, if_pos held]
  · obtain ⟨fault, undecoded, decoded⟩ := State.runWord_free free w x.2.2.1
    rw [runs]
    refine ⟨fun t h => congrArg _ (fault t h), fun cause slot fetched h => congrArg _ (undecoded cause slot fetched h),
      fun l fetched ops => ?_⟩
    have single (o : ZOp) (h : l = [o]) : o.kind.isSystem = false := by
      rw [h] at ops
      obtain ⟨-, rfl⟩ := decodeOps_single ops
      exact user
    rw [decoded l fetched ops single]
    refine ⟨fun none' => ?_, fun o found => ?_⟩
    · obtain ⟨commits, takes⟩ := State.runOps_none (s := s) (n := n) none' x.2.2.1
      exact ⟨fun due => congrArg _ (commits due), fun y due => congrArg _ (takes y due)⟩
    · obtain ⟨faults, done, stall, takes⟩ := State.runOps_some (s := s) (n := n) found x.2.2.1
      exact ⟨fun t cause h => congrArg _ (faults t cause h), fun t v h due => congrArg _ (done t v h due),
        fun t h due => congrArg _ (stall t h due), fun t v y h due => congrArg _ (takes t v y h due)⟩

/-! ## What a committed word writes (file 11, Registers and predicates; Pairing; Opcode table) -/

theorem ZBank.pred_setG (b : ZBank) (k : Nat) (v : W64) (p : Nat) : (b.setG k v).pred p = b.pred p := by
  unfold ZBank.setG
  split <;> rfl

theorem ZBank.greg_setPred (b : ZBank) (k : Nat) (v : Bool) (r : Nat) : (b.setPred k v).greg r = b.greg r := by
  unfold ZBank.setPred
  split <;> rfl

theorem ZBank.pred_setPred_self (b : ZBank) {k : Nat} (pos : k ≠ 0) (lt : k < 8) (v : Bool) : (b.setPred k v).pred k = v := by
  unfold ZBank.setPred
  rw [if_neg (by omega)]
  cases v <;> simp [ZBank.pred, pos, lt]

theorem ZBank.pred_setPred_other (b : ZBank) {k j : Nat} (ne : j ≠ k) (v : Bool) : (b.setPred k v).pred j = b.pred j := by
  unfold ZBank.setPred
  have bit : (1#8 <<< k).getLsbD j = false := by
    simp
    omega
  split
  · rfl
  · cases v
    · by_cases lt : j < 8
      · simp only [ZBank.pred, Bool.false_eq_true, if_false, BitVec.getLsbD_and, BitVec.getLsbD_not, bit, lt, decide_true, Bool.not_false,
          Bool.and_true]
      · simp only [ZBank.pred, BitVec.getLsbD_of_ge _ _ (Nat.le_of_not_lt lt)]
    · simp only [ZBank.pred, if_true, BitVec.getLsbD_or, bit, Bool.or_false]

/-- What stands in a bank beside its registers and predicates. -/
structure SameBank (b d : ZBank) : Prop where
  rest : d = { b with g := d.g, p := d.p }

theorem SameBank.refl (b : ZBank) : SameBank b b := ⟨rfl⟩

theorem SameBank.trans {b c d : ZBank} (h : SameBank b c) (k : SameBank c d) : SameBank b d := ⟨by rw [k.rest, h.rest]⟩

theorem SameBank.setG (b : ZBank) (k : Nat) (v : W64) : SameBank b (b.setG k v) := by
  unfold ZBank.setG
  split <;> exact ⟨rfl⟩

theorem SameBank.setPred (b : ZBank) (k : Nat) (v : Bool) : SameBank b (b.setPred k v) := by
  unfold ZBank.setPred
  split <;> exact ⟨rfl⟩

theorem mem_visible {r : Nat} {l : List Nat} : r ∈ visible l ↔ r ∈ l ∧ r ≠ 0 ∧ r ≠ 64 := by
  simp [visible]

/-! Which targets an operation's kind has. -/

theorem ZKind.writesRd_of_load {k : ZKind} (load : k.load.isSome = true) : k.writesRd = true := by
  revert load
  cases k <;> decide

theorem ZKind.plain_of_load {k : ZKind} (load : k.load.isSome = true) : k.isCompare = false ∧ k.isPred = false := by
  revert load
  cases k <;> decide

theorem ZKind.plain_of_writesRd {k : ZKind} (writes : k.writesRd = true) : k.isCompare = false ∧ k.isPred = false := by
  revert writes
  cases k <;> decide

theorem ZKind.plain_of_isCompare {k : ZKind} (compare : k.isCompare = true) : k.writesRd = false := by
  revert compare
  cases k <;> decide

theorem ZKind.plain_of_isPred {k : ZKind} (logic : k.isPred = true) : k.writesRd = false ∧ k.isCompare = false := by
  revert logic
  cases k <;> decide

/-- What a compare leaves: its targets alone. -/
theorem ZBank.compare_leaves (b : ZBank) (a : ZArgs) (r : Bool) : SameBank b (b.compare a r)
    ∧ (∀ k, (b.compare a r).greg k = b.greg k) ∧ (∀ p, p ≠ a.pT → p ≠ a.pF → (b.compare a r).pred p = b.pred p) := by
  unfold ZBank.compare
  split
  · exact ⟨.setPred _ _ _, fun k => ZBank.greg_setPred _ _ _ k, fun p ne _ => ZBank.pred_setPred_other _ ne _⟩
  · refine ⟨(SameBank.setPred _ _ _).trans (.setPred _ _ _), fun k => by rw [ZBank.greg_setPred, ZBank.greg_setPred], fun p ne nf => ?_⟩
    rw [ZBank.pred_setPred_other _ nf, ZBank.pred_setPred_other _ ne]

/-- An operation writes its targets alone. -/
theorem ZOp.apply_leaves (o : ZOp) (b : ZBank) (v : Option W64) (x : ZBank) : SameBank x (o.apply b v x)
    ∧ (∀ r, r < 64 → r ∉ o.writes → (o.apply b v x).greg r = x.greg r)
    ∧ (∀ p, p < 8 → 64 + p ∉ o.writes → (o.apply b v x).pred p = x.pred p) := by
  have named (h : o.kind.writesRd = true) (u : W64) : SameBank x (x.setG o.a.rd u)
      ∧ (∀ r, r < 64 → r ∉ o.writes → (x.setG o.a.rd u).greg r = x.greg r)
      ∧ (∀ p, p < 8 → 64 + p ∉ o.writes → (x.setG o.a.rd u).pred p = x.pred p) := by
    refine ⟨.setG _ _ _, fun r lt out => ?_, fun p _ _ => ZBank.pred_setG _ _ _ p⟩
    by_cases zero : r = 0
    · rw [zero, ZBank.greg_zero, ZBank.greg_zero]
    · refine ZBank.greg_setG_other _ (fun eq => out ?_) _
      rw [ZOp.writes, if_pos h]
      exact mem_visible.mpr ⟨List.mem_singleton.mpr eq, zero, by omega⟩
  have same : SameBank x x ∧ (∀ r, r < 64 → r ∉ o.writes → x.greg r = x.greg r) ∧ (∀ p, p < 8 → 64 + p ∉ o.writes → x.pred p = x.pred p) :=
    ⟨.refl x, fun _ _ _ => rfl, fun _ _ _ => rfl⟩
  unfold ZOp.apply
  split
  · exact same
  split
  · next compare =>
    have plain : o.kind.writesRd = false := ZKind.plain_of_isCompare compare
    obtain ⟨bank, regs, preds⟩ := x.compare_leaves o.a (o.relation b)
    refine ⟨bank, fun r _ _ => regs r, fun p lt out => ?_⟩
    by_cases zero : p = 0
    · rw [zero, ZBank.pred_zero, ZBank.pred_zero]
    · rw [ZOp.writes, if_neg (by simp [plain]), if_pos compare, mem_visible] at out
      simp only [List.mem_cons, List.not_mem_nil, or_false, Nat.add_left_cancel_iff, not_and] at out
      refine preds p (fun eq => ?_) (fun eq => ?_)
      · exact out (.inl eq) (by omega) (by omega)
      · exact out (.inr eq) (by omega) (by omega)
  split
  · next _ logic =>
    have plain : o.kind.writesRd = false ∧ o.kind.isCompare = false := ZKind.plain_of_isPred logic
    refine ⟨.setPred _ _ _, fun r _ _ => ZBank.greg_setPred _ _ _ r, fun p lt out => ?_⟩
    by_cases zero : p = 0
    · rw [zero, ZBank.pred_zero, ZBank.pred_zero]
    · rw [ZOp.writes, if_neg (by simp [plain]), if_neg (by simp [plain]), if_pos logic, mem_visible] at out
      exact ZBank.pred_setPred_other _ (fun eq => out ⟨List.mem_singleton.mpr (by rw [eq]), by omega, by omega⟩) _
  split
  · next load =>
    split
    · exact named (ZKind.writesRd_of_load load) _
    · exact same
  split
  · next writes => exact named writes _
  · exact same

/-- Operations that do not write what one of them writes leave it as that one wrote it. -/
theorem ZOp.foldl_leaves (b : ZBank) (v : Option W64) (l : List ZOp) : ∀ x : ZBank, SameBank x (l.foldl (fun x o => o.apply b v x) x)
    ∧ (∀ r, r < 64 → (∀ o ∈ l, r ∉ o.writes) → (l.foldl (fun x o => o.apply b v x) x).greg r = x.greg r)
    ∧ (∀ p, p < 8 → (∀ o ∈ l, 64 + p ∉ o.writes) → (l.foldl (fun x o => o.apply b v x) x).pred p = x.pred p) := by
  induction l with
  | nil => exact fun x => ⟨.refl x, fun _ _ _ => rfl, fun _ _ _ => rfl⟩
  | cons o l ih =>
    intro x
    obtain ⟨bank, regs, preds⟩ := o.apply_leaves b v x
    obtain ⟨bank', regs', preds'⟩ := ih (o.apply b v x)
    refine ⟨bank.trans bank', fun r lt out => ?_, fun p lt out => ?_⟩
    · exact (regs' r lt fun o mem => out o (.tail _ mem)).trans (regs r lt (out o (.head _)))
    · exact (preds' p lt fun o mem => out o (.tail _ mem)).trans (preds p lt (out o (.head _)))

/-- The operation of a word's arguments (R318, R319). -/
def opOf (k : ZKind) (f : ZForm) (a : ZArgs) : ZOp where
  kind := k
  a := a
  immS := if f = .long then (a.imm.setWidth 31).signExtend 64 else (BitVec.ofNat 6 a.rs2).signExtend 64
  immZ := if f = .long then (a.imm.setWidth 31).setWidth 64 else (BitVec.ofNat 6 a.rs2).setWidth 64
  slot := !decide (f = .long)

theorem shortKind_shortCode {k j : ZKind} (named : shortKind k.shortCode = some j) : j = k := by
  revert named
  cases k <;> decide +revert

theorem slotOp_kind {k : ZKind} {f : ZForm} (paired : f ≠ .long) {a : ZArgs} {o : ZOp}
    (named : slotOp { opc := k.shortCode, args := a } = some o) : o = opOf k f a := by
  simp only [slotOp] at named
  split at named
  · cases named
  · next j short =>
    split at named
    · rw [← Option.some.inj named, opOf, shortKind_shortCode short, if_neg paired, if_neg paired]
      simp [paired]
    · cases named

/-- A word that decodes holds the operation of its arguments, whose targets its mate does not write (R318, R319, R324). -/
theorem decodeOps_holds {supv : Bool} {w : World} {k : ZKind} {f : ZForm} {a : ZArgs} {l : List ZOp}
    (decoded : decodeOps supv w (zword k f a) = .ops l) : ∃ pre post, l = pre ++ opOf k f a :: post
      ∧ (∀ q ∈ pre ++ post, (∀ r ∈ (opOf k f a).writes, r ∉ q.writes) ∧ (k.isMul = true → q.kind.isMul = false))
      ∧ (f = .long → pre = [] ∧ post = []) := by
  have apart {p q : ZOp} (ok : pairOk p q = true) : (∀ r ∈ p.writes, r ∉ q.writes) ∧ ¬ (p.kind.isMul = true ∧ q.kind.isMul = true) := by
    simp only [pairOk, noneShared, Bool.and_eq_true, List.all_eq_true, Bool.not_eq_true', List.contains_eq_mem, decide_eq_false_iff_not,
      List.mem_append, not_or, Bool.and_eq_false_iff] at ok
    obtain ⟨⟨⟨writes, -⟩, -⟩, muls⟩ := ok
    refine ⟨fun r mem => (writes r mem).2, fun both => ?_⟩
    rcases muls with h | h <;> simp [h] at both
  have slots {x y : ZMate} (h : decodeOps supv w (.paired false x y) = .ops l) :
      ∃ p q, slotOp x = some p ∧ slotOp y = some q ∧ pairOk p q = true ∧ l = [p, q] := by
    simp only [decodeOps] at h
    split at h
    · cases h
    · cases h
    · next p q hp hq =>
      split at h
      · next ok =>
        cases h
        exact ⟨p, q, hp, hq, ok, rfl⟩
      · cases h
  cases f with
  | long =>
    simp only [zword, decodeOps] at decoded
    split at decoded
    · next o named =>
      cases decoded
      refine ⟨[], [], ?_, fun q mem => absurd mem List.not_mem_nil, fun _ => ⟨rfl, rfl⟩⟩
      rw [longOp_kind named]
      rfl
    · cases decoded
  | slotX m =>
    obtain ⟨p, q, hp, -, ok, rfl⟩ := slots decoded
    rw [slotOp_kind (f := .slotX m) ZForm.noConfusion hp] at ok ⊢
    obtain ⟨writes, muls⟩ := apart ok
    refine ⟨[], [q], rfl, fun o mem => ?_, fun h => ZForm.noConfusion h⟩
    obtain rfl : o = q := List.mem_singleton.mp mem
    exact ⟨writes, fun mul => Bool.eq_false_iff.mpr fun h => muls ⟨mul, h⟩⟩
  | slotY m =>
    obtain ⟨p, q, -, hq, ok, rfl⟩ := slots decoded
    rw [slotOp_kind (f := .slotY m) ZForm.noConfusion hq] at ok ⊢
    obtain ⟨writes, muls⟩ := apart ok
    refine ⟨[p], [], rfl, fun o mem => ?_, fun h => ZForm.noConfusion h⟩
    obtain rfl : o = p := List.mem_singleton.mp mem
    exact ⟨fun r mem out => writes r out mem, fun mul => Bool.eq_false_iff.mpr fun h => muls ⟨h, mul⟩⟩

theorem zword_wf {k : ZKind} {f : ZForm} {a : ZArgs} (wf : (zword k f a).wf = true) : a.rd < 64 := by
  have args (h : a.wf = true) : a.rd < 64 := by
    simp only [ZArgs.wf, Bool.and_eq_true, decide_eq_true_eq] at h
    exact h.1.1.2
  cases f <;> simp only [zword, ZWord.wf, ZMate.wfLong, ZMate.wfSlot, Bool.and_eq_true] at wf
  · exact args wf.1.2
  · exact args wf.1.1.2
  · exact args wf.2.1.2

/-- What an operation with a true guard writes, by its kind (R321 to R323, R344). -/
theorem ZOp.apply_writes {o : ZOp} {b : ZBank} (guard : b.guard o.a = true) (rd : o.a.rd < 64) (v : Option W64) (x : ZBank) :
    (o.kind.writesRd = true → o.kind.load = none → o.a.rd ≠ 0 → (o.apply b v x).greg o.a.rd = o.result b)
      ∧ (∀ u, o.kind.load.isSome = true → v = some u → o.a.rd ≠ 0 → (o.apply b v x).greg o.a.rd = u)
      ∧ (o.kind.isCompare = true → o.a.pT ≠ o.a.pF → (o.a.pT ≠ 0 → (o.apply b v x).pred o.a.pT = o.relation b)
          ∧ (o.a.pF ≠ 0 → (o.apply b v x).pred o.a.pF = !o.relation b))
      ∧ (o.kind.isPred = true → o.a.pT ≠ 0 → (o.apply b v x).pred o.a.pT = o.logic b) := by
  have pT : o.a.pT < 8 := Nat.mod_lt _ (by decide)
  have pF : o.a.pF < 8 := Nat.mod_lt _ (by decide)
  unfold ZOp.apply
  rw [if_neg (by simp [guard])]
  refine ⟨fun writes plain ne => ?_, fun u load out ne => ?_, fun compare targets => ?_, fun logic ne => ?_⟩
  · have kinds := ZKind.plain_of_writesRd writes
    rw [if_neg (by simp [kinds]), if_neg (by simp [kinds]), if_neg (by simp [plain]), if_pos writes,
      ZBank.greg_setG_self _ (Nat.pos_of_ne_zero ne) rd]
  · have kinds := ZKind.plain_of_load load
    rw [if_neg (by simp [kinds]), if_neg (by simp [kinds]), if_pos load, out]
    exact ZBank.greg_setG_self _ (Nat.pos_of_ne_zero ne) rd _
  · rw [if_pos compare, ZBank.compare, if_neg targets]
    refine ⟨fun ne => ?_, fun ne => ZBank.pred_setPred_self _ ne pF _⟩
    rw [ZBank.pred_setPred_other _ targets, ZBank.pred_setPred_self _ ne pT]
  · have kinds := ZKind.plain_of_isPred logic
    rw [if_neg (by simp [kinds]), if_pos logic, ZBank.pred_setPred_self _ ne pT]

theorem leBytes_leNat (l : Bytes) : leBytes l.length (leNat l) = l := by
  induction l with
  | nil => rfl
  | cons b l ih =>
    have low : BitVec.ofNat 8 (b.toNat + 256 * leNat l) = b := BitVec.eq_of_toNat_eq (by simp [BitVec.toNat_ofNat]; omega)
    have high : (b.toNat + 256 * leNat l) / 256 = leNat l := by omega
    rw [List.length_cons, leNat, leBytes, low, high, ih]

theorem leNat_lt (l : Bytes) : leNat l < 256 ^ l.length := by
  induction l with
  | nil => exact Nat.one_pos
  | cons b l ih =>
    rw [leNat, List.length_cons, Nat.pow_succ]
    have byte := b.isLt
    omega

theorem leBytes_bswap (x : W64) : leBytes 8 (bswap x).toNat = (leBytes 8 x.toNat).reverse := by
  have length : (leBytes 8 x.toNat).reverse.length = 8 := by rw [List.length_reverse, leBytes_length]
  have fits := leNat_lt (leBytes 8 x.toNat).reverse
  rw [length] at fits
  have turned : (bswap x).toNat = leNat (leBytes 8 x.toNat).reverse := by
    rw [bswap, beNat, BitVec.toNat_ofNat, Nat.mod_eq_of_lt (fits.trans_le (by decide))]
  rw [turned]
  exact length ▸ leBytes_leNat _

/-- The multiplier writes that a word's operations put in flight (R327). -/
def ZCore.products (c : ZCore) (l : List ZOp) : List MulWrite :=
  (l.filter fun o => o.kind.isMul && c.cur.guard o.a).map fun o => o.product c.world c.cur

/-- The bank that a word's operations leave. -/
def ZCore.written (c : ZCore) (l : List ZOp) (v : Option W64) : ZBank := l.foldl (fun x o => o.apply c.cur v x) c.cur

/-- The core of a committed word, before its cycles pass. -/
def ZCore.committed (c : ZCore) (l : List ZOp) (v : Option W64) : ZCore :=
  { c with flight := c.flight ++ c.products l }.setCur { c.written l v with pc := c.cur.pc + 8 }

theorem ZCore.setCur_flight (c : ZCore) (b : ZBank) : (c.setCur b).flight = c.flight := by
  obtain ⟨w, _⟩ := c
  cases w <;> rfl

theorem ZCore.written_pc (c : ZCore) (l : List ZOp) (v : Option W64) : (c.written l v).pc = c.cur.pc := by
  rw [ZCore.written, ((ZOp.foldl_leaves c.cur v l) c.cur).1.rest]

/-- Cycles pass for a core alone (R325). -/
theorem State.tickCore_moves (s : State) (n : Nat) (c : ZCore) (k : Option Nat) :
    CoreMoves s ((s.setCore n c).tickCore n k) n c (k.getD (1 + Config.freshNat s.fresh)) := by
  obtain ⟨t, ht⟩ : ∃ t, t = s.setCore n c := ⟨_, rfl⟩
  have core : t.core n = c := by rw [ht, State.core_setCore_self]
  have fresh : t.fresh = s.fresh := by rw [ht, State.setCore_fresh]
  refine ⟨?_, fun m ne => ?_, rfl, ?_⟩
  · rw [← ht, State.tickCore, core, fresh]
    exact State.core_setCore_self t n _
  · exact (State.core_setCore_other (s.setCore n c) ne _).trans (State.core_setCore_other s ne c)
  · exact (show OnlyIn [.zyn, .fresh] s (s.setCore n c) by simp).tickCore n k (List.Subset.refl _)

theorem CoreMoves.of_setCore {s t : State} {n k : Nat} {c d : ZCore} (h : CoreMoves (s.setCore n d) t n c k) : CoreMoves s t n c k := by
  obtain ⟨core, others, zyn, frame⟩ := h
  refine ⟨core, fun m ne => (others m ne).trans (State.core_setCore_other s ne d), zyn, ?_⟩
  exact (show OnlyIn [.zyn, .fresh] s (s.setCore n d) by simp).trans frame

theorem State.retireWord_moves (s : State) (n : Nat) (c : ZCore) (k : Option Nat) :
    CoreMoves s ((s.setCore n c).retireWord n k) n (c.setCur { c.cur with pc := c.cur.pc + 8 }) (k.getD (1 + Config.freshNat s.fresh)) := by
  have retires := (s.setCore n c).tickCore_moves n (c.setCur { c.cur with pc := c.cur.pc + 8 }) k
  have same : (s.setCore n c).retireWord n k =
      ((s.setCore n c).setCore n (c.setCur { c.cur with pc := c.cur.pc + 8 })).tickCore n k := by
    simp only [State.retireWord, State.setPc, State.core_setCore_self]
  rw [same]
  exact retires.of_setCore

theorem State.commitWord_moves (s : State) (n : Nat) (l : List ZOp) (v : Option W64) :
    CoreMoves s (s.commitWord n l v) n ((s.core n).committed l v) ((if v.isSome then none else some 1).getD (1 + Config.freshNat s.fresh)) := by
  obtain ⟨c, hc⟩ : ∃ c, c = s.core n := ⟨_, rfl⟩
  obtain ⟨d, hd⟩ : ∃ d, d = c.setCur (c.written l v) := ⟨_, rfl⟩
  have flight : d.flight = c.flight := by rw [hd, ZCore.setCur_flight]
  have start : s.commitWord n l v =
      (s.setCore n { d with flight := c.flight ++ c.products l }).retireWord n (if v.isSome then none else some 1) := by
    rw [← flight, hd, hc]
    rfl
  have cur : ({ d with flight := c.flight ++ c.products l } : ZCore).cur = c.written l v := by
    rw [← ZCore.cur_setCur c (c.written l v), ← hd]
    rfl
  have again : ({ d with flight := c.flight ++ c.products l } : ZCore).setCur { c.written l v with pc := (c.written l v).pc + 8 } =
      c.committed l v := by
    rw [hd, ZCore.written_pc, ZCore.committed]
    obtain ⟨w, _⟩ := c
    cases w <;> rfl
  have retires := s.retireWord_moves n { d with flight := c.flight ++ c.products l } (if v.isSome then none else some 1)
  rw [cur, again] at retires
  rwa [start, ← hc]

/-- What the operation of a word's arguments writes, whatever stands beside it (R324). -/
theorem ZCore.written_writes {c : ZCore} {supv : Bool} {w : World} {k : ZKind} {f : ZForm} {a : ZArgs} {l : List ZOp}
    (wf : (zword k f a).wf = true)
    (decoded : decodeOps supv w (zword k f a) = .ops l) (guard : c.cur.guard a = true) (v : Option W64) :
    (k.writesRd = true → k.load = none → a.rd ≠ 0 → (c.written l v).greg a.rd = (opOf k f a).result c.cur)
      ∧ (∀ u, k.load.isSome = true → v = some u → a.rd ≠ 0 → (c.written l v).greg a.rd = u)
      ∧ (k.isCompare = true → a.pT ≠ a.pF → (a.pT ≠ 0 → (c.written l v).pred a.pT = (opOf k f a).relation c.cur)
          ∧ (a.pF ≠ 0 → (c.written l v).pred a.pF = !(opOf k f a).relation c.cur))
      ∧ (k.isPred = true → a.pT ≠ 0 → (c.written l v).pred a.pT = (opOf k f a).logic c.cur)
      ∧ (k.isMul = true → c.products l = [(opOf k f a).product c.world c.cur]) := by
  obtain ⟨pre, post, rfl, apart, -⟩ := decodeOps_holds decoded
  have rd := zword_wf wf
  have ltT : a.pT < 8 := Nat.mod_lt _ (by decide)
  have ltF : a.pF < 8 := Nat.mod_lt _ (by decide)
  obtain ⟨x, hx⟩ : ∃ x, x = pre.foldl (fun x o => o.apply c.cur v x) c.cur := ⟨_, rfl⟩
  have written : c.written (pre ++ opOf k f a :: post) v = post.foldl (fun x o => o.apply c.cur v x) ((opOf k f a).apply c.cur v x) := by
    rw [ZCore.written, List.foldl_append, hx]
    rfl
  obtain ⟨results, loads, compares, logics⟩ := ZOp.apply_writes (o := opOf k f a) guard rd v x
  obtain ⟨-, regs, preds⟩ := ZOp.foldl_leaves c.cur v post ((opOf k f a).apply c.cur v x)
  have kept (r : Nat) (lt : r < 64) (mem : r ∈ (opOf k f a).writes) :
      (c.written (pre ++ opOf k f a :: post) v).greg r = ((opOf k f a).apply c.cur v x).greg r := by
    rw [written]
    exact regs r lt fun q hq => (apart q (List.mem_append_right _ hq)).1 r mem
  have keptP (p : Nat) (lt : p < 8) (mem : 64 + p ∈ (opOf k f a).writes) :
      (c.written (pre ++ opOf k f a :: post) v).pred p = ((opOf k f a).apply c.cur v x).pred p := by
    rw [written]
    exact preds p lt fun q hq => (apart q (List.mem_append_right _ hq)).1 _ mem
  have target (h : k.writesRd = true) (ne : a.rd ≠ 0) : a.rd ∈ (opOf k f a).writes := by
    rw [ZOp.writes, if_pos (show (opOf k f a).kind.writesRd = true from h)]
    exact mem_visible.mpr ⟨List.mem_singleton.mpr rfl, ne, by omega⟩
  refine ⟨fun writes plain ne => ?_, fun u load out ne => ?_, fun compare targets => ?_, fun logic ne => ?_, fun mul => ?_⟩
  · rw [kept _ rd (target writes ne)]
    exact results writes plain ne
  · rw [kept _ rd (target (ZKind.writesRd_of_load load) ne)]
    exact loads u load out ne
  · have plain := ZKind.plain_of_isCompare compare
    have targets' : (opOf k f a).writes = visible [64 + a.pT, 64 + a.pF] := by
      rw [ZOp.writes, if_neg (by simp [opOf, plain]), if_pos (show (opOf k f a).kind.isCompare = true from compare)]
      rfl
    obtain ⟨pT, pF⟩ := compares compare targets
    refine ⟨fun ne => ?_, fun ne => ?_⟩
    · rw [keptP a.pT ltT (by rw [targets']; exact mem_visible.mpr ⟨by simp, by omega, by omega⟩)]
      exact pT ne
    · rw [keptP a.pF ltF (by rw [targets']; exact mem_visible.mpr ⟨by simp, by omega, by omega⟩)]
      exact pF ne
  · have plain := ZKind.plain_of_isPred logic
    have targets' : (opOf k f a).writes = visible [64 + a.pT] := by
      rw [ZOp.writes, if_neg (by simp [opOf, plain]), if_neg (by simp [opOf, plain]), if_pos (show (opOf k f a).kind.isPred = true from logic)]
      rfl
    rw [keptP a.pT ltT (by rw [targets']; exact mem_visible.mpr ⟨by simp, by omega, by omega⟩)]
    exact logics logic ne
  · have none' (l : List ZOp) (sub : ∀ q ∈ l, q ∈ pre ++ post) : l.filter (fun o => o.kind.isMul && c.cur.guard o.a) = [] :=
      List.filter_eq_nil_iff.mpr fun q hq => by simp [(apart q (sub q hq)).2 mul]
    rw [ZCore.products, List.filter_append, none' pre fun q hq => List.mem_append_left _ hq,
      List.filter_cons_of_pos (by simp [opOf, mul, guard]), none' post fun q hq => List.mem_append_right _ hq]
    rfl

/-- Settles O41: a word's bank is what its operations leave, one after another, of the registers as they stood. -/
theorem operationsWriteTheirResults : Obligations.OperationsWriteTheirResults := by
  intro s n k f a l v wf decoded user b x y i z
  have moves := s.commitWord_moves n l v
  obtain ⟨bank, regs, preds⟩ := ZOp.foldl_leaves b v l b
  have cur : ((s.core n).committed l v).cur = { (s.core n).written l v with pc := b.pc + 8 } := ZCore.cur_setCur _ _
  have flight : ((s.core n).committed l v).flight = (s.core n).flight ++ (s.core n).products l := ZCore.setCur_flight _ _
  refine ⟨(s.core n).committed l v, fun none' => ?_, ⟨_, ?_, moves⟩, ?_, fun guard => ?writes, fun unguarded long => ?_,
    ⟨_, flight, ?_, fun none' => ?_⟩, rfl, rfl, fun r lt out => ?_, fun p lt out => ?_⟩
  case writes =>
    obtain ⟨results, loads, compares, logics, muls⟩ := ZCore.written_writes (c := s.core n) wf decoded guard v
    rw [cur, flight]
    refine ⟨?_, fun reversed ne => ?_, fun u load out ne => loads u load out ne, ?_, ?_, ?_⟩
    · repeat (refine List.forall_mem_cons.mpr ⟨fun kind ne => ?_, ?_⟩; · subst kind; exact results rfl rfl ne)
      exact List.forall_mem_nil _
    · subst reversed
      exact (congrArg (fun r : W64 => leBytes 8 r.toNat) (results rfl rfl ne)).trans (leBytes_bswap x)
    · repeat (refine List.forall_mem_cons.mpr ⟨fun kind ne => ?_, ?_⟩; · subst kind; exact compares rfl ne)
      exact List.forall_mem_nil _
    · repeat (refine List.forall_mem_cons.mpr ⟨fun kind ne => ?_, ?_⟩; · subst kind; exact logics rfl ne)
      exact List.forall_mem_nil _
    · repeat (refine List.forall_mem_cons.mpr ⟨fun kind => ?_, ?_⟩; · subst kind; exact congrArg _ (muls rfl))
      exact List.forall_mem_nil _
  · rw [none'] at moves ⊢
    exact moves
  · split <;> simp
  · have rest : { (s.core n).written l v with pc := b.pc + 8 } =
        { b with g := ((s.core n).written l v).g, p := ((s.core n).written l v).p, pc := b.pc + 8 } :=
      congrArg (fun d : ZBank => { d with pc := b.pc + 8 }) bank.rest
    rw [flight, cur, ← rest]
    rfl
  · obtain ⟨pre, post, rfl, -, alone⟩ := decodeOps_holds decoded
    obtain ⟨rfl, rfl⟩ := alone long
    have kept : (s.core n).written [opOf k f a] v = b := if_pos unguarded
    rw [cur]
    exact congrArg (fun d : ZBank => { d with pc := b.pc + 8 }) kept
  · rw [ZCore.products, List.length_map]
    exact List.length_filter_le _ _
  · have none'' : l.filter (fun o => o.kind.isMul && b.guard o.a) = [] :=
      List.filter_eq_nil_iff.mpr fun o mem => by simp [List.any_eq_false.mp none' o mem]
    rw [ZCore.products, none'']
    rfl
  · rw [cur]
    exact regs r lt out
  · rw [cur]
    exact preds p lt out

/-! ## Loads and stores of a core (file 11, Loads and stores; file 13, Gates) -/

theorem State.coreDenial_setCore (s : State) (n m : Nat) (c : ZCore) (w : World) (colour a : Nat) (write : Bool) :
    (s.setCore m c).coreDenial n w colour a write = s.coreDenial n w colour a write := rfl

theorem addressFault_cases {a : W64} {size : Nat} :
    (2 ^ 32 ≤ a.toNat ∨ mapped a.toNat = false → addressFault a size = 0x05)
      ∧ (a.toNat < 2 ^ 32 → mapped a.toNat = true → isRegister a.toNat = false → a.toNat % size ≠ 0 → addressFault a size = 0x04)
      ∧ (a.toNat < 2 ^ 32 → mapped a.toNat = true → isRegister a.toNat = false → a.toNat % size = 0 → addressFault a size = 0) := by
  unfold addressFault
  refine ⟨fun out => if_pos (by tauto), fun lt known plain odd => ?_, fun lt known plain even => ?_⟩
  · rw [if_neg (by simp [known, plain]; omega), if_pos odd]
  · rw [if_neg (by simp [known, plain]; omega), if_neg (by simp [even])]

theorem overlay_nil (a : Nat) (b : Bytes) : overlay [] a b = b := by
  have none' (k : Nat) : buffered [] k = none := rfl
  simp only [overlay, none', Option.getD_none]
  rw [List.map_snd_zip]
  simp

theorem allBuffered_nil {a n : Nat} (pos : 0 < n) : allBuffered [] a n = false := by
  rw [allBuffered, List.all_eq_false]
  exact ⟨0, List.mem_range.mpr pos, Bool.false_ne_true⟩

theorem work_bounds {a : Nat} (work : classOf a = some 1) : 0x20000000 ≤ a ∧ a < 0x22800000 := by
  obtain ⟨r, found, one⟩ := Option.map_eq_some_iff.mp work
  have only : ∀ r ∈ regions, r.1 = 1 → r = (1, 0x20000000, 0x2800000, 0x40000, 32) := by decide
  obtain rfl := only r (List.mem_of_find?_eq_some found) one
  simpa using List.find?_some found

/-- Below the regions that hold more than bytes, an address names a byte of memory (R369). -/
theorem State.poke_low {s : State} {a : Nat} (low : a < 0x40000000) (b : Bytes) : s.poke a b = { s with mem := s.mem.write a b } := by
  have here : s.absentBank a = false := by
    rw [State.absentBank, operandInst, if_neg (by omega), if_neg (by omega), if_neg (by omega)]
  rw [State.poke, if_neg (by omega), if_neg (by omega), if_neg (by omega), if_neg (by omega), if_neg (by omega), if_neg (by omega),
    if_neg (by simp [here])]

theorem State.peek_low {s : State} {a : Nat} (low : a < 0x40000000) (n : Nat) : s.peek a n = s.mem.read a n := by
  have here : s.absentBank a = false := by
    rw [State.absentBank, operandInst, if_neg (by omega), if_neg (by omega), if_neg (by omega)]
  rw [State.peek, if_neg (by omega), if_neg (by omega), if_neg (by omega), if_neg (by omega), if_neg (by omega), if_neg (by omega),
    if_neg (by simp [here])]

/-- A read of WORK whose check bits stand returns its bytes (R332, R375). -/
theorem State.readWord_clean {s : State} {a n : Nat} (work : classOf a = some 1) (clean : ∀ k, k < n → SMap.get 0 s.mem.chk (a + k) = 0)
    (master : Nat) : s.readWord a n master = (s, some (s.mem.read a n)) := by
  obtain ⟨lo, hi⟩ := work_bounds work
  have good (k : Nat) (lt : k < n) : eccOf (SMap.get 0 s.mem.chk (a + k)) = .clean := by
    rw [clean k lt]
    rfl
  have whole : s.mem.badByte a n = none := by
    refine List.find?_eq_none.mpr fun x mem => ?_
    obtain ⟨k, lt, rfl⟩ := List.mem_map.mp mem
    rw [good k (List.mem_range.mp lt)]
    decide
  have single : s.mem.badSingles a n = 0 := by
    rw [Memory.badSingles, List.length_eq_zero_iff, List.filter_eq_nil_iff]
    intro k lt
    rw [good k (List.mem_range.mp lt)]
    exact Bool.false_ne_true
  have peek : s.peek a n = s.mem.read a n := State.peek_low (by omega) n
  have fixed : ((List.range (s.mem.read a n).length).zip (s.mem.read a n)).map (fun p => s.mem.fixByte (a + p.1) p.2) = s.mem.read a n := by
    refine List.ext_getElem (by simp) fun k lt _ => ?_
    have length : (s.mem.read a n).length = n := by simp [Memory.read]
    have inside : k < n := by simpa [length] using lt
    simp only [List.getElem_map, List.getElem_zip, List.getElem_range, Memory.fixByte, good k inside]
  rw [State.readWord, whole]
  simp only [peek, fixed, single]
  rw [State.noteCorrected, if_pos rfl, if_neg (by omega)]

/-- What a store to WORK writes, and leaves (R332). -/
theorem State.poke_work {s : State} {a : Nat} (work : classOf a = some 1) (b : Bytes) : s.poke a b = { s with mem := s.mem.write a b } :=
  State.poke_low (by have := work_bounds work; omega) b

theorem Memory.readByte_write_inside (m : Memory) (a : Nat) (b : Bytes) {k : Nat} (lt : k < b.length) :
    (m.write a b).readByte (a + k) = b[k]?.getD 0 := by
  induction b generalizing m a k with
  | nil => exact absurd lt (Nat.not_lt_zero k)
  | cons x t ih =>
    rw [Memory.write]
    cases k with
    | zero => exact (Memory.readByte_write_outside _ _ _ t (.inl (by omega))).trans (Memory.readByte_writeByte_self m a x)
    | succ k =>
      rw [show a + (k + 1) = a + 1 + k by omega, ih _ _ (by simpa using lt)]
      rfl

/-- What a load from memory meets, in order: the gate, a bank of the March engine, a bank that stays busy, the bytes (R331, R332, R383). -/
theorem State.loadAt_memory {s : State} {n size : Nat} {ad : W64} {signed busy : Bool} (fits : addressFault ad size = 0)
    (plain : isRegister ad.toNat = false) (pos : 0 < size) :
    let c := s.core n
    let x := ad.toNat
    let denial := s.coreDenial n c.world (s.coreColour n c.world) x false
    (denial ≠ 0 → s.loadAt n ad size signed busy = .fault (s.noteDenial n c.world false false x denial) 0x06)
      ∧ (denial = 0 → c.stores = [] → s.marchHolds x = true → s.loadAt n ad size signed busy = .stall (s.noteConflicts n x 1))
      ∧ (denial = 0 → c.stores = [] → s.marchHolds x = false → busy = true →
          s.loadAt n ad size signed busy = .fault (s.noteConflicts n x 9) 0x08)
      ∧ (denial = 0 → c.stores = [] → s.marchHolds x = false → busy = false → classOf x = some 1 →
          (∀ k, k < size → SMap.get 0 s.mem.chk (x + k) = 0) →
          s.loadAt n ad size signed busy = .done s (some (extend size signed (s.mem.read x size)))) := by
  intro c x denial
  have meets : s.loadAt n ad size signed busy = if denial ≠ 0 then .fault (s.noteDenial n c.world false false x denial) 0x06
      else if allBuffered c.stores x size then .done s (some (extend size signed (overlay c.stores x (zeros size))))
      else if s.marchHolds x then .stall (s.noteConflicts n x 1)
      else if busy then .fault (s.noteConflicts n x 9) 0x08
      else match s.readWord x size n with
        | (t, none) => .fault (t.failSupPart x) 0x07
        | (t, some b) => .done t (some (extend size signed (overlay c.stores x b))) := by
    unfold State.loadAt
    exact (if_neg (by simp [fits])).trans (if_neg (by simp [plain]))
  rw [meets]
  refine ⟨fun denied => if_pos denied, fun free empty held => ?_, fun free empty open' waits => ?_, fun free empty open' ready work clean => ?_⟩
  · rw [if_neg (by simp [free]), empty, if_neg (by simp [allBuffered_nil pos]), if_pos held]
  · rw [if_neg (by simp [free]), empty, if_neg (by simp [allBuffered_nil pos]), if_neg (by simp [open']), if_pos waits]
  · rw [if_neg (by simp [free]), empty, if_neg (by simp [allBuffered_nil pos]), if_neg (by simp [open']), if_neg (by simp [ready]),
      State.readWord_clean work clean]
    simp only [overlay_nil]

/-- What the oldest store in the buffer meets (R332, R383). -/
theorem State.retireStore_memory {s : State} {n : Nat} {e : StoreEntry} {l : List StoreEntry} (stores : (s.core n).stores = e :: l)
    (plain : isRegister e.addr = false) (busy : Bool) :
    s.retireStore n busy =
      let u := s.setCore n { s.core n with stores := l }
      let deny := s.coreDenial n e.world e.colour e.addr true
      if deny ≠ 0 then (u.noteDenial n e.world true false e.addr deny).failStore n e
      else if s.marchHolds e.addr then s.noteConflicts n e.addr 1
      else if busy then (u.noteConflicts n e.addr 9).failStore n e
      else u.poke e.addr e.data := by
  unfold State.retireStore
  simp only [stores, plain, State.coreDenial_setCore]
  rfl

/-- Settles O42: a load is read along what it meets, and the oldest store along what its target does. -/
theorem loadsAndStoresMeetTheGate : Obligations.LoadsAndStoresMeetTheGate := by
  intro s n size ad signed busy sizes c x denial
  have pos : 0 < size := by
    simp only [List.mem_cons, List.not_mem_nil, or_false] at sizes
    omega
  obtain ⟨unmapped, unaligned, fits⟩ := addressFault_cases (a := ad) (size := size)
  refine ⟨fun b length => ⟨fun out => ?_, fun lt known plain odd => ?_, fun lt known plain even => ?_⟩, fun lt known plain even => ?_,
    fun e l runs stores plain => ?retire⟩
  case retire =>
    intro u deny
    have retires (busy : Bool) : exec (.storeRetire n busy) s = .next (
        if deny ≠ 0 then (u.noteDenial n e.world true false e.addr deny).failStore n e
        else if s.marchHolds e.addr then s.noteConflicts n e.addr 1
        else if busy then (u.noteConflicts n e.addr 9).failStore n e
        else u.poke e.addr e.data) :=
      congrArg Host.Outcome.next ((if_pos runs).trans (State.retireStore_memory stores plain busy))
    refine ⟨fun free open' => ?_, fun free open' => ?_, fun free held => ?_, fun denied => ?_, fun work => ?_⟩
    · rw [retires, if_neg (by simp [free]), if_neg (by simp [open']), if_neg (by decide)]
    · rw [retires, if_neg (by simp [free]), if_neg (by simp [open']), if_pos rfl]
    · rw [retires, if_neg (by simp [free]), if_pos held]
    · rw [retires, if_pos denied]
    · rw [State.poke_work work]
      exact ⟨fun k lt => Memory.readByte_write_inside _ _ _ lt, fun y out => Memory.readByte_write_outside _ _ _ _ out, by simp⟩
  · have fault : addressFault ad b.length = 0x05 := length ▸ unmapped out
    constructor
    · unfold State.loadAt
      rw [if_pos (by simp [unmapped out]), unmapped out]
    · unfold State.storeAt
      rw [if_pos (by simp [fault]), fault]
  · have fault : addressFault ad b.length = 0x04 := length ▸ unaligned lt known plain odd
    constructor
    · unfold State.loadAt
      rw [if_pos (by simp [unaligned lt known plain odd]), unaligned lt known plain odd]
    · unfold State.storeAt
      rw [if_pos (by simp [fault]), fault]
  · have fault : addressFault ad b.length = 0 := length ▸ fits lt known plain even
    constructor
    · intro full
      unfold State.storeAt
      rw [if_neg (by simp [fault]), if_pos full]
    · intro room
      unfold State.storeAt
      rw [if_neg (by simp [fault]), if_neg (Nat.not_le.mpr room)]
  · exact State.loadAt_memory (fits lt known plain even) plain pos

/-! ## A denied load tells nothing of memory (file 13, Gates) -/

/-- The state with other bytes in its memory. -/
def State.withBytes (s : State) (m : SMap Byte) : State := { s with mem := { s.mem with bytes := m } }

theorem State.noteConflicts_withBytes (s : State) (m : SMap Byte) (master a n : Nat) :
    (s.withBytes m).noteConflicts master a n = (s.noteConflicts master a n).withBytes m := by
  unfold State.noteConflicts
  split <;> rfl

theorem State.offer_withBytes (s : State) (m : SMap Byte) (code p0 p1 p2 : Nat) :
    (s.withBytes m).offer code p0 p1 p2 = (s.offer code p0 p1 p2).withBytes m := by
  have main : (s.withBytes m).onMain = s.onMain := rfl
  have severity (k : Nat) : (s.withBytes m).minsevFor k = s.minsevFor k := rfl
  have rcd : (s.withBytes m).rcd = s.rcd := rfl
  unfold State.offer State.offerSev State.offerRecord
  rw [main, severity, rcd]
  split
  · rfl
  split
  · rfl
  split <;> rfl

theorem State.offerBurst_withBytes (s : State) (m : SMap Byte) (code key p0 p1 : Nat) :
    (s.withBytes m).offerBurst code key p0 p1 = (s.offerBurst code key p0 p1).withBytes m := by
  have rcd : (s.withBytes m).rcd = s.rcd := rfl
  unfold State.offerBurst
  rw [State.offer_withBytes, rcd]
  split <;> rfl

/-- What the log of the gate keeps of a core's denial (R387). -/
def State.denialInfo (s : State) (master : Nat) (w : World) (write : Bool) (a reason : Nat) : Nat :=
  let x := match pageOf a with
    | some p => s.pageTag p
    | none => { colour := 0, tag := 0 }
  master % 32 + 32 * flag (decide (w = World.secure)) + 64 * flag write + 128 * flag false
    + 256 * x.colour.toNat + 2 ^ 16 * x.tag.toNat + 2 ^ 18 * reason

/-- The gate with a denial counted and logged (R387). -/
def State.logDenial (s : State) (a info : Nat) : State :=
  { s with gate := { s.gate with dcount := satAdd 32 s.gate.dcount 1, dlogAddr := a, dlogInfo := info } }

theorem State.noteDenial_sound (s : State) (master : Nat) (w : World) (write : Bool) (a : Nat) {reason : Nat} (sound : reason ≠ 5) :
    s.noteDenial master w write false a reason =
      (s.logDenial a (s.denialInfo master w write a reason)).offerBurst 0x0B01 master a (s.denialInfo master w write a reason) := by
  unfold State.noteDenial
  simp only [Bool.false_eq_true, false_and, if_false, sound]
  rfl

/-- A denial that is no mismatch of the gate's copies is recorded without a look at memory (R387). -/
theorem State.noteDenial_withBytes (s : State) (m : SMap Byte) (n : Nat) (w : World) (write : Bool) (a : Nat) {reason : Nat} (sound : reason ≠ 5) :
    (s.withBytes m).noteDenial n w write false a reason = (s.noteDenial n w write false a reason).withBytes m := by
  have info : (s.withBytes m).denialInfo n w write a reason = s.denialInfo n w write a reason := rfl
  have logged (k : Nat) : (s.withBytes m).logDenial a k = (s.logDenial a k).withBytes m := rfl
  rw [State.noteDenial_sound _ n w write a sound, State.noteDenial_sound s n w write a sound, info, logged, State.offerBurst_withBytes]

theorem State.noteDenial_frame (s : State) (n : Nat) (w : World) (write : Bool) (a : Nat) {reason : Nat} (sound : reason ≠ 5) :
    OnlyIn [.gate, .rcd] s (s.noteDenial n w write false a reason) ∧ (s.noteDenial n w write false a reason).gate.upset = s.gate.upset := by
  have frame (k : Nat) : OnlyIn [.gate, .rcd] s (s.logDenial a k) := by simp [State.logDenial]
  rw [State.noteDenial_sound s n w write a sound]
  refine ⟨(frame _).offerBurst _ _ _ _ (by simp), ?_⟩
  rw [((OnlyIn.refl _ _).offerBurst _ _ _ _ (List.Subset.refl _)).gate_eq]
  rfl

theorem State.exception_withBytes (s : State) (m : SMap Byte) {n : Nat} (outside : (s.core n).cur.intrap = false) (cls cause slot : Nat)
    (taddr : W32) : (s.withBytes m).exception n cls cause slot taddr = (s.exception n cls cause slot taddr).withBytes m := by
  have core : (s.withBytes m).core n = s.core n := rfl
  rw [State.exception, State.exception, core, if_neg (by simp [outside]), if_neg (by simp [outside])]
  rfl

theorem State.fetchFault_withBytes {s : State} (m : SMap Byte) {n : Nat} (fetched : s.fetchFault n = none) :
    (s.withBytes m).fetchFault n = none := by
  have core : (s.withBytes m).core n = s.core n := rfl
  have fetchable (w : World) (pc : W64) : (s.withBytes m).fetchable w pc = s.fetchable w pc := rfl
  have bad (a n : Nat) : (s.withBytes m).mem.badByte a n = s.mem.badByte a n := rfl
  unfold State.fetchFault at fetched ⊢
  dsimp only at fetched
  simp only [core, fetchable, bad]
  split at fetched
  · cases fetched
  · next may =>
    rw [if_neg may]
    split at fetched
    · cases fetched
    · rfl

/-- What the word of a denied load does, whatever memory holds. -/
theorem State.runWord_denied {s : State} {n : Nat} {a : ZArgs} (busy : Bool) (m : SMap Byte)
    (fetched : s.fetchFault n = none) (guard : (s.core n).cur.guard a = true) (outside : (s.core n).cur.intrap = false) :
    let o := opOf .ld64 .long a
    let c := s.core n
    let x := (o.address c.cur 8).toNat
    let denial := s.coreDenial n c.world (s.coreColour n c.world) x false
    x < 2 ^ 32 → mapped x = true → isRegister x = false → denial ≠ 0 → denial ≠ 5 →
      (s.withBytes m).runWord n (zword .ld64 .long a) busy = (s.runWord n (zword .ld64 .long a) busy).withBytes m := by
  intro o c x denial lt known plain denied sound
  cases march : s.marchHolds c.cur.pc.toNat with
  | true =>
    have held : (s.withBytes m).marchHolds ((s.withBytes m).core n).cur.pc.toNat = true := march
    rw [State.runWord, if_pos held, State.runWord, if_pos march]
    exact s.noteConflicts_withBytes m n _ 1
  | false =>
    obtain ⟨-, undecoded, decoded⟩ := State.runWord_free march (zword .ld64 .long a) busy
    obtain ⟨-, undecoded', decoded'⟩ := State.runWord_free (s := s.withBytes m) (n := n) march (zword .ld64 .long a) busy
    have fetched' := State.fetchFault_withBytes m fetched
    cases word : decodeOps (isSupv n) c.world (zword .ld64 .long a) with
    | fault cause slot =>
      rw [undecoded cause slot fetched word, undecoded' cause slot fetched' word]
      exact s.exception_withBytes m outside 0 cause slot 0
    | ops l =>
      obtain ⟨pre, post, rfl, -, alone⟩ := decodeOps_holds word
      obtain ⟨rfl, rfl⟩ := alone rfl
      have user (p : ZOp) (h : [o] = [p]) : p.kind.isSystem = false := by
        cases h
        rfl
      rw [decoded [o] fetched word user, decoded' [o] fetched' word user]
      have found : [o].find? (fun o => o.kind.isMem) = some o := rfl
      obtain ⟨faults, -⟩ := State.runOps_some (s := s) (n := n) found busy
      obtain ⟨faults', -⟩ := State.runOps_some (s := s.withBytes m) (n := n) found busy
      have loads (t : State) (ht : t.core n = c) : t.memOp n o busy = t.loadAt n (o.address c.cur 8) 8 false busy := by
        rw [State.memOp, ht, if_neg (by simp [guard, c, o, opOf])]
        rfl
      obtain ⟨-, unaligned, fits⟩ := addressFault_cases (a := o.address c.cur 8) (size := 8)
      by_cases even : x % 8 = 0
      · obtain ⟨gate, -⟩ := State.loadAt_memory (s := s) (n := n) (signed := false) (busy := busy) (fits lt known plain even)
          plain (by decide)
        obtain ⟨gate', -⟩ := State.loadAt_memory (s := s.withBytes m) (n := n) (signed := false) (busy := busy) (fits lt known plain even)
          plain (by decide)
        have noted := s.noteDenial_withBytes m n c.world false x sound
        obtain ⟨frame, -⟩ := s.noteDenial_frame n c.world false x sound
        obtain ⟨t, ht⟩ : ∃ t, t = s.noteDenial n c.world false false x denial := ⟨_, rfl⟩
        have core : t.core n = c := by rw [ht, State.core, frame.zyn_eq (by simp)]; rfl
        rw [faults t 0x06 ((loads s rfl).trans ((gate denied).trans (by rw [ht])))]
        rw [faults' (t.withBytes m) 0x06 ((loads (s.withBytes m) rfl).trans ((gate' denied).trans (by rw [ht, ← noted]; rfl)))]
        exact t.exception_withBytes m (by rw [core]; exact outside) 0 0x06 _ _
      · have fault := unaligned lt known plain even
        have stops (t : State) (ht : t.core n = c) : t.memOp n o busy = .fault t 0x04 := by
          rw [loads t ht]
          unfold State.loadAt
          rw [if_pos (by simp [fault]), fault]
        rw [faults s 0x04 (stops s rfl), faults' (s.withBytes m) 0x04 (stops _ rfl)]
        exact s.exception_withBytes m outside 0 0x04 _ _

/-- Settles O43: what the load does commutes with a change of the bytes that memory holds. -/
theorem deniedLoadsTellNothing : Obligations.DeniedLoadsTellNothing := by
  intro s n a busy m s' o c x may fetched wf guard outside lt known plain denied sound
  have runs (t : State) (ready : t.mayIssue n = true) : exec (.ld64 n .long a busy) t = .next (t.runWord n (zword .ld64 .long a) busy) :=
    congrArg Host.Outcome.next (if_pos (by simp [wf, ready]))
  refine ⟨_, (s.runWord n (zword .ld64 .long a) busy).withBytes m, runs s may, (runs s' may).trans (congrArg _ ?_), rfl, rfl, rfl, rfl⟩
  exact State.runWord_denied busy m fetched guard outside lt known plain denied sound

/-! ## The long-only operations (file 11, World calls and mailboxes; Control registers; Opcode table) -/

theorem longOp_fits {k : ZKind} {a : ZArgs} {supv : Bool} {w : World} (zeros : k.longZeros a = true) (may : k.permitted supv w a = true) :
    longOp supv w { opc := k.longCode, args := a } = some (opOf k .long a) := by
  simp [longOp, longKind_longCode, zeros, may, opOf]

theorem longCode_lt (k : ZKind) : k.longCode < 1024 := by cases k <;> decide

/-- A long-only word whose operands fit runs its operation (R319, R334 to R343). -/
theorem State.issueWord_system {s : State} {n : Nat} {k : ZKind} {a : ZArgs} (issues : Issues s n) (wf : a.wf = true)
    (imm : a.imm.toNat < 2 ^ 31) (system : k.isSystem = true) (zeros : k.longZeros a = true)
    (may : k.permitted (isSupv n) (s.core n).world a = true) :
    s.issueWord n (zword k .long a) false = s.runSystem n (opOf k .long a) := by
  obtain ⟨ready, march, fetched, -⟩ := issues
  have word : decodeOps (isSupv n) (s.core n).world (zword k .long a) = .ops [opOf k .long a] := by
    simp [zword, decodeOps, longOp_fits zeros may]
  have whole : (zword k .long a).wf = true := by simp [zword, ZWord.wf, ZMate.wfLong, longCode_lt, wf, show a.imm.toNat < 2147483648 from imm]
  rw [State.issueWord, if_pos (by simp [whole, ready]), State.runWord, if_neg (by simp [march])]
  simp only [fetched, word]
  exact if_pos system

theorem State.runSystem_free {s : State} {n : Nat} {o : ZOp} (free : s.systemFault n o = none) (due : (s.core n).storeDue = none)
    (guard : (s.core n).cur.guard o.a = true) : s.runSystem n o = s.system n o := by
  simp only [State.runSystem, free, due, guard, if_true]

/-- A jump sets the PC of its core and takes its cycles (R325). -/
theorem State.jump_moves (s : State) (n : Nat) (pc : W64) (k : Nat) :
    CoreMoves s (s.jump n pc k) n ((s.core n).setCur { (s.core n).cur with pc := pc }) k :=
  s.tickCore_moves n ((s.core n).setCur { (s.core n).cur with pc := pc }) (some k)

theorem State.jump_setCore_moves (s : State) (n : Nat) (c : ZCore) (pc : W64) (k : Nat) :
    CoreMoves s ((s.setCore n c).jump n pc k) n (c.setCur { c.cur with pc := pc }) k := by
  have moves := (s.setCore n c).jump_moves n pc k
  rw [State.core_setCore_self] at moves
  exact moves.of_setCore

theorem State.retireWord_self (s : State) (n : Nat) (k : Option Nat) :
    CoreMoves s (s.retireWord n k) n ((s.core n).setCur { (s.core n).cur with pc := (s.core n).cur.pc + 8 })
      (k.getD (1 + Config.freshNat s.fresh)) :=
  s.tickCore_moves n _ k

/-- What a control register's write leaves of the PC (R343). -/
theorem State.controlWrite_pc (s : State) (n r : Nat) (v : W32) : (s.controlWrite n r v).cur.pc = (s.core n).cur.pc := by
  have kept (b : ZBank) (same : b.pc = (s.core n).cur.pc) : ((s.core n).setCur b).cur.pc = (s.core n).cur.pc := by
    rw [ZCore.cur_setCur, same]
  unfold State.controlWrite
  dsimp only
  split
  · split
    · exact kept _ rfl
    · exact kept _ rfl
  · exact kept _ rfl
  · exact kept _ rfl
  · exact kept _ rfl
  · rfl
  · rfl
  · rfl

/-- The cycles that pass for a core leave its registers and PCs: they land multiplier writes alone (R327). -/
structure Passes (c d : ZCore) : Prop where
  world : d.world = c.world
  control : d.nepc = c.nepc ∧ d.scnum = c.scnum ∧ d.irqHeld = c.irqHeld
  regs (w : World) : (d.bank w).g = (c.bank w).g
  pc (w : World) : (d.bank w).pc = (c.bank w).pc

theorem Passes.refl (c : ZCore) : Passes c c := ⟨rfl, ⟨rfl, rfl, rfl⟩, fun _ => rfl, fun _ => rfl⟩

theorem Passes.trans {c d e : ZCore} (h : Passes c d) (g : Passes d e) : Passes c e := by
  obtain ⟨nepc, scnum, held⟩ := h.control
  obtain ⟨nepc', scnum', held'⟩ := g.control
  exact ⟨g.world.trans h.world, ⟨nepc'.trans nepc, scnum'.trans scnum, held'.trans held⟩, fun w => (g.regs w).trans (h.regs w),
    fun w => (g.pc w).trans (h.pc w)⟩

theorem Passes.land (c : ZCore) (m : MulWrite) : Passes c (c.setBank m.world (m.land (c.bank m.world))) := by
  obtain ⟨w, left, acc, value⟩ := m
  cases w <;> exact ⟨rfl, ⟨rfl, rfl, rfl⟩, fun v => by cases v <;> rfl, fun v => by cases v <;> rfl⟩

theorem ZCore.pass_passes (c : ZCore) (k : Nat) : Passes c (c.pass k) := by
  have lands (l : List MulWrite) : ∀ d, Passes c d → Passes c (l.foldl (fun c m => c.setBank m.world (m.land (c.bank m.world))) d) := by
    induction l with
    | nil => exact fun d h => h
    | cons m l ih => exact fun d h => ih _ (h.trans (Passes.land d m))
  exact lands _ _ ⟨rfl, ⟨rfl, rfl, rfl⟩, fun w => by cases w <;> rfl, fun w => by cases w <;> rfl⟩

theorem ZBank.greg_congr {b d : ZBank} (same : d.g = b.g) (r : Nat) : d.greg r = b.greg r := by
  rw [ZBank.greg, ZBank.greg, same]

/-- A call hands over g1 to g8 alone (R334). -/
theorem ZBank.copyArgs_regs (b d : ZBank) :
    (∀ k, 1 ≤ k → k ≤ 8 → (b.copyArgs d).greg k = b.greg k) ∧ (∀ k, 8 < k → (b.copyArgs d).greg k = d.greg k) := by
  have copies (m : Nat) (le : m ≤ 8) : (∀ k, 1 ≤ k → k ≤ m →
      ((List.range m).foldl (fun x k => x.setG (k + 1) (b.greg (k + 1))) d).greg k = b.greg k)
      ∧ (∀ k, m < k → ((List.range m).foldl (fun x k => x.setG (k + 1) (b.greg (k + 1))) d).greg k = d.greg k) := by
    induction m with
    | zero => exact ⟨fun k pos le => absurd le (by omega), fun k _ => rfl⟩
    | succ m ih =>
      obtain ⟨copied, kept⟩ := ih (by omega)
      rw [List.range_succ, List.foldl_append]
      refine ⟨fun k pos le => ?_, fun k lt => ?_⟩
      · by_cases last : k = m + 1
        · rw [last]
          exact ZBank.greg_setG_self _ (Nat.succ_pos m) (by omega) _
        · exact (ZBank.greg_setG_other _ last _).trans (copied k pos (by omega))
      · exact (ZBank.greg_setG_other _ (by omega) _).trans (kept k (by omega))
  exact copies 8 le_rfl

theorem ZCore.setCur_setCur (c : ZCore) (x y : ZBank) : (c.setCur x).setCur y = c.setCur y := by
  obtain ⟨w, _⟩ := c
  cases w <;> rfl

theorem ZBank.setG_pc (b : ZBank) (k : Nat) (v : W64) : (b.setG k v).pc = b.pc := by
  rw [(SameBank.setG b k v).rest]

theorem ZBank.copyArgs_pc (b d : ZBank) : (b.copyArgs d).pc = d.pc := by
  have copies (l : List Nat) : ∀ x : ZBank, (l.foldl (fun x k => x.setG (k + 1) (b.greg (k + 1))) x).pc = x.pc := by
    induction l with
    | nil => exact fun _ => rfl
    | cons k l ih => exact fun x => (ih _).trans (ZBank.setG_pc x (k + 1) _)
  exact copies _ d

/-- A core that takes a result and retires its word. -/
theorem State.setRd_retires (s : State) (n : Nat) (c : ZCore) (rd : Nat) (v : W64) (k : Option Nat) :
    CoreMoves s (((s.setCore n c).setRd n rd v).retireWord n k) n (c.setCur { c.cur.setG rd v with pc := c.cur.pc + 8 })
      (k.getD (1 + Config.freshNat s.fresh)) := by
  have same : ((s.setCore n c).setRd n rd v).retireWord n k = ((s.setCore n c).setCore n (c.setCur (c.cur.setG rd v))).retireWord n k := by
    rw [State.setRd, State.core_setCore_self]
  rw [same]
  have moves := (s.setCore n c).retireWord_moves n (c.setCur (c.cur.setG rd v)) k
  rw [ZCore.cur_setCur, ZCore.setCur_setCur, ZBank.setG_pc] at moves
  exact moves.of_setCore

theorem KeepsCores.addWaiting (s : State) (u : EngUnit) (j : Job) : KeepsCores s (s.addWaiting u j) := by
  unfold State.addWaiting
  extract_lets s1 _ t
  have settled : KeepsCores s s1 := by
    unfold s1
    split
    · exact .of_frame ((OnlyIn.refl _ s).settlePeriod u _ (List.Subset.refl _))
    · exact .refl s
  have joined : KeepsCores s t := settled.trans (.of_frame ((OnlyIn.refl _ s1).setEngine u _ (List.Subset.refl _)))
  split
  · exact joined.trans (KeepsCores.endUnserved t j)
  · exact joined

theorem KeepsCores.refuseJob (s : State) (u : EngUnit) (e : EngSrc) (x : Rej) (outLen : Nat) : KeepsCores s (s.refuseJob u e x outLen) := by
  unfold State.refuseJob
  split
  · exact ((KeepsCores.dropJobs s _).trans (.of_frame ((OnlyIn.refl _ _).noteRefusal _ x (List.Subset.refl _)))).trans
      (KeepsCores.complete _ _ _ _ _ _ _ _)
  · exact .of_frame ((OnlyIn.refl _ s).dropWaiting u _ (List.Subset.refl _))

theorem KeepsCores.begin (s : State) (u : EngUnit) (n : Nat) (j : Job) : KeepsCores s (s.begin u n j) := by
  have found := (Evaluates.refl s).evaluate u n j.src
  unfold State.begin
  split <;> rename_i e <;> rw [e] at found
  · exact KeepsCores.trans ⟨found.cores⟩ (KeepsCores.refuseJob _ u j.src _ _)
  · exact KeepsCores.trans ⟨found.cores⟩ (.of_frame ((OnlyIn.refl _ _).dropWaiting u _ (List.Subset.refl _)))
  · exact .of_frame ((OnlyIn.refl _ s).stallJob _ (List.Subset.refl _))
  · exact KeepsCores.trans ⟨found.cores⟩ (.of_frame ((OnlyIn.refl _ _).occupy u n j _ (List.Subset.refl _)))

theorem KeepsCores.pump (u : EngUnit) (p : PoolRec) (fuel : Nat) : ∀ s : State, KeepsCores s (State.pump u p fuel s) := by
  induction fuel with
  | zero => exact KeepsCores.refl
  | succ fuel ih =>
    intro s
    unfold State.pump
    split
    · exact .refl s
    split
    · exact (KeepsCores.begin s u _ _).trans (ih _)
    · exact .refl s

theorem KeepsCores.pumpAt (s : State) (u : EngUnit) (n : Nat) : KeepsCores s (s.pumpAt u n) := by
  unfold State.pumpAt
  split
  · exact KeepsCores.pump u _ _ s
  split
  · split
    · exact KeepsCores.begin s u n _
    · exact .refl s
  · exact .refl s

theorem KeepsCores.submitStep (s : State) (n u : Nat) (copy : Bytes) : KeepsCores s (s.submitStep n u copy) := by
  unfold State.submitStep
  split
  · exact .refl s
  · exact ((KeepsCores.addWaiting s _ _).trans (KeepsCores.pumpAt _ _ _)).trans
      (.of_frame ((OnlyIn.refl _ _).stallWaiting _ (List.Subset.refl _)))

theorem KeepsCores.dropWrite (s : State) (who : Initiator) : KeepsCores s (s.dropWrite who) :=
  .of_frame ((OnlyIn.refl _ s).dropWrite who (List.Subset.refl _))

theorem State.readWork_frame (s : State) (u a n : Nat) : OnlyIn [.mem, .rcd] s (s.readWork u a n).1 := by
  unfold State.readWork
  split
  · exact (OnlyIn.refl _ s).noteUncorrectable _ _ _ (List.Subset.refl _)
  · exact OnlyIn.foldl _ (fun t w => (OnlyIn.refl _ t).noteCorrected _ _ _ _ (List.Subset.refl _)) _ s

/-- The buffers of a submission are read without a change of the cores, where the gate's copies agree (R338). -/
theorem State.readParts_frame (n u : Nat) (l : List (Nat × Nat)) : ∀ s : State, s.gate.upset = [] →
    OnlyIn [.mem, .gate, .rcd] s (s.readParts n u l).1 := by
  induction l with
  | nil => exact fun s _ => OnlyIn.refl _ s
  | cons x l ih =>
    intro s sound
    have denial : s.workDenial n x.1 false ≠ 5 := by
      have agrees (p : Nat) : s.gate.mismatch p = none := Gates.mismatch_nil _ sound p
      unfold State.workDenial State.pageDenial
      simp only [agrees]
      simp only [Option.isSome_none, Bool.false_eq_true, if_false]
      (repeat' split) <;> simp
    unfold State.readParts
    extract_lets d p r
    have read : OnlyIn [.mem, .gate, .rcd] s p.1 ∧ p.1.gate.upset = [] := by
      unfold p
      split
      · have frame := s.readWork_frame u x.1 x.2
        exact ⟨frame.mono (by simp), (congrArg Gates.upset frame.gate_eq).trans sound⟩
      · obtain ⟨frame, upset⟩ := s.noteDenial_frame (boxMaster u) .secure false x.1 denial
        exact ⟨frame.mono (by simp), upset.trans sound⟩
    exact read.1.trans (ih p.1 read.2)

theorem State.mailReq_frame {s : State} (sound : s.gate.upset = []) (n u a : Nat) : OnlyIn [.mem, .gate, .rcd] s (s.mailReq n u a).1 :=
  State.readParts_frame n u _ s sound

theorem Passes.cur {c d : ZCore} (h : Passes c d) : d.cur.g = c.cur.g ∧ d.cur.pc = c.cur.pc := by
  rw [ZCore.cur, h.world]
  exact ⟨h.regs c.world, h.pc c.world⟩

/-- What an answered MSUB leaves: the mailboxes and the submissions as they were made, and its answer in its register (R336). -/
theorem State.setRd_retires_self (t : State) (n rd : Nat) (v : W64) :
    let w := (t.setRd n rd v).retireWord n none
    w.zyn = { t.zyn with cores := w.zyn.cores } ∧ (rd ≠ 0 → rd < 64 → (w.core n).cur.greg rd = v)
      ∧ (w.core n).cur.pc = (t.core n).cur.pc + 8
      ∧ CoreWaits t w n ((t.core n).setCur { (t.core n).cur.setG rd v with pc := (t.core n).cur.pc + 8 }) := by
  intro w
  obtain ⟨c, hc⟩ : ∃ c, c = t.core n := ⟨_, rfl⟩
  have moves := t.retireWord_moves n (c.setCur (c.cur.setG rd v)) none
  rw [ZCore.cur_setCur, ZCore.setCur_setCur, ZBank.setG_pc] at moves
  have same : (t.setCore n (c.setCur (c.cur.setG rd v))).retireWord n none = w := by rw [hc]; rfl
  rw [same] at moves
  obtain ⟨core, others, zyn, frame⟩ := moves
  obtain ⟨regs, pc⟩ := (ZCore.pass_passes _ _).cur
  rw [← core, ZCore.cur_setCur] at regs pc
  rw [← hc]
  refine ⟨zyn, fun pos lt => ?_, pc, _, ?_, core, others, zyn, frame⟩
  · exact (ZBank.greg_congr regs rd).trans (ZBank.greg_setG_self c.cur (Nat.pos_of_ne_zero pos) lt v)
  · show 1 ≤ 1 + _
    omega

/-- A mailbox's completion is recorded for its supervision (R337). -/
theorem State.complete_mailbox {s : State} {r : Req} {w t u : Nat} (box : r.src = .mailbox w t u) {status : Nat} (final : status ≠ 0x0101)
    (detail reason info outLen : Nat) (out : Bytes) :
    ∃ z ∈ (s.complete r status detail reason info outLen out).zyn.done, z.src = r.src ∧ z.status = status ∧ z.reason = reason := by
  unfold State.complete
  simp only [box, if_neg final]
  exact ⟨_, List.mem_append_right _ (List.mem_singleton.mpr rfl), rfl, rfl, rfl⟩

/-- What a worker's submission leaves (R336, R338). -/
theorem State.submitBox_worker {s : State} {n u a : Nat} (idle : (s.box n u).busy = false) (worker : isWorker n = true)
    (sound : s.gate.upset = []) :
    let y := s.mailReq n u a
    let t := (s.submitBox n u a).1
    (s.submitBox n u a).2 = 0 ∧ t.zyn.cores = s.zyn.cores ∧ (t.box n u).busy = true ∧ (t.box n u).copy = s.peek a 96
      ∧ (boxTakes u y.2.1.desc.opcode = true → y.2.2 = false → t.zyn.submitted = s.zyn.submitted ++ [y.2.1])
      ∧ (boxTakes u y.2.1.desc.opcode = false → ∃ z ∈ t.zyn.done, z.src = y.2.1.src ∧ z.status = 0x0301 ∧ z.reason = 0x21) := by
  intro y t
  have read : y.1.zyn = s.zyn := (State.mailReq_frame sound n u a).zyn_eq
  obtain ⟨v, hv⟩ : ∃ v, v = y.1.setBox n u { s.box n u with busy := true, copy := s.peek a 96, outSgl := y.2.1.outSgl } := ⟨_, rfl⟩
  have box : v.box n u = { s.box n u with busy := true, copy := s.peek a 96, outSgl := y.2.1.outSgl } := by
    rw [hv, State.box_setBox_self]
  have cores : v.zyn.cores = s.zyn.cores := by rw [hv, ← read]; rfl
  have submits : s.submitBox n u a = if boxTakes u y.2.1.desc.opcode = false then (v.refuseRange y.2.1 0x21, 0)
      else if y.2.2 then (v.abortOne 2 y.2.1, 0)
      else ({ v with zyn := { v.zyn with submitted := v.zyn.submitted ++ [y.2.1] } }, 0) := by
    rw [State.submitBox, if_neg (by simp [idle]), if_pos worker, hv]
  have kept {w : State} (h : KeepsCores v w) : w.zyn.cores = s.zyn.cores ∧ (w.box n u).busy = true ∧ (w.box n u).copy = s.peek a 96 := by
    have same : w.box n u = v.box n u := by rw [State.box, h.zyn]; rfl
    rw [same, box, h.zyn]
    exact ⟨cores, rfl, rfl⟩
  unfold t
  rw [submits]
  cases takes : boxTakes u y.2.1.desc.opcode with
  | false =>
    rw [if_pos rfl]
    obtain ⟨same, busy, copy⟩ := kept (KeepsCores.complete v y.2.1 0x0301 0 0x21 0 0 [])
    exact ⟨rfl, same, busy, copy, fun h => Bool.noConfusion h,
      fun _ => State.complete_mailbox (s := v) (r := y.2.1) rfl (by decide) 0 0x21 0 0 []⟩
  | true =>
    rw [if_neg (by decide)]
    cases spoilt : y.2.2 with
    | true =>
      rw [if_pos rfl]
      obtain ⟨same, busy, copy⟩ := kept (KeepsCores.abortOne v 2 y.2.1)
      exact ⟨rfl, same, busy, copy, fun _ h => Bool.noConfusion h, fun h => Bool.noConfusion h⟩
    | false =>
      rw [if_neg (by decide)]
      obtain ⟨same, busy, copy⟩ := kept (KeepsCores.refl v)
      refine ⟨rfl, same, busy, copy, fun _ _ => ?_, fun h => Bool.noConfusion h⟩
      rw [hv, ← read]
      rfl

theorem State.submitBox_supervisor {s : State} {n u a : Nat} (idle : (s.box n u).busy = false) (supervisor : isWorker n = false) :
    let t := (s.submitBox n u a).1
    (s.submitBox n u a).2 = 0 ∧ t.zyn.cores = s.zyn.cores ∧ (t.box n u).busy = s.inControl (coreWho n .secure) := by
  intro t
  obtain ⟨v, hv⟩ : ∃ v, v = s.setBox n u { s.box n u with busy := true, copy := s.peek a 96 } := ⟨_, rfl⟩
  have submits : s.submitBox n u a = if s.inControl (coreWho n .secure) then (v.submitStep n u (s.peek a 96), 0)
      else (s.dropWrite (coreWho n .secure), 0) := by
    rw [State.submitBox, if_neg (by simp [idle]), if_neg (by simp [supervisor]), hv]
  unfold t
  rw [submits]
  cases control : s.inControl (coreWho n .secure) with
  | true =>
    rw [if_pos rfl]
    have keeps := KeepsCores.submitStep v n u (s.peek a 96)
    have box : (v.submitStep n u (s.peek a 96)).box n u = v.box n u := by rw [State.box, keeps.zyn]; rfl
    refine ⟨rfl, ?_, ?_⟩
    · rw [keeps.zyn, hv]
      rfl
    · rw [box, hv, State.box_setBox_self]
  | false =>
    rw [if_neg (by decide)]
    have keeps := KeepsCores.dropWrite s (coreWho n .secure)
    have box : (s.dropWrite (coreWho n .secure)).box n u = s.box n u := by rw [State.box, keeps.zyn]; rfl
    refine ⟨rfl, ?_, ?_⟩
    · rw [keeps.zyn]
    · rw [box, idle]

theorem lowestLine_isSome (x : W32) : (lowestLine x).isSome = true ↔ x ≠ 0 := by
  rw [lowestLine, List.find?_isSome]
  constructor
  · rintro ⟨k, -, bit⟩ rfl
    simp at bit
  · intro ne
    by_contra none'
    push Not at none'
    refine ne (BitVec.eq_of_getLsbD_eq fun k lt => ?_)
    simpa using none' k (List.mem_range.mpr lt)

/-- A core that waits for an event goes on where one is there (R340). -/
theorem State.waitEvent_cases (s : State) (n : Nat) :
    let c := s.core n
    let b := c.cur
    (b.event = true → CoreMoves s (s.waitEvent n) n (c.setCur { b with event := false, pc := b.pc + 8 }) 1)
      ∧ (b.event = false → s.pendingLines n c.world ≠ 0 → c.takesOwn = true →
          CoreWaits s (s.waitEvent n) n (c.setCur { b with event := false, pc := b.pc + 8 }))
      ∧ (b.event = false → s.pendingLines n c.world = 0 ∨ c.takesOwn = false → s.waitEvent n = s.setCore n { c with wfe := true }) := by
  intro c b
  have goes (k : Option Nat) : CoreMoves s ((s.setCore n (c.setCur { b with event := false })).retireWord n k) n
      (c.setCur { b with event := false, pc := b.pc + 8 }) (k.getD (1 + Config.freshNat s.fresh)) := by
    have moves := s.retireWord_moves n (c.setCur { b with event := false }) k
    rwa [ZCore.cur_setCur, ZCore.setCur_setCur] at moves
  have waits : s.waitEvent n = if b.event || (c.takesOwn && (lowestLine (s.pendingLines n c.world)).isSome) then
      (s.setCore n (c.setCur { b with event := false })).retireWord n (if b.event then some 1 else none)
      else s.setCore n { c with wfe := true } := rfl
  rw [waits]
  refine ⟨fun event => ?_, fun quiet lines own => ?_, fun quiet none' => ?_⟩
  · rw [if_pos (by simp [event]), event]
    exact goes (some 1)
  · rw [if_pos (by simp [own, (lowestLine_isSome _).mpr lines]), quiet]
    exact ⟨_, Nat.le_add_right 1 _, goes none⟩
  · rw [if_neg]
    rcases none' with empty | other
    · have silent : (lowestLine (s.pendingLines n c.world)).isSome = false :=
        Bool.eq_false_iff.mpr fun h => (lowestLine_isSome _).mp h empty
      simp [quiet, silent]
    · simp [quiet, other]

/-- A call into a secure world that has restarted enters it afresh (R353). -/
theorem State.scall_pending {s : State} {n num : Nat} (pending : (s.worker n).sw = .pending) :
    let c := s.core n
    let b := c.cur
    let t := s.scall n num
    (t.core n) = { c with
        nepc := (b.pc + 8).setWidth 32, bySCall := true, world := .secure
        secure := b.copyArgs { ZBank.reset with pc := BitVec.ofNat 64 s.boot.entry1 }
        sentry := BitVec.ofNat 32 s.boot.entry1, scnum := num, irqHeld := true }
      ∧ t.worker n = { s.worker n with sw := .up, fresh := true, restarts := satAdd 8 (s.worker n).restarts 1, watch := 0 }
      ∧ OnlyIn [.zyn, .supv] s t := by
  intro c b t
  obtain ⟨u, hu⟩ : ∃ u, u = s.setCore n { c with nepc := (b.pc + 8).setWidth 32, bySCall := true } := ⟨_, rfl⟩
  have core : u.core n = { c with nepc := (b.pc + 8).setWidth 32, bySCall := true } := by rw [hu, State.core_setCore_self]
  have enters : t = u.enterRestarted n num b := by
    unfold t
    rw [State.scall]
    simp only [pending]
    rw [hu]
    rfl
  have boot : u.boot = s.boot := by rw [hu]; rfl
  have worker : u.worker n = s.worker n := by rw [hu]; rfl
  rw [enters, State.enterRestarted, core, boot, worker]
  refine ⟨State.core_setCore_self u n _, State.worker_setWorker_self _ n _, ?_⟩
  have frame : OnlyIn [.zyn, .supv] s u := by simp [hu]
  simp [frame]

theorem State.systemFault_none {s : State} {n : Nat} {k : ZKind} {a : ZArgs} (ne : k ≠ .msub) (ne' : k ≠ .brk) :
    s.systemFault n (opOf k .long a) = none := by
  unfold State.systemFault
  dsimp only
  split
  · rfl
  split
  · next h => exact absurd h ne
  · next h => exact absurd h ne'
  · rfl

/-- Settles O44: each operation is the move of its core that `State.system` makes. -/
theorem systemOperationsActOnTheirCore : Obligations.SystemOperationsActOnTheirCore := by
  intro s n a issues wf imm guard c b x i r link fits goes
  have due : (s.core n).storeDue = none := issues.2.2.2
  have run {k : ZKind} (system : k.isSystem = true) (fit : fits k) : s.issueWord n (zword k .long a) false = s.runSystem n (opOf k .long a) :=
    State.issueWord_system issues wf imm system fit.1 fit.2
  have free {k : ZKind} (none' : s.systemFault n (opOf k .long a) = none) (system : k.isSystem = true) (fit : fits k) :
      s.issueWord n (zword k .long a) false = s.system n (opOf k .long a) :=
    (run system fit).trans (State.runSystem_free none' due guard)
  have plain {k : ZKind} (ne : k ≠ .msub) (ne' : k ≠ .brk) (system : k.isSystem = true) (fit : fits k) :
      s.issueWord n (zword k .long a) false = s.system n (opOf k .long a) := free (State.systemFault_none ne ne') system fit
  refine ⟨fun fit => ?br, fun fit => ?brl, fun fit => ?jr, fun fit => ?jrl, fun fit => ?crd, fun fit => ?cwr, fun fit => ?scall,
    fun d => b.copyArgs_regs d, fun fit => ?sret, fun fit => ?tret, fun u fit at' => ?msub, fun fit nowhere => ?nobox, fun fit => ?wfe,
    fun fit => ?fence, fun fit => ?brk⟩
  case br => exact ⟨_, congrArg Host.Outcome.next (plain (by decide) (by decide) rfl fit), s.jump_moves n _ 3⟩
  case brl =>
    refine ⟨_, congrArg Host.Outcome.next (plain (by decide) (by decide) rfl fit), ?_⟩
    exact s.jump_setCore_moves n link _ 3
  case jr => exact ⟨_, congrArg Host.Outcome.next (plain (by decide) (by decide) rfl fit), s.jump_moves n _ 4⟩
  case jrl =>
    refine ⟨_, congrArg Host.Outcome.next (plain (by decide) (by decide) rfl fit), ?_⟩
    exact s.jump_setCore_moves n link _ 4
  case crd =>
    have cur : (c.readLatch r).cur = b := by
      unfold ZCore.readLatch
      split <;> rfl
    have moves := s.setRd_retires n (c.readLatch r) a.rd ((s.controlRead n r).setWidth 64) none
    rw [cur] at moves
    refine ⟨_, congrArg Host.Outcome.next (plain (by decide) (by decide) rfl fit), 1 + Config.freshNat s.fresh, by omega, ?_⟩
    show CoreMoves s _ n (goes ((c.readLatch r).setCur (b.setG a.rd ((s.controlRead n r).setWidth 64))) (b.pc + 8)) _
    unfold goes
    rw [ZCore.cur_setCur, ZCore.setCur_setCur]
    exact moves
  case cwr =>
    have moves := s.retireWord_moves n (s.controlWrite n r (x.setWidth 32)) (some 1)
    rw [State.controlWrite_pc] at moves
    exact ⟨_, congrArg Host.Outcome.next (plain (by decide) (by decide) rfl fit), moves⟩
  case scall =>
    have calls : s.issueWord n (zword .scall .long a) false = (s.scall n (a.imm.toNat % 65536)).tickCore n (some (if s.scallDown n then 4 else 12)) :=
      plain (by decide) (by decide) rfl fit
    refine ⟨fun up => ?_, fun pending => ?_, fun away => ?_⟩
    · have enters : s.scall n (a.imm.toNat % 65536) = s.setCore n { c with
          nepc := (b.pc + 8).setWidth 32, scnum := a.imm.toNat % 65536, bySCall := true, world := .secure
          secure := b.copyArgs { c.secure with pc := c.sentry.setWidth 64 } } := by
        simp only [State.scall, up]
        rfl
      have reached : s.scallDown n = false := by simp only [State.scallDown, up]
      rw [enters, reached] at calls
      exact ⟨_, congrArg Host.Outcome.next calls, s.tickCore_moves n _ (some 12)⟩
    · have reached : s.scallDown n = false := by simp only [State.scallDown, pending]
      obtain ⟨core, worker, frame⟩ := State.scall_pending (num := a.imm.toNat % 65536) pending
      obtain ⟨t, ht⟩ : ∃ t, t = s.scall n (a.imm.toNat % 65536) := ⟨_, rfl⟩
      rw [← ht] at core worker frame calls
      have ticked : (t.tickCore n (some 12)).core n = (t.core n).pass 12 := State.core_setCore_self t n _
      obtain ⟨world, ⟨nepc, scnum, held⟩, regs, pc⟩ := (t.core n).pass_passes 12
      obtain ⟨copied, kept⟩ := b.copyArgs_regs { ZBank.reset with pc := BitVec.ofNat 64 s.boot.entry1 }
      have entered := b.copyArgs_pc { ZBank.reset with pc := BitVec.ofNat 64 s.boot.entry1 }
      have bank : (t.core n).secure = b.copyArgs { ZBank.reset with pc := BitVec.ofNat 64 s.boot.entry1 } := by rw [core]
      have secure (k : Nat) : ((t.tickCore n (some 12)).core n).secure.greg k = (t.core n).secure.greg k := by
        rw [ticked]
        exact ZBank.greg_congr (regs .secure) k
      rw [reached] at calls
      refine ⟨t.tickCore n (some 12), congrArg Host.Outcome.next calls, ?_, ?_, ?_, ?_, ?_, ?_, ?_, fun k pos le => ?_, fun k lt => ?_,
        (frame.mono (by simp)).tickCore n _ (by simp)⟩
      · rw [ticked, world, core]
      · rw [ticked]
        exact (pc .secure).trans ((congrArg ZBank.pc bank).trans entered)
      · rw [ticked, nepc, core]
      · rw [ticked, scnum, core]
      · rw [ticked, held, core]
      · exact congrArg WorkerCtl.sw worker
      · exact congrArg WorkerCtl.restarts worker
      · rw [secure, bank]
        exact copied k pos le
      · rw [secure, bank]
        refine (kept k lt).trans ?_
        simp [ZBank.greg, ZBank.reset]
    · have down : s.scallDown n = true := by rcases away with down | held <;> simp only [State.scallDown, *]
      have answers : s.scall n (a.imm.toNat % 65536) = s.setCore n (c.setCur { b.setG 1 0x501#64 with pc := b.pc + 8 }) := by
        rcases away with down | held <;> simp only [State.scall, *] <;> rfl
      rw [answers, down] at calls
      exact ⟨_, congrArg Host.Outcome.next calls, s.tickCore_moves n _ (some 4)⟩
  case sret =>
    obtain ⟨t, ht⟩ : ∃ t, t = s.sret n (a.imm.getLsbD 0) := ⟨_, rfl⟩
    have returns : s.issueWord n (zword .sret .long a) false = t.tickCore n (some 10) := by
      rw [ht]
      exact plain (by decide) (by decide) rfl fit
    have core : t.core n = { c with
        world := .normal, bySCall := false, secure := { c.secure with pc := c.secure.pc + 8 }
        normal := { (if a.imm.getLsbD 0 then c.secure.copyArgs c.normal else c.normal) with
          pc := c.nepc.setWidth 64, halted := false } } := by
      rw [ht]
      exact State.core_setCore_self s n _
    have frame : OnlyIn [.zyn, .supv, .fresh] s t := by
      rw [ht, State.sret]
      simp [State.clearWatch]
    have watch : (t.worker n).watch = 0 := by
      rw [ht, State.sret, State.clearWatch, State.worker_setWorker_self]
    refine ⟨t.tickCore n (some 10), congrArg Host.Outcome.next returns, ?_, watch, frame.tickCore n _ (by simp)⟩
    rw [← core]
    exact State.core_setCore_self t n _
  case tret =>
    exact ⟨_, congrArg Host.Outcome.next (plain (by decide) (by decide) rfl fit), s.tickCore_moves n _ (some 4)⟩
  case msub =>
    have found : s.systemFault n (opOf .msub .long a) = none := by
      unfold State.systemFault
      dsimp only
      rw [if_neg (by simp [guard, opOf])]
      simp only [opOf]
      rw [if_pos (by simp [at', x, b, c])]
    have rd : a.rd < 64 := by
      simp only [ZArgs.wf, Bool.and_eq_true, decide_eq_true_eq] at wf
      exact wf.1.1.2
    have submits : s.issueWord n (zword .msub .long a) false = if c.stores ≠ [] then s else
        ((s.submitBox n u x.toNat).1.setRd n a.rd (s.submitBox n u x.toNat).2).retireWord n none := by
      rw [free found rfl fit, show u = (s.boxAt n x.toNat).getD 0 by rw [at']; rfl]
      rfl
    refine ⟨fun empty busy => ?_, fun empty idle worker sound => ?_, fun empty idle supervisor => ?_,
      fun waiting => congrArg Host.Outcome.next (submits.trans (if_pos waiting))⟩
    all_goals
      rw [if_neg (by simp [empty])] at submits
    · have answers : s.submitBox n u x.toNat = (s, 1) := by rw [State.submitBox, if_pos busy]
      rw [answers] at submits
      obtain ⟨-, -, -, waits⟩ := s.setRd_retires_self n a.rd 1
      refine ⟨_, congrArg Host.Outcome.next submits, ?_⟩
      unfold goes
      rw [ZCore.cur_setCur, ZCore.setCur_setCur]
      exact waits
    · intro y
      obtain ⟨answer, cores, busy, copy, submitted, refused⟩ := State.submitBox_worker (a := x.toNat) idle worker sound
      obtain ⟨t, ht⟩ : ∃ t, t = (s.submitBox n u x.toNat).1 := ⟨_, rfl⟩
      rw [← ht] at cores busy copy submitted refused submits
      rw [answer] at submits
      obtain ⟨zyn, result, pc, -⟩ := t.setRd_retires_self n a.rd 0
      have core : t.core n = c := by rw [State.core, cores]; rfl
      have box : ((t.setRd n a.rd 0).retireWord n none).box n u = t.box n u := by rw [State.box, zyn]; rfl
      refine ⟨_, congrArg Host.Outcome.next submits, ?_, ?_, fun ne => result ne rd, by rw [pc, core], fun takes whole => ?_, fun takes => ?_⟩
      · rw [box, busy]
      · rw [box, copy]
      · rw [zyn]
        exact submitted takes whole
      · rw [zyn]
        exact refused takes
    · obtain ⟨answer, cores, busy⟩ := State.submitBox_supervisor (a := x.toNat) idle supervisor
      obtain ⟨t, ht⟩ : ∃ t, t = (s.submitBox n u x.toNat).1 := ⟨_, rfl⟩
      rw [← ht] at cores busy submits
      rw [answer] at submits
      obtain ⟨zyn, result, pc, -⟩ := t.setRd_retires_self n a.rd 0
      have core : t.core n = c := by rw [State.core, cores]; rfl
      have box : ((t.setRd n a.rd 0).retireWord n none).box n u = t.box n u := by rw [State.box, zyn]; rfl
      refine ⟨_, congrArg Host.Outcome.next submits, fun ne => result ne rd, by rw [pc, core], by rw [box, busy]⟩
  case nobox =>
    have fault : s.systemFault n (opOf .msub .long a) =
        some ((s.noteDenial n c.world true false (x.toNat % 2 ^ 32) 1).exception n 0 0x06 0 (x.setWidth 32)) := by
      unfold State.systemFault
      dsimp only
      rw [if_neg (by simp [guard, opOf])]
      simp only [opOf]
      rw [if_neg (by simp [nowhere, x, b, c])]
    have runs := run (k := .msub) rfl fit
    rw [State.runSystem, fault] at runs
    exact congrArg Host.Outcome.next runs
  case wfe =>
    have waits : s.issueWord n (zword .wfe .long a) false = s.waitEvent n := plain (by decide) (by decide) rfl fit
    obtain ⟨event, lines, sleeps⟩ := s.waitEvent_cases n
    exact ⟨fun h => ⟨_, congrArg Host.Outcome.next waits, event h⟩, fun h h' own => ⟨_, congrArg Host.Outcome.next waits, lines h h' own⟩,
      fun h h' => congrArg Host.Outcome.next (waits.trans (sleeps h h'))⟩
  case fence =>
    have fences : s.issueWord n (zword .fence .long a) false = if c.stores ≠ [] then s else s.retireWord n none :=
      plain (by decide) (by decide) rfl fit
    refine ⟨fun empty => ⟨_, congrArg Host.Outcome.next (fences.trans (if_neg (by simp [empty]))), _, ?_, s.retireWord_self n none⟩,
      fun waiting => congrArg Host.Outcome.next (fences.trans (if_pos waiting))⟩
    show 1 ≤ 1 + _
    omega
  case brk =>
    have fault : s.systemFault n (opOf .brk .long a) = if s.debugger n then none else some (s.exception n 3 0x0A 0 0) := by
      unfold State.systemFault
      dsimp only
      rw [if_neg (by simp [guard, opOf])]
      rfl
    refine ⟨fun attached => ?_, fun alone => ?_⟩
    · exact congrArg Host.Outcome.next (free (by rw [fault, if_pos attached]) rfl fit)
    · have runs := run (k := .brk) rfl fit
      rw [State.runSystem, fault, if_neg (by simp [alone])] at runs
      exact congrArg Host.Outcome.next runs

end Sys2Proof.Machine
end

section
/-! PROOFS. Lemmas and obligations: worlds and supervisors. -/

namespace Sys2Proof.Machine

set_option Elab.async false

/-! ## Lines and secure worlds of the cores (file 12, Worlds; When a worker's secure world goes down) -/

/-- Cores stay started, pending lines stay pending, and the worlds of pins and lines stay what they are. -/
structure KeepsLines (s t : State) : Prop where
  started (n : Nat) : (s.core n).started = true → (t.core n).started = true
  pending (n k : Nat) (w : World) : ((s.core n).bank w).ipend.getLsbD k = true → ((t.core n).bank w).ipend.getLsbD k = true
  lines (n k : Nat) : t.lineWorld n k = s.lineWorld n k
  pins (k : Nat) : t.pinWorld k = s.pinWorld k

theorem KeepsLines.refl (s : State) : KeepsLines s s := ⟨fun _ h => h, fun _ _ _ h => h, fun _ _ => rfl, fun _ => rfl⟩

theorem KeepsLines.trans {s t u : State} (h : KeepsLines s t) (g : KeepsLines t u) : KeepsLines s u :=
  ⟨fun n p => g.started n (h.started n p), fun n k w p => g.pending n k w (h.pending n k w p),
    fun n k => (g.lines n k).trans (h.lines n k), fun k => (g.pins k).trans (h.pins k)⟩

theorem KeepsLines.foldl {α : Type} {f : State → α → State} (hf : ∀ u x, KeepsLines u (f u x)) (l : List α) :
    ∀ s : State, KeepsLines s (l.foldl f s) := by
  induction l with
  | nil => exact KeepsLines.refl
  | cons x l ih => exact fun s => (hf s x).trans (ih (f s x))

/-- The core with a line pending in the bank of a world. -/
def ZCore.withLine (c : ZCore) (w : World) (line : Nat) : ZCore :=
  c.setBank w { c.bank w with ipend := (c.bank w).ipend ||| (1#32 <<< line) }

theorem State.raiseLine_started {s : State} {n : Nat} (started : (s.core n).started = true) (line : Nat) :
    s.raiseLine n line = s.setCore n ((s.core n).withLine (s.lineWorld n line) line) := if_pos started

theorem ZCore.withLine_started (c : ZCore) (w : World) (line : Nat) : (c.withLine w line).started = c.started := by cases w <;> rfl

theorem ZCore.withLine_pending (c : ZCore) (w : World) {line : Nat} (lt : line < 32) :
    ((c.withLine w line).bank w).ipend.getLsbD line = true := by
  have bit : ((c.withLine w line).bank w).ipend = (c.bank w).ipend ||| (1#32 <<< line) := by cases w <;> rfl
  simp [bit, lt]

theorem ZCore.withLine_keeps (c : ZCore) (v w : World) (line k : Nat) (set : (c.bank w).ipend.getLsbD k = true) :
    ((c.withLine v line).bank w).ipend.getLsbD k = true := by
  cases v <;> cases w <;> simp_all [ZCore.withLine, ZCore.setBank, ZCore.bank]

theorem KeepsLines.raiseLine (s : State) (n line : Nat) : KeepsLines s (s.raiseLine n line) := by
  by_cases started : (s.core n).started = true
  · rw [s.raiseLine_started started]
    refine ⟨fun k up => ?_, fun k b w set => ?_, fun _ _ => rfl, fun _ => rfl⟩
    · by_cases same : k = n
      · subst same
        rw [State.core_setCore_self, ZCore.withLine_started, up]
      · rwa [State.core_setCore_other s same]
    · by_cases same : k = n
      · subst same
        rw [State.core_setCore_self]
        exact ZCore.withLine_keeps _ _ _ _ _ set
      · rwa [State.core_setCore_other s same]
  · rw [State.raiseLine, if_neg started]
    exact .refl s

theorem KeepsLines.edgeTo (s : State) (pin n : Nat) : KeepsLines s (s.edgeTo pin n) := by
  unfold State.edgeTo
  split
  · exact .raiseLine s n (pin + 1)
  · exact ⟨fun _ h => h, fun _ _ _ h => h, fun _ _ => rfl, fun _ => rfl⟩

/-- An edge of a pin of the other world changes nothing of a core (R349). -/
theorem State.edgeTo_core {s : State} {pin n : Nat} (apart : s.lineWorld n (pin + 1) ≠ s.pinWorld pin) (k : Nat) :
    (s.edgeTo pin k).core n = s.core n := by
  unfold State.edgeTo
  split
  next agree =>
    have other : n ≠ k := fun same => apart (same ▸ agree)
    unfold State.raiseLine
    dsimp only
    split
    · exact State.core_setCore_other s other _
    · rfl
  · rfl

/-- The edge of a pin as it reaches the cores one by one (R349). -/
def State.edges (s : State) (pin : Nat) (l : List (Nat × ZCore)) : State := l.foldl (fun u x => u.edgeTo pin x.1) s

theorem KeepsLines.edges (s : State) (pin : Nat) (l : List (Nat × ZCore)) : KeepsLines s (s.edges pin l) :=
  KeepsLines.foldl (fun u (x : Nat × ZCore) => KeepsLines.edgeTo u pin x.1) l s

theorem State.edges_frame (s : State) (pin : Nat) (l : List (Nat × ZCore)) : OnlyIn [.zyn, .supv] s (s.edges pin l) :=
  OnlyIn.foldl _ (fun u x => by simp) l s

theorem State.edges_gpin (pin : Nat) (l : List (Nat × ZCore)) : ∀ s : State, (s.edges pin l).supv.gpin = s.supv.gpin := by
  have kept (s : State) (k : Nat) : (s.edgeTo pin k).supv.gpin = s.supv.gpin := by
    unfold State.edgeTo
    split
    · unfold State.raiseLine
      dsimp only
      split <;> rfl
    · rfl
  induction l with
  | nil => exact fun _ => rfl
  | cons x l ih => exact fun s => (ih _).trans (kept s x.1)

theorem State.edges_core {pin n : Nat} (l : List (Nat × ZCore)) : ∀ s : State, s.lineWorld n (pin + 1) ≠ s.pinWorld pin →
    (s.edges pin l).core n = s.core n := by
  induction l with
  | nil => exact fun _ _ => rfl
  | cons x l ih =>
    intro s apart
    have keeps := KeepsLines.edgeTo s pin x.1
    exact (ih _ (by rwa [keeps.lines, keeps.pins])).trans (State.edgeTo_core apart x.1)

theorem State.edges_pending {s : State} {pin n : Nat} {l : List (Nat × ZCore)} {c : ZCore} (lt : pin < 16) (reached : (n, c) ∈ l)
    (started : (s.core n).started = true) (agree : s.lineWorld n (pin + 1) = s.pinWorld pin) :
    (((s.edges pin l).core n).bank (s.pinWorld pin)).ipend.getLsbD (pin + 1) = true := by
  obtain ⟨before, after, rfl⟩ := List.append_of_mem reached
  obtain ⟨u, hu⟩ : ∃ u, u = s.edges pin before := ⟨_, rfl⟩
  have first : KeepsLines s u := hu ▸ KeepsLines.edges s pin before
  have up := first.started n started
  have line : u.lineWorld n (pin + 1) = s.pinWorld pin := (first.lines n (pin + 1)).trans agree
  have raised : u.edgeTo pin n = u.setCore n ((u.core n).withLine (s.pinWorld pin) (pin + 1)) := by
    rw [State.edgeTo, if_pos (by rw [line, first.pins]), u.raiseLine_started up, line]
  have set : (((u.edgeTo pin n).core n).bank (s.pinWorld pin)).ipend.getLsbD (pin + 1) = true := by
    rw [raised, State.core_setCore_self]
    exact ZCore.withLine_pending _ _ (by omega)
  have whole : s.edges pin (before ++ (n, c) :: after) = (u.edgeTo pin n).edges pin after := by
    rw [hu, State.edges, List.foldl_append]
    rfl
  rw [whole]
  exact (KeepsLines.edges _ pin after).pending n _ _ set

/-- A started core stands among the cores that an edge reaches. -/
theorem State.started_mem {s : State} {n : Nat} (started : (s.core n).started = true) :
    (n, s.core n) ∈ s.zyn.cores.filter (fun x => x.2.started) := by
  refine List.mem_filter.mpr ⟨SMap.mem_of_get (d := ZCore.reset) fun same => ?_, started⟩
  rw [State.core, same] at started
  exact absurd started (by decide)

/-- A restarted secure world starts at the KIND 1 entry with interrupts held (R353). -/
theorem State.enterRestarted_fresh (s : State) (n : Nat) :
    let t := s.enterRestarted n 0 ZBank.reset
    (t.worker n).sw = .up ∧ (t.worker n).fresh = true ∧ (t.worker n).restarts = satAdd 8 (s.worker n).restarts 1
      ∧ (t.core n).world = .secure ∧ (t.core n).secure.pc = BitVec.ofNat 64 s.boot.entry1 ∧ (t.core n).irqHeld = true := by
  intro t
  obtain ⟨c, hc⟩ : ∃ c, c = { s.core n with
      world := .secure, secure := ZBank.reset.copyArgs { ZBank.reset with pc := BitVec.ofNat 64 s.boot.entry1 }
      sentry := BitVec.ofNat 32 s.boot.entry1, scnum := 0, irqHeld := true } := ⟨_, rfl⟩
  have core : t.core n = c := hc ▸ State.core_setCore_self s n _
  have worker : t.worker n = { s.worker n with sw := .up, fresh := true, restarts := satAdd 8 (s.worker n).restarts 1, watch := 0 } :=
    State.worker_setWorker_self _ n _
  rw [worker, core, hc]
  exact ⟨rfl, rfl, rfl, rfl, ZBank.copyArgs_pc _ _, rfl⟩

theorem KeepsCores.core {s t : State} (h : KeepsCores s t) (n : Nat) : t.core n = s.core n := by
  rw [State.core, State.core, h.zyn]

/-- The work of a worker's mailboxes goes without a change of the cores (R352). -/
theorem State.dropMailWork_core (s : State) (n k : Nat) : (s.dropMailWork n).core k = s.core k := by
  have aborts (l : List Req) : ∀ u : State, KeepsCores u (l.foldl (fun t r => t.abortOne 2 r) u) := by
    induction l with
    | nil => exact KeepsCores.refl
    | cons r l ih => exact fun u => (KeepsCores.abortOne u 2 r).trans (ih _)
  exact (aborts _ s).core k

/-- What is left of a core and its worker's registers when its secure world is declared down (R350, R352, R354). -/
theorem State.declareDown_down {s : State} {n cause : Nat} (present : n < s.part.workers) (up : (s.worker n).sw = .up)
    (started : (s.core n).started = true) :
    (s.declareDown n cause).worker n = { s.worker n with
        sw := if s.thirdDown n then .held else .down, swCause := cause, watch := 0, downs := s.sys.optime :: (s.worker n).downs }
      ∧ (s.declareDown n cause).core n = (s.core n).leaveSecure s.hasNormal := by
  obtain ⟨w, hw⟩ : ∃ w, w = { s.worker n with
      sw := if s.thirdDown n then SwState.held else .down, swCause := cause, watch := 0, downs := s.sys.optime :: (s.worker n).downs } := ⟨_, rfl⟩
  obtain ⟨t, ht⟩ : ∃ t, t = (s.setWorker n w).setCore n ((s.core n).leaveSecure s.hasNormal) := ⟨_, rfl⟩
  obtain ⟨u, hu⟩ : ∃ u, u = ((t.dropMailWork n).zeroMailboxes n).offer 0x1101 n cause 0 := ⟨_, rfl⟩
  have left : s.declareDown n cause = if s.thirdDown n then (u.offer 0x1102 n (s.worker n).restarts 0).afterFence else u := by
    rw [State.declareDown, if_neg (by simp [started, up, present]), hu, ht, hw]
    rfl
  have downCore : u.core n = (s.core n).leaveSecure s.hasNormal := by
    have cores : u.core n = (t.dropMailWork n).core n := by
      rw [hu, State.core, ((OnlyIn.refl [.mem, .rcd] (t.dropMailWork n)).zeroMailboxes n (by simp) |>.offer _ _ _ _ (by simp)).zyn_eq (by simp)]
      rfl
    rw [cores, State.dropMailWork_core, ht, State.core_setCore_self]
  have downWorker : u.worker n = w := by
    have workers : u.worker n = t.worker n := by
      rw [hu, State.worker, ((((OnlyIn.refl _ t).dropMailWork n (List.Subset.refl _)).zeroMailboxes n (by simp)).offer _ _ _ _ (by simp)).supv_eq (by simp)]
      rfl
    rw [workers, ht]
    exact State.worker_setWorker_self s n w
  have fenced : OnlyIn [.sys, .ent, .rcd, .blk] u (s.declareDown n cause) := by
    rw [left]
    split <;> simp
  rw [State.worker, fenced.supv_eq (by simp), State.core, fenced.zyn_eq (by simp), ← hw]
  exact ⟨downWorker, downCore⟩

/-- The lines that change world lose their bits in both banks, the others keep them (R349). -/
theorem ZCore.clearLines_bits (c : ZCore) (m : W32) (k : Nat) (lt : k < 32) :
    (m.getLsbD k = true → (c.clearLines m).normal.ipend.getLsbD k = false ∧ (c.clearLines m).normal.imask.getLsbD k = false
        ∧ (c.clearLines m).secure.ipend.getLsbD k = false ∧ (c.clearLines m).secure.imask.getLsbD k = false)
      ∧ (m.getLsbD k = false → (c.clearLines m).normal.ipend.getLsbD k = c.normal.ipend.getLsbD k
        ∧ (c.clearLines m).secure.ipend.getLsbD k = c.secure.ipend.getLsbD k) := by
  constructor <;> intro bit <;> simp [ZCore.clearLines, -BitVec.getLsbD_eq_getElem, bit, lt]

/-- Settles O47: an edge walks the cores that run; the registers of the supervisor in control are single writes; a secure world that
goes down leaves its core as `leaveSecure` says. -/
theorem worldsAndLinesOfCores : Obligations.WorldsAndLinesOfCores := by
  intro s who n c
  refine ⟨fun pin lt on scan => ?edge, fun pin d lt on scan one apart => ?dropped, fun control => ⟨fun v => ?pinw, fun v present => ?irqw,
    fun line ge lt there started => ?swi, fun v present worker => ?wcol, fun worker => ?down⟩, fun other => ?other, fun own present on => ?beat,
    fun foreign => ?nobeat, fun on worker secure expired => ?expiry, fun runs => ?early, fun cause present worker up started => ?declared,
    fun on down => ?restart⟩
  case edge =>
    obtain ⟨t, ht⟩ : ∃ t, t = { s with supv := { s.supv with gpin := s.supv.gpin ||| pinBit pin } } := ⟨_, rfl⟩
    have runs : exec (.gpEdge pin) s = .next (t.edges pin (t.zyn.cores.filter fun x => x.2.started)) := by
      rw [ht]
      exact congrArg Host.Outcome.next (if_pos ⟨lt, on, scan⟩)
    have core : t.core n = c := by rw [ht]; rfl
    have line : t.lineWorld n (pin + 1) = s.lineWorld n (pin + 1) := by rw [ht]; rfl
    have pins : t.pinWorld pin = s.pinWorld pin := by rw [ht]; rfl
    have frame : OnlyIn [.zyn, .supv] s t := by simp [ht]
    refine ⟨_, runs, ?_, frame.trans (t.edges_frame pin _), fun started agree => ?_, fun apart => ?_⟩
    · rw [State.edges_gpin, ht]
      simp [pinBit, lt]
    · have up : (t.core n).started = true := core ▸ started
      rw [← pins]
      exact State.edges_pending lt (State.started_mem up) up (by rw [line, pins, agree])
    · rw [State.edges_core _ t (by rwa [line, pins]), core]
  case dropped =>
    have runs : exec (.gpEdge pin) s = .next ({ s with supv := { s.supv with gpin := s.supv.gpin ||| pinBit pin } }.edges pin
        (s.zyn.cores.filter fun x => x.2.started)) := congrArg Host.Outcome.next (if_pos ⟨lt, on, scan⟩)
    rw [runs, one]
    exact congrArg Host.Outcome.next (if_neg apart)
  case pinw =>
    refine ⟨_, congrArg Host.Outcome.next (State.byControl_of_inControl control _), rfl, by simp, fun k k16 => ?_⟩
    have same (a b : Bool) : (!(a ^^ b)) = (a == b) := by cases a <;> cases b <;> rfl
    simp [k16, same]
  case irqw =>
    obtain ⟨t, ht⟩ : ∃ t, t = { s with supv := { s.supv with irqw := SMap.set 0xFFFFFFFF#32 s.supv.irqw n (v ||| 1#32) } } := ⟨_, rfl⟩
    have core : t.core n = c := by rw [ht]; rfl
    have runs : exec (.supvIrqwWrite who n v) s = .next (t.setCore n (c.clearLines ((v ||| 1#32) ^^^ s.irqWorlds n))) := by
      rw [← core, ht]
      exact congrArg Host.Outcome.next ((State.byControl_of_inControl control _).trans (if_pos present))
    refine ⟨_, runs, ?_, ?_, fun k k32 => ⟨fun differ => ?_, fun same => ?_⟩⟩
    · rw [ht]
      exact SMap.get_set_self _ _ _ _
    · have frame : OnlyIn [.zyn, .supv] s t := by simp [ht]
      simp [frame]
    · rw [State.core_setCore_self]
      exact (c.clearLines_bits _ k k32).1 (by rw [BitVec.getLsbD_xor]; simpa using differ)
    · rw [State.core_setCore_self]
      exact (c.clearLines_bits _ k k32).2 (by rw [BitVec.getLsbD_xor, same, Bool.xor_self])
  case swi =>
    have runs : exec (.supvSwi who n line) s = .next (s.raiseLine n line) :=
      congrArg Host.Outcome.next ((State.byControl_of_inControl control _).trans (if_pos ⟨ge, lt, there⟩))
    refine ⟨_, runs, ?_, by simp⟩
    rw [s.raiseLine_started started, State.core_setCore_self]
    exact ZCore.withLine_pending _ _ lt
  case wcol =>
    have runs : exec (.supvWcolWrite who n v) s = .next (s.setWorker n { s.worker n with
        ncol := v.extractLsb' 0 8, scol := v.extractLsb' 8 8 }) :=
      congrArg Host.Outcome.next ((State.byControl_of_inControl control _).trans (if_pos present))
    refine ⟨_, runs, ?_, ?_, by simp⟩
    · simp [State.coreColour, isWorker, worker]
    · simp [State.coreColour, isWorker, worker, Nat.shiftRight_eq_div_pow]
  case down =>
    exact congrArg Host.Outcome.next ((State.byControl_of_inControl control _).trans (if_pos (by simpa [isWorker] using worker)))
  case other =>
    exact ⟨congrArg Host.Outcome.next (State.byControl_of_other other _), congrArg Host.Outcome.next (State.byControl_of_other other _),
      congrArg Host.Outcome.next (State.byControl_of_other other _)⟩
  case beat => exact congrArg Host.Outcome.next (if_pos ⟨own, present, on⟩)
  case nobeat => exact congrArg Host.Outcome.next (if_neg fun both => foreign both.1)
  case expiry => exact congrArg Host.Outcome.next (if_pos ⟨on, by simpa [isWorker] using worker, secure, expired⟩)
  case early => exact congrArg Host.Outcome.next (if_neg fun all => by simp [runs] at all)
  case declared =>
    intro u
    obtain ⟨registers, core⟩ := State.declareDown_down (cause := cause) present up started
    show (u.worker n).sw = _ ∧ _
    rw [show u.worker n = _ from registers, show u.core n = _ from core]
    refine ⟨rfl, rfl, rfl, ?_, fun secure normal => ?_, fun inNormal => ?_⟩
    · unfold ZCore.leaveSecure
      dsimp only
      split
      · rfl
      · split <;> rfl
    · have leaves : c.world ≠ .normal := by simp [secure]
      rw [show s.core n = c from rfl, ZCore.leaveSecure, if_neg leaves, if_pos normal]
      refine ⟨rfl, ?_, fun called => ?_⟩
      · dsimp only
        split
        · exact ZBank.setG_pc _ _ _
        · rfl
      · dsimp only
        rw [if_pos called]
        exact ZBank.greg_setG_self _ (by decide) (by decide) _
    · rw [show s.core n = c from rfl, ZCore.leaveSecure, if_pos inNormal]
  case restart =>
    refine ⟨fun normal => ?_, fun none' => ?_⟩
    · exact congrArg Host.Outcome.next ((if_pos ⟨on, down⟩).trans (if_pos normal))
    · obtain ⟨t, ht⟩ : ∃ t, t = s.setWorker n { s.worker n with sw := .pending } := ⟨_, rfl⟩
      have runs : exec (.secureRestartPending n) s = .next (t.enterRestarted n 0 ZBank.reset) := by
        rw [ht]
        exact congrArg Host.Outcome.next ((if_pos ⟨on, down⟩).trans (if_neg (by simp [none'])))
      obtain ⟨sw, fresh, restarts, world, pc, held⟩ := t.enterRestarted_fresh n
      have frame : OnlyIn [.zyn, .supv] s t := by simp [ht]
      refine ⟨_, runs, sw, fresh, ?_, world, ?_, held, by simp [frame]⟩
      · rw [restarts, ht, State.worker_setWorker_self]
      · rw [pc, ht]
        rfl

/-! ## Control of the supervisors (file 12, The two supervisors) -/

@[simp] theorem Worlds.st_setSt_self (w : Worlds) (b : Bool) (x : SupState) : (w.setSt b x).st b = x := by
  cases b <;> cases x <;> rfl

@[simp] theorem Worlds.st_setSt_other (w : Worlds) (b : Bool) (x : SupState) : (w.setSt b x).st (!b) = w.st (!b) := by
  cases b <;> cases x <;> rfl

/-- Of a supervisor's change of state, what else may change is its count of cycles. -/
theorem Worlds.setSt_rest (w : Worlds) (b : Bool) (x : SupState) :
    (w.setSt b x).active = w.active ∧ (w.setSt b x).noSup = w.noSup ∧ (w.setSt b x).switches = w.switches := by
  cases b <;> cases x <;> exact ⟨rfl, rfl, rfl⟩

theorem fenceStands_of_supervisor {s : State} {b : Bool} (fenced : s.supv.st b = .fenced) : s.fenceStands = true := by
  have one : (decide (s.supv.stA = .fenced) || decide (s.supv.stB = .fenced)) = true := by
    cases b with
    | false => simp [show s.supv.stA = .fenced from fenced]
    | true => simp [show s.supv.stB = .fenced from fenced]
  rcases Bool.or_eq_true _ _ ▸ one with a | b <;> simp [State.fenceStands, of_decide_eq_true, *]

/-- A standing fence takes SERVICE away (R47). -/
theorem State.afterFence_degrades {s : State} (stands : s.fenceStands = true) : s.afterFence.sys.mode ≠ .service := by
  by_cases service : s.sys.mode = .service
  · rw [State.afterFence, if_pos ⟨service, stands⟩, State.setMode_sys (by simp [service])]
    simp
  · rwa [State.afterFence, if_neg fun both => service both.1]

/-- A slot that is aborted is no longer LOADING, and no slot becomes so. -/
theorem State.abortInst_loading (s : State) (n cause : Nat) :
    ((s.abortInst n cause none).slot n).state ≠ .loading
      ∧ ∀ k, (s.slot k).state ≠ .loading → ((s.abortInst n cause none).slot k).state ≠ .loading := by
  have others (k : Nat) (ne : k ≠ n) : (s.abortInst n cause none).slot k = s.slot k := by
    have dropped (p : EngSrc → Bool) : (s.dropJobs p).twl = s.twl := ((OnlyIn.refl _ s).dropJobs p (List.Subset.refl _)).twl_eq
    unfold State.abortInst
    extract_lets i k' s1 s2
    split
    · rfl
    · rw [State.slot, State.complete_twl]
      exact (State.slot_setSlot_other s1 ne Inst.free).trans (by rw [State.slot, dropped]; rfl)
  have own : ((s.abortInst n cause none).slot n).state ≠ .loading := by
    unfold State.abortInst
    extract_lets i k s1 s2
    split
    next idle => rcases idle with h | h <;> rw [show s.slot n = i from rfl, h] <;> decide
    next => rw [State.slot, State.complete_twl, show SMap.get Inst.free s2.twl.insts n = Inst.free from State.slot_setSlot_self s1 n _]; decide
  refine ⟨own, fun k quiet => ?_⟩
  by_cases same : k = n
  · rwa [same]
  · rwa [others k same]

/-- No slot is LOADING after a switch-over (R365). -/
theorem State.abortLoading_slot (s : State) (k : Nat) : (s.abortLoading.slot k).state ≠ .loading := by
  have keeps (l : List Nat) : ∀ u : State, (u.slot k).state ≠ .loading →
      ((l.foldl (fun t n => t.abortInst n 5 none) u).slot k).state ≠ .loading := by
    induction l with
    | nil => exact fun _ h => h
    | cons n l ih => exact fun u h => ih _ ((u.abortInst_loading n 5).2 k h)
  have ends (l : List Nat) : ∀ u : State, k ∈ l → ((l.foldl (fun t n => t.abortInst n 5 none) u).slot k).state ≠ .loading := by
    induction l with
    | nil => exact fun _ h => absurd h List.not_mem_nil
    | cons n l ih =>
      intro u h
      rcases List.mem_cons.mp h with rfl | later
      · exact keeps l _ (u.abortInst_loading k 5).1
      · exact ih _ later
  by_cases loading : (s.slot k).state = .loading
  · refine ends _ s (List.mem_map.mpr ⟨(k, s.slot k), List.mem_filter.mpr ⟨?_, decide_eq_true loading⟩, rfl⟩)
    refine SMap.mem_of_get (d := Inst.free) fun free => ?_
    rw [State.slot, free] at loading
    exact absurd loading (by decide)
  · exact keeps _ s loading

theorem KeepsCores.abortLoading (s : State) : KeepsCores s s.abortLoading := by
  have aborts (l : List Nat) : ∀ u : State, KeepsCores u (l.foldl (fun t n => t.abortInst n 5 none) u) := by
    induction l with
    | nil => exact KeepsCores.refl
    | cons n l ih => exact fun u => (KeepsCores.abortInst u n 5 none).trans (ih _)
  exact aborts _ s

/-- The privileged mailboxes of a supervisor are no longer busy once it has lost control (R365). -/
theorem State.dropPrivileged_boxes (s : State) (b : Bool) {k : Nat}
    (busy : ((s.dropPrivileged b).zyn.boxes.find? fun x => x.1 = k).map (fun x => x.2.busy) = some true) :
    k / 64 ≠ (if b then 17 else 16) := by
  intro own
  obtain ⟨x, found, set⟩ := Option.map_eq_some_iff.mp busy
  have key : x.1 = k := by simpa using List.find?_some found
  obtain ⟨y, -, rfl⟩ := List.mem_map.mp (List.mem_of_mem_filter (List.mem_of_find?_eq_some found))
  dsimp only at set
  rw [show y.1 = k from key, if_pos own] at set
  exact Bool.noConfusion set

/-- Control has passed to supervisor `b` (R362, R365, R366). -/
structure TakesControl (s t : State) (cause check : Nat) (b : Bool) : Prop where
  control : t.supv.active = b ∧ t.supv.noSup = false ∧ t.supv.st b = .active
  switches : t.supv.switches = satAdd 16 s.supv.switches 1
  last : t.supv.lastCause = cause ∧ t.supv.lastTo = b ∧ t.supv.lastCheck = check
  loading (n : Nat) : (t.slot n).state ≠ .loading
  kept : t.part = s.part ∧ t.pwr = s.pwr ∧ t.img = s.img ∧ t.bkd = s.bkd ∧ t.gate = s.gate
  boxes (k : Nat) : (t.zyn.boxes.find? fun x => x.1 = k).map (fun x => x.2.busy) = some true → k / 64 ≠ (if b then 16 else 17)

/-- The registers of the supervisors after control has passed. -/
theorem State.takeControl_registers (s : State) (b : Bool) (cause check : Nat) :
    (s.takeControl b cause check).supv = { s.supv.setSt b .active with
      active := b, noSup := false, switches := satAdd 16 s.supv.switches 1, lastCause := cause, lastTo := b, lastCheck := check,
      lastGap := s.freeNat 16 } := by
  have kept (t : State) (c p0 p1 p2 : Nat) : (((t.dropPrivileged (!b)).abortLoading).offer c p0 p1 p2).supv = t.supv := by
    have frame : OnlyIn [.host, .twl, .dmk, .cal, .srg, .tul, .hsh, .ent, .zyn, .mem, .rcd, .blk, .fresh] t
        (((t.dropPrivileged (!b)).abortLoading).offer c p0 p1 p2) :=
      (((OnlyIn.refl _ t).dropPrivileged (!b) (by simp)).abortLoading (by simp)).offer c p0 p1 p2 (by simp)
    exact frame.supv_eq
  rw [State.takeControl]
  dsimp only
  rw [kept, (s.supv.setSt_rest b .active).2.2]

theorem State.takeControl_takes (s : State) (b : Bool) (cause check : Nat) :
    TakesControl s (s.takeControl b cause check) cause check b := by
  obtain ⟨t, ht⟩ : ∃ t, t = { s with
      fresh := s.fresh + 1
      supv := { s.supv.setSt b .active with
        active := b, noSup := false, switches := satAdd 16 (s.supv.setSt b .active).switches 1, lastCause := cause, lastTo := b,
        lastCheck := check, lastGap := s.freeNat 16 } } := ⟨_, rfl⟩
  obtain ⟨u, hu⟩ : ∃ u, u = (t.dropPrivileged (!b)).abortLoading := ⟨_, rfl⟩
  have told : OnlyIn [.rcd] u (s.takeControl b cause check) := by
    have taken : s.takeControl b cause check = u.offer 0x1105 u.supv.lastSw u.supv.csn 0 := by rw [hu, ht]; rfl
    simp [taken]
  have frame : OnlyIn [.host, .twl, .dmk, .cal, .srg, .tul, .hsh, .ent, .zyn, .supv, .mem, .rcd, .blk, .fresh] s (s.takeControl b cause check) :=
    (OnlyIn.refl _ s).takeControl b cause check (List.Subset.refl _)
  have boxes : (s.takeControl b cause check).zyn.boxes = (t.dropPrivileged (!b)).zyn.boxes := by
    rw [told.zyn_eq, hu]
    rw [(KeepsCores.abortLoading _).zyn]
  have registers := s.takeControl_registers b cause check
  refine ⟨?_, by rw [registers], by rw [registers]; exact ⟨rfl, rfl, rfl⟩, fun n => ?_,
    ⟨frame.part_eq, frame.pwr_eq, frame.img_eq, frame.bkd_eq, frame.gate_eq⟩, fun k busy => ?_⟩
  · rw [registers]
    exact ⟨rfl, rfl, s.supv.st_setSt_self b .active⟩
  · rw [State.slot, told.twl_eq, hu]
    exact State.abortLoading_slot _ n
  · rw [boxes] at busy
    have other := t.dropPrivileged_boxes (!b) busy
    cases b <;> exact other

/-- What follows a switch-over, and tells it, leaves it as it is. -/
theorem TakesControl.of_frame {s t u : State} {cause check : Nat} {b : Bool} (h : TakesControl s t cause check b)
    (frame : OnlyIn [.sys, .ent, .supv, .rcd, .blk, .fresh] t u)
    (same : u.supv.active = t.supv.active ∧ u.supv.noSup = t.supv.noSup ∧ u.supv.st b = t.supv.st b
      ∧ u.supv.switches = t.supv.switches ∧ u.supv.lastCause = t.supv.lastCause ∧ u.supv.lastTo = t.supv.lastTo
      ∧ u.supv.lastCheck = t.supv.lastCheck) : TakesControl s u cause check b := by
  obtain ⟨active, noSup, st, switches, lastCause, lastTo, lastCheck⟩ := same
  refine ⟨by rw [active, noSup, st]; exact h.control, switches.trans h.switches, by rw [lastCause, lastTo, lastCheck]; exact h.last,
    fun n => by rw [State.slot, frame.twl_eq]; exact h.loading n, ?_, fun k => by rw [frame.zyn_eq]; exact h.boxes k⟩
  rw [frame.part_eq, frame.pwr_eq, frame.img_eq, frame.bkd_eq, frame.gate_eq]
  exact h.kept

/-- A switch-over of a state whose supervisors' registers alone were written. -/
theorem TakesControl.of_supv {s t u : State} {cause check : Nat} {b : Bool} (h : TakesControl t u cause check b)
    (frame : OnlyIn [.supv] s t) (same : t.supv.switches = s.supv.switches) : TakesControl s u cause check b := by
  obtain ⟨control, switches, last, loading, kept, boxes⟩ := h
  rw [frame.part_eq, frame.pwr_eq, frame.img_eq, frame.bkd_eq, frame.gate_eq] at kept
  exact ⟨control, same ▸ switches, last, loading, kept, boxes⟩

/-- The registers that an accepted batch writes (R358, R359, R360). -/
theorem State.acceptBatch_registers (s : State) (x : Delta) : ∃ clean unclean mismatch,
    (s.acceptBatch x).supv = { s.supv with
      csn := x.csn, deltas := (x :: s.supv.deltas).take 4, clean := clean, unclean := unclean, mismatch := mismatch }
    ∧ (s.supv.st (!s.supv.active) = .shadowing →
        clean = satAdd 16 s.supv.clean 1 ∧ unclean = 0 ∨ clean = 0 ∧ unclean = s.supv.unclean + 1) := by
  have told (t : State) (c p0 p1 p2 : Nat) : (t.offer c p0 p1 p2).supv = t.supv :=
    ((OnlyIn.refl [.rcd] t).offer c p0 p1 p2 (List.Subset.refl _)).supv_eq
  unfold State.acceptBatch State.compareShadow
  dsimp only
  split
  · split
    · exact ⟨_, _, _, rfl, fun _ => .inl ⟨rfl, rfl⟩⟩
    · rw [told]
      exact ⟨_, _, _, rfl, fun _ => .inr ⟨rfl, rfl⟩⟩
  next quiet => exact ⟨_, _, _, rfl, fun shadows => absurd shadows quiet⟩

/-- The batch that is presented with a switch-over leaves it as it is (R362, R366). -/
theorem TakesControl.acceptBatch {s t : State} {cause check : Nat} {b : Bool} (h : TakesControl s t cause check b) (x : Delta) :
    TakesControl s (t.acceptBatch x) cause check b ∧ (∀ c, (t.acceptBatch x).supv.st c = t.supv.st c)
      ∧ (t.acceptBatch x).supv.csn = x.csn := by
  obtain ⟨clean, unclean, mismatch, registers, -⟩ := t.acceptBatch_registers x
  have st (c : Bool) : (t.acceptBatch x).supv.st c = t.supv.st c := by
    rw [registers]
    rfl
  refine ⟨h.of_frame ((OnlyIn.refl _ t).acceptBatch x (by simp)) ?_, st, by rw [registers]⟩
  rw [st, registers]
  exact ⟨rfl, rfl, rfl, rfl, rfl, rfl, rfl⟩

/-- What a supervisor that gives up leaves of its own state, before control passes (R361, R367). -/
theorem State.giveUp_first {s : State} {b : Bool} (first : s.thirdGiveup b = false) (check : Nat) (fence : Bool) :
    ∃ t, OnlyIn [.supv] s t ∧ t.supv.switches = s.supv.switches ∧ t.supv.st b = (if fence then .fenced else .selfTest)
      ∧ t.supv.st (!b) = s.supv.st (!b)
      ∧ s.giveUp b check fence = (if t.supv.st (!b) = .shadowing ∨ t.supv.st (!b) = .active then t.takeControl (!b) 1 check
          else t.loseControl).afterFence := by
  obtain ⟨u, hu⟩ : ∃ u, u = s.noteGiveup b := ⟨_, rfl⟩
  obtain ⟨t, ht⟩ : ∃ t, t = { u with supv := u.supv.setSt b (if fence then .fenced else .selfTest) } := ⟨_, rfl⟩
  have noted : OnlyIn [.supv] s u := by rw [hu]; simp
  have rest : u.supv.switches = s.supv.switches ∧ u.supv.st (!b) = s.supv.st (!b) := by
    rw [hu]
    cases b <;> exact ⟨rfl, rfl⟩
  refine ⟨t, noted.trans (by rw [ht]; simp), ?_, ?_, ?_, ?_⟩
  · rw [ht]
    exact (u.supv.setSt_rest b _).2.2.trans rest.1
  · rw [ht]
    exact u.supv.st_setSt_self b _
  · rw [ht]
    exact (u.supv.st_setSt_other b _).trans rest.2
  · rw [State.giveUp]
    simp only [first, Bool.or_false, Bool.false_eq_true, if_false]
    rw [ht, hu]

/-- Control passes from a supervisor that gives up to the one that shadows (R362). -/
theorem State.giveUp_takes {s : State} {b : Bool} (first : s.thirdGiveup b = false) (shadows : s.supv.st (!b) = .shadowing)
    (check : Nat) (fence : Bool) : TakesControl s (s.giveUp b check fence) 1 check (!b)
      ∧ (s.giveUp b check fence).supv.st b = if fence then .fenced else .selfTest := by
  obtain ⟨t, frame, switches, own, other, passes⟩ := State.giveUp_first first check fence
  have taken := (t.takeControl_takes (!b) 1 check).of_supv frame switches
  have kept : OnlyIn [.sys, .ent, .rcd, .blk] (t.takeControl (!b) 1 check) (s.giveUp b check fence) := by
    rw [passes, if_pos (.inl (other.trans shadows))]
    simp
  have supv := kept.supv_eq
  refine ⟨taken.of_frame (kept.mono (by simp)) (by rw [supv]; exact ⟨rfl, rfl, rfl, rfl, rfl, rfl, rfl⟩), ?_⟩
  rw [supv, t.takeControl_registers, ← own]
  have stays := t.supv.st_setSt_other (!b) .active
  rwa [Bool.not_not] at stays

/-- With no supervisor that can take it, nobody is in control after a give-up (R367). -/
theorem State.giveUp_loses {s : State} {b : Bool} (first : s.thirdGiveup b = false)
    (cannot : s.supv.st (!b) = .selfTest ∨ s.supv.st (!b) = .fenced) (check : Nat) :
    (s.giveUp b check false).supv.noSup = true ∧ (s.giveUp b check false).supv.st b = .selfTest
      ∧ (s.giveUp b check false).pwr = s.pwr ∧ (s.giveUp b check false).gate = s.gate := by
  obtain ⟨t, frame, -, own, other, passes⟩ := State.giveUp_first first check false
  obtain ⟨u, hu⟩ : ∃ u, u = { t with supv := { t.supv with noSup := true } } := ⟨_, rfl⟩
  have alone : ¬ (t.supv.st (!b) = .shadowing ∨ t.supv.st (!b) = .active) := by
    rw [other]
    rcases cannot with h | h <;> simp [h]
  have kept : OnlyIn [.sys, .img, .host, .twl, .dmk, .cal, .srg, .tul, .hsh, .ent, .zyn, .mem, .lace, .bkd, .lcs, .rcd, .blk, .fresh] u
      (s.giveUp b check false) := by
    rw [passes, if_neg alone, show t.loseControl = (u.offer 0x1104 u.supv.stA.code u.supv.stB.code 0).faultEvent 7 0 by rw [hu]; rfl]
    exact (((OnlyIn.refl _ u).offer _ _ _ _ (by simp)).faultEvent 7 0 (List.Subset.refl _)).afterFence (by simp)
  rw [kept.supv_eq, kept.pwr_eq, kept.gate_eq, hu]
  exact ⟨rfl, own, frame.pwr_eq, frame.gate_eq⟩

/-- Settles O48: by the states of the supervisors; a switch-over is `State.takeControl`, whose effect outlasts the batch presented with
it and the fence that follows it. -/
theorem supervisorsPassControl : Obligations.SupervisorsPassControl := by
  intro s b on passes
  have all {t : State} {cause check : Nat} {tgt : Bool} (h : TakesControl s t cause check tgt) : passes cause check tgt t := by
    obtain ⟨⟨active, noSup, st⟩, switches, ⟨lastCause, lastTo, lastCheck⟩, loading, ⟨part, pwr, img, bkd, gate⟩, boxes⟩ := h
    exact ⟨active, noSup, st, switches, lastCause, lastTo, lastCheck, loading, part, pwr, img, bkd, gate, boxes⟩
  refine ⟨fun d x active control first => ?accept, fun d active control none' => ?reject, fun d x first => ?first, fun x => ?accepted,
    fun d x shadows theirs some' clean first flag => ?reclaim, fun d x shadows first flag => ?missed,
    fun control active once => ⟨fun shadows => ⟨fun check one => ?checks, ?giveup, fun c fences => ?fence⟩, fun cannot => ?lose⟩,
    fun check shadows other applies => ?stand, fun shadows few => ?few, fun shadows x => ?compare, fun testing => ⟨?pass, ?fail⟩,
    fun c lifts fenced held => ?lift⟩
  case accept =>
    simp only [exec, execBatchPresent, on, active, first, control, if_true]
    rfl
  case reject =>
    simp only [exec, execBatchPresent, on, active, none', control, if_true]
    rfl
  case first =>
    unfold Worlds.firstOfCycle at first
    split at first
    next y parsed =>
      split at first
      next running =>
        obtain rfl : y = x := Option.some.inj first
        unfold parseDelta at parsed
        extract_lets n es at parsed
        split at parsed
        next fits =>
          obtain rfl := Option.some.inj parsed
          obtain ⟨length, -, count, -⟩ := fits
          exact ⟨running.1, rfl, running.2.1, count, by simp [es], length⟩
        next => exact absurd parsed (by simp)
      next => exact absurd first (by simp)
    next => exact absurd first (by simp)
  case accepted =>
    obtain ⟨clean, unclean, mismatch, registers, -⟩ := s.acceptBatch_registers x
    exact ⟨by rw [registers], by rw [registers], (OnlyIn.refl _ s).acceptBatch x (by simp)⟩
  case reclaim =>
    obtain ⟨t, ht⟩ : ∃ t, t = { s with supv := s.supv.setSt true .shadowing } := ⟨_, rfl⟩
    have may : s.supv.mayReclaim = true := by
      simp [Worlds.mayReclaim, show s.supv.stA = .shadowing from shadows, clean, theirs, some']
    have runs : exec (.batchPresent false d) s = .next ((t.takeControl false 3 0).acceptBatch x) := by
      simp only [exec, execBatchPresent, on, shadows, first]
      rw [if_neg (by decide), if_pos ⟨trivial, flag, may⟩, ht]
      rfl
    have taken : TakesControl s (t.takeControl false 3 0) 3 0 false := by
      refine (t.takeControl_takes false 3 0).of_supv (by simp [ht]) ?_
      rw [ht]
      exact (s.supv.setSt_rest true .shadowing).2.2
    obtain ⟨taken', st, csn⟩ := taken.acceptBatch x
    refine ⟨_, runs, all taken', ?_, csn⟩
    rw [st, t.takeControl_registers, ht]
    rfl
  case missed =>
    have runs : exec (.missedBatchTakeover d) s = .next ((s.takeControl (!s.supv.active) 2 0).acceptBatch x) := by
      simp only [exec, execMissedBatchTakeover, first]
      rw [if_pos ⟨on, shadows⟩, if_pos flag]
    obtain ⟨taken, -, csn⟩ := (s.takeControl_takes (!s.supv.active) 2 0).acceptBatch x
    exact ⟨_, runs, all taken, csn⟩
  case checks =>
    have applies : s.supv.checkApplies b check = true := by
      simp only [Worlds.checkApplies, active]
      exact List.contains_iff_mem.mpr one
    obtain ⟨taken, own⟩ := State.giveUp_takes once shadows check false
    exact ⟨_, congrArg Host.Outcome.next ((if_pos ⟨on, applies⟩).trans (if_pos control)), all taken, own⟩
  case giveup =>
    obtain ⟨taken, own⟩ := State.giveUp_takes once shadows 5 false
    exact ⟨_, congrArg Host.Outcome.next (if_pos ⟨on, control, active⟩), all taken, own⟩
  case fence =>
    obtain ⟨t, ht⟩ : ∃ t, t = { s with supv := s.supv.setFenceBit b true } := ⟨_, rfl⟩
    have same : t.supv.st = s.supv.st ∧ t.supv.switches = s.supv.switches ∧ t.thirdGiveup b = s.thirdGiveup b
        ∧ t.controls b = s.controls b := by
      rw [ht]
      cases b <;> exact ⟨funext fun c => by cases c <;> rfl, rfl, rfl, rfl⟩
    obtain ⟨st, switches, third, controls⟩ := same
    have fenced : s.fenceSup (.supervisor (!b)) b true = t.giveUp b 5 true := by
      rw [State.fenceSup, ← ht]
      simp only [if_true]
      rw [if_neg (by rw [st, active]; decide), if_pos (controls.trans control)]
    obtain ⟨taken, own⟩ := State.giveUp_takes (s := t) (third.trans once) (by rw [st, shadows]) 5 true
    have taken' := taken.of_supv (s := s) (by simp [ht]) switches
    have runs : exec c s = .next (t.giveUp b 5 true) := by
      rw [← fenced]
      rcases List.mem_cons.mp fences with one | other
      · obtain ⟨rfl, rfl⟩ := Prod.mk.inj one
        exact congrArg Host.Outcome.next (if_pos on)
      · obtain ⟨rfl, rfl⟩ := Prod.mk.inj (List.mem_singleton.mp other)
        exact congrArg Host.Outcome.next (if_pos on)
    exact ⟨_, runs, all taken', own⟩
  case lose =>
    exact ⟨_, congrArg Host.Outcome.next (if_pos ⟨on, control, active⟩), State.giveUp_loses once cannot 5⟩
  case stand =>
    have may : s.supv.checkApplies b check = true := by
      simp only [Worlds.checkApplies, shadows, Bool.or_eq_true]
      exact applies.imp (fun h => List.contains_iff_mem.mpr h) (fun h => by simpa using h)
    exact congrArg Host.Outcome.next ((if_pos ⟨on, may⟩).trans (if_neg (by simp [other])))
  case few =>
    have no : s.supv.checkApplies b 6 = false := by
      simp [Worlds.checkApplies, shadows, few]
    exact congrArg Host.Outcome.next (if_neg fun both => by simp [no] at both)
  case compare =>
    obtain ⟨clean, unclean, mismatch, registers, compared⟩ := s.acceptBatch_registers x
    rw [registers]
    have counts : satAdd 16 s.supv.clean 1 ≠ 0 := by
      unfold satAdd
      omega
    rcases compared shadows with ⟨rfl, rfl⟩ | ⟨rfl, rfl⟩
    · exact ⟨⟨_, rfl, .inr rfl⟩, fun zero => absurd zero counts, fun _ => rfl⟩
    · exact ⟨⟨_, rfl, .inl rfl⟩, fun _ => rfl, fun some' => absurd rfl some'⟩
  case pass =>
    refine ⟨congrArg Host.Outcome.next (if_pos ⟨on, testing⟩), ?_⟩
    cases b <;> exact ⟨rfl, rfl⟩
  case fail =>
    obtain ⟨t, ht⟩ : ∃ t, t = { s with supv := s.supv.setSt b .fenced } := ⟨_, rfl⟩
    have fenced : t.supv.st b = .fenced := by
      rw [ht]
      exact s.supv.st_setSt_self b .fenced
    have runs : exec (.supervisorSelftestDone b false) s = .next t.afterFence := by
      rw [ht]
      exact congrArg Host.Outcome.next (if_pos ⟨on, testing⟩)
    have kept : OnlyIn [.sys, .ent, .rcd, .blk] t t.afterFence := by simp
    exact ⟨_, runs, by rw [kept.supv_eq, fenced], State.afterFence_degrades (fenceStands_of_supervisor fenced)⟩
  case lift =>
    obtain ⟨t, ht⟩ : ∃ t, t = { s with supv := s.supv.setFenceBit b false } := ⟨_, rfl⟩
    have same : t.supv.st b = .fenced ∧ t.supv.held b = false := by
      rw [ht, ← fenced, ← held]
      cases b <;> exact ⟨rfl, rfl⟩
    have runs : exec c s = .next { t with supv := t.supv.setSt b .selfTest }.afterLift := by
      have lifted : s.fenceSup (.supervisor (!b)) b false = { t with supv := t.supv.setSt b .selfTest }.afterLift := by
        rw [State.fenceSup, ← ht]
        exact if_pos same
      rw [← lifted]
      rcases List.mem_cons.mp lifts with one | other
      · obtain ⟨rfl, rfl⟩ := Prod.mk.inj one
        exact congrArg Host.Outcome.next (if_pos on)
      · obtain ⟨rfl, rfl⟩ := Prod.mk.inj (List.mem_singleton.mp other)
        exact congrArg Host.Outcome.next (if_pos on)
    have kept (u : State) : OnlyIn [.sys, .ent, .rcd, .blk] u u.afterLift := by simp
    refine ⟨_, runs, ?_⟩
    dsimp only
    rw [(kept _).supv_eq]
    exact t.supv.st_setSt_self b .selfTest

end Sys2Proof.Machine
end

section
/-! PROOFS. Lemmas and obligations: memories and gates. -/

namespace Sys2Proof.Machine

set_option Elab.async false

/-! ## The memories (file 13) -/

/-! Check bits: they are linear, so the syndrome of an error depends on the inverted bits alone. -/

theorem dataBit_xor (b c : Byte) (k : Nat) : dataBit (b ^^^ c) k = xor (dataBit b k) (dataBit c k) := BitVec.getLsbD_xor

theorem xorBits_xor (b c : Byte) (ks : List Nat) : xorBits (b ^^^ c) ks = xor (xorBits b ks) (xorBits c ks) := by
  have step (ks : List Nat) : ∀ x y : Bool, ks.foldl (fun x k => xor x (dataBit (b ^^^ c) k)) (xor x y)
      = xor (ks.foldl (fun x k => xor x (dataBit b k)) x) (ks.foldl (fun x k => xor x (dataBit c k)) y) := by
    induction ks with
    | nil => exact fun _ _ => rfl
    | cons k ks ih =>
      intro x y
      have next : xor (xor x y) (dataBit (b ^^^ c) k) = xor (xor x (dataBit b k)) (xor y (dataBit c k)) := by
        rw [dataBit_xor]
        cases x <;> cases y <;> cases dataBit b k <;> cases dataBit c k <;> rfl
      rw [List.foldl_cons, next, ih]
      rfl
  exact step ks false false

/-- The five check bits side by side. -/
def packChecks (c0 c1 c2 c3 x : Bool) : BitVec 5 :=
  BitVec.ofNat 5 (flag c0 + 2 * flag c1 + 4 * flag c2 + 8 * flag c3 + 16 * flag (xor (xor (xor (xor x c0) c1) c2) c3))

theorem packChecks_xor : ∀ a b c d e a' b' c' d' e' : Bool, packChecks (xor a a') (xor b b') (xor c c') (xor d d') (xor e e')
    = packChecks a b c d e ^^^ packChecks a' b' c' d' e' := by decide

theorem checkBits_xor (b c : Byte) : checkBits (b ^^^ c) = checkBits b ^^^ checkBits c := by
  have packed (b : Byte) : checkBits b = packChecks (xorBits b [0, 1, 3, 4, 6]) (xorBits b [0, 2, 3, 5, 6]) (xorBits b [1, 2, 3, 7])
      (xorBits b [4, 5, 6, 7]) (xorBits b (List.range 8)) := rfl
  rw [packed, packed b, packed c]
  simp only [xorBits_xor]
  exact packChecks_xor _ _ _ _ _ _ _ _ _ _

theorem checkBits_diff (b d : Byte) : checkBits b ^^^ checkBits (b ^^^ d) = checkBits d := by
  rw [checkBits_xor, ← BitVec.xor_assoc, BitVec.xor_self, BitVec.zero_xor]

/-- One inverted bit of a byte or of its check bits is corrected, two are detected (R375). -/
theorem eccOf_corrects : (∀ i, i < 8 → eccOf (checkBits (1#8 <<< i)) = .corrected (1#8 <<< i))
    ∧ (∀ i, i < 5 → eccOf (1#5 <<< i) = .corrected 0)
    ∧ (∀ i, i < 8 → ∀ j, j < 8 → i ≠ j → eccOf (checkBits ((1#8 <<< i) ^^^ (1#8 <<< j))) = .uncorrectable)
    ∧ ∀ i, i < 8 → ∀ j, j < 5 → eccOf (checkBits (1#8 <<< i) ^^^ (1#5 <<< j)) = .uncorrectable := by decide

/-! Filters, fills and single bytes of the memories. -/

theorem SMap.get_filter_in {α : Type} (d : α) (p : Nat × α → Bool) {k : Nat} (m : SMap α) (stays : ∀ v, p (k, v) = true) :
    SMap.get d (m.filter p) k = SMap.get d m k := by
  induction m with
  | nil => rfl
  | cons e m ih =>
    obtain ⟨j, v⟩ := e
    by_cases here : j = k
    · subst here
      simp [stays, SMap.get]
    · by_cases kept : p (j, v) = true
      · simp [kept, SMap.get, here, ih]
      · simp [kept, SMap.get, here, ih]

theorem Memory.zeroRange_inside (m : Memory) {base len y : Nat} (inside : base ≤ y ∧ y < base + len) :
    (m.zeroRange base len).readByte y = 0 ∧ SMap.get 0 (m.zeroRange base len).chk y = 0 := by
  have out {α : Type} (v : α) : (decide ((y, v).1 < base) || decide (base + len ≤ (y, v).1)) = false := by
    simp; omega
  exact ⟨SMap.get_filter_out 0 _ m.bytes out, SMap.get_filter_out 0 _ m.chk out⟩

theorem Memory.zeroRange_outside (m : Memory) {base len y : Nat} (outside : y < base ∨ base + len ≤ y) :
    (m.zeroRange base len).readByte y = m.readByte y ∧ SMap.get 0 (m.zeroRange base len).chk y = SMap.get 0 m.chk y := by
  have stays {α : Type} (v : α) : (decide ((y, v).1 < base) || decide (base + len ≤ (y, v).1)) = true := by
    simpa using outside
  exact ⟨SMap.get_filter_in 0 _ m.bytes stays, SMap.get_filter_in 0 _ m.chk stays⟩

/-! A fill (R372). -/

theorem State.pageDenial_supervisor {s : State} (sound : s.gate.upset = []) (p : Nat) (write : Bool) :
    s.pageDenial .supervisor p write = 0 := by
  have none' : s.gate.mismatch p = none := by simp [Gates.mismatch, sound]
  simp [State.pageDenial, none']

theorem work_iff {a : Nat} : classOf a = some 1 ↔ 0x20000000 ≤ a ∧ a < 0x22800000 := by
  refine ⟨work_bounds, fun ⟨lo, hi⟩ => ?_⟩
  have found : regions.find? (fun r => decide (r.2.1 ≤ a) && decide (a < r.2.1 + r.2.2.1)) = some (1, 0x20000000, 0x2800000, 0x40000, 32) := by
    rw [regions, List.find?_cons_of_neg (by simp; omega), List.find?_cons_of_pos (by simp; omega)]
  rw [classOf, found]
  rfl

/-- The first `n` pages of a fill by a supervisor, whom the gates let through everywhere. -/
structure Filled (s t : State) (base n : Nat) : Prop where
  zero (y : Nat) : classOf y = some 1 → base ≤ y → y < base + 4096 * n → t.mem.readByte y = 0 ∧ SMap.get 0 t.mem.chk y = 0
  outside (y : Nat) : y < base ∨ base + 4096 * n ≤ y → t.mem.readByte y = s.mem.readByte y
  frame : OnlyIn [.mem] s t

theorem State.initPage_supervisor {s : State} (sound : s.gate.upset = []) (b : Bool) (a : Nat) :
    s.initPage (.supervisor b) a = if classOf a = some 1 then { s with mem := s.mem.zeroRange a 4096 } else s := by
  by_cases work : classOf a = some 1
  · obtain ⟨lo, hi⟩ := work_bounds work
    have page : pageOf a = some ((a - 0x20000000) / 4096) := by rw [pageOf, if_pos ⟨lo, hi⟩]
    rw [State.initPage]
    simp only [work, page, State.masterOf, State.pageDenial_supervisor sound]
    rfl
  · rw [State.initPage, if_pos work, if_neg work]

theorem Filled.pages {s : State} (sound : s.gate.upset = []) (b : Bool) {base : Nat} (aligned : base % 4096 = 0) (n : Nat) :
    Filled s ((List.range n).foldl (fun u k => u.initPage (.supervisor b) (base + 4096 * k)) s) base n := by
  induction n with
  | zero => exact ⟨fun y _ lo hi => absurd lo (by omega), fun _ _ => rfl, .refl _ s⟩
  | succ n ih =>
    rw [List.range_succ, List.foldl_append]
    obtain ⟨zero, outside, frame⟩ := ih
    obtain ⟨t, ht⟩ : ∃ t, t = (List.range n).foldl (fun u k => u.initPage (.supervisor b) (base + 4096 * k)) s := ⟨_, rfl⟩
    rw [← ht] at zero outside frame ⊢
    rw [List.foldl_cons, List.foldl_nil, State.initPage_supervisor (by rw [frame.gate_eq, sound])]
    split
    · refine ⟨fun y work lo hi => ?_, fun y out => ?_, frame.trans (by simp)⟩
      · by_cases here : base + 4096 * n ≤ y
        · rw [Nat.mul_succ, ← Nat.add_assoc] at hi
          exact t.mem.zeroRange_inside (base := base + 4096 * n) (len := 4096) ⟨here, hi⟩
        · obtain ⟨byte, chk⟩ := t.mem.zeroRange_outside (base := base + 4096 * n) (len := 4096) (y := y) (.inl (by omega))
          obtain ⟨byte', chk'⟩ := zero y work lo (by omega)
          exact ⟨byte.trans byte', chk.trans chk'⟩
      · exact (t.mem.zeroRange_outside (base := base + 4096 * n) (len := 4096) (by omega)).1.trans (outside y (by omega))
    next other =>
      refine ⟨fun y work lo hi => ?_, fun y out => outside y (by omega), frame⟩
      refine zero y work lo (Nat.lt_of_not_le fun here => other ?_)
      have := work_bounds work
      exact work_iff.mpr (by omega)

/-! The scrubber (R376, R377, R379). -/

@[simp] theorem Memory.cls_setCls_self (m : Memory) {k : Nat} (lt : k < 7) (f : MemClass → MemClass) : (m.setCls k f).cls k = f
    (m.cls k) := by
  simp [Memory.cls, Memory.setCls, lt]

/-- What the scrubber notes leaves the bytes, their check bits and the counts of bytes rewritten. -/
structure Noted (s t : State) : Prop where
  bytes : t.mem.bytes = s.mem.bytes
  chk : t.mem.chk = s.mem.chk
  rewritten (k : Nat) : (t.mem.cls k).rewritten = (s.mem.cls k).rewritten
  frame : OnlyIn [.mem, .rcd, .fresh] s t

theorem Noted.refl (s : State) : Noted s s := ⟨rfl, rfl, fun _ => rfl, .refl _ s⟩

theorem Noted.trans {s t u : State} (h : Noted s t) (g : Noted t u) : Noted s u :=
  ⟨g.bytes.trans h.bytes, g.chk.trans h.chk, fun k => (g.rewritten k).trans (h.rewritten k), h.frame.trans g.frame⟩

theorem Noted.of_frame {s t : State} (h : OnlyIn [.rcd, .fresh] s t) : Noted s t :=
  ⟨by rw [h.mem_eq], by rw [h.mem_eq], fun _ => by rw [h.mem_eq], h.mono (by simp)⟩

theorem Memory.setCls_rewritten (m : Memory) (k : Nat) {f : MemClass → MemClass} (same : ∀ c, (f c).rewritten = c.rewritten) (j : Nat) :
    ((m.setCls k f).cls j).rewritten = (m.cls j).rewritten := by
  unfold Memory.cls Memory.setCls
  by_cases here : k = j
  · subst here
    by_cases lt : k < 7
    · simp [lt, same, Memory.cls]
    · simp [lt]
  · simp [here]

theorem Noted.noteUncorrectable (s : State) (a source master : Nat) : Noted s (s.noteUncorrectable a source master) := by
  unfold State.noteUncorrectable
  extract_lets k syn m t
  have logged : Noted s t :=
    ⟨rfl, rfl, s.mem.setCls_rewritten k (f := fun c => { c with uncorr := satAdd 16 c.uncorr 1 }) fun _ => rfl, by simp [t]⟩
  exact logged.trans (.of_frame (by simp))

theorem Noted.noteCorrected (s : State) (k n word : Nat) (foreground : Bool) : Noted s (s.noteCorrected k n word foreground) := by
  unfold State.noteCorrected
  split
  · exact .refl s
  · extract_lets m q t
    have counted : Noted s t :=
      ⟨rfl, rfl, s.mem.setCls_rewritten k (f := fun c => { c with corrected := satAdd 32 c.corrected n }) fun _ => rfl, by simp [t]⟩
    exact counted.trans (.of_frame (OnlyIn.foldl _ (fun u _ => by simp) _ _))

theorem Noted.endBank (s : State) (k bank : Nat) : Noted s (s.endBank k bank) := by
  have frame : OnlyIn [.mem, .rcd, .fresh] s (s.endBank k bank) := by simp
  unfold State.endBank at frame ⊢
  extract_lets c left at frame ⊢
  by_cases ends : left = []
  · rw [if_pos ends] at frame ⊢
    exact ⟨rfl, rfl, s.mem.setCls_rewritten k (f := fun c => { c with lapLeft := [], forced := false, lastMs := s.freeNat 16 }) fun _ => rfl, frame⟩
  · rw [if_neg ends] at frame ⊢
    exact ⟨rfl, rfl, s.mem.setCls_rewritten k (f := fun c => { c with lapLeft := left }) fun _ => rfl, frame⟩

theorem Noted.scrubNext (s : State) (k bank base size w : Nat) : Noted s (s.scrubNext k bank base size w) := by
  unfold State.scrubNext
  extract_lets p _ q t
  have moved : Noted s t := ⟨rfl, rfl, fun _ => rfl, by simp [t]⟩
  split
  · exact ⟨rfl, rfl, fun _ => rfl, by simp⟩
  · split
    · exact moved.trans (Noted.endBank t k bank)
    · exact moved

/-- A byte whose error is corrected is rewritten, another stays (R379). -/
def State.scrubByte (s : State) (a : Nat) : State :=
  match eccOf (SMap.get 0 s.mem.chk a) with
  | .corrected x => s.poke a ((s.peek a 1).map (· ^^^ x))
  | _ => s

theorem State.scrubByte_low {s : State} {a : Nat} (low : a < 0x40000000) :
    (∀ x, eccOf (SMap.get 0 s.mem.chk a) = .corrected x → (s.scrubByte a).mem.readByte a = s.mem.readByte a ^^^ x
        ∧ SMap.get 0 (s.scrubByte a).mem.chk a = 0)
      ∧ (∀ y, y ≠ a → (s.scrubByte a).mem.readByte y = s.mem.readByte y ∧ SMap.get 0 (s.scrubByte a).mem.chk y = SMap.get 0 s.mem.chk y)
      ∧ (s.scrubByte a).mem.classes = s.mem.classes ∧ OnlyIn [.mem] s (s.scrubByte a) := by
  unfold State.scrubByte
  split
  next x corrected =>
    have writes : s.poke a ((s.peek a 1).map (· ^^^ x)) = { s with mem := s.mem.writeByte a (s.mem.readByte a ^^^ x) } := by
      rw [State.poke_low low, State.peek_low low]
      rfl
    rw [writes]
    refine ⟨fun y same => ?_, fun y other => ⟨Memory.readByte_writeByte_other _ other _, SMap.get_drop_other _ other _⟩, rfl, by simp⟩
    obtain rfl := Ecc.corrected.inj (corrected.symm.trans same)
    exact ⟨Memory.readByte_writeByte_self _ _ _, SMap.get_drop_self _ _ _⟩
  next none' => exact ⟨fun x same => absurd same (none' x), fun _ _ => ⟨rfl, rfl⟩, rfl, .refl _ s⟩

/-- The first `n` bytes of a word are scrubbed, the other bytes stand. -/
structure Scrubbed (s t : State) (w n : Nat) : Prop where
  fixed (i : Nat) (x : Byte) : i < n → eccOf (SMap.get 0 s.mem.chk (w + i)) = .corrected x →
    t.mem.readByte (w + i) = s.mem.readByte (w + i) ^^^ x ∧ SMap.get 0 t.mem.chk (w + i) = 0
  outside (y : Nat) : y < w ∨ w + n ≤ y → t.mem.readByte y = s.mem.readByte y ∧ SMap.get 0 t.mem.chk y = SMap.get 0 s.mem.chk y
  classes : t.mem.classes = s.mem.classes
  frame : OnlyIn [.mem] s t

theorem Scrubbed.bytes (s : State) {w : Nat} (n : Nat) (low : w + n < 0x40000000) :
    Scrubbed s ((List.range n).foldl (fun u i => u.scrubByte (w + i)) s) w n := by
  induction n with
  | zero => exact ⟨fun i x lt => absurd lt (Nat.not_lt_zero i), fun _ _ => ⟨rfl, rfl⟩, rfl, .refl _ s⟩
  | succ n ih =>
    rw [List.range_succ, List.foldl_append]
    obtain ⟨fixed, outside, classes, frame⟩ := ih (by omega)
    obtain ⟨t, ht⟩ : ∃ t, t = (List.range n).foldl (fun u i => u.scrubByte (w + i)) s := ⟨_, rfl⟩
    rw [← ht] at fixed outside classes frame ⊢
    obtain ⟨now, others, classes', frame'⟩ := t.scrubByte_low (a := w + n) (by omega)
    obtain ⟨byte, chk⟩ := outside (w + n) (.inr le_rfl)
    refine ⟨fun i x lt corrected => ?_, fun y out => ?_, classes'.trans classes, frame.trans frame'⟩
    · by_cases last : i = n
      · subst last
        obtain ⟨fix, clean⟩ := now x (by rw [chk, corrected])
        exact ⟨fix.trans (by rw [byte]), clean⟩
      · obtain ⟨fix, clean⟩ := fixed i x (by omega) corrected
        obtain ⟨stays, stays'⟩ := others (w + i) (by omega)
        exact ⟨stays.trans fix, stays'.trans clean⟩
    · obtain ⟨stays, stays'⟩ := others y (by omega)
      obtain ⟨byte', chk'⟩ := outside y (by omega)
      exact ⟨stays.trans byte', stays'.trans chk'⟩

theorem State.scrub_eq {s : State} (apart : s.mem.ecctEn = false) (k w : Nat) : ∃ u, Noted s u
    ∧ s.scrub k w = { (List.range 8).foldl (fun u i => u.scrubByte (w + i)) u with
        mem := ((List.range 8).foldl (fun u i => u.scrubByte (w + i)) u).mem.setCls k fun c =>
          { c with rewritten := satAdd 16 c.rewritten (s.mem.badSingles w 8) } } := by
  obtain ⟨v, hv⟩ : ∃ v, v = match s.mem.badByte w 8 with
    | some x => s.noteUncorrectable x 1 29
    | none => s := ⟨_, rfl⟩
  have noted : Noted s v := by
    rw [hv]
    split
    · exact Noted.noteUncorrectable s _ 1 29
    · exact .refl s
  have singles : v.mem.badSingles w 8 = s.mem.badSingles w 8 := by rw [Memory.badSingles, noted.chk, Memory.badSingles]
  refine ⟨v.noteCorrected k (s.mem.badSingles w 8) w false, noted.trans (.noteCorrected v _ _ _ _), ?_⟩
  rw [← singles, State.scrub, if_neg (by simp [apart])]
  rw [hv]
  rfl

/-! What failures leave of the registers of the memories (R377, R382, R394). -/

/-- Of the memories, bytes and their check bits alone differ. -/
structure KeepsRegisters (s t : State) : Prop where
  mem : t.mem = { s.mem with bytes := t.mem.bytes, chk := t.mem.chk }

theorem KeepsRegisters.refl (s : State) : KeepsRegisters s s := ⟨rfl⟩

theorem KeepsRegisters.trans {s t u : State} (h : KeepsRegisters s t) (g : KeepsRegisters t u) : KeepsRegisters s u := ⟨by rw [g.mem, h.mem]⟩

theorem KeepsRegisters.of_frame {l : List Area} {s t : State} (h : OnlyIn l s t) (out : .mem ∉ l := by simp) : KeepsRegisters s t :=
  ⟨by rw [h.mem_eq out]⟩

theorem KeepsRegisters.foldl {α : Type} {f : State → α → State} (hf : ∀ u x, KeepsRegisters u (f u x)) (l : List α) :
    ∀ s : State, KeepsRegisters s (l.foldl f s) := by
  induction l with
  | nil => exact KeepsRegisters.refl
  | cons x l ih => exact fun s => (hf s x).trans (ih (f s x))

theorem KeepsRegisters.dropJobs (s : State) (p : EngSrc → Bool) : KeepsRegisters s (s.dropJobs p) := ⟨(DropsWork.dropJobs s p).mem⟩

theorem KeepsRegisters.complete (s : State) (r : Req) (status detail reason info outLen : Nat) (out : Bytes) :
    KeepsRegisters s (s.complete r status detail reason info outLen out) := ⟨(DropsWork.complete s r status detail reason info outLen out).mem⟩

theorem KeepsRegisters.setSlot (s : State) (n : Nat) (i : Inst) : KeepsRegisters s (s.setSlot n i) := ⟨rfl⟩

theorem KeepsRegisters.endUnserved (s : State) (j : Job) : KeepsRegisters s (s.endUnserved j) := by
  unfold State.endUnserved
  dsimp only
  split
  next => exact (KeepsRegisters.dropJobs s _).trans (.complete _ _ _ _ _ _ _ _)
  next n _ _ =>
    split
    · exact .refl s
    · exact ((KeepsRegisters.dropJobs s _).trans (.setSlot _ n _)).trans (.complete _ _ _ _ _ _ _ _)

theorem KeepsRegisters.endUnservedAll (s : State) : KeepsRegisters s s.endUnservedAll :=
  KeepsRegisters.foldl (fun t _ => KeepsRegisters.foldl (fun v j => KeepsRegisters.endUnserved v j) _ t) _ s

theorem KeepsRegisters.fenceInst (s : State) (u : EngUnit) (n : Nat) : KeepsRegisters s (s.fenceInst u n) := by
  obtain ⟨i, hi⟩ : ∃ i, i = { s.inst u n with fenced := true, fencing := false, lifting := false } := ⟨_, rfl⟩
  have set : KeepsRegisters s (s.setInst u n i).afterFence :=
    .of_frame (((OnlyIn.refl [.sys, .cal, .srg, .tul, .hsh, .ent, .rcd, .blk] s).setInst u n i (by simp)).afterFence (by simp))
  have stalls (t : State) : KeepsRegisters t (t.stallWaiting u) := .of_frame ((OnlyIn.refl _ t).stallWaiting u (List.Subset.refl _))
  rw [State.fenceInst, ← hi]
  exact (set.trans (.endUnservedAll _)).trans (stalls _)

theorem KeepsRegisters.fenceBank (s : State) (a : Nat) : KeepsRegisters s (s.fenceBank a) := by
  unfold State.fenceBank
  split
  · split
    · exact .fenceInst s _ _
    · exact .refl s
  · exact .refl s

theorem KeepsRegisters.faultEvent (s : State) (k n : Nat) : KeepsRegisters s (s.faultEvent k n) := ⟨(KeepsUnits.raiseAlarm s _ _ false).mem⟩

theorem KeepsRegisters.takeControl (s : State) (b : Bool) (cause check : Nat) : KeepsRegisters s (s.takeControl b cause check) := by
  unfold State.takeControl
  extract_lets w s1 s2
  have set : KeepsRegisters s s1 := ⟨rfl⟩
  have dropped : KeepsRegisters s1 (s1.dropPrivileged (!b)) := ⟨(KeepsRegisters.dropJobs s1 _).mem⟩
  have aborted (t : State) : KeepsRegisters t t.abortLoading :=
    KeepsRegisters.foldl (fun t n => ⟨(DropsWork.abortInst t n 5 none).mem⟩) _ t
  have told (t : State) (c p0 p1 p2 : Nat) : KeepsRegisters t (t.offer c p0 p1 p2) := .of_frame ((OnlyIn.refl _ t).offer _ _ _ _ (List.Subset.refl _))
  exact ((set.trans dropped).trans (aborted _)).trans (told _ _ _ _ _)

theorem KeepsRegisters.giveUp (s : State) (b : Bool) (check : Nat) (fence : Bool) : KeepsRegisters s (s.giveUp b check fence) := by
  have degrades (t : State) : KeepsRegisters t t.afterFence := .of_frame ((OnlyIn.refl _ t).afterFence (List.Subset.refl _))
  have told (t : State) (c p0 p1 p2 : Nat) : KeepsRegisters t (t.offer c p0 p1 p2) := .of_frame ((OnlyIn.refl _ t).offer _ _ _ _ (List.Subset.refl _))
  have loses (t : State) : KeepsRegisters t t.loseControl :=
    (KeepsRegisters.trans (t := { t with supv := { t.supv with noSup := true } }) ⟨rfl⟩ (told _ _ _ _ _)).trans (.faultEvent _ 7 0)
  unfold State.giveUp
  extract_lets third s1 w s2 s3
  have noted : KeepsRegisters s s1 := .of_frame ((OnlyIn.refl _ s).noteGiveup b (List.Subset.refl _))
  have set : KeepsRegisters s1 s2 := ⟨rfl⟩
  have passed : KeepsRegisters s2 s3 := by
    unfold s3
    split
    · exact .takeControl s2 _ _ _
    · exact loses s2
  exact ((noted.trans set).trans passed).trans (degrades _)

theorem KeepsRegisters.failSupPart (s : State) (a : Nat) : KeepsRegisters s (s.failSupPart a) := by
  unfold State.failSupPart
  split
  · unfold State.failSupervisor
    split
    · split
      · exact .giveUp s _ _ _
      · exact ⟨rfl⟩
    · exact .refl s
  · exact .refl s

/-- An alarm whose class neither erases nor locks is noted alone (R403). -/
theorem State.raiseAlarm_minor {s : State} {mon : Nat} (minor : (s.alarmCfg mon).cls < 2) (data : Nat) (stim : Bool) :
    OnlyIn [.sys, .lace, .bkd, .rcd] s (s.raiseAlarm mon data stim) := by
  have quiet (t : State) : t.classAction (s.alarmCfg mon).cls = t := by
    rw [State.classAction, if_neg (by omega), if_neg (by omega)]
  unfold State.raiseAlarm
  extract_lets m
  split
  · split
    · exact .refl _ s
    · simp
  · rw [quiet]
    simp

/-- What the log of an uncorrectable error writes of the memories (R377). -/
theorem State.noteUncorrectable_mem (s : State) (a source master : Nat) : (s.noteUncorrectable a source master).mem = {
    s.mem.setCls ((classOf a).getD 0) fun c => { c with uncorr := satAdd 16 c.uncorr 1 } with
      elogAddr := a - a % 8
      elogInfo := elogInfo ((classOf a).getD 0) source master (a % 8) (SMap.get 0 s.mem.chk a).toNat false } := by
  have told (t : State) (c p0 p1 p2 : Nat) : OnlyIn [.rcd] t (t.offer c p0 p1 p2) := (OnlyIn.refl _ t).offer c p0 p1 p2 (List.Subset.refl _)
  rw [State.noteUncorrectable, (told _ _ _ _ _).mem_eq]

/-- A tested region that fails is logged, and its bytes stand where no key is erased for it (R382). -/
theorem State.regionFails_logs (s : State) (a : Nat) :
    (s.regionFails a).mem.testing = s.mem.testing ∧ (s.regionFails a).mem.fails = satAdd 8 s.mem.fails 1
      ∧ (s.regionFails a).mem.elogAddr = a - a % 8
      ∧ (classOf a = some 1 → (s.alarmCfg 0x805).cls < 2 → (s.regionFails a).mem.bytes = s.mem.bytes) := by
  have told (t : State) (c p0 p1 p2 : Nat) : OnlyIn [.rcd] t (t.offer c p0 p1 p2) := (OnlyIn.refl _ t).offer c p0 p1 p2 (List.Subset.refl _)
  obtain ⟨u, hu⟩ : ∃ u, u = s.noteUncorrectable a 2 30 := ⟨_, rfl⟩
  obtain ⟨v, hv⟩ : ∃ v, v = { u with mem := { u.mem with fails := satAdd 8 u.mem.fails 1 } }.offer 0x0C03 a ((bankOf a).getD 0) 0 := ⟨_, rfl⟩
  have fails : s.regionFails a = ((v.faultEvent 5 0).fenceBank a).failSupPart a := by rw [hv, hu]; rfl
  have logged : u.mem.testing = s.mem.testing ∧ u.mem.fails = s.mem.fails ∧ u.mem.elogAddr = a - a % 8 ∧ u.mem.bytes = s.mem.bytes
      ∧ u.lace = s.lace := by
    rw [hu, State.noteUncorrectable_mem]
    exact ⟨rfl, rfl, rfl, rfl, ((OnlyIn.refl _ s).noteUncorrectable a 2 30 (List.Subset.refl _)).lace_eq⟩
  obtain ⟨testing, count, addr, bytes, lace⟩ := logged
  have mem : v.mem = { u.mem with fails := satAdd 8 u.mem.fails 1 } := by rw [hv, (told _ _ _ _ _).mem_eq]
  have kept := (((KeepsRegisters.faultEvent v 5 0).trans (.fenceBank _ a)).trans (.failSupPart _ a)).mem
  rw [← fails] at kept
  refine ⟨?_, ?_, ?_, fun work minor => ?_⟩
  · rw [kept, mem, ← testing]
  · rw [kept, mem, ← count]
  · rw [kept, mem, ← addr]
  · obtain ⟨lo, hi⟩ := work_bounds work
    have nowhere : operandInst a = none := by rw [operandInst, if_neg (by omega), if_neg (by omega), if_neg (by omega)]
    have bank (t : State) : t.fenceBank a = t := by rw [State.fenceBank, nowhere]
    have part (t : State) : t.failSupPart a = t := by rw [State.failSupPart, if_neg (by simp [work])]
    have cfg : (v.alarmCfg 0x805).cls < 2 := by
      rw [State.alarmCfg, hv, (told _ _ _ _ _).lace_eq, lace]
      exact minor
    rw [fails, part, bank, State.faultEvent, (State.raiseAlarm_minor cfg _ _).mem_eq, mem]
    exact bytes

/-! ECC test mode (R378). -/

theorem Memory.rawByte_self (m : Memory) (a : Nat) (b : Byte) (chk : BitVec 5) :
    (m.rawByte a b chk).readByte a = b ∧ (m.rawByte a b chk).storedChk a = chk := by
  have byte : (m.rawByte a b chk).readByte a = b := Memory.readByte_writeByte_self m a b
  refine ⟨byte, ?_⟩
  rw [Memory.storedChk, byte, show SMap.get 0 (m.rawByte a b chk).chk a = chk ^^^ checkBits b from SMap.get_set_self _ _ _ _,
    BitVec.xor_comm chk, ← BitVec.xor_assoc, BitVec.xor_self, BitVec.zero_xor]

theorem Memory.rawByte_other (m : Memory) {a y : Nat} (other : y ≠ a) (b : Byte) (chk : BitVec 5) :
    (m.rawByte a b chk).readByte y = m.readByte y ∧ (m.rawByte a b chk).storedChk y = m.storedChk y := by
  have byte : (m.rawByte a b chk).readByte y = m.readByte y := Memory.readByte_writeByte_other m other b
  have checks : SMap.get 0 (m.rawByte a b chk).chk y = SMap.get 0 m.chk y :=
    (SMap.get_set_other 0 _ other _).trans (SMap.get_drop_other 0 other _)
  exact ⟨byte, by rw [Memory.storedChk, Memory.storedChk, byte, checks]⟩

/-- The first `n` bytes of a word stand as stored in ECC test mode. -/
structure RawWritten (m m' : Memory) (w : Nat) (d : Nat → Byte) (c : Nat → BitVec 5) (n : Nat) : Prop where
  stored (k : Nat) : k < n → m'.readByte (w + k) = d k ∧ m'.storedChk (w + k) = c k
  outside (y : Nat) : y < w ∨ w + n ≤ y → m'.readByte y = m.readByte y
  registers : m' = { m with bytes := m'.bytes, chk := m'.chk }

theorem RawWritten.bytes (m : Memory) (w : Nat) (d : Nat → Byte) (c : Nat → BitVec 5) (n : Nat) :
    RawWritten m ((List.range n).foldl (fun m k => m.rawByte (w + k) (d k) (c k)) m) w d c n := by
  induction n with
  | zero => exact ⟨fun k lt => absurd lt (Nat.not_lt_zero k), fun _ _ => rfl, rfl⟩
  | succ n ih =>
    rw [List.range_succ, List.foldl_append]
    obtain ⟨stored, outside, registers⟩ := ih
    obtain ⟨x, hx⟩ : ∃ x, x = (List.range n).foldl (fun m k => m.rawByte (w + k) (d k) (c k)) m := ⟨_, rfl⟩
    rw [← hx] at stored outside registers ⊢
    refine ⟨fun k lt => ?_, fun y out => ?_, ?_⟩
    · by_cases last : k = n
      · subst last
        exact x.rawByte_self _ _ _
      · obtain ⟨byte, chk⟩ := x.rawByte_other (a := w + n) (y := w + k) (by omega) (d n) (c n)
        obtain ⟨byte', chk'⟩ := stored k (by omega)
        exact ⟨byte.trans byte', chk.trans chk'⟩
    · exact (x.rawByte_other (a := w + n) (by omega) (d n) (c n)).1.trans (outside y (by omega))
    · rw [registers]
      rfl

theorem leNat_lanes (x : W64) : BitVec.ofNat 64 (leNat ((List.range 8).map fun k => x.extractLsb' (8 * k) 8)) = x := by
  refine BitVec.eq_of_toNat_eq ?_
  have lt := x.isLt
  simp only [List.range, List.range.loop, List.map, leNat, BitVec.extractLsb'_toNat, BitVec.toNat_ofNat, Nat.shiftRight_eq_div_pow]
  omega

theorem checks_lanes (x : BitVec 40) :
    BitVec.ofNat 40 ((List.range 8).foldl (fun n k => n + (x.extractLsb' (5 * k) 5).toNat * 2 ^ (5 * k)) 0) = x := by
  have lanes (m : Nat) : (List.range m).foldl (fun n k => n + (x.extractLsb' (5 * k) 5).toNat * 2 ^ (5 * k)) 0 = x.toNat % 2 ^ (5 * m) := by
    induction m with
    | zero => simp [Nat.mod_one]
    | succ m ih =>
      rw [List.range_succ, List.foldl_append, ih, List.foldl_cons, List.foldl_nil, BitVec.extractLsb'_toNat, Nat.shiftRight_eq_div_pow,
        Nat.mul_succ, Nat.pow_add, Nat.mod_mul, Nat.mul_comm (2 ^ (5 * m))]
  rw [lanes]
  exact BitVec.eq_of_toNat_eq (by simp [Nat.mod_eq_of_lt x.isLt])

theorem ZCore.enterTrap_cur (c : ZCore) (cls cause slot : Nat) (tpc taddr : W32) :
    (c.enterTrap c.world cls cause slot tpc taddr).cur.tcause = cause ∧ (c.enterTrap c.world cls cause slot tpc taddr).cur.intrap = true
      ∧ (c.enterTrap c.world cls cause slot tpc taddr).cur.taddr = taddr := by
  unfold ZCore.enterTrap ZCore.cur
  cases c.world <;> exact ⟨rfl, rfl, rfl⟩

/-- The scrubber's visit of a word in a bank (R379). -/
theorem scrubVisit_word {s : State} {bank base size : Nat} (range : bankRange bank = some (base, size)) (class' : bankClass bank = some 1)
    (on : s.onMain = true) (enabled : s.mem.scrubEn.getLsbD 1 = true) (apart : s.mem.ecctEn = false)
    (work : classOf (s.mem.scrubWord bank base) = some 1) :
    let w := s.mem.scrubWord bank base
    Completes (.scrubVisit bank) s fun t =>
      (∀ i x, i < 8 → eccOf (SMap.get 0 s.mem.chk (w + i)) = .corrected x →
        t.mem.readByte (w + i) = s.mem.readByte (w + i) ^^^ x ∧ SMap.get 0 t.mem.chk (w + i) = 0)
      ∧ (∀ y, y < w ∨ w + 8 ≤ y → t.mem.readByte y = s.mem.readByte y)
      ∧ (t.mem.cls 1).rewritten = satAdd 16 (s.mem.cls 1).rewritten (s.mem.badSingles w 8) ∧ OnlyIn [.mem, .rcd, .fresh] s t := by
  intro w
  have runs : exec (.scrubVisit bank) s = .next ((s.scrub 1 w).scrubNext 1 bank base size w) := by
    simp only [exec, execScrubVisit, range, class']
    rw [if_pos ⟨on, enabled⟩]
  obtain ⟨u, noted, scrub⟩ := State.scrub_eq apart 1 w
  have low : w + 8 < 0x40000000 := by have := work_bounds work; omega
  obtain ⟨fixed, outside, classes, frame⟩ := Scrubbed.bytes u 8 low
  obtain ⟨v, hv⟩ : ∃ v, v = (List.range 8).foldl (fun u i => u.scrubByte (w + i)) u := ⟨_, rfl⟩
  obtain ⟨t, ht⟩ : ∃ t, t = { v with mem := v.mem.setCls 1 fun c => { c with rewritten := satAdd 16 c.rewritten (s.mem.badSingles w 8) } } :=
    ⟨_, rfl⟩
  rw [← hv] at scrub fixed outside classes frame
  rw [← ht] at scrub
  have next := Noted.scrubNext t 1 bank base size w
  have counted : OnlyIn [.mem] v t := by simp [ht]
  have last (y : Nat) : (t.scrubNext 1 bank base size w).mem.readByte y = v.mem.readByte y
      ∧ SMap.get 0 (t.scrubNext 1 bank base size w).mem.chk y = SMap.get 0 v.mem.chk y := by
    rw [Memory.readByte, next.bytes, next.chk, ht]
    exact ⟨rfl, rfl⟩
  have first (y : Nat) : u.mem.readByte y = s.mem.readByte y ∧ SMap.get 0 u.mem.chk y = SMap.get 0 s.mem.chk y := by
    rw [Memory.readByte, noted.bytes, noted.chk]
    exact ⟨rfl, rfl⟩
  refine ⟨_, runs, ?_⟩
  rw [scrub]
  refine ⟨fun i x lt corrected => ?_, fun y out => ?_, ?_, ?_⟩
  · obtain ⟨fix, clean⟩ := fixed i x lt ((congrArg eccOf (first (w + i)).2).trans corrected)
    exact ⟨(last (w + i)).1.trans (fix.trans (congrArg (· ^^^ x) (first (w + i)).1)), (last (w + i)).2.trans clean⟩
  · exact (last y).1.trans ((outside y out).1.trans (first y).1)
  · rw [next.rewritten, ht, Memory.cls_setCls_self v.mem (by decide), Memory.cls, classes, ← noted.rewritten 1]
    rfl
  · exact (noted.frame.trans (frame.mono (by simp))).trans ((counted.mono (by simp)).trans next.frame)

/-- Settles O49: check bits by their linearity, and each agent by what it writes of the memories. -/
theorem memoriesAndTheirAgents : Obligations.MemoriesAndTheirAgents := by
  refine ⟨fun b i j i8 j8 => ?_, fun s who => ⟨fun v secure idle go some' most => ?init, fun r b run own aligned sound => ?filled,
    fun n w p run work sound denied => ?skipped, fun bank base size range class' on enabled apart work => scrubVisit_word range class' on enabled apart work,
    fun k on k7 enabled rest => ?force, fun y pass tests none' => ⟨?ends, ?passes, ?fails, fun fresh => ?asks⟩,
    fun v control idle go => ⟨fun free => ?march, fun barred => ?refused⟩, fun r base size pass k run range => ?marched,
    fun v control => ⟨fun allowed => ?point, fun other => ?away⟩, fun control on => ?raw, fun v secure => ?clear,
    fun m y on m16 started runs outside => ?integrity⟩⟩
  · obtain ⟨single, check, double, mixed⟩ := eccOf_corrects
    refine ⟨?_, check i, fun ne => ?_, fun j5 => ?_⟩
    · rw [checkBits_diff]
      exact single i i8
    · rw [BitVec.xor_assoc b, checkBits_diff]
      exact double i i8 j j8 ne
    · rw [BitVec.xor_assoc, BitVec.xor_comm (1#5 <<< j), ← BitVec.xor_assoc, checkBits_diff]
      exact mixed i i8 j j5
  case init =>
    have fits : v.getLsbD 31 = true ∧ 1 ≤ bits v.toNat 0 14 ∧ bits v.toNat 0 14 ≤ 10240 := by simpa [bits] using ⟨go, some', most⟩
    have runs : exec (.memInit who v) s = .next { s with mem := { s.mem with
        initPages := bits v.toNat 0 14, initRun := some { who := who, base := s.mem.initBase, pages := bits v.toNat 0 14 } } } :=
      congrArg Host.Outcome.next ((if_pos secure).trans ((if_neg (by simp [idle])).trans (if_pos fits)))
    simpa [bits] using runs
  case filled =>
    obtain ⟨t, ht⟩ : ∃ t, t = (List.range r.pages).foldl (fun u k => u.initPage r.who (r.base + 4096 * k)) s := ⟨_, rfl⟩
    have filled : Filled s t r.base r.pages := by
      rw [ht, own]
      exact Filled.pages sound b aligned r.pages
    have runs : exec .memInitDone s = .next (if r.base = 0x20000000 ∧ r.pages = 10240 then
        { t with mem := { t.mem with initRun := none, init := t.mem.init ||| 2#7, scrubEn := t.mem.scrubEn ||| 2#7 } }
      else { t with mem := { t.mem with initRun := none } }) := by
      simp only [exec, execMemInitDone, run, ← ht]
    refine ⟨_, runs, ?_⟩
    obtain ⟨zero, outside, frame⟩ := filled
    by_cases whole : r.base = 0x20000000 ∧ r.pages = 10240
    · rw [if_pos whole]
      exact ⟨zero, outside, rfl, fun _ _ => by simp, frame.trans (by simp)⟩
    · rw [if_neg whole]
      exact ⟨zero, outside, rfl, fun at' all => absurd ⟨at', all⟩ whole, frame.trans (by simp)⟩
  case skipped =>
    obtain ⟨lo, hi⟩ := work_bounds work
    have page : pageOf p = some ((p - 0x20000000) / 4096) := by rw [pageOf, if_pos ⟨lo, hi⟩]
    obtain ⟨d, hd⟩ : ∃ d, d = s.pageDenial (.core w (s.coreColour n w)) ((p - 0x20000000) / 4096) true := ⟨_, rfl⟩
    rw [page, Option.getD_some] at denied
    have refused : ¬ d = 0 := hd ▸ denied
    have other : d ≠ 5 := by
      have none' : s.gate.mismatch ((p - 0x20000000) / 4096) = none := by simp [Gates.mismatch, sound]
      rw [hd, State.pageDenial]
      simp only [none', Option.isSome_none, Bool.false_eq_true, if_false]
      split
      · decide
      · split <;> decide
    have noted : s.initPage (.worker n w) p = s.noteDenial n w true false p d := by
      rw [State.initPage]
      simp only [work, page, State.masterOf, ← hd]
      exact if_neg refused
    have runs : exec .memInitDone s = .next { s.noteDenial n w true false p d with
        mem := { (s.noteDenial n w true false p d).mem with initRun := none } } := by
      simp only [exec, execMemInitDone, run]
      rw [if_neg (by simp)]
      simp only [List.range_one, List.foldl_cons, List.foldl_nil, Nat.mul_zero, Nat.add_zero, noted]
    obtain ⟨frame, -⟩ := s.noteDenial_frame n w true p other
    refine ⟨_, runs, by rw [frame.mem_eq], ?_, ?_, (frame.mono (by simp)).trans (by simp)⟩
    · rw [State.noteDenial_sound s n w true p other, ((OnlyIn.refl _ _).offerBurst _ _ _ _ (List.Subset.refl _)).gate_eq]
      rfl
    · rw [State.noteDenial_sound s n w true p other, ((OnlyIn.refl _ _).offerBurst _ _ _ _ (List.Subset.refl _)).gate_eq]
      rfl
  case force =>
    refine ⟨_, congrArg Host.Outcome.next (if_pos ⟨on, k7, enabled, rest⟩), ?_, ?_, rfl, by simp⟩
    · rw [Memory.cls_setCls_self s.mem k7]
    · rw [Memory.cls_setCls_self s.mem k7]
  case ends =>
    have alone : ¬ (8 ≤ (s.mem.testing.filter (· != y)).length ∨ (s.mem.testing.filter (· != y)).any (fun x => bankOf x == bankOf y)) := by
      simp [none']
    refine ⟨_, congrArg Host.Outcome.next ((if_pos tests).trans ((if_neg alone).trans (if_neg Bool.false_ne_true))), ?_, rfl, rfl, by simp⟩
    simp [none']
  case passes =>
    have alone : ¬ (8 ≤ (s.mem.testing.filter (· != y)).length ∨ (s.mem.testing.filter (· != y)).any (fun x => bankOf x == bankOf y)) := by
      simp [none']
    refine ⟨_, congrArg Host.Outcome.next ((if_pos tests).trans ((if_neg alone).trans ((if_pos rfl).trans (if_pos rfl)))), ?_, rfl, rfl, by simp⟩
    simp [none']
  case fails =>
    have alone : ¬ (8 ≤ (s.mem.testing.filter (· != y)).length ∨ (s.mem.testing.filter (· != y)).any (fun x => bankOf x == bankOf y)) := by
      simp [none']
    obtain ⟨testing, count, addr, bytes⟩ := State.regionFails_logs
      { s with mem := { s.mem with testing := s.mem.testing.filter (· != y), forcedTests := s.mem.forcedTests.filter (· != y) } } y
    refine ⟨_, congrArg Host.Outcome.next ((if_pos tests).trans ((if_neg alone).trans ((if_pos rfl).trans (if_neg Bool.false_ne_true)))),
      testing.trans ?_, count, addr, bytes⟩
    simp [none']
  case asks => exact congrArg Host.Outcome.next (if_pos ⟨tests, fresh⟩)
  case march =>
    have bank : bits v.toNat 0 10 = v.toNat % 1024 := by simp [bits]
    have open' : s.marchBarred (bits v.toNat 0 10) = false := bank ▸ free
    refine ⟨_, congrArg Host.Outcome.next ((State.byControl_of_inControl control _).trans
      ((if_neg (by simp [go, idle])).trans (if_neg (by simpa using open')))), ?_, rfl, by simp⟩
    rw [← bank]
  case refused =>
    have bank : bits v.toNat 0 10 = v.toNat % 1024 := by simp [bits]
    have shut : s.marchBarred (bits v.toNat 0 10) = true := bank ▸ barred
    exact ⟨_, congrArg Host.Outcome.next ((State.byControl_of_inControl control _).trans
      ((if_neg (by simp [go, idle])).trans (if_pos shut))), idle, rfl, by simp⟩
  case marched =>
    obtain ⟨m, hm⟩ : ∃ m, m = if r.preserve then s.mem else s.mem.zeroRange base size := ⟨_, rfl⟩
    obtain ⟨d, hd⟩ : ∃ d, d = if r.preserve = false ∧ bankClass r.bank = some 5 then s.rcd.clearBank r.bank else s.rcd := ⟨_, rfl⟩
    obtain ⟨t, ht⟩ : ∃ t, t = { s with rcd := d, mem := { m with march := none, marchPass := pass } } := ⟨_, rfl⟩
    obtain ⟨u, hu⟩ : ∃ u, u = { t with mem := { t.mem with failWord := k % 65536 } }.noteUncorrectable (base + 8 * (k % 65536)) 3 30 := ⟨_, rfl⟩
    have runs : exec (.marchDone pass k) s = .next (if pass then t else u) := by
      rw [hu, ht, hm, hd]
      simp only [exec, execMarchDone, run, State.marchFails, range]
    have frame : OnlyIn [.mem, .rcd] s t := by simp [ht]
    have failed : u.mem.march = none ∧ u.mem.marchPass = pass ∧ u.mem.bytes = m.bytes ∧ u.mem.failWord = k % 65536
        ∧ u.mem.elogAddr = base + 8 * (k % 65536) - (base + 8 * (k % 65536)) % 8 := by
      rw [hu, State.noteUncorrectable_mem, ht]
      exact ⟨rfl, rfl, rfl, rfl, rfl⟩
    have ends : (if pass then t else u).mem.march = none ∧ (if pass then t else u).mem.marchPass = pass
        ∧ (if pass then t else u).mem.bytes = m.bytes ∧ OnlyIn [.mem, .rcd] s (if pass then t else u) := by
      cases pass with
      | true => exact ⟨by rw [ht]; rfl, by rw [ht]; rfl, by rw [ht]; rfl, frame⟩
      | false =>
        obtain ⟨march, passed, bytes, -, -⟩ := failed
        have told : OnlyIn [.mem, .rcd] t u := by rw [hu]; exact OnlyIn.noteUncorrectable (by simp) _ _ _ (by simp)
        exact ⟨march, passed, bytes, frame.trans told⟩
    obtain ⟨march, passed, bytes, frame'⟩ := ends
    refine ⟨_, runs, march, passed, fun kept => ?_, fun kept whole => ?_, fun fails => ?_, fun destroys => ⟨fun y lo hi => ?_, fun y out => ?_⟩, frame'⟩
    · rw [bytes, hm, if_pos kept]
    · rw [whole, if_pos rfl, ht, hd, if_neg (by simp [kept])]
    · obtain ⟨-, -, -, word, addr⟩ := failed
      rw [fails, if_neg Bool.false_ne_true]
      exact ⟨word, addr⟩
    · rw [Memory.readByte, bytes, hm, if_neg (by simp [destroys])]
      exact (s.mem.zeroRange_inside ⟨lo, hi⟩).1
    · rw [Memory.readByte, bytes, hm, if_neg (by simp [destroys])]
      exact (s.mem.zeroRange_outside out).1
  case point => exact congrArg Host.Outcome.next ((State.byControl_of_inControl control _).trans (if_pos allowed))
  case away => exact congrArg Host.Outcome.next ((State.byControl_of_inControl control _).trans (if_neg (Bool.eq_false_iff.mp other)))
  case raw =>
    have written := RawWritten.bytes s.mem s.mem.ecctAddr (fun k => s.mem.ecctData.extractLsb' (8 * k) 8)
      (fun k => s.mem.ecctChk.extractLsb' (5 * k) 5) 8
    obtain ⟨m, hm⟩ : ∃ m, m = (List.range 8).foldl (fun m k => m.rawByte (s.mem.ecctAddr + k) (s.mem.ecctData.extractLsb' (8 * k) 8)
      (s.mem.ecctChk.extractLsb' (5 * k) 5)) s.mem := ⟨_, rfl⟩
    have runs : exec (.eccTestWrite who) s = .next { s with mem := m } := by
      rw [hm]
      exact congrArg Host.Outcome.next ((State.byControl_of_inControl control _).trans (if_pos on))
    rw [← hm] at written
    obtain ⟨stored, outside, registers⟩ := written
    have same : m.ecctAddr = s.mem.ecctAddr ∧ m.ecctEn = true :=
      ⟨(congrArg Memory.ecctAddr registers).trans rfl, (congrArg Memory.ecctEn registers).trans on⟩
    obtain ⟨t, ht⟩ : ∃ t : State, t = { s with mem := m } := ⟨_, rfl⟩
    have control' : t.inControl who = true := by
      rw [ht]
      exact control
    have mem : t.mem = m := by rw [ht]
    rw [← mem] at stored outside same
    rw [← ht] at runs
    refine ⟨_, runs, by simp [ht], outside, _, congrArg Host.Outcome.next ((State.byControl_of_inControl control' _).trans (if_pos same.2)),
      ?_, ?_, rfl, by simp⟩
    · have bytes : t.mem.read t.mem.ecctAddr 8 = (List.range 8).map fun k => s.mem.ecctData.extractLsb' (8 * k) 8 := by
        rw [same.1]
        exact List.map_congr_left fun k lt => (stored k (List.mem_range.mp lt)).1
      show BitVec.ofNat 64 (leNat (t.mem.read t.mem.ecctAddr 8)) = _
      rw [bytes, leNat_lanes]
    · have checks : (List.range 8).foldl (fun n k => n + (t.mem.storedChk (t.mem.ecctAddr + k)).toNat * 2 ^ (5 * k)) 0
          = (List.range 8).foldl (fun n k => n + (s.mem.ecctChk.extractLsb' (5 * k) 5).toNat * 2 ^ (5 * k)) 0 := by
        rw [same.1]
        exact List.foldl_ext _ _ 0 fun n k lt => by rw [(stored k (List.mem_range.mp lt)).2]
      show BitVec.ofNat 40 ((List.range 8).foldl (fun n k => n + (t.mem.storedChk (t.mem.ecctAddr + k)).toNat * 2 ^ (5 * k)) 0) = _
      rw [checks, checks_lanes]
  case clear =>
    refine ⟨_, congrArg Host.Outcome.next (if_pos secure), fun k => ?_, rfl, by simp⟩
    have kept (p : Nat → Bool) : SMap.get 0 (SMap.keep (fun k _ => p k) s.mem.conf) k = if p k then SMap.get 0 s.mem.conf k else 0 := by
      by_cases stays : p k = true
      · rw [if_pos stays]
        exact SMap.get_filter_in 0 _ _ fun _ => stays
      · rw [if_neg stays]
        exact SMap.get_filter_out 0 _ _ fun _ => by simpa using stays
    rw [kept]
    have master : bits v.toNat 0 5 = v.toNat % 32 := by simp [bits]
    have class' : bits v.toNat 5 3 = v.toNat / 32 % 8 := by simp [bits, Nat.shiftRight_eq_div_pow]
    rw [master, class']
    cases v.getLsbD 9
    · cases v.getLsbD 8
      · by_cases here : k = 8 * (v.toNat % 32) + v.toNat / 32 % 8 <;> simp [here]
      · by_cases here : k / 8 = v.toNat % 32 <;> simp [here]
    · simp
  case integrity =>
    obtain ⟨u, hu⟩ : ∃ u, u = { s with mem := { s.mem with
        elogAddr := y - y % 8, elogInfo := elogInfo ((classOf y).getD 0) 0 m (y % 8) 0 true } } := ⟨_, rfl⟩
    obtain ⟨d, hd⟩ : ∃ d, d = (s.core m).enterTrap (s.core m).world 0 0x07 0 ((s.core m).cur.pc.setWidth 32) (BitVec.ofNat 32 y) := ⟨_, rfl⟩
    obtain ⟨v, hv⟩ : ∃ v, v = (u.setCore m d).offer 0x0C04 y m 0 := ⟨_, rfl⟩
    have fails : u.failAt m y = u.setCore m d := by
      have core : u.core m = s.core m := by rw [hu]; rfl
      rw [State.failAt, if_pos (by omega), core, if_neg (by omega : ¬ 16 ≤ m), if_pos ⟨started, runs⟩, State.exception, core, if_neg (by simp [outside]), hd]
    have ends : exec (.transactionIntegrityFailure m y) s = .next (v.faultEvent 6 0) := by
      rw [hv, ← fails, hu]
      exact congrArg Host.Outcome.next (if_pos ⟨on, by omega⟩)
    have told : OnlyIn [.rcd] (u.setCore m d) v := by simp [hv]
    have kept := KeepsUnits.raiseAlarm v (0x800 + 6) (0 % 256) false
    have core : (v.faultEvent 6 0).core m = d := by
      rw [State.core, show (v.faultEvent 6 0).zyn.cores = v.zyn.cores from kept.cores, told.zyn_eq]
      exact State.core_setCore_self u m d
    obtain ⟨cause, trap, addr⟩ := (s.core m).enterTrap_cur 0 0x07 0 ((s.core m).cur.pc.setWidth 32) (BitVec.ofNat 32 y)
    refine ⟨_, ends, ?_, by rw [core, hd]; exact cause, by rw [core, hd]; exact trap, by rw [core, hd]; exact addr, fun minor => ?_⟩
    · rw [show (v.faultEvent 6 0).mem = _ from kept.mem, told.mem_eq, hu]
      rfl
    · have cfg : (v.alarmCfg 0x806).cls < 2 := by
        rw [State.alarmCfg, told.lace_eq, hu]
        exact minor
      rw [show (v.faultEvent 6 0).mem = v.mem from (State.raiseAlarm_minor cfg _ _).mem_eq, told.mem_eq, hu]
      rfl

/-! ## The gates (file 13, Gates) -/

/-! Alarms that are raised (R403). -/

/-- The response to an alarm leaves what it was raised with. -/
theorem State.classAction_alarms (s : State) (cls : Nat) :
    ((s.classAction cls).lace.last = s.lace.last ∧ (s.classAction cls).lace.alarms = s.lace.alarms)
      ∧ ∀ k, ((s.classAction cls).monitor k).standing = (s.monitor k).standing ∧ ((s.classAction cls).monitor k).raised = (s.monitor k).raised := by
  have cut := KeepsAlarms.cutStimulus s
  unfold State.classAction
  split
  · obtain ⟨t, ht⟩ : ∃ t, t = s.cutStimulus.eraseLogged 1 := ⟨_, rfl⟩
    have erased : t.lace = s.cutStimulus.lace := by rw [ht]; exact ((OnlyIn.refl _ _).eraseLogged 1 (List.Subset.refl _)).lace_eq
    have locked := KeepsAlarms.lockSequence t 7
    rw [← ht]
    refine ⟨?_, fun k => ?_⟩
    · rw [locked.alarms.1, locked.alarms.2, erased]
      exact cut.alarms
    · rw [(locked.monitors k).1, (locked.monitors k).2, State.monitor, erased]
      exact cut.monitors k
  · split
    · have locked := cut.trans (KeepsAlarms.lockSequence _ 7)
      exact ⟨locked.alarms, locked.monitors⟩
    · exact ⟨⟨rfl, rfl⟩, fun _ => ⟨rfl, rfl⟩⟩

theorem State.noteAlarm_lace (s : State) (mon cls data : Nat) (stim : Bool) : (s.noteAlarm mon cls data stim).lace = { s.lace with
    monitors := SMap.set Monitor.rest s.lace.monitors mon { s.monitor mon with
      standing := some cls, condition := if stim then (s.monitor mon).condition else !isInstant mon, raised := satAdd 16 (s.monitor mon).raised 1 }
    last := mon, lastClass := cls, lastStim := stim, alarms := satAdd 16 s.lace.alarms 1 } := by
  unfold State.noteAlarm
  extract_lets m now s1 param _ _ s2
  have told : OnlyIn [.bkd, .rcd] s2 ((s2.offer 0x0D01 mon param cls).logEvent mon param) := by simp
  exact told.lace_eq

/-- An alarm of a monitor that has none standing and is not suppressed is raised with its class. -/
theorem State.raiseAlarm_raises {s : State} {mon : Nat} (idle : (s.monitor mon).standing = none)
    (heard : (s.monitor mon).suppressed = false)
    (data : Nat) (stim : Bool) :
    s.raiseAlarm mon data stim = (s.noteAlarm mon (s.alarmCfg mon).cls data stim).classAction (s.alarmCfg mon).cls
      ∧ ((s.raiseAlarm mon data stim).monitor mon).standing = some (s.alarmCfg mon).cls
      ∧ ((s.raiseAlarm mon data stim).monitor mon).raised = satAdd 16 (s.monitor mon).raised 1
      ∧ (s.raiseAlarm mon data stim).lace.last = mon ∧ (s.raiseAlarm mon data stim).lace.alarms = satAdd 16 s.lace.alarms 1 := by
  have raises : s.raiseAlarm mon data stim = (s.noteAlarm mon (s.alarmCfg mon).cls data stim).classAction (s.alarmCfg mon).cls :=
    if_neg (by simp [idle, heard])
  obtain ⟨⟨last, alarms⟩, monitors⟩ := (s.noteAlarm mon (s.alarmCfg mon).cls data stim).classAction_alarms (s.alarmCfg mon).cls
  obtain ⟨standing, raised⟩ := monitors mon
  have lace := s.noteAlarm_lace mon (s.alarmCfg mon).cls data stim
  refine ⟨raises, ?_, ?_, ?_, ?_⟩ <;> rw [raises]
  · rw [standing, State.monitor, lace]
    dsimp only
    rw [SMap.get_set_self]
  · rw [raised, State.monitor, lace]
    dsimp only
    rw [SMap.get_set_self]
  · rw [last, lace]
  · rw [alarms, lace]

/-! Pages and grants. -/

theorem SMap.get_append_left {α : Type} (d : α) {a b : SMap α} {k : Nat} (none' : ∀ e ∈ b, e.1 ≠ k) : SMap.get d
    (a ++ b) k = SMap.get d a k := by
  induction a with
  | nil =>
    rw [List.nil_append, SMap.get]
    induction b with
    | nil => rfl
    | cons e b ih =>
      obtain ⟨other, rest⟩ := List.forall_mem_cons.mp none'
      rw [SMap.get, if_neg other]
      exact ih rest
  | cons e a ih => rw [List.cons_append, SMap.get, SMap.get, ih]

theorem SMap.get_append_right {α : Type} (d : α) {a b : SMap α} {k : Nat} (none' : ∀ e ∈ a, e.1 ≠ k) : SMap.get d
    (a ++ b) k = SMap.get d b k := by
  induction a with
  | nil => rfl
  | cons e a ih =>
    obtain ⟨other, rest⟩ := List.forall_mem_cons.mp none'
    rw [List.cons_append, SMap.get, if_neg other]
    exact ih rest

/-- The pages of a rule write take its value, and the others keep theirs (R391). -/
theorem Gates.putPages_pages (g : Gates) (base n : Nat) (x : PageTag) (p : Nat) :
    (base ≤ p → p < base + n → SMap.get none (g.putPages base n x).pages p = some x)
      ∧ (p < base ∨ base + n ≤ p → SMap.get none (g.putPages base n x).pages p = SMap.get none g.pages p) := by
  obtain ⟨a, ha⟩ : ∃ a, a = SMap.keep (fun k _ => decide (k < base)) g.pages := ⟨_, rfl⟩
  obtain ⟨m, hm⟩ : ∃ m, m = (List.range n).map (fun k => (base + k, some x)) := ⟨_, rfl⟩
  obtain ⟨c, hc⟩ : ∃ c, c = SMap.keep (fun k _ => decide (base + n ≤ k)) g.pages := ⟨_, rfl⟩
  have pages : (g.putPages base n x).pages = a ++ m ++ c := by rw [ha, hm, hc]; rfl
  have below : ∀ e ∈ a, e.1 < base := by simp [ha, SMap.keep]
  have above : ∀ e ∈ c, base + n ≤ e.1 := by simp [hc, SMap.keep]
  have middle : ∀ e ∈ m, base ≤ e.1 ∧ e.1 < base + n := by simp [hm]
  have apart (e : Nat × Option PageTag) (mem : e ∈ m ++ c) : base ≤ e.1 := by
    rcases List.mem_append.mp mem with inside | beyond
    · exact (middle e inside).1
    · exact (Nat.le_add_right _ _).trans (above e beyond)
  have filled : base ≤ p → p < base + n → SMap.get none m p = some x := by
    intro lo hi
    have entries : m = ((List.range n).map (base + ·)).map (fun i => (i, some x)) ++ [] := by simp [hm]
    rw [entries, SMap.get_map_append, if_pos]
    exact List.mem_map.mpr ⟨p - base, List.mem_range.mpr (by omega), by omega⟩
  rw [pages, List.append_assoc]
  refine ⟨fun lo hi => ?_, fun out => ?_⟩
  · rw [SMap.get_append_right _ fun e mem => by have := below e mem; omega, SMap.get_append_left _ fun e mem => by have := above e mem; omega]
    exact filled lo hi
  · rcases out with lt | ge
    · rw [SMap.get_append_left _ fun e mem => by have := apart e mem; omega, ha]
      exact SMap.get_filter_in _ _ _ fun _ => decide_eq_true lt
    · rw [SMap.get_append_right _ fun e mem => by have := below e mem; omega, SMap.get_append_right _ fun e mem => by have := middle e mem; omega, hc]
      exact SMap.get_filter_in _ _ _ fun _ => decide_eq_true ge

theorem State.pageTag_set {s : State} {p : Nat} {x : PageTag} (set : SMap.get none s.gate.pages p = some x) : s.pageTag p = x := by
  rw [State.pageTag, set]

/-- A page whose entry no rule write has changed has the colour and tag it had. -/
theorem State.pageTag_congr {s : State} {g : Gates} {p : Nat} (same : SMap.get none g.pages p = SMap.get none s.gate.pages p) :
    ({ s with gate := g } : State).pageTag p = s.pageTag p := by
  rw [State.pageTag, State.pageTag, show ({ s with gate := g } : State).gate.pages = g.pages from rfl, same]
  rfl

/-- What an accepted rule write of pages leaves of the gates (R391, R393). -/
theorem State.ruleWrite_pages {s : State} {b n : Nat} {x : PageTag} (accepted : s.psetRefused b n x = false) :
    let t := s.ruleWrite (.pages b n x)
    (∀ p, b ≤ p → p < b + n → t.pageTag p = x) ∧ (∀ p, p < b ∨ b + n ≤ p → t.pageTag p = s.pageTag p)
      ∧ t.gate.epoch = wrapAdd 32 s.gate.epoch 1 ∧ t.gate.busy = true ∧ t.gate.refused = false ∧ t.gate.grants = s.gate.grants
      ∧ t.gate.upset = s.gate.upset.filter (fun e => e != GateEntry.epoch && !GateEntry.within b n e) ∧ OnlyIn [.gate] s t := by
  intro t
  have writes : t = { s with gate := (s.gate.putPages b n x).ruled } := if_neg (by simp [accepted])
  have pages (p : Nat) := s.gate.putPages_pages b n x p
  rw [writes]
  refine ⟨fun p lo hi => State.pageTag_set ((pages p).1 lo hi), fun p out => State.pageTag_congr ((pages p).2 out), rfl, rfl, rfl, rfl, ?_, by simp⟩
  exact List.filter_filter

/-- Settles O50: rule writes by `State.ruleWrite`, denials by the order in which a gate compares, permits and grants. -/
theorem rulesOfTheGates : Obligations.RulesOfTheGates := by
  intro s who control
  refine ⟨fun v go => ?pset,
    fun v g go from' tgt read write valid => ⟨fun free => ?grant, fun busy => ?queued⟩, fun busy empty => ?idle,
    fun b n x l busy waiting accepted => ?next, fun p e upset m wr => ?differs, fun p e upset only => ?compared,
    fun w k p wr sound => ?core, fun p wr sound => ⟨?sup, fun w secret => ?debug⟩, fun n w wr a reason sound => ?denied,
    fun n w wr a => ?mismatch⟩
  case pset =>
    intro x b
    refine ⟨fun free accepted => ?pages, fun free refused => ?refused, fun busy => ?waits, fun bad => ?bad⟩
    case pages =>
      obtain ⟨t, ht⟩ : ∃ t, t = { s with gate := { s.gate with psetColour := x.colour, psetTag := x.tag } } := ⟨_, rfl⟩
      have runs : exec (.gatePset who v) s = .next (t.ruleWrite (.pages b s.gate.pcount x)) := by
        rw [ht]
        exact congrArg Host.Outcome.next ((State.byControl_of_inControl control _).trans ((if_pos go).trans (if_neg (by simp [free]))))
      have accepted' : t.psetRefused b s.gate.pcount x = false := by rw [ht]; exact accepted
      obtain ⟨inside, outside, epoch, busy, none', grants, upset, frame⟩ := State.ruleWrite_pages accepted'
      have tag (p : Nat) : t.pageTag p = s.pageTag p := by rw [ht]; rfl
      refine ⟨_, runs, inside, fun p out => (outside p out).trans (tag p), epoch.trans (by rw [ht]), busy, none', grants.trans (by rw [ht]),
        upset.trans (by rw [ht]), ?_⟩
      have shown : OnlyIn [.gate] s t := by simp [ht]
      exact shown.trans frame
    case refused =>
      have runs : exec (.gatePset who v) s = .next { s with gate := { s.gate with psetColour := x.colour, psetTag := x.tag, refused := true } } :=
        congrArg Host.Outcome.next ((State.byControl_of_inControl control _).trans ((if_pos go).trans ((if_neg (by simp [free])).trans
          (if_pos refused))))
      exact ⟨_, runs, fun p => State.pageTag_congr rfl, rfl, rfl, by simp⟩
    case waits =>
      have runs : exec (.gatePset who v) s = .next { s with gate := { s.gate with
          psetColour := x.colour, psetTag := x.tag, queued := s.gate.queued ++ [.pages b s.gate.pcount x] } } :=
        congrArg Host.Outcome.next ((State.byControl_of_inControl control _).trans ((if_pos go).trans (if_pos busy)))
      exact ⟨_, runs, fun p => State.pageTag_congr rfl, rfl, busy, rfl, by simp⟩
    case bad =>
      rw [State.psetRefused]
      rcases bad with many | none' | any
      · simp [many]
      · simp [none']
      · simp [any]
  case grant =>
    have runs : exec (.gateGset who v) s = .next ({ s with gate := { s.gate with gset := v &&& 0x7FFFF#32 } }.ruleWrite (.grant s.gate.gsel v)) :=
      congrArg Host.Outcome.next ((State.byControl_of_inControl control _).trans ((if_pos go).trans (if_neg (by simp [free]))))
    have named : grantOf v = g := by
      obtain ⟨f, t, r, w, ok⟩ := g
      rw [grantOf, ← read, ← write, ← valid, Grant.mk.injEq]
      exact ⟨Eq.trans (by simp [bits]) from'.symm, Eq.trans (by simp [bits, Nat.shiftRight_eq_div_pow]) tgt.symm, rfl, rfl, rfl⟩
    refine ⟨_, runs, ?_, fun k other => ?_, rfl, rfl, rfl, by simp [State.ruleWrite]⟩
    · exact (SMap.get_set_self _ _ _ _).trans named
    · exact SMap.get_set_other _ _ other _
  case queued =>
    exact ⟨_, congrArg Host.Outcome.next ((State.byControl_of_inControl control _).trans ((if_pos go).trans (if_pos busy))), rfl, rfl, by simp⟩
  case idle =>
    simp only [exec, execRuleWriteComplete, busy, if_true, empty, State.issueQueued]
  case next =>
    obtain ⟨t, ht⟩ : ∃ t, t = { s with gate := { s.gate with busy := false } } := ⟨_, rfl⟩
    have accepted' : t.psetRefused b n x = false := by rw [ht]; exact accepted
    obtain ⟨inside, outside, epoch, taken, -, -, -, frame⟩ := State.ruleWrite_pages accepted'
    obtain ⟨u, hu⟩ : ∃ u, u = t.ruleWrite (.pages b n x) := ⟨_, rfl⟩
    rw [← hu] at inside outside epoch taken frame
    have issued : State.issueQueued (.pages b n x :: l) t = { u with gate := { u.gate with queued := l } } := by
      rw [State.issueQueued, ← hu, if_pos taken]
    have runs : exec .ruleWriteComplete s = .next { u with gate := { u.gate with queued := l } } := by
      rw [← issued, ← waiting, ht]
      exact congrArg Host.Outcome.next (if_pos busy)
    have tag (p : Nat) : t.pageTag p = s.pageTag p := by rw [ht]; rfl
    have shown : OnlyIn [.gate] s t := by simp [ht]
    exact ⟨_, runs, taken, rfl, epoch.trans (by rw [ht]), fun p lo hi => inside p lo hi, fun p out => (outside p out).trans (tag p),
      (shown.trans frame).trans (by simp)⟩
  case differs => exact if_pos (by rw [upset]; rfl)
  case compared =>
    refine List.find?_isSome.mpr ⟨e, upset, ?_⟩
    cases e with
    | page q => exact decide_eq_true (only q rfl)
    | grant _ => rfl
    | epoch => rfl
  case core =>
    have permits : tagPermits (s.pageTag p).tag w wr = true ↔ w = .secure ∨ (s.pageTag p).tag = 0#2 ∨ ((s.pageTag p).tag = 2#2 ∧ wr = false) := by
      cases w <;> simp [tagPermits]
    rw [← permits, State.pageDenial]
    simp only [sound, Option.isSome_none, Bool.false_eq_true, if_false]
    by_cases open' : tagPermits (s.pageTag p).tag w wr = true
    · rw [if_neg (by simp [open'])]
      by_cases own : k = (s.pageTag p).colour.toNat ∨ s.granted k (s.pageTag p).colour.toNat wr = true
      · simp [open', own]
      · rw [if_neg own]
        simp [own]
    · rw [if_pos (by simpa using open')]
      simp [open']
  case sup => rw [State.pageDenial, if_neg (by simp [sound])]
  case debug =>
    rw [State.pageDenial, if_neg (by simp [sound])]
    exact if_pos secret
  case denied =>
    intro t
    obtain ⟨frame, -⟩ := s.noteDenial_frame n w wr a sound
    have gate : t.gate = (s.logDenial a (s.denialInfo n w wr a reason)).gate := by
      unfold t
      rw [State.noteDenial_sound s n w wr a sound, ((OnlyIn.refl _ _).offerBurst _ _ _ _ (List.Subset.refl _)).gate_eq]
    rw [gate]
    exact ⟨rfl, rfl, rfl, frame⟩
  case mismatch =>
    intro t
    obtain ⟨u, hu⟩ : ∃ u, u = (s.logDenial a (s.denialInfo n w wr a 5)).offerBurst 0x0B01 n a (s.denialInfo n w wr a 5) := ⟨_, rfl⟩
    obtain ⟨v, hv⟩ : ∃ v, v = { u with gate := { u.gate with shadow := satAdd 16 u.gate.shadow 1 } } := ⟨_, rfl⟩
    obtain ⟨data, hdata⟩ : ∃ data, data = 0x0B % 256 * 2 ^ 20
        + (((pageOf a).bind u.gate.mismatch).map GateEntry.register).getD 0 % 65536 := ⟨_, rfl⟩
    have raised : t = v.raiseAlarm 0x0900 data false := by
      unfold t State.noteDenial
      simp only [Bool.false_eq_true, false_and, if_false, if_true]
      rw [hdata, hv, hu]
      rfl
    have told : OnlyIn [.rcd] (s.logDenial a (s.denialInfo n w wr a 5)) u := by simp [hu]
    have gate : t.gate = { u.gate with shadow := satAdd 16 u.gate.shadow 1 } := by
      rw [raised, ((OnlyIn.refl _ v).raiseAlarm _ _ _ (List.Subset.refl _)).gate_eq, hv]
    have lace : v.lace = s.lace := by
      rw [hv]
      exact told.lace_eq
    rw [gate, told.gate_eq]
    refine ⟨rfl, rfl, rfl, fun idle heard => ?_⟩
    have monitor : v.monitor 0x0900 = s.monitor 0x0900 := by rw [State.monitor, lace]; rfl
    have cfg : v.alarmCfg 0x0900 = s.alarmCfg 0x0900 := by rw [State.alarmCfg, lace]; rfl
    rw [raised, (State.raiseAlarm_raises (by rw [monitor, idle]) (by rw [monitor, heard]) data false).2.1, cfg]

end Sys2Proof.Machine
end

section
/-! PROOFS. Lemmas and obligations: Lace and the tamper log. -/

namespace Sys2Proof.Machine

set_option Elab.async false

/-! ## Alarms and the tamper log (file 14) -/

/-! Locks (R46, R408). -/

/-- A device that is not LOCKED locks: Damask too, and the lock outlasts a start. -/
theorem State.enterLocked_locks {s : State} (open' : s.sys.mode ≠ .locked) (cause : Nat) :
    (s.enterLocked cause).sys.mode = .locked ∧ (s.enterLocked cause).sys.cause = cause ∧ (s.enterLocked cause).dmk.locked = true
      ∧ (s.enterLocked cause).bkd.lockKept = true := by
  obtain ⟨a, ha⟩ : ∃ a, a = ((s.abortWhere (fun _ => true) 6).answerWaiting 0x0701).lockDamask := ⟨_, rfl⟩
  obtain ⟨t, ht⟩ : ∃ t, t = a.endSession.dropCeremony.setDebug false false false false := ⟨_, rfl⟩
  have ended : OnlyIn [.img, .lace, .lcs, .rcd, .blk] a t := by
    rw [ht]
    exact ((((OnlyIn.refl _ a).endSession (by simp)).dropCeremony (by simp)).setDebug _ _ _ _ (by simp))
  have aborted : OnlyIn [.host, .twl, .dmk, .cal, .srg, .tul, .hsh, .ent, .zyn, .mem, .rcd, .blk, .fresh] s a := by
    rw [ha]
    exact (((OnlyIn.refl _ s).abortWhere _ _ (by simp)).answerWaiting _ (by simp)).lockDamask (by simp)
  have sys : t.sys = s.sys := by rw [ended.sys_eq, aborted.sys_eq]
  have enters : s.enterLocked cause = { t.setMode .locked cause with bkd := { (t.setMode .locked cause).bkd with lockKept := true } } := by
    rw [ht, ha]
    rfl
  have moved : OnlyIn [.sys, .ent, .rcd, .blk] t (t.setMode .locked cause) := by simp
  rw [enters]
  dsimp only
  rw [State.setMode_sys (by rw [sys]; exact open'), moved.dmk_eq, ended.dmk_eq, ha]
  exact ⟨rfl, rfl, rfl, rfl⟩

/-- A lock in a mode that serves is entered at once (R408). -/
theorem State.lockSequence_serving {s : State} (serves : s.sys.mode.serves = true) (living : s.lifeCycle ≠ 3) (cause : Nat) :
    s.lockSequence cause = s.enterLocked cause := by
  rw [State.lockSequence, if_neg living]
  cases mode : s.sys.mode <;> simp_all [Mode.serves]

theorem State.noteAlarm_frame (s : State) (mon cls data : Nat) (stim : Bool) :
    OnlyIn [.sys, .lace, .bkd, .rcd] s (s.noteAlarm mon cls data stim) ∧ (s.noteAlarm mon cls data stim).sys.mode = s.sys.mode
      ∧ (s.noteAlarm mon cls data stim).bkd.l0 = s.bkd.l0 := by
  refine ⟨by simp, ?_⟩
  unfold State.noteAlarm
  extract_lets m now s1 param _ _ s2
  obtain ⟨u, hu⟩ : ∃ u, u = s2.offer 0x0D01 mon param cls := ⟨_, rfl⟩
  have told : OnlyIn [.rcd] s2 u := by simp [hu]
  have logged (t : State) (k p : Nat) : OnlyIn [.bkd] t (t.logEvent k p) ∧ (t.logEvent k p).bkd.l0 = t.bkd.l0 := by
    refine ⟨by simp, ?_⟩
    unfold State.logEvent
    split <;> rfl
  rw [← hu, (logged u _ _).1.sys_eq, (logged u _ _).2, told.sys_eq, told.bkd_eq]
  exact ⟨rfl, rfl⟩

/-- An alarm of class A2 or A3 locks a device that serves (R408). -/
theorem State.classAction_locks {s : State} {cls : Nat} (major : cls = 2 ∨ cls = 3) (living : s.lifeCycle ≠ 3) (serves : s.sys.mode.serves = true) :
    (s.classAction cls).sys.mode = .locked ∧ (s.classAction cls).sys.cause = 7 ∧ (s.classAction cls).dmk.locked = true
      ∧ (s.classAction cls).bkd.lockKept = true := by
  have locks {t : State} (frame : OnlyIn [.dmk, .lace, .bkd, .fresh] s t) : (t.lockSequence 7).sys.mode = .locked ∧ (t.lockSequence 7).sys.cause = 7
      ∧ (t.lockSequence 7).dmk.locked = true ∧ (t.lockSequence 7).bkd.lockKept = true := by
    have serves' : t.sys.mode.serves = true := by rw [frame.sys_eq, serves]
    rw [State.lockSequence_serving serves' (by rwa [State.lifeCycle, frame.lcs_eq])]
    exact State.enterLocked_locks (fun locked => by simp [locked, Mode.serves] at serves') 7
  rcases major with rfl | rfl
  · exact locks (by simp)
  · exact locks (by simp)

/-- An alarm of class A3 erases the root key (R408). -/
theorem State.classAction_erases (s : State) :
    (s.classAction 3).bkd.l0 = none ∧ (s.classAction 3).bkd.erased = true ∧ (s.classAction 3).dmk.keyc = [] := by
  obtain ⟨t, ht⟩ : ∃ t, t = s.cutStimulus.eraseLogged 1 := ⟨_, rfl⟩
  have erased : t.bkd.l0 = none ∧ t.bkd.erased = true ∧ t.dmk.keyc = [] := by
    rw [ht]
    unfold State.eraseLogged State.logEvent
    dsimp only
    split <;> exact ⟨rfl, rfl, rfl⟩
  have kept := KeepsAlarms.lockSequence t 7
  have acts : s.classAction 3 = t.lockSequence 7 := by
    rw [ht]
    exact if_pos rfl
  rw [acts, kept.bkd]
  exact ⟨erased.1, erased.2.1, kept.keyc erased.2.2⟩

/-! The mesh (R398 to R400). -/

/-- A scan of an enrolled, armed channel that is not under stimulus compares its deviation with the threshold (R400). -/
theorem State.scan_compares {s : State} {ch : Nat} {samples l : List Nat} {b : Baseline} (on : s.onMain = true) (lt : ch < 448)
    (enrolled : (s.channel ch).baseline = some b) (armed : (s.channel ch).armed = true) (apart : s.lace.stim ≠ some ch)
    (read : fingerprint samples = some l) (onHit : Channel → Baseline → List Nat → Nat × Nat → State) :
    s.scan ch samples onHit =
      if b.threshold ≤ (deviation b.samples l).1 then onHit ((s.channel ch).measured (deviation b.samples l)) b l (deviation b.samples l)
      else (s.setChannel ch { (s.channel ch).measured (deviation b.samples l) with confirm := false }).calm ch := by
  unfold State.scan
  simp only [enrolled, read]
  exact if_neg (by simp [on, armed, apart, meshCount]; omega)

/-! The tamper log (R416 to R418). -/

/-- The 12 bytes of an entry that its chain value covers (R416). -/
theorem LogEntry.bytes_take (e : LogEntry) : e.bytes.take 12 = leBytes 6 e.ts ++ leBytes 2 e.code ++ leBytes 4 e.param :=
  List.take_left' (by simp [leBytes_length])

/-- The chain value of an entry hashes the entry before it and its own first 12 bytes (R416). -/
theorem chained_chain (prev : Bytes) (ts code param : Nat) :
    leBytes 4 (chained prev ts code param).chain.toNat
      = (beBytes 32 (Crypto.sha256 (prev ++ (chained prev ts code param).bytes.take 12)).toNat).take 4 := by
  obtain ⟨h, hh⟩ : ∃ h, h = beBytes 32 (Crypto.sha256 (prev ++ (chained prev ts code param).bytes.take 12)).toNat := ⟨_, rfl⟩
  have length : (h.take 4).length = 4 := by rw [hh]; simp [beBytes, leBytes_length]
  have chain : (chained prev ts code param).chain = BitVec.ofNat 32 (leNat (h.take 4)) := by
    rw [hh, LogEntry.bytes_take]
    unfold chained
    dsimp only
    rw [LogEntry.bytes_take]
    rfl
  have lt : leNat (h.take 4) < 2 ^ 32 := by have := leNat_lt (h.take 4); rw [length] at this; omega
  rw [← hh, chain, BitVec.toNat_ofNat, Nat.mod_eq_of_lt lt]
  have back := leBytes_leNat (h.take 4)
  rwa [length] at back

/-- What a full log's lock leaves of it (R418). -/
theorem State.logFullLock_keeps {s : State} (living : s.lifeCycle ≠ 3) :
    s.logFullLock.bkd.log = s.bkd.log ∧ s.logFullLock.bkd.lockKept = true := by
  have log : (s.lockSequence 12).bkd.log = s.bkd.log := by rw [(KeepsAlarms.lockSequence s 12).bkd]
  unfold State.logFullLock
  rw [if_neg living]
  split
  · exact ⟨log, rfl⟩
  · exact ⟨rfl, rfl⟩

/-- What a sample of a pin leads to (R404). -/
theorem State.pinSample_cases (s : State) {pin : Nat} (lt : pin < 8) :
    (s.bkd.intrPrev.getLsbD pin = false → s.pinSample pin true = { s with bkd := { s.bkd with
        intrPrev := s.bkd.intrPrev ||| intrBit pin, intrCond := s.bkd.intrCond &&& ~~~(intrBit pin) } })
      ∧ (s.bkd.intrPrev.getLsbD pin = true → ∃ u, OnlyIn [.bkd] s u ∧ u.bkd.intrCond.getLsbD pin = true
        ∧ s.pinSample pin true = u.alarm (0x200 + pin) 0)
      ∧ ∃ u, OnlyIn [.bkd] s u ∧ u.bkd.intrCond.getLsbD pin = false ∧ s.pinSample pin false = u.calm (0x200 + pin) := by
  refine ⟨fun new => ?_, fun old => ?_, ?_⟩
  · rw [State.pinSample]
    simp [new]
  · refine ⟨{ s with bkd := { s.bkd with intrPrev := s.bkd.intrPrev ||| intrBit pin, intrCond := s.bkd.intrCond ||| intrBit pin } },
      by simp, ?_, ?_⟩
    · simp [intrBit, lt]
    · rw [State.pinSample]
      simp [old]
  · refine ⟨{ s with bkd := { s.bkd with intrPrev := s.bkd.intrPrev &&& ~~~(intrBit pin), intrCond := s.bkd.intrCond &&& ~~~(intrBit pin) } },
      by simp, ?_, rfl⟩
    simp [intrBit, lt]

theorem State.nextStimulus_idle {s : State} (asked : s.lace.stimAsked = none) (due : s.lace.stimDue = []) : s.nextStimulus = s := by
  simp [State.nextStimulus, asked, due]

/-- A stimulus ends: its monitor answers again, and its outcome is counted (R414). -/
def State.endStimulus (t : State) (mon : Nat) (pass : Bool) : State :=
  { t.skip 1 with lace := { t.lace with
    stim := none, stMonitor := mon, stPass := pass, stCut := false, stRuns := satAdd 14 t.lace.stRuns 1
    stimFails := if pass then t.lace.stimFails else satAdd 16 t.lace.stimFails 1 } }

theorem State.endStimulus_frame (t : State) (mon : Nat) (pass : Bool) : OnlyIn [.lace, .fresh] t (t.endStimulus mon pass) := by
  unfold State.endStimulus State.skip
  simp

/-- A stimulus that passes ends and is counted (R414). -/
theorem stimulusEnd_passes {s : State} {mon : Nat} (runs : s.lace.stim = some mon) (asked : s.lace.stimAsked = none)
    (due : s.lace.stimDue = [])
    (clear : (s.monitor mon).condition = false) : Completes (.stimulusEnd true) s fun t =>
      t.lace.stim = none ∧ (t.monitor mon).suppressed = false ∧ t.lace.stPass = true ∧ t.lace.stRuns = satAdd 14 s.lace.stRuns 1
        ∧ OnlyIn [.lace, .fresh] s t := by
  obtain ⟨t, ht⟩ : ∃ t, t = s.setMonitor mon { s.monitor mon with suppressed := false } := ⟨_, rfl⟩
  have monitor : t.monitor mon = { s.monitor mon with suppressed := false } := by rw [ht, State.monitor_setMonitor_self]
  obtain ⟨u, hu⟩ : ∃ u, u = t.endStimulus mon true := ⟨_, rfl⟩
  have quiet : u.nextStimulus = u := State.nextStimulus_idle (by rw [hu, ht]; exact asked) (by rw [hu, ht]; exact due)
  have ends : exec (.stimulusEnd true) s = .next u := by
    rw [← quiet, hu, ht]
    simp only [exec, execStimulusEnd, runs, clear]
    rfl
  have set : OnlyIn [.lace, .fresh] s t := by simp [ht]
  have same : u.monitor mon = t.monitor mon := by rw [hu]; rfl
  have stops : u.lace.stim = none ∧ u.lace.stPass = true ∧ u.lace.stRuns = satAdd 14 t.lace.stRuns 1 := by
    rw [hu]
    exact ⟨rfl, rfl, rfl⟩
  obtain ⟨stim, pass, count⟩ := stops
  refine ⟨u, ends, stim, by rw [same, monitor], pass, count.trans (by rw [ht]; rfl), ?_⟩
  rw [hu]
  exact set.trans (t.endStimulus_frame mon true)

/-- A stimulus that fails raises its monitor's own alarm (R414). -/
theorem stimulusEnd_fails {s : State} {mon : Nat} (runs : s.lace.stim = some mon) (asked : s.lace.stimAsked = none)
    (due : s.lace.stimDue = [])
    (idle : (s.monitor mon).standing = none) (minor : (s.alarmCfg mon).cls < 2) : Completes (.stimulusEnd false) s fun t =>
      t.lace.stim = none ∧ (t.monitor mon).standing = some (s.alarmCfg mon).cls ∧ t.lace.stimFails = satAdd 16 s.lace.stimFails 1
        ∧ t.lace.lastStim = true ∧ OnlyIn [.lace, .bkd, .rcd, .sys, .fresh] s t := by
  obtain ⟨t, ht⟩ : ∃ t, t = s.setMonitor mon { s.monitor mon with suppressed := false } := ⟨_, rfl⟩
  have monitor : t.monitor mon = { s.monitor mon with suppressed := false } := by rw [ht, State.monitor_setMonitor_self]
  obtain ⟨u, hu⟩ : ∃ u, u = t.endStimulus mon false := ⟨_, rfl⟩
  have same : u.monitor mon = t.monitor mon ∧ u.alarmCfg mon = s.alarmCfg mon := by
    rw [hu, ht]
    exact ⟨rfl, rfl⟩
  obtain ⟨watched, cfg⟩ := same
  obtain ⟨raises, standing, -, -, -⟩ := State.raiseAlarm_raises (s := u) (mon := mon) (by rw [watched, monitor, idle]) (by rw [watched, monitor])
    (s.stimData mon) true
  obtain ⟨v, hv⟩ : ∃ v, v = u.raiseAlarm mon (s.stimData mon) true := ⟨_, rfl⟩
  have noted : v = u.noteAlarm mon (u.alarmCfg mon).cls (s.stimData mon) true := by
    rw [hv, raises, State.classAction, if_neg (by rw [cfg]; omega), if_neg (by rw [cfg]; omega)]
  have lace := u.noteAlarm_lace mon (u.alarmCfg mon).cls (s.stimData mon) true
  rw [← noted] at lace
  have quiet : v.nextStimulus = v := State.nextStimulus_idle (by rw [lace, hu, ht]; exact asked) (by rw [lace, hu, ht]; exact due)
  have stim : v.lace.stim = none := by rw [lace, hu]; rfl
  have ends : exec (.stimulusEnd false) s = .next v := by
    have go : exec (.stimulusEnd false) s = .next (if v.lace.stim.isSome then v else v.nextStimulus) := by
      rw [hv, hu, ht]
      simp only [exec, execStimulusEnd, runs]
      rfl
    rw [go, stim, quiet]
    rfl
  have set : OnlyIn [.lace, .bkd, .rcd, .sys, .fresh] s t := by simp [ht]
  refine ⟨v, ends, stim, ?_, ?_, ?_, ?_⟩
  · rw [hv, standing, cfg]
  · rw [lace, hu, ht]
    rfl
  · rw [lace]
  · have first : OnlyIn [.lace, .bkd, .rcd, .sys, .fresh] t u := by
      rw [hu]
      exact (t.endStimulus_frame mon false).mono (by simp)
    have raised := State.raiseAlarm_minor (s := u) (mon := mon) (by rw [cfg]; exact minor) (s.stimData mon) true
    rw [hv]
    exact (set.trans first).trans (raised.mono (by simp))

/-- The log takes its oldest queued event in its last place (R417). -/
theorem tamperLogWrite_runs {s : State} {e : LogEvent} {rest : List LogEvent} (queue : s.bkd.logQueue = e :: rest) :
    exec .tamperLogWrite s = .next (
      let t := { s with bkd := { s.bkd with logQueue := rest } }.appendLog e
      if t.bkd.logQueue = [] ∧ t.bkd.merged ≠ 0 then
        { t with bkd := { t.bkd with logQueue := [{ code := 0x0A07, param := t.bkd.merged % 2 ^ 32 }], merged := 0 } }
      else t) := by
  simp only [exec, execTamperLogWrite, queue]

theorem tamperLogWrite_appends {s : State} {e : LogEvent} {rest : List LogEvent} (queue : s.bkd.logQueue = e :: rest)
    (merged : s.bkd.merged = 0)
    (room : s.bkd.log.length < 2047) : Completes .tamperLogWrite s fun t => ∃ x : LogEntry, t.bkd.log = s.bkd.log ++ [x] ∧ x.ts = s.bkd.ts
      ∧ x.code = e.code ∧ x.param = e.param
      ∧ leBytes 4 x.chain.toNat = (beBytes 32 (Crypto.sha256 (s.bkd.before s.bkd.log.length ++ x.bytes.take 12)).toNat).take 4
      ∧ t.bkd.logQueue = rest ∧ OnlyIn [.bkd] s t := by
  have runs := tamperLogWrite_runs queue
  rw [State.appendLog, if_pos room] at runs
  dsimp only at runs
  rw [if_neg (by simp [merged])] at runs
  exact ⟨_, runs, _, rfl, rfl, rfl, rfl, chained_chain _ _ _ _, rfl, by simp⟩

/-- The last place of the log takes OVERFLOW (R418). -/
theorem State.appendLog_full {s : State} (last : s.bkd.log.length = 2047) (e : LogEvent) : ∃ x : LogEntry, x.code = 0x0AFF
    ∧ s.appendLog e = { s with bkd := { s.bkd with log := s.bkd.log ++ [x] } }.logFullLock := by
  have whole : s.bkd.log.take 2047 = s.bkd.log := List.take_of_length_le last.le
  refine ⟨chained (s.bkd.before 2047) s.bkd.ts 0x0AFF (overflowCount ((s.bkd.log[2047]?.map (·.param)).getD 0) e.code), rfl, ?_⟩
  rw [State.appendLog]
  dsimp only
  rw [if_neg (by omega), if_pos last, whole]

theorem tamperLogWrite_full {s : State} {e : LogEvent} {rest : List LogEvent} (queue : s.bkd.logQueue = e :: rest)
    (merged : s.bkd.merged = 0)
    (last : s.bkd.log.length = 2047) (dead : s.lifeCycle = 3) : Completes .tamperLogWrite s fun t => t.bkd.log.length = 2048
      ∧ t.bkd.log.take 2047 = s.bkd.log ∧ t.bkd.log[2047]?.map (·.code) = some 0x0AFF ∧ OnlyIn [.bkd] s t := by
  obtain ⟨x, code, appends⟩ := State.appendLog_full (s := { s with bkd := { s.bkd with logQueue := rest } }) last e
  obtain ⟨t, ht⟩ : ∃ t, t = { s with bkd := { s.bkd with logQueue := rest } }.appendLog e := ⟨_, rfl⟩
  have appended : t = { s with bkd := { s.bkd with logQueue := rest, log := s.bkd.log ++ [x] } } := by
    rw [ht, appends]
    exact if_pos dead
  have log : t.bkd.log = s.bkd.log ++ [x] := by rw [appended]
  have runs := tamperLogWrite_runs queue
  rw [← ht] at runs
  dsimp only at runs
  rw [if_neg (by rw [appended]; simp [merged])] at runs
  refine ⟨t, runs, by simp [log, last], ?_, ?_, by simp [appended]⟩
  · rw [log]
    exact List.take_left' last
  · rw [log, List.getElem?_append_right (by omega), last]
    exact congrArg some code

theorem tamperLogWrite_locks {s : State} {e : LogEvent} {rest : List LogEvent} (queue : s.bkd.logQueue = e :: rest)
    (last : s.bkd.log.length = 2047) (living : s.lifeCycle ≠ 3) :
    Completes .tamperLogWrite s fun t => t.bkd.log.length = 2048 ∧ t.bkd.lockKept = true := by
  obtain ⟨x, -, appends⟩ := State.appendLog_full (s := { s with bkd := { s.bkd with logQueue := rest } }) last e
  obtain ⟨t, ht⟩ : ∃ t, t = { s with bkd := { s.bkd with logQueue := rest } }.appendLog e := ⟨_, rfl⟩
  have runs := tamperLogWrite_runs queue
  rw [← ht] at runs
  have full : t.bkd.log = s.bkd.log ++ [x] ∧ t.bkd.lockKept = true := by
    rw [ht, appends]
    exact State.logFullLock_keeps living
  refine ⟨_, runs, ?_⟩
  have length : t.bkd.log.length = 2048 := by simp [full.1, last]
  dsimp only
  split
  · exact ⟨length, full.2⟩
  · exact ⟨length, full.2⟩

/-- The header of an export that no key signs (R419). -/
def State.exportHeader (s : State) (first count : Nat) : Bytes :=
  leBytes 4 0x474F4C54 ++ leBytes 2 1 ++ leBytes 2 (flag false + 2 * flag s.bkd.logFull) ++ leBytes 2 first ++ leBytes 2 count
    ++ leBytes 2 s.bkd.log.length ++ zeros 2 ++ bytes128 Config.deviceIdentity ++ leBytes 6 s.bkd.ts ++ zeros 2
    ++ leBytes 8 s.sys.optime ++ leBytes 4 s.bkd.pwrcyc ++ zeros 12

theorem State.exportHeader_length (s : State) (first count : Nat) : (s.exportHeader first count).length = 64 := by
  have zero (n : Nat) : (zeros n).length = n := List.length_replicate
  have identity (x : W128) : (bytes128 x).length = 16 := by simp [bytes128, beBytes, leBytes_length]
  simp only [State.exportHeader, List.length_append, leBytes_length, zero, identity]

/-- An export that no key signs is its header and the entries it names (R419). -/
theorem tamperExport_unsigned {s : State} {r : Req} (turn : Turn s r 0x0621) (unsigned : s.img.force.recorder.auditNode = 0)
    (some' : r.desc.par 2 2 ≠ 0) (inside : r.desc.par 0 2 + r.desc.par 2 2 ≤ s.bkd.log.length) : ∃ h : Bytes, h.length = 64
      ∧ Answers (.tamperExport r) s r s s.bkd.log.length
          (h ++ ((s.bkd.log.drop (r.desc.par 0 2)).take (r.desc.par 2 2)).flatMap (·.bytes)) := by
  have keyless : s.auditKey = none := if_pos unsigned
  have inside' : ¬ (r.desc.par 2 2 = 0 ∨ s.bkd.log.length < r.desc.par 0 2 + r.desc.par 2 2) := by omega
  have exported (t : State) (n : Nat) (f : Bool → Bytes) (body : Bytes) (none' : t.auditKey = none) :
      t.answerAudit r n f body = t.answer r n (f false ++ body) := by rw [State.answerAudit, none']
  refine ⟨s.exportHeader (r.desc.par 0 2) (r.desc.par 2 2), s.exportHeader_length _ _, ?_⟩
  show execTamperExport r s = _
  unfold execTamperExport
  rw [turn.runs]
  dsimp only
  rw [if_neg inside', exported _ _ _ _ keyless]
  rfl

/-- Settles O51: by the branches of each monitor's command; an alarm is raised by `State.raiseAlarm` and answered by
`State.classAction`. -/
theorem alarmsAndTheTamperLog : Obligations.AlarmsAndTheTamperLog := by
  intro s
  refine ⟨fun cell level on lt => ?light, fun rail mv uv isl period g out on rail8 isle g16 => ?detectors, fun k x on k32 => ?junction,
    fun mv on => ?vin, fun mon data on idle heard => ?raise, fun mon data stands below => ?again,
    fun ch samples b l on lt enrolled armed apart read => ?mesh, fun pin level lt static => ?pin, fun k k4 dynamic => ?pair,
    fun v x v0 v1 x0 x1 => ?backup, fun v x v01 x0 x1 => ?vbat, fun mon k on stands over' => ?hold, fun mon may => ?stimulus,
    fun mon runs asked due => ⟨fun clear => stimulusEnd_passes runs asked due clear, fun idle minor => stimulusEnd_fails runs asked due idle minor⟩,
    fun e rest queue merged => ⟨fun room => tamperLogWrite_appends queue merged room, fun last dead => tamperLogWrite_full queue merged last dead,
      fun last living => tamperLogWrite_locks queue last living⟩,
    fun r turn unsigned some' inside => tamperExport_unsigned turn unsigned some' inside,
    fun r b turn lt enrolled => ?query, fun r turn lt none' => ?unused, fun who v control => ?pins⟩
  case light =>
    intro mon others
    have sector : 0x300 + lightSector cell = mon := by
      simp only [lightSector, mon, Nat.div_div_eq_div_mul]
      omega
    refine ⟨fun above => ?_, fun below => ?_⟩
    · have runs : exec (.lightDetect cell level) s = .next ((s.setLit cell true).raiseAlarm (0x300 + lightSector cell)
          (cell * 2 ^ 16 + level % 65536) false) := by
        simp only [exec, execLightDetect, on, lt, above, and_self, if_true, decide_true]
      rw [sector] at runs
      exact runs
    · intro t
      have dark : decide (s.lace.thresh < level) = false := decide_eq_false (by omega)
      have runs : exec (.lightDetect cell level) s = .next (if others.any (fun x => lightSector x == lightSector cell) then t
          else t.calm (0x300 + lightSector cell)) := by
        simp only [exec, execLightDetect, on, lt, dark, and_self, if_true, Bool.false_eq_true, if_false]
        rfl
      rw [sector] at runs
      have lit : others.any (fun x => lightSector x == lightSector cell) = true ↔ ∃ x ∈ others, lightSector x = lightSector cell := by
        simp [List.any_eq_true]
      exact runs.trans (congrArg Host.Outcome.next (if_congr lit rfl rfl))
  case detectors =>
    have detects (m : Nat) (present : Bool) (d : Nat) : s.detect m present d = if present then s.raiseAlarm m d false else s.calm m :=
      if_neg (by simp [on])
    refine List.forall_mem_cons.mpr ⟨?_, List.forall_mem_cons.mpr ⟨?_, List.forall_mem_singleton.mpr ?_⟩⟩
    · have off : railOff rail mv uv = (decide (100 * (1000 * mv + uv) < 92000 * railNominal rail)
          || decide (108000 * railNominal rail < 100 * (1000 * mv + uv))) := by
        rw [railOff]
        exact congrArg₂ _ (decide_eq_decide.mpr (by omega)) (decide_eq_decide.mpr (by omega))
      rw [← off]
      exact congrArg Host.Outcome.next ((if_pos rail8).trans (detects _ _ _))
    · exact congrArg Host.Outcome.next ((if_pos isle).trans (detects _ _ _))
    · exact congrArg Host.Outcome.next ((if_pos g16).trans (detects _ _ _))
  case junction =>
    obtain ⟨t, ht⟩ : ∃ t, t = s.senseJunction k x := ⟨_, rfl⟩
    have on' : t.onMain = true := by rw [ht]; exact on
    have runs : exec (.junctionTempDetect k x) s = .next (if decide (x < s.lace.tlimLo) || decide (s.lace.tlimHi < x) then
        t.raiseAlarm (0x400 + k) (x % 1024) false else t.calm (0x400 + k)) := by
      refine congrArg Host.Outcome.next ((if_pos ⟨k32, on⟩).trans ?_)
      rw [← ht]
      exact if_neg (by simp [on'])
    rw [runs, ← ht]
    exact ⟨fun out => by rw [if_pos (by simpa using out)], fun lo hi => by rw [if_neg (by simp; omega)]⟩
  case vin =>
    intro t
    have on' : t.onMain = true := on
    have runs : exec (.vinOvervoltage mv) s = .next (if decide (13800 < mv) then t.raiseAlarm 0x500 (mv % 65536) false else t.calm 0x500) :=
      congrArg Host.Outcome.next ((if_pos on).trans (if_neg fun off => Bool.noConfusion (on'.symm.trans off)))
    rw [runs]
    exact ⟨fun high => by rw [if_pos (decide_eq_true high)], fun low => by rw [decide_eq_false (by omega), if_neg Bool.false_ne_true]⟩
  case raise =>
    intro cls u
    obtain ⟨raises, standing, raised, last, alarms⟩ := State.raiseAlarm_raises idle heard data false
    obtain ⟨frame, mode, l0⟩ := s.noteAlarm_frame mon cls data false
    refine ⟨standing, raised, last, alarms, fun minor => ⟨?_, ?_, ?_⟩, fun major living serving => ?_, fun most => ?_⟩
    · exact (State.raiseAlarm_minor minor data false).mono (by simp)
    · have quiet : u = s.noteAlarm mon cls data false := raises.trans (by
        rw [State.classAction, if_neg (by omega), if_neg (by omega)])
      rw [quiet, mode]
    · have quiet : u = s.noteAlarm mon cls data false := raises.trans (by
        rw [State.classAction, if_neg (by omega), if_neg (by omega)])
      rw [quiet, l0]
    · have serves : s.sys.mode.serves = true := ((Bool.and_eq_true _ _).mp serving).1
      rw [show u = _ from raises]
      exact State.classAction_locks major (by rwa [State.lifeCycle, frame.lcs_eq]) (by rw [mode, serves])
    · rw [show u = _ from raises, show (s.alarmCfg mon).cls = 3 from most]
      exact State.classAction_erases _
  case again =>
    have held : ¬ isInstant mon = true := by simp [isInstant]; omega
    obtain ⟨k, standing⟩ := Option.ne_none_iff_exists'.mp stands
    rw [State.raiseAlarm]
    simp [standing, held]
  case mesh =>
    intro x
    have scans (onHit : Channel → Baseline → List Nat → Nat × Nat → State) := State.scan_compares on lt enrolled armed apart read onHit
    refine ⟨fun hit => ?_, fun miss => ?_, fun confirm hit => ?_⟩
    · have runs : exec (.meshScan ch samples) s = .next (s.setChannel ch { (s.channel ch).measured x with confirm := true }) :=
        congrArg Host.Outcome.next ((scans _).trans (if_pos hit))
      refine ⟨_, runs, ?_⟩
      dsimp only
      rw [State.channel_setChannel_self]
      exact ⟨rfl, rfl, rfl, rfl, by simp⟩
    · obtain ⟨t, ht⟩ : ∃ t, t = s.setChannel ch { (s.channel ch).measured x with confirm := false } := ⟨_, rfl⟩
      have runs : exec (.meshScan ch samples) s = .next (t.calm ch) := by
        rw [ht]
        exact congrArg Host.Outcome.next ((scans _).trans (if_neg (Nat.not_le.mpr miss)))
      have channel : (t.calm ch).channel ch = { (s.channel ch).measured x with confirm := false } := by
        rw [ht]
        exact State.channel_setChannel_self s ch _
      have set : OnlyIn [.lace] s t := by simp [ht]
      refine ⟨_, runs, ?_⟩
      dsimp only
      rw [channel, State.calm, State.monitor_setMonitor_self]
      exact ⟨rfl, rfl, rfl, by simp [set]⟩
    · obtain ⟨u, hu⟩ : ∃ u, u = s.setChannel ch { (s.channel ch).measured x with confirm := false, kind := meshKind b.samples l } := ⟨_, rfl⟩
      have runs : exec (.meshConfirmScan ch samples) s = .next (u.alarm ch
          (meshKind b.samples l * 2 ^ 26 + x.1 * 2 ^ 16 + b.threshold * 2 ^ 6 + x.2)) := by
        rw [hu]
        exact congrArg Host.Outcome.next ((if_pos confirm).trans ((scans _).trans (if_pos hit)))
      have on' : u.onMain = true := by rw [hu]; exact on
      have channel : u.channel ch = { (s.channel ch).measured x with confirm := false, kind := meshKind b.samples l } := by
        rw [hu]
        exact State.channel_setChannel_self s ch _
      refine ⟨u, by simp [hu], by rw [channel], by rw [channel], ?_⟩
      rw [runs, State.alarm, if_pos on']
  case pin =>
    intro hit
    obtain ⟨t, ht⟩ : ∃ t, t = { s with bkd := { s.bkd with
        intrLevel := if level then s.bkd.intrLevel ||| intrBit pin else s.bkd.intrLevel &&& ~~~(intrBit pin) } } := ⟨_, rfl⟩
    have runs : exec (.intrusionPinSample pin level) s = .next (t.pinSample pin hit) := by
      rw [ht]
      refine congrArg Host.Outcome.next ((if_pos lt).trans ?_)
      rcases static with low | high
      · have same : hit = !level := by simp only [hit, low]; cases level <;> rfl
        rw [same]
        exact if_pos low
      · have same : hit = level := by simp only [hit, high]; cases level <;> rfl
        rw [same]
        exact (if_neg (by simp [high])).trans (if_pos high)
    have set : OnlyIn [.bkd] s t ∧ t.bkd.intrPrev = s.bkd.intrPrev := by
      rw [ht]
      exact ⟨by simp, rfl⟩
    obtain ⟨frame, prev⟩ := set
    obtain ⟨first, second, clear⟩ := t.pinSample_cases lt
    refine ⟨fun is new => ?_, fun is old => ?_, fun no => ?_⟩
    · rw [is, first (by rw [prev, new])] at runs
      exact ⟨_, runs, by simp [intrBit, lt], frame.lace_eq, frame.trans (by simp)⟩
    · obtain ⟨u, wrote, cond, alarms⟩ := second (by rw [prev, old])
      rw [is, alarms] at runs
      exact ⟨u, frame.trans wrote, cond, runs⟩
    · obtain ⟨u, wrote, cond, calms⟩ := clear
      rw [no, calms] at runs
      exact ⟨u, frame.trans wrote, cond, runs⟩
  case pair =>
    have runs (same : Bool) : exec (.dynamicPairTick k same) s = .next (s.pinSample (2 * k + 1) (!same)) :=
      congrArg Host.Outcome.next (if_pos ⟨k4, dynamic⟩)
    obtain ⟨-, second, u, wrote, -, calms⟩ := s.pinSample_cases (pin := 2 * k + 1) (by omega)
    refine ⟨fun old => ?_, u, wrote, (runs true).trans (congrArg Host.Outcome.next calms)⟩
    obtain ⟨v, wrote', -, alarms⟩ := second old
    exact ⟨v, wrote', (runs false).trans (congrArg Host.Outcome.next alarms)⟩
  case backup =>
    have mild : ¬ (x < 14 ∨ 194 < x) := by omega
    have level' : ¬ (v < 2200 ∨ 3900 < v) := by omega
    obtain ⟨t, ht⟩ : ∃ t, t = { s with bkd := { s.bkd with vbatMv := v % 65536, temp := x % 1024 } } := ⟨_, rfl⟩
    have runs : exec (.backupMonitorCheck v x) s = .next ((t.calm 0x210).calm 0x211) := by
      simp only [exec, execBackupMonitorCheck, if_neg mild, if_neg level', ht]
    have set : OnlyIn [.lace, .bkd] s t := by simp [ht]
    refine ⟨_, runs, ?_, ?_, by simp [set]⟩
    · rw [ht]
      exact Nat.mod_eq_of_lt (by omega)
    · rw [ht]
      exact Nat.mod_eq_of_lt (by omega)
  case vbat =>
    have mild : ¬ (x < 14 ∨ 194 < x) := by omega
    obtain ⟨t, ht⟩ : ∃ t, t = { s with bkd := { s.bkd with vbatMv := v % 65536, temp := x % 1024 } } := ⟨_, rfl⟩
    have set : OnlyIn [.lace, .bkd] s t := by simp [ht]
    refine ⟨t.calm 0x210, by simp [set], ?_⟩
    simp only [exec, execBackupMonitorCheck, if_neg mild, if_pos v01, ht]
  case hold =>
    refine ⟨fun minor => ?_, fun major => ?_⟩
    · refine ⟨s.setMonitor mon { s.monitor mon with standing := none }, ?_, ?_, by simp⟩
      · simp only [exec, execAlarmHoldExpiry, stands]
        rw [if_pos ⟨.inl on, minor, over'⟩]
      · rw [State.monitor_setMonitor_self]
    · simp only [exec, execAlarmHoldExpiry, stands]
      rw [if_neg (by omega)]
  case stimulus =>
    have starts : (s.startStimulus mon).lace.stim = some mon ∧ ((s.startStimulus mon).monitor mon).suppressed = true
        ∧ OnlyIn [.lace] s (s.startStimulus mon) := by
      refine ⟨rfl, ?_, by simp⟩
      exact congrArg Monitor.suppressed (State.monitor_setMonitor_self s mon { s.monitor mon with suppressed := true })
    refine ⟨fun period none' => ⟨_, ?_, starts⟩, fun y period runs fresh => ?_, fun who v control asks named none' => ⟨_, ?_, starts⟩⟩
    · simp only [exec, execStimulusDue, none']
      rw [if_pos ⟨may, period⟩]
    · simp only [exec, execStimulusDue, runs]
      rw [if_pos ⟨may, period⟩, if_neg (by simpa using fresh)]
    · have mon' : bits v.toNat 0 16 = mon := by simpa [bits] using named
      simp only [exec, execStimulusRequest, State.byControl_of_inControl control, mon', none']
      rw [if_pos ⟨asks, may⟩]
  case query =>
    intro ch c
    have range : ¬ meshCount ≤ ch := Nat.not_le.mpr lt
    have threshold : b.threshold = c.threshold := by rw [Channel.threshold, show c.baseline = some b from enrolled]; rfl
    have known : ¬ c.baseline.isNone = true := by rw [show c.baseline = some b from enrolled]; exact Bool.false_ne_true
    rw [threshold]
    refine congrArg Host.Outcome.next ((turn.runs _).trans ?_)
    exact (if_neg range).trans (if_neg known)
  case unused =>
    exact congrArg Host.Outcome.next ((turn.runs _).trans ((if_neg (Nat.not_le.mpr lt)).trans (if_pos (by simp [none']))))
  case pins =>
    refine ⟨fun ceremony pairs change => ?_, fun shut => ?_⟩
    · obtain ⟨t, ht⟩ : ∃ t, t = (List.range 8).foldl (fun u pin => u.calm (0x200 + pin))
          { s with bkd := { s.bkd with intrcfg := v, intrPrev := 0, intrCond := 0 } } := ⟨_, rfl⟩
      have runs : exec (.bkdIntrcfgWrite who v) s = .next (t.logEvent 0x0A06 v.toNat) := by
        rw [ht]
        exact congrArg Host.Outcome.next ((State.byControl_of_inControl control _).trans ((if_pos ⟨ceremony, pairs⟩).trans (if_neg change)))
      have calmed (u : State) : OnlyIn [.lace] u ((List.range 8).foldl (fun u pin => u.calm (0x200 + pin)) u) :=
        OnlyIn.foldl _ (fun w pin => by simp) _ u
      have set : OnlyIn [.lace, .bkd] s t := by
        rw [ht]
        exact OnlyIn.trans (by simp) ((calmed _).mono (by simp))
      have logged : (t.logEvent 0x0A06 v.toNat).bkd.intrcfg = t.bkd.intrcfg := by
        unfold State.logEvent
        split <;> rfl
      refine ⟨_, runs, logged.trans ?_, by simp [set]⟩
      rw [ht, (calmed _).bkd_eq]
    · refine congrArg Host.Outcome.next ((State.byControl_of_inControl control _).trans (if_neg fun both => ?_))
      rcases shut with mode | pairs
      · exact mode both.1
      · exact Bool.noConfusion (pairs.symm.trans both.2)

end Sys2Proof.Machine
end

section
/-! PROOFS. Lemmas and obligations: custody, life cycle and debug. -/

namespace Sys2Proof.Machine

set_option Elab.async false

/-! ## Ceremonies (file 15) -/

theorem State.setMode_mode (s : State) (m : Mode) (cause : Nat) : (s.setMode m cause).sys.mode = m := by
  by_cases same : s.sys.mode = m
  · rw [State.setMode, if_pos same, same]
  · rw [State.setMode_sys same]

theorem State.endSession_session (s : State) : s.endSession.img.session = none := by
  unfold State.endSession
  split
  · assumption
  split <;> rfl

theorem State.setDebug_lcs (s : State) (nni ninv sni sinv : Bool) :
    (s.setDebug nni ninv sni sinv).lcs = { s.lcs with nni := nni, ninv := ninv, sni := sni, sinv := sinv } := by
  unfold State.setDebug
  dsimp only
  split
  · rfl
  · rw [(OnlyIn.offer (OnlyIn.refl [.rcd] _) _ _ _ _ (List.Subset.refl _)).lcs_eq]

/-- Entering LOCKED ends the ceremony and the image's write session and takes the debug enables back (R46, R82). -/
theorem State.enterLocked_ends (s : State) (cause : Nat) :
    (s.enterLocked cause).sys.mode = .locked ∧ (s.enterLocked cause).bkd.lockKept = true ∧ (s.enterLocked cause).dmk.locked = true
      ∧ (s.enterLocked cause).img.session = none
      ∧ (s.enterLocked cause).lcs = { s.lcs with
          ceremony := none, sinvWait := none, sinvBefore := [], nni := false, ninv := false, sni := false, sinv := false } := by
  obtain ⟨a, ha⟩ : ∃ a, a = ((s.abortWhere (fun _ => true) 6).answerWaiting 0x0701).lockDamask := ⟨_, rfl⟩
  obtain ⟨d, hd⟩ : ∃ d, d = a.endSession.dropCeremony := ⟨_, rfl⟩
  obtain ⟨t, ht⟩ : ∃ t, t = d.setDebug false false false false := ⟨_, rfl⟩
  have enters : s.enterLocked cause = { t.setMode .locked cause with bkd := { (t.setMode .locked cause).bkd with lockKept := true } } := by
    rw [ht, hd, ha]
    rfl
  have aborted : OnlyIn [.host, .twl, .dmk, .cal, .srg, .tul, .hsh, .ent, .zyn, .mem, .rcd, .blk, .fresh] s a := by
    rw [ha]
    exact (((OnlyIn.refl _ s).abortWhere _ _ (by simp)).answerWaiting _ (by simp)).lockDamask (by simp)
  have ended : OnlyIn [.img] a a.endSession := by simp
  have dropped : OnlyIn [.lace, .lcs, .blk] a.endSession d := by
    rw [hd]
    simp
  have disabled : OnlyIn [.lcs, .rcd] d t := by
    rw [ht]
    simp
  have moved : OnlyIn [.sys, .ent, .rcd, .blk] t (t.setMode .locked cause) := by simp
  have ceremony : d.lcs = { s.lcs with ceremony := none, sinvWait := none, sinvBefore := [] } := by
    rw [hd, ← aborted.lcs_eq, ← ended.lcs_eq]
    rfl
  have lcs : t.lcs = { d.lcs with nni := false, ninv := false, sni := false, sinv := false } := by rw [ht, State.setDebug_lcs]
  rw [enters]
  dsimp only
  rw [State.setMode_mode, moved.lcs_eq, moved.dmk_eq, moved.img_eq, lcs, ceremony, disabled.dmk_eq, dropped.dmk_eq, ended.dmk_eq, disabled.img_eq,
    dropped.img_eq, State.endSession_session, ha]
  exact ⟨rfl, rfl, rfl, rfl, rfl⟩

/-- Closing a ceremony ends its running step, lets the monitors of an enrolment that stands speak again, and moves to its mode (R438). -/
theorem State.closeCeremony_of {s : State} {c : Ceremony} (opened : s.lcs.ceremony = some c) :
    ∃ u, OnlyIn [.host, .zyn, .lace, .rcd, .blk, .fresh] s u
      ∧ s.closeCeremony = if c.unlock then u.dropCeremony.enterLocked 6 else u.dropCeremony.setMode s.openMode 6 := by
  simp only [State.closeCeremony, opened]
  refine ⟨_, ?_, rfl⟩
  exact OnlyIn.trans (t := s.endRunning) (by simp) (OnlyIn.foldl _ (fun v ch => by simp) _ _)

theorem State.closeCeremony_ceremony (s : State) : s.closeCeremony.lcs.ceremony = none := by
  cases opened : s.lcs.ceremony with
  | none => simp [State.closeCeremony, opened]
  | some c =>
    obtain ⟨u, -, closes⟩ := State.closeCeremony_of opened
    rw [closes]
    split
    · obtain ⟨-, -, -, -, lcs⟩ := State.enterLocked_ends u.dropCeremony 6
      rw [lcs]
    · have moved : OnlyIn [.sys, .ent, .rcd, .blk] u.dropCeremony (u.dropCeremony.setMode s.openMode 6) := by simp
      rw [moved.lcs_eq]
      rfl

/-- A ceremony that closes erases nothing (R438). -/
theorem State.closeCeremony_l0 (s : State) : s.closeCeremony.bkd.l0 = s.bkd.l0 := by
  cases opened : s.lcs.ceremony with
  | none => simp [State.closeCeremony, opened]
  | some c =>
    obtain ⟨u, worked, closes⟩ := State.closeCeremony_of opened
    have dropped : u.dropCeremony.bkd = s.bkd := worked.bkd_eq
    rw [closes]
    split
    · rw [(KeepsAlarms.enterLocked u.dropCeremony 6).bkd, dropped]
    · rw [(KeepsAlarms.setMode u.dropCeremony s.openMode 6).bkd, dropped]

/-- The mode that a closed ceremony leaves, and what an unlock ceremony takes back with it (R438, R46). -/
theorem State.closeCeremony_mode {s : State} {c : Ceremony} (opened : s.lcs.ceremony = some c) :
    s.closeCeremony.sys.mode = (if c.unlock then .locked else s.openMode)
      ∧ (c.unlock = true → s.closeCeremony.bkd.lockKept = true ∧ s.closeCeremony.dmk.locked = true ∧ s.closeCeremony.img.session = none
        ∧ s.closeCeremony.lcs.nni = false ∧ s.closeCeremony.lcs.ninv = false ∧ s.closeCeremony.lcs.sni = false
        ∧ s.closeCeremony.lcs.sinv = false) := by
  obtain ⟨u, -, closes⟩ := State.closeCeremony_of opened
  rw [closes]
  obtain ⟨mode, kept, locked, session, lcs⟩ := State.enterLocked_ends u.dropCeremony 6
  cases c.unlock with
  | true => exact ⟨mode, fun _ => ⟨kept, locked, session, by simp [lcs]⟩⟩
  | false => exact ⟨State.setMode_mode _ _ _, fun no => nomatch no⟩

/-- What the fences and the supervisors' states decide does not move with a command's answer. -/
theorem State.answer_openMode (s : State) (r : Req) (info : Nat) (out : Bytes) : (s.answer r info out).openMode = s.openMode := by
  have answered : OnlyIn [.host, .zyn, .rcd, .blk, .fresh] s (s.answer r info out) := by simp
  have stands : (s.answer r info out).fenceStands = s.fenceStands := by
    simp only [State.fenceStands, answered.cal_eq, answered.srg_eq, answered.tul_eq, answered.hsh_eq, answered.pwr_eq, answered.ent_eq,
      answered.supv_eq, answered.part_eq]
  rw [State.openMode, stands, State.openMode]

theorem cerSigs_length {b : Bytes} : ∀ {n off : Nat} {es : List CerSig}, cerSigs b n off = some es → es.length = n
  | 0, off, es, read => by
    unfold cerSigs at read
    split at read
    · rw [← Option.some.inj read, List.length_nil]
    · cases read
  | n + 1, off, es, read => by
    unfold cerSigs at read
    split at read
    · cases read
    · obtain ⟨l, rest, rfl⟩ := Option.map_eq_some_iff.mp read
      rw [List.length_cons, cerSigs_length rest]

/-! ## The registry (file 15) -/

/-- A custodian is registered under its index, with its key's hash (R431). -/
def Registered (s : State) (e : CerSig) : Prop := (s.custodian e.cust).active = true ∧ (s.custodian e.cust).keyHash = sha384Bytes e.ec

theorem State.register_registers (s : State) (e : CerSig) : Registered (s.register e.cust e) e := by
  simp only [Registered, State.custodian, State.register, SMap.get_set_self, and_self]

theorem State.register_other (s : State) {i j : Nat} (other : j ≠ i) (e : CerSig) : (s.register i e).custodian j = s.custodian j := by
  simp only [State.custodian, State.register, SMap.get_set_other _ _ other]

/-- Each of the entries of a founding statement registers its custodian, and nobody else's (R432). -/
structure Founded (s : State) (es : List CerSig) (t : State) : Prop where
  frame : OnlyIn [.bkd, .lcs] s t
  changes : t.bkd.regChanges = s.bkd.regChanges
  others (i : Nat) : i ∉ es.map (·.cust) → t.custodian i = s.custodian i
  registered : (es.map (·.cust)).Nodup → ∀ e ∈ es, Registered t e

theorem State.registers (es : List CerSig) : ∀ s : State, Founded s es (es.foldl (fun t e => t.register e.cust e) s) := by
  induction es with
  | nil => exact fun s => ⟨OnlyIn.refl _ s, rfl, fun _ _ => rfl, fun _ e mem => nomatch mem⟩
  | cons e es ih =>
    intro s
    obtain ⟨frame, changes, others, registered⟩ := ih (s.register e.cust e)
    refine ⟨OnlyIn.trans (by simp) frame, changes, fun i out => ?_, fun distinct x mem => ?_⟩
    · obtain ⟨other, rest⟩ := not_or.mp (mt List.mem_cons.mpr out)
      exact (others i rest).trans (State.register_other s other e)
    · obtain ⟨fresh, rest⟩ := List.nodup_cons.mp distinct
      rcases List.mem_cons.mp mem with rfl | mem
      · rw [Registered, List.foldl_cons, others _ fresh]
        exact State.register_registers s x
      · exact registered rest x mem

/-- The length of what a list of registry entries reads as (R431). -/
theorem flatMap_length_const {α : Type} {f : α → Bytes} {n : Nat} (each : ∀ x, (f x).length = n) (l : List α) :
    (l.flatMap f).length = n * l.length := by
  rw [List.length_flatMap, List.map_congr_left (fun x _ => each x), List.map_const', List.sum_replicate, smul_eq_mul, Nat.mul_comm]

/-- The ceremony that a statement opens, with the custodians counted for it (R435, R436). -/
def ceremonyOf (b : Bytes) (quorum : List Nat) (now : Nat) : Ceremony :=
  { unlock := leAt b 6 1 == 1, steps := (List.range (leAt b 7 1)).map (cerStepAt b), next := 0, suspend := (leAt b 10 2).testBit 0,
    timeoutS := leAt b 8 2, opened := now, quorum := quorum.foldl (fun m i => m ||| (1#16 <<< i)) 0#16,
    statement := b.take (64 + 64 * leAt b 7 1), running := none }

/-- A statement of KIND 0 that passes the checks before the quorum's opens a ceremony where the quorum has signed it (R436). -/
theorem State.openCeremony_checked {s : State} {r : Req} {es : List CerSig} (form : statementOk r.bytes = true) (least : 2 ≤ r.desc.par 0 1)
    (most : r.desc.par 0 1 ≤ 8) (read : cerSigs r.bytes (r.desc.par 0 1) (64 + 64 * leAt r.bytes 7 1) = some es)
    (known : s.cerChallenge = some (slice r.bytes 32 32)) (target : slice r.bytes 16 16 = bytes128 Config.deviceIdentity)
    (kind : leAt r.bytes 6 1 = 0) (mode : s.sys.mode ≠ .locked) (idle : s.lcs.ceremony = none) :
    let l := s.counted (sha384Bytes (r.bytes.take (64 + 64 * leAt r.bytes 7 1))) es
    let lcs := { s.lcs with ceremony := some (ceremonyOf r.bytes l s.sys.optime), challenge := none }
    s.openCeremony r = if l.length < max 2 s.bkd.quorum then s.refuse r 0x0A01 l.length 0xA3
      else ({ s with lcs := lcs }.setMode .ceremony 6).answer r l.length [] := by
  have sigs : (if statementOk r.bytes = true ∧ 2 ≤ r.desc.par 0 1 ∧ r.desc.par 0 1 ≤ 8
      then cerSigs r.bytes (r.desc.par 0 1) (64 + 64 * leAt r.bytes 7 1) else none) = some es := by
    rw [if_pos ⟨form, least, most⟩, read]
  unfold State.openCeremony
  dsimp only
  rw [sigs]
  dsimp only
  rw [if_neg (not_or.mpr ⟨not_not.mpr known, not_not.mpr target⟩), if_neg (fun locked => mode locked.2),
    if_neg (fun unlock => Nat.zero_ne_one (kind.symm.trans unlock.1)), if_neg (by simp [idle])]
  rfl

/-- Settles O52: each command's checks are passed in their order, and a close goes by what entering its mode does. -/
theorem ceremoniesOpenAndClose : Obligations.CeremoniesOpenAndClose := by
  intro s r b steps stmt n
  refine ⟨fun w u turn taken => ?challenge, fun c issued => ⟨fun late => ?_, fun early => ?_⟩,
    fun es turn form least most read known target kind mode idle => ?opens, fun turn form => ?malformed,
    fun c x turn opened idle named => ⟨fun index => ?_, fun index size => ?_, fun index size hash => ?_⟩, fun turn closed => ?nothing,
    fun c turn opened idle mode => ?close, fun turn => congrArg Host.Outcome.next (turn.runs _), fun c opened => ⟨fun late => ?_, fun early => ?_⟩,
    fun es c => ?founds, fun turn founded => ?founded, fun turn => ?registry⟩
  case challenge =>
    obtain ⟨words, -⟩ := State.takeWords_some taken
    let unstalled := { u.ent with stalled := u.ent.stalled.filter (· ≠ Consumer.command r) }
    refine ⟨{ s with ent := unstalled, lcs := { s.lcs with challenge := some { bytes := wordBytes w, issued := s.sys.optime } } }, ?_,
      rfl, by simp⟩
    simp only [Answers, exec, execCerChallenge, turn.runs, State.drawFor, State.takeWords, words]
    rfl
  · simp only [exec, execCeremonyChallengeLapse, issued, if_pos late]
  · simp only [exec, execCeremonyChallengeLapse, issued, if_neg (Nat.not_le.mpr early)]
  case opens =>
    intro l
    have checked := State.openCeremony_checked form least most read known target kind mode idle
    refine ⟨fun quorum => ?_, fun few => congrArg Host.Outcome.next ((turn.runs _).trans (checked.trans (if_pos few)))⟩
    obtain ⟨t, ht⟩ : ∃ t : State, t = { s with lcs := { s.lcs with ceremony := some (ceremonyOf b l s.sys.optime), challenge := none } } :=
      ⟨_, rfl⟩
    have moved : OnlyIn [.sys, .ent, .rcd, .blk] t (t.setMode .ceremony 6) := by simp
    have unlock : (ceremonyOf b l s.sys.optime).unlock = false := by
      rw [ceremonyOf, kind]
      rfl
    refine ⟨t.setMode .ceremony 6, ceremonyOf b l s.sys.optime, ?_, by rw [moved.lcs_eq, ht], rfl, rfl, rfl, unlock, rfl, rfl, rfl,
      State.setMode_mode _ _ _, by rw [moved.lcs_eq, ht]⟩
    rw [ht]
    exact congrArg Host.Outcome.next ((turn.runs _).trans (checked.trans (if_neg (Nat.not_lt.mpr quorum))))
  case malformed =>
    have none' : (if statementOk b = true ∧ 2 ≤ n ∧ n ≤ 8 then cerSigs b n (64 + 64 * steps) else none) = none :=
      if_neg fun h => Bool.noConfusion (form.symm.trans h.1)
    refine congrArg Host.Outcome.next ((turn.runs _).trans ?_)
    unfold State.openCeremony
    dsimp only
    rw [none']
    rfl
  · refine congrArg Host.Outcome.next ((turn.runs _).trans ?_)
    simp only [opened, idle, named]
    exact if_pos index
  · refine congrArg Host.Outcome.next ((turn.runs _).trans ?_)
    simp only [opened, idle, named]
    exact (if_neg (not_not.mpr index)).trans (if_pos (.inl size))
  · refine congrArg Host.Outcome.next ((turn.runs _).trans ?_)
    simp only [opened, idle, named]
    exact (if_neg (not_not.mpr index)).trans (if_neg (not_or.mpr ⟨not_not.mpr size, fun other => other.2 (hash other.1)⟩))
  case nothing =>
    refine congrArg Host.Outcome.next ((turn.runs _).trans ?_)
    have still : (s.answer r 0 []).lcs.ceremony = none := by
      rw [(OnlyIn.answer (OnlyIn.refl [.host, .zyn, .rcd, .blk, .fresh] s) r 0 [] (List.Subset.refl _)).lcs_eq, closed]
    simp only [State.closeCeremony, still]
  case close =>
    intro u
    have answered : OnlyIn [.host, .zyn, .rcd, .blk, .fresh] s (s.answer r 0 []) := by simp
    have opened' : (s.answer r 0 []).lcs.ceremony = some c := by rw [answered.lcs_eq, opened]
    obtain ⟨mode', unlocks⟩ := State.closeCeremony_mode opened'
    refine ⟨congrArg Host.Outcome.next (turn.runs _), State.closeCeremony_ceremony _, ?_, ?_, unlocks⟩
    · exact (State.closeCeremony_l0 _).trans (by rw [answered.bkd_eq])
    · exact mode'.trans (by rw [State.answer_openMode, State.openMode])
  · exact ⟨by simp only [exec, execCeremonyTimeout, opened, if_pos late], State.closeCeremony_ceremony s⟩
  · simp only [exec, execCeremonyTimeout, opened, if_neg (Nat.not_le.mpr early)]
  case founds =>
    intro m k turn none' living m2 m8 mk k16 read known distinct signed
    have sigs : (if 2 ≤ m ∧ m ≤ 8 ∧ m ≤ k ∧ k ≤ 16 then cerSigs r.bytes k 0 else none) = some es := by
      rw [if_pos ⟨m2, m8, mk, k16⟩]
      exact read
    have good : (es.filter fun e => e.signs (sha384Bytes (foundingHeader c ++ es.flatMap fun e => sha384Bytes e.ec))).length = k := by
      rw [List.filter_eq_self.mpr signed, cerSigs_length read]
    obtain ⟨t, ht⟩ : ∃ t, t = es.foldl (fun t e => t.register e.cust e) s := ⟨_, rfl⟩
    obtain ⟨frame, changes, -, registered⟩ := State.registers es s
    rw [← ht] at frame changes registered
    refine ⟨{ t with bkd := { t.bkd with quorum := m }, lcs := { t.lcs with challenge := none } : State }.registryChanged, ?_, rfl, rfl, ?_, ?_,
      registered distinct⟩
    · refine congrArg Host.Outcome.next ((turn.runs _).trans ((if_neg (not_or.mpr ⟨not_not.mpr none', living⟩)).trans ?_))
      rw [sigs, known]
      dsimp only
      rw [if_neg (by simp [distinct]), if_neg (not_not.mpr good), ht]
    · exact congrArg (wrapAdd 32 · 1) changes
    · exact frame.trans (by simp [State.registryChanged])
  case founded =>
    exact congrArg Host.Outcome.next ((turn.runs _).trans (if_pos (.inl founded)))
  case registry =>
    refine ⟨_, congrArg Host.Outcome.next (turn.runs _), ?_, ?_⟩
    · rw [List.length_append, flatMap_length_const (n := 2056) fun x => ?_, State.custodianCount]
      · simp [leBytes_length, zeros_length]
      · simp [leBytes_length, zeros_length]
    · simp [leBytes]

/-! ## What a fold does to each key it meets -/

/-- What a step establishes of its key, and every step keeps, holds of every key of the list once they are all taken. -/
theorem foldl_establishes {α : Type} {f : State → α → State} {P : α → State → Prop} (sets : ∀ t x, P x (f t x))
    (keeps : ∀ t x y, P x t → P x (f t y)) (l : List α) : ∀ s : State, ∀ x ∈ l, P x (l.foldl f s) := by
  have kept (l : List α) (x : α) : ∀ s : State, P x s → P x (l.foldl f s) := by
    induction l with
    | nil => exact fun s h => h
    | cons y l ih => exact fun s h => ih _ (keeps s x y h)
  induction l with
  | nil => exact fun s x mem => nomatch mem
  | cons y l ih =>
    intro s x mem
    rcases List.mem_cons.mp mem with rfl | mem
    · exact kept l x _ (sets s x)
    · exact ih _ x mem

/-- Steps that each change what is read at their own key alone change it once at each key of a list without duplicates, and nowhere else. -/
theorem foldl_each {α β : Type} {f : State → α → State} {get : State → α → β} {g : α → β → β}
    (sets : ∀ t x, get (f t x) x = g x (get t x)) (others : ∀ t x y, y ≠ x → get (f t x) y = get t y) (l : List α) :
    ∀ s : State, (∀ y, y ∉ l → get (l.foldl f s) y = get s y) ∧ (l.Nodup → ∀ y ∈ l, get (l.foldl f s) y = g y (get s y)) := by
  induction l with
  | nil => exact fun s => ⟨fun _ _ => rfl, fun _ y mem => nomatch mem⟩
  | cons x l ih =>
    intro s
    obtain ⟨outside, inside⟩ := ih (f s x)
    refine ⟨fun y out => ?_, fun distinct y mem => ?_⟩
    · obtain ⟨other, rest⟩ := not_or.mp (mt List.mem_cons.mpr out)
      exact (outside y rest).trans (others s x y other)
    · obtain ⟨fresh, rest⟩ := List.nodup_cons.mp distinct
      rcases List.mem_cons.mp mem with rfl | later
      · exact (outside y fresh).trans (sets s y)
      · refine (inside rest y later).trans (congrArg (g y) (others s x y ?_))
        rintro rfl
        exact fresh later

theorem State.monitor_setMonitor_other (s : State) {i j : Nat} (other : j ≠ i) (m : Monitor) :
    (s.setMonitor i m).monitor j = s.monitor j := by
  simp only [State.monitor, State.setMonitor, SMap.get_set_other _ _ other]

theorem State.channel_setChannel_other (s : State) {i j : Nat} (other : j ≠ i) (c : Channel) :
    (s.setChannel i c).channel j = s.channel j := by
  simp only [State.channel, State.setChannel, SMap.get_set_other _ _ other]

theorem State.channel_setMonitor (s : State) (i ch : Nat) (m : Monitor) : (s.setMonitor i m).channel ch = s.channel ch := rfl

/-- A monitor keeps its suppression when any monitor's condition ends. -/
theorem State.calm_suppressed (s : State) (i j : Nat) : ((s.calm i).monitor j).suppressed = (s.monitor j).suppressed := by
  rw [State.calm]
  by_cases same : j = i
  · rw [same, State.monitor_setMonitor_self]
  · rw [State.monitor_setMonitor_other s same]

/-! ## The steps of a ceremony (file 15) -/

theorem State.runStep_does {s : State} {code reason : Nat} {ok : Ceremony → CerStep → CerRun → Bool}
    {f : CerStep → CerRun → State → State × Nat} {c : Ceremony} {st : CerStep} {x : CerRun} (now : s.stepNow code = some (c, st, x))
    (holds : ok c st x = true) : s.runStep code reason ok f = (f st x s).1.finishStep c st x (f st x s).2 := by
  simp only [State.runStep, now, holds, if_true]

theorem State.runStep_fails {s : State} {code reason : Nat} {ok : Ceremony → CerStep → CerRun → Bool}
    {f : CerStep → CerRun → State → State × Nat} {c : Ceremony} {st : CerStep} {x : CerRun} (now : s.stepNow code = some (c, st, x))
    (fails : ok c st x = false) : s.runStep code reason ok f = s.failStep c x reason := by
  simp only [State.runStep, now, fails, if_neg Bool.false_ne_true]

/-- A step that completes advances the ceremony, and the last one closes it (R438). -/
theorem State.finishStep_ceremony (s : State) (c : Ceremony) (st : CerStep) (x : CerRun) (info : Nat) :
    (c.next + 1 < c.steps.length → (s.finishStep c st x info).lcs.ceremony = some { c with running := none, next := c.next + 1 })
      ∧ (c.next + 1 = c.steps.length → (s.finishStep c st x info).lcs.ceremony = none) := by
  unfold State.finishStep
  extract_lets t u
  have noted : OnlyIn [.host, .zyn, .rcd, .blk, .fresh] (s.setCeremony { c with running := none, next := c.next + 1 }) u := by simp [u, t]
  refine ⟨fun more => ?_, fun last => ?_⟩
  · rw [if_neg (Nat.ne_of_lt more), noted.lcs_eq]
    rfl
  · rw [if_pos last]
    exact State.closeCeremony_ceremony u

/-- LOCKED before the restart of a transition, which is then pending (R426). -/
theorem State.awaitRestart_locks (s : State) : s.awaitRestart.sys.mode = .locked ∧ s.awaitRestart.lcs.restartPending = true
    ∧ s.awaitRestart.lcs.ceremony = none ∧ s.awaitRestart.lcs.otp = s.lcs.otp ∧ s.awaitRestart.lcs.challenge = s.lcs.challenge
    ∧ s.awaitRestart.bkd.l0 = s.bkd.l0 := by
  unfold State.awaitRestart
  split
  · next locked => exact ⟨locked, rfl, rfl, rfl, rfl, rfl⟩
  · obtain ⟨mode, -, -, -, lcs⟩ := State.enterLocked_ends s 11
    have kept := (KeepsAlarms.enterLocked s 11).bkd
    dsimp only
    rw [lcs, kept]
    exact ⟨mode, rfl, rfl, rfl, rfl, rfl⟩

/-- A transition begins with its mark in OTP and the erase (R425). -/
theorem State.beginTransition_begins (s : State) (tgt : Nat) : (s.beginTransition tgt).lcs = { s.lcs with otp := s.lcs.otp.program (2 * (tgt - 1)) }
    ∧ (s.beginTransition tgt).bkd.l0 = none := by
  have erased (t : State) : OnlyIn [.dmk, .bkd, .fresh] t (t.eraseLogged 2) := by simp
  refine ⟨(erased _).lcs_eq, ?_⟩
  rw [State.beginTransition, State.eraseLogged, State.logEvent_l0]
  rfl

theorem unlockStep {s : State} {c : Ceremony} {st : CerStep} {x : CerRun} (now : s.stepNow 0x01 = some (c, st, x)) :
    (s.lockingCondition = true ∨ s.bkd.logFull = true → exec .unlock s = .next (s.failStep c x 0xAA))
      ∧ (s.lockingCondition = false → s.bkd.logFull = false → ∃ u : State, exec .unlock s =
          .next (u.finishStep { c with unlock := false } st x 0) ∧ u.dmk.locked = s.lcs.dmkHold ∧ u.bkd.lockKept = false
          ∧ u.bkd.pendLock = false ∧ u.sys.deferredLock = false ∧ OnlyIn [.sys, .dmk, .lace, .bkd] s u) := by
  refine ⟨fun stands => ?_, fun clear room => ?_⟩
  · simp only [exec, execUnlock, now]
    rw [if_pos stands]
  · obtain ⟨t, ht⟩ : ∃ t, t = s.endLockAlarms := ⟨_, rfl⟩
    obtain ⟨u, hu⟩ : ∃ u : State, u = { t with
        dmk := { t.dmk with locked := t.lcs.dmkHold }, sys := { t.sys with deferredLock := false },
        bkd := { t.bkd with lockKept := false, pendLock := false } } := ⟨_, rfl⟩
    have quiet : OnlyIn [.lace] s t := by simp [ht]
    have opened : OnlyIn [.sys, .dmk, .lace, .bkd] s u := by
      rw [hu]
      exact (quiet.mono (by simp)).trans (by simp)
    have logged (code param : Nat) : OnlyIn [.bkd] u (u.logEvent code param) := by simp
    refine ⟨u.logEvent 0x0A03 c.quorum.toNat, ?_, ?_, ?_, ?_, ?_, opened.step (logged _ _) (by simp)⟩
    · simp only [exec, execUnlock, now]
      rw [if_neg (by simp [clear, room]), hu, ht]
    · rw [(logged _ _).dmk_eq, hu, ← quiet.lcs_eq]
    · rw [State.logEvent_lockKept, hu]
    · rw [State.logEvent_pendLock, hu]
    · rw [State.logEvent_sys, hu]

theorem endOfLifeStep {s : State} {c : Ceremony} {st : CerStep} {x : CerRun} (now : s.stepNow 0x02 = some (c, st, x)) :
    (s.lifeCycle ≠ 2 → exec .endOfLife s = .next (s.failStep c x 0xA7))
      ∧ (s.lifeCycle = 2 → Completes .endOfLife s fun t => t.lcs.restartPending = true
          ∧ t.lcs.otp = s.lcs.otp.program 4 ∧ t.bkd.l0 = none ∧ t.sys.mode = .locked ∧ t.lcs.ceremony = none) := by
  refine ⟨fun other => ?_, fun operates => ?_⟩
  · simp only [exec, execEndOfLife, now]
    rw [if_pos other]
  · obtain ⟨t, ht⟩ : ∃ t, t = (s.beginTransition 3).setCeremony { c with running := none, next := c.next + 1 } := ⟨_, rfl⟩
    obtain ⟨u, hu⟩ : ∃ u, u = (t.offer 0x0E02 2 c.next 0).answer x.req 0 [] := ⟨_, rfl⟩
    have runs : exec .endOfLife s = .next u.awaitRestart := by
      simp only [exec, execEndOfLife, now]
      rw [if_neg (not_not.mpr operates), hu, ht]
    have noted : OnlyIn [.host, .zyn, .rcd, .blk, .fresh] t u := by simp [hu]
    obtain ⟨begun, erased⟩ := s.beginTransition_begins 3
    obtain ⟨mode, pending, ceremony, otp, -, l0⟩ := u.awaitRestart_locks
    refine ⟨_, runs, pending, ?_, ?_, mode, ceremony⟩
    · rw [otp, noted.lcs_eq, ht, State.setCeremony, begun]
    · rw [l0, noted.bkd_eq, ht, State.setCeremony, erased]

theorem rootGenStep {s : State} {c : Ceremony} {st : CerStep} {x : CerRun} (now : s.stepNow 0x03 = some (c, st, x)) :
    (s.lifeCycle ≠ 2 ∨ s.bkd.l0 ≠ none → exec .rootGen s = .next (s.failStep c x 0xA7))
      ∧ (∀ w v, s.lifeCycle = 2 → s.bkd.l0 = none → s.takeWords 2 = some (w, v) → wordBytes w ≠ zeros 32 →
          ∃ u : State, exec .rootGen s = .next (u.finishStep c st x 0) ∧ u.bkd.l0 = some (wordBytes w) ∧ u.bkd.erased = false
            ∧ OnlyIn [.dmk, .ent, .bkd] s u) := by
  refine ⟨fun unfit => ?_, fun w v operates none' taken other => ?_⟩
  · have unfit' : s.lifeCycle ≠ 2 ∨ s.bkd.l0.isSome = true := unfit.imp id Option.isSome_iff_ne_none.mpr
    simp only [exec, execRootGen, now]
    rw [if_pos unfit']
  · refine ⟨v.generateRoot (wordBytes w), ?_, rfl, rfl, ?_⟩
    · simp only [exec, execRootGen, now]
      rw [if_neg (by simp [operates, none']), taken]
      dsimp only
      rw [if_neg other]
    · exact ((OnlyIn.takeWords taken).mono (by simp)).trans (by simp [State.generateRoot])

/-! ### Steps on the registry (R437) -/

theorem custAddStep {s : State} {c : Ceremony} {st : CerStep} {x : CerRun} (now : s.stepNow 0x04 = some (c, st, x)) :
    (newCustodian x = none → exec .custAdd s = .next (s.failStep c x 0xA7))
      ∧ (∀ e, newCustodian x = some e → s.freeCustodian < 16 →
          (s.bkd.custodians.any fun y => y.2.active && decide (y.2.keyHash = sha384Bytes e.ec)) = false →
          e.signs (sha384Bytes c.statement) = true → ∃ u : State, exec .custAdd s = .next (u.finishStep c st x s.freeCustodian)
            ∧ (u.custodian s.freeCustodian).active = true ∧ (u.custodian s.freeCustodian).keyHash = sha384Bytes e.ec
              ∧ (∀ i, i ≠ s.freeCustodian → u.custodian i = s.custodian i)
              ∧ u.bkd.regChanges = wrapAdd 32 s.bkd.regChanges 1 ∧ OnlyIn [.bkd, .lcs] s u) := by
  refine ⟨fun none' => ?_, fun e some' room fresh signed => ?_⟩
  · simp only [exec, execCustAdd, now, none']
  · obtain ⟨active, hash⟩ : ((s.register s.freeCustodian e).custodian s.freeCustodian).active = true
        ∧ ((s.register s.freeCustodian e).custodian s.freeCustodian).keyHash = sha384Bytes e.ec := by
      simp only [State.custodian, State.register, SMap.get_set_self, and_self]
    refine ⟨(s.register s.freeCustodian e).registryChanged, ?_, active, hash, fun i other => s.register_other other e, rfl, by simp⟩
    simp only [exec, execCustAdd, now, some']
    rw [if_neg (by simp [room, fresh, signed])]

theorem custRemoveStep {s : State} {c : Ceremony} {st : CerStep} {x : CerRun} (now : s.stepNow 0x05 = some (c, st, x))
    (active : (s.custodian st.arg0).active = true) :
    (max 2 s.bkd.quorum ≤ s.custodianCount - 1 → ∃ u : State, exec .custRemove s = .next (u.finishStep c st x 0)
        ∧ u.custodian st.arg0 = Custodian.none ∧ (∀ i, i ≠ st.arg0 → u.custodian i = s.custodian i)
        ∧ u.bkd.regChanges = wrapAdd 32 s.bkd.regChanges 1 ∧ OnlyIn [.bkd, .lcs] s u)
      ∧ (s.custodianCount - 1 < max 2 s.bkd.quorum → exec .custRemove s = .next (s.failStep c x 0xA7)) := by
  refine ⟨fun many => ⟨(s.unregister st.arg0).registryChanged, ?_, ?_, fun i other => ?_, rfl, by simp⟩, fun few => ?_⟩
  · exact congrArg Host.Outcome.next (State.runStep_does now (by simp only [active, decide_eq_true many, Bool.and_self]))
  · exact SMap.get_drop_self ..
  · exact SMap.get_drop_other _ other _
  · refine congrArg Host.Outcome.next (State.runStep_fails now ?_)
    rw [decide_eq_false (Nat.not_le.mpr few), Bool.and_false]

theorem quorumSetStep {s : State} {c : Ceremony} {st : CerStep} {x : CerRun} (now : s.stepNow 0x06 = some (c, st, x)) :
    (2 ≤ st.arg0 → st.arg0 ≤ 8 → st.arg0 ≤ s.custodianCount → ∃ u : State, exec .quorumSet s = .next (u.finishStep c st x 0)
        ∧ u.bkd.quorum = st.arg0 ∧ u.bkd.custodians = s.bkd.custodians
          ∧ u.bkd.regChanges = wrapAdd 32 s.bkd.regChanges 1 ∧ OnlyIn [.bkd] s u)
      ∧ (st.arg0 < 2 ∨ 8 < st.arg0 ∨ s.custodianCount < st.arg0 → exec .quorumSet s = .next (s.failStep c x 0xA7)) := by
  refine ⟨fun least most present => ⟨{ s with bkd := { s.bkd with quorum := st.arg0 } : State }.registryChanged, ?_, rfl, rfl, rfl, ?_⟩,
    fun outside => ?_⟩
  · exact congrArg Host.Outcome.next (State.runStep_does now (by
      simp only [decide_eq_true least, decide_eq_true most, decide_eq_true present, Bool.and_self]))
  · simp [State.registryChanged]
  · refine congrArg Host.Outcome.next (State.runStep_fails now ?_)
    rcases outside with few | many | absent
    · simp only [decide_eq_false (Nat.not_le.mpr few), Bool.false_and]
    · simp only [decide_eq_false (Nat.not_le.mpr many), Bool.and_false, Bool.false_and]
    · simp only [decide_eq_false (Nat.not_le.mpr absent), Bool.and_false]

/-! ### Steps on the mesh, the pins and the owners (R401, R404, R437) -/

theorem State.cutStimulus_stim (s : State) : s.cutStimulus.lace.stim = none := by
  unfold State.cutStimulus
  split
  · assumption
  · rfl

theorem State.suppressed_stim (l : List Nat) : ∀ s : State,
    (l.foldl (fun v ch => v.setMonitor ch { v.monitor ch with suppressed := true }) s).lace.stim = s.lace.stim := by
  induction l with
  | nil => exact fun s => rfl
  | cons ch l ih => exact fun s => ih _

theorem meshEnrolStep {s : State} {c : Ceremony} {st : CerStep} {x : CerRun} (now : s.stepNow 0x07 = some (c, st, x))
    (idle : s.lace.enrolling = none) :
    let en := bitmapChannels (x.data.take 56)
    let wd := bitmapChannels (slice x.data 56 56)
    (x.data.length = 112 → 2 ≤ st.arg0 → st.arg0 ≤ 16 → (en.any (wd.contains ·)) = false →
        Completes .meshEnrol s fun t => t.lace.enrolling = some { enrol := en, withdraw := wd, margin := st.arg0 }
          ∧ t.lace.stim = none ∧ (∀ ch ∈ en, (t.monitor ch).suppressed = true) ∧ OnlyIn [.lace] s t)
      ∧ (x.data.length ≠ 112 → exec .meshEnrol s = .next (s.failStep c x 0xA7)) := by
  intro en wd
  have notYet : ¬ s.lace.enrolling.isSome = true := by simp [idle]
  refine ⟨fun length least most apart => ?_, fun length => ?_⟩
  · obtain ⟨t, ht⟩ : ∃ t, t = s.cutStimulus := ⟨_, rfl⟩
    obtain ⟨u, hu⟩ : ∃ u, u = en.foldl (fun v ch => v.setMonitor ch { v.monitor ch with suppressed := true }) t := ⟨_, rfl⟩
    have cut : OnlyIn [.lace] s t := by simp [ht]
    have set : OnlyIn [.lace] t u := by
      rw [hu]
      exact OnlyIn.foldl _ (fun v ch => by simp) _ t
    have stim : u.lace.stim = none := by
      rw [hu, State.suppressed_stim, ht]
      exact s.cutStimulus_stim
    refine ⟨{ u with lace := { u.lace with
      stimAsked := none, stimDue := [], enrolling := some { enrol := en, withdraw := wd, margin := st.arg0 } } }, ?_, rfl, stim, ?_,
      (cut.trans set).trans (by simp)⟩
    · simp only [exec, execMeshEnrol, now]
      rw [if_neg notYet, if_neg (not_or.mpr ⟨not_not.mpr length, not_or.mpr ⟨Nat.not_lt.mpr least, not_or.mpr ⟨Nat.not_lt.mpr most, ?_⟩⟩⟩)]
      · rw [hu, ht]
      · exact fun both => Bool.noConfusion (apart.symm.trans both)
    · intro ch mem
      show (u.monitor ch).suppressed = true
      rw [hu]
      refine foldl_establishes (P := fun ch v => (v.monitor ch).suppressed = true) (fun v ch => ?_) (fun v ch other quiet => ?_) en t ch mem
      · rw [State.monitor_setMonitor_self]
      · by_cases same : ch = other
        · rw [same, State.monitor_setMonitor_self]
        · rw [State.monitor_setMonitor_other v same, quiet]
  · simp only [exec, execMeshEnrol, now]
    rw [if_neg notYet, if_pos (.inl length)]

/-- A channel of an enrolment takes what its fingerprints make of it, and its monitor speaks again (R401). -/
def State.enrolChannel (margin : Nat) (prints : List (Nat × List (List Nat))) (t : State) (ch : Nat) : State :=
  (t.setChannel ch ((t.channel ch).enrolWith margin (((prints.find? fun p => p.1 == ch).map (·.2)).getD []))).setMonitor ch
    { t.monitor ch with suppressed := false }

/-- A channel withdrawn is as one never enrolled, and its condition ends (R401). -/
def State.withdrawChannel (t : State) (ch : Nat) : State := (t.setChannel ch Channel.rest).calm ch

theorem State.enrolChannels (margin : Nat) (prints : List (Nat × List (List Nat))) {l : List Nat} (distinct : l.Nodup) (s : State) :
    ∀ ch ∈ l, ((l.foldl (State.enrolChannel margin prints) s).monitor ch).suppressed = false
      ∧ (l.foldl (State.enrolChannel margin prints) s).channel ch
        = (s.channel ch).enrolWith margin (((prints.find? fun p => p.1 == ch).map (·.2)).getD []) := by
  intro ch mem
  refine ⟨?_, ?_⟩
  · refine foldl_establishes (P := fun ch v => (v.monitor ch).suppressed = false) (fun v ch => ?_) (fun v ch other speaks => ?_) l s ch mem
    · rw [State.enrolChannel, State.monitor_setMonitor_self]
    · rw [State.enrolChannel]
      by_cases same : ch = other
      · rw [same, State.monitor_setMonitor_self]
      · rw [State.monitor_setMonitor_other _ same]
        exact speaks
  · refine (foldl_each (get := State.channel) (g := fun ch c => c.enrolWith margin (((prints.find? fun p => p.1 == ch).map (·.2)).getD []))
      (fun v ch => ?_) (fun v ch other apart => ?_) l s).2 distinct ch mem
    · exact State.channel_setChannel_self v ch _
    · exact State.channel_setChannel_other v apart _

theorem State.withdrawChannels (l : List Nat) (s : State) :
    (∀ ch ∈ l, (l.foldl State.withdrawChannel s).channel ch = Channel.rest)
      ∧ (∀ ch, ch ∉ l → (l.foldl State.withdrawChannel s).channel ch = s.channel ch)
      ∧ ∀ ch, ((l.foldl State.withdrawChannel s).monitor ch).suppressed = (s.monitor ch).suppressed := by
  have self (v : State) (ch : Nat) : (v.withdrawChannel ch).channel ch = Channel.rest := by
    rw [State.withdrawChannel, State.calm, State.channel_setMonitor, State.channel_setChannel_self]
  have other (v : State) (ch j : Nat) (apart : j ≠ ch) : (v.withdrawChannel ch).channel j = v.channel j := by
    rw [State.withdrawChannel, State.calm, State.channel_setMonitor, State.channel_setChannel_other v apart]
  refine ⟨fun ch mem => ?_, fun ch out => ?_, fun ch => ?_⟩
  · refine foldl_establishes (P := fun ch v => v.channel ch = Channel.rest) self (fun v ch j rest => ?_) l s ch mem
    by_cases same : ch = j
    · rw [same, self]
    · rw [other v j ch same, rest]
  · exact (foldl_each (get := State.channel) (g := fun _ _ => Channel.rest) self other l s).1 ch out
  · induction l generalizing s with
    | nil => rfl
    | cons j l ih =>
      refine (ih (s.withdrawChannel j)).trans ?_
      exact State.calm_suppressed _ j ch

theorem meshEnrolmentDoneStep {s : State} {c : Ceremony} {st : CerStep} {x : CerRun} (now : s.stepNow 0x07 = some (c, st, x)) {e : Enrolment}
    (ps : List (Nat × List (List Nat))) (enrols : s.lace.enrolling = some e) (distinct : e.enrol.Nodup) (apart : ∀ ch ∈ e.enrol, ch ∉ e.withdraw) :
    ∃ u : State, exec (.meshEnrolmentDone ps) s = .next (u.finishStep c st x 0) ∧ u.lace.enrolling = none ∧ OnlyIn [.lace, .bkd] s u
      ∧ (∀ ch ∈ e.withdraw, u.channel ch = Channel.rest)
      ∧ (∀ ch ∈ e.enrol, (u.monitor ch).suppressed = false
          ∧ u.channel ch = (s.channel ch).enrolWith e.margin (((ps.find? fun p => p.1 == ch).map (·.2)).getD [])) := by
  obtain ⟨a, ha⟩ : ∃ a, a = e.enrol.foldl (State.enrolChannel e.margin ps) s := ⟨_, rfl⟩
  obtain ⟨b, hb⟩ : ∃ b, b = e.withdraw.foldl State.withdrawChannel a := ⟨_, rfl⟩
  obtain ⟨t, ht⟩ : ∃ t : State, t = { b with lace := { b.lace with enrolling := none } } := ⟨_, rfl⟩
  obtain ⟨n, hn⟩ : ∃ n, n = (e.enrol.filter fun ch => !(b.channel ch).rejected).length * 2 ^ 16 + e.withdraw.length := ⟨_, rfl⟩
  have runs : exec (.meshEnrolmentDone ps) s = .next ((t.logEvent 0x0A05 n).finishStep c st x 0) := by
    simp only [exec, execMeshEnrolmentDone, enrols, now]
    rw [hn, ht, hb, ha]
    rfl
  have enrolled := State.enrolChannels e.margin ps distinct s
  obtain ⟨withdrawn, others, speaks⟩ := State.withdrawChannels e.withdraw a
  rw [← ha] at enrolled
  rw [← hb] at withdrawn others speaks
  have frame : OnlyIn [.lace] s t := by
    have one (v : State) (ch : Nat) : OnlyIn [.lace] v (State.enrolChannel e.margin ps v ch) := by simp [State.enrolChannel]
    have other (v : State) (ch : Nat) : OnlyIn [.lace] v (v.withdrawChannel ch) := by simp [State.withdrawChannel]
    have first : OnlyIn [.lace] s a := by
      rw [ha]
      exact OnlyIn.foldl _ one _ s
    have second : OnlyIn [.lace] a b := by
      rw [hb]
      exact OnlyIn.foldl _ other _ a
    rw [ht]
    exact (first.trans second).trans (by simp)
  have channel (ch : Nat) : (t.logEvent 0x0A05 n).channel ch = b.channel ch := by rw [State.channel, State.logEvent_lace, ht]; rfl
  have monitor (ch : Nat) : (t.logEvent 0x0A05 n).monitor ch = b.monitor ch := by rw [State.monitor, State.logEvent_lace, ht]; rfl
  refine ⟨_, runs, by rw [State.logEvent_lace, ht], (frame.mono (by simp)).logEvent _ _ (by simp), fun ch mem => ?_,
    fun ch mem => ?_⟩
  · rw [channel, withdrawn ch mem]
  · obtain ⟨quiet, set⟩ := enrolled ch mem
    rw [monitor, speaks, channel, others ch (apart ch mem)]
    exact ⟨quiet, set⟩

theorem intrConfigStep {s : State} {c : Ceremony} {st : CerStep} {x : CerRun} (now : s.stepNow 0x08 = some (c, st, x)) :
    let v := BitVec.ofNat 16 st.arg0
    (pairsOk v = true → ∃ u : State, exec .intrConfig s = .next (u.finishStep c st x 0) ∧ u.bkd.intrcfg = v ∧ OnlyIn [.lace, .bkd] s u)
      ∧ (pairsOk v = false → exec .intrConfig s = .next (s.failStep c x 0xA7)) := by
  intro v
  refine ⟨fun pairs => ⟨s.setPins v, congrArg Host.Outcome.next (State.runStep_does now pairs), ?_, by simp⟩,
    fun unpaired => congrArg Host.Outcome.next (State.runStep_fails now unpaired)⟩
  unfold State.setPins
  split
  · next same => exact same.symm
  · have calmed (t : State) : OnlyIn [.lace] t ((List.range 8).foldl (fun u pin => u.calm (0x200 + pin)) t) :=
      OnlyIn.foldl _ (fun w pin => by simp) _ t
    have logged (t : State) (code param : Nat) : (t.logEvent code param).bkd.intrcfg = t.bkd.intrcfg := by
      unfold State.logEvent
      split <;> rfl
    exact (logged _ _ _).trans (by rw [(calmed _).bkd_eq])

theorem ownerMoveStep {s : State} {c : Ceremony} {st : CerStep} {x : CerRun} (now : s.stepNow 0x0B = some (c, st, x)) {node : Node}
    (named : s.node (st.arg0 % 65536) = some node) (own : s.ownNode node = true) (counted : node.limit ≠ 0) :
    ∃ u : State, exec .ownerMove s = .next (u.finishStep c st x 0)
      ∧ u.node (st.arg0 % 65536) = some { node with owner := st.arg1 % 65536 } ∧ OnlyIn [.dmk] s u := by
  have index (n : Nat) : bits n 0 16 = n % 65536 := by simp [bits]
  obtain ⟨d, hd⟩ : ∃ d, d = s.dmk.retireCounts node.tenant (st.arg0 % 65536) node.limit := ⟨_, rfl⟩
  refine ⟨{ s with dmk := { d with
    nodes := SMap.set none d.nodes (st.arg0 % 65536) (some { node with owner := st.arg1 % 65536 }) } }, ?_, by rw [State.node, SMap.get_set_self], by simp⟩
  refine congrArg Host.Outcome.next ((State.runStep_does now ?_).trans ?_)
  · rw [index, named]
    simp [own, counted]
  · simp only [index, named, hd]

theorem ownerSetStep {s : State} {c : Ceremony} {st : CerStep} {x : CerRun} (now : s.stepNow 0x0D = some (c, st, x)) :
    (s.lifeCycle = 2 → s.lcs.otp.ownerBit = false → x.data.length = 97 → ∃ u : State, exec .ownerSet s = .next (u.finishStep c st x 0)
        ∧ u.lcs.otp.ownerBit = true ∧ u.lcs.otp.ownerHash = sha384Bytes x.data ∧ u.lcs.otp.marks = s.lcs.otp.marks ∧ OnlyIn [.lcs] s u)
      ∧ (s.lcs.otp.ownerBit = true → exec .ownerSet s = .next (s.failStep c x 0xA7)) := by
  refine ⟨fun operates unset length => ⟨_, congrArg Host.Outcome.next (State.runStep_does now ?_), rfl, rfl, rfl, by simp⟩, fun set => ?_⟩
  · simp only [operates, unset, length, decide_true, Bool.not_false, Bool.and_self]
  · refine congrArg Host.Outcome.next (State.runStep_fails now ?_)
    simp only [set, Bool.not_true, Bool.and_false, Bool.false_and]

/-- Settles O53: each step is read at its precondition, and what it does is written as the state that it finishes in. -/
theorem stepsOfCeremonies : Obligations.StepsOfCeremonies := by
  intro s c st x fails does
  refine ⟨s.finishStep_ceremony c st x, unlockStep,
    fun now => ⟨(endOfLifeStep now).1, fun operates _ => (endOfLifeStep now).2 operates⟩, rootGenStep, custAddStep, custRemoveStep, quorumSetStep, fun now => ?_,
    intrConfigStep, fun k node now here named own counted => ?_, ownerSetStep⟩
  · intro en wd
    exact ⟨fun idle => (meshEnrolStep now idle).1, fun idle => (meshEnrolStep now idle).2,
      fun e ps enrols distinct apart => meshEnrolmentDoneStep now ps enrols distinct apart⟩
  · subst here
    exact ownerMoveStep now named own counted

/-! ## The life cycle in OTP (file 15) -/

theorem Otp.isSet_program_self (o : Otp) {k : Nat} (word : k < 6) : (o.program k).isSet k = true := by
  have ones : popcount 0xFFFFFFFF#32 = 32 := by decide
  simp [Otp.isSet, Otp.program, word, ones]

theorem Otp.isSet_program_other (o : Otp) {k j : Nat} (other : j ≠ k) : (o.program k).isSet j = o.isSet j := by
  simp [Otp.isSet, Otp.program, other.symm]

/-- An interrupted transition is the one that OTP shows once both of its marks are programmed (R425, R426). -/
theorem Otp.lcs_finished {o : Otp} {tgt : Nat} (interrupted : o.interrupted = some tgt) :
    ((o.program (2 * (tgt - 1))).program (2 * (tgt - 1) + 1)).lcs = tgt := by
  have begun := List.find?_some interrupted
  have below : o.lcs < tgt := of_decide_eq_true (Bool.and_eq_true _ _ ▸ begun).1
  have mem := List.mem_of_find?_eq_some interrupted
  simp only [List.mem_cons, List.not_mem_nil, or_false] at mem
  unfold Otp.lcs at below
  rcases mem with rfl | rfl | rfl
  · simp [Otp.lcs, Otp.isSet_program_self]
  · have unset : o.isSet 5 = false := by
      by_contra set
      simp [Bool.eq_true_of_not_eq_false set] at below
    simp [Otp.lcs, Otp.isSet_program_self, Otp.isSet_program_other, unset]
  · have unset : o.isSet 5 = false := by
      by_contra set
      simp [Bool.eq_true_of_not_eq_false set] at below
    have operate : o.isSet 3 = false := by
      by_contra set
      simp [Bool.eq_true_of_not_eq_false set, unset] at below
    simp [Otp.lcs, Otp.isSet_program_self, Otp.isSet_program_other, unset, operate]

/-- What the completion of a transition leaves (R425, R433). -/
theorem State.finishTransition_finishes {s : State} {tgt : Nat} (interrupted : s.lcs.otp.interrupted = some tgt) :
    (s.finishTransition tgt).lifeCycle = tgt ∧ (s.finishTransition tgt).bkd.l0 = none ∧ (s.finishTransition tgt).bkd.custodians = []
      ∧ (s.finishTransition tgt).dmk.keyc = [] ∧ (s.finishTransition tgt).dmk.ctx = s.dmk.ctx
      ∧ (s.finishTransition tgt).lcs.scanning = s.lcs.scanning
      ∧ OnlyIn [.img, .dmk, .lace, .bkd, .lcs, .fresh] s (s.finishTransition tgt) := by
  obtain ⟨a, ha⟩ : ∃ a, a = s.eraseLogged 2 := ⟨_, rfl⟩
  obtain ⟨b, hb⟩ : ∃ b, b = a.clearCustody.transitionStore tgt := ⟨_, rfl⟩
  obtain ⟨c, hc⟩ : ∃ c, c = b.logEvent 0x0A04 (256 * s.lifeCycle + tgt) := ⟨_, rfl⟩
  have finished : s.finishTransition tgt
      = { c with lcs := { c.lcs with otp := (c.lcs.otp.program (2 * (tgt - 1))).program (2 * (tgt - 1) + 1) } } := by
    rw [hc, hb, ha]
    rfl
  have erased : OnlyIn [.dmk, .bkd, .fresh] s a := by simp [ha]
  have cleared : OnlyIn [.img, .dmk, .bkd, .lcs, .lace] a b := by simp [hb]
  have logged : OnlyIn [.bkd] b c := by simp [hc]
  have log (t : State) (code param : Nat) : (t.logEvent code param).bkd.custodians = t.bkd.custodians := by
    unfold State.logEvent
    split <;> rfl
  have store : b.lcs.otp = a.lcs.otp ∧ b.lcs.scanning = a.lcs.scanning ∧ b.bkd.l0 = a.bkd.l0 ∧ b.bkd.custodians = [] ∧ b.dmk.keyc = a.dmk.keyc ∧ b.dmk.ctx = a.dmk.ctx := by
    rw [hb, State.transitionStore]
    split
    · exact ⟨rfl, rfl, rfl, rfl, rfl, rfl⟩
    split <;> exact ⟨rfl, rfl, rfl, rfl, rfl, rfl⟩
  obtain ⟨otp, scan, l0, custodians, keyc, ctx⟩ := store
  have keys : a.bkd.l0 = none ∧ a.dmk.keyc = [] ∧ a.dmk.ctx = s.dmk.ctx := by
    rw [ha, State.eraseLogged, State.logEvent_l0, (OnlyIn.logEvent (OnlyIn.refl [.bkd] _) _ _ (by simp)).dmk_eq]
    exact ⟨rfl, rfl, rfl⟩
  obtain ⟨gone, wiped, contexts⟩ := keys
  rw [finished]
  refine ⟨?_, ?_, ?_, ?_, ?_, ?_, ?_⟩
  · rw [State.lifeCycle, logged.lcs_eq, otp, erased.lcs_eq]
    exact Otp.lcs_finished interrupted
  · rw [hc, State.logEvent_l0, l0, gone]
  · rw [hc, log, custodians]
  · rw [logged.dmk_eq, keyc, wiped]
  · rw [logged.dmk_eq, ctx, contexts]
  · rw [logged.lcs_eq, scan, erased.lcs_eq]
  · exact (((erased.mono (by simp)).trans (cleared.mono (by simp))).trans (logged.mono (by simp))).trans (by simp)

/-- What the ROM's resumption of a transition leaves (R426). -/
structure TransitionResumed (s t : State) : Prop where
  frame : OnlyIn [.sys, .img, .dmk, .lace, .bkd, .lcs, .fresh] s t
  keys : s.dmk.keyc = [] ∧ s.dmk.ctx = [] → t.dmk.keyc = [] ∧ t.dmk.ctx = []
  scan : t.lcs.scanning = s.lcs.scanning
  none (clean : s.lcs.otp.interrupted = Option.none) : t.lcs = s.lcs
  some (tgt : Nat) : s.lcs.otp.interrupted = Option.some tgt →
    t.lifeCycle = tgt ∧ t.bkd.l0 = Option.none ∧ t.bkd.custodians = [] ∧ t.sys.lcResumed = true

theorem State.resumeTransition_resumed (s : State) : TransitionResumed s s.resumeTransition := by
  cases interrupted : s.lcs.otp.interrupted with
  | none =>
    rw [resumeTransition_eq_self interrupted]
    exact ⟨OnlyIn.refl _ s, id, rfl, fun _ => rfl, fun tgt open' => absurd (interrupted.symm.trans open') (by simp)⟩
  | some tgt =>
    obtain ⟨lcs, l0, custodians, keyc, ctx, scan, frame⟩ := State.finishTransition_finishes interrupted
    rw [State.resumeTransition, interrupted]
    refine ⟨(frame.mono (by simp)).trans (by simp), fun empty => ⟨keyc, ctx.trans empty.2⟩, scan,
      fun clean => absurd (interrupted.symm.trans clean) (by simp), fun tgt' same => ?_⟩
    obtain rfl := Option.some.inj (interrupted.symm.trans same)
    exact ⟨lcs, l0, custodians, rfl⟩

/-- A start of the main domain: the ROM resumes what it finds open, from a state whose volatile part is at its reset values. -/
structure MainStarted (s : State) (cause : Nat) (t : State) : Prop where
  mode : t.sys.mode = .boot
  cause : t.sys.cause = cause
  on : t.onMain = true
  scan : t.lcs.scanning = false
  volatile : Volatile { t with mem := Memory.reset }
  otp : s.lcs.otp.interrupted = Option.none → t.lcs.otp = s.lcs.otp
  resumed (tgt : Nat) : s.lcs.otp.interrupted = Option.some tgt →
    t.lifeCycle = tgt ∧ t.bkd.l0 = Option.none ∧ t.bkd.custodians = [] ∧ t.sys.lcResumed = true

theorem State.mainStart_starts (s : State) (cause : Nat) (ok : Bool) : MainStarted s cause (s.mainStart cause ok) := by
  obtain ⟨t1, ht1⟩ : ∃ t1 : State, t1 = { s.mainReset with
    sys := { s.mainReset.sys with
      mode := .boot, prev := s.sys.mode, cause := cause, thermOff := s.sys.thermOff && decide (s.sys.mode = Mode.backup) }
    pwr := { s.mainReset.pwr with railsOk := true, bkdOnMain := true }
    bkd := { s.mainReset.bkd with pwrcyc := satAdd 32 s.mainReset.bkd.pwrcyc 1 } } := ⟨_, rfl⟩
  obtain ⟨a, ha⟩ : ∃ a, a = t1.offer 0x0001 s.sys.mode.code Mode.boot.code cause := ⟨_, rfl⟩
  obtain ⟨v, hv⟩ : ∃ v, v = if a.bkd.intact then a else a.reinitBackup := ⟨_, rfl⟩
  obtain ⟨w, hw⟩ : ∃ w, w = v.resumeTransition.checkRoots.checkBaselines := ⟨_, rfl⟩
  have runs : s.mainStart cause ok = a.romRuns ok := by
    rw [ha, ht1]
    rfl
  have ran : a.romRuns ok = (let u := { w with mem := (w.mem.initClass 6).initClass 5, img := { w.img with challenge := none } }
      if ok then u else { u with sys := { u.sys with romFailed := true, bootErr := 1 } }) := by
    rw [hw, hv]
    rfl
  have offered : OnlyIn [.rcd] t1 a := by simp [ha]
  have backup : OnlyIn [.sys, .lace, .bkd, .fresh] a v ∧ v.lace.romTable = a.lace.romTable := by
    rw [hv]
    split
    · exact ⟨OnlyIn.refl _ a, rfl⟩
    · exact ⟨by simp, by simp [State.reinitBackup]⟩
  obtain ⟨again, table⟩ := backup
  have rom : a.lace.romTable = true := by rw [offered.lace_eq, ht1]; rfl
  obtain ⟨frame, keys, scan, clean, resumes⟩ := v.resumeTransition_resumed
  have table' := (Resumed.resumeTransition v).table.trans (table.trans rom)
  have roots := OnlyNoted.checkRoots table'
  have noted := roots.trans (OnlyNoted.checkBaselines (roots.table.trans table'))
  rw [← hw] at noted
  have last : OnlyIn [.sys, .img, .mem] w (a.romRuns ok) ∧ (a.romRuns ok).sys.lcResumed = w.sys.lcResumed := by
    rw [ran]
    cases ok <;> exact ⟨by simp, rfl⟩
  obtain ⟨ends, flag⟩ := last
  obtain ⟨mode, cause', -, -, -, boot, -, -, -⟩ := State.romRuns_ran rom ok
  have whole : OnlyIn [.sys, .img, .dmk, .mem, .lace, .bkd, .lcs, .rcd, .fresh] t1 (a.romRuns ok) :=
    ((((offered.mono (by simp)).trans (again.mono (by simp))).trans (frame.mono (by simp))).trans (noted.frame.mono (by simp))).trans
      (ends.mono (by simp))
  have start : v.dmk = s.dmk.kept ∧ v.lcs = s.lcs.kept := by
    rw [again.dmk_eq, offered.dmk_eq, again.lcs_eq, offered.lcs_eq, ht1]
    exact ⟨rfl, rfl⟩
  obtain ⟨dmk, lcs⟩ := start
  have empty := keys (by rw [dmk]; exact ⟨rfl, rfl⟩)
  have sys : a.sys.mode = .boot ∧ a.sys.cause = cause := by rw [offered.sys_eq, ht1]; exact ⟨rfl, rfl⟩
  rw [runs]
  refine ⟨mode.trans sys.1, cause'.trans sys.2, ?_, ?_, ?_, fun none' => ?_, fun tgt some' => ?_⟩
  · rw [State.onMain, State.powered, mode, boot, sys.1, offered.boot_eq, ht1]
    rfl
  · rw [ends.lcs_eq, noted.frame.lcs_eq, scan, lcs]
    rfl
  · refine ⟨rfl, ?_, ?_, ?_, ?_, ?_, ?_, ?_, ?_, ?_, ?_, ?_, ?_⟩
    · exact (congrArg Damask.keyc (ends.dmk_eq.trans noted.frame.dmk_eq)).trans empty.1
    · exact (congrArg Damask.ctx (ends.dmk_eq.trans noted.frame.dmk_eq)).trans empty.2
    all_goals dsimp only
    · rw [whole.twl_eq, ht1]; rfl
    · rw [whole.host_eq, ht1]; rfl
    · rw [whole.zyn_eq, ht1]; rfl
    · rw [whole.cal_eq, ht1]; rfl
    · rw [whole.srg_eq, ht1]; rfl
    · rw [whole.tul_eq, ht1]; rfl
    · rw [whole.hsh_eq, ht1]; rfl
    · rw [whole.gate_eq, ht1]; rfl
    · rw [whole.blk_eq, ht1]; rfl
    · rw [whole.rwp_eq, ht1]; rfl
  · rw [ends.lcs_eq, noted.frame.lcs_eq, clean (by rw [lcs]; exact none'), lcs]
    rfl
  · obtain ⟨tgt', l0, custodians, resumed⟩ := resumes tgt (by rw [lcs]; exact some')
    rw [State.lifeCycle, ends.lcs_eq, noted.frame.lcs_eq, ends.bkd_eq, noted.bkd, flag, noted.sys]
    exact ⟨tgt', l0, custodians, resumed⟩

/-! ## The access port (file 15) -/

/-- The state of a port that has opened a session (R439). -/
def State.dapOpened (s : State) : State :=
  { s.tapSelect .dap true with lcs := { (s.tapSelect .dap true).lcs with attached := true } }

theorem State.dapRequest_open {s : State} (ready : s.tapReady = true) {ok : Bool} (may : ok = true) (f : State → State) :
    s.dapRequest ok f = f s.dapOpened := by
  rw [State.dapRequest, if_neg (by simp [ready]), if_pos may]
  rfl

theorem State.dapRequest_refused {s : State} (ready : s.tapReady = true) {ok : Bool} (may : ok = false) (f : State → State) :
    s.dapRequest ok f = s.tapSelect .dap false := by
  rw [State.dapRequest, if_neg (by simp [ready]), if_neg (by simp [may])]

theorem State.debugDenial_opened (s : State) (w : World) (a : Nat) (write : Bool) :
    s.dapOpened.debugDenial w a write = s.debugDenial w a write := rfl

/-- A debugger's access to memory by the rights of its world and the gates (R440). -/
theorem debuggerMemory {s : State} (w : World) {a size : Nat} (ready : s.tapReady = true) (ok : accessOk a size = true)
    (memory : isRegister a = false) (lies : mapped a = true) :
    (s.dapWorld w false = false → exec (.dapMemoryRead w a size) s = .next (s.tapSelect .dap false))
      ∧ (s.dapWorld w false = true → s.debugDenial w a false ≠ 0 → exec (.dapMemoryRead w a size) s =
          .next ((s.dapOpened.noteDenial 31 w false true a (s.debugDenial w a false)).dapAnswer (zeros size)))
      ∧ (s.dapWorld w false = true → s.debugDenial w a false = 0 → classOf a = some 1 →
          (∀ k, k < size → SMap.get 0 s.mem.chk (a + k) = 0) → exec (.dapMemoryRead w a size) s =
          .next (s.dapOpened.dapAnswer (s.mem.read a size)))
      ∧ (∀ b : Bytes, b.length = size → s.dapWorld w true = true →
          (s.debugDenial w a true ≠ 0 → exec (.dapMemoryWrite w a b) s =
            .next (s.dapOpened.noteDenial 31 w true true a (s.debugDenial w a true)))
          ∧ (s.debugDenial w a true = 0 → exec (.dapMemoryWrite w a b) s = .next (s.dapOpened.poke a b))) := by
  have plain : ¬ isRegister a = true := by simp [memory]
  have lies' : ¬ mapped a = false := by simp [lies]
  refine ⟨fun shut => ?_, fun may denied => ?_, fun may open' work clean => ?_, fun b length may => ⟨fun denied => ?_, fun open' => ?_⟩⟩
  · exact congrArg Host.Outcome.next ((if_pos ok).trans (State.dapRequest_refused ready shut _))
  · refine congrArg Host.Outcome.next ((if_pos ok).trans ((State.dapRequest_open ready may _).trans ?_))
    rw [State.debugRead, if_neg plain, if_neg lies']
    exact if_pos denied
  · have word : s.dapOpened.readWord a size 31 = (s.dapOpened, some (s.mem.read a size)) :=
      State.readWord_clean (s := s.dapOpened) work clean 31
    refine congrArg Host.Outcome.next ((if_pos ok).trans ((State.dapRequest_open ready may _).trans ?_))
    rw [State.debugRead, if_neg plain, if_neg lies', word]
    exact if_neg (not_not.mpr open')
  · refine congrArg Host.Outcome.next ((if_pos (length.symm ▸ ok)).trans ((State.dapRequest_open ready may _).trans ?_))
    rw [State.debugWrite, if_neg plain, if_neg lies']
    exact if_pos denied
  · refine congrArg Host.Outcome.next ((if_pos (length.symm ▸ ok)).trans ((State.dapRequest_open ready may _).trans ?_))
    rw [State.debugWrite, if_neg plain, if_neg lies']
    exact if_neg (not_not.mpr open')

/-- A debugger's access to the registers of a worker core, and its halts and steps (R440). -/
theorem debuggerRegisters {s : State} {n reg : Nat} (w : World) (v : W64) (ready : s.tapReady = true) (runs : s.coreRuns n = true)
    (known : reg < 69) (worker : n < 16) :
    (s.dapCore n w false = true → Completes (.dapRegisterRead n w reg) s fun t =>
        t.lcs.dapOut = leBytes 8 ((s.core n).dapReg w reg).toNat ∧ t.zyn = s.zyn ∧ OnlyIn [.lcs] s t)
      ∧ (s.debugHalted n = true → s.dapCore n w true = true → Completes (.dapRegisterWrite n w reg v) s fun t =>
        t.core n = (s.core n).dapSet w reg v ∧ (∀ m, m ≠ n → t.core m = s.core m) ∧ OnlyIn [.zyn, .lcs] s t)
      ∧ (s.debugHalted n = false → exec (.dapRegisterWrite n w reg v) s = .next s)
      ∧ ((s.core n).world = w → s.dapCore n w true = true → Completes (.dapHalt n w) s fun t =>
        t.lcs.halted.getLsbD n = true ∧ t.mayIssue n = false ∧ t.zyn = s.zyn ∧ OnlyIn [.lcs] s t)
      ∧ (s.debugHalted n = true → (s.core n).awake = true → (s.core n).world = w → s.dapCore n w true = true →
        exec (.dapSingleStep n w) s = .next (s.dapOpened.runWord n
          (decodeZWord (BitVec.ofNat 64 (leNat (s.mem.read (s.core n).cur.pc.toNat 8)))) false)) := by
  have fits : (s.coreRuns n && decide (reg < 69) && (isWorker n || decide (w = World.secure))) = true := by
    simp [runs, known, isWorker, worker]
  have opened : OnlyIn [.lcs] s s.dapOpened := by simp [State.dapOpened]
  refine ⟨fun may => ?_, fun halted may => ?_, fun running => ?_, fun here may => ?_, fun halted awake here may => ?_⟩
  · refine ⟨s.dapOpened.dapAnswer (leBytes 8 ((s.core n).dapReg w reg).toNat), ?_, rfl, rfl, opened.trans (by simp [State.dapAnswer])⟩
    simp only [exec, execDapRegisterRead, if_pos fits, State.dapRequest_open ready may]
    rfl
  · refine ⟨s.dapOpened.setCore n ((s.core n).dapSet w reg v), ?_, State.core_setCore_self _ _ _, fun m other => ?_,
      (opened.mono (by simp)).trans (by simp)⟩
    · simp only [exec, execDapRegisterWrite, fits, halted, Bool.and_self, if_true, State.dapRequest_open ready may]
      rfl
    · exact State.core_setCore_other _ other _
  · simp only [exec, execDapRegisterWrite, running, Bool.and_false, if_neg Bool.false_ne_true]
  · have halt : (s.dapOpened.haltCore n).lcs.halted.getLsbD n = true := by
      simp [State.haltCore, (by omega : n < 18)]
    refine ⟨s.dapOpened.haltCore n, ?_, halt, ?_, rfl, opened.trans (by simp [State.haltCore])⟩
    · simp only [exec, execDapHalt, runs, here, decide_true, Bool.and_self, if_true, State.dapRequest_open ready may]
    · rw [State.mayIssue, State.debugHalted, halt, Bool.not_true, Bool.and_false]
  · simp only [exec, execDapSingleStep, runs, halted, awake, here, decide_true, Bool.and_self, if_true, State.dapRequest_open ready may]
    rfl

/-! ## Debug enables (file 15) -/

/-- DEBUG_SECURE with SINV locks Damask and waits for the work admitted before it; without, it takes effect at once (R442). -/
theorem debugSecureStep {s : State} {c : Ceremony} {st : CerStep} {x : CerRun} (now : s.stepNow 0x0C = some (c, st, x))
    (idle : s.lcs.sinvWait = none) (operates : s.lifeCycle = 2) :
    (st.arg0.testBit 1 = true → Completes .debugSecure s fun t => t.dmk.locked = true ∧ t.dmk.keyc = []
        ∧ t.lcs.sinvWait = some (st.arg0.testBit 0) ∧ t.lcs.sinv = s.lcs.sinv
        ∧ t.lcs.sinvBefore = (s.host.admitted.map (·.req)).filter (fun y => decide (y ≠ x.req)) ∧ OnlyIn [.dmk, .lcs] s t)
      ∧ (st.arg0.testBit 1 = false → ∃ u : State, exec .debugSecure s = .next (u.finishStep c st x 0)
        ∧ u.lcs.sni = st.arg0.testBit 0 ∧ u.lcs.sinv = false ∧ u.lcs.nni = s.lcs.nni ∧ OnlyIn [.lcs, .rcd] s u) := by
  have free : ¬ s.lcs.sinvWait.isSome = true := by simp [idle]
  refine ⟨fun invasive => ?_, fun quiet => ⟨s.setDebug s.lcs.nni s.lcs.ninv (st.arg0.testBit 0) false, ?_, ?_⟩⟩
  · refine ⟨{ s.lockDamask with lcs := { s.lcs with
        sinvWait := some (st.arg0.testBit 0), sinvBefore := (s.host.admitted.map (·.req)).filter fun y => decide (y ≠ x.req) } }, ?_,
      rfl, rfl, rfl, rfl, rfl, by simp [State.lockDamask]⟩
    simp only [exec, execDebugSecure, now]
    rw [if_neg free, if_neg (not_not.mpr operates), if_pos invasive]
  · simp only [exec, execDebugSecure, now]
    rw [if_neg free, if_neg (not_not.mpr operates), if_neg (Bool.eq_false_iff.mp quiet)]
  · rw [State.setDebug_lcs]
    exact ⟨rfl, rfl, rfl, by simp⟩

/-- SINV is set once the work admitted before the step has ended; until then its work holds the step back (R442). -/
theorem debugSecureDrainedStep {s : State} {c : Ceremony} {st : CerStep} {x : CerRun} (now : s.stepNow 0x0C = some (c, st, x)) {sni : Bool}
    (waits : s.lcs.sinvWait = some sni) :
    (s.workDrained = true → ∃ u : State, exec .debugSecureDrained s = .next (u.finishStep c st x 0) ∧ u.lcs.sinv = true
        ∧ u.lcs.sni = sni ∧ u.lcs.dmkHold = true ∧ u.lcs.sinvWait = none)
      ∧ ((∃ y ∈ s.lcs.sinvBefore, s.isAdmitted y = true ∧ s.searching y = false) → exec .debugSecureDrained s = .next s) := by
  refine ⟨fun drained => ?_, fun ⟨y, mem, admitted, works⟩ => ?_⟩
  · obtain ⟨u, hu⟩ : ∃ u : State, u = { s.abortWhere s.searching 10 with
        lcs := { (s.abortWhere s.searching 10).lcs with sinvWait := none, sinvBefore := [], dmkHold := true } } := ⟨_, rfl⟩
    refine ⟨u.setDebug u.lcs.nni u.lcs.ninv sni true, ?_, ?_⟩
    · simp only [exec, execDebugSecureDrained, waits, now]
      rw [if_pos drained, hu]
    · rw [State.setDebug_lcs, hu]
      exact ⟨rfl, rfl, rfl, rfl⟩
  · have held : ¬ s.workDrained = true := by
      intro drained
      have ended := List.all_eq_true.mp drained y mem
      simp [admitted, works] at ended
    simp only [exec, execDebugSecureDrained, waits, now]
    rw [if_neg held]

/-- An LC_ADVANCE by its token: refused for the token's reason, or the transition begins (R426, R430). -/
theorem lcAdvance {s : State} {r : Req} (turn : Turn s r 0x0808) :
    let k := s.tokenReason r.bytes 1 s.cerChallenge
    (k ≠ 0 → Refuses (.lcAdvance r) s r 0x0301 0 k)
      ∧ (k = 0 → Completes (.lcAdvance r) s fun t => t.lcs.restartPending = true ∧ t.sys.mode = .locked ∧ t.bkd.l0 = none
          ∧ t.lcs.otp = s.lcs.otp.program (2 * (leAt r.bytes 6 1 - 1)) ∧ t.lcs.challenge = none) := by
  intro k
  refine ⟨fun refused => congrArg Host.Outcome.next ((turn.runs _).trans (if_pos refused)), fun accepted => ?_⟩
  obtain ⟨v, hv⟩ : ∃ v : State, v = { s with lcs := { s.lcs with challenge := none } } := ⟨_, rfl⟩
  obtain ⟨t, ht⟩ : ∃ t, t = v.beginTransition (leAt r.bytes 6 1) := ⟨_, rfl⟩
  obtain ⟨u, hu⟩ : ∃ u, u = t.answer r 0 [] := ⟨_, rfl⟩
  have runs : exec (.lcAdvance r) s = .next u.awaitRestart := by
    rw [hu, ht, hv]
    exact congrArg Host.Outcome.next ((turn.runs _).trans (if_neg (not_not.mpr accepted)))
  have answered : OnlyIn [.host, .zyn, .rcd, .blk, .fresh] t u := by simp [hu]
  obtain ⟨begun, erased⟩ := v.beginTransition_begins (leAt r.bytes 6 1)
  rw [← ht] at begun erased
  obtain ⟨mode, pending, -, otp, challenge, l0⟩ := u.awaitRestart_locks
  refine ⟨_, runs, pending, mode, ?_, ?_, ?_⟩
  · rw [l0, answered.bkd_eq, erased]
  · rw [otp, answered.lcs_eq, begun, hv]
  · rw [challenge, answered.lcs_eq, begun, hv]

/-- IDCODE shows whatever code its instruction puts out (R439). Which code that is stays with the model: a numeral that is written
out again here can be elaborated in another way than the model's. -/
theorem idcodeShows {s : State} {code : Nat}
    (runs : exec .idcode s = .next { s with lcs := { s.lcs with tap := .idcode, dapOut := leBytes 4 code } }) :
    Completes .idcode s fun t => t.lcs.tap = .idcode ∧ t.lcs.dapOut = leBytes 4 code ∧ OnlyIn [.lcs] s t :=
  ⟨_, runs, rfl, rfl, by simp⟩

/-- What the other instructions of the port do (R439). -/
theorem tapInstructions {s : State} (ready : s.tapReady = true) :
    (Completes .bypass s fun t => t.lcs.tap = .bypass ∧ OnlyIn [.lcs] s t)
      ∧ (∀ v, (s.lifeCycle = 1 → Completes (.samplePreload v) s fun t => t.lcs.boundary = v ∧ t.lcs.tap = .samplePreload
            ∧ t.lcs.dapOut = leBytes 1 s.lcs.boundary.toNat ∧ OnlyIn [.lcs] s t)
          ∧ (s.lifeCycle = 1 → Completes (.extest v) s fun t => t.lcs.boundary = v ∧ t.lcs.tap = .extest ∧ OnlyIn [.lcs] s t)
          ∧ (s.lifeCycle ≠ 1 → Completes (.extest v) s fun t => t.lcs.tap = .bypass ∧ t.lcs.boundary = s.lcs.boundary
            ∧ OnlyIn [.lcs] s t)) := by
  have shut : ¬ s.tapReady = false := by simp [ready]
  refine ⟨⟨_, congrArg Host.Outcome.next (if_pos ready), rfl, by simp⟩, fun v => ⟨fun test => ?_, fun test => ?_, fun other => ?_⟩⟩
  · exact ⟨_, congrArg Host.Outcome.next ((if_neg shut).trans (if_pos test)), rfl, rfl, rfl, by simp⟩
  · exact ⟨_, congrArg Host.Outcome.next ((if_neg shut).trans (if_pos test)), rfl, rfl, by simp⟩
  · exact ⟨_, congrArg Host.Outcome.next ((if_neg shut).trans (if_neg other)), rfl, rfl, by simp⟩

/-- Internal scan, the port's challenge and its tokens (R429, R430, R439). -/
theorem tapScanAndTokens {s : State} (ready : s.tapReady = true) :
    (s.scanOpen = true → Completes .scan s fun t => Volatile t ∧ t.boot.held = true ∧ t.lcs.scanning = true
          ∧ t.lcs.otp = s.lcs.otp ∧ t.bkd = s.bkd)
      ∧ (s.scanOpen = false → Completes .scan s fun t => t.lcs.tap = .bypass ∧ t.lcs.scanning = s.lcs.scanning ∧ OnlyIn [.lcs] s t)
      ∧ (∀ w u, s.lifeCycle = 1 → s.ent.ready = true → s.takeWords 2 = some (w, u) → Completes .tapChallenge s fun t =>
          t.lcs.portChallenge = some (wordBytes w) ∧ t.lcs.dapOut = wordBytes w ∧ OnlyIn [.lcs, .ent] s t)
      ∧ (∀ tok, s.lifeCycle = 1 → Completes (.tapToken tok) s fun t => t.lcs.portChallenge = none ∧ OnlyIn [.lcs] s t
          ∧ t.lcs.tokenReason = s.tokenReason tok 2 s.lcs.portChallenge
          ∧ (t.lcs.tokenReason = 0 → t.lcs.tokenResult = 1 ∧ t.lcs.rights = s.lcs.rights ||| BitVec.ofNat 4 (leAt tok 7 1))
          ∧ (t.lcs.tokenReason ≠ 0 → t.lcs.tokenResult = 2 ∧ t.lcs.rights = s.lcs.rights)) := by
  have shut : ¬ s.tapReady = false := by simp [ready]
  refine ⟨fun open' => ?_, fun closed => ?_, fun w u test started taken => ?_, fun tok test => ?_⟩
  · refine ⟨_, congrArg Host.Outcome.next ((if_neg shut).trans (if_pos open')), ?_, rfl, rfl, rfl, rfl⟩
    exact ⟨rfl, rfl, rfl, rfl, rfl, rfl, rfl, rfl, rfl, rfl, rfl, rfl, rfl⟩
  · exact ⟨_, congrArg Host.Outcome.next ((if_neg shut).trans (if_neg (by simp [closed]))), rfl, rfl, by simp⟩
  · obtain ⟨words, -⟩ := State.takeWords_some taken
    refine ⟨{ s with
        ent := u.ent, lcs := { s.lcs with tap := .challenge, portChallenge := some (wordBytes w), dapOut := wordBytes w } }, ?_, rfl, rfl,
      by simp⟩
    simp only [exec, execTapChallenge]
    rw [if_neg shut, if_neg (not_not.mpr test), if_neg (by simp [started])]
    simp only [State.takeWords, State.tapSelect, words]
    rfl
  · by_cases accepted : s.tokenReason tok 2 s.lcs.portChallenge = 0
    · refine ⟨_, congrArg Host.Outcome.next ((if_neg shut).trans ((if_neg (not_not.mpr test)).trans (if_pos accepted))), rfl, by simp, rfl,
        fun _ => ⟨rfl, rfl⟩, fun other => absurd accepted other⟩
    · refine ⟨_, congrArg Host.Outcome.next ((if_neg shut).trans ((if_neg (not_not.mpr test)).trans (if_neg accepted))), rfl, by simp, rfl,
        fun same => absurd same accepted, fun _ => ⟨rfl, rfl⟩⟩

/-- Settles O54: starts go by what the ROM does in them, the port's instructions by its life-cycle state, and a debugger's accesses by rights. -/
theorem lifeCycleAndDebugPort : Obligations.LifeCycleAndDebugPort := by
  refine fun s => ⟨fun r turn => lcAdvance turn, fun tgt ok on pending open' => ?resumed, fun ok on pending => ?restart, fun r turn => ?normal,
    fun c st x now idle operates => debugSecureStep now idle operates, fun c st x sni now waits => debugSecureDrainedStep now waits,
    fun who v control => ?enables, fun ready => ?port, fun ok scanning power => ?scanned,
    fun w a size ready ok memory lies => debuggerMemory w ready ok memory lies,
    fun n w reg v ready runs known worker => debuggerRegisters w v ready runs known worker⟩
  case resumed =>
    obtain ⟨mode, cause, -, -, volatile, -, resumed⟩ := s.mainStart_starts 11 ok
    obtain ⟨tgt', l0, custodians, flag⟩ := resumed tgt open'
    obtain ⟨-, keyc, -, -, -, zyn, -⟩ := volatile
    exact ⟨_, congrArg Host.Outcome.next (if_pos ⟨on, pending⟩), mode, cause, tgt', l0, custodians, flag, zyn, keyc⟩
  case restart =>
    obtain ⟨mode, cause, -, -, volatile, -, -⟩ := s.mainStart_starts 11 ok
    exact ⟨_, congrArg Host.Outcome.next (if_pos ⟨on, pending⟩), mode, cause, volatile⟩
  case normal =>
    refine ⟨s.setDebug ((r.desc.par 0 1).testBit 0) ((r.desc.par 0 1).testBit 1) s.lcs.sni s.lcs.sinv,
      congrArg Host.Outcome.next (turn.runs _), ?_⟩
    rw [State.setDebug_lcs]
    exact ⟨rfl, rfl, rfl, rfl, by simp⟩
  case enables =>
    have runs : exec (.lcsDbgenWrite who v) s = .next _ := congrArg Host.Outcome.next (State.byControl_of_inControl control _)
    refine ⟨_, runs, ?_⟩
    dsimp only
    rw [State.setDebug_lcs]
    exact ⟨rfl, rfl, rfl, rfl, by simp⟩
  case port =>
    obtain ⟨bypass, boundary⟩ := tapInstructions ready
    exact ⟨idcodeShows (congrArg Host.Outcome.next (if_pos ready)), bypass, boundary, tapScanAndTokens ready⟩
  case scanned =>
    obtain ⟨mode, cause, on, scan, volatile, otp, -⟩ := s.mainStart_starts 1 ok
    exact ⟨_, congrArg Host.Outcome.next (if_pos ⟨scanning, power⟩), mode, cause, scan, on, otp, volatile⟩

end Sys2Proof.Machine
end

section
/-! PROOFS. Lemmas and obligations: the event recorder. -/

namespace Sys2Proof.Machine

set_option Elab.async false

/-! ## Event records (file 16) -/

/-- A record's word of code, severity, source and flags is read as it was written (R444). -/
theorem recordWord {code sev source : Nat} (fw summary : Bool) (hcode : code < 2 ^ 16) (hsev : sev < 16) (hsource : source < 256) :
    let w := code + 2 ^ 16 * sev + 2 ^ 20 * source + 2 ^ 28 * flag fw + 2 ^ 29 * flag summary
    w < 2 ^ 32 ∧ bits w 0 16 = code ∧ bits w 16 4 = sev ∧ bits w 20 8 = source ∧ w.testBit 28 = fw ∧ w.testBit 29 = summary := by
  have bit (b : Bool) : flag b = b.toNat := by cases b <;> rfl
  have small (b : Bool) : b.toNat < 2 := by cases b <;> decide
  have hf := small fw
  have hs := small summary
  intro w
  have word : w = code + 2 ^ 16 * sev + 2 ^ 20 * source + 2 ^ 28 * fw.toNat + 2 ^ 29 * summary.toNat := by simp only [w, bit]
  clear_value w
  refine ⟨by omega, by simp only [bits]; omega, by simp only [bits]; omega, by simp only [bits]; omega, ?_, ?_⟩
  · have parity : w / 2 ^ 28 % 2 = fw.toNat := by omega
    rw [Nat.testBit_eq_decide_div_mod_eq, parity]
    cases fw <;> rfl
  · have parity : w / 2 ^ 29 % 2 = summary.toNat := by omega
    rw [Nat.testBit_eq_decide_div_mod_eq, parity]
    cases summary <;> rfl

theorem recordAt_bytes {x : Record} (seq : x.seq < 2 ^ 32) (code : x.code < 2 ^ 16) (sev : x.sev < 16) (source : x.source < 256)
    (optime : x.optime < 2 ^ 64) (pwrcyc : x.pwrcyc < 2 ^ 32) (p0 : x.p0 < 2 ^ 32) (p1 : x.p1 < 2 ^ 32) (p2 : x.p2 < 2 ^ 32) :
    recordAt x.bytes = x := by
  obtain ⟨fits, code', sev', source', fw', summary'⟩ := recordWord x.fw x.summary code sev source
  have word : leAt x.bytes 4 4 = x.code + 2 ^ 16 * x.sev + 2 ^ 20 * x.source + 2 ^ 28 * flag x.fw + 2 ^ 29 * flag x.summary := by
    simp (disch := simp [leBytes_length]) only [Record.bytes, leAt, slice_append_left, slice_append_end]
    exact leNat_leBytes fits
  rw [recordAt, word]
  rw [code', sev', source', fw', summary']
  simp (disch := simp [leBytes_length]) only [Record.bytes, leAt, slice_append_left, slice_append_end, slice_all]
  rw [leNat_leBytes seq, leNat_leBytes optime, leNat_leBytes pwrcyc, leNat_leBytes p0, leNat_leBytes p1, leNat_leBytes p2]

/-- An offer is filtered by its severity, queued with the next sequence number, or dropped (R447, R449). -/
theorem State.offerRecord_offers {s : State} (on : s.onMain = true) (code sev src : Nat) (fw summ : Bool) (p0 p1 p2 : Nat) :
    let u := s.offerRecord code sev src fw summ p0 p1 p2
    (sev < s.minsevFor src → sev ≠ 6 → u.rcd.filtered = satAdd 32 s.rcd.filtered 1 ∧ u.rcd.queue = s.rcd.queue ∧ u.rcd.seq = s.rcd.seq)
      ∧ (s.minsevFor src ≤ sev ∨ sev = 6 → u.rcd.seq = nextSeq s.rcd.seq
        ∧ (s.rcd.queue.length < 64 → u.rcd.queue = s.rcd.queue ++ [s.makeRecord code sev src fw summ p0 p1 p2])
        ∧ (64 ≤ s.rcd.queue.length → u.rcd.queue = s.rcd.queue ∧ u.rcd.drops = satAdd 32 s.rcd.drops 1))
      ∧ u.rcd.slots = s.rcd.slots ∧ OnlyIn [.rcd] s u := by
  intro u
  have served : ¬ s.onMain = false := by simp [on]
  by_cases minor : sev < s.minsevFor src ∧ sev ≠ 6
  · have filters : u = _ := (if_neg served).trans (if_pos minor)
    rw [filters]
    refine ⟨fun _ _ => ⟨rfl, rfl, rfl⟩, fun major => ?_, rfl, by simp⟩
    omega
  · by_cases room : s.rcd.queue.length < 64
    · have queues : u = _ := (if_neg served).trans ((if_neg minor).trans (if_pos room))
      rw [queues]
      exact ⟨fun low other => absurd ⟨low, other⟩ minor, fun _ => ⟨rfl, fun _ => rfl, fun full => absurd room (Nat.not_lt.mpr full)⟩, rfl,
        by simp⟩
    · have drops : u = _ := (if_neg served).trans ((if_neg minor).trans (if_neg room))
      rw [drops]
      exact ⟨fun low other => absurd ⟨low, other⟩ minor, fun _ => ⟨rfl, fun less => absurd less room, fun _ => ⟨rfl, rfl⟩⟩, rfl, by simp⟩

/-! ### The slot that a search or an overwriting picks (R449, R455) -/

/-- One slot in the search for the best of those that qualify: what a key keeps that no later one betters. -/
def pickSlot (p : Nat × Record → Prop) [DecidablePred p] (key : Record → Nat) (better : Nat → Nat → Prop) [DecidableRel better]
    (b : Option (Nat × Nat)) (e : Nat × Record) : Option (Nat × Nat) :=
  if p e then
    match b with
    | some (k, a) => if better (key e.2) a then some (e.1, key e.2) else some (k, a)
    | none => some (e.1, key e.2)
  else b

/-- The search picks a slot that qualifies, and none that qualifies is better. -/
theorem pickSlot_best {p : Nat × Record → Prop} [DecidablePred p] {key : Record → Nat} {better : Nat → Nat → Prop} [DecidableRel better]
    (irrefl : ∀ a, ¬ better a a) (trans : ∀ x a a', ¬ better x a → better a' a → ¬ better x a') (l : List (Nat × Record)) :
    ∀ b k a, l.foldl (pickSlot p key better) b = some (k, a) →
      (b = some (k, a) ∨ ∃ e ∈ l, e.1 = k ∧ p e ∧ key e.2 = a) ∧ (∀ d ∈ l, p d → ¬ better (key d.2) a)
        ∧ ∀ k' a', b = some (k', a') → ∀ x, ¬ better x a' → ¬ better x a := by
  induction l with
  | nil =>
    rintro b k a rfl
    refine ⟨.inl rfl, fun d mem => (nomatch mem), fun k' a' same x => ?_⟩
    obtain ⟨-, rfl⟩ := Prod.mk.inj (Option.some.inj same)
    exact id
  | cons e l ih =>
    intro b k a found
    obtain ⟨from', best, than⟩ := ih _ k a found
    by_cases qualifies : p e
    · cases b with
      | none =>
        have first : pickSlot p key better none e = some (e.1, key e.2) := if_pos qualifies
        refine ⟨.inr ?_, fun d mem good => ?_, fun k' a' same => nomatch same⟩
        · rcases from' with here | ⟨d, mem, rest⟩
          · obtain ⟨rfl, rfl⟩ := Prod.mk.inj (Option.some.inj (first.symm.trans here))
            exact ⟨e, List.mem_cons_self, rfl, qualifies, rfl⟩
          · exact ⟨d, List.mem_cons_of_mem _ mem, rest⟩
        · rcases List.mem_cons.mp mem with rfl | later
          · exact than _ _ first _ (irrefl _)
          · exact best d later good
      | some b =>
        obtain ⟨k0, a0⟩ := b
        have step : pickSlot p key better (some (k0, a0)) e = if better (key e.2) a0 then some (e.1, key e.2) else some (k0, a0) :=
          if_pos qualifies
        by_cases beats : better (key e.2) a0
        · rw [if_pos beats] at step
          refine ⟨.inr ?_, fun d mem good => ?_, fun k' a' same x not => ?_⟩
          · rcases from' with here | ⟨d, mem, rest⟩
            · obtain ⟨rfl, rfl⟩ := Prod.mk.inj (Option.some.inj (step.symm.trans here))
              exact ⟨e, List.mem_cons_self, rfl, qualifies, rfl⟩
            · exact ⟨d, List.mem_cons_of_mem _ mem, rest⟩
          · rcases List.mem_cons.mp mem with rfl | later
            · exact than _ _ step _ (irrefl _)
            · exact best d later good
          · obtain ⟨-, rfl⟩ := Prod.mk.inj (Option.some.inj same)
            exact than _ _ step x (trans x a0 _ not beats)
        · rw [if_neg beats] at step
          refine ⟨?_, fun d mem good => ?_, fun k' a' same x not => ?_⟩
          · rcases from' with here | ⟨d, mem, rest⟩
            · exact .inl (step.symm.trans here)
            · exact .inr ⟨d, List.mem_cons_of_mem _ mem, rest⟩
          · rcases List.mem_cons.mp mem with rfl | later
            · exact than _ _ step _ beats
            · exact best d later good
          · obtain ⟨-, rfl⟩ := Prod.mk.inj (Option.some.inj same)
            exact than _ _ step x not
    · have skips : pickSlot p key better b e = b := if_neg qualifies
      rw [skips] at from' than
      refine ⟨from'.imp id fun ⟨d, mem, rest⟩ => ⟨d, List.mem_cons_of_mem _ mem, rest⟩, fun d mem good => ?_, than⟩
      rcases List.mem_cons.mp mem with rfl | later
      · exact absurd good qualifies
      · exact best d later good

theorem Recorder.oldest_eq (r : Recorder) (sev : Nat) :
    r.oldest sev = (r.slots.foldl (pickSlot (fun e => e.2.sev ≤ sev) (fun x => r.age x.seq) (fun x a => a < x)) none).map (·.1) := rfl

theorem Recorder.seek_eq (r : Recorder) (q : Nat) :
    r.seek q = (r.slots.foldl (pickSlot (fun e => q ≤ e.2.seq ∧ e.2.seq ≠ 0) Record.seq (fun x a => x < a)) none).map (·.1) := rfl

/-- The oldest of the records no more severe (R449). -/
theorem Recorder.oldest_some {r : Recorder} {sev k : Nat} (found : r.oldest sev = some k) :
    ∃ e ∈ r.slots, e.1 = k ∧ e.2.sev ≤ sev ∧ ∀ d ∈ r.slots, d.2.sev ≤ sev → r.age d.2.seq ≤ r.age e.2.seq := by
  rw [Recorder.oldest_eq] at found
  obtain ⟨⟨k', a⟩, picked, rfl⟩ := Option.map_eq_some_iff.mp found
  obtain ⟨from', best, -⟩ := pickSlot_best (better := fun x a => a < x) (fun a => Nat.lt_irrefl a) (fun x a a' _ _ => by omega) _ _ _ _ picked
  rcases from' with none' | ⟨e, mem, slot, minor, age⟩
  · cases none'
  · exact ⟨e, mem, slot, minor, fun d inside low => age ▸ Nat.not_lt.mp (best d inside low)⟩

/-- The record with the lowest sequence number from a given one on (R455). -/
theorem Recorder.seek_some {r : Recorder} {q k : Nat} (found : r.seek q = some k) :
    ∃ e ∈ r.slots, e.1 = k ∧ q ≤ e.2.seq ∧ ∀ d ∈ r.slots, q ≤ d.2.seq → d.2.seq ≠ 0 → e.2.seq ≤ d.2.seq := by
  rw [Recorder.seek_eq] at found
  obtain ⟨⟨k', a⟩, picked, rfl⟩ := Option.map_eq_some_iff.mp found
  obtain ⟨from', best, -⟩ := pickSlot_best (fun a => Nat.lt_irrefl a) (fun x a a' _ _ => by omega) _ _ _ _ picked
  rcases from' with none' | ⟨e, mem, slot, ⟨after, -⟩, seq⟩
  · cases none'
  · exact ⟨e, mem, slot, after, fun d inside later used => seq ▸ Nat.not_lt.mp (best d inside ⟨later, used⟩)⟩

/-- The lowest slot that holds no record (R449). -/
theorem Recorder.emptySlot_some {r : Recorder} {k : Nat} (found : r.emptySlot = some k) :
    (SMap.get Record.empty r.slots k).seq = 0 ∧ k < 8192 ∧ ∀ j, j < k → (SMap.get Record.empty r.slots j).seq ≠ 0 := by
  unfold Recorder.emptySlot at found
  split at found
  · obtain ⟨empty, mem, before⟩ := List.find?_range_eq_some.mp found
    exact ⟨of_decide_eq_true empty, List.mem_range.mp mem, fun j lt => by simpa using before j lt⟩
  · cases found

/-! ### What the commands of the recorder do (R448–R456) -/

/-- The oldest offer takes an empty slot, or that of the oldest record no more severe, or none (R449). -/
theorem recordWrite_places {s : State} {x : Record} {rest : List Record} (queued : s.rcd.queue = x :: rest) :
    (∀ k, s.rcd.emptySlot = some k → Completes .recordWrite s fun t => SMap.get Record.empty t.rcd.slots k = x
        ∧ t.rcd.newest = k ∧ t.rcd.queue = rest ∧ t.rcd.overwrites = s.rcd.overwrites ∧ OnlyIn [.rcd] s t
        ∧ ∀ j, j ≠ k → SMap.get Record.empty t.rcd.slots j = SMap.get Record.empty s.rcd.slots j)
      ∧ (∀ k, s.rcd.emptySlot = none → s.rcd.oldest x.sev = some k → Completes .recordWrite s fun t =>
        SMap.get Record.empty t.rcd.slots k = x ∧ t.rcd.overwrites = satAdd 32 s.rcd.overwrites 1
          ∧ ∀ j, j ≠ k → SMap.get Record.empty t.rcd.slots j = SMap.get Record.empty s.rcd.slots j)
      ∧ (s.rcd.emptySlot = none → s.rcd.oldest x.sev = none → Completes .recordWrite s fun t =>
        t.rcd.slots = s.rcd.slots ∧ t.rcd.drops = satAdd 32 s.rcd.drops 1 ∧ t.rcd.queue = rest) := by
  have empty : ({ s.rcd with queue := rest } : Recorder).emptySlot = s.rcd.emptySlot := rfl
  have oldest : ({ s.rcd with queue := rest } : Recorder).oldest x.sev = s.rcd.oldest x.sev := rfl
  refine ⟨fun k some' => ?_, fun k none' some' => ?_, fun none' old => ?_⟩
  · refine ⟨{ s with rcd := ({ s.rcd with queue := rest } : Recorder).place k x }, ?_, SMap.get_set_self _ _ _ _, rfl, rfl, rfl, by simp,
      fun j other => SMap.get_set_other _ _ other _⟩
    simp only [exec, execRecordWrite, queued, empty, some']
  · refine ⟨{ s with rcd := { ({ s.rcd with queue := rest } : Recorder).place k x with overwrites := satAdd 32 s.rcd.overwrites 1 } }, ?_,
      SMap.get_set_self _ _ _ _, rfl, fun j other => SMap.get_set_other _ _ other _⟩
    simp only [exec, execRecordWrite, queued, empty, none', oldest, some']
  · refine ⟨{ s with rcd := { s.rcd with queue := rest, drops := satAdd 32 s.rcd.drops 1 } }, ?_, rfl, rfl, rfl⟩
    simp only [exec, execRecordWrite, queued, empty, none', oldest, old]

/-- Searches and firmware records of an initiator that has a bank of registers (R455, R456). -/
theorem recorderBank {s : State} {who : Initiator} {k src : Nat} (bank : recBankOf who = some (k, src)) (may : s.secureOrControl who = true) :
    (∀ q : W32, Completes (.recSeek who q) s fun t => (t.rcd.bank k).busy = true ∧ (t.rcd.bank k).found = false
        ∧ (t.rcd.bank k).target = s.rcd.seek q.toNat ∧ t.rcd.slots = s.rcd.slots ∧ OnlyIn [.rcd] s t)
      ∧ (∀ v : W32, exec (.recPost who v) s = .next (s.offerRecord (v.toNat % 65536) (min 5 (v.toNat / 65536 % 16)) src true false
        (s.rcd.bank k).postP0.toNat (s.rcd.bank k).postP1.toNat (s.rcd.bank k).postP2.toNat))
      ∧ ((s.rcd.bank k).busy = true → Completes (.seekDone who) s fun t => (t.rcd.bank k).busy = false
        ∧ (t.rcd.bank k).found = (s.rcd.bank k).target.isSome
        ∧ (∀ c, (s.rcd.bank k).target = some c → (t.rcd.bank k).cursor = c) ∧ OnlyIn [.rcd] s t) := by
  have writes (f : Nat → Nat → State → State) : s.recWrite who f = f k src s := by
    simp only [State.recWrite, bank]
    exact if_pos may
  have set (b : RecBank) : (s.setRecBank k b).rcd.bank k = b := SMap.get_set_self _ _ _ _
  refine ⟨fun q => ?_, fun v => ?_, fun busy => ?_⟩
  · refine ⟨_, congrArg Host.Outcome.next (writes _), ?_⟩
    dsimp only
    rw [set]
    exact ⟨rfl, rfl, rfl, rfl, by simp [State.setRecBank]⟩
  · refine congrArg Host.Outcome.next ((writes _).trans ?_)
    simp only [bits, Nat.shiftRight_eq_div_pow, Nat.reducePow, Nat.div_one]
  · cases target : (s.rcd.bank k).target with
    | none =>
      refine ⟨s.setRecBank k { s.rcd.bank k with busy := false, found := false }, ?_, ?_⟩
      · simp only [exec, execSeekDone, bank, target]
        rw [if_neg (by simp [busy])]
      · dsimp only
        rw [set]
        exact ⟨rfl, rfl, fun c some' => (nomatch some'), by simp [State.setRecBank]⟩
    | some c =>
      refine ⟨s.setRecBank k { s.rcd.bank k with busy := false, found := true, cursor := c, target := none }, ?_, ?_⟩
      · simp only [exec, execSeekDone, bank, target]
        rw [if_neg (by simp [busy])]
      · dsimp only
        rw [set]
        exact ⟨rfl, rfl, fun d same => Option.some.inj same, by simp [State.setRecBank]⟩

/-- The header of an unsigned export of records (R456). -/
def State.recExportHeader (s : State) (first n : Nat) : Bytes :=
  leBytes 4 0x52434552 ++ leBytes 2 1 ++ leBytes 2 (flag false) ++ leBytes 4 first ++ leBytes 2 n ++ zeros 2
    ++ leBytes 4 s.rcd.seq ++ leBytes 4 s.rcd.drops ++ bytes128 Config.deviceIdentity ++ leBytes 8 s.sys.optime
    ++ leBytes 4 s.bkd.pwrcyc ++ zeros 12

theorem State.recExportHeader_length (s : State) (first n : Nat) : (s.recExportHeader first n).length = 64 := by
  have identity (x : W128) : (bytes128 x).length = 16 := by simp [bytes128, beBytes, leBytes_length]
  simp only [State.recExportHeader, List.length_append, leBytes_length, zeros_length, identity]

/-- REC_EXPORT without an audit node answers its records in order, unsigned (R456). -/
theorem recExport_unsigned {s : State} {r : Req} (turn : Turn s r 0x0602) (unsigned : s.img.force.recorder.auditNode = 0)
    (least : 1 ≤ r.desc.par 4 2) (most : r.desc.par 4 2 ≤ 8192) (room : 196 + 32 * r.desc.par 4 2 ≤ r.desc.outLen) :
    let l := (s.rcd.sorted.filter fun x => decide (r.desc.par 0 4 ≤ x.seq)).take (r.desc.par 4 2)
    ∃ h : Bytes, h.length = 64 ∧ Answers (.recExport r) s r s l.length (h ++ l.flatMap (·.bytes)) := by
  intro l
  have keyless : s.auditKey = none := if_pos unsigned
  have exported (t : State) (n : Nat) (f : Bool → Bytes) (body : Bytes) (none' : t.auditKey = none) :
      t.answerAudit r n f body = t.answer r n (f false ++ body) := by rw [State.answerAudit, none']
  refine ⟨s.recExportHeader (r.desc.par 0 4) l.length, s.recExportHeader_length _ _, ?_⟩
  show execRecExport r s = _
  unfold execRecExport
  rw [turn.runs]
  dsimp only
  rw [if_neg (by simp only [recSlots]; omega), if_neg (by omega), exported _ _ _ _ keyless]
  rfl

/-- Settles O55: an offer by its three outcomes, a search and an overwriting by the slot that `pickSlot` keeps. -/
theorem recordsAreOfferedWrittenAndRead : Obligations.RecordsAreOfferedWrittenAndRead := by
  refine ⟨fun x seq code sev source optime pwrcyc p0 p1 p2 => ⟨recordAt_bytes seq code sev source optime pwrcyc p0 p1 p2, ?length⟩,
    fun s => ⟨fun code sev src fw summ p0 p1 p2 on => ?offers, fun x rest queued => recordWrite_places queued,
      fun k found => Recorder.emptySlot_some found, fun sev k found => Recorder.oldest_some found, fun b one counted => ?summary,
      fun code quiet => ?still, fun who k src bank may => recorderBank bank may, fun who v none' => ?drops,
      fun q k found => Recorder.seek_some found, fun r turn => congrArg Host.Outcome.next (turn.runs _),
      fun r turn unsigned least most room => recExport_unsigned turn unsigned least most room, fun r turn zero => ?empty⟩⟩
  case length => simp only [Record.bytes, List.length_append, leBytes_length]
  case offers =>
    obtain ⟨filtered, queued, slots, frame⟩ := State.offerRecord_offers on code sev src fw summ p0 p1 p2
    refine ⟨filtered, fun major => ?_, slots, frame⟩
    obtain ⟨seq, joins, drops⟩ := queued major
    exact ⟨seq, fun room => ⟨_, joins room, rfl, rfl, rfl, rfl, rfl, rfl, rfl, rfl, rfl, rfl, rfl⟩, drops⟩
  case summary =>
    simp only [exec, execSummaryInterval, one, List.filter_cons, List.filter_nil, beq_self_eq_true, bne_self_eq_false, if_true,
      List.foldl_cons, List.foldl_nil]
    rw [if_neg (Nat.ne_of_gt counted)]
    rfl
  case still =>
    have none' : (s.rcd.bursts.filter fun b => b.code == code) = [] := List.filter_eq_nil_iff.mpr fun b mem => by simpa using quiet b mem
    have all' : (s.rcd.bursts.filter fun b => b.code != code) = s.rcd.bursts := List.filter_eq_self.mpr fun b mem => by simpa using quiet b mem
    refine ⟨s, ?_, rfl, rfl, OnlyIn.refl _ s⟩
    simp only [exec, execSummaryInterval, none', all', List.foldl_nil]
  case drops => simp only [exec, execRecPost, State.recWrite, none']
  case empty =>
    exact congrArg Host.Outcome.next ((turn.runs _).trans (if_pos (.inl zero)))

end Sys2Proof.Machine
end

section
/-! PROOFS. Lemmas and obligations: the fabric. -/

namespace Sys2Proof.Machine

set_option Elab.async false

/-! ## Frames and links (file 17) -/

/-- What frames sent change: the links' counters and announcements, and the frames (R460, R467). -/
structure Sent (s t : State) : Prop where
  link (k : Nat) : t.link k = { s.link k with txCtr := (t.link k).txCtr, announce := (t.link k).announce }
  blk : t.blk = { s.blk with links := t.blk.links, frames := t.blk.frames }
  frame : OnlyIn [.blk] s t

theorem Sent.refl (s : State) : Sent s s := ⟨fun _ => rfl, rfl, OnlyIn.refl _ s⟩

theorem Sent.trans {s t u : State} (h : Sent s t) (g : Sent t u) : Sent s u :=
  ⟨fun k => by rw [g.link k, h.link k], by rw [g.blk, h.blk], h.frame.trans g.frame⟩

theorem Sent.foldl {α : Type} {f : State → α → State} (hf : ∀ u x, Sent u (f u x)) (l : List α) : ∀ s : State, Sent s (l.foldl f s) := by
  induction l with
  | nil => exact Sent.refl
  | cons x l ih => exact fun s => (hf s x).trans (ih _)

theorem Sent.sendAs (s : State) (link ftype flags dst src ttl : Nat) (b : Bytes) : Sent s (s.sendAs link ftype flags dst src ttl b) := by
  unfold State.sendAs
  extract_lets l t f
  have sent : Sent s t := by
    simp only [t]
    split
    · exact Sent.refl s
    · refine ⟨fun k => ?_, rfl, by simp⟩
      by_cases same : k = link
      · rw [same, State.link_setLink_self]
      · rw [State.link_setLink_other _ same]
  exact sent.trans ⟨fun k => rfl, rfl, by simp⟩

theorem Sent.sendFrame (s : State) (link ftype dst : Nat) (b : Bytes) : Sent s (s.sendFrame link ftype dst b) := Sent.sendAs ..

theorem Sent.floodLsa (s : State) (l : Lsa) (but : Option Nat) : Sent s (s.floodLsa l but) :=
  Sent.foldl (fun t n => Sent.sendFrame t n 0x11 0xFFFF (lsaBody l)) _ s

theorem Sent.pass (s : State) (out : Nat) (f : Frame) (b : Bytes) : Sent s (s.pass out f b) := by
  unfold State.pass
  split
  · exact Sent.refl s
  · exact Sent.sendAs ..

/-- What the advertisement of this device changes: what sending it does, and the database (R469). -/
structure FloodsOwn (s t : State) : Prop where
  link (k : Nat) : t.link k = { s.link k with txCtr := (t.link k).txCtr, announce := (t.link k).announce }
  blk : t.blk = { s.blk with links := t.blk.links, frames := t.blk.frames, lsdb := t.blk.lsdb, electDue := t.blk.electDue,
                             routesDue := t.blk.routesDue, assigned := t.blk.assigned, lsaStamp := s.blk.lsaStamp + 1 }
  frame : OnlyIn [.blk] s t

theorem State.floodOwn_floods (s : State) : FloodsOwn s s.floodOwn := by
  obtain ⟨t, ht⟩ : ∃ t, t = ({ s with blk := { s.blk with lsaStamp := s.blk.lsaStamp + 1 } } : State).storeLsa s.ownLsa := ⟨_, rfl⟩
  obtain ⟨link, blk, frame⟩ := Sent.floodLsa t s.ownLsa none
  have floods : s.floodOwn = t.floodLsa s.ownLsa none := by
    rw [ht]
    rfl
  have links (k : Nat) : t.link k = s.link k := by rw [ht]; rfl
  have stored : t.blk = { s.blk with
      lsdb := t.blk.lsdb, electDue := t.blk.electDue, routesDue := t.blk.routesDue, assigned := t.blk.assigned,
      lsaStamp := s.blk.lsaStamp + 1 } := by rw [ht]; rfl
  rw [floods]
  exact ⟨fun k => by rw [link k, links k], by rw [blk, stored], OnlyIn.trans (by simp [ht]) frame⟩

/-- Words that are there are drawn, and the rest goes on with the entropy unit that they leave (R305). -/
theorem State.drawFor_words {s : State} {n : Nat} {w : List W128} {e : Entropy} (words : s.ent.take n = some (w, e)) (c : Consumer)
    (k : Bytes → State → State) : ∃ e', s.drawFor c n k = k (wordBytes w) { s with ent := e' } := by
  refine ⟨{ e with stalled := e.stalled.filter (· ≠ c) }, ?_⟩
  simp only [State.drawFor, State.takeWords, words]

/-- A step of the handshake that takes random words sets its link and sends a frame (R464, R465). -/
theorem State.drawLink_sends {s : State} {n m : Nat} {w : List W128} {e : Entropy} (words : s.ent.take m = some (w, e)) (ty : Nat)
    (f : Bytes → State → Link) (msg : Bytes → State → Bytes) (own : ∀ e b, f b { s with ent := e } = f b s) {u : State}
    (sends : u = s.drawFor (.link n) m fun b t => (t.setLink n (f b t)).sendFrame n ty 0xFFFF (msg b t)) :
    (∃ tx announce, u.link n = { f (wordBytes w) s with txCtr := tx, announce := announce }) ∧ OnlyIn [.ent, .blk] s u := by
  obtain ⟨e', drawn⟩ := State.drawFor_words words (.link n) fun b t => (t.setLink n (f b t)).sendFrame n ty 0xFFFF (msg b t)
  obtain ⟨t, ht⟩ : ∃ t : State, t = { s with ent := e' } := ⟨_, rfl⟩
  rw [drawn, ← ht] at sends
  have sent := Sent.sendFrame (t.setLink n (f (wordBytes w) t)) n ty 0xFFFF (msg (wordBytes w) t)
  have link := sent.link n
  rw [← sends, State.link_setLink_self, ht, own] at link
  have set : OnlyIn [.ent, .blk] s (t.setLink n (f (wordBytes w) t)) := by simp [ht]
  rw [← sends] at sent
  exact ⟨⟨_, _, link⟩, set.trans (sent.frame.mono (by simp))⟩

/-- A HELLO of this device is formed and sent (R464). -/
theorem State.sayHello_says {s : State} {n : Nat} {w : List W128} {e : Entropy} (words : s.ent.take 2 = some (w, e)) :
    (∃ tx announce, (s.sayHello n).link n
        = { s.link n with hs := some (Handshake.begin (s.ownHello (wordBytes w))), txCtr := tx, announce := announce })
      ∧ OnlyIn [.ent, .blk] s (s.sayHello n) :=
  State.drawLink_sends words 0x01 (fun b t => { t.link n with hs := some (Handshake.begin (t.ownHello b)) })
    (fun b t => helloBody (t.ownHello b)) (fun _ _ => rfl) rfl

/-- A refused link has dropped its handshake and its keys, for its reason (R466). -/
theorem State.refuseLink_refuses {s : State} {n : Nat} (first : (s.link n).newkey = false) (reason : Nat) :
    ((s.refuseLink n reason).link n).state = .refused ∧ ((s.refuseLink n reason).link n).reason = reason
      ∧ ((s.refuseLink n reason).link n).hs = none ∧ ((s.refuseLink n reason).link n).keyRx = []
      ∧ OnlyIn [.blk, .rcd] s (s.refuseLink n reason) := by
  obtain ⟨t, ht⟩ : ∃ t, t = s.setLink n ((s.link n).cut .refused reason) := ⟨_, rfl⟩
  have set : OnlyIn [.blk] s t := by simp [ht]
  have refuses : ∃ a b c, s.refuseLink n reason = t.offer 0x1003 a b c := by
    rw [State.refuseLink, if_neg (by simp [first]), ht]
    exact ⟨_, _, _, rfl⟩
  obtain ⟨a, b, c, refuses⟩ := refuses
  have offered : OnlyIn [.rcd] t (t.offer 0x1003 a b c) := by simp
  have link : (t.offer 0x1003 a b c).link n = (s.link n).cut .refused reason := by
    rw [State.link, offered.blk_eq, ht]
    exact State.link_setLink_self ..
  rw [refuses, link]
  exact ⟨rfl, rfl, rfl, rfl, (set.mono (by simp)).trans (offered.mono (by simp))⟩

/-- A link that goes down drops its handshake and its keys and counts it (R473). -/
theorem State.linkDown_downs {s : State} {n : Nat} (up : (s.link n).state = .up) (cause : Nat) :
    ((s.linkDown n cause).link n).state = .down ∧ ((s.linkDown n cause).link n).reason = cause ∧ ((s.linkDown n cause).link n).keyTx = []
      ∧ ((s.linkDown n cause).link n).keyRx = [] ∧ ((s.linkDown n cause).link n).hs = none
      ∧ ((s.linkDown n cause).link n).downs = satAdd 16 (s.link n).downs 1 ∧ OnlyIn [.ent, .blk, .rcd] s (s.linkDown n cause) := by
  have frame : OnlyIn [.ent, .blk, .rcd] s (s.linkDown n cause) := by simp
  obtain ⟨l', hl⟩ : ∃ l' : Link, l' = { (s.link n).cut .down cause with downs := satAdd 16 (s.link n).downs 1 } := ⟨_, rfl⟩
  have downs : ∃ u : State, u.link n = l' ∧ s.linkDown n cause = u.floodOwn := by
    unfold State.linkDown
    extract_lets l c t lost _ _ u v
    rw [if_neg (by simp [l, up]), if_pos up]
    refine ⟨v, ?_, rfl⟩
    have offered : OnlyIn [.rcd] u v := by simp [v]
    have cut : u.link n = { c with downs := satAdd 16 l.downs 1 } :=
      (show u.link n = t.link n from rfl).trans (State.link_setLink_self s n _)
    rw [State.link, offered.blk_eq, hl]
    exact cut
  obtain ⟨u, link, downs⟩ := downs
  have sent := u.floodOwn_floods.link n
  rw [← downs, link, hl] at sent
  rw [sent]
  exact ⟨rfl, rfl, rfl, rfl, rfl, rfl, frame⟩

/-- A link that comes up has its handshake cleared, and advertises itself (R464, R469). -/
theorem State.linkUp_up (s : State) (n addr : Nat) : ((s.linkUp n addr).link n).state = .up ∧ ((s.linkUp n addr).link n).hs = none
    ∧ ((s.linkUp n addr).link n).spare = (s.link n).spare ∧ OnlyIn [.blk, .rcd] s (s.linkUp n addr) := by
  have frame : OnlyIn [.blk, .rcd] s (s.linkUp n addr) := by simp
  obtain ⟨l', hl⟩ : ∃ l' : Link, l' = { s.link n with
      state := .up, reason := 0, hs := none, missed := 0, peerAddr := if addr = 0xFFFF then none else some addr } := ⟨_, rfl⟩
  obtain ⟨t, ht⟩ : ∃ t, t = (s.setLink n l').offer 0x1001 n addr (((s.link n).peerId.map (·.toNat)).getD 0 % 2 ^ 32) := ⟨_, rfl⟩
  obtain ⟨u, hu⟩ : ∃ u : State, u = { t with blk := { t.blk with
      electDue := t.blk.electDue || decide (s.upLinks = []), routesDue := true } } := ⟨_, rfl⟩
  have rises : s.linkUp n addr = u.floodOwn := by
    rw [hu, ht, hl]
    rfl
  have offered : OnlyIn [.rcd] (s.setLink n l') t := by simp [ht]
  have link : u.link n = l' := by
    rw [hu]
    show SMap.get Link.reset t.blk.links n = l'
    rw [offered.blk_eq]
    exact State.link_setLink_self s n l'
  have sent := u.floodOwn_floods.link n
  rw [← rises, link, hl] at sent
  rw [sent]
  exact ⟨rfl, rfl, rfl, frame⟩

/-! ## Frames received (R460, R461) -/

/-- A frame of the type that a command takes, on a link that is up, is handled once its tag verifies. -/
theorem State.receive_opens {s : State} {n : Nat} {f : Frame} (on : s.onMain = true) (up : (s.link n).state = .up)
    (known : frameTypes.contains f.ftype = true) {b : Bytes} {l : Link} (opens : s.openFrame n f = some (b, l)) (k : Bytes → State → State) :
    s.receive n f f.ftype k = k b (s.setLink n l) := by
  rw [State.receive, if_neg (by simp [on, up]), if_neg fun strange => Bool.noConfusion (known.symm.trans strange),
    if_neg (not_not.mpr rfl), opens]

/-- A frame delivered here is handled in the state that its counter leaves. -/
theorem Delivered.runs {s t : State} {n : Nat} {f : Frame} {ty : Nat} (delivered : Delivered s n f ty t)
    (known : frameTypes.contains ty = true)
    (k : State → State) : s.receiveRouted n f ty k = k t := by
  obtain ⟨on, up, rfl, single, here, b, l, opens, rfl⟩ := delivered
  rw [State.receiveRouted, State.receive_opens on up known opens, State.route,
    if_neg fun group => Bool.noConfusion (single.symm.trans group)]
  exact if_pos here

/-- A frame delivered here changes its link alone. -/
theorem Delivered.link_only {s t : State} {n : Nat} {f : Frame} {ty : Nat} (delivered : Delivered s n f ty t) :
    t = { s with blk := { s.blk with links := t.blk.links } } := by
  obtain ⟨-, -, -, -, -, b, l, -, rfl⟩ := delivered
  rfl

/-! ## Advertisements (R469) -/

theorem find_putLsa (x : Lsa) (db : List Lsa) : (putLsa x db).find? (fun y => y.ident == x.ident) = some x := by
  induction db with
  | nil => simp [putLsa]
  | cons y db ih =>
    unfold putLsa
    split
    · simp
    split
    · simp
    · next other =>
      have other' : (y.ident == x.ident) = false := by simpa using fun same : y.ident = x.ident => other same.symm
      rw [List.find?_cons, other', ih]

/-! ## The handshake (R464–R466) -/

/-- An allowed link starts its handshake with a HELLO (R464). -/
theorem linkTrained {s u : State} {n : Nat} {w : List W128} (on : s.onMain = true) (allowed : s.linkAllowed n = true)
    (idle : (s.link n).state = .training ∨ (s.link n).state = .down) (few : s.handshakes < 8) (taken : s.takeWords 2 = some (w, u)) :
    Completes (.bilkinLinkTrained n) s fun t => (t.link n).state = .handshake
      ∧ (t.link n).hs = some (Handshake.begin (s.ownHello (wordBytes w))) ∧ OnlyIn [.ent, .blk] s t := by
  obtain ⟨words, -⟩ := State.takeWords_some taken
  obtain ⟨a, ha⟩ : ∃ a, a = s.setLink n { s.link n with state := .handshake, hs := none } := ⟨_, rfl⟩
  have runs : exec (.bilkinLinkTrained n) s = .next (a.sayHello n) := by
    simp only [exec, execBilkinLinkTrained]
    rw [if_neg (by simp [on, allowed])]
    rcases idle with h | h <;> simp only [h] <;> rw [if_neg (Nat.not_le.mpr few), ha]
  obtain ⟨⟨tx, announce, link⟩, said⟩ := State.sayHello_says (s := a) (n := n) (by rw [ha]; exact words)
  have hello : a.ownHello (wordBytes w) = s.ownHello (wordBytes w) := by rw [ha]; rfl
  have own : a.link n = { s.link n with state := .handshake, hs := none } := by rw [ha, State.link_setLink_self]
  have set : OnlyIn [.blk] s a := by simp [ha]
  rw [own, hello] at link
  refine ⟨_, runs, by rw [link], by rw [link], (set.mono (by simp)).trans said⟩

section
variable {s : State} {n : Nat} {x : Handshake} (shaking : s.shaking n = true) (runs : (s.link n).hs = some x)
include shaking runs

/-- A peer's HELLO that is accepted is answered with AUTH1 (R465). -/
theorem helloAccepted {h : Hello} {w : List W128} {u : State} (first : x.peer = none) (accepted : s.helloReason h = 0)
    (taken : s.takeWords 6 = some (w, u)) : Completes (.hello n h) s fun t =>
      (t.link n).hs = some (x.auth1 h (wordBytes w)) ∧ (t.link n).peerUnit = h.unit ∧ (t.link n).state = (s.link n).state
        ∧ OnlyIn [.ent, .blk, .fresh] s t := by
  obtain ⟨words, -⟩ := State.takeWords_some taken
  have done' : exec (.hello n h) s = .next (s.sendAuth1 n x h) := by
    simp only [exec, execHello, runs]
    rw [if_neg (by simp [shaking]), if_neg (by simp [first]), if_neg (not_not.mpr accepted)]
  obtain ⟨⟨tx, announce, link⟩, frame⟩ := State.drawLink_sends words 0x02 (u := s.sendAuth1 n x h)
    (fun b t => { t.link n with hs := some (x.auth1 h b), peerUnit := h.unit, peerPart := leAt h.cert 20 1 })
    (fun b _ => (x.auth1 h b).sent) (fun _ _ => rfl) rfl
  exact ⟨_, done', by rw [link], by rw [link], by rw [link], frame.mono (by simp)⟩

/-- A peer's HELLO that is not accepted refuses the link for its reason (R466). -/
theorem helloRefused {h : Hello} (first : x.peer = none) (refused : s.helloReason h ≠ 0) (fresh : (s.link n).newkey = false) :
    Completes (.hello n h) s fun t => (t.link n).state = .refused ∧ (t.link n).reason = s.helloReason h ∧ (t.link n).hs = none
      ∧ (t.link n).keyRx = [] ∧ OnlyIn [.blk, .rcd, .fresh] s t := by
  obtain ⟨a, ha⟩ : ∃ a, a = s.setLink n { s.link n with hs := some { x with peer := some h } } := ⟨_, rfl⟩
  have done' : exec (.hello n h) s = .next (a.refuseLink n (s.helloReason h)) := by
    simp only [exec, execHello, runs]
    rw [if_neg (by simp [shaking]), if_neg (by simp [first]), if_pos refused, ha]
  obtain ⟨state, reason, hs, key, frame⟩ := State.refuseLink_refuses (s := a) (n := n) (by rw [ha, State.link_setLink_self]; exact fresh)
    (s.helloReason h)
  have set : OnlyIn [.blk] s a := by simp [ha]
  exact ⟨_, done', state, reason, hs, key, (set.mono (by simp)).trans (frame.mono (by simp))⟩

/-- A peer's AUTH1 gives the secrets, and AUTH2 follows (R465). -/
theorem auth1Heard {eph kem : Bytes} {p : List W128 × State} (sent : x.sent ≠ []) (first : x.got = [])
    (point : Crypto.pointOk 0x11 eph = true)
    (length : kem.length = 1088) (taken : s.takeWords 4 = some p) : Completes (.auth1 n eph kem) s fun t =>
      (t.link n).hs = some (x.heard eph kem) ∧ OnlyIn [.ent, .blk, .fresh] s t := by
  obtain ⟨w, u⟩ := p
  obtain ⟨words, -⟩ := State.takeWords_some taken
  obtain ⟨v, hv⟩ : ∃ v, v = s.drawFor (.link n) 4 fun b t => (t.setLink n { t.link n with hs := some (x.heard eph kem) }).sendFrame n 0x03
      0xFFFF (Crypto.ecdsaSign 0x11 Config.identityKey (x.heard eph kem).digest b) := ⟨_, rfl⟩
  have done' : exec (.auth1 n eph kem) s = .next v := by
    simp only [exec, execAuth1, runs]
    rw [if_neg (by simp [shaking]), if_neg (by simp [sent, first]), if_neg (by simp [point, length]), hv]
  obtain ⟨⟨tx, announce, link⟩, frame⟩ := State.drawLink_sends words 0x03 (fun _ t => { t.link n with hs := some (x.heard eph kem) })
    (fun b _ => Crypto.ecdsaSign 0x11 Config.identityKey (x.heard eph kem).digest b) (fun _ _ => rfl) hv
  exact ⟨_, done', by rw [link], frame.mono (by simp)⟩

/-- A peer's AUTH2 refuses the link, or installs the keys of both directions (R465, R466). -/
theorem auth2Checked (sig : Bytes) (got : x.got ≠ []) (first : x.auth2Ok = false) (fresh : (s.link n).newkey = false) :
    (x.verified sig = false → Completes (.auth2 n sig) s fun t => (t.link n).state = .refused ∧ (t.link n).reason = 4
        ∧ (t.link n).hs = none ∧ (t.link n).keyRx = [] ∧ OnlyIn [.blk, .rcd, .fresh] s t)
      ∧ (x.verified sig = true → Completes (.auth2 n sig) s fun t =>
        let lower := ownLower ((x.peer.map (·.ident)).getD 0)
        (t.link n).keyTx = x.dirKey linkLabel lower ∧ (t.link n).keyRx = x.dirKey linkLabel (!lower)
          ∧ (t.link n).txCtr = 0 ∧ (t.link n).rxCtr = 0 ∧ (t.link n).peerId = x.peer.map (·.ident) ∧ OnlyIn [.blk] s t) := by
  have open' : ¬ (x.got = [] ∨ x.auth2Ok = true) := by simp [got, first]
  refine ⟨fun forged => ?_, fun verified => ?_⟩
  · have done' : exec (.auth2 n sig) s = .next (s.refuseLink n 4) := by
      simp only [exec, execAuth2, runs]
      rw [if_neg (by simp [shaking]), if_neg open', if_pos forged]
    obtain ⟨state, reason, hs, key, frame⟩ := State.refuseLink_refuses fresh 4
    exact ⟨_, done', state, reason, hs, key, frame.mono (by simp)⟩
  · have done' : exec (.auth2 n sig) s = .next (s.installKeys n x) := by
      simp only [exec, execAuth2, runs]
      rw [if_neg (by simp [shaking]), if_neg open', if_neg (by simp [verified])]
    have frame : OnlyIn [.blk] s (s.installKeys n x) := by simp
    refine ⟨_, done', ?_⟩
    obtain ⟨lower, hlower⟩ : ∃ lower, lower = ownLower ((x.peer.map (·.ident)).getD 0) := ⟨_, rfl⟩
    dsimp only
    rw [← hlower]
    have link : (s.installKeys n x).link n = { s.link n with
        keyTx := x.dirKey linkLabel lower, keyRx := x.dirKey linkLabel (!lower), txCtr := 0, rxCtr := 0, keyedAt := s.sys.optime,
        peerId := x.peer.map (·.ident), hs := some { x with auth2Ok := true } } := by
      rw [State.installKeys]
      dsimp only
      rw [if_neg (by simp [fresh]), State.link_setLink_self, hlower]
    rw [link]
    exact ⟨rfl, rfl, rfl, rfl, rfl, frame⟩

/-- The first KEEPALIVE that decrypts brings the link up (R465, R466). -/
theorem keepaliveFirst {f : Frame} {b : Bytes} {k : Link} (state : (s.link n).state = .handshake) (keyed : x.auth2Ok = true)
    (type : f.ftype = 0x10) (opens : s.openFrame n f = some (b, k)) : Completes (.keepalive n f) s fun t =>
      (t.link n).state = .up ∧ (t.link n).hs = none ∧ (t.link n).spare = leNat b ∧ OnlyIn [.blk, .rcd] s t := by
  obtain ⟨a, ha⟩ : ∃ a, a = s.setLink n { k with spare := leNat b } := ⟨_, rfl⟩
  have done' : exec (.keepalive n f) s = .next (a.linkUp n f.src) := by
    simp only [exec, execKeepalive, runs]
    rw [if_pos ⟨shaking, state⟩, if_neg (by simp [keyed, type]), opens, ha]
  obtain ⟨up, hs, spare, frame⟩ := a.linkUp_up n f.src
  have set : OnlyIn [.blk] s a := by simp [ha]
  refine ⟨_, done', up, hs, ?_, (set.mono (by simp)).trans frame⟩
  rw [spare, ha, State.link_setLink_self]

omit runs in
/-- A handshake that is not done in time refuses its link, but for one that waits for randomness (R464). -/
theorem handshakeTimesOut (fresh : (s.link n).newkey = false) (served : s.ent.stalled.contains (.link n) = false) :
    Completes (.handshakeTimeout n) s fun t => (t.link n).state = .refused ∧ (t.link n).reason = 6 ∧ (t.link n).hs = none
      ∧ (t.link n).keyRx = [] ∧ OnlyIn [.blk, .rcd, .fresh] s t := by
  obtain ⟨state, reason, hs, key, frame⟩ := State.refuseLink_refuses fresh 6
  exact ⟨_, congrArg Host.Outcome.next (if_pos ⟨shaking, served⟩), state, reason, hs, key, frame.mono (by simp)⟩

end

/-! ## Links that are up, the database and the addresses (R467–R473) -/

/-- A KEEPALIVE on a link that is up ends the count of missed ones and carries SPARE (R473, R479). -/
theorem keepaliveUp {s : State} {n : Nat} {f : Frame} {b : Bytes} {k : Link} (on : s.onMain = true) (up : (s.link n).state = .up)
    (type : f.ftype = 0x10) (opens : s.openFrame n f = some (b, k)) :
    Completes (.keepalive n f) s fun t => (t.link n).missed = 0 ∧ (t.link n).spare = leNat b ∧ (t.link n).rxCtr = k.rxCtr
      ∧ OnlyIn [.blk] s t := by
  have still : ¬ (s.shaking n = true ∧ (s.link n).state = .handshake) := by simp [up]
  have opened (g : Bytes → State → State) : s.receive n f 0x10 g = g b (s.setLink n k) := by
    rw [← type]
    exact State.receive_opens on up (by rw [type]; rfl) opens g
  have runs : exec (.keepalive n f) s = .next _ := congrArg Host.Outcome.next ((if_neg still).trans (opened _))
  refine ⟨_, runs, ?_⟩
  dsimp only
  rw [State.link_setLink_self, State.link_setLink_self]
  exact ⟨rfl, rfl, rfl, by simp⟩

/-- A KEEPALIVE that is sent counts one frame on its key (R460, R473). -/
theorem keepaliveSends {s : State} {n : Nat} (on : s.onMain = true) (keyed : (s.link n).keyTx ≠ []) :
    Completes (.keepaliveSend n) s fun t => OnlyIn [.blk, .fresh] s t ∧ (t.link n).txCtr = (s.link n).txCtr + 1
      ∧ ∃ f, t.blk.frames = f :: s.blk.frames ∧ f.link = n ∧ f.ftype = 0x10 ∧ f.payload.length = 4 := by
  obtain ⟨b, hb⟩ : ∃ b, b = leBytes 4 (s.freeNat 11) := ⟨_, rfl⟩
  have length : b.length = 4 := by rw [hb, leBytes_length]
  have runs : exec (.keepaliveSend n) s = .next ((s.skip 1).sendFrame n 0x10 0xFFFF b) := by
    rw [hb]
    exact congrArg Host.Outcome.next (if_pos ⟨on, keyed⟩)
  have one : max 1 (ceilDiv b.length 2048) = 1 := by rw [length]; rfl
  have keyed' : ¬ ((s.skip 1).link n).keyTx = [] := keyed
  refine ⟨_, runs, by simp [State.skip], ?_⟩
  rw [State.sendFrame, State.sendAs]
  dsimp only
  rw [if_neg keyed', one]
  exact ⟨congrArg Link.txCtr (State.link_setLink_self _ n _), _, rfl, rfl, rfl, length⟩

/-- A rekey that is due says HELLO again over the link (R467). -/
theorem rekeyBegins {s : State} {n : Nat} {p : List W128 × State} (on : s.onMain = true) (up : (s.link n).state = .up)
    (due : s.rekeyDue n = true) (fresh : (s.link n).newkey = false) (few : s.handshakes < 8) (taken : s.takeWords 2 = some p) :
    Completes (.rekey n true) s fun t => (t.link n).newkey = true ∧ (t.link n).state = .up ∧ (t.link n).hs.isSome = true
      ∧ OnlyIn [.ent, .blk, .fresh] s t := by
  obtain ⟨w, u⟩ := p
  obtain ⟨words, -⟩ := State.takeWords_some taken
  obtain ⟨a, ha⟩ : ∃ a, a = s.setLink n { s.link n with newkey := true } := ⟨_, rfl⟩
  have runs : exec (.rekey n true) s = .next (a.sayHello n) := by
    rw [ha]
    exact congrArg Host.Outcome.next ((if_neg (by simp [on, up])).trans ((if_pos rfl).trans (if_pos ⟨fresh, due, few⟩)))
  obtain ⟨⟨tx, announce, link⟩, said⟩ := State.sayHello_says (s := a) (n := n) (by rw [ha]; exact words)
  have own : a.link n = { s.link n with newkey := true } := by rw [ha, State.link_setLink_self]
  have set : OnlyIn [.blk] s a := by simp [ha]
  rw [own] at link
  exact ⟨_, runs, by rw [link], by rw [link]; exact up, by rw [link]; rfl, (set.mono (by simp)).trans (said.mono (by simp))⟩

/-- A newer advertisement is stored (R469). -/
theorem lsaStored {s t : State} {n : Nat} {f : Frame} {x : Lsa} (delivered : Delivered s n f 0x11 t)
    (other : x.ident ≠ Config.deviceIdentity)
    (newer : ∀ y, s.blk.lsdb.find? (fun y => y.ident == x.ident) = some y → y.stamp < x.stamp) :
    Completes (.lsa n f x) s fun u => u.blk.lsdb.find? (fun y => y.ident == x.ident) = some x ∧ OnlyIn [.blk] s u := by
  have db : t.blk.lsdb = s.blk.lsdb := by rw [delivered.link_only]
  have single : ¬ f.flags.getLsbD 1 = true := fun group => Bool.noConfusion (delivered.2.2.2.1.symm.trans group)
  obtain ⟨v, hv⟩ : ∃ v, v = (t.storeLsa x).notePeer x := ⟨_, rfl⟩
  have runs : exec (.lsa n f x) s = .next (v.floodLsa x (some n)) := by
    refine congrArg Host.Outcome.next ((delivered.runs rfl _).trans ?_)
    dsimp only
    rw [db, if_neg single, hv]
    cases found : s.blk.lsdb.find? (fun y => y.ident == x.ident) with
    | none => exact if_neg (by simp [other])
    | some y => exact if_neg (by simp [other, newer y found])
  obtain ⟨-, blk, sent⟩ := Sent.floodLsa v x (some n)
  have received : OnlyIn [.blk] s t := by
    rw [delivered.link_only]
    simp
  have stored : OnlyIn [.blk] t v := by simp [hv]
  refine ⟨_, runs, ?_, (received.trans stored).trans sent⟩
  rw [blk, hv]
  exact find_putLsa x t.blk.lsdb

/-- An advertisement that is not newer goes no further (R469). -/
theorem lsaOld {s t : State} {n : Nat} {f : Frame} {x y : Lsa} (delivered : Delivered s n f 0x11 t)
    (found : s.blk.lsdb.find? (fun y => y.ident == x.ident) = some y) (old : x.stamp ≤ y.stamp) : exec (.lsa n f x) s = .next t := by
  have db : t.blk.lsdb = s.blk.lsdb := by rw [delivered.link_only]
  refine congrArg Host.Outcome.next ((delivered.runs rfl _).trans ?_)
  dsimp only
  rw [db, found]
  exact if_pos (.inr (decide_eq_false (Nat.not_lt.mpr old)))

/-- An election that another device wins (R469). -/
theorem electionLost {s : State} (on : s.onMain = true) (due : s.blk.electDue = true) (other : s.elected ≠ some Config.deviceIdentity) :
    Completes .coordinatorElection s fun t => t.blk.coord = s.elected ∧ t.blk.electDue = false ∧ OnlyIn [.blk, .rcd] s t
      ∧ t.blk.elections = (if s.elected = s.blk.coord then s.blk.elections else satAdd 16 s.blk.elections 1) := by
  have must : ¬ (s.onMain = false ∨ s.blk.electDue = false) := by simp [on, due]
  by_cases same : s.elected = s.blk.coord
  · refine ⟨{ s with blk := { s.blk with electDue := false } }, ?_, same.symm, rfl, by simp, (if_pos same).symm⟩
    exact congrArg Host.Outcome.next ((if_neg must).trans ((if_neg other).trans (if_pos same)))
  · obtain ⟨v, hv⟩ : ∃ v : State, v = { s with blk := { s.blk with
        electDue := false, coord := s.elected, elections := satAdd 16 s.blk.elections 1 } } := ⟨_, rfl⟩
    obtain ⟨p, hp⟩ : ∃ p, p = (s.elected.bind v.addrOf).getD 0xFFFF := ⟨_, rfl⟩
    have runs : exec .coordinatorElection s = .next (v.offer 0x1004 p (satAdd 16 s.blk.elections 1) 0) := by
      rw [hp, hv]
      exact congrArg Host.Outcome.next ((if_neg must).trans ((if_neg other).trans (if_neg same)))
    have offered : OnlyIn [.rcd] v (v.offer 0x1004 p (satAdd 16 s.blk.elections 1) 0) := by simp
    have set : OnlyIn [.blk] s v := by simp [hv]
    refine ⟨_, runs, ?_, ?_, (set.mono (by simp)).trans (offered.mono (by simp)), ?_⟩
    · rw [offered.blk_eq, hv]
    · rw [offered.blk_eq, hv]
    · rw [offered.blk_eq, hv, if_neg same]

/-- The device adopts the address that the table gives it (R470). -/
theorem State.adopt_adopts {s : State} {table : List (W128 × Nat)} {a : Nat}
    (mine : table.find? (fun x => x.1 == Config.deviceIdentity) = some (Config.deviceIdentity, a)) (other : s.blk.addr ≠ some a) :
    (s.adopt table).blk.addr = some a ∧ (s.adopt table).bkd.fabricAddr = some a ∧ OnlyIn [.bkd, .blk, .rcd] s (s.adopt table) := by
  obtain ⟨u, hu⟩ : ∃ u : State, u = { s with blk := { s.blk with addr := some a }, bkd := { s.bkd with fabricAddr := some a } } := ⟨_, rfl⟩
  obtain ⟨sev, hsev⟩ : ∃ sev : Nat, sev = if s.bkd.fabricAddr.isSome ∧ s.bkd.fabricAddr ≠ some a then 4 else 2 := ⟨_, rfl⟩
  obtain ⟨v, hv⟩ : ∃ v, v = u.offerSev 0x1005 sev a (s.bkd.fabricAddr.getD 0xFFFF) 0 := ⟨_, rfl⟩
  have adopts : s.adopt table = v.floodOwn := by
    rw [State.adopt, mine]
    exact (if_neg other).trans (by rw [hv, hu, hsev])
  have set : OnlyIn [.bkd, .blk] s u := by simp [hu]
  have offered : OnlyIn [.rcd] u v := by simp [hv]
  obtain ⟨-, blk, flooded⟩ := v.floodOwn_floods
  rw [adopts]
  refine ⟨?_, ?_, ((set.mono (by simp)).trans (offered.mono (by simp))).trans (flooded.mono (by simp))⟩
  · rw [blk, offered.blk_eq, hu]
  · rw [flooded.bkd_eq, offered.bkd_eq, hu]

/-- The first ASSIGN of a database stands, and gives the device its address (R470). -/
theorem assignAdopted {s t : State} {n : Nat} {f : Frame} {table : List (W128 × Nat)} {a : Nat} (delivered : Delivered s n f 0x12 t)
    (first : s.blk.assigned = none)
    (mine : table.find? (fun x => x.1 == Config.deviceIdentity) = some (Config.deviceIdentity, a)) (other : s.blk.addr ≠ some a) :
    Completes (.assign n f table) s fun u => u.blk.addr = some a ∧ u.bkd.fabricAddr = some a ∧ OnlyIn [.bkd, .blk, .rcd] s u := by
  obtain ⟨c, hc⟩ : ∃ c, c = ((table.find? fun x => x.2 == f.src).map (·.1)).getD 0 := ⟨_, rfl⟩
  obtain ⟨s1, hs1⟩ : ∃ s1 : State, s1 = { t with blk := { t.blk with assigned := some (c, table) } } := ⟨_, rfl⟩
  obtain ⟨s2, hs2⟩ : ∃ s2, s2 = (s1.upLinks.filter (· ≠ n)).foldl (fun u m => u.pass m f (assignBody table)) s1 := ⟨_, rfl⟩
  have single : ¬ f.flags.getLsbD 1 = true := fun group => Bool.noConfusion (delivered.2.2.2.1.symm.trans group)
  have first' : t.blk.assigned = none := by rw [delivered.link_only]; exact first
  have runs : exec (.assign n f table) s = .next (s2.adopt table) := by
    refine congrArg Host.Outcome.next ((delivered.runs rfl _).trans ?_)
    dsimp only
    rw [first', if_neg single, hs2, hs1, hc]
    exact if_neg (by simp)
  have received : OnlyIn [.blk] s t := by
    rw [delivered.link_only]
    simp
  have noted : OnlyIn [.blk] t s1 := by simp [hs1]
  have sent : Sent s1 s2 := by
    rw [hs2]
    exact Sent.foldl (fun u m => Sent.pass u m f (assignBody table)) _ s1
  have addr : s2.blk.addr = s.blk.addr := by rw [sent.blk, hs1, delivered.link_only]
  obtain ⟨adopted, kept, frame⟩ := State.adopt_adopts mine (by rw [addr]; exact other)
  exact ⟨_, runs, adopted, kept, (((received.trans noted).trans sent.frame).mono (by simp)).trans frame⟩

/-- Settles O56: a link goes by the step of the handshake that it stands at, and a frame delivered by what its command does with its text. -/
theorem linksOfTheFabric : Obligations.LinksOfTheFabric := by
  intro s n l refused
  refine ⟨fun on none' => ⟨congrArg Host.Outcome.next (if_pos ⟨on, none'⟩), fun v low last => ?_, fun v low last => ?_, fun v => ?_⟩,
    fun on numbered => ?send, fun w u on allowed idle few taken => linkTrained on allowed idle few taken, fun shut => ?shut,
    fun x shaking runs => ?handshake, fun f b k on up _ type opens => keepaliveUp on up type opens,
    fun on keyed => keepaliveSends on keyed, fun on up => ?up, fun on allowed idle => ?retrain, fun f x on up type closed => ?closed,
    fun f x t delivered other newer => lsaStored delivered other newer, fun f x t y delivered found old => lsaOld delivered found old,
    fun on some' => ?periodic, fun on due other => electionLost on due other,
    fun f table a t delivered first mine other => assignAdopted delivered first mine other, fun on due => ?routes⟩
  · have mod : v % 128 = v := Nat.mod_eq_of_lt (by omega)
    simp only [exec, execChainFrameReceive, mod]
    exact congrArg Host.Outcome.next ((if_neg (by simp [on, none'])).trans ((if_neg (by simp)).trans (if_pos ⟨last, low⟩)))
  · have mod : v % 128 = v := Nat.mod_eq_of_lt low
    simp only [exec, execChainFrameReceive, mod]
    exact congrArg Host.Outcome.next ((if_neg (by simp [on, none'])).trans ((if_neg (by simp)).trans (if_neg fun both => last both.1)))
  · exact congrArg Host.Outcome.next ((if_neg (by simp [on, none'])).trans (if_pos rfl))
  case send =>
    have next : min (s.blk.unit + 1) 64 = s.blk.unit + 1 := Nat.min_eq_left numbered
    simp only [exec, execChainFrameSend, next]
    rw [if_pos ⟨on, numbered⟩]
  case shut => exact congrArg Host.Outcome.next (if_pos (.inr shut))
  case handshake =>
    exact ⟨fun h w u first accepted taken => helloAccepted shaking runs first accepted taken,
      fun h first refused fresh => helloRefused shaking runs first refused fresh,
      fun eph kem u sent first point length taken => auth1Heard shaking runs sent first point length taken,
      fun sig got first fresh => auth2Checked shaking runs sig got first fresh,
      fun f b k state keyed type opens => keepaliveFirst shaking runs state keyed type opens,
      fun served fresh => handshakeTimesOut shaking fresh served,
      fun waits => congrArg Host.Outcome.next (if_neg fun both => Bool.noConfusion (waits.symm.trans both.2))⟩
  case up =>
    have served : ¬ (s.onMain = false ∨ (s.link n).state ≠ .up) := not_or.mpr ⟨by simp [on], not_not.mpr up⟩
    refine ⟨fun few => ?_, fun many => ?_, congrArg Host.Outcome.next (if_pos on), fun cause => State.linkDown_downs up cause,
      fun u due fresh few taken => rekeyBegins on up due fresh few taken, fun rekeys => ?_⟩
    · exact congrArg Host.Outcome.next ((if_neg served).trans (if_neg (Nat.not_le.mpr (Nat.succ_lt_succ few))))
    · exact congrArg Host.Outcome.next ((if_neg served).trans (if_pos (Nat.succ_le_succ many)))
    · exact congrArg Host.Outcome.next ((if_neg served).trans ((if_neg Bool.false_ne_true).trans (if_pos (.inl rekeys))))
  case retrain => exact congrArg Host.Outcome.next (if_pos ⟨on, allowed, idle⟩)
  case closed =>
    have served : ¬ (s.onMain = false ∨ (s.link n).state ≠ .up) := not_or.mpr ⟨by simp [on], not_not.mpr up⟩
    have known : ¬ frameTypes.contains f.ftype = false := by
      rw [type]
      decide
    refine congrArg Host.Outcome.next ((if_neg served).trans ((if_neg known).trans ((if_neg (not_not.mpr type)).trans ?_)))
    rw [closed]
  case periodic =>
    obtain ⟨-, blk, frame⟩ := s.floodOwn_floods
    exact ⟨_, congrArg Host.Outcome.next (if_pos ⟨on, some'⟩), by rw [blk], frame⟩
  case routes => exact congrArg Host.Outcome.next (if_pos ⟨on, due⟩)

/-! ## What leaves a clone transfer as it is (file 17) -/

theorem Sent.sendTo (s : State) (addr ftype : Nat) (b : Bytes) : Sent s (s.sendTo addr ftype b) := by
  unfold State.sendTo
  split
  · exact Sent.sendFrame ..
  · exact Sent.refl s

theorem State.complete_clone (s : State) (r : Req) (status detail reason info outLen : Nat) (out : Bytes) :
    (s.complete r status detail reason info outLen out).blk.clone = s.blk.clone := by
  unfold State.complete
  extract_lets adm time _ s1 head c _ s2
  have reply (a id n : Nat) : (s1.replyFabric a id n c).blk.clone = s1.blk.clone := by
    unfold State.replyFabric
    extract_lets mine spilled entry head t
    have sent : Sent s1 t := Sent.sendTo ..
    show t.blk.clone = s1.blk.clone
    rw [sent.blk]
  have written (t q : Nat) (x y : Bool) : OnlyIn [.host, .rcd] s1 ((s1.writeCompletion t q x y c).settleQp t q) := by simp
  have replied : s2.blk.clone = s.blk.clone := by
    simp only [s2]
    split
    · rw [(written _ _ _ _).blk_eq]
    · rfl
    · exact reply _ _ _
  have counted : OnlyIn [.host, .rcd] s2 (s2.countRetry r.tenant detail) := by simp
  split
  · rw [counted.blk_eq, replied]
  · exact replied

theorem State.answer_clone (s : State) (r : Req) (info : Nat) (out : Bytes) : (s.answer r info out).blk.clone = s.blk.clone := by
  unfold State.answer
  split
  · exact State.complete_clone ..
  split
  · have counted : OnlyIn [.host] s (s.countDmaErr r.src) := by simp
    unfold State.refuseBuffer
    split
    · exact State.complete_clone ..
    · exact (State.complete_clone ..).trans (by rw [counted.blk_eq])
  · exact State.complete_clone ..

theorem State.linkDown_clone (s : State) (n cause : Nat) : (s.linkDown n cause).blk.clone = s.blk.clone := by
  unfold State.linkDown
  extract_lets l l' t lost _ _ u v
  have offered : OnlyIn [.rcd] u v := by simp [v]
  have told : v.blk.clone = s.blk.clone := by rw [offered.blk_eq]; rfl
  split
  · rfl
  · split
    · exact (congrArg Fabric.clone v.floodOwn_floods.blk).trans told
    · exact told

theorem State.setMode_clone (s : State) (m : Mode) (cause : Nat) : (s.setMode m cause).blk.clone = s.blk.clone := by
  have refreshed (t : State) (n : Nat) : (t.refreshLink n).blk.clone = t.blk.clone := by
    unfold State.refreshLink
    dsimp only
    split
    · split <;> rfl
    · exact t.linkDown_clone n 5
  have all' (l : List Nat) : ∀ t : State, (l.foldl (fun t n => t.refreshLink n) t).blk.clone = t.blk.clone := by
    induction l with
    | nil => exact fun t => rfl
    | cons n l ih => exact fun t => (ih _).trans (refreshed t n)
  have offered (t : State) (p q r : Nat) : OnlyIn [.rcd] t (t.offer 0x0001 p q r) := by simp
  unfold State.setMode
  split
  · rfl
  · exact (all' _ _).trans (by rw [(offered _ _ _ _).blk_eq])

theorem State.enterLocked_clone (s : State) (cause : Nat) : (s.enterLocked cause).blk.clone = none := by
  unfold State.enterLocked
  extract_lets s1 s2
  have disabled : OnlyIn [.lcs, .rcd] s1 (s1.setDebug false false false false) := by simp
  have dropped : s1.blk.clone = none := rfl
  show s2.blk.clone = none
  rw [State.setMode_clone, disabled.blk_eq, dropped]

/-- A step that completes keeps the root, and starts no transfer. -/
theorem State.finishStep_keeps (s : State) (c : Ceremony) (st : CerStep) (x : CerRun) (info : Nat) :
    (s.finishStep c st x info).bkd.l0 = s.bkd.l0 ∧ (s.blk.clone = none → (s.finishStep c st x info).blk.clone = none) := by
  unfold State.finishStep
  extract_lets t u
  have offered : OnlyIn [.lcs, .rcd] s t := by simp [t]
  have answered : OnlyIn [.host, .zyn, .rcd, .blk, .fresh] t u := by simp [u]
  have l0 : u.bkd.l0 = s.bkd.l0 := by rw [answered.bkd_eq, offered.bkd_eq]
  have clone : u.blk.clone = s.blk.clone := (State.answer_clone ..).trans (by rw [offered.blk_eq])
  split
  · refine ⟨(State.closeCeremony_l0 u).trans l0, fun none' => ?_⟩
    cases opened : u.lcs.ceremony with
    | none => simp only [State.closeCeremony, opened, clone, none']
    | some d =>
      obtain ⟨v, -, closes⟩ := State.closeCeremony_of opened
      rw [closes]
      split
      · exact State.enterLocked_clone _ 6
      · exact State.setMode_clone _ _ 6
  · exact ⟨l0, fun none' => clone.trans none'⟩

/-- The step under way goes by the ceremony alone. -/
theorem State.stepNow_congr {s t : State} (lcs : t.lcs = s.lcs) (code : Nat) : t.stepNow code = s.stepNow code := by
  simp only [State.stepNow, lcs]

/-! ## Copies sent on (R85, R481) -/

theorem find_onFirst {α : Type} {p : α → Bool} {g : α → α} {x : α} {l : List α} (found : l.find? p = some x) (still : p (g x) = true) :
    (onFirst p (fun y => [g y]) l).find? p = some (g x) := by
  induction l with
  | nil => cases found
  | cons y l ih =>
    rw [List.find?_cons] at found
    unfold onFirst
    split at found
    · next here =>
      obtain rfl := Option.some.inj found
      rw [if_pos here]
      simp [still]
    · next other =>
      rw [if_neg (by simp [other]), List.find?_cons, other]
      exact ih found

theorem length_onFirst_drop {α : Type} {p : α → Bool} {x : α} {l : List α} (found : l.find? p = some x) :
    (onFirst p (fun _ => []) l).length + 1 = l.length := by
  obtain ⟨a, b, parts, changed⟩ := onFirst_of_find (fun _ => []) found
  rw [changed, parts]
  simp
  omega

/-! ## Requests of other devices (R475–R480) -/

/-- What rejects a request of another device does not move with the link that it came over. -/
theorem Delivered.inboundRej {s t : State} {n ty : Nat} {f : Frame} (delivered : Delivered s n f ty t) (q : Req) (hash : Bytes)
    (version : Nat)
    (forwarded : Bool) : t.inboundRej q hash version forwarded = s.inboundRej q hash version forwarded := by
  rw [delivered.link_only]
  rfl

/-- A forwarded request is answered, or queued as of its tenant (R476). -/
theorem forwardedRequest {s t : State} {n : Nat} {f : Frame} (delivered : Delivered s n f 0x20 t) (id : Nat) (urg : Bool) (hash : Bytes)
    (version : Nat) (r : Req) :
    let q := Req.inbound r f.src id
    let e : FwdIn := { id := id, src := f.src, urgent := urg, hash := hash, req := q }
    let u := { t with blk := { t.blk with ins := t.blk.ins ++ [e] } }
    (∀ x, s.inboundRej q hash version true = some x → exec (.fwdReq n f id urg hash version r) s = .next (u.reject q x))
      ∧ (s.inboundRej q hash version true = none → (s.unadmitted s.blk.ins).length < 1024 →
          exec (.fwdReq n f id urg hash version r) s = .next u)
      ∧ (s.inboundRej q hash version true = none → 1024 ≤ (s.unadmitted s.blk.ins).length →
          exec (.fwdReq n f id urg hash version r) s = .next (u.refuse q 0x0101 (t.hint q) 0xB3)) := by
  intro q e u
  have waiting : t.unadmitted t.blk.ins = s.unadmitted s.blk.ins := by
    rw [delivered.link_only]
    rfl
  refine ⟨fun x rejected => ?_, fun accepted room => ?_, fun accepted full => ?_⟩
  · refine congrArg Host.Outcome.next ((delivered.runs rfl _).trans ?_)
    dsimp only
    rw [delivered.inboundRej, rejected]
  · refine congrArg Host.Outcome.next ((delivered.runs rfl _).trans ?_)
    dsimp only
    rw [delivered.inboundRej, accepted, waiting]
    exact if_neg (Nat.not_le.mpr room)
  · refine congrArg Host.Outcome.next ((delivered.runs rfl _).trans ?_)
    dsimp only
    rw [delivered.inboundRej, accepted, waiting]
    exact if_pos full

/-- The order of the checks of another device's request (R476). -/
theorem inboundChecks (s : State) (q : Req) (hash : Bytes) (version : Nat) :
    (s.sys.mode = .locked → s.inboundRej q hash version true = some ⟨0x0701, 0, 0⟩)
      ∧ (s.sys.mode = .drain → s.inboundRej q hash version true = some ⟨0x0501, 0, 0⟩)
      ∧ (s.serving = true → (s.tenant q.tenant).state ≠ .active → s.inboundRej q hash version true = some ⟨0x0801, 0, 0xB2⟩) := by
  refine ⟨fun locked => if_pos locked, fun drain => ?_, fun serves gone => ?_⟩
  · exact (if_neg (by rw [drain]; decide)).trans (if_pos drain)
  · obtain ⟨mode, -⟩ := Bool.and_eq_true _ _ ▸ serves
    have open' : s.sys.mode ≠ .locked ∧ s.sys.mode ≠ .drain := by
      constructor <;> intro other <;> rw [other] at mode <;> cases mode
    exact (if_neg open'.1).trans ((if_neg open'.2).trans (if_pos (.inl gone)))

/-- A response completes its request unchanged, and one that comes late is counted (R477). -/
theorem forwardedResponse {s t : State} {n : Nat} {f : Frame} (delivered : Delivered s n f 0x21 t) (id st de re ol info : Nat) (out : Bytes) :
    (∀ x, s.blk.outs.find? (fun x => x.id == id && x.owner == f.src) = some x →
        exec (.fwdRsp n f id st de re ol info out) s = .next ({ t with blk := { t.blk with
          outs := t.blk.outs.filter (·.id ≠ id) } }.complete x.req st de re info ol out))
      ∧ (s.blk.outs.find? (fun x => x.id == id && x.owner == f.src) = none →
        exec (.fwdRsp n f id st de re ol info out) s = .next ({ t with blk := { t.blk with
          late := satAdd 32 t.blk.late 1 } }.offer 0x1009 f.src (id % 2 ^ 32) 0)) := by
  have outs : t.blk.outs = s.blk.outs := by rw [delivered.link_only]
  refine ⟨fun x found => ?_, fun late => ?_⟩
  · refine congrArg Host.Outcome.next ((delivered.runs rfl _).trans ?_)
    rw [outs, found]
  · refine congrArg Host.Outcome.next ((delivered.runs rfl _).trans ?_)
    rw [outs, late]
    rfl

/-- A spilled command is queued, or answered BUSY where the queue is full (R480). -/
theorem spilledRequest {s t : State} {n : Nat} {f : Frame} (delivered : Delivered s n f 0x22 t) (id : Nat) (hash : Bytes) (version : Nat) (r : Req) :
    let q := Req.inbound r f.src id
    let e : FwdIn := { id := id, src := f.src, urgent := false, hash := hash, req := q }
    let u := { t with blk := { t.blk with spillIns := t.blk.spillIns ++ [e] } }
    (s.inboundRej q hash version false = none → (s.unadmitted s.blk.spillIns).length < 1024 →
        exec (.spillReq n f id hash version r) s = .next u)
      ∧ (s.inboundRej q hash version false = none → 1024 ≤ (s.unadmitted s.blk.spillIns).length →
        exec (.spillReq n f id hash version r) s = .next (u.refuse q 0x0101 0 0)) := by
  intro q e u
  have waiting : t.unadmitted t.blk.spillIns = s.unadmitted s.blk.spillIns := by
    rw [delivered.link_only]
    rfl
  refine ⟨fun accepted room => ?_, fun accepted full => ?_⟩
  · refine congrArg Host.Outcome.next ((delivered.runs rfl _).trans ?_)
    dsimp only
    rw [delivered.inboundRej, accepted, waiting]
    exact if_neg (Nat.not_le.mpr room)
  · refine congrArg Host.Outcome.next ((delivered.runs rfl _).trans ?_)
    dsimp only
    rw [delivered.inboundRej, accepted, waiting]
    exact if_pos full

/-! ## Replicas (R481) -/

theorem State.sessionData_session (s : State) (x : Session) (off : Nat) (b : Bytes) :
    (s.sessionData x off b).img.session = some { x with header := writeSlot x.header off (b.take (256 - off)) } := by
  unfold State.sessionData State.setMramSlot
  dsimp only
  split <;> rfl

theorem State.sessionData_other (s : State) (x : Session) (off : Nat) (b : Bytes) :
    (s.sessionData x off b).mramSlot (!x.slotB) = s.mramSlot (!x.slotB) := by
  unfold State.sessionData
  dsimp only
  rw [State.mramSlot_setMramSlot_other]
  rfl

/-- The first message of a replica opens a session, unless one is open or the copy is no newer (R85, R481). -/
theorem replicaMessage {s t : State} {n : Nat} {f : Frame} (delivered : Delivered s n f 0x30 t) (serves : s.serving = true)
    (seq len off : Nat)
    (data : Bytes) (last : Bool) :
    (s.img.session = none → off = 0 → s.sys.imgSeq < seq → s.bkd.seqFloor ≤ seq → len ≤ 1572864 → data.length ≤ len →
        last = false → Completes (.replica n f seq len off data last) s fun u =>
          (∃ x, u.img.session = some x ∧ x.seq = seq ∧ x.length = len ∧ x.slotB = s.targetSlotB ∧ x.replica = true)
            ∧ u.mramSlot (!s.targetSlotB) = s.mramSlot (!s.targetSlotB) ∧ OnlyIn [.img, .blk] s u)
      ∧ (∀ x, s.img.session = some x → x.replica = false → exec (.replica n f seq len off data last) s =
          .next (t.ackReplica f.src true 0x15))
      ∧ (s.img.session = none → off = 0 → seq ≤ s.sys.imgSeq → exec (.replica n f seq len off data last) s =
          .next (t.ackReplica f.src false 0x11)) := by
  have serving : ¬ t.serving = false := by
    rw [show t.serving = s.serving by rw [delivered.link_only]; rfl]
    simp [serves]
  have img : t.img = s.img := by rw [delivered.link_only]
  have sys : t.sys = s.sys := by rw [delivered.link_only]
  have bkd : t.bkd = s.bkd := by rw [delivered.link_only]
  refine ⟨fun closed start newer floor fits inside more => ?_, fun x opened own => ?_, fun closed start old => ?_⟩
  · obtain ⟨b, hb⟩ : ∃ b, b = t.targetSlotB := ⟨_, rfl⟩
    obtain ⟨x, hx⟩ : ∃ x : Session, x = { seq := seq, length := len, slotB := b, header := [], replica := true } := ⟨_, rfl⟩
    obtain ⟨v, hv⟩ : ∃ v, v = t.setMramSlot b (zeroHeader (t.mramSlot b)) := ⟨_, rfl⟩
    obtain ⟨w, hw⟩ : ∃ w, w = ({ v with img := { v.img with session := some x } } : State).sessionData x off data := ⟨_, rfl⟩
    have room : ¬ x.length < off + data.length := by
      rw [hx]
      simp only [start]
      omega
    have runs : exec (.replica n f seq len off data last) s = .next (w.ackReplica f.src false 0) := by
      refine congrArg Host.Outcome.next ((delivered.runs rfl _).trans ((if_neg serving).trans ?_))
      rw [img, closed, sys, bkd]
      refine (if_neg (not_not.mpr start)).trans ((if_neg ?_).trans ((if_neg (Nat.not_lt.mpr fits)).trans ?_))
      · exact not_or.mpr ⟨Nat.not_le.mpr newer, Nat.not_lt.mpr floor⟩
      · rw [hw, hv, hx, hb] at *
        unfold State.takeReplica
        rw [if_neg room]
        exact if_pos more
    have target : b = s.targetSlotB := by
      rw [hb, delivered.link_only]
      rfl
    have sent : Sent w (w.ackReplica f.src false 0) := Sent.sendTo ..
    have received : OnlyIn [.blk] s t := by
      rw [delivered.link_only]
      simp
    have written : OnlyIn [.img] t w := by
      rw [hw, hv]
      exact OnlyIn.sessionData (by simp) x off data (List.Subset.refl _)
    have session : w.img.session = some { x with header := writeSlot x.header off (data.take (256 - off)) } := by
      rw [hw, State.sessionData_session]
    have slot : w.mramSlot (!b) = s.mramSlot (!b) := by
      have x_slot : x.slotB = b := by rw [hx]
      have other : w.mramSlot (!b) = v.mramSlot (!b) := by
        rw [hw, ← x_slot, State.sessionData_other]
        rfl
      rw [other, hv, State.mramSlot_setMramSlot_other, State.mramSlot, img, State.mramSlot]
    refine ⟨_, runs, ⟨_, (congrArg Img.session sent.frame.img_eq).trans session, by rw [hx], by rw [hx], by rw [hx]; exact target, by rw [hx]⟩,
      ?_, ((received.mono (by simp)).trans (written.mono (by simp))).trans (sent.frame.mono (by simp))⟩
    rw [← target]
    show State.mramSlot (w.ackReplica f.src false 0) (!b) = _
    rw [State.mramSlot, sent.frame.img_eq]
    exact slot
  · refine congrArg Host.Outcome.next ((delivered.runs rfl _).trans ((if_neg serving).trans ?_))
    rw [img, opened]
    exact if_neg fun same => Bool.noConfusion (own.symm.trans same.1)
  · refine congrArg Host.Outcome.next ((delivered.runs rfl _).trans ((if_neg serving).trans ?_))
    rw [img, closed, sys]
    exact (if_neg (not_not.mpr start)).trans (if_pos (.inl old))

/-- An acknowledgement ends its transfer, leaves it for a retry, records its failure, or sends the next part (R481). -/
theorem replicaAcknowledged {s t : State} {n : Nat} {f : Frame} (delivered : Delivered s n f 0x31 t) {x : ReplicaWait} (busy : Bool)
    (reason : Nat)
    (found : s.img.replicas.find? (ReplicaWait.runsTo f.src) = some x) :
    let mine := ReplicaWait.runsTo f.src
    (busy = true → exec (.replicaAck n f busy reason) s =
        .next ((t.onReplica mine fun y => [{ y with busy := true, active := false }]).pumpReplicas 4))
      ∧ (busy = false → reason ≠ 0 → exec (.replicaAck n f busy reason) s = .next ((t.replicaFailed mine f.src reason).pumpReplicas 4))
      ∧ (busy = false → reason = 0 → x.copy.length ≤ x.off + 65536 → ∃ u : State, OnlyIn [.img] t u
          ∧ u.img.replicas.length + 1 = s.img.replicas.length
          ∧ exec (.replicaAck n f busy reason) s = .next (u.pumpReplicas 4))
      ∧ (busy = false → reason = 0 → x.off + 65536 < x.copy.length → ∃ u : State, OnlyIn [.img] t u
          ∧ u.img.replicas.find? mine = some { x with off := x.off + 65536 }
          ∧ exec (.replicaAck n f busy reason) s = .next (u.sendTo f.src 0x30 (replicaBody x.copy (x.off + 65536)))) := by
  intro mine
  have img : t.img = s.img := by rw [delivered.link_only]
  refine ⟨fun retry => ?_, fun done' failed => ?_, fun done' good whole => ?_, fun done' good part => ?_⟩
  · refine congrArg Host.Outcome.next ((delivered.runs rfl _).trans ?_)
    dsimp only
    rw [img, found]
    exact if_pos retry
  · refine congrArg Host.Outcome.next ((delivered.runs rfl _).trans ?_)
    dsimp only
    rw [img, found]
    exact (if_neg (by simp [done'])).trans (if_pos failed)
  · refine ⟨t.onReplica mine fun _ => [], by simp, ?_, ?_⟩
    · show (onFirst mine _ t.img.replicas).length + 1 = _
      rw [img]
      exact length_onFirst_drop found
    · refine congrArg Host.Outcome.next ((delivered.runs rfl _).trans ?_)
      dsimp only
      rw [img, found]
      exact (if_neg (by simp [done'])).trans ((if_neg (not_not.mpr good)).trans (if_pos whole))
  · refine ⟨t.onReplica mine fun y => [{ y with off := x.off + 65536 }], by simp, ?_, ?_⟩
    · show (onFirst mine _ t.img.replicas).find? mine = _
      rw [img]
      exact find_onFirst (g := fun y => { y with off := x.off + 65536 }) found
        (show ReplicaWait.runsTo f.src x = true from List.find?_some found)
    · refine congrArg Host.Outcome.next ((delivered.runs rfl _).trans ?_)
      dsimp only
      rw [img, found]
      exact (if_neg (by simp [done'])).trans ((if_neg (not_not.mpr good)).trans (if_neg (Nat.not_le.mpr part)))

/-! ## Clones of a root (R482, R483) -/

/-- CLONE_SEND fails where there is nothing to clone or no way to the peer, and says HELLO otherwise (R482). -/
theorem cloneSendStep {s : State} {c : Ceremony} {st : CerStep} {x : CerRun} (now : s.stepNow 0x09 = some (c, st, x)) (idle : s.blk.clone = none) :
    (s.cloneable (cloneOf st true).tenant = false ∨ s.linkTo (cloneOf st true).peer = none →
        exec .cloneSend s = .next (s.failStep c x 0xA7))
      ∧ (∀ k w u, s.cloneable (cloneOf st true).tenant = true → s.linkTo (cloneOf st true).peer = some k → s.takeWords 2 = some (w, u) →
        Completes .cloneSend s fun v => v.blk.clone = some { cloneOf st true with
          hs := some (Handshake.begin (s.ownHello (wordBytes w))) } ∧ OnlyIn [.ent, .blk] s v) := by
  refine ⟨fun unfit => ?_, fun k w u fit way taken => ?_⟩
  · have unfit' : s.cloneable (cloneOf st true).tenant = false ∨ (s.linkTo (cloneOf st true).peer).isNone = true :=
      unfit.imp id Option.isNone_iff_eq_none.mpr
    simp only [exec, execCloneSend, now, idle]
    rw [if_pos unfit']
  · obtain ⟨words, -⟩ := State.takeWords_some taken
    obtain ⟨a, ha⟩ : ∃ a, a = s.setClone (cloneOf st true) := ⟨_, rfl⟩
    obtain ⟨e', said⟩ := State.drawFor_words (s := a) (by rw [ha]; exact words) (.link 32) fun b t =>
      (t.setClone { cloneOf st true with hs := some (Handshake.begin (t.ownHello b)) }).cloneSend
        { cloneOf st true with hs := some (Handshake.begin (t.ownHello b)) } 1 (helloBody (t.ownHello b))
    obtain ⟨v, hv⟩ : ∃ v : State, v = ({ a with ent := e' } : State).setClone { cloneOf st true with
        hs := some (Handshake.begin (s.ownHello (wordBytes w))) } := ⟨_, rfl⟩
    have runs : exec .cloneSend s = .next (v.cloneSend { cloneOf st true with
        hs := some (Handshake.begin (s.ownHello (wordBytes w))) } 1 (helloBody (s.ownHello (wordBytes w)))) := by
      simp only [exec, execCloneSend, now, idle]
      rw [if_neg (by simp [fit, way]), ← ha]
      refine congrArg Host.Outcome.next (said.trans ?_)
      rw [hv, ha]
      rfl
    have sent := Sent.sendTo v (cloneOf st true).peer 0x40 (leBytes 1 1 ++ helloBody (s.ownHello (wordBytes w)))
    have set : OnlyIn [.ent, .blk] s v := by
      rw [hv, ha]
      simp [State.setClone]
    refine ⟨_, runs, ?_, set.trans (sent.frame.mono (by simp))⟩
    refine (congrArg Fabric.clone sent.blk).trans ?_
    rw [hv]
    rfl

/-- The wrapped root at the target is stored, and the transfer is over (R482). -/
theorem cloneStored {s t : State} {n : Nat} {f : Frame} {d : CloneRun} {k root body : Bytes} {stage : Nat} {c : Ceremony} {st : CerStep} {x : CerRun}
    (delivered : Delivered s n f 0x40 t) (runs : s.blk.clone = some d) (target : d.source = false) (peer : f.src = d.peer) (own : d.tenant = 0)
    (now : s.stepNow 0x0A = some (c, st, x)) (keyed : d.kclone = some k) (fourth : stage = 4) (unwraps : Crypto.kwpUnwrap k body = some root) :
    Completes (.clone n f stage body) s fun u => u.bkd.l0 = some (root.take 32) ∧ u.blk.clone = none := by
  have lcs : t.lcs = s.lcs := by rw [delivered.link_only]
  have clone : t.blk.clone = some d := by rw [delivered.link_only]; exact runs
  have under : t.cloneStep = some (c, st, x) := by
    rw [State.cloneStep, clone]
    simp only [target, if_neg Bool.false_ne_true]
    rw [State.stepNow_congr lcs, now]
  obtain ⟨a, ha⟩ : ∃ a, a = t.storeClone 0 root := ⟨_, rfl⟩
  obtain ⟨b, hb⟩ : ∃ b, b = a.cloneSend d 5 (hash8 (root.take 32)) := ⟨_, rfl⟩
  have sent : Sent a b := by
    rw [hb]
    exact Sent.sendTo ..
  have stored : a.bkd.l0 = some (root.take 32) ∧ a.lcs = t.lcs ∧ a.blk.clone = some d := by
    rw [ha]
    exact ⟨rfl, rfl, clone⟩
  obtain ⟨l0, lcsA, cloneA⟩ := stored
  have still : b.cloneStep = some (c, st, x) := by
    have cloneB : b.blk.clone = some d := (congrArg Fabric.clone sent.blk).trans cloneA
    rw [State.cloneStep, cloneB]
    simp only [target, if_neg Bool.false_ne_true]
    rw [State.stepNow_congr (sent.frame.lcs_eq.trans (lcsA.trans lcs)), now]
  obtain ⟨v, hv⟩ : ∃ v, v = b.dropClone.offer 0x100A d.peer d.tenant (flag (!d.source)) := ⟨_, rfl⟩
  have offered : OnlyIn [.rcd] b.dropClone v := by simp [hv]
  have finishes : exec (.clone n f stage body) s = .next (v.finishStep c st x 0) := by
    refine congrArg Host.Outcome.next ((delivered.runs rfl _).trans ?_)
    rw [clone]
    refine (if_neg (by simp [peer, under])).trans ((if_neg (by omega)).trans ((if_pos fourth).trans ((if_neg (by simp [target])).trans ?_)))
    rw [State.cloneHeardRoot, keyed]
    dsimp only
    rw [unwraps]
    dsimp only
    rw [own, ← ha, ← hb, State.finishClone, still, hv, own]
  obtain ⟨kept, none'⟩ := v.finishStep_keeps c st x 0
  refine ⟨_, finishes, ?_, none' ?_⟩
  · rw [kept, offered.bkd_eq]
    exact (congrArg Backup.l0 sent.frame.bkd_eq).trans l0
  · rw [offered.blk_eq]
    rfl

/-- Settles O57: a frame delivered by the request, message or stage that it carries; the rest by the branch that its command takes. -/
theorem requestsReplicasAndClones : Obligations.RequestsReplicasAndClones := by
  intro s n f t
  refine ⟨fun id urg hash version r delivered => ?forwarded, fun id st de re ol info out delivered =>
      forwardedResponse delivered id st de re ol info out, fun id x found => ?timeout, fun o k reason one => ?record,
    fun id hash version r delivered => spilledRequest delivered id hash version r, fun id busy st de re ol info out x delivered found => ?returns,
    fun id => rfl, fun seq len off data last delivered serves => replicaMessage delivered serves seq len off data last,
    fun busy reason x => ?acknowledged, fun strange delivered busy reason => ?stray, fun c st x now idle => cloneSendStep now idle,
    fun c st x now idle own => ?receive, fun d runs source fresh => ?waits, fun d k root stage body c st x delivered runs target peer own now keyed
      fourth unwraps => cloneStored delivered runs target peer own now keyed fourth unwraps,
    fun d stage body delivered runs source peer fifth under keyed checks => ?checked⟩
  case forwarded =>
    intro q e u
    obtain ⟨rejects, queues, full⟩ := forwardedRequest delivered id urg hash version r
    obtain ⟨locked, drain, gone⟩ := inboundChecks s q hash version
    exact ⟨rejects, queues, full, locked, drain, gone⟩
  case timeout =>
    refine ⟨{ s with blk := { s.blk with
      outs := s.blk.outs.filter (·.id ≠ id), unreach := satAdd 32 s.blk.unreach 1,
      unreachNow := SMap.upd (0, 0) s.blk.unreachNow x.owner fun y => (y.1 + 1, 0xB9) } }, rfl, rfl, by simp, ?_⟩
    simp only [exec, execForwardTimeout, found]
    rfl
  case record =>
    simp only [exec, execOwnerUnreachableRecord, one, List.foldl_cons, List.foldl_nil]
  case returns =>
    have outs : t.blk.spillOuts = s.blk.spillOuts := by rw [delivered.link_only]
    refine congrArg Host.Outcome.next ((delivered.runs rfl _).trans ?_)
    rw [outs, found]
  case acknowledged =>
    intro mine delivered found
    exact replicaAcknowledged delivered busy reason found
  case stray =>
    have img : t.img = s.img := by rw [delivered.link_only]
    have none' : s.img.replicas.find? (ReplicaWait.runsTo f.src) = none :=
      List.find?_eq_none.mpr fun y mem => by simp [strange y mem]
    refine congrArg Host.Outcome.next ((delivered.runs rfl _).trans ?_)
    dsimp only
    rw [img, none']
  case receive =>
    have idle' : ¬ s.blk.clone.isSome = true := by simp [idle]
    refine ⟨fun empty => ?_, fun full => ?_⟩
    · simp only [exec, execCloneReceive, now]
      rw [if_neg idle', own, if_pos rfl, empty]
      rfl
    · simp only [exec, execCloneReceive, now]
      rw [if_neg idle', own, if_pos rfl, Option.isNone_eq_false_iff.mpr (Option.isSome_iff_ne_none.mpr full)]
      rfl
  case waits =>
    simp only [exec, execCloneWaitTimeout, runs]
    rw [if_pos ⟨source, by rw [fresh]; rfl⟩]
  case checked =>
    have clone : t.blk.clone = some d := by rw [delivered.link_only]; exact runs
    have under' : t.cloneStep = s.cloneStep := by
      rw [State.cloneStep, clone, State.cloneStep, runs]
      exact State.stepNow_congr (by rw [delivered.link_only]) _
    have named : ¬ (f.src ≠ d.peer ∨ t.cloneStep.isNone = true) :=
      not_or.mpr ⟨not_not.mpr peer, by rw [under', Option.isNone_iff_eq_none]; exact under⟩
    refine congrArg Host.Outcome.next ((delivered.runs rfl _).trans ?_)
    rw [clone]
    refine (if_neg named).trans ((if_neg (by omega)).trans ((if_neg (by omega)).trans ((if_pos fifth).trans ?_)))
    rw [if_neg (by simp [source, keyed]), if_pos checks]

end Sys2Proof.Machine
end
